-- ==== Sys2Proof/Word.lean ====
section
/-!
DEFINITION. The words the part computes with: a register is 32 bits (R9-R11), a memory cell one byte (R136).
Plain arithmetic on them only; every field helper stands in Machine/Ops.lean, where a repair can mend it.
-/
namespace Sys2Proof

/-- A 32-bit register or bus word (R11). -/
abbrev Word := BitVec 32

/-- One byte of memory (R136, R155). -/
abbrev Byte := BitVec 8

/-- The word whose unsigned value is `n` modulo 2³². -/
abbrev Word.ofNat (n : Nat) : Word := BitVec.ofNat 32 n

end Sys2Proof
end

