-- ==== Sys2Proof/Syntax.lean ====
section
/-!
DEFINITION. The commands of the block: one constructor for each row of spec/opcode_table.json, in the table's order,
with the operands the manual gives the step: who writes where, and what the outside world shows at that instant. Times are not part of the
state, so a command carries the instants, levels and samples its rule computes with (notes/assumptions/1.md).
-/
namespace Sys2Proof

/-- The control-die clock domains that can stop (R132). -/
inductive ClockDomain where
  | fab | tel | pwm | adc | xspi | ox | eth | can | ddr | clkB
deriving DecidableEq, Repr

/-- What the 64 conversions of one loop-back point gave (R470): their sum, the smallest and the largest result. -/
structure LoopPoint where
  sum : Int
  min : Int
  max : Int
deriving DecidableEq, Repr

/-- An ECC error that a memory read finds (R480, R483): the codeword bit, and whether it is uncorrectable. -/
structure EccError where
  bit : Nat
  uncorr : Bool
deriving DecidableEq, Repr

/-- Where the PTP header of a frame begins, in bytes from the destination address, and whether UDP carries it (R514). -/
structure PtpPlace where
  off : Nat
  udp : Bool
deriving DecidableEq, Repr

/-- A CAN frame (R515, R529). -/
structure CanFrame where
  ide : Bool
  rtr : Bool
  fdf : Bool
  id : Nat
  brs : Bool
  esi : Bool
  dlc : Nat
  data : List Byte
deriving DecidableEq, Repr

/-- A byte of an xSPI device's array that a command has changed: its offset from 0x6000_0000 and its new value (R516). -/
structure FlashByte where
  off : Nat
  val : Byte
deriving DecidableEq, Repr

/-- What a clerk's slip asks of a memory (R506): a plain access, or one of the atomic instructions. `amo` carries the operation
(0 add, 1 swap, 2 xor, 3 or, 4 and, 5 min, 6 max, 7 minu, 8 maxu). -/
inductive SlipKind where
  | plain | lr | sc | amo (op : Nat)
deriving DecidableEq, Repr


/-- The commands. -/
inductive Instr where
  /-- POWER_ON_RESET (R86) -/
  | powerOnReset
  /-- SUPPLY_MONITOR_FALL (R85): the rail, by its bit in RSUP.SUPSTAT.GOOD -/
  | supplyMonitorFall (rail : Nat)
  /-- SUPPLY_MONITOR_GOOD (R85): the rail, by its bit in RSUP.SUPSTAT.GOOD -/
  | supplyMonitorGood (rail : Nat)
  /-- RESET_CAUSE_ARRIVE (R91): the codes of R89 whose causes arrive in this CLK_SAFE cycle -/
  | resetCauseArrive (codes : List Nat)
  /-- RESET_STRETCH_END (R92) -/
  | resetStretchEnd
  /-- RST_N_REQUEST (R93): how long the board has held the ball low, the time since the KL960 drove it last, and whether the board still holds it (R93); a level of 0 ns with the ball no longer held is its release -/
  | rstNRequest (lowNs usSinceDriven : Nat) (holds : Bool)
  /-- LOCKSTEP_MISMATCH (R90): the hart -/
  | lockstepMismatch (h : Nat)
  /-- CORE_RESET_RESTART (R508): the hart -/
  | coreResetRestart (h : Nat)
  /-- RSTREQ_CORE_RESET (R89): 1 CLK0, 2 CLK1, 3 both -/
  | rstreqCoreReset (init clerks : Nat)
  /-- RSTREQ_SYSTEM_RESET (R89) -/
  | rstreqSystemReset (init : Nat)
  /-- WDOG_KICK (R96) -/
  | wdogKick (init : Nat)
  /-- WATCHDOG_EXPIRY (R96) -/
  | watchdogExpiry (at_ : Nat)
  /-- SAFETY_INIT_COMPLETE (R435): the ROM self-test passed; bit 0: the newer stored copy fails its check value, bit 1: the older one -/
  | safetyInitComplete (pass : Bool) (bad : Nat)
  /-- CONTROL_DIE_RELEASE (R109): BOOTSEL[2:0] as sampled; the oscillator's amplitude detector is good -/
  | controlDieRelease (straps : Nat) (osc : Bool)
  /-- DAWN_SELF_TEST_END (R467): the teller, converter and checker units that failed for good (checkers 0-8 CLK0, 9-17 CLK1), how many passed on the repeat, what MEMREP shows, and whether every memory is repaired -/
  | dawnSelfTestEnd (tel conv chk : List Nat) (retried rows cols minLeft : Nat) (ok : Bool)
  /-- XSPI_RESET_RELEASE (R107) -/
  | xspiResetRelease
  /-- BOOT_IMAGE_ATTEMPT_END (R105): the bytes that UART0 has received; on xSPI the image stands in the flash -/
  | bootImageAttemptEnd (header payload : List Byte)
  /-- ADPLL_REFCFG_WRITE (R118): `pll` 0 is ADPLL-A, 1 ADPLL-B -/
  | adpllRefcfgWrite (init pll : Nat) (data : Word)
  /-- ADPLL_FCW_WRITE (R118): a write of `data` to FCW -/
  | adpllFcwWrite (init pll : Nat) (data : Word)
  /-- ADPLL_SOFT_RESET (R118): a write of `data`, with bit 1 set, to CTRL -/
  | adpllSoftReset (init pll : Nat) (data : Word)
  /-- ADPLL_LOCK_DECLARE (R120): the phase errors of the latest comparison cycles, oldest first; for ADPLL-B what the first calibration pass found -/
  | adpllLockDeclare (pll : Nat) (errs : List Int) (trims : List Nat) (worst maxErr : Nat)
  /-- ADPLL_LOCK_LOSS (R120): the phase errors of the latest comparison cycles, oldest first -/
  | adpllLockLoss (pll : Nat) (errs : List Int)
  /-- REFERENCE_LOSS (R121): the detector of that ADPLL -/
  | referenceLoss (pll : Nat)
  /-- GRACE_EXPIRY (R122): ADPLL-A's grace count -/
  | graceExpiry
  /-- ADPLL_OUTPUT_CFG_WRITE (R123): a write to OUTk_CFG -/
  | adpllOutputCfgWrite (init pll k : Nat) (data : Word)
  /-- ICAL_UPDATE (R126): what the measurement of the group's replica found -/
  | icalUpdate (group : Nat) (target : Int) (worst maxErr : Nat)
  /-- CLOCK_MONITOR_WINDOW (R134): every domain's bit -/
  | clockMonitorWindow
  /-- CLOCK_CHECK_FAIL (R114): the instant in units of 62.5 ps -/
  | clockCheckFail (at_ : Nat)
  /-- STOPPED_DOMAIN_RESTART (R132): the domain whose clock restarts -/
  | stoppedDomainRestart (dom : ClockDomain)
  /-- HEARTBEAT_LOSS (R30): the instant in units of 62.5 ps -/
  | heartbeatLoss (at_ : Nat)
  /-- AUTO_RESTART (R454) -/
  | autoRestart
  /-- REGISTER_WRITE (R9): `len` bytes; `sub` is the teller instance that issued it; `tick` the instant, in units of 62.5 ps, at which a PWM or gate page applies it, or the target cycle on another page -/
  | registerWrite (init addr len : Nat) (data : Word) (sub tick : Nat)
  /-- FABRIC_ERROR_RESPONSE (R173): `cause` as SYS.ERRINFO codes it; `sub` the teller's instance or the channel -/
  | fabricErrorResponse (init addr cause sub : Nat) (write : Bool)
  /-- PAGE_LOCK (R141): `base` is the page's base address -/
  | pageLock (init base : Nat)
  /-- PAGE_UNLOCK (R141): `base` is the page's base address -/
  | pageUnlock (init base : Nat)
  /-- PAGE_SOFT_RESET (R142): a write of `data`, with bit 1 set, to CTRL of the page at `base` -/
  | pageSoftReset (init base : Nat) (data : Word)
  /-- SOFT_RESET_COMPLETE (R142): the soft reset of the page at `base` ends -/
  | softResetComplete (base : Nat)
  /-- IFVER_SELECT (R144): a write of `data` to IFVER_SEL of the page at `base` -/
  | ifverSelect (init base : Nat) (data : Word)
  /-- TEST_KEY_TAKE (R150): the key is written -/
  | testKeyTake (init : Nat)
  /-- TEST_KEY_DROP (R149): `data` is not the key -/
  | testKeyDrop (init : Nat) (data : Word)
  /-- VERSEL_CLOSE (R144): bit 0 is written -/
  | verselClose (init : Nat)
  /-- DEBUG_OPEN (R102): the key is written -/
  | debugOpen (init : Nat)
  /-- DEBUG_CLOSE (R102): `data` is not the key -/
  | debugClose (init : Nat) (data : Word)
  /-- INTC_CLAIM (R153): a read of CLAIMctx -/
  | intcClaim (init ctx : Nat)
  /-- INTC_COMPLETE (R153): a write of `data` to CLAIMctx -/
  | intcComplete (init ctx : Nat) (data : Word)
  /-- SLIP_ISSUE (R159): `bytes` written under byte enables (none listed: all), or `len` bytes read; `cycle` is the CLK_FAB cycle of its presentation; `kind` says which instruction of a clerk it serves; `us` and `ecc` are as for SLIP_GRANT, for a clerk's access to its own tightly coupled memory -/
  | slipIssue (init addr : Nat) (write : Bool) (bytes : List Byte) (enables : List Bool) (len cycle sub us : Nat) (kind : SlipKind) (ecc : Option EccError)
  /-- SLIP_GRANT (R162): the port, the CLK_FAB cycle and the target cycle of the grant; the instant, in units of 62.5 ps, at which a PWM or gate page applies it; the IRQ_RAW bits that block events of its page set in that cycle (R143); the error that the memory read finds, and the time in µs of its log record -/
  | slipGrant (port cycle target tick us : Nat) (events : Word) (ecc : Option EccError)
  /-- SLIP_COMPLETE (R157): the slip of that tag -/
  | slipComplete (coin cycle : Nat)
  /-- SLIP_AGED (R163): the slip of that tag -/
  | slipAged (coin cycle : Nat)
  /-- SLIP_URGENT (R164): the slip of that tag; the instant -/
  | slipUrgent (coin at_ : Nat)
  /-- PERTURB_COIN_RETURN (R176): the withheld coin; the CLK_FAB cycle -/
  | perturbCoinReturn (coin cycle : Nat)
  /-- WATCH_SELECT (R158): a write of `data` to WATCHSEL -/
  | watchSelect (init : Nat) (data : Word)
  /-- TRIGGER_GROUP_FIRE (R183): the source codes (R182) whose events reach the trigger matrix in one CLK_ADC cycle; that cycle -/
  | triggerGroupFire (codes : List Nat) (cycle : Nat)
  /-- ADC_TRIG_EDGE (R184): the edge on ADC_TRIGj -/
  | adcTrigEdge (j : Nat) (rising : Bool)
  /-- SWTRIG_WRITE (R183): a write of `data` to ADCC.SWTRIG, applied in CLK_ADC cycle `cycle` -/
  | swtrigWrite (init : Nat) (data : Word) (cycle : Nat)
  /-- TRIGGER_GROUP_CFG_WRITE (R183): a write of `data` to TGk_CFG -/
  | triggerGroupCfgWrite (init k : Nat) (data : Word)
  /-- CONVERSION_END (R189): position n; the sampled input against its sense ground in nV, as its unit and as a shadowing unit see it -/
  | conversionEnd (n : Nat) (vin vinSpare : Int)
  /-- RESULT_PUSH (R190): position n; the CLK_FAB cycle of the push slip -/
  | resultPush (n cycle : Nat)
  /-- RESULT_READ (R189): a read of Cn.RESULT -/
  | resultRead (init n : Nat)
  /-- ENTRY_WRITE (R188): a write of `data` to ENTRYk_A, or ENTRYk_B where `b` -/
  | entryWrite (init n k : Nat) (b : Bool) (data : Word)
  /-- CONVERTER_DISABLE (R188): a write of 0 to Cn.CTRL -/
  | converterDisable (init n : Nat)
  /-- CONVERTER_ROTCFG_WRITE (R192): a write of `data` to ADCC.ROTCFG -/
  | converterRotcfgWrite (init : Nat) (data : Word)
  /-- CONVERTER_SHADOW_START (R193): spare position 24 or 25, and the position to shadow -/
  | converterShadowStart (spare p : Nat)
  /-- CONVERTER_HANDOVER (R195): the position that ROTSTAT names -/
  | converterHandover
  /-- CONVERTER_SHADOW_ABANDON (R196): the position that ROTSTAT names -/
  | converterShadowAbandon
  /-- PWM_ENABLE (R203): generator n; the instant, in units of 62.5 ps, at which the write is applied -/
  | pwmEnable (init n tick : Nat)
  /-- PWM_DISABLE (R204): generator n; the instant -/
  | pwmDisable (init n tick : Nat)
  /-- PWM_START (R203): START register k; the CLK_PWM edge that applies the write -/
  | pwmStart (init k : Nat) (data : Word) (tick : Nat)
  /-- PWM_PERIOD_START (R198): generator n -/
  | pwmPeriodStart (n : Nat)
  /-- FOLLOWER_REACH_PER (R207): generator n -/
  | followerReachPer (n : Nat)
  /-- PWM_COMPARE_MATCH (R199): generator n; k 0 CMP_ON, 1 CMP_OFF, 3 ADCCMP -/
  | pwmCompareMatch (n k : Nat)
  /-- DEAD_TIME_EXPIRY (R201): generator n -/
  | deadTimeExpiry (n : Nat)
  /-- SYNC_RECEIVE (R206): generator n; the sync's instant S -/
  | syncReceive (n i : Nat)
  /-- SYNC_IN_EDGE (R208): the CLK_PWM edge on which the synchronised ball edge is first seen -/
  | syncInEdge (rising : Bool) (at_ : Nat)
  /-- SYNC_OUT_PULSE_END (R208): PWM_SYNC_OUT -/
  | syncOutPulseEnd
  /-- LIVE_COMPARE_WRITE (R210): `sub` is the issuing teller instance; live register k (0 CMP_ON, 1 CMP_OFF, 2 PHASE, 3 ADCCMP); the instant at which the write becomes active -/
  | liveCompareWrite (init sub n k : Nat) (data : Word) (tick : Nat)
  /-- SHADOW_WRITE (R212): shadow register k (0 PER, 1 CMPON, 2 CMPOFF, 3 PHASE, 4 ADCCMP, 5 DT) -/
  | shadowWrite (init n k : Nat) (data : Word)
  /-- PWM_COMMIT (R213): a write of `data` to COMMIT; the instant at which it becomes active -/
  | pwmCommit (init : Nat) (data : Word) (tick : Nat)
  /-- TRIP_CFG_WRITE (R217): a write of `data` to TRIPCFG; the levels of TRIP_IN0-7 on that edge; its instant -/
  | tripCfgWrite (init n : Nat) (data : Word) (tripIn tick : Nat)
  /-- TRIP_INPUT_ACTIVE (R218): generator n; the instant; the levels of TRIP_IN0-7 -/
  | tripInputActive (n at_ tripIn : Nat)
  /-- TRIP_INPUT_INACTIVE (R217): generator n; the instant; the levels of TRIP_IN0-7 -/
  | tripInputInactive (n at_ tripIn : Nat)
  /-- TRIP_FORCE (R218): a write of `data`, with FORCE set, to TRIPCTL -/
  | tripForce (init n : Nat) (data : Word) (tick : Nat)
  /-- PWMC_FORCE (R218): a write of `data` to FORCE register k -/
  | pwmcForce (init k : Nat) (data : Word) (tick : Nat)
  /-- TRIP_CLEAR (R220): a write of `data`, with CLR set, to TRIPCTL -/
  | tripClear (init n : Nat) (data : Word) (tick : Nat)
  /-- GATE_VETO_ASSERT (R236): the instant -/
  | gateVetoAssert (at_ : Nat)
  /-- GATE_VETO_RELEASE (R32) -/
  | gateVetoRelease
  /-- GATE_GROUP_ENABLE (R235): group g; the instant at which the write is applied -/
  | gateGroupEnable (init g tick : Nat)
  /-- GATE_GROUP_DISABLE (R234): group g; the instant at which the write is applied -/
  | gateGroupDisable (init g tick : Nat)
  /-- SHUTDOWN_PHASE2 (R234): group g; the instant -/
  | shutdownPhase2 (g at_ : Nat)
  /-- SHUTDOWN_PHASE3 (R234): group g; the instant -/
  | shutdownPhase3 (g at_ : Nat)
  /-- HB_ENABLE (R232): half-bridge n; the instant at which the write is applied -/
  | hbEnable (init n tick : Nat)
  /-- HB_DISABLE (R232): half-bridge n; the instant at which the write is applied -/
  | hbDisable (init n tick : Nat)
  /-- INTERLOCK_EXPIRY (R224): half-bridge n; the instant in units of 62.5 ps -/
  | interlockExpiry (n at_ : Nat)
  /-- BOTH_ON_COMMAND (R225): half-bridge n; the instant -/
  | bothOnCommand (n at_ : Nat)
  /-- FAULT_BALL_ASSERT (R229): half-bridge n; the instant; `low` false: the ball is released again, which only changes its level -/
  | faultBallAssert (n at_ : Nat) (low : Bool)
  /-- OVERCURRENT_ASSERT (R229): half-bridge n; the instant -/
  | overcurrentAssert (n at_ : Nat)
  /-- BLANKING_WINDOW_END (R228): half-bridge n; the instant -/
  | blankingWindowEnd (n at_ : Nat)
  /-- RETRY_WAIT_END (R230): half-bridge n; the instant -/
  | retryWaitEnd (n at_ : Nat)
  /-- TRY_RESET_TIMER (R231): half-bridge n -/
  | tryResetTimer (n : Nat)
  /-- AUX_ENABLE (R241): a write of 1 to CTRL of AUX -/
  | auxEnable (init : Nat)
  /-- AUX_PRECHARGE_END (R241): phase n -/
  | auxPrechargeEnd (n : Nat)
  /-- AUX_PERIOD_START (R241): the common counter -/
  | auxPeriodStart
  /-- AUX_DUTY_MATCH (R241): phase n -/
  | auxDutyMatch (n : Nat)
  /-- HALL_CODE_CHANGE (R242): the stable code -/
  | hallCodeChange (h : Nat)
  /-- BOOTSTRAP_UV (R243): phase n -/
  | bootstrapUv (n : Nat)
  /-- AUX_OVERCURRENT (R243): AX_CS outside blanking -/
  | auxOvercurrent
  /-- AUX_OC_CLEAR (R243): whether AX_CS is above the threshold -/
  | auxOcClear (init : Nat) (above : Bool)
  /-- COMPARATOR_CROSSING (R250): WCn, or PC(n - 48); the input in nV after the crossing; whether the CLK_SAFE synchroniser catches the level -/
  | comparatorCrossing (n : Nat) (vin : Int) (seen : Bool)
  /-- COMPARATOR_ENABLE (R251): a write of `data` with EN set to the comparator's CFG; the input in nV -/
  | comparatorEnable (init n : Nat) (data : Word) (vin : Int)
  /-- FIRST_DECISION_END (R251): the comparator and its input in nV -/
  | firstDecisionEnd (n : Nat) (vin : Int)
  /-- THRESHOLD_WRITE (R249): a write of `data` to the comparator's CFG; the input in nV -/
  | thresholdWrite (init n : Nat) (data : Word) (vin : Int)
  /-- COMPARATOR_CHECK_START (R254): a write of `data` with GO set to CHECK of WCMP, or of PCMP where `pc` -/
  | comparatorCheckStart (init : Nat) (pc : Bool) (data : Word)
  /-- COMPARATOR_CHECK_END (R255): what the elements showed, as CHKSTAT.SEEN has it; the input in nV after it -/
  | comparatorCheckEnd (pc : Bool) (seen : Nat) (vin : Int)
  /-- PUSH_ARRIVAL (R260): position n; the CLK_TEL cycle -/
  | pushArrival (n cycle : Nat)
  /-- KICK_WRITE (R260): a write of `data` to Tn.KICK in CLK_TEL cycle `cycle` -/
  | kickWrite (init n : Nat) (data : Word) (cycle : Nat)
  /-- INSTANCE_START (R261): the unit of position n; the time and cycle of a log record -/
  | instanceStart (n us cycle : Nat)
  /-- BUNDLE_STALL_END (R306): position n; the CLK_FAB cycle of a slip that issues; whether the fixed stall has ended -/
  | bundleStallEnd (n cycle : Nat) (fixedEnds : Bool)
  /-- INSTANCE_ENABLE (R264): a write of `data` with EN set to INSTi_CFG of Tn -/
  | instanceEnable (init n i : Nat) (data : Word)
  /-- INSTANCE_DISABLE (R263): a write of `data` with EN clear to INSTi_CFG of Tn -/
  | instanceDisable (init n i : Nat) (data : Word)
  /-- LIBRARY_WRITE (R258): the bytes written from `addr` -/
  | libraryWrite (init addr : Nat) (bytes : List Byte)
  /-- PG_X_WRITE (R270): a write of `data` to PGk_X -/
  | pgXWrite (init k : Nat) (data : Word)
  /-- TELLER_ROTCFG_WRITE (R271): a write of `data` to TELC.ROTCFG -/
  | tellerRotcfgWrite (init : Nat) (data : Word)
  /-- TELLER_ROTATION_START (R272): the position and the spare position -/
  | tellerRotationStart (p q : Nat)
  /-- TELLER_COPY_END (R272): the position that ROTSTAT names -/
  | tellerCopyEnd
  /-- TELLER_SHADOW_MISMATCH (R274): the position that ROTSTAT names -/
  | tellerShadowMismatch
  /-- TELLER_HANDOVER (R273): the position that ROTSTAT names -/
  | tellerHandover
  /-- TELLER_ROTATION_ABANDON (R275): the position that ROTSTAT names -/
  | tellerRotationAbandon
  /-- TELLER_UNIT_ERROR (R276): unit u -/
  | tellerUnitError (u : Nat)
  /-- NOP (R282): position n; slot 0 M0, 1 M1, 2 L, 3 C; the syllable -/
  | opNop (n slot : Nat) (w : Word)
  /-- MAC (R288): position n; slot M1 or M0; the syllable -/
  | opMac (n : Nat) (m1 : Bool) (w : Word)
  /-- MSU (R288): position n; slot M1 or M0; the syllable -/
  | opMsu (n : Nat) (m1 : Bool) (w : Word)
  /-- MUL (R288): position n; slot M1 or M0; the syllable -/
  | opMul (n : Nat) (m1 : Bool) (w : Word)
  /-- ACCLD (R288): position n; slot M1 or M0; the syllable -/
  | opAccld (n : Nat) (m1 : Bool) (w : Word)
  /-- MOVA (R288): position n; slot M1 or M0; the syllable -/
  | opMova (n : Nat) (m1 : Bool) (w : Word)
  /-- ACCCLR (R288): position n; slot M1 or M0; the syllable -/
  | opAccclr (n : Nat) (m1 : Bool) (w : Word)
  /-- MOV (R288): position n; slot M1 or M0; the syllable -/
  | opMov (n : Nat) (m1 : Bool) (w : Word)
  /-- ADD (R288): position n; slot M1 or M0; the syllable -/
  | opAdd (n : Nat) (m1 : Bool) (w : Word)
  /-- ADDS (R288): position n; slot M1 or M0; the syllable -/
  | opAdds (n : Nat) (m1 : Bool) (w : Word)
  /-- SUB (R288): position n; slot M1 or M0; the syllable -/
  | opSub (n : Nat) (m1 : Bool) (w : Word)
  /-- SUBS (R288): position n; slot M1 or M0; the syllable -/
  | opSubs (n : Nat) (m1 : Bool) (w : Word)
  /-- NEG (R288): position n; slot M1 or M0; the syllable -/
  | opNeg (n : Nat) (m1 : Bool) (w : Word)
  /-- ABS (R288): position n; slot M1 or M0; the syllable -/
  | opAbs (n : Nat) (m1 : Bool) (w : Word)
  /-- MIN (R288): position n; slot M1 or M0; the syllable -/
  | opMin (n : Nat) (m1 : Bool) (w : Word)
  /-- MAX (R288): position n; slot M1 or M0; the syllable -/
  | opMax (n : Nat) (m1 : Bool) (w : Word)
  /-- AND (R288): position n; slot M1 or M0; the syllable -/
  | opAnd (n : Nat) (m1 : Bool) (w : Word)
  /-- OR (R288): position n; slot M1 or M0; the syllable -/
  | opOr (n : Nat) (m1 : Bool) (w : Word)
  /-- XOR (R288): position n; slot M1 or M0; the syllable -/
  | opXor (n : Nat) (m1 : Bool) (w : Word)
  /-- SHL (R288): position n; slot M1 or M0; the syllable -/
  | opShl (n : Nat) (m1 : Bool) (w : Word)
  /-- SHRA (R288): position n; slot M1 or M0; the syllable -/
  | opShra (n : Nat) (m1 : Bool) (w : Word)
  /-- SHRL (R288): position n; slot M1 or M0; the syllable -/
  | opShrl (n : Nat) (m1 : Bool) (w : Word)
  /-- MULQ (R288): position n; slot M1 or M0; the syllable -/
  | opMulq (n : Nat) (m1 : Bool) (w : Word)
  /-- CLAMP (R288): position n; slot M1 or M0; the syllable -/
  | opClamp (n : Nat) (m1 : Bool) (w : Word)
  /-- MOVI (R288): position n; slot M1 or M0; the syllable -/
  | opMovi (n : Nat) (m1 : Bool) (w : Word)
  /-- MOVIH (R288): position n; slot M1 or M0; the syllable -/
  | opMovih (n : Nat) (m1 : Bool) (w : Word)
  /-- BIQ (R290): position n; the syllable in M0 -/
  | opBiq (n : Nat) (w : Word)
  /-- CLARKE (R291): position n; the syllable in M0 -/
  | opClarke (n : Nat) (w : Word)
  /-- ICLARKE (R291): position n; the syllable in M0 -/
  | opIclarke (n : Nat) (w : Word)
  /-- PARK (R292): position n; the syllable in M0 -/
  | opPark (n : Nat) (w : Word)
  /-- IPARK (R292): position n; the syllable in M0 -/
  | opIpark (n : Nat) (w : Word)
  /-- QMAC (R294): position n; slot M1 or M0; the syllable -/
  | opQmac (n : Nat) (m1 : Bool) (w : Word)
  /-- QMSU (R294): position n; slot M1 or M0; the syllable -/
  | opQmsu (n : Nat) (m1 : Bool) (w : Word)
  /-- QMUL (R294): position n; slot M1 or M0; the syllable -/
  | opQmul (n : Nat) (m1 : Bool) (w : Word)
  /-- QACCLD (R294): position n; slot M1 or M0; the syllable -/
  | opQaccld (n : Nat) (m1 : Bool) (w : Word)
  /-- QMOVA (R294): position n; slot M1 or M0; the syllable -/
  | opQmova (n : Nat) (m1 : Bool) (w : Word)
  /-- PACK (R294): position n; slot M1 or M0; the syllable -/
  | opPack (n : Nat) (m1 : Bool) (w : Word)
  /-- UNPK (R294): position n; slot M1 or M0; the syllable -/
  | opUnpk (n : Nat) (m1 : Bool) (w : Word)
  /-- QADDS (R294): position n; slot M1 or M0; the syllable -/
  | opQadds (n : Nat) (m1 : Bool) (w : Word)
  /-- QSUBS (R294): position n; slot M1 or M0; the syllable -/
  | opQsubs (n : Nat) (m1 : Bool) (w : Word)
  /-- QBIQ (R294): position n; the syllable in M0 -/
  | opQbiq (n : Nat) (w : Word)
  /-- QCLARKE (R294): position n; the syllable in M0 -/
  | opQclarke (n : Nat) (w : Word)
  /-- QICLARKE (R294): position n; the syllable in M0 -/
  | opQiclarke (n : Nat) (w : Word)
  /-- QPARK (R294): position n; the syllable in M0 -/
  | opQpark (n : Nat) (w : Word)
  /-- QIPARK (R294): position n; the syllable in M0 -/
  | opQipark (n : Nat) (w : Word)
  /-- LDW (R297): position n; the syllable in L; the error that the read finds, and the time and cycle of its log record -/
  | opLdw (n : Nat) (w : Word) (us cycle : Nat) (ecc : Option EccError)
  /-- STW (R297): position n; the syllable in L -/
  | opStw (n : Nat) (w : Word)
  /-- LDQ (R297): position n; the syllable in L; the error that the read finds, and the time and cycle of its log record -/
  | opLdq (n : Nat) (w : Word) (us cycle : Nat) (ecc : Option EccError)
  /-- STQ (R297): position n; the syllable in L -/
  | opStq (n : Nat) (w : Word)
  /-- LDIN (R298): position n; the syllable in L -/
  | opLdin (n : Nat) (w : Word)
  /-- LDDEP (R298): position n; the syllable in L; the error that the read finds, and the time and cycle of its log record -/
  | opLddep (n : Nat) (w : Word) (us cycle : Nat) (ecc : Option EccError)
  /-- OUT (R299): position n; the syllable in L; the CLK_FAB cycle of its slip -/
  | opOut (n : Nat) (w : Word) (cycle : Nat)
  /-- PUSH (R299): position n; the syllable in L; the CLK_FAB cycle of its slip -/
  | opPush (n : Nat) (w : Word) (cycle : Nat)
  /-- FWR (R300): position n; the syllable in L; the CLK_FAB cycle of its slip -/
  | opFwr (n : Nat) (w : Word) (cycle : Nat)
  /-- TRIG (R299): position n; the syllable in L; the CLK_FAB cycle of its slip -/
  | opTrig (n : Nat) (w : Word) (cycle : Nat)
  /-- FRD (R300): position n; the syllable in L; the CLK_FAB cycle of its slip -/
  | opFrd (n : Nat) (w : Word) (cycle : Nat)
  /-- PGSTEP (R301): position n; the syllable in L -/
  | opPgstep (n : Nat) (w : Word)
  /-- FENCE (R300): position n; the syllable in L -/
  | opFence (n : Nat) (w : Word)
  /-- END (R302): position n; the syllable in C -/
  | opEnd (n : Nat) (w : Word)
  /-- BR (R305): position n; the syllable in C -/
  | opBr (n : Nat) (w : Word)
  /-- LOOP (R304): position n; the syllable in C -/
  | opLoop (n : Nat) (w : Word)
  /-- CMP (R302): position n; the syllable in C -/
  | opCmp (n : Nat) (w : Word)
  /-- CMPI (R302): position n; the syllable in C -/
  | opCmpi (n : Nat) (w : Word)
  /-- PSET (R302): position n; the syllable in C -/
  | opPset (n : Nat) (w : Word)
  /-- PLOG (R302): position n; the syllable in C -/
  | opPlog (n : Nat) (w : Word)
  /-- PSAT (R302): position n; the syllable in C -/
  | opPsat (n : Nat) (w : Word)
  /-- SETTLEMENT_ENABLE (R317): a write of 1 to CTRL -/
  | settlementEnable (init : Nat)
  /-- SETTLEMENT_PERIOD_START (R317): the period's time has passed -/
  | settlementPeriodStart
  /-- ENGINE_DEPOSIT (R324): the engine: 48 settlement, 49 MPPT, 50 grid; the CLK_FAB cycle -/
  | engineDeposit (init cycle : Nat)
  /-- VBUS_WRITE (R319): a write of `data` to VBUS -/
  | vbusWrite (init : Nat) (data : Word)
  /-- ACCOUNT_ENABLE (R323): a write of `data` with EN set to ACCTk_CFG -/
  | accountEnable (init k : Nat) (data : Word)
  /-- ACCOUNT_DISABLE (R323): a write of `data` with EN clear to ACCTk_CFG -/
  | accountDisable (init k : Nat) (data : Word)
  /-- CONTINGENCY_FORCE (R327): a write with FORCE set to CONTCTL; whether it sets CLR too -/
  | contingencyForce (init : Nat) (clr : Bool)
  /-- CONTINGENCY_CLEAR (R329): a write of CLR alone to CONTCTL -/
  | contingencyClear (init : Nat)
  /-- MPPT_ENABLE (R340): a write of 1 to MPm.CTRL -/
  | mpptEnable (init m : Nat)
  /-- MPPT_SAMPLE (R332): a write of `data` to MPm.IIN -/
  | mpptSample (init m : Nat) (data : Word)
  /-- MPPT_STEP (R333): channel m; whole seconds since its last scan ended -/
  | mpptStep (m secs : Nat)
  /-- SCAN_TIMER_DUE (R337): channel m -/
  | scanTimerDue (m : Nat)
  /-- SCAN_REQUEST (R337): a write of 1 to MPm.SCANREQ -/
  | scanRequest (init m : Nat)
  /-- GRID_ENABLE (R342): a write of 1 to GSYNC.CTRL; CLK_FAB cycles from the last sample's stamp to this edge -/
  | gridEnable (init age : Nat)
  /-- GRID_SAMPLE (R341): a write of `data` to GSYNC.IC -/
  | gridSample (init : Nat) (data : Word)
  /-- GRID_STEP (R342): CLK_FAB cycles from the stamp of the last sample before the step to its start -/
  | gridStep (age : Nat)
  /-- GRID_INPUT_LOSS (R342): the engine is in a step -/
  | gridInputLoss
  /-- SEQUENCE_ERROR (R345): the engine is in a step -/
  | sequenceError
  /-- GRID_SYNC_SET (R348): the engine is in a step -/
  | gridSyncSet
  /-- FAST_DIP_DETECT (R357): the engine is in a step -/
  | fastDipDetect
  /-- EXCURSION_END (R358): the engine is in a step -/
  | excursionEnd
  /-- GRID_STAGE_ACT (R360): stage j: UV0-UV3, OV0-OV3, UF0-UF3, OF0-OF3 -/
  | gridStageAct (j : Nat)
  /-- ROCOF_ISLAND (R361): the engine is in a step -/
  | rocofIsland
  /-- VECTOR_SHIFT_ISLAND (R361): the engine is in a step -/
  | vectorShiftIsland
  /-- PROBE_WINDOW_END (R364): the engine is in a step -/
  | probeWindowEnd
  /-- TRIP_FLAG_CLEAR (R366): a write of 1 to GFRT.CLR -/
  | tripFlagClear (init : Nat)
  /-- ISLAND_FLAG_CLEAR (R366): a write of 1 to GISL.CLR -/
  | islandFlagClear (init : Nat)
  /-- TABLE_APPLY (R369): a write of 1 to GTAB.APPLY -/
  | tableApply (init : Nat)
  /-- GRID_STATUS_TRANSFER (R449) -/
  | gridStatusTransfer
  /-- GRID_STATUS_TIMEOUT (R449) -/
  | gridStatusTimeout
  /-- METROLOGY_SAMPLE (R383): of each channel 0-14 the 512 words, oldest first, in Q1.31 of full scale, that its modulator gives in the 125 µs of the sample (R372); `clip` bit c: channel c's raw sample stood at an end of the modulator range -/
  | metrologySample (mods : List (List Word)) (clip : Nat)
  /-- PULSE_WIDTH_END (R390): output MPULSEn -/
  | pulseWidthEnd (n : Nat)
  /-- AC_CYCLE_END (R382): the fundamental of the source voltage at the last metrology sample and at the next one, between which it crosses zero (R376); without a source they do not matter -/
  | acCycleEnd (y0 y1 : Word)
  /-- METER_BLOCK_END (R377): an AC block, else a DC block; MTEMP in 0.01 °C -/
  | meterBlockEnd (ac : Bool) (temp : Word)
  /-- MELOSKERN_BROWNOUT (R392): `dt`: time since the last command that carries it, 2⁻¹⁶ s; VSTORE in mV; the commit ended within VDD_M's hold-up -/
  | meloskernBrownout (dt vst : Nat) (ok : Bool)
  /-- MELOSKERN_START (R405): `dt` in 2⁻¹⁶ s; the level of SEAL -/
  | meloskernStart (dt : Nat) (level : Bool)
  /-- MRAM_COMMIT (R394): `dt` in 2⁻¹⁶ s; the copy was written whole -/
  | mramCommit (dt : Nat) (ok : Bool)
  /-- CLOCK_RATIO_WINDOW (R395): `dt` in 2⁻¹⁶ s; the window's deviations from nominal in ppm: of CLK_M to CLK_NW, and of CLK_M and CLK_NW to the RC oscillator (a stopped clock deviates by 1,000,000) -/
  | clockRatioWindow (dt ratio mOff nwOff : Nat)
  /-- LEDGER_POLL (R399): `dt` in 2⁻¹⁶ s -/
  | ledgerPoll (dt : Nat)
  /-- POLL_TIMEOUT (R399): `dt` in 2⁻¹⁶ s -/
  | pollTimeout (dt : Nat)
  /-- CONTROL_DIE_LOSS (R35): `dt` in 2⁻¹⁶ s; 50 ms have passed without a valid poll response -/
  | controlDieLoss (dt : Nat)
  /-- MAILBOX_DOORBELL (R400): a write of PEND alone -/
  | mailboxDoorbell (init : Nat)
  /-- MAILBOX_CANCEL (R401): a write of CANCEL; whether it sets PEND too -/
  | mailboxCancel (init : Nat) (pend : Bool)
  /-- MIRROR_STALE (R403) -/
  | mirrorStale
  /-- REPLY_POSTED (R402) -/
  | replyPosted
  /-- MBX_NOP (R404) -/
  | mbxNop
  /-- SESSION_OPEN (R415) -/
  | sessionOpen
  /-- SESSION_CLOSE (R416) -/
  | sessionClose
  /-- LEDGER_READ (R408) -/
  | ledgerRead
  /-- EXPORT (R409) -/
  | ledgerExport
  /-- TIME_SET (R425) -/
  | timeSet
  /-- COMM_BEGIN (R421) -/
  | commBegin
  /-- COMM_WRITE (R422) -/
  | commWrite
  /-- COMM_COMMIT (R423) -/
  | commCommit
  /-- COMM_ABORT (R424) -/
  | commAbort
  /-- KEYGEN (R418) -/
  | keygen
  /-- SESSION_TAIL_SIGN (R417) -/
  | sessionTailSign
  /-- INTERVAL_BOUNDARY (R414): `dt` in 2⁻¹⁶ s -/
  | intervalBoundary (dt : Nat)
  /-- SEAL_CHANGE (R420): `dt` in 2⁻¹⁶ s; the level of SEAL that has held for 100 ms -/
  | sealChange (dt : Nat) (level : Bool)
  /-- NIGHTWATCH_START (R426): `dt` in 2⁻¹⁶ s -/
  | nightwatchStart (dt : Nat)
  /-- NIGHTWATCH_DEATH (R426): `dt` in 2⁻¹⁶ s -/
  | nightwatchDeath (dt : Nat)
  /-- VOC_MEASURE (R427): the measured V_OC in mV -/
  | vocMeasure (voc : Nat)
  /-- CHARGE_LIMIT_REACHED (R427): VSTORE in mV -/
  | chargeLimitReached (vst : Nat)
  /-- GAUGE_UPDATE (R428): `dt` in 2⁻¹⁶ s; VSTORE in mV -/
  | gaugeUpdate (dt vst : Nat)
  /-- TAMPER_SAMPLE (R430): loop 0 or 1; `dt` in 2⁻¹⁶ s; VSTORE in mV; the level of TAMPn_SNS before the pulse and at its end -/
  | tamperSample (loop dt vst : Nat) (pre post : Bool)
  /-- QUEUE_TRANSFER (R431): `dt` in 2⁻¹⁶ s -/
  | queueTransfer (dt : Nat)
  /-- SAFETY_CYCLE (R436): the instant; KMIR0-11 and LKFB0-3, one bit each, as filtered; the readbacks of Kn_HG and Kn_LG; a check of R437 has failed that only the unit itself sees: an output readback of SAFE_OK or GATE_VETO, an ECC error, Curfew's parameter check value -/
  | safetyCycle (at_ kmir lkfb hgRb lgRb : Nat) (fault : Bool)
  /-- CHANNEL_DISAGREEMENT (R437): the instant -/
  | channelDisagreement (at_ : Nat)
  /-- SAFETY_INPUT_CHANGE (R438): the instant; 0-6: ESTOP_A, ESTOP_B, DOOR_A, DOOR_B, IMD_A, IMD_B, SRST; taken by Curfew, else by the safety processor; the level taken -/
  | safetyInputChange (at_ input : Nat) (cur level : Bool)
  /-- INPUT_DISCREPANCY (R438): the instant; 0 ESTOP, 1 DOOR, 2 IMD -/
  | inputDiscrepancy (at_ f : Nat)
  /-- CLAIMED_COMPARATOR_STOP (R439): the instant; PCn -/
  | claimedComparatorStop (at_ n : Nat)
  /-- WC_LINE_STOP (R439): WCn -/
  | wcLineStop (n : Nat)
  /-- SAFETY_CONVERSION_ROUND (R440): the instant; the 33 codes of the round, SAIN0-15, K0_CS-K11_CS, LOCK0_CS-LOCK3_CS, the reference -/
  | safetyConversionRound (at_ : Nat) (codes : List Nat)
  /-- SAFETY_RESET_PRESS (R442): the press as each channel's own clock has measured it, ms -/
  | safetyResetPress (spMs curMs : Nat)
  /-- PRESENCE_WINDOW_END (R458) -/
  | presenceWindowEnd
  /-- COIL_CURRENT_TIMEOUT (R445): channel n, 50 ms after Kn_LG on -/
  | coilCurrentTimeout (n : Nat)
  /-- MIRROR_TIMEOUT (R447): channel n, TMIRROR after Kn_LG on or after its opening -/
  | mirrorTimeout (n : Nat)
  /-- CONTACTOR_TEST_PULSE (R446): channel n; the Kn_CS code before the pulse; Curfew tests Kn_HG, else the safety processor Kn_LG -/
  | contactorTestPulse (n code : Nat) (hg : Bool)
  /-- TEST_PULSE_END (R446): channel n; the Kn_CS code at the end of the pulse -/
  | testPulseEnd (n code : Nat)
  /-- OPENING_DEADLINE (R448): channel n -/
  | openingDeadline (n : Nat)
  /-- CURFEW_BACKSTOP (R453): channel n -/
  | curfewBackstop (n : Nat)
  /-- LOCK_MOVE_END (R450): lock p; the LOCKp_CS code; the level of LKFBp -/
  | lockMoveEnd (p code : Nat) (fb : Bool)
  /-- CONNECTION_TIMEOUT (R460): connection c -/
  | connectionTimeout (c : Nat)
  /-- SAFETY_FRAME_SEND (R462): connection c -/
  | safetyFrameSend (c : Nat)
  /-- SAFETY_FRAME_RELAY (R464): a write of `data` with GO set to RXCTL -/
  | safetyFrameRelay (init : Nat) (data : Word)
  /-- SAFETY_FRAME_RECEIVE (R460) -/
  | safetyFrameReceive
  /-- VETO_RELEASE (R111): the instant; for how many µs the heartbeat has been present -/
  | sfVetoRelease (at_ hbUs : Nat)
  /-- HALT (R463): the instant -/
  | sfHalt (at_ : Nat)
  /-- CLOSE (R445) -/
  | sfClose
  /-- OPEN (R448) -/
  | sfOpen
  /-- LOCK (R450) -/
  | sfLock
  /-- UNLOCK (R451) -/
  | sfUnlock
  /-- PARAM_BEGIN (R458) -/
  | sfParamBegin
  /-- PARAM_WRITE (R458) -/
  | sfParamWrite
  /-- PARAM_CHECK (R458) -/
  | sfParamCheck
  /-- PARAM_CONFIRM (R458) -/
  | sfParamConfirm
  /-- PARAM_ABORT (R458) -/
  | sfParamAbort
  /-- READ_PARAM (R463) -/
  | sfReadParam
  /-- HEALTH_ENABLE (R468): a write of `data` to CTRL -/
  | healthEnable (init : Nat) (data : Word)
  /-- ROTATION_SCHEDULE (R469): the teller pool, else the converter pool; the instant in units of 62.5 ps -/
  | rotationSchedule (teller : Bool) (at_ : Nat)
  /-- SLICE_START (R471): the instant in units of 62.5 ps; KIND 0-2 and TARGET as the log codes them, a unit that waits for its test -/
  | sliceStart (at_ kind target : Nat)
  /-- SLICE_END (R471): the instant; µs since the last system reset; the CLK_FAB cycle; the first signature word that differs, if any; for a converter unit the five points of its loop-back -/
  | sliceEnd (at_ us cycle : Nat) (sig : Option Word) (points : List LoopPoint)
  /-- SLICE_DEADLINE (R474): µs since the last system reset; the CLK_FAB cycle -/
  | sliceDeadline (us cycle : Nat)
  /-- COMPARATOR_CHECK_SCHEDULE (R476): the instant; µs since the last system reset; the CLK_FAB cycle -/
  | comparatorCheckSchedule (at_ us cycle : Nat)
  /-- CHECKER_ROTATION (R477): clerk c; the instant in units of 62.5 ps -/
  | checkerRotation (c at_ : Nat)
  /-- CHECKER_TAKEOVER (R477): clerk c; only the spare slice has reported a mismatch meanwhile -/
  | checkerTakeover (c : Nat) (mismatch : Bool)
  /-- SCRUB_READ (R482): µs since the last system reset; the CLK_FAB cycle; the error the read finds -/
  | scrubRead (us cycle : Nat) (ecc : Option EccError)
  /-- JTAG_EXTEST (R509): what is shifted into the boundary register -/
  | jtagExtest (bits : Nat)
  /-- JTAG_SAMPLE_PRELOAD (R509): what the boundary cells capture, and what is shifted in -/
  | jtagSamplePreload (pins bits : Nat)
  /-- JTAG_IDCODE (R509) -/
  | jtagIdcode
  /-- JTAG_CLAMP (R509) -/
  | jtagClamp
  /-- JTAG_HIGHZ (R509) -/
  | jtagHighz
  /-- JTAG_DTMCS (R509) -/
  | jtagDtmcs
  /-- JTAG_DMI (R511): operation (1 read, 2 write), register, data; the CLK_FAB cycle -/
  | jtagDmi (op addr : Nat) (data : Word) (cycle : Nat)
  /-- JTAG_SYSRST (R509) -/
  | jtagSysrst
  /-- JTAG_CORERST (R509) -/
  | jtagCorerst
  /-- JTAG_INTSCAN (R478): every secret register reads 0 -/
  | jtagIntscan (clean : Bool)
  /-- JTAG_BYPASS (R509) -/
  | jtagBypass
  /-- INTSCAN_EXIT (R478) -/
  | intscanExit
  /-- MACHINE_TIMER_MATCH (R507): the hart, and the shared counter -/
  | machineTimerMatch (h time : Nat)
  /-- OX_LANE_ENABLE (R497): lane n -/
  | oxLaneEnable (init n : Nat)
  /-- OX_LANE_DISABLE (R497): lane n -/
  | oxLaneDisable (init n : Nat)
  /-- OX_RETRAIN (R497): lane n; EN stays 1 -/
  | oxRetrain (init n : Nat)
  /-- OX_ALIGN_DONE (R497): lane n -/
  | oxAlignDone (n : Nat)
  /-- OX_SLOT (R491): lane n -/
  | oxSlot (n : Nat)
  /-- OFFER_RECEIVE (R499): lane n; the symbols received from /S/ to /T/, bit a on top -/
  | offerReceive (n : Nat) (frame : List (BitVec 10))
  /-- SELECT_ACK_RECEIVE (R497): as above; the instant -/
  | selectAckReceive (n : Nat) (frame : List (BitVec 10)) (at_ : Nat)
  /-- REPORT_RECEIVE (R503): as above; the instant -/
  | reportReceive (n : Nat) (frame : List (BitVec 10)) (at_ : Nat)
  /-- OX_CODE_ERROR (R501): lane n; the number of the received symbol -/
  | oxCodeError (n symbol : Nat)
  /-- REPORT_LOSS (R501): lane n; the instant -/
  | reportLoss (n at_ : Nat)
  /-- TRAIN_TIMEOUT (R497): lane n; the instant -/
  | trainTimeout (n at_ : Nat)
  /-- OX_RETRY (R497): lane n; the instant -/
  | oxRetry (n at_ : Nat)
  /-- SAT_READ (R495): a write to SACMD of lane n -/
  | satRead (init n reg : Nat)
  /-- SAT_WRITE (R495): a write to SACMD of lane n -/
  | satWrite (init n reg : Nat)
  /-- SAT_SELFTEST (R495): a write to SACMD of lane n -/
  | satSelftest (init n test : Nat)
  /-- SAT_STREAM (R494): a write to SACMD of lane n -/
  | satStream (init n sel : Nat)
  /-- SAT_COMMAND_TIMEOUT (R495): lane n -/
  | satCommandTimeout (n : Nat)
  /-- ETH_FRAME_RECEIVE (R512): MAC m; the instant; the frame from destination address to check sequence; its PTP header if it is a PTP message; the error of its timestamp in ns, within ±4 -/
  | ethFrameReceive (m at_ : Nat) (frame : List Byte) (ptp : Option PtpPlace) (err : Int)
  /-- ETH_FRAME_TRANSMIT (R512): MAC m; the instant; the PTP header of the frame if it is a PTP message; the error of its timestamp in ns, within ±4 -/
  | ethFrameTransmit (m at_ : Nat) (ptp : Option PtpPlace) (err : Int)
  /-- PTP_STEP (R514): the instant of the next tick -/
  | ptpStep (init m at_ : Nat)
  /-- PPS_IN_EDGE (R514): the instant; the error of the timestamp in ns, within ±8 -/
  | ppsInEdge (at_ : Nat) (err : Int)
  /-- PPS_OUT_SECOND (R514): the instant -/
  | ppsOutSecond (at_ : Nat)
  /-- PTP_TARGET_REACHED (R514): the instant -/
  | ptpTargetReached (at_ : Nat)
  /-- TIMESTAMP_POP (R514): a read of TS_NS -/
  | timestampPop (init m : Nat)
  /-- ETH_COUNTER_CLEAR (R529): a write of 1 to CNTCLR -/
  | ethCounterClear (init m : Nat)
  /-- ETH_PAUSE_SEND (R529): a write of `data` with XOFF set to PAUSE -/
  | ethPauseSend (init m : Nat) (data : Word)
  /-- AN_RESTART (R512): a write of `data` with RESTART set to ANCTL -/
  | anRestart (init m : Nat) (data : Word)
  /-- CAN_FRAME_RECEIVE (R515): controller m; the timestamp in nominal bit times; TEC and REC after it -/
  | canFrameReceive (m : Nat) (frame : CanFrame) (time tec rec_ : Nat)
  /-- CAN_TX_REQUEST (R515): a write of TXREQ to MBCTLk that keeps its MODE -/
  | canTxRequest (init m k : Nat)
  /-- CAN_FRAME_SENT (R515): controller m, buffer k; the timestamp a loop-back reception takes; TEC and REC after it -/
  | canFrameSent (m k time tec rec_ : Nat)
  /-- CAN_BUS_OFF (R515): controller m; TEC and REC -/
  | canBusOff (m tec rec_ : Nat)
  /-- CAN_RECOVER (R515): a write of MODE with RECOVER set and the other fields kept -/
  | canRecover (init m : Nat)
  /-- XSPI_INDIRECT_CMD (R516): a write of `data` with GO set to ICMD -/
  | xspiIndirectCmd (init : Nat) (data : Word)
  /-- XSPI_COMMAND_DONE (R516): the status byte; the data phase read; what the command changed in the device -/
  | xspiCommandDone (status : Nat) (rdata : List Byte) (flash : List FlashByte)
  /-- XSPI_POLL_TIMEOUT (R529): the last status byte -/
  | xspiPollTimeout (status : Nat)
  /-- DDR_INIT_GO (R517): a write of 1 to INIT -/
  | ddrInitGo (init : Nat)
  /-- DDR_INIT_DONE (R517): initialisation passed; else the stage and byte lane that failed; the eight EYE words -/
  | ddrInitDone (ok : Bool) (stage lane : Nat) (eyes : List Nat)
  /-- DDR_RETRAIN (R529): the refresh-rate fields read from the devices -/
  | ddrRetrain (refA refB : Nat)
  /-- UART_TX_PUSH (R529): a write of `data` to TXDATA -/
  | uartTxPush (init m data : Nat)
  /-- UART_RX_POP (R529): a read of RXDATA -/
  | uartRxPop (init m : Nat)
  /-- UART_BYTE_RECEIVE (R518): UART m; the character; its errors -/
  | uartByteReceive (m data : Nat) (perr ferr brk : Bool)
  /-- SPI_TX_PUSH (R529): a write of `data` to TXDATA -/
  | spiTxPush (init m : Nat) (data : Word)
  /-- SPI_FRAME_DONE (R518): controller m; the bits received, right-aligned -/
  | spiFrameDone (m : Nat) (data : Word)
  /-- SPI_RX_POP (R529): a read of RXDATA -/
  | spiRxPop (init m : Nat)
  /-- GPIO_OUTSET (R529): a write of `data` to OUTSET -/
  | gpioOutset (init : Nat) (data : Word)
  /-- GPIO_OUTCLR (R529): a write of `data` to OUTCLR -/
  | gpioOutclr (init : Nat) (data : Word)
  /-- GPIO_DIR_WRITE (R48): a write of `data` to DIR -/
  | gpioDirWrite (init : Nat) (data : Word)
  /-- GPIO_PIN_EDGE (R518): pin n; its new filtered level -/
  | gpioPinEdge (n : Nat) (level : Bool)
  /-- PILOT_PERIOD_END (R522): unit n; how many DUTY writes came in the last 2 µs; the codes of the period's 1,000 samples of CPn_SNS, one a µs from the rising edge on, and of PPn_SNS -/
  | pilotPeriodEnd (n late : Nat) (cp pp : List Nat)
  /-- RECORDER_ROW (R525): the instant; the CLK_FAB cycle -/
  | recorderRow (at_ cycle : Nat)
  /-- RECORDER_TRIGGER (R527): events of one CLK_FAB cycle, bits as TRIGSRC; level lines that rise, WC0-WC47 then PC0-PC7 -/
  | recorderTrigger (events : Nat) (lines : List Nat)
  /-- RECORDER_SWTRIG (R527): a write of SWTRIG to TRIGCTL -/
  | recorderSwtrig (init : Nat)
  /-- RECORDER_ARM (R527): a write of ARM to TRIGCTL -/
  | recorderArm (init : Nat)
  /-- COLD_START_EXIT (R427): VSTORE in mV -/
  | coldStartExit (vst : Nat)
  /-- CHARGE_RESUME (R427): VSTORE in mV -/
  | chargeResume (vst : Nat)
  /-- REFERENCE_RETURN (R121): the detector of that ADPLL -/
  | referenceReturn (pll : Nat)
  /-- FUSE_BLOW (R100): the fuse word and the bits to blow -/
  | fuseBlow (word : Nat) (bits : Word)
  /-- BOOTSTRAP_RECOVER (R243): phase n -/
  | bootstrapRecover (n : Nat)
  /-- LINK_CHANGE (R512): MAC m; the link is up; auto-negotiation is complete; the partner's base page -/
  | linkChange (m : Nat) (link done : Bool) (partner : Nat)
  /-- BUS_OFF_RECOVERY_END (R515): controller m -/
  | busOffRecoveryEnd (m : Nat)
  /-- PPS_OUT_FALL (R514): the instant -/
  | ppsOutFall (at_ : Nat)
  /-- PILOT_DUTY_END (R519): unit n -/
  | pilotDutyEnd (n : Nat)
  /-- UART_BYTE_SENT (R518): UART m -/
  | uartByteSent (m : Nat)
  /-- PHY_PLL_UNLOCK (R529) -/
  | phyPllUnlock
deriving DecidableEq, Repr

end Sys2Proof
end

