-- ==== Sys2Proof/Decode.lean ====
section
/-!
DEFINITION. The command that a word spells by the bits of the opcode table. No row of spec/opcode_table.json gives any bits
(the block takes commands, not encoded instructions), so no word spells one.
-/
namespace Sys2Proof

/-- The command that `nbits` bits of value `w` spell: none, since no row gives bits. -/
def decodeTableWord (_nbits _w : Nat) : Option Instr := none

end Sys2Proof
end

