-- ==== Sys2Proof/Config.lean ====
section
/-!
DEFINITION. What one part fixes and the manual leaves open: free values. Each is an OPAQUE constant with no body, so
nothing in Lean can evaluate it or prove a value of it, and a statement about it holds for every value it could have.
notes/assumptions/5.md to 8.md say which rules leave each of them open.
-/
namespace Sys2Proof

/-- A fresh 32-bit value the manual leaves open, for the `n`-th such value a run meets (`State.freeCtr` counts them). -/
opaque Config.freeWord : Nat → Word

/-- A fresh one-bit choice the manual leaves open ("may or may not"), for the `n`-th such choice of a run. -/
opaque Config.freeBit : Nat → Bool

/-- The control die's die identity, converter trims and other fuse words Ferriad programs (R98): word number to content. -/
opaque Config.factoryFuse : Nat → Word

/-- Meloskern's METER_ID, drawn by Ferriad (R418, R419): byte number to byte. -/
opaque Config.meterId : Nat → Byte

/-- Meloskern's mask-ROM revision and identity (R411, R433): the manual names the fields and gives no value. -/
opaque Config.romRev : Nat

/-- ROMVER, the mask-ROM identity. -/
opaque Config.romVer : Word

/-- The contents of the boot ROM (R103, R136): address to byte; the manual does not give them. -/
opaque Config.bootRom : Nat → Byte

/-- The private key that Meloskern's key generator draws (R418): the manual gives no value, only that it lies in 1 … n − 1. -/
opaque Config.privateKey : Nat → Nat

/-- The per-signature secret of the `n`-th signature (R419): drawn by Meloskern, no value is given. -/
opaque Config.signSecret : Nat → Nat

/-- Which of the binary32 values within 2 ulp the grid engine's atan2 gives (R343): a number of steps from the nearest one,
modulo 5 and less 2. -/
opaque Config.fAtan2Ulp : Word → Word → Nat

/-- The same for its sine. -/
opaque Config.fSinUlp : Word → Nat

/-- The same for its cosine. -/
opaque Config.fCosUlp : Word → Nat

/-- The distinct taps of Meloskern's 96-tap linear-phase FIR filter, outermost first, in 2⁻³¹ (R372): the manual gives the response. -/
opaque Config.firTap : Nat → Int

/-- The taps of Meloskern's Hilbert filter on one side of its middle, in 2⁻³¹ (R378): the manual gives the response. -/
opaque Config.hilbertTap : Nat → Int

/-- The coefficient of Meloskern's first-order high-pass filter with its corner at 0.1 Hz, in 2⁻³¹ (R373). -/
opaque Config.highPass : Int

/-- The record count that the self-test controller writes into the first log record (R484): the manual gives no start value. -/
opaque Config.recordBase : Nat

/-- The size in bytes of the xSPI device fitted on a chip select (R136, R516): the board's. -/
opaque Config.xspiFitted : Nat → Nat

/-- A MAC stores the frame check sequence with a received frame (R512 leaves it open). -/
opaque Config.ethStoresFcs : Bool

/-- MACsec on receive (R513): the frame that the IEEE 802.1AE processing of SAKEY words, SECCFG and SCI words yields, or none. -/
opaque Config.macsecOpen : List (Nat × Word) → List Word → List Byte → Option (List Byte)

/-- MACsec on transmit (R513): the protected frame; the number stands for the packet number. -/
opaque Config.macsecSeal : List (Nat × Word) → List Word → Nat → List Byte → List Byte

end Sys2Proof
end

