-- ==== Sys2Proof/Machine/Balls.lean ====
section
/-!
DEFINITION. The balls with a fused reset class (R47, R99, R101): the classes, the group tables of chapter 2 as one list, and the
fuse words that hold the classes as Ferriad ships them.
-/
namespace Sys2Proof.Machine

/-- The reset classes that two fuse bits select (R47). -/
inductive BallClass where
  | z | pd | pu | dl
deriving DecidableEq, Repr

/-- The class that two fuse bits, high bit first, select (R47, R99). -/
def BallClass.ofBits (n : Nat) : BallClass :=
  match n % 4 with
  | 0 => .z | 1 => .pd | 2 => .pu | _ => .dl

/-- The fuse bits of a class (R47). -/
def BallClass.bits : BallClass → Nat
  | .z => 0 | .pd => 1 | .pu => 2 | .dl => 3

/-- A run of balls in one row of the package, of one bank, one shipped class and one kind of owning block. `row` is the row index
of R99; `bank` the bit of the bank's rail in SUPSTAT; the ball at column `first + k` belongs to the page
`page + k / per * 0x1000`. -/
structure BallRun where
  row : Nat
  first : Nat
  cnt : Nat
  bank : Nat
  cls : BallClass
  page : Nat
  per : Nat := 64
deriving DecidableEq, Repr

/-- The fused balls of the group tables (chapter 2). Rows A to H are 1 to 8, J 9, K 10, AF 25, AJ 28, AK 29. The trip balls, which
every generator reads, stand with the PWM common page, the balls of both MACs with ETH0. -/
def ballRuns : List BallRun :=
  [ { row := 1, first := 1, cnt := 32, bank := 7, cls := .dl, page := 0x40880000, per := 4 },
    { row := 2, first := 1, cnt := 32, bank := 7, cls := .dl, page := 0x40880000, per := 4 },
    { row := 3, first := 1, cnt := 32, bank := 7, cls := .pd, page := 0x40880000, per := 4 },
    { row := 4, first := 1, cnt := 16, bank := 7, cls := .dl, page := 0x40888000, per := 4 },
    { row := 4, first := 17, cnt := 16, bank := 7, cls := .dl, page := 0x40888000, per := 4 },
    { row := 5, first := 1, cnt := 16, bank := 7, cls := .pd, page := 0x40888000, per := 4 },
    { row := 7, first := 1, cnt := 9, bank := 8, cls := .pd, page := 0x40050000 },
    { row := 7, first := 10, cnt := 1, bank := 8, cls := .dl, page := 0x40050000 },
    { row := 7, first := 11, cnt := 4, bank := 8, cls := .pd, page := 0x4001F000 },
    { row := 8, first := 1, cnt := 32, bank := 8, cls := .z, page := 0x400AE000 },
    { row := 9, first := 24, cnt := 2, bank := 8, cls := .dl, page := 0x400C0000 },
    { row := 9, first := 28, cnt := 2, bank := 8, cls := .dl, page := 0x400C1000 },
    { row := 10, first := 24, cnt := 2, bank := 8, cls := .dl, page := 0x400C2000 },
    { row := 10, first := 28, cnt := 2, bank := 8, cls := .dl, page := 0x400C3000 } ] ++
  [ { row := 25, first := 24, cnt := 6, bank := 1, cls := .pd, page := 0x40803000 },
    { row := 25, first := 30, cnt := 3, bank := 1, cls := .pu, page := 0x40803000 },
    { row := 28, first := 1, cnt := 8, bank := 8, cls := .pu, page := 0x400A2000, per := 2 },
    { row := 28, first := 9, cnt := 8, bank := 8, cls := .pu, page := 0x400AA000, per := 4 },
    { row := 28, first := 17, cnt := 3, bank := 8, cls := .pd, page := 0x400AC000 },
    { row := 28, first := 20, cnt := 2, bank := 8, cls := .pu, page := 0x400AC000 },
    { row := 28, first := 22, cnt := 3, bank := 8, cls := .pd, page := 0x400AD000 },
    { row := 28, first := 25, cnt := 2, bank := 8, cls := .pu, page := 0x400AD000 },
    { row := 29, first := 3, cnt := 1, bank := 10, cls := .dl, page := 0x400A6000 },
    { row := 29, first := 4, cnt := 1, bank := 10, cls := .pd, page := 0x400A6000 },
    { row := 29, first := 5, cnt := 8, bank := 10, cls := .z, page := 0x400A6000 },
    { row := 29, first := 13, cnt := 2, bank := 10, cls := .pu, page := 0x400A6000 },
    { row := 29, first := 15, cnt := 1, bank := 10, cls := .dl, page := 0x400A6000 },
    { row := 29, first := 25, cnt := 1, bank := 8, cls := .dl, page := 0x400A0000 },
    { row := 29, first := 26, cnt := 1, bank := 8, cls := .pu, page := 0x400A0000 },
    { row := 29, first := 27, cnt := 1, bank := 8, cls := .pd, page := 0x400A0000 },
    { row := 29, first := 28, cnt := 1, bank := 8, cls := .dl, page := 0x400A0000 } ]

/-- The run that holds the ball at row index `r` and column `c`; none for FX, supply and Meloskern balls. -/
def ballRun (r c : Nat) : Option BallRun := ballRuns.find? (fun b => b.row == r && b.first ≤ c && c < b.first + b.cnt)

/-- The page whose block owns the ball (R48). -/
def BallRun.owner (b : BallRun) (c : Nat) : Nat := b.page + (c - b.first) / b.per * 0x1000

/-- The number of a ball in the field of R99. -/
def ballIndex (r c : Nat) : Nat := 32 * (r - 1) + (c - 1)

/-- The fuse word that holds the class of a ball, and the low bit of its two bits there (R99). -/
def ballWord (r c : Nat) : Nat := 0x70 + ballIndex r c / 16
def ballBit (r c : Nat) : Nat := 2 * (ballIndex r c % 16)

/-- The ball number `i` of R99 has a fused class: its shipped bits. -/
def shippedBits (i : Nat) : Option Nat := (ballRun (i / 32 + 1) (i % 32 + 1)).map (fun b => b.cls.bits)

/-- Fuse word `w` (0x70-0xAF) with the shipped class of each of its 16 balls, and the mask of the bits that some ball heeds (R99,
R101). -/
def shippedClasses (w : Nat) : Word :=
  Word.ofNat ((List.range 16).foldl (fun a k => a + (shippedBits (16 * (w - 0x70) + k)).getD 0 * 4 ^ k) 0)
def classMask (w : Nat) : Word :=
  Word.ofNat ((List.range 16).foldl (fun a k => a + (if (shippedBits (16 * (w - 0x70) + k)).isSome then 3 else 0) * 4 ^ k) 0)

end Sys2Proof.Machine
end

