-- ==== Sys2Proof/Machine/Pages.lean ====
section
/-!
DEFINITION. The register pages (R136-R140): which page stands where, which registers it holds, and for every register
its fields, their types (R9) and their reset values (R12), as the register tables of each chapter give them.
A register is known by its bus address, a natural number. What a page's version 1 changes (R13, R144) stands beside it.
-/
namespace Sys2Proof.Machine

/-- The field types of R9. -/
inductive FieldType where
  | rw | ro | w1c | w1s | wo | rwl | rws
deriving DecidableEq, Repr

/-- One field of a register: bits `[hi:lo]` and its type. Bits no field names are reserved (R10). -/
structure Field where
  hi : Nat
  lo : Nat
  ty : FieldType
deriving DecidableEq, Repr

/-- What interface version 1 shows of a register (the version-1 difference tables, R13). -/
inductive V1 where
  /-- no difference -/
  | same
  /-- absent: reads 0, writes are ignored -/
  | absent
  /-- only the bits of `keep` act; the others read as in `fixed` and are not written -/
  | view (keep fixed : Nat)
deriving DecidableEq, Repr

/-- One row of a register table: `cnt` registers from offset `off`, `stride` bytes apart. -/
structure RegRow where
  off : Nat
  reset : Nat
  fields : List Field
  cnt : Nat := 1
  stride : Nat := 4
  v1 : V1 := .same
  /-- the reset value grows by this much with each instance of the page -/
  perInst : Nat := 0
deriving DecidableEq, Repr

/-- The clock domain that serves a page (R138). `ps` is the power-side die, reached over CLK_B. -/
inductive Dom where
  | ref | fab | tel | pwm | adc | xspi | ox | eth | can | ddr | ps
deriving DecidableEq, Repr

/-- One row of the page allocation table (R138): `cnt` pages `size` bytes apart from `base`. -/
structure PageRow where
  name : String
  base : Nat
  cnt : Nat := 1
  size : Nat := 0x1000
  typ : Nat
  inst0 : Nat := 0
  v1 : Bool := true
  dom : Dom
  alwaysOn : Bool := false
  regs : List RegRow
deriving DecidableEq, Repr

/-- Field of type RW. -/
def fRw (hi lo : Nat) : Field := ⟨hi, lo, .rw⟩
/-- Field of type RO. -/
def fRo (hi lo : Nat) : Field := ⟨hi, lo, .ro⟩
/-- Field of type W1C. -/
def fW1c (hi lo : Nat) : Field := ⟨hi, lo, .w1c⟩
/-- Field of type W1S. -/
def fW1s (hi lo : Nat) : Field := ⟨hi, lo, .w1s⟩
/-- Field of type WO. -/
def fWo (hi lo : Nat) : Field := ⟨hi, lo, .wo⟩
/-- Field of type RWL. -/
def fRwl (hi lo : Nat) : Field := ⟨hi, lo, .rwl⟩

/-- The common header of every page (R138-R141): IFVER_SEL, CTRL, STAT, IRQ_RAW, IRQ_EN, LOCK, PERTURB.
PAGE_ID, IFVER_SUP and IRQ_PEND are computed where they are read. `on` is the page's CTRL reset. -/
def headerRows (on : Nat) : List RegRow :=
  [ { off := 0x008, reset := 2, fields := [fRwl 3 0] },
    { off := 0x00C, reset := on, fields := [fWo 1 1, fRw 0 0] },
    { off := 0x010, reset := 0, fields := [fW1c 31 31, fRo 30 0], v1 := .view 0xBFFFFFFF 0 },
    { off := 0x014, reset := 0, fields := [fW1c 31 0] },
    { off := 0x018, reset := 0, fields := [fRw 31 0] },
    { off := 0x020, reset := 0, fields := [fWo 31 0] },
    { off := 0x024, reset := 0, fields := [fRw 13 0] } ]

/-! ### Chapter 4: ADPLL pages -/

/-- Registers of ADPLL-A (R116-R124). -/
def regsAdpllA : List RegRow :=
  [ { off := 0x040, reset := 2, fields := [fRw 1 0] },
    { off := 0x044, reset := 0x05000000, fields := [fRw 28 0] },
    { off := 0x048, reset := 1, fields := [fRw 1 0] },
    { off := 0x04C, reset := 0x00140408, fields := [fRwl 23 16, fRw 11 0] },
    { off := 0x050, reset := 0x40000000, fields := [fRo 31 28, fW1c 25 23, fRo 15 0] },
    { off := 0x060, reset := 0x80000400, fields := [fRw 31 31, fRw 15 0] },
    { off := 0x064, reset := 0x80000500, fields := [fRw 31 31, fRw 15 0] },
    { off := 0x068, reset := 0x80001400, fields := [fRw 31 31, fRw 15 0], cnt := 2 },
    { off := 0x070, reset := 0x80001000, fields := [fRw 31 31, fRw 15 0] },
    { off := 0x074, reset := 0x80002000, fields := [fRw 31 31, fRw 15 0] },
    { off := 0x078, reset := 0x80003200, fields := [fRw 31 31, fRw 15 0] },
    { off := 0x07C, reset := 0x80002800, fields := [fRw 31 31, fRw 15 0] } ]

/-- Registers of ADPLL-B (R117-R126). -/
def regsAdpllB : List RegRow :=
  [ { off := 0x040, reset := 2, fields := [fRw 1 0] },
    { off := 0x044, reset := 0x05000000, fields := [fRo 28 0] },
    { off := 0x048, reset := 1, fields := [fRw 1 0] },
    { off := 0x04C, reset := 0x00000408, fields := [fRo 23 16, fRw 11 0] },
    { off := 0x050, reset := 0x40000000, fields := [fRo 31 28, fW1c 24 23, fRo 15 0] },
    { off := 0x060, reset := 0x80000800, fields := [fRw 31 31, fRo 15 0] },
    { off := 0x080, reset := 0x80000002, fields := [fRw 31 31, fRw 2 0] },
    { off := 0x084, reset := 0, fields := [fRo 31 31, fW1c 30 30, fRo 18 8] } ]

/-! ### Chapter 5: SYS, INTC -/

/-- Registers of SYS (R148-R150, R134). FUSEn is the fuse shadow, read from the state (R98). -/
def regsSys : List RegRow :=
  [ { off := 0x040, reset := 0, fields := [fWo 31 0] },
    { off := 0x044, reset := 1, fields := [fW1c 0 0], v1 := .absent },
    { off := 0x048, reset := 0, fields := [fWo 31 0] },
    { off := 0x050, reset := 0, fields := [fRo 31 0] },
    { off := 0x054, reset := 0, fields := [fW1c 31 30, fRo 29 0] },
    { off := 0x080, reset := 0x00000200, fields := [fRo 31 0] },
    { off := 0x400, reset := 0, fields := [fRo 31 0], cnt := 256 } ]

/-- Registers of INTC (R152-R153). PENDk and CLAIMc are computed where they are read. -/
def regsIntc : List RegRow :=
  [ { off := 0x040, reset := 0, fields := [fRo 31 0], cnt := 8 },
    { off := 0x080, reset := 0, fields := [fRw 31 1] },
    { off := 0x084, reset := 0, fields := [fRw 31 0], cnt := 7 },
    { off := 0x0A0, reset := 0, fields := [fRw 31 1] },
    { off := 0x0A4, reset := 0, fields := [fRw 31 0], cnt := 7 },
    { off := 0x0C0, reset := 0, fields := [fRw 2 0], cnt := 2, stride := 8, v1 := .view 3 0 },
    { off := 0x0C4, reset := 0, fields := [fRo 7 0], cnt := 2, stride := 8 },
    { off := 0x400, reset := 0, fields := [] },
    { off := 0x404, reset := 0, fields := [fRw 2 0], cnt := 255, v1 := .view 3 0 } ]

/-! ### Chapter 6: FAB -/

/-- Registers of FAB. CTRL carries FREEZE, STAT carries RES_EMPTY. -/
def regsFab : List RegRow :=
  [ { off := 0x00C, reset := 1, fields := [fRw 2 2, fWo 1 1, fRw 0 0] },
    { off := 0x040, reset := 0x0C8320C8, fields := [fRwl 29 0], v1 := .view 0x3FF 0 },
    { off := 0x044, reset := 5, fields := [fRwl 7 0], v1 := .absent },
    { off := 0x048, reset := 0, fields := [fRo 31 0], cnt := 3 },
    { off := 0x054, reset := 0, fields := [fRw 31 0], cnt := 3 },
    { off := 0x060, reset := 0, fields := [fRw 15 0], cnt := 4 },
    { off := 0x070, reset := 0, fields := [fRw 31 0], cnt := 4 },
    { off := 0x080, reset := 0, fields := [fRo 31 0] },
    { off := 0x084, reset := 0, fields := [fRw 25 16, fRo 9 0] },
    { off := 0x090, reset := 0, fields := [fRw 31 31, fRw 7 0], v1 := .absent },
    { off := 0x094, reset := 0, fields := [fRo 31 0], cnt := 3, v1 := .absent } ]

/-! ### Chapter 3: RSUP -/

/-- Registers of RSUP (R84-R96). STAT bit 8 is LINK_ERR (R28). -/
def regsRsup : List RegRow :=
  [ { off := 0x010, reset := 0, fields := [fW1c 31 31, fRo 30 30, fW1c 8 8], v1 := .view 0xBFFFFFFF 0 },
    { off := 0x040, reset := 0x00000101, fields := [fRo 9 0] },
    { off := 0x044, reset := 0, fields := [fRo 8 8, fRo 1 0], v1 := .absent },
    { off := 0x048, reset := 0, fields := [fWo 31 0] },
    { off := 0x04C, reset := 0, fields := [fRo 17 0] },
    { off := 0x050, reset := 0, fields := [fW1c 17 0] },
    { off := 0x058, reset := 0, fields := [fRw 31 24, fRw 21 16, fRw 13 0], v1 := .view 0xFFFFFF00 0 },
    { off := 0x060, reset := 0, fields := [fRwl 31 29, fRwl 27 24, fRwl 21 12, fRwl 9 0], cnt := 4 },
    { off := 0x070, reset := 0x7D0, fields := [fRwl 13 0] },
    { off := 0x074, reset := 0, fields := [fWo 31 0] } ]

/-! ### Chapter 17: SMBX -/

/-- Registers of SMBX (R463, R464). What the safety unit shows of itself is computed where it is read. -/
def regsSmbx : List RegRow :=
  [ { off := 0x010, reset := 0, fields := [fW1c 31 31, fRo 30 30, fRo 8 8], v1 := .view 0xBFFFFFFF 0 },
    { off := 0x014, reset := 0, fields := [fW1c 6 0] },
    { off := 0x040, reset := 0x04000000, fields := [fRo 31 0] },
    { off := 0x044, reset := 0, fields := [fRw 31 0], cnt := 2 },
    { off := 0x04C, reset := 0, fields := [fRo 31 8] },
    { off := 0x050, reset := 0, fields := [fRo 31 0] },
    { off := 0x054, reset := 0, fields := [fRo 31 15, fRo 13 8, fRo 5 0], v1 := .view 0xFFFFC0FF 0 },
    { off := 0x058, reset := 0, fields := [fRo 25 0] },
    { off := 0x080, reset := 0, fields := [fRo 31 21, fRo 11 0], cnt := 12 },
    { off := 0x0C0, reset := 0, fields := [fRo 31 26, fRo 11 0], cnt := 4 },
    { off := 0x100, reset := 0, fields := [fRo 31 31, fRo 11 0], cnt := 16, v1 := .absent },
    { off := 0x180, reset := 0, fields := [fRo 31 0], cnt := 2 },
    { off := 0x1C0, reset := 0, fields := [fWo 31 31, fWo 9 8, fWo 5 0] },
    { off := 0x1C4, reset := 0, fields := [fRw 31 0], cnt := 11 },
    { off := 0x1F0, reset := 0, fields := [fW1c 31 30, fRo 9 8, fRo 5 0] },
    { off := 0x200, reset := 0, fields := [fRo 31 0], cnt := 11 },
    { off := 0x240, reset := 0, fields := [fRo 31 28, fRo 15 0], cnt := 4, v1 := .absent } ]

/-! ### Chapter 7: converters -/

/-- Registers of Cn (R177-R193). -/
def regsConv : List RegRow :=
  [ { off := 0x010, reset := 0, perInst := 0x100000, fields := [fW1c 31 31, fRo 30 30, fRo 24 20, fRo 9 8, fW1c 4 0],
      v1 := .view 0xBFFFFFFB 0 },
    { off := 0x014, reset := 0, fields := [fW1c 31 0], v1 := .view 0xFFFFFFFB 0 },
    { off := 0x040, reset := 0, fields := [fRo 31 0], v1 := .view 0xFF00FFFF 0 },
    { off := 0x044, reset := 0, fields := [fRo 31 0] },
    { off := 0x048, reset := 0, fields := [fRw 31 0] },
    { off := 0x080, reset := 0, fields := [fRwl 31 16, fRwl 6 0], cnt := 16, stride := 8, v1 := .view 0xFDFFFFFF 0 },
    { off := 0x084, reset := 0, fields := [fRwl 31 31, fRwl 19 16, fRwl 10 8, fRwl 3 0], cnt := 16, stride := 8,
      v1 := .view 0xFFFFFFF7 0 } ]

/-- Registers of ADCC (R182-R196). -/
def regsAdcc : List RegRow :=
  [ { off := 0x040, reset := 0, fields := [fWo 31 0] },
    { off := 0x044, reset := 0, fields := [fRwl 7 0] },
    { off := 0x048, reset := 0x80640030, fields := [fRwl 31 31, fRwl 23 0] },
    { off := 0x04C, reset := 0, fields := [fRo 31 0] },
    { off := 0x050, reset := 0, fields := [fRw 31 0] },
    { off := 0x054, reset := 0, fields := [fRo 31 0], v1 := .absent },
    { off := 0x058, reset := 0, fields := [fW1c 31 0] },
    { off := 0x100, reset := 0, fields := [fRwl 31 30, fRwl 23 20, fRwl 15 0], cnt := 16, v1 := .view 0xFF0FFFFF 0 },
    { off := 0x140, reset := 0, fields := [fRwl 31 30, fRwl 23 20, fRwl 15 0], cnt := 16, v1 := .absent } ]

/-! ### Chapter 8: PWMn, PWMC -/

/-- Registers of PWMn (R197-R221). -/
def regsPwm : List RegRow :=
  [ { off := 0x010, reset := 0, fields := [fW1c 31 31, fRo 30 30, fRo 11 8, fW1c 6 0], v1 := .view 0xBFFFFFFF 0 },
    { off := 0x014, reset := 0, fields := [fW1c 7 0] },
    { off := 0x040, reset := 0, fields := [fRw 31 0], cnt := 4 },
    { off := 0x060, reset := 0x1000, fields := [fRwl 31 0] },
    { off := 0x064, reset := 0, fields := [fRwl 31 0], cnt := 4 },
    { off := 0x074, reset := 0, fields := [fRwl 31 0] },
    { off := 0x078, reset := 0, fields := [fRo 5 0] },
    { off := 0x080, reset := 0x1000, fields := [fRo 31 0] },
    { off := 0x084, reset := 0, fields := [fRo 31 0], cnt := 3 },
    { off := 0x090, reset := 0x10, fields := [fRwl 19 16, fRwl 8 8, fRwl 4 3, fRwl 0 0], v1 := .view 0xFFFFFEEF 0 },
    { off := 0x094, reset := 0, fields := [fRwl 31 31, fRwl 19 16, fRwl 10 8] },
    { off := 0x098, reset := 0, fields := [fRwl 31 30, fRwl 23 0], v1 := .view 0x7FFFFFFF 0 },
    { off := 0x09C, reset := 0, fields := [fWo 1 0] },
    { off := 0x0A0, reset := 0, fields := [fRo 31 28, fRo 15 0] },
    { off := 0x0A4, reset := 0, fields := [fRw 31 0], v1 := .absent } ]

/-- Registers of PWMC (R203, R208, R213, R218). TRIPSUMk is computed where it is read. -/
def regsPwmc : List RegRow :=
  [ { off := 0x040, reset := 0, fields := [fWo 31 0], cnt := 2 },
    { off := 0x048, reset := 0, fields := [fWo 15 0], v1 := .view 0xFFFF00FF 0 },
    { off := 0x04C, reset := 0, fields := [fRo 15 0], v1 := .view 0xFFFF00FF 0 },
    { off := 0x050, reset := 0, fields := [fWo 31 0], cnt := 2, v1 := .absent },
    { off := 0x058, reset := 0, fields := [fRo 31 0], cnt := 2, v1 := .absent },
    { off := 0x060, reset := 0, fields := [fRwl 31 31, fRwl 0 0] } ]

/-! ### Chapter 9: GATEg, AUX -/

/-- Registers of GATEg (R222-R239). SRC_ACT of HBSTATj and VETO of STAT are computed where they are read. -/
def regsGate : List RegRow :=
  [ { off := 0x010, reset := 0, fields := [fW1c 31 31, fRo 30 30, fRo 12 8, fW1c 2 0], v1 := .view 0xBFFFFFFB 0 },
    { off := 0x014, reset := 0, fields := [fW1c 20 17, fW1c 15 0], v1 := .view 0xFFF7FFFF 0 },
    { off := 0x040, reset := 0, fields := [fRwl 31 31, fRwl 23 16, fRwl 15 8, fRwl 0 0], v1 := .view 0x7F00FFFF 0 },
    { off := 0x044, reset := 0x0000000A, fields := [fRwl 31 16, fRwl 7 0], v1 := .view 0x0000FFFF 0 },
    { off := 0x048, reset := 0x03E80000, fields := [fRwl 31 16, fRwl 2 0] },
    { off := 0x04C, reset := 0x02580230, fields := [fRwl 25 16, fRwl 9 0] },
    { off := 0x050, reset := 0, fields := [fRw 31 0] },
    { off := 0x060, reset := 0xA007D000, fields := [fRwl 31 28, fRwl 27 22, fRwl 21 12], cnt := 4 },
    { off := 0x070, reset := 0, fields := [fRw 0 0], cnt := 4 },
    { off := 0x080, reset := 0x08000000, fields := [fRo 30 16, fRo 7 0], cnt := 4 },
    { off := 0x090, reset := 0, fields := [fRo 31 31, fRo 25 16, fRo 9 0], cnt := 4, v1 := .absent } ]

/-- Registers of AUX (R240-R243). -/
def regsAux : List RegRow :=
  [ { off := 0x040, reset := 0x00180000, fields := [fRwl 25 24, fRwl 23 8, fRwl 0 0] },
    { off := 0x044, reset := 0x0960, fields := [fRwl 15 0] },
    { off := 0x048, reset := 0, fields := [fRw 15 0], cnt := 3 },
    { off := 0x058, reset := 0, fields := [fRwl 31 30, fRwl 23 16, fRwl 7 0], v1 := .view 0xBFFFFFFF 0 },
    { off := 0x05C, reset := 0, fields := [fRo 31 26, fRo 18 16], v1 := .view 0xFFF8FFFF 0 },
    { off := 0x060, reset := 0, fields := [fWo 0 0] } ]

/-! ### Chapter 10: WCMP, PCMP -/

/-- Registers of WCMP (R244-R255). -/
def regsWcmp : List RegRow :=
  [ { off := 0x010, reset := 0, fields := [fW1c 31 31, fRo 30 30, fRo 8 8], v1 := .view 0xBFFFFFFF 0 },
    { off := 0x040, reset := 0, fields := [fRo 31 0] },
    { off := 0x044, reset := 0, fields := [fRo 15 0] },
    { off := 0x048, reset := 0, fields := [fW1c 31 0] },
    { off := 0x04C, reset := 0, fields := [fW1c 15 0] },
    { off := 0x050, reset := 0, fields := [fRw 31 0] },
    { off := 0x054, reset := 0, fields := [fRw 15 0] },
    { off := 0x058, reset := 0, fields := [fWo 31 31, fWo 8 8, fWo 5 0], v1 := .view 0xFFFFFEFF 0 },
    { off := 0x05C, reset := 0, fields := [fRo 31 30, fRo 21 16, fRo 7 0] },
    { off := 0x060, reset := 0, fields := [fRwl 0 0], cnt := 6, v1 := .view 0xFFFFFFFE 0 },
    { off := 0x080, reset := 0, fields := [fRwl 31 27, fRwl 13 8, fRwl 5 0], cnt := 48 } ]

/-- Registers of PCMP (R248-R255). -/
def regsPcmp : List RegRow :=
  [ { off := 0x010, reset := 0, fields := [fW1c 31 31, fRo 30 30, fRo 8 8], v1 := .view 0xBFFFFFFF 0 },
    { off := 0x040, reset := 0, fields := [fRo 7 0] },
    { off := 0x048, reset := 0, fields := [fW1c 7 0] },
    { off := 0x050, reset := 0, fields := [fRw 7 0] },
    { off := 0x058, reset := 0, fields := [fWo 31 31, fWo 8 8, fWo 5 0], v1 := .view 0xFFFFFEFF 0 },
    { off := 0x05C, reset := 0, fields := [fRo 31 30, fRo 21 16, fRo 7 0] },
    { off := 0x060, reset := 0, fields := [fRo 7 0], v1 := .absent },
    { off := 0x080, reset := 0x03000000, fields := [fRwl 31 28, fRwl 25 24, fRwl 11 0], cnt := 8,
      v1 := .view 0xFCFFFFFF 0x03000000 } ]

/-! ### Chapter 11: Tn, TELC -/

/-- Registers of Tn (R256-R279); `stat` is the reset value of STAT without UNIT's share of the instance number. -/
def regsTlr (stat : Nat) : List RegRow :=
  [ { off := 0x010, reset := stat, perInst := 0x10000,
      fields := [fW1c 31 31, fRo 30 30, fRo 19 16, fRo 12 8, fRo 4 4, fRo 2 0], v1 := .view 0xBFFFFFFF 0 },
    { off := 0x014, reset := 0, fields := [fW1c 24 0] },
    { off := 0x040, reset := 0, fields := [fRwl 31 31, fRwl 3 0] },
    { off := 0x044, reset := 0, fields := [fRo 23 16, fRo 7 4, fRo 2 0], v1 := .view 0xFFFFFF0F 0 },
    { off := 0x048, reset := 0, fields := [fWo 7 0], v1 := .absent },
    { off := 0x100, reset := 0, fields := [fRw 31 31, fRwl 26 24, fRwl 13 0], cnt := 8, stride := 0x20 },
    { off := 0x104, reset := 0, fields := [fRwl 27 16, fRwl 10 0], cnt := 8, stride := 0x20 },
    { off := 0x108, reset := 0, fields := [fRwl 19 0], cnt := 8, stride := 0x20 },
    { off := 0x10C, reset := 0, fields := [fRwl 31 0], cnt := 8, stride := 0x20 },
    { off := 0x110, reset := 0, fields := [fRwl 31 0], cnt := 8, stride := 0x20 },
    { off := 0x114, reset := 0, fields := [fRo 31 0], cnt := 8, stride := 0x20 },
    { off := 0x118, reset := 0, fields := [fRo 31 0], cnt := 8, stride := 0x20 },
    { off := 0x11C, reset := 0, fields := [fRo 31 16], cnt := 8, stride := 0x20, v1 := .absent },
    { off := 0x200, reset := 0, fields := [fRo 31 28, fRo 15 0], cnt := 8 } ]

/-- The registers of 16 profile generators from offset `off`. -/
def regsPg (off : Nat) (v : V1) : List RegRow :=
  [ { off := off, reset := 0, fields := [fRw 31 31, fRwl 19 16, fRwl 10 8], cnt := 16, stride := 0x20, v1 := v },
    { off := off + 4, reset := 0, fields := [fRwl 30 0], cnt := 16, stride := 0x20, v1 := v },
    { off := off + 8, reset := 0, fields := [fRwl 30 0], cnt := 16, stride := 0x20, v1 := v },
    { off := off + 0xC, reset := 0, fields := [fRwl 30 0], cnt := 16, stride := 0x20, v1 := v },
    { off := off + 0x10, reset := 0, fields := [fRw 31 0], cnt := 16, stride := 0x20, v1 := v },
    { off := off + 0x14, reset := 0, fields := [fRo 31 0], cnt := 16, stride := 0x20, v1 := v },
    { off := off + 0x18, reset := 0, fields := [fRo 31 0], cnt := 16, stride := 0x20, v1 := v },
    { off := off + 0x1C, reset := 0, fields := [fRo 31 0], cnt := 16, stride := 0x20, v1 := v } ]

/-- Registers of TELC (R269-R279). -/
def regsTelc : List RegRow :=
  [ { off := 0x040, reset := 0x80000064, fields := [fRwl 31 31, fRwl 7 0] },
    { off := 0x044, reset := 0, fields := [fRo 31 30, fRo 27 24, fRo 19 16, fRo 6 0], v1 := .view 0xFFFFFF80 0 },
    { off := 0x048, reset := 0, fields := [fRw 31 0] },
    { off := 0x04C, reset := 0x00000200, fields := [fRo 31 16, fRo 11 8, fRo 1 0], v1 := .view 0xFFFFFFFD 0 } ] ++
  regsPg 0x400 .same ++ regsPg 0x600 .absent

/-! ### Chapter 13: SETL, MPm -/

/-- The 16 low bits of a destination register: DEST_EN, T, S, D. -/
def fDest : List Field := [fRwl 15 15, fRwl 11 8, fRwl 6 4, fRwl 1 0]

/-- Registers of SETL (R313-R329). -/
def regsSetl : List RegRow :=
  [ { off := 0x010, reset := 0, fields := [fW1c 31 31, fRo 30 30, fRo 12 8, fW1c 2 0], v1 := .view 0xBFFFFFFF 0 },
    { off := 0x014, reset := 0, fields := [fW1c 9 8, fW1c 4 0] },
    { off := 0x040, reset := 0x1F4, fields := [fRwl 15 0] },
    { off := 0x044, reset := 0, fields := [fRw 31 0], cnt := 2 },
    { off := 0x04C, reset := 4, fields := [fRwl 7 0] },
    { off := 0x050, reset := 0, fields := [fRwl 31 0], cnt := 2 },
    { off := 0x058, reset := 0, fields := [fRwl 30 0] },
    { off := 0x05C, reset := 0, fields := [fRw 31 0] },
    { off := 0x060, reset := 0, fields := [fRo 31 0], cnt := 3 },
    { off := 0x06C, reset := 0, fields := [fWo 1 0] },
    { off := 0x070, reset := 0, fields := [fRo 31 26, fW1c 25 25, fRo 15 0] },
    { off := 0x074, reset := 0, fields := [fRo 31 0], cnt := 2 },
    { off := 0x07C, reset := 0, fields := [fRo 31 0], v1 := .absent },
    { off := 0x080, reset := 0, fields := [fRo 31 0] },
    { off := 0x100, reset := 0, fields := [fRw 31 31, fRwl 30 27, fRwl 25 24, fRwl 22 20] ++ fDest, cnt := 16, stride := 0x20,
      v1 := .view 0xEFFFFFFF 0 },
    { off := 0x104, reset := 0, fields := [fRw 30 0], cnt := 16, stride := 0x20 },
    { off := 0x108, reset := 0, fields := [fRw 30 0], cnt := 16, stride := 0x20 },
    { off := 0x10C, reset := 0, fields := [fRw 30 0], cnt := 16, stride := 0x20 },
    { off := 0x110, reset := 0, fields := [fRw 31 0], cnt := 16, stride := 0x20 },
    { off := 0x114, reset := 0, fields := [fRw 31 0], cnt := 16, stride := 0x20 },
    { off := 0x118, reset := 0, fields := [fRwl 30 0], cnt := 16, stride := 0x20 },
    { off := 0x11C, reset := 0, fields := [fRw 31 0], cnt := 16, stride := 0x20, v1 := .absent },
    { off := 0x300, reset := 0, fields := [fRo 31 0], cnt := 16, stride := 0x10 },
    { off := 0x304, reset := 0, fields := [fRo 31 0], cnt := 16, stride := 0x10 },
    { off := 0x308, reset := 0, fields := fDest, cnt := 16, stride := 0x10, v1 := .absent } ]

/-- Registers of MPm (R332-R340). -/
def regsMp : List RegRow :=
  [ { off := 0x010, reset := 0, fields := [fW1c 31 31, fRo 30 30, fRo 11 8, fW1c 2 0], v1 := .view 0xBFFFFFFF 0 },
    { off := 0x014, reset := 0, fields := [fW1c 4 0] },
    { off := 0x040, reset := 0, fields := [fRw 31 0], cnt := 2 },
    { off := 0x048, reset := 0x32, fields := [fRwl 11 0] },
    { off := 0x04C, reset := 0, fields := [fRwl 31 0] },
    { off := 0x050, reset := 0x7FFFFFFF, fields := [fRwl 31 0] },
    { off := 0x054, reset := 0, fields := [fRwl 31 0], cnt := 6 },
    { off := 0x06C, reset := 0xC00F2804, fields := [fRwl 31 30, fRwl 21 16, fRwl 15 8, fRwl 4 0], v1 := .view 0xBFFFFFFF 0 },
    { off := 0x070, reset := 0, fields := [fRwl 31 0], cnt := 2 },
    { off := 0x078, reset := 0, fields := fDest },
    { off := 0x07C, reset := 0, fields := fDest, v1 := .absent },
    { off := 0x080, reset := 0, fields := [fRo 31 0], cnt := 2 },
    { off := 0x088, reset := 0, fields := [fRo 31 30, fRo 21 16, fRo 11 0] },
    { off := 0x08C, reset := 0, fields := [fRo 31 0] },
    { off := 0x090, reset := 0, fields := [fWo 0 0], v1 := .absent } ]

/-! ### Chapter 14: GSYNC, GFRT, GISL, GTAB -/

/-- Registers of GSYNC (R341-R354). -/
def regsGsync : List RegRow :=
  [ { off := 0x010, reset := 0, fields := [fW1c 31 31, fRo 30 30, fRo 12 8, fW1c 2 0], v1 := .view 0xBFFFEFFF 0 },
    { off := 0x014, reset := 0, fields := [fW1c 3 0], v1 := .view 0xFFFFFFFD 0 },
    { off := 0x040, reset := 0, fields := [fRw 31 0], cnt := 6 },
    { off := 0x058, reset := 0, fields := [fRwl 31 0], cnt := 2 },
    { off := 0x060, reset := 0, fields := [fRwl 20 16, fRwl 11 0], v1 := .view 0xFFFFF000 0 },
    { off := 0x064, reset := 0x5A82002E, fields := [fRwl 31 0] },
    { off := 0x068, reset := 0x0CCD0528, fields := [fRwl 31 0] },
    { off := 0x06C, reset := 0, fields := [fRw 15 0] },
    { off := 0x070, reset := 0x4000, fields := [fRwl 15 0] },
    { off := 0x074, reset := 0, fields := fDest },
    { off := 0x078, reset := 0, fields := fDest, v1 := .absent },
    { off := 0x080, reset := 0, fields := [fRo 31 0], cnt := 9 } ]

/-- Registers of GFRT (R350-R366). -/
def regsGfrt : List RegRow :=
  [ { off := 0x010, reset := 0, fields := [fW1c 31 31, fRo 30 30, fRo 12 5, fW1c 0 0], v1 := .view 0xBFFFFFFF 0 },
    { off := 0x014, reset := 0, fields := [fW1c 3 0] },
    { off := 0x040, reset := 0x30000A00, fields := [fRwl 31 28, fRwl 25 24, fRwl 15 8], v1 := .view 0xBFFFFFFF 0 },
    { off := 0x044, reset := 0x4666399A, fields := [fRwl 31 0] },
    { off := 0x048, reset := 0x4CCD2000, fields := [fRwl 31 0] },
    { off := 0x04C, reset := 0x4666399A, fields := [fRwl 31 0] },
    { off := 0x050, reset := 0x40002000, fields := [fRwl 31 0] },
    { off := 0x054, reset := 0x3666, fields := [fRwl 15 0] },
    { off := 0x058, reset := 0x14, fields := [fRwl 15 0] },
    { off := 0x05C, reset := 0, fields := [fRw 30 0], cnt := 3 },
    { off := 0x068, reset := 0x43333AB0, fields := [fRwl 31 0] },
    { off := 0x06C, reset := 0x0064FE0C, fields := [fRwl 31 0], v1 := .absent },
    { off := 0x070, reset := 0x12C, fields := [fRwl 15 0] },
    { off := 0x074, reset := 0, fields := [fWo 31 0] },
    { off := 0x078, reset := 0, fields := [fRo 31 0], cnt := 2 } ]

/-- Registers of GISL (R360-R366). -/
def regsGisl : List RegRow :=
  [ { off := 0x010, reset := 0, fields := [fW1c 31 31, fRo 30 30, fRo 12 11, fRo 7 5, fW1c 0 0], v1 := .view 0xBFFFFFFF 0 },
    { off := 0x014, reset := 0, fields := [fW1c 2 0] },
    { off := 0x040, reset := 0, fields := [fRwl 31 29], v1 := .view 0xDFFFFFFF 0 },
    { off := 0x044, reset := 0x07D01432, fields := [fRwl 31 0] },
    { off := 0x048, reset := 0x071C0005, fields := [fRwl 31 16, fRwl 7 0] },
    { off := 0x04C, reset := 0x02EE0032, fields := [fRwl 31 0] },
    { off := 0x050, reset := 0x0214, fields := [fRwl 15 0], v1 := .view 0xFFFF00FF 0x100 },
    { off := 0x054, reset := 0x3E8, fields := [fRwl 31 0] },
    { off := 0x058, reset := 0, fields := [fRo 31 0] },
    { off := 0x05C, reset := 0, fields := [fRo 31 16], v1 := .absent },
    { off := 0x060, reset := 0, fields := [fWo 31 0] },
    { off := 0x064, reset := 0, fields := [fRo 31 0] } ]

/-- Registers of GTAB (R369): the shadow tables, and the active copies 0x400 higher. -/
def regsGtab : List RegRow :=
  [ { off := 0x040, reset := 0, fields := [fWo 31 0] },
    { off := 0x044, reset := 0, fields := [fRo 31 0] },
    { off := 0x048, reset := 0, fields := [fRwl 15 8, fRwl 1 0], v1 := .view 0xFFFFFFFC 0 },
    { off := 0x100, reset := 0, fields := [fRwl 31 0], cnt := 16 },
    { off := 0x140, reset := 0xFFFF, fields := [fRwl 31 0], cnt := 16 },
    { off := 0x180, reset := 0, fields := [fRwl 31 30, fRwl 16 0], cnt := 2, stride := 8 },
    { off := 0x184, reset := 0, fields := [fRwl 19 0], cnt := 2, stride := 8 },
    { off := 0x190, reset := 0, fields := [fRwl 31 30, fRwl 16 0], cnt := 2, stride := 8, v1 := .absent },
    { off := 0x194, reset := 0, fields := [fRwl 19 0], cnt := 2, stride := 8, v1 := .absent },
    { off := 0x1A0, reset := 0, fields := [fRwl 31 30, fRwl 16 0], cnt := 2, stride := 8 },
    { off := 0x1A4, reset := 0, fields := [fRwl 19 0], cnt := 2, stride := 8 },
    { off := 0x1B0, reset := 0, fields := [fRwl 31 30, fRwl 16 0], cnt := 2, stride := 8, v1 := .absent },
    { off := 0x1B4, reset := 0, fields := [fRwl 19 0], cnt := 2, stride := 8, v1 := .absent },
    { off := 0x1C0, reset := 0, fields := [fRwl 31 30, fRwl 16 0], cnt := 2, stride := 8 },
    { off := 0x1C4, reset := 0, fields := [fRwl 19 0], cnt := 2, stride := 8 },
    { off := 0x1D0, reset := 0, fields := [fRwl 31 30, fRwl 16 0], cnt := 2, stride := 8, v1 := .absent },
    { off := 0x1D4, reset := 0, fields := [fRwl 19 0], cnt := 2, stride := 8, v1 := .absent },
    { off := 0x1E0, reset := 0, fields := [fRwl 31 30, fRwl 16 0], cnt := 2, stride := 8 },
    { off := 0x1E4, reset := 0, fields := [fRwl 19 0], cnt := 2, stride := 8 },
    { off := 0x1F0, reset := 0, fields := [fRwl 31 30, fRwl 16 0], cnt := 2, stride := 8, v1 := .absent },
    { off := 0x1F4, reset := 0, fields := [fRwl 19 0], cnt := 2, stride := 8, v1 := .absent },
    { off := 0x448, reset := 0, fields := [fRo 31 0], v1 := .view 0xFFFFFFFC 0 },
    { off := 0x500, reset := 0, fields := [fRo 31 0], cnt := 16 },
    { off := 0x540, reset := 0xFFFF, fields := [fRo 31 0], cnt := 16 },
    { off := 0x580, reset := 0, fields := [fRo 31 0], cnt := 4 },
    { off := 0x590, reset := 0, fields := [fRo 31 0], cnt := 4, v1 := .absent },
    { off := 0x5A0, reset := 0, fields := [fRo 31 0], cnt := 4 },
    { off := 0x5B0, reset := 0, fields := [fRo 31 0], cnt := 4, v1 := .absent },
    { off := 0x5C0, reset := 0, fields := [fRo 31 0], cnt := 4 },
    { off := 0x5D0, reset := 0, fields := [fRo 31 0], cnt := 4, v1 := .absent },
    { off := 0x5E0, reset := 0, fields := [fRo 31 0], cnt := 4 },
    { off := 0x5F0, reset := 0, fields := [fRo 31 0], cnt := 4, v1 := .absent } ]

/-! ### Chapter 18: HEALTH -/

/-- Registers of HEALTH (R466-R484). LEFT of SLICE is computed where it is read. -/
def regsHealth : List RegRow :=
  [ { off := 0x040, reset := 0x0A0A5E14, fields := [fRwl 31 0] },
    { off := 0x044, reset := 0x1F, fields := [fRwl 4 0] },
    { off := 0x048, reset := 0, fields := [fRwl 31 0] },
    { off := 0x04C, reset := 0, fields := [fRwl 23 0] },
    { off := 0x050, reset := 0, fields := [fRwl 31 0] },
    { off := 0x054, reset := 0, fields := [fRwl 23 0] },
    { off := 0x058, reset := 0x4010, fields := [fRwl 15 0] },
    { off := 0x060, reset := 0x02020101, fields := [fRo 31 0] },
    { off := 0x064, reset := 0, fields := [fRo 31 0], cnt := 3 },
    { off := 0x070, reset := 0, fields := [fW1c 31 0] },
    { off := 0x074, reset := 0, fields := [fW1c 23 0] },
    { off := 0x080, reset := 0, fields := [fRo 31 0] },
    { off := 0x084, reset := 0, fields := [fRw 31 0] },
    { off := 0x090, reset := 0x64, fields := [fRo 31 16, fRwl 15 0] },
    { off := 0x094, reset := 0, fields := [fW1c 31 31, fRo 30 30, fRo 23 16, fRo 7 0] },
    { off := 0x098, reset := 0, fields := [fRo 31 0] },
    { off := 0x09C, reset := 0, fields := [fRw 31 0] },
    { off := 0x0A0, reset := 0, fields := [fRo 31 0] },
    { off := 0x0B0, reset := 0, fields := [fRwl 31 4, fRwl 0 0] },
    { off := 0x0B4, reset := 0, fields := [fRo 15 0] } ]

/-! ### Chapter 19: OXn -/

/-- Registers of OXn (R486-R503). CTRL carries RETRAIN. -/
def regsOx : List RegRow :=
  [ { off := 0x00C, reset := 0, fields := [fWo 2 1, fRw 0 0] },
    { off := 0x010, reset := 0, fields := [fW1c 31 31, fRo 30 30, fRo 10 8, fW1c 4 0], v1 := .view 0xBFFFFFFF 0 },
    { off := 0x014, reset := 0, fields := [fW1c 6 0] },
    { off := 0x040, reset := 0x83040A64, fields := [fRwl 31 31, fRwl 25 0], v1 := .view 0xFDFFFFFF 0 },
    { off := 0x044, reset := 0, fields := [fRo 31 0], cnt := 3 },
    { off := 0x050, reset := 0x8000, fields := [fRo 31 0] },
    { off := 0x054, reset := 0, fields := [fRw 31 0], cnt := 2 },
    { off := 0x060, reset := 0, fields := [fW1c 15 8, fRo 7 0], cnt := 6 },
    { off := 0x080, reset := 0, fields := [fWo 31 31, fRo 30 30, fRw 26 24, fRw 7 0] },
    { off := 0x084, reset := 0, fields := [fRw 15 0] },
    { off := 0x088, reset := 0, fields := [fRo 31 0] },
    { off := 0x08C, reset := 0, fields := [fRo 31 0], v1 := .absent } ]

/-! ### Chapter 20: ETHm, CANm, XSPI, DDRC, DDRPHY, REC, UARTm, SPIm, GPIO, CPn -/

/-- Registers of ETHm (R512-R514, R529). The keys at 0x600 are held in the state: they read 0. -/
def regsEth : List RegRow :=
  [ { off := 0x014, reset := 0, fields := [fW1c 10 8, fW1c 6 0] },
    { off := 0x040, reset := 0x5EE, fields := [fRwl 31 26, fRwl 13 0] },
    { off := 0x044, reset := 0, fields := [fRwl 31 0] },
    { off := 0x048, reset := 0, fields := [fRwl 15 0] },
    { off := 0x04C, reset := 0, fields := [fRw 31 0], cnt := 2 },
    { off := 0x060, reset := 0x800001A0, fields := [fRw 31 31, fWo 30 30, fRw 8 7, fRw 5 5] },
    { off := 0x064, reset := 0, fields := [fRo 31 0] },
    { off := 0x068, reset := 0xFFFF, fields := [fWo 31 31, fRw 15 0] },
    { off := 0x080, reset := 0, fields := [fRwl 31 4] },
    { off := 0x084, reset := 0, fields := [fRwl 12 0] },
    { off := 0x088, reset := 0, fields := [fRo 11 0] },
    { off := 0x08C, reset := 0, fields := [fRw 11 0] },
    { off := 0x090, reset := 0, fields := [fRwl 31 4] },
    { off := 0x094, reset := 0, fields := [fRwl 12 0] },
    { off := 0x098, reset := 0, fields := [fRo 11 0] },
    { off := 0x09C, reset := 0, fields := [fRw 11 0] },
    { off := 0x0A0, reset := 0x800, fields := [fRwl 13 0] },
    { off := 0x100, reset := 0, fields := [fRo 31 0], cnt := 8 },
    { off := 0x120, reset := 0, fields := [fWo 0 0] },
    { off := 0x300, reset := 0, fields := [fRo 31 0], cnt := 3 },
    { off := 0x30C, reset := 0, fields := [fRw 31 0] },
    { off := 0x310, reset := 0, fields := [fRw 31 0] },
    { off := 0x314, reset := 0, fields := [fRw 30 0] },
    { off := 0x318, reset := 0, fields := [fWo 0 0] },
    { off := 0x320, reset := 0x64, fields := [fRw 31 31, fRw 7 0] },
    { off := 0x324, reset := 0, fields := [fRo 31 0], cnt := 2 },
    { off := 0x330, reset := 0, fields := [fRw 31 0] },
    { off := 0x334, reset := 0, fields := [fRw 29 0] },
    { off := 0x340, reset := 0, fields := [fRo 31 0], cnt := 4 },
    { off := 0x350, reset := 0, fields := [fRw 0 0], v1 := .absent },
    { off := 0x400, reset := 0, fields := [fRwl 31 30, fRwl 17 16, fRwl 1 0], v1 := .absent },
    { off := 0x410, reset := 0, fields := [fRwl 31 0], cnt := 8, v1 := .absent },
    { off := 0x600, reset := 0, fields := [fWo 31 0], cnt := 128, v1 := .absent } ]

/-- Registers of CANm (R515, R529). -/
def regsCan : List RegRow :=
  [ { off := 0x014, reset := 0, fields := [fW1c 5 0] },
    { off := 0x040, reset := 1, fields := [fWo 8 8, fRw 5 0] },
    { off := 0x044, reset := 0, fields := [fRw 31 8, fRw 6 0] },
    { off := 0x048, reset := 0, fields := [fRw 31 28, fRw 24 20, fRw 15 8, fRw 4 0] },
    { off := 0x04C, reset := 0, fields := [fRw 31 31, fRw 22 16], v1 := .absent },
    { off := 0x050, reset := 0, fields := [fRo 31 0] },
    { off := 0x054, reset := 0, fields := [fRwl 31 7] },
    { off := 0x200, reset := 0, fields := [fRw 31 30, fW1s 29 29, fW1c 28 27], cnt := 64 },
    { off := 0x400, reset := 0, fields := [fRwl 31 25, fRwl 21 0], cnt := 128 },
    { off := 0x600, reset := 0, fields := [fRwl 31 31, fRwl 28 0], cnt := 64, stride := 16 },
    { off := 0x604, reset := 0, fields := [fRwl 28 0], cnt := 64, stride := 16 },
    { off := 0x608, reset := 0, fields := [fRwl 5 0], cnt := 64, stride := 16 } ]

/-- Registers of XSPI (R516, R529). -/
def regsXspi : List RegRow :=
  [ { off := 0x014, reset := 0, fields := [fW1c 2 0] },
    { off := 0x040, reset := 0x00030003, fields := [fRwl 31 31, fRwl 27 24, fRwl 20 16, fRwl 15 8, fRwl 1 0], cnt := 2 },
    { off := 0x050, reset := 0, fields := [fWo 31 31, fRo 30 30, fRw 28 24, fRw 20 16, fRw 15 8] },
    { off := 0x054, reset := 0, fields := [fRw 31 0] },
    { off := 0x058, reset := 0, fields := [fRw 8 0] },
    { off := 0x05C, reset := 0x05010064, fields := [fRw 31 0] },
    { off := 0x060, reset := 0, fields := [fRw 31 0] },
    { off := 0x064, reset := 0, fields := [fRo 31 0] },
    { off := 0x100, reset := 0, fields := [fRw 31 0], cnt := 64 } ]

/-- Registers of DDRC (R517, R529). -/
def regsDdrc : List RegRow :=
  [ { off := 0x014, reset := 0, fields := [fW1c 3 0] },
    { off := 0x040, reset := 0, fields := [fRwl 31 31] },
    { off := 0x044, reset := 0x24244424, fields := [fRwl 31 0] },
    { off := 0x048, reset := 0x01180F3C, fields := [fRwl 31 0] },
    { off := 0x04C, reset := 0x10401010, fields := [fRwl 31 0] },
    { off := 0x050, reset := 0, fields := [fRw 31 0] },
    { off := 0x054, reset := 0, fields := [fRo 31 0] },
    { off := 0x058, reset := 0, fields := [fRo 15 0] } ]

/-- Registers of DDRPHY (R517, R529). -/
def regsDdrphy : List RegRow :=
  [ { off := 0x014, reset := 0, fields := [fW1c 2 0] },
    { off := 0x040, reset := 3, fields := [fRwl 2 0] },
    { off := 0x044, reset := 0, fields := [fRwl 7 0] },
    { off := 0x048, reset := 0, fields := [fWo 0 0] },
    { off := 0x04C, reset := 0, fields := [fRo 31 0] },
    { off := 0x050, reset := 0, fields := [fRo 15 0], cnt := 8, v1 := .absent },
    { off := 0x070, reset := 0x80000064, fields := [fRw 31 31, fRw 7 0] } ]

/-- Registers of REC (R525-R528). -/
def regsRec : List RegRow :=
  [ { off := 0x010, reset := 0, fields := [fW1c 31 31, fRo 30 30, fRo 9 8, fW1c 0 0], v1 := .view 0xBFFFFFFF 0 },
    { off := 0x014, reset := 0, fields := [fW1c 2 0] },
    { off := 0x040, reset := 0, fields := [fRwl 28 24, fRwl 9 0] },
    { off := 0x044, reset := 0, fields := [fRwl 31 16] },
    { off := 0x048, reset := 0, fields := [fRwl 15 0] },
    { off := 0x04C, reset := 0, fields := [fRwl 23 0] },
    { off := 0x050, reset := 0, fields := [fRwl 6 0] },
    { off := 0x054, reset := 0, fields := [fRwl 31 0] },
    { off := 0x058, reset := 0, fields := [fRwl 23 0] },
    { off := 0x05C, reset := 0, fields := [fWo 1 0] },
    { off := 0x060, reset := 0, fields := [fRo 31 0], cnt := 3 },
    { off := 0x06C, reset := 0, fields := [fRw 31 0] },
    { off := 0x070, reset := 0, fields := [fRo 31 0], cnt := 2, v1 := .absent },
    { off := 0x078, reset := 0, fields := [fRo 31 0] },
    { off := 0x100, reset := 0, fields := [fRwl 23 0], cnt := 32 },
    { off := 0x180, reset := 0, fields := [fRw 31 0], cnt := 8 } ]

/-- Registers of UARTm (R518, R529). -/
def regsUart : List RegRow :=
  [ { off := 0x014, reset := 0, fields := [fW1c 5 0] },
    { off := 0x040, reset := 0x1B20, fields := [fRwl 23 0] },
    { off := 0x044, reset := 3, fields := [fRwl 5 0] },
    { off := 0x048, reset := 0, fields := [fWo 7 0] },
    { off := 0x04C, reset := 0, fields := [fRo 31 0] },
    { off := 0x050, reset := 0, fields := [fRo 31 0] },
    { off := 0x054, reset := 0x00010000, fields := [fRw 21 16, fRw 5 0] } ]

/-- Registers of SPIm (R518, R529). -/
def regsSpi : List RegRow :=
  [ { off := 0x014, reset := 0, fields := [fW1c 2 0] },
    { off := 0x040, reset := 7, fields := [fRwl 11 0] },
    { off := 0x044, reset := 0x700, fields := [fRwl 12 8, fRwl 2 0] },
    { off := 0x048, reset := 0, fields := [fRw 15 8, fRw 2 0] },
    { off := 0x04C, reset := 0, fields := [fWo 31 0] },
    { off := 0x050, reset := 0, fields := [fRo 31 0] },
    { off := 0x054, reset := 0, fields := [fRo 31 0] } ]

/-- Registers of GPIO (R518, R529). -/
def regsGpio : List RegRow :=
  [ { off := 0x040, reset := 0, fields := [fRw 31 0], cnt := 2 },
    { off := 0x048, reset := 0, fields := [fWo 31 0], cnt := 2 },
    { off := 0x050, reset := 0, fields := [fRo 31 0] },
    { off := 0x054, reset := 0, fields := [fRw 31 0], cnt := 3 },
    { off := 0x060, reset := 0, fields := [fRwl 31 0], cnt := 8, v1 := .absent },
    { off := 0x080, reset := 0, fields := [fRw 31 0], cnt := 2 } ]

/-- Registers of CPn (R519-R524). -/
def regsCp : List RegRow :=
  [ { off := 0x010, reset := 0x77000, fields := [fW1c 31 31, fRo 30 30, fRo 18 16, fRo 14 12, fRo 3 0], v1 := .view 0xBFFFFFFF 0 },
    { off := 0x014, reset := 0, fields := [fW1c 2 0] },
    { off := 0x040, reset := 0x3E8, fields := [fRw 31 31, fRw 9 0] },
    { off := 0x044, reset := 0x30A, fields := [fRwl 11 0], v1 := .view 0xFF 0x300 },
    { off := 0x048, reset := 0x32C82AF8, fields := [fRwl 31 0] },
    { off := 0x04C, reset := 0x27101F40, fields := [fRwl 31 0] },
    { off := 0x050, reset := 0x1B581388, fields := [fRwl 31 0] },
    { off := 0x054, reset := 0x0FA007D0, fields := [fRwl 31 0] },
    { off := 0x058, reset := 0xD508CD38, fields := [fRwl 31 0] },
    { off := 0x05C, reset := 0, fields := [fRwl 31 0], cnt := 2 },
    { off := 0x064, reset := 0, fields := [fRwl 31 24, fRwl 11 0], v1 := .absent },
    { off := 0x080, reset := 0, fields := [fRo 31 0], cnt := 3 },
    { off := 0x08C, reset := 0, fields := [fRo 31 0], v1 := .absent },
    { off := 0x090, reset := 0, fields := [fRo 31 0] } ]

/-- Every page of the allocation table of R138. -/
def pageTable : List PageRow :=
  [ { name := "SYS", base := 0x40000000, typ := 0x01, dom := .fab, alwaysOn := true, regs := regsSys },
    { name := "ADPLLA", base := 0x40001000, typ := 0x02, v1 := false, dom := .ref, alwaysOn := true, regs := regsAdpllA },
    { name := "ADPLLB", base := 0x40002000, typ := 0x02, inst0 := 1, v1 := false, dom := .ref, alwaysOn := true, regs := regsAdpllB },
    { name := "FAB", base := 0x40004000, typ := 0x03, dom := .fab, alwaysOn := true, regs := regsFab },
    { name := "INTC", base := 0x40008000, typ := 0x04, dom := .fab, alwaysOn := true, regs := regsIntc },
    { name := "C", base := 0x40010000, cnt := 26, size := 0x800, typ := 0x10, dom := .adc, regs := regsConv },
    { name := "ADCC", base := 0x4001F000, typ := 0x11, dom := .adc, regs := regsAdcc },
    { name := "PWM", base := 0x40020000, cnt := 48, typ := 0x12, dom := .pwm, regs := regsPwm },
    { name := "PWMC", base := 0x40050000, typ := 0x13, dom := .pwm, regs := regsPwmc },
    { name := "T", base := 0x40060000, cnt := 14, typ := 0x18, dom := .tel, regs := regsTlr 0 },
    { name := "T", base := 0x4006E000, cnt := 2, typ := 0x18, inst0 := 14, dom := .tel, regs := regsTlr 0xE0800 },
    { name := "TELC", base := 0x40070000, typ := 0x19, dom := .tel, regs := regsTelc },
    { name := "SETL", base := 0x40080000, typ := 0x20, dom := .fab, regs := regsSetl },
    { name := "MP", base := 0x40081000, cnt := 4, typ := 0x21, dom := .fab, regs := regsMp },
    { name := "GSYNC", base := 0x40088000, typ := 0x22, dom := .fab, regs := regsGsync },
    { name := "GFRT", base := 0x40089000, typ := 0x22, inst0 := 1, dom := .fab, regs := regsGfrt },
    { name := "GISL", base := 0x4008A000, typ := 0x22, inst0 := 2, dom := .fab, regs := regsGisl },
    { name := "GTAB", base := 0x4008B000, typ := 0x22, inst0 := 3, dom := .fab, regs := regsGtab },
    { name := "HEALTH", base := 0x40090000, typ := 0x28, v1 := false, dom := .fab, regs := regsHealth },
    { name := "OX", base := 0x400B0000, cnt := 8, typ := 0x40, dom := .ox, regs := regsOx },
    { name := "ETH", base := 0x400A0000, cnt := 2, typ := 0x30, dom := .eth, regs := regsEth },
    { name := "CAN", base := 0x400A2000, cnt := 4, typ := 0x31, dom := .can, regs := regsCan },
    { name := "XSPI", base := 0x400A6000, typ := 0x32, dom := .xspi, regs := regsXspi },
    { name := "DDRC", base := 0x400A7000, typ := 0x33, dom := .ddr, regs := regsDdrc },
    { name := "DDRPHY", base := 0x400A8000, typ := 0x34, dom := .fab, regs := regsDdrphy },
    { name := "REC", base := 0x400A9000, typ := 0x35, dom := .fab, regs := regsRec },
    { name := "UART", base := 0x400AA000, cnt := 2, typ := 0x36, dom := .fab, regs := regsUart },
    { name := "SPI", base := 0x400AC000, cnt := 2, typ := 0x37, dom := .fab, regs := regsSpi },
    { name := "GPIO", base := 0x400AE000, typ := 0x38, dom := .fab, regs := regsGpio },
    { name := "CP", base := 0x400C0000, cnt := 4, typ := 0x41, dom := .fab, regs := regsCp },
    { name := "GATE", base := 0x40880000, cnt := 12, typ := 0x14, dom := .pwm, regs := regsGate },
    { name := "WCMP", base := 0x40801000, typ := 0x51, dom := .ps, regs := regsWcmp },
    { name := "PCMP", base := 0x40802000, typ := 0x52, dom := .ps, regs := regsPcmp },
    { name := "SMBX", base := 0x40804000, typ := 0x54, dom := .ps, alwaysOn := true, regs := regsSmbx },
    { name := "AUX", base := 0x40803000, typ := 0x53, dom := .ps, regs := regsAux },
    { name := "RSUP", base := 0x40800000, typ := 0x50, dom := .ps, alwaysOn := true, regs := regsRsup } ]

/-- The page whose range holds address `a`: its row, its instance and its base address. -/
def findPageIn (a : Nat) : List PageRow → Option (PageRow × Nat × Nat)
  | [] => none
  | p :: t =>
    if p.base ≤ a ∧ a < p.base + p.cnt * p.size then
      some (p, (a - p.base) / p.size, p.base + (a - p.base) / p.size * p.size)
    else findPageIn a t

/-- The page whose range holds address `a` (R137, R138). -/
def findPage (a : Nat) : Option (PageRow × Nat × Nat) := findPageIn a pageTable

/-- The row of a register table that holds offset `off`. A block's own row for a header offset stands before the header. -/
def findRow (off : Nat) : List RegRow → Option RegRow
  | [] => none
  | r :: t =>
    if r.off ≤ off ∧ off < r.off + r.cnt * r.stride ∧ (off - r.off) % r.stride = 0 then some r else findRow off t

/-- All rows of a page: the block's own, then the common header. -/
def PageRow.rows (p : PageRow) : List RegRow := p.regs ++ headerRows (if p.alwaysOn then 1 else 0)

/-- The row of the register at address `a`, when a page has a register there (R10: every other offset is reserved). -/
def rowAt (a : Nat) : Option RegRow :=
  match findPage a with
  | none => none
  | some (p, _, b) => findRow (a - b) p.rows

/-- The shipped values of the ledger window's registers (R396, R433); every other offset resets to 0. -/
def ledgerReset (off : Nat) : Word :=
  if 0x1040 ≤ off ∧ off < 0x1080 ∧ off % 4 = 0 then 0x80000000
  else if off = 0x1144 then 0x32
  else if 0x1154 ≤ off ∧ off < 0x1190 ∧ off % 16 = 4 then 5
  else if 0x11A0 ≤ off ∧ off < 0x11B4 ∧ off % 4 = 0 then 0xB3002710
  else if off = 0x2040 then 0x53000000
  else if off = 0x2044 then 0x64
  else 0

/-- The value a register shows after power-on reset (R12); a reserved offset shows 0 (R10). -/
def resetOf (a : Nat) : Word :=
  match findPage a with
  | none => if 0x40C00000 ≤ a then ledgerReset (a - 0x40C00000) else 0
  | some (p, i, b) =>
    match findRow (a - b) p.rows with
    | none => 0
    | some r => Word.ofNat (r.reset + i * r.perInst)

/-- The base address of the page that holds `a` (0 where no page does). -/
def pageBase (a : Nat) : Nat :=
  match findPage a with
  | none => 0
  | some (_, _, b) => b

end Sys2Proof.Machine
end

