-- ==== Sys2Proof/Machine/StateBase.lean ====
section
/-!
DEFINITION. The parts of the state that chapters 1 to 6 and 20 (clerks) name beside the registers: the reset controller and the
Dawn sequence, the clocks, the balls' latches, the clerks, bus accesses under way and the clearing fabric.
Every default value is the value after power-on reset (R86); the ones the manual does not give are in the assumption log.
-/
namespace Sys2Proof.Machine

/-- The three nested reset levels of R86. -/
inductive RLevel where
  | core | system | powerOn
deriving DecidableEq, Repr

/-- Where the Dawn sequence stands (R109): `held` while the control die is in reset (steps 1-3), `locking` after the fuse
load (step 5), `memTest` in step 6, `boot` in step 7, `running` once the clerks have started, `stopped` when the boot ROM
has stopped both clerks (R103, R106, R108). -/
inductive Dawn where
  | held | locking | memTest | boot | running | stopped
deriving DecidableEq, Repr

/-- The reset controller, the system watchdog and the links of the power-side die (R28-R31, R86-R109). -/
structure ResetCtl where
  /-- the reset being stretched, at its highest level in progress (R91, R92) -/
  stretch : Option RLevel := some .powerOn
  /-- clerks held by a core reset: bit 0 CLK0, bit 1 CLK1 (R89) -/
  coreMask : Nat := 0
  /-- RST_N is driven low by the KL960 (R92) -/
  rstnLow : Bool := true
  /-- the board holds RST_N low since a request was taken (R93) -/
  rstnHeld : Bool := false
  /-- TEST_EN was high at the release of the power-on reset: the control die stays in system reset (R53) -/
  testHeld : Bool := false
  /-- GATE_VETO is asserted (R31); VETO_N is low while it is (R60) -/
  veto : Bool := true
  /-- the reset controller's own assertion of it, from a power-on or system reset to a grant (R87, R111) -/
  vetoHold : Bool := true
  /-- the Dusk state lasts (R43-R45) -/
  dusk : Bool := false
  /-- heartbeat monitoring is armed (R30) -/
  hbArmed : Bool := false
  /-- the heartbeat was stopped by a grace expiry and stays so until a system reset (R122) -/
  hbStopped : Bool := false
  /-- the watchdog counts (R96) -/
  wdRun : Bool := false
  /-- the watchdog timeout in force, ms (R96) -/
  wdLimit : Nat := 2000
  /-- where the Dawn sequence stands -/
  dawn : Dawn := .held
  /-- BOOTSEL[2:0] as sampled (R103) -/
  straps : Nat := 0
  /-- the power-side die has taken the fused classes of its balls (R101) -/
  psClasses : Bool := false
  /-- ENTRY of the accepted image (R106) -/
  entry : Word := 0
  /-- a clock check has failed (R114) -/
  clockFail : Bool := false
  /-- boot images tried in this Dawn, and the code of the first that failed (R105) -/
  attempt : Nat := 0
  firstFail : Nat := 0
deriving DecidableEq, Repr

/-- What the fuse array and its shadow hold (R98-R102). -/
structure Fuses where
  /-- bits blown after Ferriad's programming: (word, bits), rising, none zero -/
  blown : List (Nat × Word) := []
  /-- the same for the shadow loaded at the last fuse load -/
  shadow : List (Nat × Word) := []
  /-- the classes that the latches of the balls of VDDIO_G, VDDIO_A, VDDIO_OX and VDDIO_X hold, as bits blown beyond the shipped
  classes (R101); none: every ball of the bank has its shipped class -/
  latched : List (List (Nat × Word)) := [[], [], [], []]
  /-- the same for the power-side balls (R101) -/
  latchedPs : List (Nat × Word) := []
deriving DecidableEq, Repr

/-- Balls and in-package levels no register shows (R48-R60). -/
structure Balls where
  /-- XSPI_RESET_N is high (R69, R107) -/
  xspiReset : Bool := false
  /-- the GPIO balls have been taken by a DIR write (R48) -/
  gpioTaken : Bool := false
  /-- pages whose block has taken its balls from their fused classes, by base address (R48) -/
  taken : List Nat := []
  /-- TRIP_IN0-TRIP_IN7 as last seen, one bit a ball (R217) -/
  tripIn : Nat := 0
  /-- instants at which pulses of PWM_SYNC_OUT that have not ended begin (R208) -/
  syncOut : List Nat := []
  /-- PPS_OUT is high (R514) -/
  ppsOut : Bool := false
  /-- CPn_OUT is high, one bit a pilot unit (R519) -/
  cpOut : Nat := 0
deriving DecidableEq, Repr

/-- The clocks beside their registers (R112-R134). -/
structure Clocks where
  /-- the grace count of ADPLL-A runs (R122) -/
  grace : Bool := false
  /-- interpolator trim codes of groups 0-5 (R125, R126) -/
  trims : List Nat := [0, 0, 0, 0, 0, 0]
  /-- the trim each of the 48 generators uses in its present period (R126) -/
  trimUsed : List Nat := List.replicate 48 0
deriving DecidableEq, Repr

/-- One hart as the reset controller, the fabric and the debug logic see it (R505-R511). Its program is firmware. -/
structure Clerk where
  /-- the hart is held in reset or stopped by the boot ROM -/
  held : Bool := true
  /-- the address the hart last started at (R106, R508) -/
  pc : Word := 0
  /-- register a0 at the last start (R508) -/
  a0 : Word := 0
  /-- CSR MCKPT (R507) -/
  mckpt : Word := 0
  /-- CSR MRSTINFO: cause code of the last core reset (R507) -/
  rstCause : Nat := 0
  /-- CSR MRSTINFO: core resets since system reset, saturating at 255 (R507) -/
  rstCount : Nat := 0
  /-- CSRs MTCMPH, MTCMP (R507): reset all ones -/
  mtcmp : BitVec 64 := BitVec.allOnes 64
  /-- the machine timer interrupt is pending (R507) -/
  mtip : Bool := false
  /-- the 16-byte block an LR has reserved (R506) -/
  resv : Option Nat := none
  /-- registers of the physical memory protection that are not 0 (R505): (CSR number, value), rising -/
  pmp : List (Nat × Nat) := []
  /-- blocks of 16 bytes the instruction cache holds (R505) -/
  icache : List Nat := []
  /-- the access fault last taken: (it was a store, its address) (R148) -/
  fault : Option (Bool × Nat) := none
  /-- halted by the debug module (R511) -/
  halted : Bool := false
deriving DecidableEq, Repr

/-- One access that has reached its target page: who, where, what (R155). `sub` is the teller instance that issued it
(R209); `tick` the instant, in units of 62.5 ps, at which a PWM or gate page applies it (R210). -/
structure Access where
  init : Nat
  addr : Nat
  data : Word
  write : Bool := true
  sub : Nat := 0
  tick : Nat := 0
  /-- the bytes of a write to memory -/
  bytes : List Byte := []
  /-- its initiator has been reset since: the response is discarded (R174) -/
  dead : Bool := false
deriving DecidableEq, Repr

/-- The last response a register page has given: the access, its error cause (0: none) and the data read. -/
structure Resp where
  init : Nat := 0
  addr : Nat := 0
  cause : Nat := 0
  data : Word := 0
deriving DecidableEq, Repr

/-- The register bus (R132, R142): accesses that wait, and the last response. -/
structure Bus where
  /-- accesses that wait for a stopped domain or a soft reset, oldest first -/
  waiting : List Access := []
  /-- pages whose soft reset is under way, by base address (R142) -/
  softRst : List Nat := []
  resp : Resp := {}
  /-- the initiator whose access is being applied: it reacts to an error response when the response reaches it (R157, R173) -/
  quiet : Option Nat := none
  /-- IRQ_RAW bits that block events set in the cycle in which the access being applied takes effect (R143) -/
  sameCycle : Word := 0
  /-- the CLK_FAB cycle of the access being applied, where its command names one, and that of the last capture in ERRINFO (R148) -/
  cycle : Option Nat := none
  capturedAt : Option Nat := none
deriving DecidableEq, Repr

/-- The priority classes of R158. -/
inductive SlipClass where
  | loop | host | bulk | test
deriving DecidableEq, Repr

/-- One slip (R155, R156): its tag is `coin`. `cycle` is the CLK_FAB cycle in which it was presented (R162). -/
structure Slip where
  coin : Nat := 0
  init : Nat
  addr : Nat
  write : Bool
  /-- the bytes written, or none for a read -/
  bytes : List Byte := []
  /-- the byte enables of a write; none listed: every byte is enabled (R155) -/
  enables : List Bool := []
  /-- bytes read -/
  len : Nat := 0
  cycle : Nat := 0
  /-- the teller instance or channel that issued it (R173) -/
  sub : Nat := 0
  /-- the teller unit that issued it (R266) -/
  unit : Option Nat := none
  /-- aged (R163) -/
  aged : Bool := false
  /-- urgent (R164) -/
  urgent : Bool := false
  /-- the deadline of the slice that issued it, in units of 62.5 ps (R164) -/
  deadline : Option Nat := none
  /-- its coin returns late under a PERTURB pattern (R176) -/
  late : Bool := false
  /-- granted by its port -/
  applied : Bool := false
  /-- granted, but on its way through the FIFO to a state memory: not applied there yet (R129, R157) -/
  onWay : Bool := false
  /-- error cause of the response, 0 none -/
  cause : Nat := 0
  /-- data of a read response -/
  data : List Byte := []
  kind : SlipKind := .plain
  /-- its initiator has been reset since: the response is discarded (R174) -/
  dead : Bool := false
deriving DecidableEq, Repr

/-- The last slip of one initiator that a register page received: the page, the target cycle, whether it was a write (R171). -/
structure PageGrant where
  page : Nat
  init : Nat
  target : Nat
  write : Bool
deriving DecidableEq, Repr

/-- The clearing fabric beside its registers (R155-R176). -/
structure Fabric where
  /-- slips in flight, oldest issue first; each holds its coin -/
  slips : List Slip := []
  /-- slips that wait for a coin, oldest first (R159) -/
  stalled : List Slip := []
  /-- coins a PERTURB pattern withholds (R176): (coin, the initiator that still holds it) -/
  withheld : List (Nat × Nat) := []
  /-- slips issued per initiator modulo 16, counted while COINPAT acts (R176): (initiator, count), rising -/
  pattern : List (Nat × Nat) := []
  /-- (port, cycle of its last urgent grant) (R164) -/
  urgentAt : List (Nat × Nat) := []
  /-- (port, consecutive grants at rank 0 or 1 while an aged HOST or TEST slip waited) (R165) -/
  turn : List (Nat × Nat) := []
  /-- the last slip of each initiator at each page (R171) -/
  lastGrant : List PageGrant := []
deriving DecidableEq, Repr

end Sys2Proof.Machine
end

