-- ==== Sys2Proof/Machine/StateControl.lean ====
section
/-!
DEFINITION. The parts of the state that the control chapters (7 to 14) name beside the registers.
Every default value is the value after power-on reset (R86).
-/
namespace Sys2Proof.Machine

/-! ### Chapter 7: converters -/

/-- A position's run (R185-R188). -/
structure ConvPos where
  /-- the entry being converted, none while no run is in progress -/
  cur : Option Nat := none
  /-- that entry's fields A and B as read at its acquisition start (R188) -/
  fieldsA : Word := 0
  fieldsB : Word := 0
  /-- the CLK_ADC cycle in which a trigger has just started the run, while its first entry is being converted (R186) -/
  started : Option Nat := none
  /-- the spare unit acquires the entry being converted too (R193) -/
  paired : Bool := false
  /-- the groups that started the run, one bit a group -/
  groups : Nat := 0
  /-- the run was merged (R186) -/
  merged : Bool := false
  /-- the run that waits: its groups and whether it was merged (R187) -/
  pend : Option (Nat × Bool) := none
  /-- the conversion in progress is to be discarded (R188) -/
  discard : Bool := false
  /-- where the pusher takes the result in RESULT: teller, number of the loop program's place there, slot (R190) -/
  dest : Option (Nat × Nat × Nat) := none
  /-- the last result of each entry that is not 0, for the recorder (R526): (entry, 16-bit result), rising -/
  last : List (Nat × Nat) := []
deriving DecidableEq, Repr

/-- A source event on its way to the trigger matrix (R127, R182): its code, its instant, and whether it stands for two events that
merged into one pulse. -/
structure SrcEvent where
  code : Nat
  time : Nat := 0
  twice : Bool := false
deriving DecidableEq, Repr

/-- Converters and trigger matrix (R177-R196). -/
structure Convs where
  pos : List ConvPos := List.replicate 26 {}
  /-- source events sent to the trigger matrix that it has not taken yet -/
  sent : List SrcEvent := []
  /-- events counted toward DIV, by group (R183) -/
  counts : List (Nat × Nat) := []
  /-- after a pass, the run that was in progress at the decision still lasts, so that its held successor stays on the old unit (R195) -/
  oldRun : Bool := false
  /-- exceedances of the current or last shadow, not saturated (R193) -/
  exceed : Nat := 0
  /-- spare units the self-test controller has released to the pool (R193) -/
  released : List Nat := []
  /-- units freed by a hand-over or a failed shadow that wait for self-test (R194, R195) -/
  freed : List Nat := []
  /-- positions in service, the one whose unit has served longest first (R469) -/
  order : List Nat := List.range 24
  /-- the last 16 rotations, newest first: the position whose rotation was abandoned (R469) -/
  rots : List (Option Nat) := []
  /-- the spare position and the position that the controller has chosen for the next rotation (R469) -/
  chosen : Option (Nat × Nat) := none
  /-- when the controller last started a rotation, in units of 62.5 ps -/
  rotTime : Option Nat := none
deriving DecidableEq, Repr

/-! ### Chapters 8 and 9: PWM generators and the gate unit -/

/-- A start that is scheduled: its instant, and the instant from which it has been known (R203, R206). -/
structure PwmStart where
  at_ : Nat
  known : Nat := 0
deriving DecidableEq, Repr

/-- The instant at which the sync of a start reaches the followers (R206): 128 units ahead, or as soon as the start is known. -/
def PwmStart.sent (p : PwmStart) : Nat := max (p.at_ - 128) p.known

/-- One PWM generator beside its registers (R197-R221). Instants are counted in units of 62.5 ps. -/
structure PwmGen where
  /-- the start of the present period -/
  t0 : Nat := 0
  /-- the reference waveform W (R199) -/
  w : Bool := false
  /-- the outputs A and B (R201, R202) -/
  outA : Bool := false
  outB : Bool := false
  /-- instants at which they last rose (R200) -/
  roseA : Nat := 0
  roseB : Nat := 0
  /-- the edges of CMP_ON, CMP_OFF and ADCCMP that have fired in this period -/
  firedOn : Bool := false
  firedOff : Bool := false
  firedAdc : Bool := false
  /-- the instant at which CMP_OFF last fired -/
  offAt : Nat := 0
  /-- turn-ons that wait for the end of a dead time: their instants (R201) -/
  dtA : Option Nat := none
  dtB : Option Nat := none
  /-- scheduled starts, in order (R203, R206) -/
  starts : List PwmStart := []
  /-- the instant at which the sync of the present period's start has reached, or reaches, the followers (R206) -/
  sent : Nat := 0
  /-- S of the last sync received, so that each sync is received once (R206) -/
  gotSync : Option Nat := none
  /-- live values that apply from the next period (R210): for CMP_ON, CMP_OFF, ADCCMP -/
  nextOn : Option Word := none
  nextOff : Option Word := none
  nextAdc : Option Word := none
  /-- live writes of the counter clock of a transfer, applied after it (R215): (register 0-3, value) -/
  after : List (Nat × Word) := []
  /-- the instant at which the commit of the armed generator became active (R213) -/
  armAt : Nat := 0
  /-- the trip has been cleared: the outputs stay low until the next period start (R219) -/
  rest : Bool := false
  /-- the CLK_PWM cycle of the last trip (R220) -/
  tripAt : Option Nat := none
deriving DecidableEq, Repr

/-- One half-bridge at the gate unit beside its registers (R222-R238). -/
structure GateHb where
  /-- the commands A and B at the gate unit's input (R222) -/
  cmdA : Bool := false
  cmdB : Bool := false
  /-- the balls HBn_GA and HBn_GB as the gate unit drives them; a standing GATE_VETO holds them low -/
  ballA : Bool := false
  ballB : Bool := false
  /-- the ball waits for the next rising edge of its command (R227) -/
  needA : Bool := true
  needB : Bool := true
  /-- instants at which the balls last fell (R224) -/
  fellA : Option Nat := none
  fellB : Option Nat := none
  /-- the ball that fell last: 0 none, 1 GA, 2 GB (R229) -/
  last : Nat := 0
  /-- a ball has been high since the half-bridge last entered Run (R229) -/
  high : Bool := false
  /-- both-on hold (R225) -/
  shoot : Bool := false
  /-- the generator's mode does not match the group's (R223) -/
  mism : Bool := false
  /-- the end of the last blanking window, and that this end has not been judged yet (R228) -/
  blankEnd : Nat := 0
  blankOpen : Bool := false
  /-- `blankEnd`, `blankOpen` and `high` before the last rise, for a pulse that is removed (R200) -/
  saveBlank : Nat := 0
  saveOpen : Bool := false
  saveHigh : Bool := false
  /-- HBn_FLT_N is low, as its pull-down leaves an open ball (R51, R228) -/
  flt : Bool := true
  /-- the fault ball, and the overcurrent line, have stayed active since the fault being waited on (R228) -/
  fltHeld : Bool := false
  ocHeld : Bool := false
  /-- GATE_VETO has disabled the group since its last enable (R32, R226) -/
  vetoed : Bool := false
  /-- the instant of the last fault (R233) -/
  faultAt : Option Nat := none
  /-- locked out until an enable toggle, through a disable too (R232) -/
  locked : Bool := false
  /-- in the lock-out of an escalation (R233) -/
  esc : Bool := false
  /-- command B has fallen since the lock-out began (R232) -/
  fellCmdB : Bool := false
  /-- the supply reports have put the half-bridge into UVLO (R237); it acts while UV_EN is 1 -/
  uv : Bool := true
  /-- consecutive good reports (R238) -/
  goodRpt : Nat := 0
deriving DecidableEq, Repr

/-- The auxiliary drivers beside their registers (R240-R243). What the balls show follows from this (`auxDrive`). -/
structure AuxDrv where
  /-- phases in their bootstrap precharge, bit n (R241) -/
  pre : Nat := 0
  /-- the period and the duties in force (R241) -/
  per : Nat := 2400
  duty : List Nat := [0, 0, 0]
  /-- phase n is in the part of its period before the duty match, bit n -/
  before : Nat := 0
  /-- an overcurrent that is not latched holds every HO off until the next period start (R243) -/
  ocHold : Bool := false
  /-- AX_CS is above the threshold, as last seen (R243) -/
  above : Bool := false
deriving DecidableEq, Repr

/-! ### Chapters 11 and 12: the teller array -/

/-- A fixed-count loop in progress (R304): bundles `start` to `last`, iteration `idx` of `n`. -/
structure LoopFrame where
  start : Nat
  last : Nat
  idx : Nat
  n : Nat
deriving DecidableEq, Repr

/-- What the C slot of a bundle has decided (R302). -/
inductive TCtl where
  | stop
  | br (t : Nat)
  | loop (n last : Nat)
deriving DecidableEq, Repr

/-- A run of an instance (R261, R281-R306): registers as they stand at the start of the present bundle, and what the bundle's
operations will write at its end (R283). -/
structure Run where
  inst : Nat
  /-- small-change form -/
  sc : Bool := false
  /-- library bundle of the image's header, and of bundle 0 of the form that runs -/
  prog : Nat := 0
  base : Nat := 0
  pc : Nat := 0
  /-- loops in progress, innermost first -/
  frames : List LoopFrame := []
  /-- the input slots and arrival bits as latched (R261) -/
  slots : List Word := List.replicate 16 0
  arr : Nat := 0
  v : List Word := List.replicate 32 0
  acc : List Int := [0, 0, 0, 0]
  p : List Bool := [false, false, false, false]
  sat : Bool := false
  /-- writes at the end of the bundle -/
  vW : List (Nat × Word) := []
  accW : List (Nat × Int) := []
  pW : List (Nat × Bool) := []
  satW : Bool := false
  ctl : Option TCtl := none
  /-- slots of the bundle whose operation has executed, bit 0 M0 … bit 3 C -/
  done : Nat := 0
  /-- a fixed stall runs (R306) -/
  fixed : Bool := false
  /-- state-memory writes at the end of the bundle: (address, bytes) (R283) -/
  stW : List (Nat × List Byte) := []
  /-- an output write or read that waits for a coin or for its port (R306) -/
  hold : Option Slip := none
  /-- where that write is a PUSH: position, instance and slot of its target, whose address it takes when it issues (R299) -/
  holdTo : Option (Nat × Nat × Nat) := none
  /-- an FRD waits for its response: the register, and the tag of its slip once issued (R156, R300) -/
  frd : Option Nat := none
  frdTag : Option Nat := none
  /-- the response to it -/
  frdVal : Option Word := none
  /-- a FENCE waits (R300) -/
  fence : Bool := false
  /-- a spare unit shadows the run (R272) -/
  shadowed : Bool := false
deriving DecidableEq, Repr

/-- One loop instance beside its registers (R259-R263). -/
structure TelInst where
  ready : Bool := false
  /-- arrival bits -/
  arr : Nat := 0
  /-- the CLK_TEL cycle at which it became ready (R262) -/
  since : Nat := 0
deriving DecidableEq, Repr

/-- One service position beside its registers (R256). -/
structure TelPos where
  inst : List TelInst := List.replicate 8 {}
  run : Option Run := none
  /-- the host position that serves it (R277) -/
  host : Option Nat := none
  /-- spare units of its consecutive mismatched shadows, and those of them that have passed self-test since (R274) -/
  mism : List Nat := []
  cleared : List Nat := []
  /-- the spare unit that takes the position over at the next edge without a run (R274) -/
  takeover : Option Nat := none
deriving DecidableEq, Repr

/-- A push that a TSM port has granted and that has not landed yet (R129, R260): the slip's tag, the slot's address, the word. -/
structure Arrival where
  coin : Nat
  addr : Nat
  data : Word
deriving DecidableEq, Repr

/-- The teller array (R256-R280). -/
structure TelArr where
  pos : List TelPos := List.replicate 16 {}
  /-- spare units that the self-test controller has released to the pool (R272) -/
  released : List Nat := []
  /-- units that wait for self-test -/
  freed : List Nat := []
  /-- positions in service, the one whose unit has served longest first (R469) -/
  order : List Nat := List.range 14
  /-- the last 16 rotations, newest first: the position whose rotation was abandoned (R469) -/
  rots : List (Option Nat) := []
  /-- the position and the spare position that the controller has chosen for the next rotation (R469) -/
  chosen : Option (Nat × Nat) := none
  /-- when the controller last started a rotation, in units of 62.5 ps -/
  rotTime : Option Nat := none
  /-- shadowed runs of each instance of the rotated position (R272) -/
  runs : List Nat := List.replicate 8 0
  /-- pushes on their way into the state memories, oldest first (R129, R260) -/
  arriving : List Arrival := []
deriving DecidableEq, Repr

/-! ### Chapters 13 and 14: the engines -/

/-- A deposit that an engine has formed and not yet issued (R324): engine (fabric initiator), MPPT channel, target slot
Dd of Tn.i, and its four words. -/
structure Dep where
  init : Nat
  sub : Nat := 0
  n : Nat
  i : Nat
  d : Nat
  words : List Word
deriving DecidableEq, Repr

/-- The settlement engine beside its registers (R313-R331). -/
structure Setl where
  /-- grants of the previous period (R320) -/
  prev : List Int := List.replicate 16 0
  /-- accounts that a write has disabled since the last period's snapshot, one bit an account (R323) -/
  dropped : Nat := 0
  /-- periods since the last VBUS write (R319) -/
  vbusAge : Nat := 0
  /-- accounts that the contingency table holds, and those it curtails (R326) -/
  tabMask : Nat := 0
  tabMoved : Nat := 0
  /-- the table left r different from 0 -/
  tabUnmet : Bool := false
  /-- CONTCTL.FORCE has raised a request; CONTCTL.CLR waits for the period start (R327, R329) -/
  force : Bool := false
  clr : Bool := false
deriving DecidableEq, Repr

/-- The best point of a scan so far (R338): its number, its V, I and p. -/
structure MpPoint where
  j : Nat
  v : Int
  i : Int
  p : Int
deriving DecidableEq, Repr

/-- One MPPT channel beside its registers (R332-R340). -/
structure MpChan where
  /-- running sums of the step and its samples (R332) -/
  sumV : Int := 0
  sumI : Int := 0
  n : Nat := 0
  /-- the values of the previous tracking step (R334) -/
  vp : Int := 0
  ip : Int := 0
  pp : Int := 0
  /-- the last step held; the first step with samples after a hold is still to come (R336) -/
  hold : Bool := false
  relock : Bool := false
  /-- steps of the present scan point's dwell, and the best point so far (R338) -/
  dwell : Nat := 0
  best : Option MpPoint := none
deriving DecidableEq, Repr

/-- The MPPT engine (R332-R340). -/
structure MpEng where
  ch : List MpChan := List.replicate 4 {}
  /-- due channels, in the order in which they became due (R337) -/
  due : List Nat := []
  /-- the channel that scans -/
  scanning : Option Nat := none
deriving DecidableEq, Repr

/-- The grid engine beside its registers (R341-R369). Words that the equations of the chapter compute are binary32. -/
structure Grid where
  /-- the last sample: VA, VB, VC, IA, IB, IC, and whether a step has used it (R341) -/
  smp : List Word := List.replicate 6 0
  fresh : Bool := false
  /-- CLK_FAB cycles from the stamp of the sample in use to its step's start -/
  age : Nat := 0
  /-- the frequency estimate in rad/s, and (x', qx') of each phase (R344, R346) -/
  w : Word := 0
  xs : List (Word × Word) := List.replicate 3 (0, 0)
  /-- the positive sequence, U_FRT and U_SV of the last step with a sample (R345, R350) -/
  vpos : Word := 0
  ufrt : Word := 0
  usv : Word := 0
  /-- consecutive stale steps; steps with |V-| above |V+|; steps in which the lock conditions held -/
  stale : Nat := 0
  seq : Nat := 0
  lock : Nat := 0
  /-- steps with U_SV below UFAST, and the dip declared from them (R357) -/
  dipN : Nat := 0
  dip : Bool := false
  /-- steps of the excursion, and steps in the continuous zone (R358) -/
  exSteps : Nat := 0
  cont : Nat := 0
  /-- steps for which each stage has been picked up: UV0-3, OV0-3, UF0-3, OF0-3 (R360) -/
  timers : List Nat := List.replicate 16 0
  /-- steps for which ROCOF and VS have been beyond their thresholds (R361) -/
  rocofN : Nat := 0
  vsN : Nat := 0
  /-- FREQ of the steps of one LOCKT window, newest first (R348) -/
  fSteps : List Word := []
  /-- steps since the last entry of the frequency history; that history, newest first (R351) -/
  ms : Nat := 0
  fHist : List Word := []
  /-- angle and frequency of the last 500 steps, newest first (R352) -/
  aHist : List (Word × Word) := []
  /-- the probe: its phase, the steps accumulated, the sums (V re, V im, I re, I im), consecutive high windows (R362-R364) -/
  thIh : Word := 0
  accN : Nat := 0
  acc : List Word := List.replicate 4 0
  high : Nat := 0
  /-- steps for which the enter-service conditions have held (R366) -/
  es : Nat := 0
  /-- the grid limits, and as they stood before the present step (R355) -/
  imp : Word := 0
  exp : Word := 0
  imp0 : Word := 0
  exp0 : Word := 0
  /-- accepted clears and an accepted APPLY that wait for the next step (R366, R369) -/
  clrTrip : Bool := false
  clrIsl : Bool := false
  apply : Bool := false
deriving DecidableEq, Repr

/-! ### Chapter 10: comparators -/

/-- One comparator (R244-R255): its two elements, or one for a DAC comparator (`hi`). -/
structure Cmp where
  hi : Bool := false
  lo : Bool := false
  /-- hysteresis in force for each element's return, in mV (R249) -/
  hysHi : Nat := 0
  hysLo : Nat := 0
  /-- the first decision runs (R251) -/
  first : Bool := false
  /-- the level line -/
  line : Bool := false
  /-- the configuration that has reached the comparator (R255) -/
  cfg : Word := 0
  /-- a check holds the comparator (R254) -/
  check : Bool := false
  /-- a claim that has ended left it enabled, until firmware writes PCn_CFG (R253) -/
  kept : Bool := false
  /-- the input against its sense ground in nV, as last seen -/
  vin : Int := 0
deriving DecidableEq, Repr

end Sys2Proof.Machine
end

