-- ==== Sys2Proof/Machine/StateHealth.lean ====
section
/-!
DEFINITION. The self-test controller and the memory engine beside their registers (chapter 18).
Every default value is the value after power-on reset and a sweep that passes every unit (R86, R467).
-/
namespace Sys2Proof.Machine

/-- The slice that runs (R466, R471). -/
structure Slice where
  /-- KIND and TARGET as the log codes them (R484) -/
  kind : Nat
  target : Nat
  /-- the whole slice is being repeated after a failure (R471) -/
  again : Bool := false
  /-- its deadline, in units of 62.5 ps -/
  deadline : Nat := 0
  /-- late: it starts again once its slips have completed (R474) -/
  late : Bool := false
deriving DecidableEq, Repr

/-- The checker slices of one clerk (R477). -/
structure Checker where
  /-- (slice, group) of the slices that serve, longest service first -/
  serving : List (Nat × Nat) := [(0, 0), (1, 1), (2, 2), (3, 3), (4, 4), (5, 5), (6, 6), (7, 7)]
  /-- the released spare slice -/
  spare : Option Nat := some 8
  /-- slices that wait for their test -/
  freed : List Nat := []
  /-- the spare slice checks in parallel with the slice that has served longest -/
  parallel : Bool := false
deriving DecidableEq, Repr

/-- The self-test controller and the memory engine (R466-R484). -/
structure Health where
  slice : Option Slice := none
  chk0 : Checker := {}
  chk1 : Checker := {}
  /-- the comparator the controller took last: WC0-WC47, PC0-PC7 (R476) -/
  cmpLast : Nat := 55
  /-- when the last check of a comparator, the last rotation of each clerk's slices (units of 62.5 ps) and the last scrub read (CLK_FAB
  cycle) began, if one has (R476, R477, R482) -/
  cmpTime : Option Nat := none
  chkTime : List (Option Nat) := [none, none]
  scrubTime : Option Nat := none
  /-- log records written (R484) -/
  records : Nat := 0
  /-- the next word the scrub reads: MEM and 16-byte word of it (R482) -/
  scrubMem : Nat := 0
  scrubWord : Nat := 0
  /-- bus addresses of 16-byte words known to hold an uncorrectable error (R482, R483) -/
  bad : List Nat := []
deriving DecidableEq, Repr

end Sys2Proof.Machine
end

