-- ==== Sys2Proof/Machine/StateHost.lean ====
section
/-!
DEFINITION. The Oxernal lanes and the host and vehicle interfaces beside their registers (chapters 19 and 20).
Every default value is the value after power-on reset (R86).
-/
namespace Sys2Proof.Machine

/-! ### Chapter 19 -/

/-- One Oxernal lane beside its registers (R486-R503). -/
structure OxLane where
  /-- the last satellite OFFER accepted, and how many in a row had these bytes (R497) -/
  offer : List Byte := []
  same : Nat := 0
  /-- the selected version in the VERS layout (R499) -/
  sel : Nat := 0
  /-- SEQ of the next CONTROL frame (R495) -/
  txSeq : Nat := 0
  /-- SEQ of the last valid report since RUN was entered (R500) -/
  rxSeq : Option Nat := none
  /-- TAG of the last command, and the command that waits for its reply: CMD, ADDR, DATA (R495) -/
  tag : Nat := 0
  cmd : Option (Nat × Nat × Nat) := none
  /-- numbers of the received symbols with a code violation or disparity error since RUN was entered (R501) -/
  errs : List Nat := []
  /-- SATSTAT of the last valid report (R492, R503) -/
  satstat : Nat := 0
  /-- the bytes of the last frame sent (R491) -/
  tx : List Byte := []
  /-- the symbols of the slot in progress, and the transmitter's running disparity (true: positive) (R488) -/
  symbols : List (BitVec 10) := []
  disparity : Bool := false
  /-- the instant of the last entry into ALIGN, LOST or RUN, or of the last valid report (R497, R501) -/
  timer : Nat := 0
  /-- slots that have passed since the command was issued (R495) -/
  slots : Nat := 0
deriving DecidableEq, Repr

/-! ### Chapter 20 -/

/-- The PTP clock (R514): its time in units of 2⁻³² ns at the instant `since` (62.5 ps units). -/
structure PtpClock where
  time : Nat := 0
  since : Nat := 0
  /-- the instant of the last rise of PPS_OUT -/
  rise : Nat := 0
deriving DecidableEq, Repr

/-- A received frame in a MAC's receive buffer (R512): its bytes, its timestamp (seconds, ns) and its stripped tag. -/
structure RxFrame where
  bytes : List Byte
  ts : Option (Nat × Nat) := none
  tag : Option Nat := none
deriving DecidableEq, Repr

/-- An entry of the two-step timestamp FIFO (R514). -/
structure TsEntry where
  tx : Bool
  seq : Nat
  sec : Nat
  ns : Nat
deriving DecidableEq, Repr

/-- One Ethernet MAC beside its registers (R512-R514). -/
structure EthMac where
  /-- words of SAKEY0-SAKEY15 that are not 0: (word 0-127, value), rising (R513) -/
  keys : List (Nat × Word) := []
  /-- frames in the receive buffer, oldest first -/
  rxq : List RxFrame := []
  /-- the timestamp FIFO, oldest first -/
  fifo : List TsEntry := []
  /-- the last frame put on the wire -/
  sent : List Byte := []
  /-- the instant up to which the partner's pause frame holds the transmitter (R512) -/
  pausedTo : Nat := 0
deriving DecidableEq, Repr

/-- One CAN controller beside its registers (R515). -/
structure CanCtl where
  /-- frames received that wait for the shared DMA, with their timestamps, oldest first (R159, R515) -/
  held : List (CanFrame × Nat) := []
  /-- the bus-off recovery sequence runs -/
  recovering : Bool := false
  /-- the 80 bytes of the last buffer sent -/
  sent : List Byte := []
deriving DecidableEq, Repr

/-- One UART or SPI controller beside its registers (R518): FIFOs, oldest first, and what was last shifted out. -/
structure SerialPort where
  tx : List Nat := []
  rx : List Word := []
  sent : Nat := 0
  /-- chip selects of an SPI controller that are asserted -/
  sel : Nat := 0
deriving DecidableEq, Repr

/-- One control-pilot unit beside its registers (R519-R524). -/
structure Pilot where
  /-- DUTY of the present period -/
  duty : Nat := 0
  /-- DUTY values written and not in force yet, oldest first (R519) -/
  writes : List Nat := []
  /-- consecutive periods that gave the present raw state (R522) -/
  same : Nat := 0
deriving DecidableEq, Repr

/-- The disturbance recorder beside its registers (R525-R528). -/
structure Recorder where
  /-- the instant of the last row start (R525) -/
  last : Option Nat := none
  /-- rows written since CTRL.EN was set -/
  written : Nat := 0
  /-- the trigger row is still to come -/
  waits : Bool := false
  /-- rows still to be written after the trigger row -/
  left : Nat := 0
deriving DecidableEq, Repr

/-- The TAP and the debug module (R478, R509-R511). -/
structure Jtag where
  /-- the instruction register -/
  ir : Nat := 0x02
  /-- the boundary register -/
  boundary : Nat := 0
  /-- the last data register read out -/
  dr : Nat := 0
  /-- the last instruction ended with an error status -/
  error : Bool := false
  /-- internal scan shifts -/
  intscan : Bool := false
  /-- the boot key cache holds a key (R478) -/
  bootKeys : Bool := false
  /-- debug module: dmactive, the selected hart, resumeack of the harts, data0, cmderr -/
  active : Bool := false
  hart : Nat := 0
  resumeack : Nat := 0
  data0 : Word := 0
  cmderr : Nat := 0
  /-- system bus access: sbreadonaddr, sbautoincrement, sbreadondata, sberror, address and data -/
  readOnAddr : Bool := false
  autoInc : Bool := false
  readOnData : Bool := false
  sberror : Nat := 0
  /-- sbaccess (2: 32 bits) and sbbusyerror -/
  sbaccess : Nat := 2
  sbbusyerr : Bool := false
  sbaddr : Word := 0
  sbdata : Word := 0
  /-- tselect and tdata1, tdata2 of four triggers for each hart -/
  tselect : List Nat := [0, 0]
  tdata1 : List Word := List.replicate 8 0
  tdata2 : List Word := List.replicate 8 0
deriving DecidableEq, Repr

end Sys2Proof.Machine
end

