-- ==== Sys2Proof/Machine/StateMelo.lean ====
section
/-!
DEFINITION. The state of Meloskern, Nightwatch and the ledger-link buffer (chapters 15 and 16) beside their registers.
Every default value is the value of a part as shipped, its Meloskern and Nightwatch not yet started.
-/
namespace Sys2Proof.Machine

/-- The sums of one phase over a cycle or a block: Σ of rounded v·i and v_H·i (2⁻³² µWh), Σ v·i, Σ v_H·i, Σ v², Σ i². -/
structure AcSum where
  ep : Int := 0
  eq : Int := 0
  vi : Int := 0
  hi : Int := 0
  vv : Nat := 0
  ii : Nat := 0
deriving DecidableEq, Repr

/-- The sums of one DC port over a block: Σ u, Σ i, Σ u·i, Σ p_v in the units of R383. -/
structure DcSum where
  u : Int := 0
  i : Int := 0
  ui : Int := 0
  pv : Int := 0
deriving DecidableEq, Repr

/-- One MRAM copy of the metering state (R394): legal registers, residues, pulse accumulators. -/
structure MeterCopy where
  seq : Nat := 0
  valid : Bool := true
  legal : List Nat := List.replicate 32 0
  res : List Nat := List.replicate 32 0
  acc : List Nat := List.replicate 5 0
deriving DecidableEq, Repr

/-- An open session (R411, R415). Times are RTC counts in 2⁻¹⁶ s with whether TIME_VALID was 1. -/
structure Session where
  id : List Byte
  cref : List Byte
  topen : Nat
  delStart : Nat
  recStart : Nat
  quality : Nat := 0
  /-- suspended time in 2⁻¹⁶ s -/
  susp : Nat := 0
  /-- the brown-out that closes it, its record still to be written (R416) -/
  closeAt : Option (Nat × Bool) := none
deriving DecidableEq, Repr

/-- An event that Nightwatch has queued (R431). -/
structure NwEvent where
  code : Nat
  data : List Byte := []
  time : Nat
  valid : Bool
  /-- it found the gauge too low to be committed -/
  uncommitted : Bool := false
deriving DecidableEq, Repr

/-- A tamper loop (R430): the taken condition and the last sample's kind (0 good, 1 open, 2 short), and whether its TAMPER
event has been counted. -/
structure Loop where
  cond : Nat := 0
  last : Nat := 0
deriving DecidableEq, Repr

/-- Nightwatch (R426-R432). -/
structure Nightwatch where
  alive : Bool := false
  /-- the RTC in 2⁻¹⁶ s -/
  rtc : Nat := 0
  timeValid : Bool := false
  queue : List NwEvent := []
  /-- events dropped since the last QUEUE_OVERFLOW entry -/
  lost : Nat := 0
  /-- entries committed to MRAM in darkness -/
  dark : List NwEvent := []
  /-- the newest RTC value in MRAM (R429, R432) -/
  rtcMram : Nat := 0
  loops : List Loop := [{}, {}]
  /-- charging has stopped at the limit; the boost runs, from 1.9 V upward (R427) -/
  atLimit : Bool := false
  boost : Bool := false
deriving DecidableEq, Repr

/-- What the filters of one channel hold (R372, R373, R378, R379), each list newest first, in 2⁻³¹ of full scale: the last modulator
words; the offset-corrected samples at 64 kSps that the delay spans; the high-pass filter's last input and output; the corrected samples
at 64 kSps, on channels 0-6 those of the AC block; the last metrology samples; Σ |x₃| over the block. -/
structure MeloChan where
  mods : List Int := []
  x1 : List Int := []
  hp : Int × Int := (0, 0)
  c64 : List Int := []
  m8 : List Int := []
  absSum : Nat := 0
deriving DecidableEq, Repr

/-- Meloskern (R370-R425). -/
structure Melo where
  running : Bool := false
  /-- the last stop was a brown-out (R392) -/
  bo : Bool := false
  /-- its registers that differ from their shipped values: RWS parameters and results, by window address -/
  vals : List (Nat × Word) := []
  legal : List Nat := List.replicate 32 0
  res : List Nat := List.replicate 32 0
  /-- pulse accumulators (times CONST), owed pulses, and each output: 0 idle, 1 high, 2 low for PW (R390) -/
  acc : List Nat := List.replicate 5 0
  owed : List Nat := List.replicate 5 0
  pulse : List Nat := List.replicate 5 0
  copies : List MeterCopy := [{}, {}]
  /-- the open AC cycle and the AC block: sums and samples; Σ i² of the neutral -/
  cyc : List AcSum := List.replicate 3 {}
  cycN : Nat := 0
  blk : List AcSum := List.replicate 3 {}
  blkN : Nat := 0
  blkNeutral : Nat := 0
  /-- cycles closed in the AC block, and their time in 2⁻²⁰ metrology samples (R376, R377) -/
  blkCyc : Nat := 0
  blkT : Nat := 0
  /-- the crossing that began the cycle, as a fraction of a metrology sample after the last one before it; the place of a cycle of
  fixed length among 133, 133, 134 (R376) -/
  cycFrac : Nat := 0
  fixK : Nat := 0
  /-- the channels' filters (R372, R373) -/
  chans : List MeloChan := List.replicate 15 {}
  dc : List DcSum := List.replicate 4 {}
  dcN : Nat := 0
  /-- the last 64 |i| of each DC port, newest first (R384) -/
  hist : List (List Nat) := List.replicate 4 (List.replicate 64 0)
  /-- circuits with an admitted quantum, and clipped channels, of the blocks that run -/
  act : Nat := 0
  ovr : Nat := 0
  /-- active segments of MIA-MIN, MI0-MI3 (R374) and the cycle source (R376) -/
  seg : List Nat := List.replicate 8 0
  src : Nat := 3
  /-- consecutive good windows of the clock check (R395) -/
  good : Nat := 0
  /-- records: NEXT_SEQ, HELD_SEQ, (slot, 128 bytes) -/
  nextSeq : Nat := 0
  heldSeq : Nat := 0
  recs : List (Nat × List Byte) := []
  /-- dropped intervals and events, first and last dropped seconds (R407) -/
  dropI : Nat := 0
  dropE : Nat := 0
  dropFirst : Nat := 0
  dropLast : Nat := 0
  sess : List (Option Session) := [none, none, none, none]
  /-- the committed head that lacks its tail (R417): no other record comes between (R405, R412) -/
  untailed : List Nat := []
  signs : Nat := 0
  key : Option (Nat × Nat) := none
  sealOpen : Bool := false
  sealcnt : Nat := 0
  comm : Bool := false
  /-- a reset ended commissioning; its COMM_ABORT is still to be written (R424) -/
  commAbort : Bool := false
  stage : List (Nat × Word) := []
  /-- the staging CRC as last published (R423) -/
  pubCrc : Nat := 0
  /-- time since the last accepted TIME_SET, 2⁻¹⁶ s (R425) -/
  setAge : Option Nat := none
  /-- the running interval: its start second, the legal registers at its start, its QUALITY (R414) -/
  ivlStart : Nat := 0
  /-- the boundary at which it closes, in seconds (R425) -/
  ivlEnd : Nat := 900
  ivlBase : List Nat := List.replicate 32 0
  ivlQ : Nat := 0
  /-- a taken command that waits to be executed, with the RTC, TIME_VALID and the legal registers at its taking (R415, R416); the VETO
  bit of its poll, whose tests wait behind it (R402) -/
  cmd : Option (List Word) := none
  cmdTime : Nat := 0
  cmdValid : Bool := false
  cmdLegal : List Nat := List.replicate 32 0
  rest : Option Bool := none
  /-- a reply that waits to be posted: its words, its records (R402) -/
  reply : Option (List Word × List (List Byte)) := none
  /-- consecutive valid poll responses with VETO 1; loss of the control die (R35, R416) -/
  vetoRun : Nat := 0
  linkLost : Bool := false
deriving DecidableEq, Repr

/-- The control die's buffer of the ledger window beside its registers (R398-R401). -/
structure LedgerBuf where
  /-- MBX_CMD and ARG0-ARG14 as latched -/
  latch : List Word := List.replicate 16 0
  taken : Bool := false
deriving DecidableEq, Repr

end Sys2Proof.Machine
end

