-- ==== Sys2Proof/Machine/StateSafety.lean ====
section
/-!
DEFINITION. The state of the safety unit (chapter 17) beside the registers that hold what firmware writes and what it posts.
Every default value is the value after power-on reset (R86); the ones the manual does not give are in the assumption log.
-/
namespace Sys2Proof.Machine

/-- A contactor channel (R445-R448). -/
structure Contactor where
  /-- KSTAT.STATE: 0 open, 1 closing, 2 closed, 3 opening, 4 fault -/
  st : Nat := 0
  fault : Nat := 0
  /-- the safety processor asks Curfew for Kn_HG; Curfew's command to Kn_HG; the safety processor's to Kn_LG -/
  hgReq : Bool := false
  hg : Bool := false
  lg : Bool := false
  /-- cycles to Kn_LG on after the readback of Kn_HG -/
  wait : Option Nat := none
  /-- the coil current has exceeded ICMIN since Kn_LG turned on -/
  seen : Bool := false
  /-- in an ordered opening; it was so, still closed, as the present cycle started (R448) -/
  dl : Bool := false
  ord0 : Bool := false
  /-- Curfew's backstop has opened it (R453) -/
  bstop : Bool := false
  /-- a test pulse: 1 of Kn_LG, 2 of Kn_HG (R446) -/
  test : Nat := 0
deriving DecidableEq, Repr

/-- A cable lock (R450-R453). -/
structure CableLock where
  /-- LOCKSTAT.STATE: 0 unknown, 1 locked, 2 unlocked, 3 moving, 4 fault -/
  st : Nat := 0
  /-- the direction driven: 0 none, 1 lock, 2 unlock -/
  dir : Nat := 0
  stall : Bool := false
  /-- unlocked already in this Dusk state -/
  duskDone : Bool := false
deriving DecidableEq, Repr

/-- A safety-layer connection (R460-R462). -/
structure SafeConn where
  up : Bool := false
  /-- the expected SEQ, once a frame has set it -/
  exp : Option Nat := none
  last : Nat := 0
  /-- faulted since its last UP, and the cause -/
  fault : Bool := false
  cause : Nat := 0
  /-- LEN and PERMIT of the last accepted frame allow operation -/
  permit : Bool := false
  /-- a fault's demand with MANUAL = 1 is latched (R461) -/
  man : Bool := false
  txSeq : Nat := 0
deriving DecidableEq, Repr

/-- The shipped parameter set, words 0-78 (R457). -/
def shippedParams : List Word := 0x01000000 :: List.replicate 78 0

/-- The safety unit (R434-R464). -/
structure SafetyUnit where
  /-- SSTATE.STATE (R434): 0 INIT, 1 UNCONFIRMED, 2 READY, 3 RUN, 4 STOP, 5 DUSK, 6 LOCKDOWN -/
  st : Nat := 0
  cause : Nat := 0
  /-- the active set, words 0-78, and the confirmed sets of the parameter store, newest first (R456) -/
  params : List Word := shippedParams
  copies : List (List Word) := []
  /-- the candidate while editing is open; its last PARAM_CHECK holds; PCAND (R458) -/
  cand : Option (List Word) := none
  checked : Bool := false
  pcand : Word := 0
  /-- the presence window runs (R442) -/
  present : Bool := false
  /-- filtered levels in each channel: ESTOP_A, ESTOP_B, DOOR_A, DOOR_B, IMD_A, IMD_B, SRST from bit 0 -/
  inSp : Nat := 0
  inCur : Nat := 0
  /-- MANUAL latches, discrepancy latches, and latches whose channels have both demanded a stop, by function (R438) -/
  man : Nat := 0
  disc : Nat := 0
  both : Nat := 0
  /-- claimed lines that demand a stop: taken by the safety processor, and by Curfew; window lines (R439) -/
  pcSp : Nat := 0
  pcCur : Nat := 0
  wc : Nat := 0
  /-- DEMAND as of the last cycle, and the channels its demands include -/
  dem : Nat := 0
  demMask : Nat := 0
  /-- safety-converter codes: last round; largest of the running cycle, 33 inputs, and largest |code − 2,048| of SAIN; the same
  two of the previous cycle; whether a round has ended in the running cycle (R440) -/
  code : List Nat := List.replicate 33 0
  runMax : List Nat := List.replicate 33 0
  runDev : List Nat := List.replicate 16 0
  useMax : List Nat := List.replicate 33 0
  useDev : List Nat := List.replicate 16 0
  round : Bool := false
  /-- the last reference check failed (R441) -/
  refBad : Bool := false
  /-- mirrors (high: open), lock feedbacks and switch readbacks as the last cycle read them -/
  kmir : Nat := 0
  lkfb : Nat := 0
  hgRb : Nat := 0
  lgRb : Nat := 0
  k : List Contactor := List.replicate 12 {}
  locks : List CableLock := List.replicate 4 {}
  conns : List SafeConn := List.replicate 4 {}
  /-- CMD and CMDARG as latched; the safety processor has taken the command (R463) -/
  latch : Word × Word := (0, 0)
  taken : Bool := false
  /-- a relayed frame that waits: connection and bytes (R464) -/
  rx : Option (Nat × List Byte) := none
  /-- TRIP or ISLAND as last reported; no valid report for 1 ms (R449) -/
  gridUp : Bool := false
  gridStale : Bool := false
  /-- the cause of a Dusk entry that the safety processor has not taken yet, 0 none (R453) -/
  duskPend : Nat := 0
deriving DecidableEq, Repr

end Sys2Proof.Machine
end

