-- ==== Sys2Proof/Machine/State.lean ====
section
/-!
DEFINITION. The state of the KL960 as a block: every register (one file for all pages), the memories, everything the
manual gives a block beside its registers, and the queue of waiting commands. State is plain data.
-/
namespace Sys2Proof.Machine

/-- The whole machine. -/
structure State where
  /-- commands that wait, first in first out -/
  pending : List Instr := []
  /-- every page register that differs from its reset value: (bus address, value), addresses rising (R136-R144) -/
  regs : List (Nat × Word) := []
  /-- every memory byte that differs from 0: (bus address, byte), addresses rising (R136) -/
  mem : List Host.Cell := []
  /-- the model's own counter of the free values a run has met -/
  freeCtr : Nat := 0
  rst : ResetCtl := {}
  fuses : Fuses := {}
  balls : Balls := {}
  clk : Clocks := {}
  clerk0 : Clerk := {}
  clerk1 : Clerk := {}
  bus : Bus := {}
  /-- sources claimed at the interrupt controller: (source, context) (R153) -/
  claimed : List (Nat × Nat) := []
  fab : Fabric := {}
  conv : Convs := {}
  /-- the latest instant a command has carried, in units of 62.5 ps (R197) -/
  now : Nat := 0
  pwm : List PwmGen := List.replicate 48 {}
  gate : List GateHb := List.replicate 48 {}
  /-- S of the last sync that PWM_SYNC_IN started (R208) -/
  extSync : Option Nat := none
  aux : AuxDrv := {}
  /-- WC0-WC47, then PC0-PC7 -/
  cmp : List Cmp := List.replicate 48 ({ cfg := 0 } : Cmp) ++ List.replicate 8 ({ cfg := 0x03000000 } : Cmp)
  tel : TelArr := {}
  /-- deposits that the engines have formed and not issued yet, oldest first (R324) -/
  deps : List Dep := []
  setl : Setl := {}
  mp : MpEng := {}
  grid : Grid := {}
  melo : Melo := {}
  nw : Nightwatch := {}
  ledger : LedgerBuf := {}
  sup : SafetyUnit := {}
  health : Health := {}
  ox : List OxLane := List.replicate 8 {}
  ptp : PtpClock := {}
  eth : List EthMac := List.replicate 2 {}
  can : List CanCtl := List.replicate 4 {}
  /-- the CAN controller that the shared DMA served last (R515) -/
  canDma : Nat := 3
  /-- the chip select on which an indirect xSPI command runs (R516) -/
  xspi : Option Nat := none
  /-- DDRPHY.INIT.GO has been written (R529) -/
  ddrGo : Bool := false
  uart : List SerialPort := List.replicate 2 {}
  spi : List SerialPort := List.replicate 2 {}
  pilot : List Pilot := List.replicate 4 {}
  recorder : Recorder := {}
  jtag : Jtag := {}
deriving DecidableEq, Repr

/-- The block right after its power-on reset (R86): every part at its reset value, memory with nothing listed. -/
def State.reset : State := {}

/-- Why a run stops with a fault. No command of the table stops: this reason is kept for a state from which a step takes
no meaning, and no meaning raises it (safe). -/
inductive Fault where
  /-- raised by nobody in this model -/
  | stuck
deriving DecidableEq, Repr

/-- Why a command is refused. -/
inductive Refusal where
  /-- the command has no meaning yet; answered by exec's arms only (safe) -/
  | notModelled (mnemonic : String)
deriving DecidableEq, Repr

end Sys2Proof.Machine
end

