-- ==== Sys2Proof/Machine/Ops.lean ====
section
/-!
DEFINITION. The named operations over registers, memory and responses that every meaning is written in: reading and
writing one register, one field, one byte; the field-type rules of R9; the error response of R148 and R173; an access that
waits (R132, R142).
-/
namespace Sys2Proof.Machine

/-! ### Bits -/

/-- Bits `[hi:lo]` of a word, as a number. -/
def bitsOf (w : Word) (hi lo : Nat) : Nat := (w.toNat >>> lo) % 2 ^ (hi + 1 - lo)

/-- Bit `i` of a word. -/
def tb (w : Word) (i : Nat) : Bool := w.getLsbD i

/-- The mask of bits `[hi:lo]`. -/
def maskOf (hi lo : Nat) : Word := Word.ofNat ((2 ^ (hi + 1 - lo) - 1) <<< lo)

/-- `w` with bits `[hi:lo]` set to `v` modulo the field's width. -/
def putBits (w : Word) (hi lo v : Nat) : Word :=
  (w &&& ~~~(maskOf hi lo)) ||| Word.ofNat ((v % 2 ^ (hi + 1 - lo)) <<< lo)

/-- 1 for true, 0 for false. -/
def b2n (b : Bool) : Nat := if b then 1 else 0

/-- The signed value of the low `w` bits of `n`. -/
def toSigned (w n : Nat) : Int := if n % 2 ^ w < 2 ^ (w - 1) then (n % 2 ^ w : Nat) else ((n % 2 ^ w : Nat) : Int) - (2 ^ w : Nat)

/-- `v` as a `w`-bit two's-complement number. -/
def ofSigned (w : Nat) (v : Int) : Nat := (v % ((2 ^ w : Nat) : Int)).toNat

/-- `v` limited to `lo … hi`. -/
def clampI (lo hi v : Int) : Int := if v < lo then lo else if hi < v then hi else v

/-- `v` limited to `lo … hi`. -/
def clampN (lo hi v : Nat) : Nat := if v < lo then lo else if hi < v then hi else v

/-- An exact fraction as the integer a register holds: the rounding is left open, down or up by the free choice. -/
def pickRound (num : Int) (den : Nat) (up : Bool) : Int :=
  Int.fdiv num den + (if up ∧ Int.fmod num den ≠ 0 then 1 else 0)

/-! ### Sparse stores: keys rising, no entry equal to what an unlisted key reads as -/

/-- The value listed for a key. -/
def Store.find {α : Type} (l : List (Nat × α)) (a : Nat) : Option α :=
  match l with
  | [] => none
  | (b, v) :: t => if b = a then some v else Store.find t a

/-- Insert a pair before the first larger key. -/
def Store.insert {α : Type} (l : List (Nat × α)) (a : Nat) (v : α) : List (Nat × α) :=
  match l with
  | [] => [(a, v)]
  | (b, w) :: t => if a < b then (a, v) :: (b, w) :: t else (b, w) :: Store.insert t a v

/-- The store without key `a`. -/
def Store.erase {α : Type} (l : List (Nat × α)) (a : Nat) : List (Nat × α) := l.filter (fun p => p.1 != a)

/-- Set key `a` to `v`, where an unlisted `a` reads `d`: the pair goes when `v = d`. -/
def Store.put {α : Type} [DecidableEq α] (d : α) (l : List (Nat × α)) (a : Nat) (v : α) : List (Nat × α) :=
  if v = d then Store.erase l a else Store.insert (Store.erase l a) a v

/-- The store without the keys from `lo` to `hi`. -/
def Store.dropRange {α : Type} (l : List (Nat × α)) (lo hi : Nat) : List (Nat × α) :=
  l.filter (fun p => p.1 < lo || hi < p.1)

/-- The canonical form: keys strictly rising, no listed value equal to its key's unlisted value. -/
def Store.wf {α : Type} [DecidableEq α] (d : Nat → α) : List (Nat × α) → Bool
  | [] => true
  | (a, v) :: t => decide (v ≠ d a) && t.all (fun p => a < p.1) && Store.wf d t

/-- The value of key `k` in a small table of counts; an unlisted key counts 0. -/
def tabGet (l : List (Nat × Nat)) (k : Nat) : Nat := (Store.find l k).getD 0

/-- Set key `k` of a table of counts. -/
def tabSet (l : List (Nat × Nat)) (k v : Nat) : List (Nat × Nat) := Store.put 0 l k v

/-- Element `i` of a list of like things, or `d` beyond its end. -/
def nth {α : Type} (d : α) (l : List α) (i : Nat) : α := l.getD i d

/-- Apply `f` to element `i`. -/
def upd {α : Type} (l : List α) (i : Nat) (f : α → α) : List α := l.modify i f

/-! ### Registers -/

/-- The value a register holds (R12: its reset value until something sets it). -/
def State.rd (s : State) (a : Nat) : Word := (Store.find s.regs a).getD (resetOf a)

/-- Set a register's value, whatever its field types: what a block does to its own registers. -/
def State.wr (s : State) (a : Nat) (v : Word) : State := { s with regs := Store.put (resetOf a) s.regs a v }

/-- Bits `[hi:lo]` of a register. -/
def State.fld (s : State) (a hi lo : Nat) : Nat := bitsOf (s.rd a) hi lo

/-- Bit `i` of a register. -/
def State.bit (s : State) (a i : Nat) : Bool := tb (s.rd a) i

/-- Set bits `[hi:lo]` of a register. -/
def State.setFld (s : State) (a hi lo v : Nat) : State := s.wr a (putBits (s.rd a) hi lo v)

/-- Set or clear bit `i` of a register. -/
def State.setBit (s : State) (a i : Nat) (b : Bool) : State := s.setFld a i i (b2n b)

/-- Set the bits of `m` in a register. -/
def State.orBits (s : State) (a m : Nat) : State := s.wr a (s.rd a ||| Word.ofNat m)

/-- Add `n` to a counter field, saturating at its width. -/
def State.count (s : State) (a hi lo n : Nat) : State :=
  s.setFld a hi lo (min (s.fld a hi lo + n) (2 ^ (hi + 1 - lo) - 1))

/-- Set IRQ_RAW bit `i` of the page at `base` (R143: a block event wins over a clear in the same cycle). -/
def State.irq (s : State) (base i : Nat) : State := s.setBit (base + 0x14) i true

/-- The page at `base` is enabled (CTRL.EN). -/
def State.en (s : State) (base : Nat) : Bool := s.bit (base + 0x0C) 0

/-- The page at `base` is locked (R141). -/
def State.locked (s : State) (base : Nat) : Bool := s.bit (base + 0x10) 30

/-- The interface version of the page at `base` (R144). -/
def State.ver (s : State) (base : Nat) : Nat := s.fld (base + 0x08) 3 0

/-- A pool's count of spares, bits `[hi:lo]` of HEALTH.SPARES, becomes `n`; LASTSPARE is raised when it reaches 0 (R472). -/
def State.setSpares (s : State) (hi lo n : Nat) : State :=
  let s1 := s.setFld 0x40090060 hi lo n
  if 0 < s.fld 0x40090060 hi lo ∧ n = 0 then s1.irq 0x40090000 1 else s1

/-- Every register of the bus range `lo … hi` back at its reset value. -/
def State.dropRegs (s : State) (lo hi : Nat) : State := { s with regs := Store.dropRange s.regs lo hi }

/-! ### Memory -/

/-- What a byte of memory that nothing has written reads as (DESIGN CHOICE, notes/assumptions/2.md). -/
def memDefault : Nat → Byte := fun _ => 0

/-- One byte of memory. -/
def State.byte (s : State) (a : Nat) : Byte := (Store.find s.mem a).getD (memDefault a)

/-- Write one byte of memory. -/
def State.setByte (s : State) (a : Nat) (v : Byte) : State := { s with mem := Store.put (memDefault a) s.mem a v }

/-- Write bytes from address `a` upward. -/
def State.setBytes (s : State) (a : Nat) : List Byte → State
  | [] => s
  | b :: t => (s.setByte a b).setBytes (a + 1) t

/-- `n` bytes from address `a` upward. -/
def State.getBytes (s : State) (a n : Nat) : List Byte := (List.range n).map (fun i => s.byte (a + i))

/-- The little-endian number that bytes spell. -/
def leNat : List Byte → Nat
  | [] => 0
  | b :: t => b.toNat + 256 * leNat t

/-- `n` little-endian bytes of `v`. -/
def leBytes : Nat → Nat → List Byte
  | 0, _ => []
  | n + 1, v => BitVec.ofNat 8 v :: leBytes n (v / 256)

/-- The 32-bit little-endian word at address `a`. -/
def State.memWord (s : State) (a : Nat) : Word := Word.ofNat (leNat (s.getBytes a 4))

/-- Write a 32-bit little-endian word at address `a`. -/
def State.setMemWord (s : State) (a : Nat) (v : Word) : State := s.setBytes a (leBytes 4 v.toNat)

/-- The canonical form of a memory (addresses strictly rising, no byte at its unlisted value). -/
def Memory.wf (m : List Host.Cell) : Bool := Store.wf memDefault m

/-- The canonical form of the register file. -/
def Regs.wf (r : List (Nat × Word)) : Bool := Store.wf resetOf r

/-! ### Instants -/

/-- The state once a command has carried instant `t` (units of 62.5 ps): time never runs back. -/
def State.atTime (s : State) (t : Nat) : State := { s with now := max s.now t }

/-! ### Free values -/

/-- Count one free value as met. -/
def State.bumpFree (s : State) : State := { s with freeCtr := s.freeCtr + 1 }

/-- The free word the manual leaves open at this point of the run. -/
def State.freeWord (s : State) : Word := Config.freeWord s.freeCtr

/-- The free choice the manual leaves open at this point of the run. -/
def State.freeBit (s : State) : Bool := Config.freeBit s.freeCtr

/-- The `k`-th of several free words that one command meets. -/
def State.free (s : State) (k : Nat) : Word := Config.freeWord (s.freeCtr + k)

/-! ### Names of the registers that shared operations use -/

abbrev SYS.base : Nat := 0x40000000
abbrev SYS.STAT : Nat := 0x40000010
abbrev SYS.IRQ_RAW : Nat := 0x40000014
abbrev SYS.TESTEN : Nat := 0x40000040
abbrev SYS.VERSEL : Nat := 0x40000044
abbrev SYS.DBGOPEN : Nat := 0x40000048
abbrev SYS.ERRADDR : Nat := 0x40000050
abbrev SYS.ERRINFO : Nat := 0x40000054
abbrev SYS.CLKSTAT : Nat := 0x40000080
abbrev SYS.FUSE (n : Nat) : Nat := 0x40000400 + 4 * n
abbrev ADPLLA : Nat := 0x40001000
abbrev ADPLLB : Nat := 0x40002000
abbrev FAB.base : Nat := 0x40004000
abbrev FAB.AGECFG : Nat := 0x40004040
abbrev FAB.URGCFG : Nat := 0x40004044
abbrev FAB.COINUSE (k : Nat) : Nat := 0x40004048 + 4 * k
abbrev FAB.COINHWM (k : Nat) : Nat := 0x40004054 + 4 * k
abbrev FAB.WAITMAX (c : Nat) : Nat := 0x40004060 + 4 * c
abbrev FAB.AGEDCNT : Nat := 0x40004070
abbrev FAB.URGCNT : Nat := 0x40004074
abbrev FAB.COLLCNT : Nat := 0x40004078
abbrev FAB.ERRCNT : Nat := 0x4000407C
abbrev FAB.COLLADDR : Nat := 0x40004080
abbrev FAB.INFLIGHT : Nat := 0x40004084
abbrev FAB.WATCHSEL : Nat := 0x40004090
abbrev FAB.WATCHISS : Nat := 0x40004094
abbrev FAB.WATCHLAT : Nat := 0x40004098
abbrev FAB.WATCHOUT : Nat := 0x4000409C
abbrev INTC.base : Nat := 0x40008000
abbrev RSUP.base : Nat := 0x40800000
abbrev RSUP.RSTCAUSE : Nat := 0x40800040
abbrev RSUP.DUSKCAUSE : Nat := 0x40800044
abbrev RSUP.RSTREQ : Nat := 0x40800048
abbrev RSUP.SUPSTAT : Nat := 0x4080004C
abbrev RSUP.SUPFLAG : Nat := 0x40800050
abbrev RSUP.BOOTSTAT : Nat := 0x40800058
abbrev RSUP.VMON (n : Nat) : Nat := 0x40800060 + 4 * n
abbrev RSUP.WDOG_CFG : Nat := 0x40800070
abbrev RSUP.WDOG_KICK : Nat := 0x40800074
/-- Base of the page of converter Cn (R138). -/
abbrev CV.base (n : Nat) : Nat := 0x40010000 + n * 0x800
/-- Base of the ADC common page. -/
abbrev ADCC.base : Nat := 0x4001F000
/-- Base of the page of generator PWMn. -/
abbrev PWM.base (n : Nat) : Nat := 0x40020000 + n * 0x1000
/-- Base of the PWM common page. -/
abbrev PWMC.base : Nat := 0x40050000
/-- Base of the page of teller Tn. -/
abbrev TLR.base (n : Nat) : Nat := 0x40060000 + n * 0x1000
/-- Base of the teller array common page. -/
abbrev TELC.base : Nat := 0x40070000
/-- Base of the settlement engine's page. -/
abbrev SETL.base : Nat := 0x40080000
/-- Base of the page of MPPT channel m. -/
abbrev MP.base (m : Nat) : Nat := 0x40081000 + m * 0x1000
abbrev GSYNC.base : Nat := 0x40088000
abbrev GFRT.base : Nat := 0x40089000
abbrev GISL.base : Nat := 0x4008A000
abbrev GTAB.base : Nat := 0x4008B000
abbrev HEALTH.base : Nat := 0x40090000
abbrev HEALTH.STAT : Nat := 0x40090010
abbrev HEALTH.SPARES : Nat := 0x40090060
abbrev HEALTH.RETIRED0 : Nat := 0x40090064
abbrev HEALTH.RETIRED1 : Nat := 0x40090068
abbrev HEALTH.RETIRED2 : Nat := 0x4009006C
abbrev ETH.base (m : Nat) : Nat := 0x400A0000 + m * 0x1000
abbrev CAN.base (m : Nat) : Nat := 0x400A2000 + m * 0x1000
abbrev XSPI.base : Nat := 0x400A6000
abbrev DDRC.base : Nat := 0x400A7000
abbrev DDRPHY.base : Nat := 0x400A8000
abbrev REC.base : Nat := 0x400A9000
abbrev UART.base (m : Nat) : Nat := 0x400AA000 + m * 0x1000
abbrev SPI.base (m : Nat) : Nat := 0x400AC000 + m * 0x1000
abbrev GPIO.base : Nat := 0x400AE000
abbrev OX.base (n : Nat) : Nat := 0x400B0000 + n * 0x1000
abbrev CP.base (n : Nat) : Nat := 0x400C0000 + n * 0x1000
abbrev WCMP.base : Nat := 0x40801000
abbrev PCMP.base : Nat := 0x40802000
abbrev AUX.base : Nat := 0x40803000
abbrev SMBX.base : Nat := 0x40804000
abbrev GATE.base (g : Nat) : Nat := 0x40880000 + g * 0x1000
/-- Base of the ledger window (R140). -/
abbrev LEDGER.base : Nat := 0x40C00000

/-! ### Clock domains (R112, R132) -/

/-- The clock of a domain runs: its ADPLL is not acquiring and its output is enabled (R118, R124). -/
def State.domRun (s : State) : Dom → Bool
  | .ref => true
  | .fab => !s.bit (ADPLLA + 0x50) 30 && s.bit (ADPLLA + 0x64) 31
  | .tel => !s.bit (ADPLLA + 0x50) 30 && s.bit (ADPLLA + 0x60) 31
  | .adc => !s.bit (ADPLLA + 0x50) 30 && s.bit (ADPLLA + 0x68) 31
  | .xspi => !s.bit (ADPLLA + 0x50) 30 && s.bit (ADPLLA + 0x6C) 31
  | .ox => !s.bit (ADPLLA + 0x50) 30 && s.bit (ADPLLA + 0x70) 31
  | .eth => !s.bit (ADPLLA + 0x50) 30 && s.bit (ADPLLA + 0x74) 31
  | .can => !s.bit (ADPLLA + 0x50) 30 && s.bit (ADPLLA + 0x78) 31
  | .ps => !s.bit (ADPLLA + 0x50) 30 && s.bit (ADPLLA + 0x7C) 31
  | .pwm => !s.bit (ADPLLB + 0x50) 30 && s.bit (ADPLLB + 0x60) 31
  | .ddr => s.bit 0x400A800C 0

/-- What a block does at a command acts while the block's clock runs; a stopped domain stands in its present state (R124, R132). -/
def State.clocked (s : State) (d : Dom) (f : State → State) : State := if s.domRun d then f s else s

/-! ### The PTP clock (R514) -/

/-- PTPRATE as it acts: limited to ±1,000 ppm of 8 ns. -/
def State.ptpRate (s : State) : Int := clampI (-34359738) 34359738 (s.rd 0x400A030C).toInt

/-- One PTP second, and the range of the 48-bit seconds, in units of 2⁻³² ns. -/
def ptpSecond : Nat := 1000000000 * 2 ^ 32
def ptpRange : Nat := 2 ^ 48 * ptpSecond

/-- The PTP time at the latest instant of the run: CLK_ETH ticks every 8 ns while it runs. -/
def State.ptpNow (s : State) : Nat :=
  if s.domRun .eth then
    (((s.ptp.time : Int) + ((s.now / 128 - s.ptp.since / 128 : Nat) : Int) * (8 * 2 ^ 32 + s.ptpRate)) % (ptpRange : Int)).toNat
  else s.ptp.time

/-- Bring the PTP clock up to the latest instant. -/
def State.ptpSync (s : State) : State := { s with ptp := { s.ptp with time := s.ptpNow, since := s.now } }

/-- Seconds and nanoseconds of a PTP time. -/
def ptpSec (t : Nat) : Nat := t / ptpSecond
def ptpNs (t : Nat) : Nat := t / 2 ^ 32 % 1000000000

/-! ### LPDDR4X and DMA (R517, R512) -/

/-- The bytes that 0x8000_0000 onward serves: none until initialisation has ended. -/
def State.ddrMapped (s : State) : Nat := if s.bit 0x400A804C 31 then s.fld 0x400A804C 15 0 * 2 ^ 20 else 0

/-- A range lies in system SRAM or in mapped LPDDR4X. -/
def State.dmaOk (s : State) (a n : Nat) : Bool :=
  (decide (0x20000000 ≤ a) && decide (a + n ≤ 0x21800000)) || (decide (0x80000000 ≤ a) && decide (a + n ≤ 0x80000000 + s.ddrMapped))

/-- The 16-byte block of an address. -/
def block16 (a : Nat) : Nat := a / 16 * 16

/-- Initiator `init` writes bytes to memory: the words it writes are good again (R482), and the reservations that other
initiators' writes touch are lost (R506). -/
def State.memStore (s : State) (init a : Nat) (bs : List Byte) : State :=
  let hit := fun (b : Nat) => decide (block16 a ≤ b) && decide (b < a + bs.length)
  let drop := fun (h : Nat) (c : Clerk) =>
    if init ≠ 64 + h ∧ c.resv.any hit then { c with resv := none } else c
  { s.setBytes a bs with
    clerk0 := drop 0 s.clerk0, clerk1 := drop 1 s.clerk1,
    health := { s.health with bad := s.health.bad.filter (fun b => !hit b) } }

/-! ### Responses and errors -/

/-- The cause codes of SYS.ERRINFO (R148). -/
inductive Cause where
  | unmapped | size | lockedField | refused | owner | link | ledger
deriving DecidableEq, Repr

/-- The code of a cause. -/
def Cause.code : Cause → Nat
  | .unmapped => 1 | .size => 2 | .lockedField => 3 | .refused => 4 | .owner => 5 | .link => 6 | .ledger => 7

/-- Record a normal response to an initiator. -/
def State.respond (s : State) (init a : Nat) (data : Word) : State :=
  { s with bus := { s.bus with resp := { init := init, addr := a, cause := 0, data := data } } }

/-- ERRINFO and ERRADDR take an error response; OVF stands as it is. -/
def State.putError (s : State) (init a : Nat) (c : Cause) (isWrite : Bool) : State :=
  let w := Word.ofNat (2 ^ 31 + b2n (s.bit SYS.ERRINFO 30) * 2 ^ 30 + (init % 256) * 2 ^ 16 + c.code * 2 ^ 8 + b2n isWrite)
  (s.wr SYS.ERRINFO w).wr SYS.ERRADDR (Word.ofNat a)

/-- SYS.ERRINFO captures the first error response, or marks a further one (R148). Of several in one CLK_FAB cycle it keeps the
one with the lowest initiator number; none of them is a further one (notes/assumptions/80.md). -/
def State.captureError (s : State) (init a : Nat) (c : Cause) (isWrite : Bool) : State :=
  if s.bit SYS.ERRINFO 31 then
    (if s.bus.cycle ≠ none ∧ s.bus.cycle = s.bus.capturedAt then
      (if init < s.fld SYS.ERRINFO 23 16 then s.putError init a c isWrite else s)
    else s.setBit SYS.ERRINFO 30 true)
  else
    let s1 := (s.putError init a c isWrite).irq SYS.base 0
    { s1 with bus := { s1.bus with capturedAt := s1.bus.cycle } }

/-- A FAB counter goes up by one unless CTRL.FREEZE holds it. -/
def State.fabCount (s : State) (a hi lo : Nat) : State :=
  if s.bit (FAB.base + 0x0C) 2 then s else s.count a hi lo 1

/-- What the initiator does on an error response (R173); `sub` is the teller instance or channel that issued the slip. -/
def State.initiatorReact (s : State) (init a sub : Nat) (isWrite : Bool) : State :=
  if init < 26 then (s.setBit (CV.base init + 0x10) 3 true).irq (CV.base init) 3
  else if 32 ≤ init ∧ init < 48 then s.irq (TLR.base (init - 32)) (8 + sub % 8)
  else if init = 48 then (s.setBit (SETL.base + 0x10) 0 true).irq SETL.base 3
  else if init = 49 then (s.setBit (MP.base (sub % 4) + 0x10) 0 true).irq (MP.base (sub % 4)) 0
  else if init = 50 then (s.setBit (GSYNC.base + 0x10) 0 true).irq GSYNC.base 3
  else if init = 64 then { s with clerk0 := { s.clerk0 with fault := some (isWrite, a) } }
  else if init = 65 then { s with clerk1 := { s.clerk1 with fault := some (isWrite, a) } }
  else if init = 81 ∨ init = 82 then s.irq (ETH.base (init - 81)) 6
  else if init = 83 then s.irq (CAN.base (sub % 4)) 5
  else s

/-- An error response (R148, R173): captured in SYS, flagged and counted by the fabric, reacted to by the initiator, unless the
response is still on its way to it. -/
def State.errorResp (s : State) (init a : Nat) (c : Cause) (isWrite : Bool) (sub : Nat := 0) : State :=
  let s1 := s.captureError init a c isWrite
  let s2 := (s1.irq FAB.base 0).fabCount FAB.ERRCNT 31 0
  let s3 := if s.bus.quiet = some init then s2 else s2.initiatorReact init a sub isWrite
  { s3 with bus := { s3.bus with resp := { init := init, addr := a, cause := c.code, data := 0 } } }

/-! ### Field-type writes (R9, R10) -/

/-- What one field holds after a write of `data` to its register. -/
def Field.apply (f : Field) (old data : Word) : Word :=
  let m := maskOf f.hi f.lo
  match f.ty with
  | .rw | .rwl => (old &&& ~~~m) ||| (data &&& m)
  | .w1c => old &&& ~~~(data &&& m)
  | .w1s => old ||| (data &&& m)
  | .ro | .wo | .rws => old

/-- The write would change an RWL field. -/
def rwlChanges (fs : List Field) (old data : Word) : Bool :=
  fs.any (fun f => decide (f.ty = .rwl) && decide ((old ^^^ data) &&& maskOf f.hi f.lo ≠ 0))

/-- A register after a write by its field types. -/
def applyFields (fs : List Field) (old data : Word) : Word := fs.foldl (fun w f => f.apply w data) old

/-- The bits of a register that the page's version shows (R13). -/
def versionKeep (s : State) (r : RegRow) (base : Nat) : Word :=
  if s.ver base = 1 then
    match r.v1 with
    | .same => BitVec.allOnes 32
    | .absent => 0
    | .view keep _ => Word.ofNat keep
  else BitVec.allOnes 32

/-- The value the fields see of a write: bits that the page's version does not show keep what they hold. -/
def versionData (s : State) (r : RegRow) (base : Nat) (old data : Word) : Word :=
  (old &&& ~~~(versionKeep s r base)) ||| (data &&& versionKeep s r base)

/-- A register after a write by its field types: no bit changes that the page's version does not show (R9, R13). -/
def versionFields (s : State) (r : RegRow) (base : Nat) (old data : Word) : Word :=
  (old &&& ~~~(versionKeep s r base)) ||| (applyFields r.fields old data &&& versionKeep s r base)

/-- The register is absent in the page's version. -/
def hiddenV1 (s : State) (r : RegRow) (base : Nat) : Bool := decide (s.ver base = 1) && decide (r.v1 = .absent)

/-- A write by the field types alone (R9, R10): reserved offsets ignore it, a locked RWL field that would change refuses
it, anything else is applied. -/
def State.plainWrite (s : State) (init a : Nat) (data : Word) : State :=
  match rowAt a with
  | none => s.respond init a 0
  | some r =>
    let old := s.rd a
    let d := versionData s r (pageBase a) old data
    if hiddenV1 s r (pageBase a) then s.respond init a 0
    else if s.locked (pageBase a) && rwlChanges r.fields old d then s.errorResp init a .lockedField true
    else (s.wr a (versionFields s r (pageBase a) old d)).respond init a 0

/-! ### Accesses that wait -/

/-- The access has to wait: its page's clock is stopped (R132), CLK_FAB, which carries every transfer, is (R134), or the page is in
soft reset (R142). What CLK_REF serves waits for no stopped domain (R133). -/
def State.mustWait (s : State) (dom : Dom) (base : Nat) : Bool :=
  !s.domRun dom || (decide (dom ≠ .ref) && !s.domRun .fab) || s.bus.softRst.contains base

/-- Run an access at its page, or keep it waiting. -/
def State.access (s : State) (dom : Dom) (base : Nat) (acc : Access) (k : State → State) : State :=
  if s.mustWait dom base then { s with bus := { s.bus with waiting := s.bus.waiting ++ [acc] } } else k s

/-- A write access at its page, or waiting. -/
def State.writeAt (s : State) (dom : Dom) (base init a : Nat) (data : Word) (k : State → State) (tick : Nat := 0) (sub : Nat := 0) :
    State :=
  s.access dom base { init := init, addr := a, data := data, tick := tick, sub := sub } k

/-- A read access at its page, or waiting. -/
def State.readAt (s : State) (dom : Dom) (base init a : Nat) (k : State → State) : State :=
  s.access dom base { init := init, addr := a, data := 0, write := false } k

/-! ### Fuses (R98-R102) -/

/-- A fuse word as Ferriad ships it (R98): lifecycle OPEN; the classes of the group tables, and open bits where no ball heeds
them (R47, R99); its own words are open; the others are blank. -/
def fuseBase (w : Nat) : Word :=
  if w = 4 then 1
  else if 0x70 ≤ w ∧ w < 0xB0 then shippedClasses w ||| (Config.factoryFuse w &&& ~~~(classMask w))
  else if w < 4 ∨ (0x28 ≤ w ∧ w < 0x70) then Config.factoryFuse w
  else 0

/-- Fuse word `w` as it stands in the shadow (R98). -/
def State.fuse (s : State) (w : Nat) : Word := fuseBase w ||| (Store.find s.fuses.shadow w).getD 0

/-- The lifecycle code (R102): 1 OPEN, 3 SECURED, 7 RETIRED. -/
def State.lifecycle (s : State) : Nat := bitsOf (s.fuse 4) 2 0

/-! ### What a version-1 page shows -/

/-- The word `v` of register `a` through its page's interface version (R13, R144). -/
def State.viewed (s : State) (a : Nat) (v : Word) : Word :=
  match rowAt a with
  | none => v
  | some r =>
    if s.ver (pageBase a) = 1 then
      match r.v1 with
      | .same => v
      | .absent => 0
      | .view keep fixed => (v &&& Word.ofNat keep) ||| Word.ofNat fixed
    else v

/-- The value a register shows through its page's interface version (R13, R144); 0 where no register is. -/
def State.shown (s : State) (a : Nat) : Word := if (rowAt a).isSome then s.viewed a (s.rd a) else 0

/-! ### Slot addresses in teller state memory (R257, R259) -/

/-- The address of the state area of loop instance Tn.s. -/
def State.areaBase (s : State) (n i : Nat) : Nat :=
  0x30040000 + n * 0x8000 + s.fld (TLR.base n + 0x104 + 0x20 * i) 10 0 * 16

/-- The address of input slot `k` of Tn.s. -/
def State.slotAddr (s : State) (n i k : Nat) : Nat := s.areaBase n i + 4 * k

/-- The address of deposit slot `d` of Tn.s. -/
def State.depositAddr (s : State) (n i d : Nat) : Nat := s.areaBase n i + 0x40 + 16 * d

/-! ### Balls (R48) -/

/-- The block of the page at `b` takes its balls: CTRL.EN has been written 1. -/
def State.takeBalls (s : State) (b : Nat) : State :=
  if s.balls.taken.contains b then s else { s with balls := { s.balls with taken := s.balls.taken ++ [b] } }

/-- The block takes its balls where a write of `data` to CTRL has been accepted with EN = 1. -/
def State.takesBalls (s : State) (b : Nat) (data : Word) : State :=
  if tb data 0 ∧ s.bus.resp.cause = 0 then s.takeBalls b else s

/-! ### Clerks -/

/-- Hart `h`. -/
def State.clerk (s : State) (h : Nat) : Clerk := if h = 0 then s.clerk0 else s.clerk1

/-- Change hart `h`. -/
def State.updClerk (s : State) (h : Nat) (f : Clerk → Clerk) : State :=
  if h = 0 then { s with clerk0 := f s.clerk0 } else { s with clerk1 := f s.clerk1 }

end Sys2Proof.Machine
end

