-- ==== Sys2Proof/Machine/Clocks.lean ====
section
/-!
DEFINITION. The ADPLLs, their outputs, the interpolator calibration and the clock monitor (chapter 4, R112-R134).
-/
namespace Sys2Proof.Machine

abbrev Out := Host.Outcome State Fault Refusal

/-- The page of ADPLL-A (0) or ADPLL-B (any other number). -/
def adpllPage (pll : Nat) : Nat := if pll = 0 then ADPLLA else ADPLLB

/-- f_cmp in units of 12.5 MHz for each REFMODE (R116). -/
def refUnits (mode : Nat) : Nat := if mode = 0 then 1 else if mode = 1 then 2 else 4

/-- The highest frequency, MHz, of ADPLL-A's output `k` (R124). -/
def outMax (k : Nat) : Nat := [1000, 800, 200, 200, 250, 125, 80, 100].getD k 0

/-- f_DCO of `mode` and `fcw` lies in 3.2-4.8 GHz (R116). -/
def dcoOk (mode fcw : Nat) : Bool := 256 * 2 ^ 20 ≤ refUnits mode * fcw && refUnits mode * fcw ≤ 384 * 2 ^ 20

/-- Output `k` with divider `div` stays at or below its maximum at f_DCO of `mode` and `fcw` (R116). -/
def outOk (mode fcw k div : Nat) : Bool := refUnits mode * fcw * 125 ≤ outMax k * 10 * div * 2 ^ 20

/-- Every enabled output of ADPLL-A stays at or below its maximum (R116). -/
def outsOk (s : State) (mode fcw : Nat) : Bool :=
  (List.range 8).all (fun k => !s.bit (ADPLLA + 0x60 + 4 * k) 31 || outOk mode fcw k (s.fld (ADPLLA + 0x60 + 4 * k) 15 8))

/-- Some PWM generator has CTRL.EN = 1 (R119). -/
def anyPwmOn (s : State) : Bool := (List.range 48).any (fun n => s.en (PWM.base n))

/-- A restart of acquisition is refused (R119). -/
def restartRefused (s : State) (pll : Nat) : Bool := if pll = 0 then !s.rst.veto else anyPwmOn s

/-- Acquisition starts over: outputs stopped low, no lock, no grace count (R118, R122); the tuning word stays held while the
reference is lost (R121). -/
def restartAcq (s0 : State) (pll : Nat) : State :=
  let s := s0.ptpSync
  let a := adpllPage pll + 0x50
  let s1 := ((s.setBit a 31 false).setBit a 30 true).setBit a 29 (s.bit a 28)
  if pll = 0 then { s1 with clk := { s1.clk with grace := false } } else s1.setBit (ADPLLB + 0x84) 31 false

/-- FCW of ADPLL-B for a REFMODE, so that f_DCO is 4 GHz (R117). -/
def fcwOfMode (mode : Nat) : Word := if mode = 0 then 0x14000000 else if mode = 1 then 0x0A000000 else 0x05000000

/-- A write to REFCFG (R116-R119). -/
def refcfgWrite (s : State) (init pll : Nat) (data : Word) : State :=
  let a := adpllPage pll + 0x40
  let mode := bitsOf data 1 0
  if mode = 3 ∨ restartRefused s pll then s.errorResp init a .refused true
  else if pll = 0 then
    let fcw := s.fld (ADPLLA + 0x44) 28 0
    if dcoOk mode fcw && outsOk s mode fcw then ((restartAcq (s.setFld a 1 0 mode) pll).respond init a 0)
    else s.errorResp init a .refused true
  else ((restartAcq ((s.setFld a 1 0 mode).wr (ADPLLB + 0x44) (fcwOfMode mode)) pll).respond init a 0)

/-- ADPLL_REFCFG_WRITE (R118): a write to REFCFG restarts acquisition, or is refused. -/
def execAdpllRefcfgWrite (init pll : Nat) (data : Word) (s : State) : Out :=
  .next (s.writeAt .ref (adpllPage pll) init (adpllPage pll + 0x40) data (fun t => refcfgWrite t init pll data))

/-- A write to FCW (R116-R119); on ADPLL-B the register is read-only. -/
def fcwWrite (s : State) (init pll : Nat) (data : Word) : State :=
  let a := adpllPage pll + 0x44
  if pll ≠ 0 then s.respond init a 0
  else
    let mode := s.fld (ADPLLA + 0x40) 1 0
    let fcw := bitsOf data 28 0
    if restartRefused s 0 then s.errorResp init a .refused true
    else if dcoOk mode fcw && outsOk s mode fcw then ((restartAcq (s.setFld a 28 0 fcw) 0).respond init a 0)
    else s.errorResp init a .refused true

/-- ADPLL_FCW_WRITE (R118): on ADPLL-A acquisition restarts at the new frequency, or the write is refused. -/
def execAdpllFcwWrite (init pll : Nat) (data : Word) (s : State) : Out :=
  .next (s.writeAt .ref (adpllPage pll) init (adpllPage pll + 0x44) data (fun t => fcwWrite t init pll data))

/-- A write of 1 to CTRL.SOFT_RST of an ADPLL page: refused under R119 alone, on a locked page too (R142); otherwise the page's
registers from 0x040 upward, STAT and IRQ_RAW return to reset and acquisition restarts (R118). The reference detector's live
state stands. -/
def adpllSoftRst (s : State) (init pll : Nat) : State :=
  let b := adpllPage pll
  if restartRefused s pll then s.errorResp init (b + 0x0C) .refused true
  else
    let lost := s.bit (b + 0x50) 28
    let s1 := (((s.dropRegs (b + 0x40) (b + 0xFFF)).wr (b + 0x10) 0).wr (b + 0x14) 0).setBit (b + 0x50) 28 lost
    let s2 := if pll = 0 then s1 else { s1 with clk := { s1.clk with trims := List.replicate 6 0 } }
    let s3 := restartAcq s2 pll
    { s3 with bus := { s3.bus with softRst := s3.bus.softRst ++ [b] } }.respond init (b + 0x0C) 0

/-- A write to CTRL of an ADPLL page: EN reads 1 and refuses 0 unless SOFT_RST is set (R142). -/
def adpllCtrlWrite (s : State) (init pll : Nat) (data : Word) : State :=
  if tb data 1 then adpllSoftRst s init pll
  else if tb data 0 then s.respond init (adpllPage pll + 0x0C) 0
  else s.errorResp init (adpllPage pll + 0x0C) .refused true

/-- ADPLL_SOFT_RESET (R118): the write sets CTRL.SOFT_RST; its EN bit is ignored. -/
def execAdpllSoftReset (init pll : Nat) (data : Word) (s : State) : Out :=
  .next (s.writeAt .ref (adpllPage pll) init (adpllPage pll + 0x0C) (data ||| 2) (fun t => adpllCtrlWrite t init pll (data ||| 2)))

/-- The signed phase error as PHERR shows it (R120). -/
def phErrBits (e : Int) : Nat := ofSigned 16 (clampI (-32768) 32767 e)

/-- LOCKCFG.WINDOW in TDC steps; 0 is taken as 1. -/
def lockWindow (s : State) (pll : Nat) : Nat := max (s.fld (adpllPage pll + 0x4C) 7 0) 1

/-- The lock count N of R120. -/
def lockN (s : State) (pll : Nat) : Nat := 16 * 2 ^ min (s.fld (adpllPage pll + 0x4C) 11 8) 8

/-- The last `n` of some phase errors, oldest first, are `n` and all satisfy `p`. -/
def lastErrs (errs : List Int) (n : Nat) (p : Int → Bool) : Bool := decide (n ≤ errs.length) && (errs.drop (errs.length - n)).all p

/-- The lock criterion of R120: the error has stayed within WINDOW for N consecutive comparison cycles. -/
def lockMet (s : State) (pll : Nat) (errs : List Int) : Bool :=
  lastErrs errs (lockN s pll) (fun e => decide (e.natAbs ≤ lockWindow s pll))

/-- The criterion for leaving lock (R120): the error exceeds 2 × WINDOW for 4 consecutive comparison cycles. -/
def unlockMet (s : State) (pll : Nat) (errs : List Int) : Bool :=
  lastErrs errs 4 (fun e => decide (2 * lockWindow s pll < e.natAbs))

/-- Lock is declared (R120): HOLD and ACQ clear, the outputs run, a grace count ends (R122). ADPLL-B declares lock after its
first calibration pass, which sets the trims (R125). -/
def lockDeclare (s : State) (pll : Nat) (phErr : Int) (trims : List Nat) (worst maxErr : Nat) : State :=
  let a := adpllPage pll + 0x50
  if s.rst.dawn = .held || s.bit a 31 || s.bit a 28 then s
  else
    let acq := s.bit a 30
    let s1 := s.ptpSync.wr a (Word.ofNat (2 ^ 31 + (s.fld a 25 23) * 2 ^ 23 + phErrBits phErr))
    let s2 := if pll = 0 then { s1 with clk := { s1.clk with grace := false } }
      else if acq then
        (s1.wr (ADPLLB + 0x84) (putBits (putBits (putBits (s1.rd (ADPLLB + 0x84)) 31 31 1) 18 16 worst) 15 8 (min maxErr 255)))
      else s1
    let s3 := if pll ≠ 0 ∧ acq then { s2 with clk := { s2.clk with trims := (List.range 6).map (fun g => min (trims.getD g 0) 63) } } else s2
    if s3.rst.dawn = .locking ∧ s3.bit (ADPLLA + 0x50) 31 ∧ s3.bit (ADPLLB + 0x50) 31 then
      { s3 with rst := { s3.rst with dawn := .memTest } }
    else s3

/-- ADPLL_LOCK_DECLARE (R120, R125): `errs` are the phase errors of the latest comparison cycles, oldest first; without the lock
criterion, while lock is declared or the reference is lost, nothing happens. -/
def execAdpllLockDeclare (pll : Nat) (errs : List Int) (trims : List Nat) (worst maxErr : Nat) (s : State) : Out :=
  .next (if lockMet s pll errs then lockDeclare s pll (errs.getLastD 0) trims worst maxErr else s)

/-- Lock is left: hold, UNLOCK_SEEN, the interrupt, and on ADPLL-A the grace count (R120-R122). -/
def leaveLock (s : State) (pll : Nat) : State :=
  let b := adpllPage pll
  if s.bit (b + 0x50) 31 then
    let s1 := (((s.setBit (b + 0x50) 31 false).setBit (b + 0x50) 29 true).setBit (b + 0x50) 23 true).irq b 0
    if pll = 0 then { s1 with clk := { s1.clk with grace := true } } else s1
  else s

/-- ADPLL_LOCK_LOSS (R120): the ADPLL leaves lock, enters hold and, on ADPLL-A, starts its grace count. -/
def execAdpllLockLoss (pll : Nat) (errs : List Int) (s : State) : Out :=
  .next (if s.bit (adpllPage pll + 0x50) 31 ∧ unlockMet s pll errs then
    leaveLock (s.setFld (adpllPage pll + 0x50) 15 0 (phErrBits (errs.getLastD 0))) pll else s)

/-- REFERENCE_LOSS (R121): REF_LOST and its flag are set, lock is left and the tuning word is held. A lost reference is not lost
again. -/
def execReferenceLoss (pll : Nat) (s : State) : Out :=
  let b := adpllPage pll
  .next (if s.bit (b + 0x50) 28 then s
    else ((((leaveLock s pll).setBit (b + 0x50) 28 true).setBit (b + 0x50) 24 true).irq b 1).setBit (b + 0x50) 29 true)

/-- REFERENCE_RETURN (R121): the edges arrive again and REF_LOST clears. Hold ends with lock; an acquisition, which is no loss of
lock, goes on without it (R122). -/
def execReferenceReturn (pll : Nat) (s : State) : Out :=
  let a := adpllPage pll + 0x50
  .next (if s.bit a 28 then
    (if s.bit a 30 then (s.setBit a 28 false).setBit a 29 false else s.setBit a 28 false)
  else s)

/-- GRACE_EXPIRY (R122): the heartbeat stops until the next system reset and GRACE_EXP is set. -/
def execGraceExpiry (s : State) : Out :=
  .next (if s.clk.grace then
    let s1 := (s.setBit (ADPLLA + 0x50) 25 true).irq ADPLLA 2
    { s1 with clk := { s1.clk with grace := false }, rst := { s1.rst with hbStopped := true } }
  else s)

/-- A write to OUTk_CFG (R116, R119, R123, R124). -/
def outCfgWrite (s : State) (init pll k : Nat) (data : Word) : State :=
  let a := adpllPage pll + 0x60 + 4 * k
  let old := s.rd a
  if pll ≠ 0 then
    if k ≠ 0 then s.respond init a 0
    else if !tb data 31 && anyPwmOn s then s.errorResp init a .refused true
    else (s.setBit a 31 (tb data 31)).respond init a 0
  else if 8 ≤ k then s.respond init a 0
  else if bitsOf data 15 8 < 2 ∨ (k = 1 ∧ !tb data 31) then s.errorResp init a .refused true
  else if tb old 31 ∧ bitsOf old 15 0 ≠ bitsOf data 15 0 then s.errorResp init a .refused true
  else if tb data 31 && !outOk (s.fld (ADPLLA + 0x40) 1 0) (s.fld (ADPLLA + 0x44) 28 0) k (bitsOf data 15 8) then
    s.errorResp init a .refused true
  else (s.ptpSync.wr a (putBits (putBits old 31 31 (bitsOf data 31 31)) 15 0 (bitsOf data 15 0))).respond init a 0

/-- ADPLL_OUTPUT_CFG_WRITE (R123): the enable, divider and delay change, or the write is refused. -/
def execAdpllOutputCfgWrite (init pll k : Nat) (data : Word) (s : State) : Out :=
  .next (s.writeAt .ref (adpllPage pll) init (adpllPage pll + 0x60 + 4 * k) data (fun t => outCfgWrite t init pll k data))

/-- A trim code one step nearer to its target, within 0-63 (R126). -/
def trimStep (trim : Nat) (target : Int) : Nat :=
  if (trim : Int) < target then min (trim + 1) 63 else if target < (trim : Int) then trim - 1 else trim

/-- ICAL_UPDATE (R126): ADPLL-B measures a group's replica and moves its trim by at most one step; an end
code that the trim reaches with the target beyond it sets TRIM_LIMIT. -/
def execIcalUpdate (group : Nat) (target : Int) (worst maxErr : Nat) (s : State) : Out :=
  .next (if s.bit (ADPLLB + 0x80) 31 ∧ s.bit (ADPLLB + 0x84) 31 ∧ group < 6 then
    let new := trimStep (nth 0 s.clk.trims group) target
    let s1 := (s.setFld (ADPLLB + 0x84) 18 16 worst).setFld (ADPLLB + 0x84) 15 8 (min maxErr 255)
    let s2 := { s1 with clk := { s1.clk with trims := upd s1.clk.trims group (fun _ => new) } }
    if (new = 0 ∧ target < 0) ∨ (new = 63 ∧ 63 < target) then (s2.setBit (ADPLLB + 0x84) 30 true).irq ADPLLB 2 else s2
  else s)

/-- The running bits of SYS.CLKSTAT (R134): CLK_REF reads 0 while ADPLL-A's detector declares it lost. -/
def runBits (s : State) : Nat :=
  b2n (s.domRun .tel) + 2 * b2n (s.domRun .fab) + 4 * b2n (s.domRun .pwm) + 8 * b2n (s.domRun .adc) + 16 * b2n (s.domRun .xspi) +
  32 * b2n (s.domRun .ox) + 64 * b2n (s.domRun .eth) + 128 * b2n (s.domRun .can) + 256 * b2n (s.domRun .ddr) +
  512 * b2n (!s.bit (ADPLLA + 0x50) 28) + 1024 * b2n (s.domRun .ps)

/-- CLOCK_MONITOR_WINDOW (R134): each domain's bit in SYS.CLKSTAT is updated. -/
def execClockMonitorWindow (s : State) : Out := .next (s.setFld SYS.CLKSTAT 10 0 (runBits s))

/-- The control die drives the heartbeat: CLK_FAB runs and no grace expiry has stopped it (R30, R122). -/
def State.heartbeat (s : State) : Bool := decide (s.rst.dawn ≠ .held) && s.domRun .fab && !s.rst.hbStopped

end Sys2Proof.Machine
end

