-- ==== Sys2Proof/Machine/Header.lean ====
section
/-!
DEFINITION. What every page has in common (R138-R144), the keys of the SYS page (R102, R144, R149, R150) and the interrupt
controller (R152-R154).
-/
namespace Sys2Proof.Machine

/-- Run `k` on the page whose range holds address `a`, once its clock runs and no soft reset is under way; an address no
page holds gives an error response (R137). -/
def State.onPage (s : State) (init a : Nat) (data : Word) (k : PageRow → Nat → State → State) : State :=
  match findPage a with
  | none => s.errorResp init a .unmapped true
  | some (p, _, b) => s.writeAt p.dom b init a data (k p b)

/-! ### Locks (R141) -/

/-- A write to LOCK: its two keys lock and unlock the page, any other value is refused (R141). -/
def lockWrite (init b : Nat) (data : Word) (s : State) : State :=
  if data = 0x5EA1C0DE then (s.setBit (b + 0x10) 30 true).respond init (b + 0x20) 0
  else if data = 0xC0DE5EA1 then (s.setBit (b + 0x10) 30 false).respond init (b + 0x20) 0
  else s.errorResp init (b + 0x20) .refused true

/-- PAGE_LOCK (R141). -/
def execPageLock (init base : Nat) (s : State) : Out :=
  .next (s.onPage init (base + 0x20) 0x5EA1C0DE (fun _ b t => lockWrite init b 0x5EA1C0DE t))

/-- PAGE_UNLOCK (R141). -/
def execPageUnlock (init base : Nat) (s : State) : Out :=
  .next (s.onPage init (base + 0x20) 0xC0DE5EA1 (fun _ b t => lockWrite init b 0xC0DE5EA1 t))

/-! ### Versions (R144) -/

/-- A write to SYS.VERSEL: a 1 closes version selection of the always-on pages (R144). In version 1 the register is absent. -/
def verselWrite (init : Nat) (data : Word) (s : State) : State :=
  if tb data 0 && decide (s.ver SYS.base ≠ 1) then (s.setBit SYS.VERSEL 0 false).respond init SYS.VERSEL 0
  else s.respond init SYS.VERSEL 0

/-- VERSEL_CLOSE (R144). -/
def execVerselClose (init : Nat) (s : State) : Out :=
  .next (s.writeAt .fab SYS.base init SYS.VERSEL 1 (verselWrite init 1))

/-! ### The test key (R149, R150) and the debug opener (R102) -/

/-- A write to SYS.TESTEN: the key is taken in OPEN, or in SECURED while debug is open, and refused elsewhere; any other
value drops it. -/
def testenWrite (init : Nat) (data : Word) (s : State) : State :=
  if data = 0x7E575EED then
    if s.lifecycle = 1 ∨ (s.lifecycle = 3 ∧ s.bit SYS.STAT 10) then
      ((s.setBit SYS.STAT 9 true).irq SYS.base 1).respond init SYS.TESTEN 0
    else s.errorResp init SYS.TESTEN .refused true
  else (s.setBit SYS.STAT 9 false).respond init SYS.TESTEN 0

/-- TEST_KEY_TAKE (R150). -/
def execTestKeyTake (init : Nat) (s : State) : Out :=
  .next (s.writeAt .fab SYS.base init SYS.TESTEN 0x7E575EED (testenWrite init 0x7E575EED))

/-- TEST_KEY_DROP (R149): every PERTURB register stops acting, its value is kept. -/
def execTestKeyDrop (init : Nat) (data : Word) (s : State) : Out :=
  .next (s.writeAt .fab SYS.base init SYS.TESTEN data (testenWrite init data))

/-- A write to SYS.DBGOPEN (R102): refused in RETIRED; the key opens debug in SECURED; any other value closes it. -/
def dbgopenWrite (init : Nat) (data : Word) (s : State) : State :=
  if s.lifecycle = 7 then s.errorResp init SYS.DBGOPEN .refused true
  else if data = 0xDEB60A4E then
    (if s.lifecycle = 3 then s.setBit SYS.STAT 10 true else s).respond init SYS.DBGOPEN 0
  else (s.setBit SYS.STAT 10 false).respond init SYS.DBGOPEN 0

/-- DEBUG_OPEN (R102). -/
def execDebugOpen (init : Nat) (s : State) : Out :=
  .next (s.writeAt .fab SYS.base init SYS.DBGOPEN 0xDEB60A4E (dbgopenWrite init 0xDEB60A4E))

/-- DEBUG_CLOSE (R102). -/
def execDebugClose (init : Nat) (data : Word) (s : State) : Out :=
  .next (s.writeAt .fab SYS.base init SYS.DBGOPEN data (dbgopenWrite init data))

/-- Clerk debug is available (R102). -/
def State.debugOpen (s : State) : Bool := decide (s.lifecycle = 1) || (decide (s.lifecycle = 3) && s.bit SYS.STAT 10)

/-! ### The interrupt controller -/

/-- The IRQ_RAW bits that drive a source: the page's base and a mask (R154 and the page chapters). -/
def sourceBits (n : Nat) : Nat × Nat :=
  if n = 0 then (0, 0)
  else if n ≤ 2 then (SYS.base, 2 ^ (n - 1))
  else if n ≤ 5 then (ADPLLA, 2 ^ (n - 3))
  else if n ≤ 8 then (ADPLLB, 2 ^ (n - 6))
  else if n = 9 then (FAB.base, 0b1001)
  else if n ≤ 11 then (FAB.base, 2 ^ (n - 9))
  else if n ≤ 37 then (CV.base (n - 12), 0xFFFFFFFF)
  else if n = 38 then (ADCC.base, 7)
  else if n ≤ 86 then (PWM.base (n - 39), 0xFFFFFFFF)
  else if n = 87 then (PWMC.base, 1)
  else if n ≤ 99 then (GATE.base (n - 88), 0xFFFFFFFF)
  else if n ≤ 115 then (TLR.base (n - 100), 0xFFFFFFFF)
  else if n = 116 then (TELC.base, 1)
  else if n = 117 then (TELC.base, 2)
  else if n = 118 then (TELC.base, 0b111100)
  else if n = 119 then (SETL.base, 0b11111)
  else if n = 120 then (SETL.base, 0x300)
  else if n ≤ 124 then (MP.base (n - 121), 0xFFFFFFFF)
  else if n = 125 then (GISL.base, 7)
  else if n = 126 then (GFRT.base, 1)
  else if n = 127 then (GFRT.base, 0b1110)
  else if n = 128 then (GSYNC.base, 0xF)
  else if n = 129 then (HEALTH.base, 1)
  else if n = 130 then (HEALTH.base, 2)
  else if n = 131 then (HEALTH.base, 0b11100)
  else if n ≤ 133 then (ETH.base (n - 132), 0x7F)
  else if n ≤ 135 then (ETH.base (n - 134), 0x700)
  else if n ≤ 139 then (CAN.base (n - 136), 0x3F)
  else if n = 140 then (XSPI.base, 7)
  else if n = 141 then (DDRC.base, 0xF)
  else if n = 142 then (DDRPHY.base, 7)
  else if n = 143 then (REC.base, 1)
  else if n = 144 then (REC.base, 6)
  else if n ≤ 146 then (UART.base (n - 145), 0x3F)
  else if n ≤ 148 then (SPI.base (n - 147), 7)
  else if n ≤ 180 then (GPIO.base, 2 ^ (n - 149))
  else if n ≤ 188 then (OX.base (n - 181), 0xFFFFFFFF)
  else if n ≤ 192 then (CP.base (n - 189), 0xFFFFFFFF)
  else if n = 193 then (RSUP.base, 1)
  else if n = 194 then (RSUP.base, 2)
  else if n = 195 then (WCMP.base, 7)
  else if n = 196 then (PCMP.base, 7)
  else if n = 197 then (AUX.base, 0xF)
  else if n = 198 then (SMBX.base, 1)
  else if n = 199 then (SMBX.base, 0b1111110)
  else (0, 0)

/-- LW_IRQ of the ledger window (R403). -/
abbrev LW_IRQ : Nat := 0x40C0F0F8

/-- Source `n` is asserted (R152): a bit of IRQ_PEND that its page assigns to it is 1; the ledger window's three sources
follow LW_IRQ (R403). -/
def State.sourceLevel (s : State) (n : Nat) : Bool :=
  if 200 ≤ n ∧ n ≤ 202 then s.bit LW_IRQ (n - 200)
  else
    let (b, m) := sourceBits n
    decide (s.shown (b + 0x14) &&& s.rd (b + 0x18) &&& Word.ofNat m ≠ 0)

/-- Source `n` is pending: asserted and not claimed (R153). -/
def State.sourcePending (s : State) (n : Nat) : Bool := s.sourceLevel n && !(s.claimed.any (fun p => p.1 == n))

/-- The priority of source `n`, as the page's version shows it. -/
def State.prio (s : State) (n : Nat) : Nat := bitsOf (s.shown (INTC.base + 0x400 + 4 * n)) 2 0

/-- Source `n` is enabled for context `c`. -/
def State.intEnabled (s : State) (c n : Nat) : Bool := s.bit (INTC.base + 0x80 + 0x20 * c + 4 * (n / 32)) (n % 32)

/-- Source `n` may be claimed by context `c` (R153). -/
def State.eligible (s : State) (c n : Nat) : Bool :=
  s.sourcePending n && s.intEnabled c n && decide (bitsOf (s.shown (INTC.base + 0xC0 + 8 * c)) 2 0 < s.prio n)

/-- The better of the best source so far and source `n`: higher priority, ties to the lower number (R153). -/
def State.betterSource (s : State) (c best n : Nat) : Nat :=
  if s.eligible c n ∧ (best = 0 ∨ s.prio best < s.prio n) then n else best

/-- The source a read of CLAIMc returns, 0 for none (R153). -/
def State.claimable (s : State) (c : Nat) : Nat :=
  (List.range 203).foldl (fun best n => if n = 0 then best else s.betterSource c best n) 0

/-- A read of CLAIMc (R153): it returns the best eligible source and clears its pending bit. -/
def claimRead (init c : Nat) (s : State) : State :=
  let n := s.claimable c
  let s1 := if n = 0 then s else { s with claimed := s.claimed ++ [(n, c)] }
  s1.respond init (INTC.base + 0xC4 + 8 * c) (Word.ofNat n)

/-- INTC_CLAIM (R153). -/
def execIntcClaim (init ctx : Nat) (s : State) : Out :=
  .next (s.readAt .fab INTC.base init (INTC.base + 0xC4 + 8 * ctx) (claimRead init (ctx % 2)))

/-- A write to CLAIMc (R153): a claimed source that is enabled for the context may become pending again; any other write is
ignored. -/
def completeWrite (init c : Nat) (data : Word) (s : State) : State :=
  let n := bitsOf data 7 0
  let s1 := if s.claimed.any (fun p => p.1 == n) && s.intEnabled c n then
    { s with claimed := s.claimed.filter (fun p => p.1 != n) } else s
  s1.respond init (INTC.base + 0xC4 + 8 * c) 0

/-- INTC_COMPLETE (R153). -/
def execIntcComplete (init ctx : Nat) (data : Word) (s : State) : Out :=
  .next (s.writeAt .fab INTC.base init (INTC.base + 0xC4 + 8 * ctx) data (completeWrite init (ctx % 2) data))

/-- FABRIC_ERROR_RESPONSE (R173): a slip its target refuses completes with an error response. -/
def execFabricErrorResponse (init addr cause sub : Nat) (write : Bool) (s : State) : Out :=
  let c : Cause := match cause with
    | 1 => .unmapped | 2 => .size | 3 => .lockedField | 5 => .owner | 6 => .link | 7 => .ledger | _ => .refused
  let s1 := if c = .link then (s.setBit (RSUP.base + 0x10) 8 true).irq RSUP.base 1 else s
  .next (s1.errorResp init addr c write sub)

end Sys2Proof.Machine
end

