-- ==== Sys2Proof/Machine/Fabric.lean ====
section
/-!
DEFINITION. The clearing fabric (chapter 6): coins, the issue of a slip, aging and urgency, arbitration at a port, and the
counters of the FAB page. Applying a granted slip at its target stands in Machine/Bus.lean.
-/
namespace Sys2Proof.Machine

/-- The class of an initiator (R158); a number without an initiator has none. -/
def initClass (n : Nat) : Option SlipClass :=
  if n < 26 ∨ (32 ≤ n ∧ n ≤ 50) then some .loop
  else if 64 ≤ n ∧ n ≤ 67 then some .host
  else if 80 ≤ n ∧ n ≤ 83 then some .bulk
  else if n = 96 ∨ n = 97 then some .test
  else none

/-- An initiator's own coins: the first number and how many (R158). -/
def ownCoins (n : Nat) : Nat × Nat :=
  if n < 26 then (4 * n, 4)
  else if 32 ≤ n ∧ n < 48 then (104 + 8 * (n - 32), 8)
  else if n = 48 then (232, 8) else if n = 49 then (240, 8) else if n = 50 then (248, 8)
  else if n = 64 then (256, 24) else if n = 65 then (280, 24) else if n = 66 then (304, 8) else if n = 67 then (312, 8)
  else if n = 80 then (320, 48) else if n = 81 then (368, 16) else if n = 82 then (384, 16) else if n = 83 then (400, 16)
  else if n = 96 then (416, 24) else if n = 97 then (440, 8)
  else (0, 0)

/-- The coins that have not returned: those of the slips in flight, and those that a PERTURB pattern withholds from their initiator
(R157, R176), as (coin, initiator). -/
def State.held (s : State) : List (Nat × Nat) := s.fab.slips.map (fun p => (p.coin, p.init)) ++ s.fab.withheld

/-- The coin has not returned to its pool. -/
def State.coinBusy (s : State) (c : Nat) : Bool := s.held.any (fun q => q.1 == c)

/-- Coins in use among those a test of (coin, initiator) picks. -/
def State.coinsIn (s : State) (f : Nat → Nat → Bool) : Nat := (s.held.filter (fun q => f q.1 q.2)).length

/-- A reserve coin (R158). -/
def isReserve (c : Nat) : Bool := 448 ≤ c && c < 512

/-- The lowest free coin among `k` from `first` upward. DESIGN CHOICE (notes/assumptions/81.md): R156 does not say which of its free
coins an initiator takes. -/
def State.freeFrom (s : State) (first k : Nat) : Option Nat := ((List.range k).map (first + ·)).find? (fun c => !s.coinBusy c)

/-- The coin a slip of `n` takes: an own coin first; HOST, BULK and TEST may borrow from the reserve, at most 16 coins an
initiator and 32 for BULK together (R159, R160). -/
def State.takeCoin (s : State) (n : Nat) : Option Nat :=
  match initClass n with
  | none => none
  | some c =>
    match s.freeFrom (ownCoins n).1 (ownCoins n).2 with
    | some k => some k
    | none =>
      let mine := s.coinsIn (fun k m => m == n && isReserve k)
      let bulk := s.coinsIn (fun k m => decide (initClass m = some .bulk) && isReserve k)
      if c = .loop ∨ 16 ≤ mine ∨ (c = .bulk ∧ 32 ≤ bulk) then none else s.freeFrom 448 64

/-- An initiator stalls when no coin is free for it (R159). -/
def State.coinStall (s : State) (n : Nat) : Bool := (s.takeCoin n).isNone

/-- The counters that follow the coins in use (COINUSE, COINHWM, INFLIGHT, WATCHOUT), unless FREEZE holds them; the
RES_EMPTY flag of STAT always follows. -/
def State.fabRefresh (s : State) : State :=
  let own := fun (c : SlipClass) => s.coinsIn (fun k m => decide (initClass m = some c) && !isReserve k)
  let res := s.coinsIn (fun k _ => isReserve k)
  let resBulk := s.coinsIn (fun k m => isReserve k && decide (initClass m = some .bulk))
  let u := [own .loop * 65536 + own .host, own .bulk * 65536 + own .test, res * 65536 + resBulk]
  let s0 := s.setBit (FAB.base + 0x10) 8 (decide (res = 64))
  if s.bit (FAB.base + 0x0C) 2 then s0
  else
    let put := fun (t : State) (k : Nat) =>
      let v := u.getD k 0
      let h := FAB.COINHWM k
      ((t.wr (FAB.COINUSE k) (Word.ofNat v)).setFld h 31 16 (max (t.fld h 31 16) (v / 65536))).setFld h 15 0 (max (t.fld h 15 0) (v % 65536))
    let s1 := put (put (put s0 0) 1) 2
    let n := s.fab.slips.length
    let s2 := (s1.setFld FAB.INFLIGHT 9 0 n).setFld FAB.INFLIGHT 25 16 (max (s1.fld FAB.INFLIGHT 25 16) n)
    let w := (s.fab.slips.filter (fun p => p.init == s.fld FAB.WATCHSEL 7 0)).length
    if s.bit FAB.WATCHSEL 31 then
      (s2.setFld FAB.WATCHOUT 6 0 w).setFld FAB.WATCHOUT 22 16 (max (s2.fld FAB.WATCHOUT 22 16) w)
    else s2

/-- The page whose PERTURB register governs an initiator's slips (R176). DESIGN CHOICE (notes/assumptions/82.md): the manual names no
page for the initiators that have none of their own; the clerks, the debug access and the boot loader take the SYS page, the
grid engine with its four pages takes GSYNC, the memory engine HEALTH. -/
def initPage (n sub : Nat) : Nat :=
  if n < 26 then CV.base n
  else if 32 ≤ n ∧ n < 48 then TLR.base (n - 32)
  else if n = 48 then SETL.base else if n = 49 then MP.base (sub % 4) else if n = 50 then GSYNC.base
  else if n = 80 then REC.base else if n = 81 ∨ n = 82 then ETH.base (n - 81) else if n = 83 then CAN.base (sub % 4)
  else if n = 96 ∨ n = 97 then HEALTH.base else SYS.base

/-- A slip with a coin enters the fabric; it counts for COINPAT while the test key is held (R149, R176), for WATCHISS and
for RES_EMPTY. DESIGN CHOICE (notes/assumptions/83.md): R176 does not say where a run of 16 slips begins; the count runs per
initiator, through all its channels, only while its COINPAT acts, and stands while it does not. -/
def State.launch (s : State) (p : Slip) (coin : Nat) : State :=
  let pat := if s.bit SYS.STAT 9 then s.fld (initPage p.init p.sub + 0x24) 11 8 else 0
  let k := tabGet s.fab.pattern p.init
  let late := decide (k < pat)
  let pattern := if pat = 0 then s.fab.pattern else tabSet s.fab.pattern p.init ((k + 1) % 16)
  let s1 := { s with fab := { s.fab with slips := s.fab.slips ++ [{ p with coin := coin, late := late }], pattern := pattern } }
  let s2 := if s.bit FAB.WATCHSEL 31 ∧ s.fld FAB.WATCHSEL 7 0 = p.init then s1.fabCount FAB.WATCHISS 31 0 else s1
  let s3 := if s1.coinsIn (fun k _ => isReserve k) = 64 ∧ isReserve coin then s2.irq FAB.base 3 else s2
  s3.fabRefresh

/-- An initiator issues a slip, or stalls it until a coin returns (R159). A stalled initiator's later slips wait behind. -/
def State.issue (s : State) (p : Slip) : State :=
  if s.fab.stalled.any (fun q => q.init == p.init) then { s with fab := { s.fab with stalled := s.fab.stalled ++ [p] } }
  else
    match s.takeCoin p.init with
    | some c => s.launch p c
    | none => { s with fab := { s.fab with stalled := s.fab.stalled ++ [p] } }

/-- After a coin has returned, stalled slips that now find one are issued: they are presented in that CLK_FAB cycle, from which
their age counts (R159, R162; notes/assumptions/84.md). DESIGN CHOICE (notes/assumptions/85.md): the manual does not say which
stalled initiator takes a returned reserve coin; the slip that has stalled longest does. -/
def State.unstall (s : State) (cycle : Nat) : List Slip → State
  | [] => s
  | p :: t =>
    match s.takeCoin p.init with
    | some c =>
      if (s.fab.stalled.find? (fun q => q.init == p.init)) = some p then
        ({ s with fab := { s.fab with stalled := s.fab.stalled.erase p } }.launch { p with cycle := cycle } c).unstall cycle t
      else s.unstall cycle t
    | none => s.unstall cycle t

/-- The bytes of a slip lie inside one naturally aligned 16-byte block (R155). -/
def slipSizeOk (addr n : Nat) : Bool := 1 ≤ n && addr % 16 + n ≤ 16

/-- LR, SC and AMO are accepted on system SRAM and on both TCMs (R506). -/
def atomicOk (a : Nat) : Bool := (0x20000000 ≤ a && a < 0x21800000) || (0x10000000 ≤ a && a < 0x10100000)

/-! ### Aging and urgency -/

/-- The aging threshold of a class in CLK_FAB cycles (R163, AGECFG): in version 1 HOST serves all three. -/
def State.ageLimit (s : State) (c : SlipClass) : Nat :=
  let f := match c with
    | .test => if s.ver FAB.base = 1 then s.fld FAB.AGECFG 9 0 else s.fld FAB.AGECFG 29 20
    | .bulk => if s.ver FAB.base = 1 then s.fld FAB.AGECFG 9 0 else s.fld FAB.AGECFG 19 10
    | _ => s.fld FAB.AGECFG 9 0
  8 * max f 1

/-- Change the slip that holds coin `c`. -/
def State.updSlip (s : State) (c : Nat) (f : Slip → Slip) : State :=
  { s with fab := { s.fab with slips := s.fab.slips.map (fun p => if p.coin = c then f p else p) } }

/-- The slip that holds coin `c`. -/
def State.slipOf (s : State) (c : Nat) : Option Slip := s.fab.slips.find? (fun p => p.coin == c)

/-- The age of a slip at a cycle, saturating at 4,095 (R162). -/
def Slip.age (p : Slip) (cycle : Nat) : Nat := min (cycle - p.cycle) 4095

/-- SLIP_AGED (R163): a waiting HOST, BULK or TEST slip whose age exceeds its threshold takes its aged rank. -/
def execSlipAged (coin cycle : Nat) (s : State) : Out :=
  .next (s.clocked .fab (fun s => match s.slipOf coin with
    | none => s
    | some p =>
      match initClass p.init with
      | some c =>
        if c ≠ .loop ∧ !p.applied ∧ !p.aged ∧ s.ageLimit c < p.age cycle then
          (s.updSlip coin (fun q => { q with aged := true })).fabCount FAB.AGEDCNT 31 0
        else s
      | none => s))

/-- The urgent margin in µs (R164); in version 1 it is fixed at 5. -/
def State.urgMargin (s : State) : Nat := if s.ver FAB.base = 1 then 5 else max (s.fld FAB.URGCFG 7 0) 1

/-- SLIP_URGENT (R164): a TEST slip with a slice's deadline becomes urgent at instant `at_` (in units of 62.5 ps), when the time
left is at most the margin. -/
def execSlipUrgent (coin at_ : Nat) (s : State) : Out :=
  .next ((s.atTime at_).clocked .fab (fun s => match s.slipOf coin with
    | none => s
    | some p =>
      match p.deadline with
      | none => s
      | some d =>
        if initClass p.init = some .test ∧ !p.applied ∧ !p.urgent ∧ d ≤ at_ + 16000 * s.urgMargin then
          ((s.updSlip coin (fun q => { q with urgent := true })).irq FAB.base 1).fabCount FAB.URGCNT 31 0
        else s))

/-! ### Ports and arbitration -/

/-- The target port that serves an address (R161): 0-15 TSM, 16 TPL, 17 SRAM, 18-19 TCM, 20-31 PWG, 32 PWMC, 33 ADC, 34 TEL,
35 ENG, 36 SYSP, 37 IOP, 38 PSL, 39 LDG, 40 XSPI, 41 DDR; 42 stands for addresses no port serves. -/
def portOf (a : Nat) : Nat :=
  if 0x30040000 ≤ a ∧ a < 0x300C0000 then (a - 0x30040000) / 0x8000
  else if 0x30000000 ≤ a ∧ a < 0x30040000 then 16
  else if 0x20000000 ≤ a ∧ a < 0x21800000 then 17
  else if 0x10000000 ≤ a ∧ a < 0x10080000 then 18
  else if 0x10080000 ≤ a ∧ a < 0x10100000 then 19
  else if 0x40020000 ≤ a ∧ a < 0x40050000 then 20 + (a - 0x40020000) / 0x4000
  else if 0x40880000 ≤ a ∧ a < 0x4088C000 then 20 + (a - 0x40880000) / 0x1000
  else if 0x40050000 ≤ a ∧ a < 0x40051000 then 32
  else if 0x40010000 ≤ a ∧ a < 0x40020000 then 33
  else if 0x40060000 ≤ a ∧ a < 0x40071000 then 34
  else if 0x40080000 ≤ a ∧ a < 0x4008C000 then 35
  else if (0x40000000 ≤ a ∧ a < 0x40009000) ∨ (0x40090000 ≤ a ∧ a < 0x40091000) then 36
  else if 0x400A0000 ≤ a ∧ a < 0x400D0000 then 37
  else if 0x40800000 ≤ a ∧ a < 0x40880000 then 38
  else if 0x40C00000 ≤ a ∧ a < 0x40C10000 then 39
  else if 0x60000000 ≤ a ∧ a < 0x70000000 then 40
  else if 0x80000000 ≤ a ∧ a < 0x100000000 then 41
  else 42

/-- The rank of a slip (R162). -/
def Slip.rank (p : Slip) : Nat :=
  match initClass p.init with
  | some .loop => 1
  | some .host => if p.aged then 3 else 4
  | some .test => if p.urgent then 0 else if p.aged then 3 else 5
  | some .bulk => if p.aged then 2 else 6
  | none => 7

/-- `p` ranks before `q` (R162): lower rank, then older, then the lower initiator number. -/
def Slip.before (p q : Slip) (cycle : Nat) : Bool :=
  p.rank < q.rank || (p.rank == q.rank && (q.age cycle < p.age cycle || (p.age cycle == q.age cycle && p.init < q.init)))

/-- The first-ranking slip of a list. -/
def bestSlip (cycle : Nat) : List Slip → Option Slip
  | [] => none
  | p :: t =>
    match bestSlip cycle t with
    | none => some p
    | some q => if q.before p cycle then some q else some p

/-- Aged HOST or aged TEST (R165). -/
def Slip.agedHostTest (p : Slip) : Bool :=
  p.aged && !p.urgent && (decide (initClass p.init = some .host) || decide (initClass p.init = some .test))

/-- Slips waiting at a port that the port could grant: R169 keeps one initiator's slips to one port in order, and a slip
to a page that must wait (`blocked`) waits (R175); the port grants an urgent slip only 32 cycles after the last (R164). -/
def State.candidates (s : State) (port cycle : Nat) (blocked : Slip → Bool) : List Slip :=
  let at_ := s.fab.slips.filter (fun p => !p.applied && portOf p.addr == port)
  let urgentOk := match Store.find s.fab.urgentAt port with
    | some c => decide (c + 32 ≤ cycle)
    | none => true
  at_.filter (fun p => decide ((at_.find? (fun q => q.init == p.init)) = some p) && !blocked p && (urgentOk || !p.urgent))

/-- Ports that serve no LOOP traffic: R162 alone orders their grants (R167). -/
def loopFree (port : Nat) : Bool := [18, 19, 36, 38, 39, 40, 41].contains port

/-- The slip a port grants in a cycle (R162, R164). After three grants at rank 0 or 1 the turn of R165 takes an aged HOST or TEST
slip before the urgent and LOOP slips that wait; where none waits, R162 orders the grant and an aged BULK slip goes first
(R167). -/
def State.grantee (s : State) (port cycle : Nat) (blocked : Slip → Bool) : Option Slip :=
  let cs := s.candidates port cycle blocked
  let turn := cs.filter Slip.agedHostTest
  if !loopFree port ∧ 3 ≤ tabGet s.fab.turn port ∧ turn ≠ [] ∧ cs.any (fun p => decide (p.rank ≤ 1)) then bestSlip cycle turn
  else bestSlip cycle cs

/-- What a grant leaves at the port: the wait record, the turn count of R165, the last urgent grant of R164. -/
def State.noteGrant (s : State) (port cycle : Nat) (p : Slip) : State :=
  let k := match initClass p.init with
    | some .loop => 0 | some .host => 1 | some .bulk => 2 | _ => 3
  let wait := min (cycle - p.cycle) 65535
  let s1 := if s.bit (FAB.base + 0x0C) 2 then s else s.wr (FAB.WAITMAX k) (Word.ofNat (max (s.fld (FAB.WAITMAX k) 15 0) wait))
  let waits := s.fab.slips.any (fun q => !q.applied && portOf q.addr == port && q.agedHostTest && q.coin != p.coin)
  let n := if p.rank ≤ 1 ∧ waits then tabGet s.fab.turn port + 1 else 0
  { s1 with fab := { s1.fab with
      turn := tabSet s1.fab.turn port n,
      urgentAt := if p.urgent then Store.insert (Store.erase s1.fab.urgentAt port) port cycle else s1.fab.urgentAt } }

/-- The fabric delivers slips of one initiator to one page at least one target cycle apart (R171). -/
def State.tooClose (s : State) (target : Nat) (p : Slip) : Bool :=
  (findPage p.addr).isSome &&
  s.fab.lastGrant.any (fun g => g.page == pageBase p.addr && g.init == p.init && decide (target ≤ g.target))

/-- A slip has reached a register page in a target cycle (R171): where it and another initiator's slip of that cycle are both
writes, the page and the fabric flag the collision. Memories set no flag (R172). The flags stand after both writes, whatever
these clear (R143). -/
def State.noteCollision (s : State) (target : Nat) (p : Slip) : State :=
  if (findPage p.addr).isNone then s
  else
    let b := pageBase p.addr
    let hit := p.write && s.fab.lastGrant.any (fun g => g.page == b && g.target == target && g.init != p.init && g.write)
    let g : PageGrant := { page := b, init := p.init, target := target, write := p.write }
    let s1 := { s with fab := { s.fab with lastGrant := s.fab.lastGrant.filter (fun q => q.page != b || q.init != p.init) ++ [g] } }
    if hit then
      (((s1.setBit (b + 0x10) 31 true).irq FAB.base 2).fabCount FAB.COLLCNT 31 0).wr FAB.COLLADDR (Word.ofNat p.addr)
    else s1

/-- The coin of a completed slip returns at cycle `cycle`: at once, or 256 cycles late under a PERTURB pattern (R157, R176). -/
def State.returnCoin (s : State) (cycle : Nat) (p : Slip) : State :=
  let s1 := { s with fab := { s.fab with
    slips := s.fab.slips.filter (fun q => q.coin != p.coin),
    withheld := if p.late then s.fab.withheld ++ [(p.coin, p.init)] else s.fab.withheld } }
  (s1.unstall cycle s1.fab.stalled).fabRefresh

/-- Issue-to-completion time of a watched slip (WATCHLAT). -/
def State.noteLatency (s : State) (p : Slip) (cycle : Nat) : State :=
  if s.bit FAB.WATCHSEL 31 ∧ s.fld FAB.WATCHSEL 7 0 = p.init ∧ !s.bit (FAB.base + 0x0C) 2 then
    let t := min (cycle - p.cycle) 65535
    (s.setFld FAB.WATCHLAT 15 0 t).setFld FAB.WATCHLAT 31 16 (max (s.fld FAB.WATCHLAT 31 16) t)
  else s

/-- A write to FAB.WATCHSEL (R158): the watch counters clear. Version 1 has no such register. -/
def watchselWrite (init : Nat) (data : Word) (s : State) : State :=
  if s.ver FAB.base = 1 then s.respond init FAB.WATCHSEL 0
  else
    ((((s.plainWrite init FAB.WATCHSEL data).wr FAB.WATCHISS 0).wr FAB.WATCHLAT 0).setFld FAB.WATCHOUT 22 16 0).fabRefresh

/-- WATCH_SELECT (R158). -/
def execWatchSelect (init : Nat) (data : Word) (s : State) : Out :=
  .next (s.writeAt .fab FAB.base init FAB.WATCHSEL data (watchselWrite init data))

end Sys2Proof.Machine
end

