-- ==== Sys2Proof/Machine/Can.lean ====
section
/-!
DEFINITION. The CAN FD controllers (R515, R529).
-/
namespace Sys2Proof.Machine

abbrev CAN.MODE (m : Nat) : Nat := CAN.base m + 0x40
abbrev CAN.ERRSTAT (m : Nat) : Nat := CAN.base m + 0x50
abbrev CAN.MBBASE (m : Nat) : Nat := CAN.base m + 0x54
abbrev CAN.MBCTL (m k : Nat) : Nat := CAN.base m + 0x200 + 4 * k
abbrev CAN.SFILT (m k : Nat) : Nat := CAN.base m + 0x400 + 4 * k
abbrev CAN.EFILT (m k : Nat) : Nat := CAN.base m + 0x600 + 16 * k

/-- Controller `m`. -/
def State.canCtl (s : State) (m : Nat) : CanCtl := nth {} s.can m

/-- Change controller `m`. -/
def State.updCan (s : State) (m : Nat) (f : CanCtl → CanCtl) : State := { s with can := upd s.can m f }

/-- The controller takes part in bus traffic: enabled, clocked, not in INIT, not bus-off. -/
def State.canOn (s : State) (m : Nat) : Bool :=
  decide (m < 4) && s.en (CAN.base m) && s.domRun .can && !s.bit (CAN.MODE m) 0 && decide (s.fld (CAN.ERRSTAT m) 31 30 ≠ 3)

/-- ERRSTAT.STATE that ISO 11898-1 gives for the counters of a controller that is not bus-off (PRESUMED: warning from 96,
passive from 128). -/
def canErrState (tec rec_ : Nat) : Nat := if 128 ≤ tec ∨ 128 ≤ rec_ then 2 else if 96 ≤ tec ∨ 96 ≤ rec_ then 1 else 0

/-- The error counters and the state they give; a change of state sets ERRSTATE. -/
def State.canCounters (s : State) (m st tec rec_ : Nat) : State :=
  let s1 := s.wr (CAN.ERRSTAT m) (Word.ofNat (st * 2 ^ 30 + min rec_ 255 * 65536 + min tec 511))
  if s.fld (CAN.ERRSTAT m) 31 30 ≠ st then s1.irq (CAN.base m) 2 else s1

/-- The address of buffer `k`. -/
def State.mbAddr (s : State) (m k : Nat) : Nat := s.fld (CAN.MBBASE m) 31 7 * 128 + 80 * k

/-- A buffer lies in system SRAM. -/
def State.mbOk (s : State) (m k : Nat) : Bool := decide (0x20000000 ≤ s.mbAddr m k) && decide (s.mbAddr m k + 80 ≤ 0x21800000)

/-- The buffer that takes a frame: of the lowest-numbered filter that passes it (R515, R529). -/
def State.canMatch (s : State) (m : Nat) (f : CanFrame) : Option Nat :=
  if f.ide then
    ((List.range 64).find? (fun k =>
      let w := s.rd (CAN.EFILT m k)
      tb w 31 && decide ((w ^^^ Word.ofNat f.id) &&& s.rd (CAN.EFILT m k + 4) &&& 0x1FFFFFFF = 0))).map
      (fun k => s.fld (CAN.EFILT m k + 8) 5 0)
  else
    ((List.range 128).find? (fun k =>
      let w := s.rd (CAN.SFILT m k)
      tb w 31 && decide ((Word.ofNat (bitsOf w 10 0) ^^^ Word.ofNat (f.id % 2048)) &&& Word.ofNat (bitsOf w 21 11) = 0))).map
      (fun k => s.fld (CAN.SFILT m k) 30 25)

/-- The data bytes that a DLC stands for (ISO 11898-1; PRESUMED). -/
def dlcBytes (fdf : Bool) (dlc : Nat) : Nat :=
  if dlc ≤ 8 then dlc else if fdf then [12, 16, 20, 24, 32, 48, 64].getD (dlc - 9) 64 else 8

/-- Words 0 and 1 of a buffer (R529). -/
def canHead (f : CanFrame) (time : Nat) : List Byte :=
  let id := if f.ide then f.id % 2 ^ 29 else f.id % 2048 * 2 ^ 18
  leBytes 4 (b2n f.ide * 2 ^ 31 + b2n f.rtr * 2 ^ 30 + b2n f.fdf * 2 ^ 29 + id) ++
  leBytes 4 (b2n f.brs * 2 ^ 31 + b2n f.esi * 2 ^ 30 + f.dlc % 16 * 65536 + time % 65536)

/-- The DMA files a received frame through its filter into its buffer (R515): the bytes beyond its data stay as they are. -/
def State.canFile (s : State) (m : Nat) (f : CanFrame) (time : Nat) : State :=
  match s.canMatch m f with
  | none => s
  | some k =>
    let a := CAN.MBCTL m k
    if s.fld a 31 30 ≠ 1 then s
    else if !s.mbOk m k then s.errorResp 83 (s.mbAddr m k) .unmapped true m
    else
      let data := if f.rtr then [] else f.data.take (dlcBytes f.fdf f.dlc)
      let s1 := if s.bit a 28 then (s.setBit a 27 true).irq (CAN.base m) 4 else s
      ((s1.setBit a 28 true).irq (CAN.base m) 0).memStore 83 (s.mbAddr m k) (canHead f time ++ data)

/-- The controller that the shared DMA serves next: the first after the last one served, in round robin, that holds a frame (R515). -/
def State.canNext (s : State) : Option Nat :=
  ((List.range 4).map (fun k => (s.canDma + 1 + k) % 4)).find? (fun m => !(s.canCtl m).held.isEmpty)

/-- The shared DMA files up to `k` frames that wait, one for each controller in turn, until it has to wait for a coin (R159, R515). -/
def State.canServe (s : State) : Nat → State
  | 0 => s
  | k + 1 =>
    if s.coinStall 83 then s
    else match s.canNext with
      | none => s
      | some m =>
        match (s.canCtl m).held with
        | [] => s
        | (f, time) :: rest => ((({ s with canDma := m } : State).updCan m (fun x => { x with held := rest })).canFile m f time).canServe k

/-- The shared DMA files all that wait. -/
def State.canDrain (s : State) : State := s.canServe ((s.can.map (fun x => x.held.length)).foldl (· + ·) 0)

/-- A received frame is handed to the DMA (R515). -/
def State.canStore (s : State) (m : Nat) (f : CanFrame) (time : Nat) : State :=
  (s.updCan m (fun x => { x with held := x.held ++ [(f, time)] })).canDrain

/-- CAN_FRAME_RECEIVE (R515): an FD frame is received only with FD_EN, and in internal loop-back the bus is not heard. -/
def execCanFrameReceive (m : Nat) (frame : CanFrame) (time tec rec_ : Nat) (s : State) : Out :=
  .next (if s.canOn m ∧ !s.bit (CAN.MODE m) 4 then
      let s1 := s.canCounters m (canErrState tec rec_) tec rec_
      if frame.fdf ∧ !s.bit (CAN.MODE m) 1 then s1 else s1.canStore m frame time
    else s)

/-- CAN_TX_REQUEST (R515). -/
def execCanTxRequest (init m k : Nat) (s : State) : Out :=
  let a := CAN.MBCTL (m % 4) (k % 64)
  let d := Word.ofNat (s.fld a 31 30 * 2 ^ 30 + 2 ^ 29)
  .next (s.writeAt .can (CAN.base (m % 4)) init a d (fun t => t.plainWrite init a d))

/-- The frame that a buffer's bytes spell (R529). -/
def canFrameOf (bs : List Byte) : CanFrame :=
  let w0 := leNat (bs.take 4)
  let w1 := leNat ((bs.drop 4).take 4)
  let ide := w0.testBit 31
  { ide := ide, rtr := w0.testBit 30, fdf := w0.testBit 29, id := if ide then w0 % 2 ^ 29 else w0 / 2 ^ 18 % 2048,
    brs := w1.testBit 31, esi := w1.testBit 30, dlc := w1 / 65536 % 16,
    data := (bs.drop 8).take (dlcBytes (w0.testBit 29) (w1 / 65536 % 16)) }

/-- CAN_FRAME_SENT (R515): a requested transmit buffer has been sent; with LOOP the controller also receives it. -/
def execCanFrameSent (m k time tec rec_ : Nat) (s : State) : Out :=
  let a := CAN.MBCTL m k
  .next (if s.canOn m ∧ k < 64 ∧ !s.bit (CAN.MODE m) 3 ∧ s.fld a 31 30 = 2 ∧ s.bit a 29 then
      if !s.mbOk m k then s.errorResp 83 (s.mbAddr m k) .unmapped false m
      else
        let bs := s.getBytes (s.mbAddr m k) 80
        let s1 := (s.canCounters m (canErrState tec rec_) tec rec_).updCan m (fun x => { x with sent := bs })
        let s2 := ((s1.setBit a 29 false).setBit a 28 true).irq (CAN.base m) 1
        if s.bit (CAN.MODE m) 4 then s2.canStore m (canFrameOf bs) time else s2
    else s)

/-- CAN_BUS_OFF (R515): the controller enters bus-off; with AUTOREC its recovery starts at once. -/
def execCanBusOff (m tec rec_ : Nat) (s : State) : Out :=
  .next (if s.canOn m then
      ((s.canCounters m 3 tec rec_).irq (CAN.base m) 3).updCan m (fun x => { x with recovering := s.bit (CAN.MODE m) 5 })
    else s)

/-- A write to MODE: RECOVER, and AUTOREC where it becomes 1, starts the recovery of a controller that is bus-off (R515). -/
def canModeWrite (init m : Nat) (data : Word) (s : State) : State :=
  let s1 := s.plainWrite init (CAN.MODE m) data
  if (tb data 8 ∨ tb data 5) ∧ s.fld (CAN.ERRSTAT m) 31 30 = 3 then s1.updCan m (fun x => { x with recovering := true }) else s1

/-- CAN_RECOVER (R515). -/
def execCanRecover (init m : Nat) (s : State) : Out :=
  let d := s.rd (CAN.MODE (m % 4)) ||| 0x100
  .next (s.writeAt .can (CAN.base (m % 4)) init (CAN.MODE (m % 4)) d (canModeWrite init (m % 4) d))

/-- BUS_OFF_RECOVERY_END (R515): a controller that runs has seen the sequence; it is error-active again, both counters at 0. -/
def execBusOffRecoveryEnd (m : Nat) (s : State) : Out :=
  .next (if m < 4 ∧ s.en (CAN.base m) ∧ s.domRun .can ∧ !s.bit (CAN.MODE m) 0 ∧ s.fld (CAN.ERRSTAT m) 31 30 = 3 ∧ (s.canCtl m).recovering then
      (s.canCounters m 0 0 0).updCan m (fun x => { x with recovering := false })
    else s)

/-- A write to NBT or DBT acts only while INIT is 1 (R529). -/
def canTimingWrite (init m a : Nat) (data : Word) (s : State) : State :=
  if s.bit (CAN.MODE m) 0 then s.plainWrite init a data else s.respond init a 0

end Sys2Proof.Machine
end

