-- ==== Sys2Proof/Machine/HostPorts.lean ====
section
/-!
DEFINITION. The xSPI controller, LPDDR4X, the UARTs, the SPI controllers and GPIO (R516-R518, R529).
-/
namespace Sys2Proof.Machine

/-! ### xSPI (R516) -/

abbrev XSPI.ICMD : Nat := XSPI.base + 0x50
abbrev XSPI.ILEN : Nat := XSPI.base + 0x58
abbrev XSPI.POLLCFG : Nat := XSPI.base + 0x5C
abbrev XSPI.POLLTMO : Nat := XSPI.base + 0x60
abbrev XSPI.ISTAT : Nat := XSPI.base + 0x64
abbrev XSPI.IDATA (k : Nat) : Nat := XSPI.base + 0x100 + 4 * k

/-- A write to ICMD: GO runs an indirect command on its chip select. What a GO does while a command runs is left open: it
starts none, and whether it is refused is free. -/
def icmdWrite (init : Nat) (data : Word) (s : State) : State :=
  if !tb data 31 then s.plainWrite init XSPI.ICMD data
  else if s.xspi.isSome then
    (if s.freeBit then s.errorResp init XSPI.ICMD .refused true else s.respond init XSPI.ICMD 0).bumpFree
  else
    let s1 := (s.plainWrite init XSPI.ICMD data).setBit XSPI.ICMD 30 true
    { s1.setFld XSPI.ISTAT 31 30 0 with xspi := some (bitsOf data 28 28) }

/-- XSPI_INDIRECT_CMD (R516). -/
def execXspiIndirectCmd (init : Nat) (data : Word) (s : State) : Out :=
  let d := data ||| 0x80000000
  .next (s.writeAt .xspi XSPI.base init XSPI.ICMD d (icmdWrite init d))

/-- The bytes of a data phase into IDATA, byte `i` upward. -/
def State.idataPut (s : State) : Nat → List Byte → State
  | _, [] => s
  | i, b :: t => (s.setFld (XSPI.IDATA (i / 4)) (8 * (i % 4) + 7) (8 * (i % 4)) b.toNat).idataPut (i + 1) t

/-- The status polling of a command is over (R529): it asked for none, or the status matches. -/
def State.pollOver (s : State) (status : Nat) : Bool :=
  !s.bit XSPI.ICMD 24 || decide (status % 256 &&& s.fld XSPI.POLLCFG 23 16 = s.fld XSPI.POLLCFG 15 8)

/-- XSPI_COMMAND_DONE (R516): the command and its polling end; the reads that waited may proceed. `flash` are the bytes of the
device on the command's chip select that the command has changed. -/
def execXspiCommandDone (status : Nat) (rdata : List Byte) (flash : List FlashByte) (s : State) : Out :=
  .next (s.clocked .xspi (fun s => if s.xspi.isSome ∧ s.pollOver status then
      let c := s.rd XSPI.ICMD
      let s1 := ({ s with xspi := none } : State).setBit XSPI.ICMD 30 false
      let s2 := (s1.wr XSPI.ISTAT (Word.ofNat (2 ^ 31 + status % 256))).irq XSPI.base 0
      let s3 := if tb c 26 && !tb c 25 then s2.idataPut 0 (rdata.take (min (s.fld XSPI.ILEN 8 0) 256)) else s2
      (flash.filter (fun f => some (f.off / 0x8000000) == s.xspi)).foldl (fun t f => t.setByte (0x60000000 + f.off) f.val) s3
    else s))

/-- XSPI_POLL_TIMEOUT (R529): a polling command with a limit ends with TMO; whether DONE is set beside it is left open. -/
def execXspiPollTimeout (status : Nat) (s : State) : Out :=
  .next (s.clocked .xspi (fun s => if s.xspi.isSome ∧ s.bit XSPI.ICMD 24 ∧ s.rd XSPI.POLLTMO ≠ 0 then
      let s1 := ({ s with xspi := none } : State).setBit XSPI.ICMD 30 false
      ((s1.wr XSPI.ISTAT (Word.ofNat (b2n s.freeBit * 2 ^ 31 + 2 ^ 30 + status % 256))).irq XSPI.base 1).bumpFree
    else s))

/-! ### LPDDR4X (R517, R529) -/

abbrev DDRPHY.INIT : Nat := DDRPHY.base + 0x48
abbrev DDRPHY.INITSTAT : Nat := DDRPHY.base + 0x4C

/-- A write to INIT: GO starts initialisation; nothing is mapped until it ends. -/
def ddrInitWrite (init : Nat) (data : Word) (s : State) : State :=
  (if tb data 0 then { s.wr DDRPHY.INITSTAT 0x01000000 with ddrGo := true } else s).respond init DDRPHY.INIT 0

/-- DDR_INIT_GO (R517). -/
def execDdrInitGo (init : Nat) (s : State) : Out :=
  .next (s.writeAt .fab DDRPHY.base init DDRPHY.INIT 1 (ddrInitWrite init 1))

/-- The MiB of one channel's density code; other codes are left open. -/
def densMiB (code : Nat) (open_ : Word) : Nat :=
  if code ≤ 5 then [0, 256, 384, 512, 768, 1024].getD code 0 else open_.toNat % 1025

/-- The mapped size in MiB (R517): both channels, less one eighth with inline ECC. -/
def State.ddrMiB (s : State) : Nat :=
  let n := densMiB (s.fld (DDRPHY.base + 0x44) 3 0) (s.free 0) + densMiB (s.fld (DDRPHY.base + 0x44) 7 4) (s.free 1)
  if s.bit (DDRC.base + 0x40) 31 then n - n / 8 else n

/-- DDR_INIT_DONE (R517, R529). -/
def execDdrInitDone (ok : Bool) (stage lane : Nat) (eyes : List Nat) (s : State) : Out :=
  .next (s.clocked .fab (fun s => if s.ddrGo ∧ s.fld DDRPHY.INITSTAT 31 30 = 0 then
      let s1 := (List.range 8).foldl (fun t k => t.wr (DDRPHY.base + 0x50 + 4 * k) (Word.ofNat (eyes.getD k 0 % 65536))) s
      if ok then ((s1.wr DDRPHY.INITSTAT (Word.ofNat (2 ^ 31 + 7 * 2 ^ 24 + s.ddrMiB))).irq DDRPHY.base 0).bumpFree.bumpFree
      else (s1.wr DDRPHY.INITSTAT (Word.ofNat (2 ^ 30 + stage % 16 * 2 ^ 24 + lane % 256 * 65536))).irq DDRPHY.base 1
    else s))

/-- DDR_RETRAIN (R529): retraining, which also reads each device's temperature register; when TEMP is set is left open. -/
def execDdrRetrain (refA refB : Nat) (s : State) : Out :=
  .next (if s.bit (DDRPHY.base + 0x70) 31 ∧ s.bit DDRPHY.INITSTAT 31 ∧ s.domRun .ddr then
      let s1 := (s.wr (DDRC.base + 0x58) (Word.ofNat (refB % 256 * 256 + refA % 256))).irq DDRC.base 2
      (if s.freeBit then s1.irq DDRC.base 3 else s1).bumpFree
    else s)

/-- PHY_PLL_UNLOCK (R529). -/
def execPhyPllUnlock (s : State) : Out := .next (s.clocked .fab (fun s => s.irq DDRPHY.base 2))

/-- A write to a timing or device register after INIT.GO is refused (R529). -/
def ddrCfgWrite (init a : Nat) (data : Word) (s : State) : State :=
  if s.ddrGo then s.errorResp init a .refused true else s.plainWrite init a data

/-- A write to PLLCFG: a RATE above 3 is refused (R529). -/
def ddrPllWrite (init : Nat) (data : Word) (s : State) : State :=
  if 3 < bitsOf data 2 0 then s.errorResp init (DDRPHY.base + 0x40) .refused true else s.plainWrite init (DDRPHY.base + 0x40) data

/-! ### UART (R518, R529) -/

abbrev UART.TXDATA (m : Nat) : Nat := UART.base m + 0x48
abbrev UART.RXDATA (m : Nat) : Nat := UART.base m + 0x4C
abbrev UART.FIFOSTAT (m : Nat) : Nat := UART.base m + 0x50
abbrev UART.FIFOTHR (m : Nat) : Nat := UART.base m + 0x54

/-- UART `m`. -/
def State.uartAt (s : State) (m : Nat) : SerialPort := nth {} s.uart m

/-- Change UART `m`. -/
def State.updUart (s : State) (m : Nat) (f : SerialPort → SerialPort) : State := { s with uart := upd s.uart m f }

/-- FIFOSTAT, RXDATA, RXTHR and TXTHR follow the FIFOs; the flags are set while the page is enabled and their level holds. -/
def State.uartRefresh (s : State) (m : Nat) : State :=
  let x := s.uartAt m
  let s1 := (s.wr (UART.FIFOSTAT m) (Word.ofNat (x.rx.length * 65536 + x.tx.length))).wr (UART.RXDATA m) (x.rx.headD 0)
  let s2 := if s.en (UART.base m) ∧ s.fld (UART.FIFOTHR m) 21 16 ≤ x.rx.length then s1.irq (UART.base m) 0 else s1
  if s.en (UART.base m) ∧ x.tx.length ≤ s.fld (UART.FIFOTHR m) 5 0 then s2.irq (UART.base m) 1 else s2

/-- A write to TXDATA: a full FIFO refuses it. -/
def uartTxWrite (init m : Nat) (data : Word) (s : State) : State :=
  if 32 ≤ (s.uartAt m).tx.length then s.errorResp init (UART.TXDATA m) .refused true
  else ((s.updUart m (fun x => { x with tx := x.tx ++ [bitsOf data 7 0] })).uartRefresh m).respond init (UART.TXDATA m) 0

/-- UART_TX_PUSH (R529). -/
def execUartTxPush (init m data : Nat) (s : State) : Out :=
  .next (s.writeAt .fab (UART.base (m % 2)) init (UART.TXDATA (m % 2)) (Word.ofNat (data % 256)) (uartTxWrite init (m % 2) (Word.ofNat (data % 256))))

/-- A read of RXDATA removes the oldest entry. -/
def uartRxRead (init m : Nat) (s : State) : State :=
  let v := s.rd (UART.RXDATA m)
  ((s.updUart m (fun x => { x with rx := x.rx.drop 1 })).uartRefresh m).respond init (UART.RXDATA m) v

/-- UART_RX_POP (R529). -/
def execUartRxPop (init m : Nat) (s : State) : Out :=
  .next (s.readAt .fab (UART.base (m % 2)) init (UART.RXDATA (m % 2)) (uartRxRead init (m % 2)))

/-- UART_BYTE_RECEIVE (R518): a character enters the FIFO with its error flags, or is lost to a full one. -/
def execUartByteReceive (m data : Nat) (perr ferr brk : Bool) (s : State) : Out :=
  .next (s.clocked .fab (fun s => if m < 2 ∧ s.en (UART.base m) then
      let flags := fun (t : State) =>
        let t1 := if perr then t.irq (UART.base m) 3 else t
        let t2 := if ferr then t1.irq (UART.base m) 4 else t1
        if brk then t2.irq (UART.base m) 5 else t2
      if 32 ≤ (s.uartAt m).rx.length then s.irq (UART.base m) 2
      else
        let v := Word.ofNat (2 ^ 31 + b2n brk * 1024 + b2n ferr * 512 + b2n perr * 256 + data % 2 ^ (5 + s.fld (UART.base m + 0x44) 1 0))
        flags ((s.updUart m (fun x => { x with rx := x.rx ++ [v] })).uartRefresh m)
    else s))

/-- UART_BYTE_SENT (R518): the oldest character has been shifted out. -/
def execUartByteSent (m : Nat) (s : State) : Out :=
  .next (s.clocked .fab (fun s => if m < 2 ∧ s.en (UART.base m) then
      match (s.uartAt m).tx with
      | [] => s
      | b :: t => (s.updUart m (fun x => { x with tx := t, sent := b })).uartRefresh m
    else s))

/-- A write to FIFOTHR, IRQ_RAW or CTRL of a UART page: a level flag whose level holds is set again. -/
def uartPlain (init m a : Nat) (data : Word) (s : State) : State := (s.plainWrite init a data).uartRefresh m

/-! ### SPI (R518, R529) -/

abbrev SPI.FMT (m : Nat) : Nat := SPI.base m + 0x44
abbrev SPI.CSCTL (m : Nat) : Nat := SPI.base m + 0x48
abbrev SPI.TXDATA (m : Nat) : Nat := SPI.base m + 0x4C
abbrev SPI.RXDATA (m : Nat) : Nat := SPI.base m + 0x50
abbrev SPI.FIFOSTAT (m : Nat) : Nat := SPI.base m + 0x54

/-- SPI controller `m`. -/
def State.spiAt (s : State) (m : Nat) : SerialPort := nth {} s.spi m

/-- Change SPI controller `m`. -/
def State.updSpi (s : State) (m : Nat) (f : SerialPort → SerialPort) : State := { s with spi := upd s.spi m f }

/-- The bits of a frame: FLEN − 1 below 3 is taken as 3. -/
def State.spiBits (s : State) (m : Nat) : Nat := max (s.fld (SPI.FMT m) 12 8) 3 + 1

/-- FIFOSTAT and RXDATA follow the FIFOs; BUSY while frames wait on an enabled page. CSEN's chip selects are asserted while BUSY, and
HOLD keeps them so between frames. -/
def State.spiRefresh (s : State) (m : Nat) : State :=
  let x := s.spiAt m
  let busy := s.en (SPI.base m) && !x.tx.isEmpty
  let sel := if busy then s.fld (SPI.CSCTL m) 1 0 else if s.en (SPI.base m) && s.bit (SPI.CSCTL m) 2 then x.sel else 0
  ((s.wr (SPI.FIFOSTAT m) (Word.ofNat (b2n busy * 2 ^ 31 + x.rx.length * 65536 + x.tx.length))).wr
    (SPI.RXDATA m) (x.rx.headD 0)).updSpi m (fun y => { y with sel := sel })

/-- A write to CSCTL of an SPI page. -/
def spiCsWrite (init m : Nat) (data : Word) (s : State) : State := (s.plainWrite init (SPI.CSCTL m) data).spiRefresh m

/-- A write to TXDATA pushes a frame. What a write to a full FIFO does is left open: the frame is lost, and whether the write
is refused is free. -/
def spiTxWrite (init m : Nat) (data : Word) (s : State) : State :=
  if 32 ≤ (s.spiAt m).tx.length then
    (if s.freeBit then s.errorResp init (SPI.TXDATA m) .refused true else s.respond init (SPI.TXDATA m) 0).bumpFree
  else ((s.updSpi m (fun x => { x with tx := x.tx ++ [data.toNat % 2 ^ s.spiBits m] })).spiRefresh m).respond init (SPI.TXDATA m) 0

/-- SPI_TX_PUSH (R529). -/
def execSpiTxPush (init m : Nat) (data : Word) (s : State) : Out :=
  .next (s.writeAt .fab (SPI.base (m % 2)) init (SPI.TXDATA (m % 2)) data (spiTxWrite init (m % 2) data))

/-- SPI_FRAME_DONE (R518): the oldest frame has been shifted; the received one enters the FIFO, or is lost to a full one. -/
def execSpiFrameDone (m : Nat) (data : Word) (s : State) : Out :=
  .next (s.clocked .fab (fun s => if m < 2 ∧ s.en (SPI.base m) then
      match (s.spiAt m).tx with
      | [] => s
      | b :: t =>
        let full := decide (32 ≤ (s.spiAt m).rx.length)
        let v := Word.ofNat (data.toNat % 2 ^ s.spiBits m)
        let s1 := (s.updSpi m (fun x => { x with tx := t, sent := b, rx := if full then x.rx else x.rx ++ [v] })).spiRefresh m
        (s1.irq (SPI.base m) 0).irq (SPI.base m) (if full then 1 else 2)
    else s))

/-- A read of RXDATA removes the oldest frame. -/
def spiRxRead (init m : Nat) (s : State) : State :=
  let v := s.rd (SPI.RXDATA m)
  ((s.updSpi m (fun x => { x with rx := x.rx.drop 1 })).spiRefresh m).respond init (SPI.RXDATA m) v

/-- SPI_RX_POP (R529). -/
def execSpiRxPop (init m : Nat) (s : State) : Out :=
  .next (s.readAt .fab (SPI.base (m % 2)) init (SPI.RXDATA (m % 2)) (spiRxRead init (m % 2)))

/-! ### GPIO (R48, R518, R529) -/

abbrev GPIO.DIR : Nat := GPIO.base + 0x40
abbrev GPIO.OUT : Nat := GPIO.base + 0x44
abbrev GPIO.OUTSET : Nat := GPIO.base + 0x48
abbrev GPIO.OUTCLR : Nat := GPIO.base + 0x4C
abbrev GPIO.IN : Nat := GPIO.base + 0x50

/-- A write to OUTSET. -/
def gpioSet (init : Nat) (data : Word) (s : State) : State := (s.wr GPIO.OUT (s.rd GPIO.OUT ||| data)).respond init GPIO.OUTSET 0

/-- A write to OUTCLR. -/
def gpioClr (init : Nat) (data : Word) (s : State) : State := (s.wr GPIO.OUT (s.rd GPIO.OUT &&& ~~~data)).respond init GPIO.OUTCLR 0

/-- A write to DIR takes the pins from their reset state (R48). -/
def gpioDir (init : Nat) (data : Word) (s : State) : State :=
  let s1 := (s.wr GPIO.DIR data).respond init GPIO.DIR 0
  { s1 with balls := { s1.balls with gpioTaken := true } }

/-- GPIO_OUTSET (R529). -/
def execGpioOutset (init : Nat) (data : Word) (s : State) : Out :=
  .next (s.writeAt .fab GPIO.base init GPIO.OUTSET data (gpioSet init data))

/-- GPIO_OUTCLR (R529). -/
def execGpioOutclr (init : Nat) (data : Word) (s : State) : Out :=
  .next (s.writeAt .fab GPIO.base init GPIO.OUTCLR data (gpioClr init data))

/-- GPIO_DIR_WRITE (R48). -/
def execGpioDirWrite (init : Nat) (data : Word) (s : State) : Out :=
  .next (s.writeAt .fab GPIO.base init GPIO.DIR data (gpioDir init data))

/-- GPIO_PIN_EDGE (R518): the filtered level of pin `n` changes, and an edge that EDGE selects sets its bit. -/
def execGpioPinEdge (n : Nat) (level : Bool) (s : State) : Out :=
  .next (s.clocked .fab (fun s => if n < 32 ∧ s.bit GPIO.IN n ≠ level then
      let s1 := s.setBit GPIO.IN n level
      if s.bit (GPIO.base + 0x80 + 4 * (n / 16)) (2 * (n % 16) + (if level then 0 else 1)) then s1.irq GPIO.base n else s1
    else s))

end Sys2Proof.Machine
end

