-- ==== Sys2Proof/Machine/Crypto.lean ====
section
/-!
DEFINITION. SHA-256 and ECDSA over P-256 (FIPS 180-4, FIPS 186-4), which R105 and R419 name without restating them: the
boot ROM verifies image signatures, Meloskern signs session records. The standards' text is PRESUMED (notes/assumptions).
-/
namespace Sys2Proof.Machine

/-! ### SHA-256 -/

/-- The first 64 primes. -/
def shaPrimes : List Nat :=
  (List.range 312).filter (fun n => decide (2 ≤ n) && (List.range n).all (fun d => decide (d < 2) || decide (n % d ≠ 0)))

/-- The greatest number below 2³⁶ whose `k`-th power is at most `n`, found bit by bit from the top. -/
def floorRoot (k n : Nat) : Nat :=
  (List.range 36).foldl (fun r i => if (r + 2 ^ (35 - i)) ^ k ≤ n then r + 2 ^ (35 - i) else r) 0

/-- The round constants of SHA-256 as FIPS 180-4 defines them: the first 32 bits of the fractional part of the cube root of
each of the first 64 primes. -/
def shaK : List Nat := shaPrimes.map (fun q => floorRoot 3 (q * 2 ^ 96) % 2 ^ 32)

/-- The initial hash value: the first 32 bits of the fractional part of the square root of each of the first 8 primes. -/
def shaInit : List Word := (shaPrimes.take 8).map (fun q => Word.ofNat (floorRoot 2 (q * 2 ^ 64)))

/-- The big-endian number that bytes spell. -/
def beNat (bs : List Byte) : Nat := bs.foldl (fun n b => n * 256 + b.toNat) 0

/-- `n` big-endian bytes of `v`. -/
def beBytes (n v : Nat) : List Byte := (leBytes n v).reverse

/-- A message with its padding. -/
def shaPad (m : List Byte) : List Byte :=
  m ++ [0x80] ++ List.replicate ((119 - m.length % 64) % 64) 0 ++ beBytes 8 (8 * m.length)

/-- The message schedule, one word at a time, newest first. -/
def shaExtend : Nat → List Word → List Word
  | 0, w => w
  | k + 1, w =>
    let a := nth 0 w 14
    let b := nth 0 w 1
    let s0 := a.rotateRight 7 ^^^ a.rotateRight 18 ^^^ (a >>> 3)
    let s1 := b.rotateRight 17 ^^^ b.rotateRight 19 ^^^ (b >>> 10)
    shaExtend k ((nth 0 w 15 + s0 + nth 0 w 6 + s1) :: w)

/-- One round on (a … h). -/
def shaRound (h : List Word) (kw : Word) : List Word :=
  match h with
  | [a, b, c, d, e, f, g, x] =>
    let s1 := e.rotateRight 6 ^^^ e.rotateRight 11 ^^^ e.rotateRight 25
    let t1 := x + s1 + ((e &&& f) ^^^ (~~~e &&& g)) + kw
    let s0 := a.rotateRight 2 ^^^ a.rotateRight 13 ^^^ a.rotateRight 22
    [t1 + s0 + ((a &&& b) ^^^ (a &&& c) ^^^ (b &&& c)), a, b, c, d + t1, e, f, g]
  | _ => h

/-- The words of a 64-byte block. -/
def beWords (bs : List Byte) : List Word := (List.range 16).map (fun i => Word.ofNat (beNat ((bs.drop (4 * i)).take 4)))

/-- One block of SHA-256. -/
def shaBlock (h : List Word) (b : List Byte) : List Word :=
  let w := (shaExtend 48 (beWords b).reverse).reverse
  let r := (List.zipWith (fun k x => Word.ofNat k + x) shaK w).foldl shaRound h
  List.zipWith (· + ·) h r

/-- The blocks of a padded message. -/
def shaBlocks : Nat → List Byte → List Word → List Word
  | 0, _, h => h
  | n + 1, m, h => shaBlocks n (m.drop 64) (shaBlock h (m.take 64))

/-- SHA-256 of a message. -/
def sha256 (m : List Byte) : List Byte :=
  let p := shaPad m
  (shaBlocks (p.length / 64) p shaInit).flatMap (fun w => beBytes 4 w.toNat)

/-! ### P-256 -/

/-- The field prime, the group order, and the base point. -/
def p256p : Nat := 0xffffffff00000001000000000000000000000000ffffffffffffffffffffffff
def p256n : Nat := 0xffffffff00000000ffffffffffffffffbce6faada7179e84f3b9cac2fc632551
def p256b : Nat := 0x5ac635d8aa3a93e7b3ebbd55769886bc651d06b0cc53b0f63bce3c3e27d2604b
def p256g : Nat × Nat :=
  (0x6b17d1f2e12c4247f8bce6e563a440f277037d812deb33a0f4a13945d898c296,
   0x4fe342e2fe1a7f9b8ee7eb4a7c0f9e162bce33576b315ececbb6406837bf51f5)

/-- b^e modulo m, for exponents below 2²⁵⁶. -/
def powMod (b e m : Nat) : Nat :=
  (List.range 256).foldl (fun r i => if e.testBit (255 - i) then r * r % m * b % m else r * r % m) 1

/-- The inverse modulo a prime. -/
def invMod (a m : Nat) : Nat := powMod (a % m) (m - 2) m

/-- A difference modulo `m`. -/
def subMod (a b m : Nat) : Nat := (a + (m - b % m)) % m

/-- The sum of two points; none is the point at infinity. -/
def ecAdd (a b : Option (Nat × Nat)) : Option (Nat × Nat) :=
  match a, b with
  | none, _ => b
  | _, none => a
  | some (x1, y1), some (x2, y2) =>
    if x1 = x2 ∧ (y1 + y2) % p256p = 0 then none
    else
      let l := if x1 = x2 then subMod (3 * x1 * x1) 3 p256p * invMod (2 * y1) p256p % p256p
        else subMod y2 y1 p256p * invMod (subMod x2 x1 p256p) p256p % p256p
      let x3 := subMod (l * l) (x1 + x2) p256p
      some (x3, subMod (l * subMod x1 x3 p256p) y1 p256p)

/-- A multiple of a point. -/
def ecMul (k : Nat) (pt : Option (Nat × Nat)) : Option (Nat × Nat) :=
  (List.range 256).foldl (fun r i => if k.testBit (255 - i) then ecAdd (ecAdd r r) pt else ecAdd r r) none

/-- The point lies on the curve, with coordinates in range. -/
def onCurve (q : Nat × Nat) : Bool :=
  q.1 < p256p && q.2 < p256p && q.2 * q.2 % p256p == (q.1 * q.1 * q.1 + (p256p - 3) * q.1 + p256b) % p256p

/-- ECDSA verification of a hash (as a number) against a public key. -/
def ecdsaVerify (pub : Nat × Nat) (h r s : Nat) : Bool :=
  if onCurve pub ∧ 1 ≤ r ∧ r < p256n ∧ 1 ≤ s ∧ s < p256n then
    let w := invMod s p256n
    match ecAdd (ecMul (h * w % p256n) (some p256g)) (ecMul (r * w % p256n) (some pub)) with
    | some (x, _) => x % p256n == r
    | none => false
  else false

/-- A number in 1 … n − 1. -/
def scalarOf (k : Nat) : Nat := 1 + k % (p256n - 1)

/-- The public key of a private one. -/
def publicKey (d : Nat) : Nat × Nat := (ecMul d (some p256g)).getD (0, 0)

/-- ECDSA signature of a hash with private key `d` and secret `k`. -/
def ecdsaSign (d k h : Nat) : Nat × Nat :=
  let r := ((ecMul k (some p256g)).getD (0, 0)).1 % p256n
  (r, invMod k p256n * ((h + r * d) % p256n) % p256n)

end Sys2Proof.Machine
end

