-- ==== Sys2Proof/Machine/Comparators.lean ====
section
/-!
DEFINITION. The window and DAC comparators (chapter 10, R244-R255): elements with hysteresis, level lines, first decisions,
the self-check, and the writes that configure them. Comparator `n` is WCn for `n` < 48 and PC(n - 48) from there.
-/
namespace Sys2Proof.Machine

/-- Comparator `n`. -/
def State.cmpAt (s : State) (n : Nat) : Cmp := nth {} s.cmp n

/-- Change comparator `n`. -/
def State.updCmp (s : State) (n : Nat) (f : Cmp → Cmp) : State := { s with cmp := upd s.cmp n f }

/-- HBCFGj of half-bridge n, whose OC_SRC selects a line (R228). -/
abbrev HBCFG (n : Nat) : Nat := GATE.base (n / 4) + 0x60 + 4 * (n % 4)

/-- The page of comparator `n`. -/
def cmpPage (n : Nat) : Nat := if n < 48 then WCMP.base else PCMP.base

/-- The address of comparator `n`'s configuration register. -/
def cmpCfgAddr (n : Nat) : Nat := if n < 48 then WCMP.base + 0x80 + 4 * n else PCMP.base + 0x80 + 4 * (n - 48)

/-- The hysteresis in mV that a HYST code selects (R247). -/
def hystMv (code : Nat) : Nat := [0, 4, 8, 16].getD code 0

/-- HYST of a configuration word of comparator `n`. -/
def cmpHyst (n : Nat) (cfg : Word) : Nat := if n < 48 then hystMv (bitsOf cfg 28 27) else hystMv (bitsOf cfg 29 28)

/-- Tap `k` of a bank's ladder in nV × 4,096 (R245). -/
def tapLevel (centred : Bool) (k : Nat) : Int :=
  if centred then 4096 * (625000000 + (2 * (k : Int) + 1) * 9765625)
  else 4096 * ((2 * (k : Int) + 1) * 19531250)

/-- The threshold of a DAC comparator in nV × 4,096 (R248): THR without the low 12 − B bits; version 1 has 12 bits only. -/
def dacLevel (cfg : Word) (v1 : Bool) : Int :=
  let b := if v1 then 12 else [6, 8, 10, 12].getD (bitsOf cfg 25 24) 12
  ((bitsOf cfg 11 0 / 2 ^ (12 - b) * 2 ^ (12 - b) : Nat) : Int) * 2500000000

/-- The threshold of an element of comparator `n`: the high element's, or the low element's where `low`. -/
def State.cmpLevel (s : State) (n : Nat) (low : Bool) : Int :=
  let cfg := (s.cmpAt n).cfg
  if n < 48 then
    tapLevel (bitsOf (s.shown (WCMP.base + 0x60 + 4 * (n / 8))) 0 0 == 1) (if low then bitsOf cfg 5 0 else bitsOf cfg 13 8)
  else dacLevel cfg (decide (s.ver PCMP.base = 1))

/-- The element sets below its threshold: a low element, or a DAC element with POL = 1 (R247, R248). -/
def Cmp.below (c : Cmp) (n : Nat) (low : Bool) : Bool := low || (48 ≤ n && tb c.cfg 30)

/-- An element after it compares `vin` (nV), from state `set` with hysteresis `h` in force (R247, R248). -/
def elementNext (below set : Bool) (h : Nat) (level vin : Int) : Bool :=
  let hys : Int := 4096 * 1000000 * h
  let v := 4096 * vin
  if below then (if set then !decide (level + hys < v) else decide (v < level))
  else (if set then !decide (v < level - hys) else decide (level < v))

/-- The first decision of an element (R251): against the centre of its band, without hysteresis. -/
def elementFirst (below : Bool) (h : Nat) (level vin : Int) : Bool :=
  let half : Int := 4096 * 500000 * h
  let v := 4096 * vin
  if below then decide (v < level + half) else decide (level - half < v)

/-- The level line that MODE forms from the two elements (R246); a DAC comparator's line is its element (R248). -/
def cmpCombine (n : Nat) (cfg : Word) (hi lo : Bool) : Bool :=
  if 48 ≤ n then hi
  else match bitsOf cfg 30 29 with
    | 0 => hi || lo
    | 1 => hi
    | 2 => lo
    | _ => !hi && !lo

/-- The comparator is claimed by the safety unit (R253): the claim acts in version 1 too. -/
def State.claimedPc (s : State) (n : Nat) : Bool := decide (48 ≤ n) && s.bit (PCMP.base + 0x60) (n - 48)

/-- Comparator `n` is on (R251, R253): its EN has reached it, and its page is enabled, or it is claimed, or a claim has left it so. -/
def State.cmpOn (s : State) (n : Nat) : Bool :=
  tb (s.cmpAt n).cfg 31 && (s.en (cmpPage n) || s.claimedPc n || (s.cmpAt n).kept)

/-- The LEVEL register of comparator `n` and its bit there (R252). -/
def levelBit (n : Nat) : Nat × Nat := if n < 48 then (WCMP.base + 0x40 + 4 * (n / 32), n % 32) else (PCMP.base + 0x40, n - 48)

/-- The synchronised level of comparator `n` becomes `v` (R252): an edge of a line with CHGEN sets CHG, and CHANGE when
CHG rises. -/
def State.noteLevel (s : State) (n : Nat) (v : Bool) : State :=
  let (a, i) := levelBit n
  if s.bit a i == v then s
  else
    let s1 := s.setBit a i v
    if s.bit (a + 0x10) i && !s.bit (a + 8) i then (s1.setBit (a + 8) i true).irq (cmpPage n) 0 else s1

/-- Line `n` has been 0: a half-bridge with this overcurrent source may take a further fault from it (R228). -/
def State.lineFell (s : State) (n : Nat) : State :=
  { s with gate := s.gate.mapIdx (fun k h => if s.fld (HBCFG k) 27 22 = n then { h with ocHeld := false } else h) }

/-- Drive the level line of comparator `n`; `seen` says whether the synchroniser catches the level (R252). A line that falls
ends the time for which the safety unit's filters have seen it at 1 (R439). -/
def State.driveLine (s : State) (n : Nat) (v seen : Bool) : State :=
  let m := if v then 0 else 2 ^ n
  let s1 := (State.updCmp { s with sup := { s.sup with
    wc := s.sup.wc - (s.sup.wc &&& m), pcCur := s.sup.pcCur - (s.sup.pcCur &&& m / 2 ^ 48) } } n (fun c => { c with line := v }))
  let s2 := if v then s1 else s1.lineFell n
  if seen then s2.noteLevel n v else s2

/-- Comparator `n` compares its input once more (R246-R251). While a check holds it, its line does not move (R255). -/
def State.cmpEval (s : State) (n : Nat) (seen : Bool) : State :=
  let c := s.cmpAt n
  if c.check then s
  else if !s.cmpOn n then s.driveLine n false seen
  else
    let h := cmpHyst n c.cfg
    let hi := if c.first then elementFirst (c.below n false) h (s.cmpLevel n false) c.vin
      else elementNext (c.below n false) c.hi c.hysHi (s.cmpLevel n false) c.vin
    let lo := if 48 ≤ n then false
      else if c.first then elementFirst true h (s.cmpLevel n true) c.vin
      else elementNext true c.lo c.hysLo (s.cmpLevel n true) c.vin
    let s1 := s.updCmp n (fun d => { d with
      hi := hi, lo := lo,
      hysHi := if c.first || (hi && !c.hi) then h else c.hysHi,
      hysLo := if c.first || (lo && !c.lo) then h else c.hysLo })
    s1.driveLine n (cmpCombine n c.cfg hi lo) seen

/-- Comparator `n` starts a first decision (R251). -/
def State.firstDecision (s : State) (n : Nat) : State := (s.updCmp n (fun c => { c with first := true })).cmpEval n true

/-- COMPARATOR_CROSSING (R250): the input is now at `vin` nV and has crossed a switching point; `seen` says whether the
CLK_SAFE synchroniser catches the level that results. -/
def execComparatorCrossing (n : Nat) (vin : Int) (seen : Bool) (s : State) : Out :=
  .next (if n < 56 then (s.updCmp n (fun c => { c with vin := vin })).cmpEval n seen else s)

/-- FIRST_DECISION_END (R251): each element keeps its result and applies its hysteresis. -/
def execFirstDecisionEnd (n : Nat) (vin : Int) (s : State) : Out :=
  .next (if n < 56 ∧ (s.cmpAt n).first ∧ !(s.cmpAt n).check then
    ((s.updCmp n (fun c => { c with vin := vin })).cmpEval n true).updCmp n (fun c => { c with first := false })
  else s)

/-- The configuration register's word reaches the comparator: a new EN or, on an enabled DAC comparator, a new POL starts
a first decision; otherwise the elements keep their states (R249, R251). -/
def State.cmpConfigure (s : State) (n : Nat) : State :=
  let old := (s.cmpAt n).cfg
  let new := s.rd (cmpCfgAddr n)
  let s1 := s.updCmp n (fun c => { c with cfg := new })
  if (tb new 31 && !tb old 31) || (decide (48 ≤ n) && tb new 31 && (tb new 30 != tb old 30)) then s1.firstDecision n
  else s1.cmpEval n true

/-- A write to WCn_CFG or PCn_CFG (R246, R249, R251, R253, R255). -/
def cmpCfgWrite (init n : Nat) (data : Word) (s : State) : State :=
  let a := cmpCfgAddr n
  if n < 48 ∧ bitsOf data 13 8 < bitsOf data 5 0 then s.errorResp init a .refused true
  else if s.claimedPc n then s.errorResp init a .refused true
  else
    let s1 := s.plainWrite init a data
    if s1.bus.resp.cause ≠ 0 then s1
    else
      let s2 := s1.updCmp n (fun c => { c with kept := false })
      if (s2.cmpAt n).check then s2 else s2.cmpConfigure n

/-- COMPARATOR_ENABLE (R251): a write that takes EN from 0 to 1; `vin` is the input at that instant, in nV. -/
def execComparatorEnable (init n : Nat) (data : Word) (vin : Int) (s : State) : Out :=
  let a := cmpCfgAddr (n % 56)
  .next (s.writeAt .ps (cmpPage (n % 56)) init a (data ||| 0x80000000)
    (fun t => cmpCfgWrite init (n % 56) (data ||| 0x80000000) (t.updCmp (n % 56) (fun c => { c with vin := vin }))))

/-- THRESHOLD_WRITE (R249): a write of the taps or THR moves the threshold; `vin` is the input then, in nV. -/
def execThresholdWrite (init n : Nat) (data : Word) (vin : Int) (s : State) : Out :=
  let a := cmpCfgAddr (n % 56)
  .next (s.writeAt .ps (cmpPage (n % 56)) init a data
    (fun t => cmpCfgWrite init (n % 56) data (t.updCmp (n % 56) (fun c => { c with vin := vin }))))

/-- A write to BANKb_CFG is refused while a comparator of the bank is enabled. -/
def bankCfgWrite (init b : Nat) (data : Word) (s : State) : State :=
  let a := WCMP.base + 0x60 + 4 * b
  if (List.range 8).any (fun i => s.bit (cmpCfgAddr (8 * b + i)) 31) then s.errorResp init a .refused true
  else s.plainWrite init a data

/-- CTRL.EN of the page of comparator `n0` has changed: every comparator of the page takes its level anew, and an enabled
one starts a first decision when the page is enabled (R251). A claimed comparator, and one that a claim has left enabled, go on (R253). -/
def cmpPageSwitch (s : State) (n0 cnt : Nat) (was : Bool) : State :=
  (List.range cnt).foldl (fun t i =>
    let n := n0 + i
    if s.claimedPc n || (s.cmpAt n).kept then t
    else if !was && t.cmpOn n && !(t.cmpAt n).check then t.firstDecision n
    else if t.cmpOn n then t.cmpEval n true
    else t.driveLine n false true) s

/-- A write to CTRL of WCMP or PCMP, SOFT_RST aside (R251, R253). -/
def cmpCtrlWrite (init : Nat) (pc : Bool) (data : Word) (s : State) : State :=
  let b := if pc then PCMP.base else WCMP.base
  let was := s.en b
  let s1 := s.setBit (b + 0x0C) 0 (tb data 0)
  let s2 := if was == tb data 0 then s1 else cmpPageSwitch s1 (if pc then 48 else 0) (if pc then 8 else 48) was
  s2.respond init (b + 0x0C) 0

/-! ### The self-check (R254, R255) -/

/-- A check of comparator `n` starts: its line holds, or is driven to 1 with FORCE (absent in version 1). -/
def State.checkStart (s : State) (n : Nat) (force : Bool) : State :=
  let b := cmpPage n
  let f := force && decide (s.ver b ≠ 1)
  let s1 := ((s.setBit (b + 0x10) 8 true).setBit (b + 0x5C) 31 true).setFld (b + 0x5C) 21 16 (if n < 48 then n else n - 48)
  let s2 := if f then s1.driveLine n true true else s1
  s2.updCmp n (fun c => { c with check := true })

/-- A write to CHECK (R254): refused while a check runs, for a disabled comparator, for one the page does not have, and for a claimed
one; it starts a check with GO = 1. -/
def checkWrite (init : Nat) (pc : Bool) (data : Word) (s : State) : State :=
  let b := if pc then PCMP.base else WCMP.base
  let k := bitsOf data 5 0
  let n := if pc then 48 + k else k
  if (if pc then 8 ≤ k else 48 ≤ k) ∨ s.bit (b + 0x5C) 31 ∨ !s.cmpOn n ∨ s.claimedPc n then
    s.errorResp init (b + 0x58) .refused true
  else if !tb data 31 then s.respond init (b + 0x58) 0
  else (s.checkStart n (tb data 8)).respond init (b + 0x58) 0

/-- COMPARATOR_CHECK_START (R254). -/
def execComparatorCheckStart (init : Nat) (pc : Bool) (data : Word) (s : State) : Out :=
  let b := if pc then PCMP.base else WCMP.base
  .next (s.writeAt .ps b init (b + 0x58) (data ||| 0x80000000) (checkWrite init pc (data ||| 0x80000000)))

/-- What CHKSTAT.SEEN shows when every element passes (R254). -/
def checkExpected (n : Nat) (cfg : Word) : Nat := if n < 48 then 0x69 else if tb cfg 30 then 0x14 else 0x41

/-- The check of comparator `n` ends with what its elements showed (R254, R255): the result is recorded, staged writes
reach the comparator, and a new first decision begins. -/
def State.checkEnd (s : State) (n seen : Nat) (vin : Int) : State :=
  let b := cmpPage n
  let fail := decide (seen % 256 ≠ checkExpected n (s.cmpAt n).cfg)
  let s1 := (((s.setBit (b + 0x10) 8 false).setBit (b + 0x5C) 31 false).setBit (b + 0x5C) 30 fail).setFld (b + 0x5C) 7 0 seen
  let s2 := if fail then (s1.irq b 1).irq b 2 else s1.irq b 1
  let cfg := s2.rd (cmpCfgAddr n)
  (s2.updCmp n (fun c => { c with check := false, vin := vin, cfg := cfg, hi := false, lo := false })).firstDecision n

/-- A claim sets the configuration of PCn from the word `w` of a parameter set and enables the comparator (R253); while a check holds
the comparator, the configuration reaches it at the end of the check (R255). -/
def State.claimPc (s : State) (n : Nat) (w : Word) : State :=
  let s1 := (s.setBit (PCMP.base + 0x60) n true).wr (cmpCfgAddr (48 + n)) ((w &&& 0x73000FFF) ||| 0x80000000)
  let s2 := s1.updCmp (48 + n) (fun c => { c with kept := false })
  if (s2.cmpAt (48 + n)).check then s2 else s2.cmpConfigure (48 + n)

/-- A claim of PCn ends: the comparator keeps its configuration, enabled, until firmware writes it (R253). -/
def State.unclaimPc (s : State) (n : Nat) : State :=
  if s.claimedPc (48 + n) then (s.setBit (PCMP.base + 0x60) n false).updCmp (48 + n) (fun c => { c with kept := true }) else s

/-- A change of PCMP's version moves the thresholds of the comparators that are on (R248, R253). -/
def State.cmpVersion (s : State) : State :=
  (List.range 8).foldl (fun t k => if t.cmpOn (48 + k) then t.cmpEval (48 + k) true else t) s

/-! ### Versions (R144) -/

/-- A write to IFVER_SEL (R144). -/
def ifverWrite (init : Nat) (p : PageRow) (b : Nat) (data : Word) (s : State) : State :=
  let v := bitsOf data 3 0
  let allowed := if p.alwaysOn then s.bit SYS.VERSEL 0 else !s.en b
  if s.locked b && decide (v ≠ s.ver b) then s.errorResp init (b + 0x08) .lockedField true
  else if (v = 2 ∨ (v = 1 ∧ p.v1)) ∧ allowed ∧ !s.locked b then
    (let t := s.setFld (b + 0x08) 3 0 v
    if b = PCMP.base then t.cmpVersion else t).respond init (b + 0x08) 0
  else s.errorResp init (b + 0x08) .refused true

/-- IFVER_SELECT (R144): the page's version changes, or the write is refused. -/
def execIfverSelect (init base : Nat) (data : Word) (s : State) : Out :=
  .next (s.onPage init (base + 0x08) data (fun p b t => ifverWrite init p b data t))

/-- The comparator a running check of a page holds. -/
def State.checked (s : State) (pc : Bool) : Nat :=
  if pc then 48 + s.fld (PCMP.base + 0x5C) 21 16 else s.fld (WCMP.base + 0x5C) 21 16

/-- COMPARATOR_CHECK_END (R255): `seen` is what the elements showed in the four steps, `vin` the input after it, in nV. -/
def execComparatorCheckEnd (pc : Bool) (seen : Nat) (vin : Int) (s : State) : Out :=
  let b := if pc then PCMP.base else WCMP.base
  .next (if s.bit (b + 0x5C) 31 then s.checkEnd (s.checked pc) seen vin else s)

/-- The level line with overcurrent or trip code `k`: WCk, or PC(k - 48) (R250). -/
def State.line (s : State) (k : Nat) : Bool := (s.cmpAt k).line

end Sys2Proof.Machine
end

