-- ==== Sys2Proof/Machine/AuxDrivers.lean ====
section
/-!
DEFINITION. The auxiliary drivers of the coolant pump (chapter 9, R240-R243). HO and LO of a phase follow from the state by
`auxDrive`; the dead time between them is timing and carries no state.
-/
namespace Sys2Proof.Machine

abbrev AXCFG : Nat := AUX.base + 0x40
abbrev APER : Nat := AUX.base + 0x44
abbrev ADUTY (n : Nat) : Nat := AUX.base + 0x48 + 4 * n
abbrev OCCFG : Nat := AUX.base + 0x58
abbrev AXSTAT : Nat := AUX.base + 0x5C
abbrev AXCLR : Nat := AUX.base + 0x60

/-- Six-step commutation (R242): the phase given as high and the phase given as low for Hall code `h` with DIR = 0. -/
def hallPhases (h : Nat) : Option (Nat × Nat) :=
  match h with
  | 1 => some (0, 1) | 3 => some (0, 2) | 2 => some (1, 2) | 6 => some (1, 0) | 4 => some (2, 0) | 5 => some (2, 1)
  | _ => none

/-- What phase `n` is commanded (R241, R242): HO, LO, or neither. `en` and `inp` are AXn_EN and AXn_IN. -/
def auxCommand (s : State) (n : Nat) (en inp : Bool) : Option Bool :=
  match s.fld AXCFG 25 24 with
  | 0 => some (s.aux.before.testBit n)
  | 1 => if en then some inp else none
  | _ =>
    match hallPhases (s.fld AXSTAT 18 16) with
    | none => none
    | some (p, q) =>
      let hi := if s.bit AXCFG 0 then q else p
      let lo := if s.bit AXCFG 0 then p else q
      if n = hi then some (s.aux.before.testBit 0) else if n = lo then some false else none

/-- HO and LO of phase `n` (R240-R243); off while VDRV is not in its range (R84). -/
def auxDrive (s : State) (n : Nat) (en inp : Bool) : Bool × Bool :=
  if !s.en AUX.base || s.bit AXSTAT 30 || !s.bit RSUP.SUPSTAT 2 then (false, false)
  else if s.aux.pre.testBit n then (false, true)
  else
    match auxCommand s n en inp with
    | none => (false, false)
    | some true => (!s.bit AXSTAT (27 + n) && !s.bit AXSTAT 31 && !s.aux.ocHold, false)
    | some false => (false, true)

/-- Change the auxiliary drivers. -/
def State.updAux (s : State) (f : AuxDrv → AuxDrv) : State := { s with aux := f s.aux }

/-- A write to CTRL of AUX, SOFT_RST aside (R241): 1 starts the bootstrap precharge of each phase. -/
def auxCtrlWrite (init : Nat) (data : Word) (s : State) : State :=
  let was := s.en AUX.base
  let s1 := s.setBit (AUX.base + 0x0C) 0 (tb data 0)
  let s2 := if tb data 0 then (if was then s1 else s1.updAux (fun x => { x with pre := 7, before := 0, ocHold := false }))
    else s1.updAux (fun x => { x with pre := 0, before := 0, ocHold := false })
  s2.respond init (AUX.base + 0x0C) 0

/-- AUX_ENABLE (R241). -/
def execAuxEnable (init : Nat) (s : State) : Out :=
  .next (s.writeAt .ps AUX.base init (AUX.base + 0x0C) 1 (fun t => (auxCtrlWrite init 1 t).takesBalls AUX.base 1))

/-- AUX_PRECHARGE_END (R241): the precharge of phase n ends. -/
def execAuxPrechargeEnd (n : Nat) (s : State) : Out :=
  .next (if n < 3 then s.updAux (fun x => { x with pre := x.pre &&& (7 - 2 ^ n) }) else s)

/-- The period in force: APER, at least 480 (R241). -/
def auxPeriod (s : State) : Nat := max (s.fld APER 15 0) 480

/-- AUX_PERIOD_START (R241, R243): new duties take effect, an unlatched overcurrent ends. -/
def execAuxPeriodStart (s : State) : Out :=
  .next (if s.en AUX.base then
    let d := fun n => min (s.fld (ADUTY n) 15 0) (auxPeriod s)
    s.updAux (fun x => { x with
      per := auxPeriod s, duty := [d 0, d 1, d 2], ocHold := false,
      before := b2n (decide (0 < d 0)) + 2 * b2n (decide (0 < d 1)) + 4 * b2n (decide (0 < d 2)) })
  else s)

/-- AUX_DUTY_MATCH (R241): the counter reaches ADUTYn; a duty of the whole period is never reached. -/
def execAuxDutyMatch (n : Nat) (s : State) : Out :=
  .next (if n < 3 ∧ nth 0 s.aux.duty n < s.aux.per then s.updAux (fun x => { x with before := x.before &&& (7 - 2 ^ n) }) else s)

/-- HALL_ERR follows the Hall code in six-step mode (R242); its entry raises the interrupt. -/
def hallRefresh (s : State) : State :=
  let h := s.fld AXSTAT 18 16
  let err := decide (s.fld AXCFG 25 24 = 2) && (hallPhases h).isNone
  (if err && !s.bit AXSTAT 26 then s.irq AUX.base 3 else s).setBit AXSTAT 26 err

/-- HALL_CODE_CHANGE (R242): code `h` has been stable for 48 cycles and is taken. -/
def execHallCodeChange (h : Nat) (s : State) : Out := .next (hallRefresh (s.setFld AXSTAT 18 16 h))

/-- BOOTSTRAP_UV (R243): HO of phase n is held low. -/
def execBootstrapUv (n : Nat) (s : State) : Out :=
  .next (if n < 3 ∧ !s.bit AXSTAT (27 + n) then (s.setBit AXSTAT (27 + n) true).irq AUX.base 2 else s)

/-- BOOTSTRAP_RECOVER (R243): the difference exceeds 8.5 V again. -/
def execBootstrapRecover (n : Nat) (s : State) : Out := .next (if n < 3 then s.setBit AXSTAT (27 + n) false else s)

/-- AUX_OVERCURRENT (R243): every HO turns off; with LATCH the condition latches (LATCH is absent in version 1). -/
def execAuxOvercurrent (s : State) : Out :=
  .next (if s.en AUX.base ∧ s.bit OCCFG 31 then
    let s1 := (s.irq AUX.base 0).updAux (fun x => { x with above := true })
    if tb (s.shown OCCFG) 30 then s1.setBit AXSTAT 31 true else s1.updAux (fun x => { x with ocHold := true })
  else s)

/-- A write to AXCLR (R243): the latch clears while AX_CS is below the threshold, or the write is refused. -/
def axclrWrite (init : Nat) (data : Word) (s : State) : State :=
  if !tb data 0 then s.respond init AXCLR 0
  else if s.aux.above then s.errorResp init AXCLR .refused true
  else (s.setBit AXSTAT 31 false).respond init AXCLR 0

/-- AUX_OC_CLEAR (R243): `above` says whether AX_CS is above the threshold. -/
def execAuxOcClear (init : Nat) (above : Bool) (s : State) : Out :=
  .next (s.writeAt .ps AUX.base init AXCLR 1 (fun t => axclrWrite init 1 (t.updAux (fun x => { x with above := above }))))

/-- A write to AXCFG (R241): refused while the drivers are enabled, and for a reserved INSEL; version 1 has no six-step. -/
def axcfgWrite (init : Nat) (data : Word) (s : State) : State :=
  let m := bitsOf data 25 24
  if s.en AUX.base ∨ m = 3 ∨ (m = 2 ∧ s.ver AUX.base = 1) then s.errorResp init AXCFG .refused true
  else hallRefresh (s.plainWrite init AXCFG data)

/-- VDRV falls below its threshold, or returns (R243): the drivers turn off, and resume from their precharge. -/
def State.auxVdrv (s : State) (low : Bool) : State :=
  if low then (if s.bit AXSTAT 30 then s else (s.setBit AXSTAT 30 true).irq AUX.base 1)
  else (s.setBit AXSTAT 30 false).updAux (fun x => { x with pre := if s.en AUX.base then 7 else x.pre })

end Sys2Proof.Machine
end

