-- ==== Sys2Proof/Machine/Crc.lean ====
section
/-!
DEFINITION. The check values the manual names: CRC-32C (R456, used by images, parameters, frames and records), the CRC-32 of
Ethernet, and the CRC-16 of the Oxernal link (R489).
-/
namespace Sys2Proof.Machine

/-- One bit step of a reflected CRC. -/
def crcBitR (poly c : Nat) : Nat := if c % 2 = 1 then (c / 2) ^^^ poly else c / 2

/-- One byte of a reflected CRC. -/
def crcByteR (poly c : Nat) (b : Byte) : Nat := (List.range 8).foldl (fun x _ => crcBitR poly x) (c ^^^ b.toNat)

/-- A reflected 32-bit CRC with initial value and final XOR of all ones. -/
def crc32R (poly : Nat) (bs : List Byte) : Nat := (bs.foldl (crcByteR poly) 0xFFFFFFFF) ^^^ 0xFFFFFFFF

/-- CRC-32C (R456): polynomial 0x1EDC6F41, reflected. -/
def crc32c (bs : List Byte) : Nat := crc32R 0x82F63B78 bs

/-- The CRC-32 of Ethernet (IEEE 802.3; PRESUMED): polynomial 0x04C11DB7, reflected. -/
def crc32eth (bs : List Byte) : Nat := crc32R 0xEDB88320 bs

/-- One bit step of CRC-16 with polynomial 0x1021, not reflected. -/
def crcBit16 (c : Nat) : Nat := if 0x8000 ≤ c then ((c * 2) % 65536) ^^^ 0x1021 else c * 2

/-- CRC-16 of R489: polynomial 0x1021, initial value 0xFFFF, no reflection, no final XOR. -/
def crc16 (bs : List Byte) : Nat :=
  bs.foldl (fun c b => (List.range 8).foldl (fun x _ => crcBit16 x) (c ^^^ (b.toNat * 256))) 0xFFFF

end Sys2Proof.Machine
end

