-- ==== Sys2Proof/Machine/Ethernet.lean ====
section
/-!
DEFINITION. The Ethernet MACs and the PTP clock (R512-R514, R529). The registers of the one PTP clock stand at MAC 0's page;
MAC 1's page shows the same ones (`ptpAddr`).
-/
namespace Sys2Proof.Machine

abbrev ETH.IRQ_RAW (m : Nat) : Nat := ETH.base m + 0x14
abbrev ETH.MACCFG (m : Nat) : Nat := ETH.base m + 0x40
abbrev ETH.ANCTL (m : Nat) : Nat := ETH.base m + 0x60
abbrev ETH.ANSTAT (m : Nat) : Nat := ETH.base m + 0x64
abbrev ETH.PAUSE (m : Nat) : Nat := ETH.base m + 0x68
abbrev ETH.TXRING (m : Nat) : Nat := ETH.base m + 0x80
abbrev ETH.RXRING (m : Nat) : Nat := ETH.base m + 0x90
abbrev ETH.RXBUFSZ (m : Nat) : Nat := ETH.base m + 0xA0
/-- The counters RXOK, RXCRC, RXDROP, RXLONG, TXOK, TXPAUSE, RXPAUSE, TSOVF, numbers 0-7. -/
abbrev ETH.CNT (m k : Nat) : Nat := ETH.base m + 0x100 + 4 * k
abbrev ETH.CNTCLR (m : Nat) : Nat := ETH.base m + 0x120
abbrev ETH.TSSTAT (m : Nat) : Nat := ETH.base m + 0x340
abbrev ETH.TS_SEQ (m : Nat) : Nat := ETH.base m + 0x344
abbrev ETH.TS_SEC (m : Nat) : Nat := ETH.base m + 0x348
abbrev ETH.TS_NS (m : Nat) : Nat := ETH.base m + 0x34C
abbrev ETH.SECCFG (m : Nat) : Nat := ETH.base m + 0x400
abbrev PTP.SEC_HI : Nat := 0x400A0300
abbrev PTP.SEC_LO : Nat := 0x400A0304
abbrev PTP.NS : Nat := 0x400A0308
abbrev PTP.RATE : Nat := 0x400A030C
abbrev PTP.STEPSEC : Nat := 0x400A0310
abbrev PTP.STEPNS : Nat := 0x400A0314
abbrev PTP.CTL : Nat := 0x400A0318
abbrev PTP.PPSCFG : Nat := 0x400A0320
abbrev PTP.PPSIN_SEC : Nat := 0x400A0324
abbrev PTP.PPSIN_NS : Nat := 0x400A0328
abbrev PTP.TARGET_SEC : Nat := 0x400A0330
abbrev PTP.TARGET_NS : Nat := 0x400A0334
abbrev PTP.ONESTEP : Nat := 0x400A0350

/-- The address that holds a register of MAC 1's page: the one PTP clock's registers stand at MAC 0 (R529); the timestamp
FIFO is each MAC's own (R514). -/
def ptpAddr (a : Nat) : Nat :=
  if (0x400A1300 ≤ a ∧ a < 0x400A1340) ∨ a = 0x400A1350 then a - 0x1000 else a

/-- MAC `m`. -/
def State.mac (s : State) (m : Nat) : EthMac := nth {} s.eth m

/-- Change MAC `m`. -/
def State.updMac (s : State) (m : Nat) (f : EthMac → EthMac) : State := { s with eth := upd s.eth m f }

/-! ### The PTP clock (R514) -/

/-- A PTP time moved by `d` ns. -/
def ptpPlus (t : Nat) (d : Int) : Nat := (((t : Int) + d * 2 ^ 32) % (ptpRange : Int)).toNat

/-- A read of PTPSEC_HI latches the three time registers (R529). -/
def State.ptpLatch (s : State) : State :=
  let t := s.ptpNow
  ((s.wr PTP.SEC_HI (Word.ofNat (ptpSec t / 2 ^ 32))).wr PTP.SEC_LO (Word.ofNat (ptpSec t))).wr PTP.NS (Word.ofNat (ptpNs t))

/-- A write to PTPRATE takes effect from now on. -/
def ptpRateWrite (init a : Nat) (data : Word) (s : State) : State := (s.ptpSync.wr PTP.RATE data).respond init a 0

/-- A write to PTPCTL (R514): STEP applies the signed step. -/
def ptpCtlWrite (init a : Nat) (data : Word) (s : State) : State :=
  let t := s.ptpSync
  let d := (s.rd PTP.STEPSEC).toInt * 1000000000 + toSigned 31 (s.rd PTP.STEPNS).toNat
  (if tb data 0 then { t with ptp := { t.ptp with time := ptpPlus t.ptp.time d } } else s).respond init a 0

/-- PTP_STEP (R514, R529). -/
def execPtpStep (init m at_ : Nat) (s : State) : Out :=
  .next ((s.atTime at_).writeAt .eth (ETH.base (m % 2)) init (ETH.base (m % 2) + 0x318) 1 (ptpCtlWrite init (ETH.base (m % 2) + 0x318) 1) at_)

/-- PPS_IN_EDGE (R514): the edge is timestamped within ±8 ns. -/
def execPpsInEdge (at_ : Nat) (err : Int) (s : State) : Out :=
  let s1 := s.atTime at_
  .next (if s1.domRun .eth then
      let t := ptpPlus s1.ptpNow (clampI (-8) 8 err)
      (((s1.wr PTP.PPSIN_SEC (Word.ofNat (ptpSec t))).wr PTP.PPSIN_NS (Word.ofNat (ptpNs t))).irq (ETH.base 0) 9).irq (ETH.base 1) 9
    else s1)

/-- The nanoseconds of an instant within ±4 ns of a second rollover (R514). -/
def nearSecond (ns : Nat) : Bool := decide (ns ≤ 4) || decide (999999996 ≤ ns)

/-- PPS_OUT_SECOND (R514): the clock rolls over a second and PPS_OUT rises, while OUT_EN is 1. -/
def execPpsOutSecond (at_ : Nat) (s : State) : Out :=
  let s1 := s.atTime at_
  .next (if s1.domRun .eth ∧ s1.bit PTP.PPSCFG 31 ∧ nearSecond (ptpNs s1.ptpNow) then
      { s1 with balls := { s1.balls with ppsOut := true }, ptp := { s1.ptp with rise := s1.now } }
    else s1)

/-- WIDTH in units of 62.5 ps; 0 is taken as 1 ms (R529). -/
def State.ppsWidth (s : State) : Nat := max (s.fld PTP.PPSCFG 7 0) 1 * 16000000

/-- PPS_OUT_FALL (R514): the programmed width has passed since the rise. -/
def execPpsOutFall (at_ : Nat) (s : State) : Out :=
  let s1 := s.atTime at_
  .next (if s1.domRun .eth ∧ s1.ptp.rise + s1.ppsWidth ≤ at_ then { s1 with balls := { s1.balls with ppsOut := false } } else s1)

/-- A write to PPSCFG: with OUT_EN at 0, PPS_OUT is low. -/
def ppscfgWrite (init a : Nat) (data : Word) (s : State) : State :=
  let s1 := s.wr PTP.PPSCFG (data &&& 0x800000FF)
  (if tb data 31 then s1 else { s1 with balls := { s1.balls with ppsOut := false } }).respond init a 0

/-- PTP_TARGET_REACHED (R514): TARGET is set once the time has reached TARGET_SEC and TARGET_NS. -/
def execPtpTargetReached (at_ : Nat) (s : State) : Out :=
  let s1 := s.atTime at_
  let t := s1.ptpNow
  let target := (s1.rd PTP.TARGET_SEC).toNat * 1000000000 + s1.fld PTP.TARGET_NS 29 0
  .next (if s1.domRun .eth ∧ target ≤ ptpSec t % 2 ^ 32 * 1000000000 + ptpNs t then (s1.irq (ETH.base 0) 10).irq (ETH.base 1) 10 else s1)

/-! ### The timestamp FIFO (R514) -/

/-- TSSTAT, TS_SEQ, TS_SEC and TS_NS follow the FIFO. -/
def State.tsRefresh (s : State) (m : Nat) : State :=
  let q := (s.mac m).fifo
  let s1 := s.wr (ETH.TSSTAT m) (Word.ofNat q.length)
  match q.head? with
  | none => ((s1.wr (ETH.TS_SEQ m) 0).wr (ETH.TS_SEC m) 0).wr (ETH.TS_NS m) 0
  | some e =>
    ((s1.wr (ETH.TS_SEQ m) (Word.ofNat (b2n e.tx * 2 ^ 17 + 2 ^ 16 + e.seq % 65536))).wr (ETH.TS_SEC m) (Word.ofNat e.sec)).wr
      (ETH.TS_NS m) (Word.ofNat e.ns)

/-- A two-step timestamp enters the FIFO, or is lost to a full one. -/
def State.tsPush (s : State) (m : Nat) (e : TsEntry) : State :=
  if 16 ≤ (s.mac m).fifo.length then s.count (ETH.CNT m 7) 31 0 1
  else ((s.updMac m (fun x => { x with fifo := x.fifo ++ [e] })).tsRefresh m).irq (ETH.base m) 8

/-- A read of TS_NS returns the oldest entry's nanoseconds and removes the entry. -/
def tsNsRead (init m : Nat) (s : State) : State :=
  let v := s.rd (ETH.TS_NS m)
  ((s.updMac m (fun x => { x with fifo := x.fifo.drop 1 })).tsRefresh m).respond init (ETH.TS_NS m) v

/-- TIMESTAMP_POP (R514). -/
def execTimestampPop (init m : Nat) (s : State) : Out :=
  .next (s.readAt .eth (ETH.base (m % 2)) init (ETH.TS_NS (m % 2)) (tsNsRead init (m % 2)))

/-! ### Rings (R529) -/

/-- The address of descriptor `h` of the ring whose registers start at `r`. -/
def State.descAddr (s : State) (r h : Nat) : Nat := s.fld r 31 4 * 16 + 16 * h

/-- The descriptor after `h`. -/
def State.ringNext (s : State) (r h : Nat) : Nat := (h + 1) % max (s.fld (r + 4) 12 0) 1

/-- The `k`-th descriptor from HEAD upward. -/
def State.ringAt (s : State) (r : Nat) : Nat → Nat
  | 0 => s.fld (r + 8) 11 0
  | k + 1 => s.ringNext r (s.ringAt r k)

/-- The first `k` descriptors from HEAD are filled by firmware and the DMA's own, and lie in memory. -/
def State.ringReady (s : State) (r k : Nat) : Bool :=
  (List.range k).all (fun i =>
    decide (s.ringAt r i ≠ s.fld (r + 12) 11 0) && s.dmaOk (s.descAddr r (s.ringAt r i)) 16 &&
    tb (s.memWord (s.descAddr r (s.ringAt r i) + 4)) 31)

/-- The DMA of MAC `m` writes a word. -/
def State.ethWord (s : State) (m a : Nat) (v : Word) : State := s.memStore (81 + m) a (leBytes 4 v.toNat)

/-! ### Receiving (R512) -/

/-- A list of bytes cut into pieces of `k`, the last one possibly shorter; at most `fuel` pieces. -/
def chunks (k : Nat) : Nat → List Byte → List (List Byte)
  | 0, _ => []
  | fuel + 1, bs => if bs.length ≤ k then [bs] else bs.take k :: chunks k fuel (bs.drop k)

/-- One piece of a received frame goes through its descriptor: piece `i` of `n`. A buffer outside memory ends it with ERR. -/
def State.rxPiece (s : State) (m : Nat) (f : RxFrame) (i n : Nat) (bs : List Byte) : State :=
  let d := s.descAddr (ETH.RXRING m) (s.fld (ETH.RXRING m + 8) 11 0)
  let a := (s.memWord d).toNat
  let ok := s.dmaOk a bs.length
  let s1 := if ok then s.memStore (81 + m) a bs else s.errorResp (81 + m) a .unmapped true
  let last := decide (i + 1 = n)
  let flags := b2n (decide (i = 0)) * 2 ^ 30 + b2n last * 2 ^ 29 + b2n (last && f.ts.isSome) * 2 ^ 28 + b2n (!ok) * 2 ^ 27
  let s2 := s1.ethWord m (d + 4) (Word.ofNat (flags + bs.length))
  let s3 := if !last then s2
    else match f.ts, f.tag with
      | some (sec, ns), _ => (s2.ethWord m (d + 8) (Word.ofNat ns)).ethWord m (d + 12) (Word.ofNat sec)
      | none, some t => s2.ethWord m (d + 8) (Word.ofNat t)
      | none, none => s2
  s3.setFld (ETH.RXRING m + 8) 11 0 (s3.ringNext (ETH.RXRING m) (s3.fld (ETH.RXRING m + 8) 11 0))

/-- The DMA stores the oldest frame of the receive buffer when enough descriptors are filled and it does not wait for a coin
(R159). -/
def State.rxStore (s : State) (m : Nat) : State :=
  if s.coinStall (81 + m) then s else
  match (s.mac m).rxq.head? with
  | none => s
  | some f =>
    let ps := chunks (max (s.fld (ETH.RXBUFSZ m) 13 0) 64) 160 f.bytes
    if s.ringReady (ETH.RXRING m) ps.length then
      let s1 := (List.range ps.length).foldl (fun t i => t.rxPiece m f i ps.length (ps.getD i [])) s
      (((s1.updMac m (fun x => { x with rxq := x.rxq.drop 1 })).count (ETH.CNT m 0) 31 0 1).irq (ETH.base m) 0)
    else s

/-- The DMA stores all the frames it can. -/
def State.rxDrain (s : State) (m : Nat) : State := (List.range (s.mac m).rxq.length).foldl (fun t _ => t.rxStore m) s

/-- The destination address of a frame passes the filters of MAC `m` (R529). -/
def State.ethPasses (s : State) (m : Nat) (bs : List Byte) : Bool :=
  let c := s.rd (ETH.MACCFG m)
  let da := bs.take 6
  let own := leBytes 4 (s.rd (ETH.base m + 0x44)).toNat ++ leBytes 2 (s.rd (ETH.base m + 0x48)).toNat
  let h := crc32eth da / 2 ^ 26
  let group := tb (Word.ofNat (bs.getD 0 0).toNat) 0
  tb c 29 || (tb c 28 && decide (da = List.replicate 6 (0xFF : Byte))) ||
  (group && s.bit (ETH.base m + 0x4C + 4 * (h / 32)) (h % 32)) || (!group && decide (da = own))

/-- The frame is an IEEE 802.3 PAUSE frame. -/
def isPause (bs : List Byte) : Bool :=
  decide (bs.take 6 = ([0x01, 0x80, 0xC2, 0x00, 0x00, 0x01] : List Byte)) &&
  decide ((bs.drop 12).take 4 = ([0x88, 0x08, 0x00, 0x01] : List Byte))

/-- The sequenceId of the PTP message whose header begins at byte `off`. -/
def ptpSeq (bs : List Byte) (off : Nat) : Nat := (bs.getD (off + 30) 0).toNat * 256 + (bs.getD (off + 31) 0).toNat

/-- The words that MACsec works with: SECCFG and the secure-channel identifiers. -/
def State.secWords (s : State) (m : Nat) : List Word := s.shown (ETH.SECCFG m) :: (List.range 8).map (fun i => s.shown (ETH.base m + 0x410 + 4 * i))

/-- A frame that has passed every check enters the receive buffer, or is dropped whole when that is full (R512). -/
def State.rxEnqueue (s : State) (m : Nat) (f : RxFrame) : State :=
  let used := ((s.mac m).rxq.map (fun x => x.bytes.length)).foldl (· + ·) 0
  if 16384 < used + f.bytes.length then (s.count (ETH.CNT m 2) 31 0 1).irq (ETH.base m) 2
  else (s.updMac m (fun x => { x with rxq := x.rxq ++ [f] })).rxDrain m

/-- A pause frame holds the transmitter for its quanta of 512 bit times (R512; IEEE 802.3, PRESUMED); 0 quanta end the hold. -/
def State.rxPause (s : State) (m : Nat) (frame : List Byte) : State :=
  let q := (frame.getD 16 0).toNat * 256 + (frame.getD 17 0).toNat
  (s.count (ETH.CNT m 6) 31 0 1).updMac m (fun x => { x with pausedTo := s.now + q * 8192 })

/-- A frame without error and within MAXLEN is filtered, opened by MACsec, timestamped, stripped and stored. -/
def State.rxAccept (s : State) (m : Nat) (frame : List Byte) (ptp : Option PtpPlace) (err : Int) : State :=
  let body := frame.take (frame.length - 4)
  if s.bit (ETH.MACCFG m) 26 && isPause frame then s.rxPause m frame
  else if !s.ethPasses m frame then s
  else
    let opened := if tb (s.shown (ETH.SECCFG m)) 31 then Config.macsecOpen (s.mac m).keys (s.secWords m) body else some body
    match opened with
    | none => s.irq (ETH.base m) 5
    | some b =>
      let t := ptpPlus s.ptpNow (clampI (-4) 4 err)
      let s1 := match ptp with
        | some p => s.tsPush m { tx := false, seq := ptpSeq b p.off, sec := ptpSec t % 2 ^ 32, ns := ptpNs t }
        | none => s
      let tagged := decide ((b.drop 12).take 2 = ([0x81, 0x00] : List Byte)) && s.bit (ETH.MACCFG m) 27
      let b1 := if tagged then b.take 12 ++ b.drop 16 else b
      let b2 := if Config.ethStoresFcs then b1 ++ frame.drop (frame.length - 4) else b1
      s1.rxEnqueue m { bytes := b2, ts := ptp.map (fun _ => (ptpSec t % 2 ^ 32, ptpNs t)),
                       tag := if tagged then some ((b.getD 14 0).toNat * 256 + (b.getD 15 0).toNat) else none }

/-- The check sequence at the end of a frame is right (IEEE 802.3; PRESUMED). -/
def fcsOk (bs : List Byte) : Bool :=
  decide (4 ≤ bs.length) && decide (leBytes 4 (crc32eth (bs.take (bs.length - 4))) = bs.drop (bs.length - 4))

/-- MAXLEN as it acts: no frame is longer than 9,022 bytes (R512). -/
def State.ethMax (s : State) (m : Nat) : Nat := min (s.fld (ETH.MACCFG m) 13 0) 9022

/-- ETH_FRAME_RECEIVE (R512, R514). -/
def execEthFrameReceive (m at_ : Nat) (frame : List Byte) (ptp : Option PtpPlace) (err : Int) (s : State) : Out :=
  let s1 := s.atTime at_
  .next (if m < 2 ∧ s1.en (ETH.base m) ∧ s1.bit (ETH.MACCFG m) 30 ∧ s1.domRun .eth then
      if s1.ethMax m < frame.length then s1.count (ETH.CNT m 3) 31 0 1
      else if !fcsOk frame then s1.count (ETH.CNT m 1) 31 0 1
      else s1.rxAccept m frame ptp err
    else s1)

/-- A write to RXTAIL: the frames that waited for descriptors are stored. -/
def rxtailWrite (init m : Nat) (data : Word) (s : State) : State :=
  (s.plainWrite init (ETH.RXRING m + 12) data).rxDrain m

/-! ### Transmitting (R512, R514) -/

/-- How many descriptors from HEAD make one filled frame: up to LAST. -/
def State.txCount (s : State) (m : Nat) : Option Nat :=
  ((List.range 4096).find? (fun k =>
    !s.ringReady (ETH.TXRING m) (k + 1) || tb (s.memWord (s.descAddr (ETH.TXRING m) (s.ringAt (ETH.TXRING m) k) + 4)) 29)).bind
    (fun k => if s.ringReady (ETH.TXRING m) (k + 1) then some (k + 1) else none)

/-- The bytes that a descriptor's buffer holds. -/
def State.txPiece (s : State) (d : Nat) : List Byte := s.getBytes (s.memWord d).toNat (bitsOf (s.memWord (d + 4)) 13 0)

/-- The one-step Sync (R514): originTimestamp is inserted; correctionField and a UDP checksum are the standard's to compute
and stay free here. -/
def State.oneStep (s : State) (p : PtpPlace) (t : Nat) (bs : List Byte) : List Byte :=
  let stamp := ((leBytes 6 (ptpSec t)).reverse ++ (leBytes 4 (ptpNs t)).reverse)
  let corr := leBytes 4 (s.free 0).toNat ++ leBytes 4 (s.free 1).toNat
  let b1 := bs.take (p.off + 8) ++ corr ++ (bs.drop (p.off + 16)).take 18 ++ stamp ++ bs.drop (p.off + 44)
  if p.udp then b1.take (p.off - 2) ++ leBytes 2 (s.free 2).toNat ++ b1.drop p.off else b1

/-- A filled frame is sent: `n` descriptors. -/
def State.txSend (s : State) (m n : Nat) (ptp : Option PtpPlace) (err : Int) : State :=
  let ds := (List.range n).map (fun i => s.descAddr (ETH.TXRING m) (s.ringAt (ETH.TXRING m) i))
  let bytes := (ds.map s.txPiece).flatten
  let t := ptpPlus s.ptpNow (clampI (-4) 4 err)
  let one := match ptp with
    | some p => tb (s.shown PTP.ONESTEP) 0 && decide ((bytes.getD p.off 0).toNat % 16 = 0)
    | none => false
  let b1 := match ptp with
    | some p => if one then s.oneStep p t bytes else bytes
    | none => bytes
  let b2 := if tb (s.shown (ETH.SECCFG m)) 31 then Config.macsecSeal (s.mac m).keys (s.secWords m) s.freeCtr b1 else b1
  let asked := ds.any (fun d => tb (s.memWord (d + 4)) 28)
  let s1 := ds.foldl (fun u d => u.ethWord m (d + 4) (s.memWord (d + 4) &&& 0x7FFFFFFF)) { s with freeCtr := s.freeCtr + 3 }
  let s2 := if asked ∧ ptp.isSome then
      let d := ds.getD (n - 1) 0
      (s1.ethWord m (d + 8) (Word.ofNat (ptpNs t))).ethWord m (d + 12) (Word.ofNat (ptpSec t))
    else s1
  let s3 := match ptp with
    | some p => if one then s2 else s2.tsPush m { tx := true, seq := ptpSeq bytes p.off, sec := ptpSec t % 2 ^ 32, ns := ptpNs t }
    | none => s2
  let s4 := s3.setFld (ETH.TXRING m + 8) 11 0 (s.ringAt (ETH.TXRING m) n)
  (((s4.updMac m (fun x => { x with sent := b2 })).count (ETH.CNT m 4) 31 0 1).irq (ETH.base m) 1)

/-- ETH_FRAME_TRANSMIT (R512, R514): nothing happens while no filled frame waits, while the partner's pause holds the transmitter, or
while the DMA waits for a coin: a frame is sent once it is there whole. A buffer outside memory is a DMA error,
and its frame is passed over with ERR. -/
def execEthFrameTransmit (m at_ : Nat) (ptp : Option PtpPlace) (err : Int) (s : State) : Out :=
  let s1 := s.atTime at_
  .next (if m < 2 ∧ s1.en (ETH.base m) ∧ s1.bit (ETH.MACCFG m) 31 ∧ s1.domRun .eth ∧ (s1.mac m).pausedTo ≤ s1.now ∧ !s1.coinStall (81 + m) then
      match s1.txCount m with
      | none => s1
      | some n =>
        let ds := (List.range n).map (fun i => s1.descAddr (ETH.TXRING m) (s1.ringAt (ETH.TXRING m) i))
        match ds.find? (fun d => !s1.dmaOk (s1.memWord d).toNat (bitsOf (s1.memWord (d + 4)) 13 0)) with
        | none => s1.txSend m n ptp err
        | some d =>
          let s2 := s1.errorResp (81 + m) (s1.memWord d).toNat .unmapped false
          let s3 := ds.foldl (fun u e => u.ethWord m (e + 4) ((s1.memWord (e + 4) &&& 0x7FFFFFFF) ||| 0x08000000)) s2
          s3.setFld (ETH.TXRING m + 8) 11 0 (s1.ringAt (ETH.TXRING m) n)
    else s1)

/-! ### Counters, pause, auto-negotiation -/

/-- A write to CNTCLR. -/
def cntclrWrite (init m : Nat) (data : Word) (s : State) : State :=
  (if tb data 0 then (List.range 8).foldl (fun t k => t.wr (ETH.CNT m k) 0) s else s).respond init (ETH.CNTCLR m) 0

/-- ETH_COUNTER_CLEAR (R529). -/
def execEthCounterClear (init m : Nat) (s : State) : Out :=
  .next (s.writeAt .eth (ETH.base (m % 2)) init (ETH.CNTCLR (m % 2)) 1 (cntclrWrite init (m % 2) 1))

/-- A PAUSE frame of `q` quanta from MAC `m` (IEEE 802.3; PRESUMED). -/
def State.pauseFrame (s : State) (m q : Nat) : List Byte :=
  ([0x01, 0x80, 0xC2, 0x00, 0x00, 0x01] : List Byte) ++ leBytes 4 (s.rd (ETH.base m + 0x44)).toNat ++
  leBytes 2 (s.rd (ETH.base m + 0x48)).toNat ++ ([0x88, 0x08, 0x00, 0x01] : List Byte) ++ (leBytes 2 q).reverse ++ List.replicate 42 0

/-- A write to PAUSE: XOFF sends a pause frame while the transmitter is enabled. -/
def pauseWrite (init m : Nat) (data : Word) (s : State) : State :=
  let s1 := s.setFld (ETH.PAUSE m) 15 0 (bitsOf data 15 0)
  (if tb data 31 ∧ s.en (ETH.base m) ∧ s.bit (ETH.MACCFG m) 31 then
    (s1.count (ETH.CNT m 5) 31 0 1).updMac m (fun x => { x with sent := s.pauseFrame m (bitsOf data 15 0) })
  else s1).respond init (ETH.PAUSE m) 0

/-- ETH_PAUSE_SEND (R529). -/
def execEthPauseSend (init m : Nat) (data : Word) (s : State) : Out :=
  let d := data ||| 0x80000000
  .next (s.writeAt .eth (ETH.base (m % 2)) init (ETH.PAUSE (m % 2)) d (pauseWrite init (m % 2) d))

/-- A write to ANCTL: RESTART starts auto-negotiation again, so it is no longer complete (R512). -/
def anctlWrite (init m : Nat) (data : Word) (s : State) : State :=
  let s1 := s.plainWrite init (ETH.ANCTL m) data
  if tb data 30 ∧ tb data 31 then s1.setBit (ETH.ANSTAT m) 30 false else s1

/-- AN_RESTART (R512). -/
def execAnRestart (init m : Nat) (data : Word) (s : State) : Out :=
  let d := data ||| 0x40000000
  .next (s.writeAt .eth (ETH.base (m % 2)) init (ETH.ANCTL (m % 2)) d (anctlWrite init (m % 2) d))

/-- LINK_CHANGE (R512): ANSTAT follows, and the LINK and ANDONE flags with it. -/
def execLinkChange (m : Nat) (link done : Bool) (partner : Nat) (s : State) : Out :=
  .next (s.clocked .eth (fun s => if m < 2 ∧ s.en (ETH.base m) then
      let d := done && s.bit (ETH.ANCTL m) 31
      let s1 := s.wr (ETH.ANSTAT m) (Word.ofNat (b2n link * 2 ^ 31 + b2n d * 2 ^ 30 + partner % 65536))
      let s2 := if s.bit (ETH.ANSTAT m) 31 != link then s1.irq (ETH.base m) 3 else s1
      if d && !s.bit (ETH.ANSTAT m) 30 then s2.irq (ETH.base m) 4 else s2
    else s))

/-- A write to a key register (R513): the words are held and read 0. Version 1 has none. -/
def sakeyWrite (init m k : Nat) (data : Word) (s : State) : State :=
  if s.ver (ETH.base m) = 1 then s.respond init (ETH.base m + 0x600 + 4 * k) 0
  else (s.updMac m (fun x => { x with keys := Store.put 0 x.keys k data })).respond init (ETH.base m + 0x600 + 4 * k) 0

/-- Every key register of both MACs is cleared (R478, R513). -/
def State.clearKeys (s : State) : State := { s with eth := s.eth.map (fun x => { x with keys := [] }) }

end Sys2Proof.Machine
end

