-- ==== Sys2Proof/Machine/Converters.lean ====
section
/-!
DEFINITION. The control converters (chapter 7): trigger groups, runs, results, the pusher, and converter rotation.
-/
namespace Sys2Proof.Machine

abbrev CV.STAT (n : Nat) : Nat := CV.base n + 0x10
abbrev CV.RESULT (n : Nat) : Nat := CV.base n + 0x40
abbrev CV.RUNCNT (n : Nat) : Nat := CV.base n + 0x44
abbrev CV.OVRCNT (n : Nat) : Nat := CV.base n + 0x48
abbrev CV.ENTRY_A (n k : Nat) : Nat := CV.base n + 0x80 + 8 * k
abbrev CV.ENTRY_B (n k : Nat) : Nat := CV.base n + 0x84 + 8 * k
abbrev ADCC.SWTRIG : Nat := ADCC.base + 0x40
abbrev ADCC.EXTTRIG : Nat := ADCC.base + 0x44
abbrev ADCC.ROTCFG : Nat := ADCC.base + 0x48
abbrev ADCC.ROTSTAT : Nat := ADCC.base + 0x4C
abbrev ADCC.ROTCNT : Nat := ADCC.base + 0x50
abbrev ADCC.ROTEXC : Nat := ADCC.base + 0x54
abbrev ADCC.GRPFIRED : Nat := ADCC.base + 0x58
abbrev ADCC.TG_CFG (k : Nat) : Nat := ADCC.base + 0x100 + 4 * k

/-- Position `n`. -/
def State.cpos (s : State) (n : Nat) : ConvPos := nth {} s.conv.pos n

/-- Change position `n`. -/
def State.updPos (s : State) (n : Nat) (f : ConvPos → ConvPos) : State :=
  { s with conv := { s.conv with pos := upd s.conv.pos n f } }

/-! ### The result of a conversion (R179) -/

/-- floor(a / b + 1/2): the rounding of R179. -/
def roundDiv (a b : Int) : Int := Int.fdiv (2 * a + b) (2 * b)

/-- The unsaturated result of R179: `vin` in nV, `g` the gain, `low` for MODE 1. -/
def convRaw (vin : Int) (g : Nat) (low : Bool) : Int :=
  if low then roundDiv (((g : Int) * vin - 1250000000) * 32768) 1250000000
  else roundDiv ((g : Int) * (vin - 1250000000) * 32768) 1250000000

/-- The gain an entry selects. -/
def entryGain (a : Word) : Nat := 2 ^ bitsOf a 24 23

/-- The Q1.15 result k of an entry's conversion (R179). -/
def convResult (a : Word) (vin : Int) : Int := clampI (-32768) 32767 (convRaw vin (entryGain a) (tb a 25))

/-- The result saturated: CLIP (R179). -/
def convClips (a : Word) (vin : Int) : Bool := convResult a vin != convRaw vin (entryGain a) (tb a 25)

/-! ### Runs (R185-R188) -/

/-- Entry `k` of position `n` is enabled and names one of `groups`. -/
def State.entrySelected (s : State) (n groups k : Nat) : Bool :=
  let a := s.shown (CV.ENTRY_A n k)
  tb a 31 && groups.testBit (bitsOf a 30 26)

/-- The first selected entry from `from_` upward (R185). -/
def State.nextEntry (s : State) (n groups from_ : Nat) : Option Nat :=
  (List.range 16).find? (fun k => decide (from_ ≤ k) && s.entrySelected n groups k)

/-- Position `n` is being shadowed (R193). -/
def State.shadowing (s : State) (n : Nat) : Bool := decide (s.fld ADCC.ROTSTAT 31 30 = 1 ∧ s.fld ADCC.ROTSTAT 28 24 = n)

/-- An entry's acquisition starts: its fields are read (R188), and the spare unit of a shadow acquires with it (R193). -/
def State.acquire (s : State) (n k : Nat) : State :=
  s.updPos n (fun p => { p with
    cur := some k, fieldsA := s.shown (CV.ENTRY_A n k), fieldsB := s.shown (CV.ENTRY_B n k), started := none, paired := s.shadowing n })

/-- STAT.MERGED and its interrupt (R186). -/
def State.markMerged (s : State) (n : Nat) : State := (s.setBit (CV.STAT n) 1 true).irq (CV.base n) 1

/-- A run starts over the entries that `groups` selects (R185): RUNCNT, BUSY, MERGED (R186) and TRIG_LATE (R187). -/
def State.startRun (s : State) (n groups : Nat) (merged late : Bool) : State :=
  match s.nextEntry n groups 0 with
  | none => s.setBit (CV.STAT n) 8 false
  | some k =>
    let s1 := (s.wr (CV.RUNCNT n) (s.rd (CV.RUNCNT n) + 1)).setBit (CV.STAT n) 8 true
    let s2 := if merged then s1.markMerged n else s1
    let s3 := if late then (s2.setBit (CV.STAT n) 2 true).irq (CV.base n) 2 else s2
    (s3.updPos n (fun p => { p with groups := groups, merged := merged, discard := false })).acquire n k

/-- The spare position that unit `u` serves (R195). -/
def State.sparePos (s : State) (u : Nat) : Nat := if s.fld (CV.STAT 24) 24 20 = u then 24 else 25

/-- A passed shadow of position `n` waits for its hand-over (R195). -/
def State.handoverDue (s : State) (n : Nat) : Bool := decide (s.fld ADCC.ROTSTAT 31 30 = 2 ∧ s.fld ADCC.ROTSTAT 28 24 = n)

/-- The hand-over (R195): the spare unit serves the position and the freed unit moves to the spare position that the incoming unit
left. -/
def State.handover (s : State) : State :=
  let p := s.fld ADCC.ROTSTAT 28 24
  let u := s.fld ADCC.ROTSTAT 20 16
  let old := s.fld (CV.STAT p) 24 20
  let s1 := (s.setFld (CV.STAT (s.sparePos u)) 24 20 old).setFld (CV.STAT p) 24 20 u
  let s2 := ((s1.irq (CV.base p) 6).irq ADCC.base 0).count ADCC.ROTCNT 31 16 1
  let s3 := s2.setFld ADCC.ROTSTAT 31 30 0
  { s3 with conv := { s3.conv with freed := s3.conv.freed ++ [old], order := s3.conv.order.erase p ++ [p] } }

/-- Position `n` is at a sequence boundary before a run that the spare unit of a passed shadow serves (R195). -/
def State.boundary (s : State) (n : Nat) : State := if s.handoverDue n then s.handover else s

/-- A further trigger in the CLK_ADC cycle that has started the run joins it: one run over the union of the entries (R186). -/
def State.joinRun (s : State) (n fired cycle : Nat) : State :=
  let g := (s.cpos n).groups ||| fired
  match s.nextEntry n g 0 with
  | none => s
  | some k =>
    ((((s.markMerged n).updPos n (fun p => { p with groups := g, merged := true })).acquire n k).updPos n
      (fun p => { p with started := some cycle }))

/-- Position `n` is a member of a group: an enabled entry names it. -/
def State.member (s : State) (n groups : Nat) : Bool := (s.nextEntry n groups 0).isSome

/-- How many of the fired groups have position `n` as a member. -/
def State.memberCount (s : State) (n fired : Nat) : Nat :=
  ((List.range 32).filter (fun k => fired.testBit k && s.member n (2 ^ k))).length

/-- Fired groups reach a position in CLK_ADC cycle `cycle`: a run starts, a trigger in the cycle of the run's start joins it, a later
one is held pending and merged (R185-R187); a disabled position ignores them (R184). `merged` are the groups that stand for two
triggers. -/
def State.trigger (s : State) (n fired merged cycle : Nat) : State :=
  let c := s.memberCount n fired
  if !s.en (CV.base n) || c == 0 then s
  else
    let m := decide (2 ≤ c) || s.member n (fired &&& merged)
    match (s.cpos n).cur, (s.cpos n).pend with
    | none, _ => ((s.boundary n).startRun n fired m false).updPos n (fun p => { p with started := some cycle })
    | some _, none =>
      if (s.cpos n).started = some cycle ∧ !(s.cpos n).discard then s.joinRun n fired cycle
      else s.updPos n (fun p => { p with pend := some (fired, m) })
    | some _, some (g, _) => s.updPos n (fun p => { p with pend := some (g ||| fired, true) })

/-- Fire a set of groups in one CLK_ADC cycle: GRPFIRED, then every member position. -/
def State.fireGroups (s : State) (fired merged cycle : Nat) : State :=
  if fired = 0 then s
  else (List.range 26).foldl (fun t n => t.trigger n fired merged cycle) (s.orBits ADCC.GRPFIRED fired)

/-! ### Trigger groups (R182-R184) -/

/-- The events that are sources of group `k`, where it is enabled (R182). -/
def State.groupHits (s : State) (k : Nat) (evs : List SrcEvent) : List SrcEvent :=
  let c := s.shown (ADCC.TG_CFG k)
  if tb c 31 then evs.filter (fun e => decide (e.code = bitsOf c 7 0) || (tb c 30 && decide (e.code = bitsOf c 15 8))) else []

/-- How many events of a group some pulses of one CLK_ADC cycle are: those of both sources in one CLK_PWM cycle, 2 ns, count once
(R183). -/
def eventCount (evs : List SrcEvent) : Nat := ((evs.map (fun e => e.time / 32)).eraseDups).length

/-- What the events of one CLK_ADC cycle do to the groups (R183, R186): the groups that fire, those of them that fire for more than
one trigger, and the event counts after it. -/
def State.groupStep (s : State) (evs : List SrcEvent) : Nat × Nat × List (Nat × Nat) :=
  (List.range 32).foldl (fun acc k =>
    let hits := s.groupHits k evs
    let d := bitsOf (s.shown (ADCC.TG_CFG k)) 23 20 + 1
    let total := tabGet acc.2.2 k + eventCount hits
    if hits = [] then acc
    else
      let fires := total / d
      (acc.1 + (if 1 ≤ fires then 2 ^ k else 0), acc.2.1 + (if 2 ≤ fires ∨ (1 ≤ fires ∧ hits.any (fun e => e.twice)) then 2 ^ k else 0),
        tabSet acc.2.2 k (total % d))) (0, 0, s.conv.counts)

/-- An event leaves its source for the trigger matrix; a second one before the matrix has taken the first merges with it
(R127). -/
def State.sendEvent (s : State) (code : Nat) : State :=
  let sent := if s.conv.sent.any (fun e => e.code == code) then s.conv.sent.map (fun e => if e.code = code then { e with twice := true } else e)
    else s.conv.sent ++ [{ code := code, time := s.now }]
  { s with conv := { s.conv with sent := sent } }

/-- TRIGGER_GROUP_FIRE (R183): in CLK_ADC cycle `cycle` the events that have been sent reach the matrix, count toward DIV and fire
groups. With ADCC.CTRL.EN at 0 no group fires. -/
def execTriggerGroupFire (codes : List Nat) (cycle : Nat) (s : State) : Out :=
  .next (s.clocked .adc (fun s =>
    let taken := s.conv.sent.filter (fun e => codes.contains e.code)
    let s1 := { s with conv := { s.conv with sent := s.conv.sent.filter (fun e => !codes.contains e.code) } }
    if s.en ADCC.base then
      let g := s.groupStep taken
      { s1 with conv := { s1.conv with counts := g.2.2 } }.fireGroups g.1 g.2.1 cycle
    else s1))

/-- ADC_TRIG_EDGE (R184): an edge that EXTTRIG selects is a source event. -/
def execAdcTrigEdge (j : Nat) (rising : Bool) (s : State) : Out :=
  .next (s.clocked .adc (fun s =>
    if j < 4 ∧ s.bit ADCC.EXTTRIG (2 * j + (if rising then 0 else 1)) then s.sendEvent (192 + j) else s))

/-- The groups a write to SWTRIG fires: the enabled ones, in version 1 only groups 0-15 (R183). -/
def State.swGroups (s : State) (data : Word) : Nat :=
  (List.range 32).foldl (fun acc k => if tb data k && tb (s.shown (ADCC.TG_CFG k)) 31 then acc + 2 ^ k else acc) 0

/-- A write to ADCC.SWTRIG, applied in CLK_ADC cycle `cycle` (R183). -/
def swtrigApply (init : Nat) (data : Word) (cycle : Nat) (s : State) : State :=
  (if s.en ADCC.base then s.fireGroups (s.swGroups data) 0 cycle else s).respond init ADCC.SWTRIG 0

/-- SWTRIG_WRITE (R183). -/
def execSwtrigWrite (init : Nat) (data : Word) (cycle : Nat) (s : State) : Out :=
  .next (s.writeAt .adc ADCC.base init ADCC.SWTRIG data (swtrigApply init data cycle) cycle)

/-- A write to TGk_CFG (R182, R183): ignored where version 1 has no such group; a reserved source code is refused; any other write
restarts the event count. -/
def tgCfgWrite (init k : Nat) (data : Word) (s : State) : State :=
  if s.ver ADCC.base = 1 ∧ 16 ≤ k then s.respond init (ADCC.TG_CFG k) 0
  else if 196 ≤ bitsOf data 7 0 ∨ 196 ≤ bitsOf data 15 8 then s.errorResp init (ADCC.TG_CFG k) .refused true
  else
    let s1 := s.plainWrite init (ADCC.TG_CFG k) data
    if s1.bus.resp.cause = 0 then { s1 with conv := { s1.conv with counts := tabSet s1.conv.counts k 0 } } else s1

/-- TRIGGER_GROUP_CFG_WRITE (R183). -/
def execTriggerGroupCfgWrite (init k : Nat) (data : Word) (s : State) : Out :=
  .next (s.writeAt .adc ADCC.base init (ADCC.TG_CFG (k % 32)) data (tgCfgWrite init (k % 32) data))

/-! ### Rotation: the shadow compare (R193, R194) -/

/-- The shadow ends: ROTSTAT goes to `state` and the position's SHADOW bit clears. -/
def State.endShadow (s : State) (state : Nat) : State :=
  (s.setFld ADCC.ROTSTAT 31 30 state).setBit (CV.STAT (s.fld ADCC.ROTSTAT 28 24)) 9 false

/-- One compared conversion of the shadowed position, which the spare unit has acquired too (R193); at 4,096 the shadow passes or
fails (R194). -/
def State.shadowCompare (s : State) (n : Nat) (k kSpare : Int) : State :=
  if s.shadowing n ∧ (s.cpos n).paired then
    let d := (k - kSpare).natAbs
    let past := decide (max (s.fld ADCC.ROTCFG 7 0) 1 < d)
    let exc := s.conv.exceed + b2n past
    let cnt := s.fld ADCC.ROTSTAT 12 0 + 1
    let s1 := (s.setFld ADCC.ROTSTAT 12 0 cnt).wr ADCC.ROTEXC
      (Word.ofNat (max (s.fld ADCC.ROTEXC 31 16) (min d 65535) * 65536 + min exc 255))
    let s2 := { s1 with conv := { s1.conv with exceed := exc } }
    if cnt < 4096 then s2
    else if exc ≤ s.fld ADCC.ROTCFG 15 8 then
      let s3 := s2.endShadow 2
      { s3 with conv := { s3.conv with oldRun := true } }
    else
      let s3 := ((s2.endShadow 0).count ADCC.ROTCNT 15 8 1).irq ADCC.base 1
      { s3 with conv := { s3.conv with freed := s3.conv.freed ++ [s.fld ADCC.ROTSTAT 20 16] } }
  else s

/-! ### The end of a conversion (R187-R191) -/

/-- The result register after a conversion (R189). -/
def resultWord (ovr merged clip : Bool) (e seq : Nat) (k : Int) : Word :=
  Word.ofNat (2 ^ 31 + b2n ovr * 2 ^ 30 + b2n merged * 2 ^ 29 + b2n clip * 2 ^ 28 + e % 16 * 2 ^ 24 + seq % 256 * 2 ^ 16 + ofSigned 16 k)

/-- A conversion's result goes into RESULT, with overrun and clip flags, and toward its destination (R189-R191). -/
def State.putResult (s : State) (n e : Nat) (k : Int) (clip : Bool) : State :=
  let p := s.cpos n
  let ovr := s.bit (CV.RESULT n) 31
  let s1 := (s.wr (CV.RESULT n) (resultWord ovr p.merged clip e (s.fld (CV.RUNCNT n) 7 0) k)).updPos n
    (fun q => { q with last := tabSet q.last e (ofSigned 16 k) })
  let s2 := if ovr then ((s1.setBit (CV.STAT n) 0 true).irq (CV.base n) 0).count (CV.OVRCNT n) 31 0 1 else s1
  let s3 := if clip then (s2.setBit (CV.STAT n) 4 true).irq (CV.base n) 4 else s2
  if tb p.fieldsB 31 then
    s3.updPos n (fun q => { q with dest := some (bitsOf p.fieldsB 19 16, bitsOf p.fieldsB 10 8, bitsOf p.fieldsB 3 0) })
  else (s3.updPos n (fun q => { q with dest := none })).irq (CV.base n) 5

/-- A run of position `n` has ended: after a pass decision, the run that was in progress at it is over (R195). -/
def State.runOver (s : State) (n : Nat) : State := if s.handoverDue n then { s with conv := { s.conv with oldRun := false } } else s

/-- The pending run starts on the edge that ends the run (R187), or the position rests. After a pass decision the successor of the
run then in progress stays on the old unit, and any later run is the spare unit's (R195). -/
def State.startPending (s : State) (n : Nat) (pend : Option (Nat × Bool)) : State :=
  match pend with
  | some (g, m) => ((if s.handoverDue n ∧ s.conv.oldRun then s.runOver n else s.boundary n)).startRun n g m true
  | none => (s.runOver n).setBit (CV.STAT n) 8 false

/-- What follows a conversion: the run's next entry, the pending run, or rest (R185, R187). -/
def State.advanceRun (s : State) (n e : Nat) : State :=
  match s.nextEntry n (s.cpos n).groups (e + 1) with
  | some k => s.acquire n k
  | none => (s.updPos n (fun p => { p with cur := none, pend := none })).startPending n (s.cpos n).pend

/-- The end of a conversion at position `n` (R188, R189). After a disable the result is discarded; a trigger taken since a new
enable has waited for this end (R187). DESIGN CHOICE (notes/assumptions/87.md): R193 does not say whether a discarded conversion
counts as compared; it does not. -/
def conversionEnd (s : State) (n : Nat) (vin vinSpare : Int) : State :=
  match (s.cpos n).cur with
  | none => s
  | some e =>
    let p := s.cpos n
    if p.discard then
      (s.updPos n (fun q => { q with cur := none, pend := none, discard := false })).startPending n p.pend
    else
      let k := convResult p.fieldsA vin
      let s1 := s.putResult n e k (convClips p.fieldsA vin)
      (s1.shadowCompare n k (convResult p.fieldsA vinSpare)).advanceRun n e

/-- CONVERSION_END (R189): nothing happens at a position that converts nothing. -/
def execConversionEnd (n : Nat) (vin vinSpare : Int) (s : State) : Out := .next (s.clocked .adc (fun s => conversionEnd s n vin vinSpare))

/-! ### The result is read (R189-R191) -/

/-- The push word: RESULT with NEW set to 0 (R190). -/
def pushWord (s : State) (n : Nat) : Word := putBits (s.shown (CV.RESULT n)) 31 31 0

/-- RESULT_PUSH (R190): the pusher takes a new result with a destination, once it has a coin, and issues it as a LOOP slip
to the loop program's input slot. DESIGN CHOICE (notes/assumptions/88.md): R189 and R190 do not say whether a read of RESULT that
comes first cancels the push; the result then counts as read, and nothing is pushed. -/
def execResultPush (n cycle : Nat) (s : State) : Out :=
  .next (s.clocked .adc (fun s => s.clocked .fab (fun s => match (s.cpos n).dest with
    | none => s
    | some (t, i, k) =>
      if n < 26 ∧ s.bit (CV.RESULT n) 31 ∧ s.en (CV.base n) ∧ !s.coinStall n then
        ((s.setBit (CV.RESULT n) 31 false).updPos n (fun p => { p with dest := none })).issue
          { init := n, addr := s.slotAddr t i k, write := true, bytes := leBytes 4 (pushWord s n).toNat, cycle := cycle }
      else s)))

/-- A read of RESULT returns it and clears NEW (R189). -/
def resultReadApply (init n : Nat) (s : State) : State :=
  (s.setBit (CV.RESULT n) 31 false).respond init (CV.RESULT n) (s.shown (CV.RESULT n))

/-- RESULT_READ (R189). -/
def execResultRead (init n : Nat) (s : State) : Out :=
  .next (s.readAt .adc (CV.base (n % 26)) init (CV.RESULT (n % 26)) (resultReadApply init (n % 26)))

/-! ### Configuration writes -/

/-- Position `n` accepts an INSEL value (R178). -/
def inselOk (n v : Nat) : Bool :=
  (if 24 ≤ n then decide (v < 72) else decide (3 * n ≤ v) && decide (v ≤ 3 * n + 2)) || (decide (0x48 ≤ v) && decide (v ≤ 0x4C))

/-- A write to an ENTRY register (R178, R188, R193). -/
def entryApply (init n k : Nat) (b : Bool) (data : Word) (s : State) : State :=
  let a := if b then CV.ENTRY_B n k else CV.ENTRY_A n k
  if !b && !inselOk n (bitsOf data 6 0) then s.errorResp init a .refused true
  else
    let s1 := s.plainWrite init a data
    if s1.bus.resp.cause = 0 ∧ s1.fld ADCC.ROTSTAT 31 30 = 1 ∧ s1.fld ADCC.ROTSTAT 28 24 = n then s1.setFld ADCC.ROTSTAT 12 0 0
    else s1

/-- ENTRY_WRITE (R188). -/
def execEntryWrite (init n k : Nat) (b : Bool) (data : Word) (s : State) : Out :=
  let a := if b then CV.ENTRY_B (n % 26) (k % 16) else CV.ENTRY_A (n % 26) (k % 16)
  .next (s.writeAt .adc (CV.base (n % 26)) init a data (entryApply init (n % 26) (k % 16) b data))

/-- A write to CTRL of a converter page, SOFT_RST aside: 0 discards the run in progress and any pending run (R188); 1 is
refused at a spare position while rotation runs (R192) and at a position without a unit (R467). DESIGN CHOICE
(notes/assumptions/89.md): R188 does not say what becomes of a completed result that waits for its push at the disable; it stays
in RESULT and loses its destination. -/
def convCtrlWrite (init n : Nat) (data : Word) (s : State) : State :=
  if tb data 0 then
    if (24 ≤ n ∧ s.bit ADCC.ROTCFG 31) ∨ s.bit HEALTH.RETIRED0 (s.fld (CV.STAT n) 24 20) then s.errorResp init (CV.base n + 0x0C) .refused true
    else (s.setBit (CV.base n + 0x0C) 0 true).respond init (CV.base n + 0x0C) 0
  else
    let s1 := s.setBit (CV.base n + 0x0C) 0 false
    let s2 := s1.updPos n (fun p => { p with pend := none, dest := none, discard := p.cur.isSome })
    s2.respond init (CV.base n + 0x0C) 0

/-- CONVERTER_DISABLE (R188). -/
def execConverterDisable (init n : Nat) (s : State) : Out :=
  .next (s.writeAt .adc (CV.base (n % 26)) init (CV.base (n % 26) + 0x0C) 0 (convCtrlWrite init (n % 26) 0))

/-- A write to ADCC.ROTCFG (R192): EN is refused while a spare position is enabled; clearing it ends a shadow, whose unit
goes back to the pool. -/
def rotcfgApply (init : Nat) (data : Word) (s : State) : State :=
  if tb data 31 && (s.en (CV.base 24) || s.en (CV.base 25)) then s.errorResp init ADCC.ROTCFG .refused true
  else
    let s1 := s.plainWrite init ADCC.ROTCFG data
    if s1.bus.resp.cause = 0 ∧ !tb data 31 ∧ s1.fld ADCC.ROTSTAT 31 30 ≠ 0 then
      let s2 := s1.endShadow 0
      { s2 with conv := { s2.conv with released := s2.conv.released ++ [s1.fld ADCC.ROTSTAT 20 16] } }
    else s1

/-- CONVERTER_ROTCFG_WRITE (R192). -/
def execConverterRotcfgWrite (init : Nat) (data : Word) (s : State) : Out :=
  .next (s.writeAt .adc ADCC.base init ADCC.ROTCFG data (rotcfgApply init data))

/-! ### Rotation events (R193-R196) -/

/-- CONVERTER_SHADOW_START (R193): the released unit of a spare position begins to shadow position `p`; rotation skips a
disabled position (R196). -/
def execConverterShadowStart (spare p : Nat) (s : State) : Out :=
  .next (s.clocked .adc (fun s =>
    let u := s.fld (CV.STAT spare) 24 20
    if s.bit ADCC.ROTCFG 31 ∧ s.fld ADCC.ROTSTAT 31 30 = 0 ∧ (spare = 24 ∨ spare = 25) ∧ p < 24 ∧ s.en (CV.base p) ∧
        s.conv.released.contains u ∧ s.conv.chosen = some (spare, p) then
      let s1 := ((s.wr ADCC.ROTSTAT (Word.ofNat (2 ^ 30 + p * 2 ^ 24 + u * 2 ^ 16))).wr ADCC.ROTEXC 0).setBit (CV.STAT p) 9 true
      { s1 with conv := { s1.conv with
          exceed := 0, released := s1.conv.released.erase u, chosen := none, rots := (none :: s1.conv.rots).take 16 } }
    else s))

/-- CONVERTER_HANDOVER (R195): after a pass, at a sequence boundary, the spare unit takes the position over. -/
def execConverterHandover (s : State) : Out :=
  .next (s.clocked .adc (fun s =>
    if s.fld ADCC.ROTSTAT 31 30 = 2 ∧ (s.cpos (s.fld ADCC.ROTSTAT 28 24)).cur = none then s.handover else s))

/-- CONVERTER_SHADOW_ABANDON (R196): a shadow that has not reached 4,096 conversions in time ends without a hand-over. -/
def execConverterShadowAbandon (s : State) : Out :=
  .next (s.clocked .adc (fun s =>
    if s.fld ADCC.ROTSTAT 31 30 = 1 then
      let s1 := ((s.endShadow 0).count ADCC.ROTCNT 7 0 1).irq ADCC.base 2
      { s1 with conv := { s1.conv with
          released := s1.conv.released ++ [s.fld ADCC.ROTSTAT 20 16],
          rots := some (s.fld ADCC.ROTSTAT 28 24) :: s1.conv.rots.drop 1 } }
    else s))

end Sys2Proof.Machine
end

