-- ==== Sys2Proof/Machine/Gate.lean ====
section
/-!
DEFINITION. The gate unit (chapter 9, R222-R239): command path with interlock and off causes, faults with blanking, retry and
lock-out, escalation, group enable and shutdown, UVLO. The commands of half-bridge n come from generator PWMn; instants are
units of 62.5 ps and `State.now` is the instant at which an operation happens.
-/
namespace Sys2Proof.Machine

abbrev GATE.STAT (g : Nat) : Nat := GATE.base g + 0x10
abbrev GATE.GCFG (g : Nat) : Nat := GATE.base g + 0x40
abbrev GATE.SDCFG (g : Nat) : Nat := GATE.base g + 0x44
abbrev GATE.RETRYCFG (g : Nat) : Nat := GATE.base g + 0x48
abbrev GATE.UVCFG (g : Nat) : Nat := GATE.base g + 0x4C
abbrev GATE.SHOOTCNT (g : Nat) : Nat := GATE.base g + 0x50
/-- HBCTLj of half-bridge n. -/
abbrev HBCTL (n : Nat) : Nat := GATE.base (n / 4) + 0x70 + 4 * (n % 4)
/-- HBSTATj of half-bridge n. -/
abbrev HBSTAT (n : Nat) : Nat := GATE.base (n / 4) + 0x80 + 4 * (n % 4)
/-- UVRPTj of half-bridge n. -/
abbrev UVRPT (n : Nat) : Nat := GATE.base (n / 4) + 0x90 + 4 * (n % 4)

/-- 1 µs in units of 62.5 ps. -/
abbrev usUnits : Nat := 16000

/-- Half-bridge `n` at the gate unit. -/
def State.hb (s : State) (n : Nat) : GateHb := nth {} s.gate n

/-- Change half-bridge `n`. -/
def State.updHb (s : State) (n : Nat) (f : GateHb → GateHb) : State := { s with gate := upd s.gate n f }

/-- HBSTATj.STATE: 0 Disabled, 1 Run, 2 fault wait, 3 lock-out. -/
def State.hbState (s : State) (n : Nat) : Nat := s.fld (HBSTAT n) 30 28

/-- The group of half-bridge `n` is in pulse-and-enable mode (R223). -/
def State.pulseEnable (s : State) (n : Nat) : Bool := s.bit (GATE.GCFG (n / 4)) 0

/-- An enabled fault source of half-bridge `n` is active (SRC_ACT). -/
def State.srcActive (s : State) (n : Nat) : Bool :=
  (s.bit (HBCFG n) 31 && (s.hb n).flt) || (s.bit (HBCFG n) 30 && s.line (s.fld (HBCFG n) 27 22))

/-- No off cause of R226 but the commands' own holds ball GA (or GB where `b`) of half-bridge `n` low. -/
def State.gateOk (s : State) (n : Nat) (b : Bool) : Bool :=
  let st := s.hbState n
  !s.rst.veto && s.bit (GATE.STAT (n / 4)) 8 && (b || !s.bit (GATE.STAT (n / 4)) 9) &&
  (st == 1 || (st == 2 && !s.bit (HBSTAT n) (if b then 23 else 22))) &&
  !s.bit (HBSTAT n) 27 && !(s.hb n).mism && !(s.hb n).vetoed

/-- The opposite ball has been low for the interlock time (R224). -/
def ilkClear (fell : Option Nat) (ilk now : Nat) : Bool :=
  match fell with
  | none => true
  | some t => decide (t + ilk ≤ now)

/-- A half-bridge after it sees commands `a`, `b` at instant `now`: `okA` and `okB` say that no off cause acts, `pe` is the
group mode, `ilk` and `blank` are the interlock and the blanking window in units (R222-R228). -/
def GateHb.next (h : GateHb) (okA okB pe a b : Bool) (ilk blank now : Nat) : GateHb :=
  let shoot := h.shoot && (a || b)
  let both := !pe && a && b
  let okA := okA && !shoot && !both
  let okB := okB && !shoot && !both
  let riseA := a && !h.cmdA
  let riseB := b && !h.cmdB
  let edge := pe && (riseA || riseB)
  let needA := if okA then h.needA && !riseA && !edge else true
  let needB := if okB then h.needB && !riseB && !edge else true
  let wantA := a && okA && !needA
  let wantB := b && okB && !needB
  let fallA := h.ballA && !wantA
  let fallB := h.ballB && !wantB
  let fellA := if fallA then some now else h.fellA
  let fellB := if fallB then some now else h.fellB
  let riseGA := wantA && !h.ballA && (pe || (!(h.ballB && wantB) && ilkClear fellB ilk now))
  let riseGB := wantB && !h.ballB && (pe || (!(h.ballA && wantA) && !riseGA && ilkClear fellA ilk now))
  let turnOn := riseGA || riseGB || (pe && fallA)
  { h with
    cmdA := a, cmdB := b, shoot := shoot, needA := needA, needB := needB,
    ballA := (h.ballA && wantA) || riseGA, ballB := (h.ballB && wantB) || riseGB,
    fellA := fellA, fellB := fellB,
    last := if fallA then 1 else if fallB then 2 else h.last,
    high := h.high || riseGA || riseGB,
    blankEnd := if turnOn then now + blank else h.blankEnd,
    blankOpen := h.blankOpen || turnOn,
    saveBlank := if turnOn then h.blankEnd else h.saveBlank,
    saveOpen := if turnOn then h.blankOpen else h.saveOpen,
    saveHigh := if riseGA || riseGB then h.high else h.saveHigh,
    fellCmdB := h.fellCmdB || (h.cmdB && !b) }

/-- Half-bridge `n` sees commands `a` and `b`. -/
def State.hbEval (s : State) (n : Nat) (a b : Bool) : State :=
  s.updHb n (fun h => h.next (s.gateOk n false) (s.gateOk n true) (s.pulseEnable n) a b
    (s.fld (GATE.GCFG (n / 4)) 15 8 * 32) (s.fld (HBCFG n) 21 12 * 64) s.now)

/-- Half-bridge `n` sees its standing commands under the off causes as they are now. -/
def State.hbRefresh (s : State) (n : Nat) : State := s.hbEval n (s.hb n).cmdA (s.hb n).cmdB

/-- Every half-bridge of group `g`. -/
def State.groupRefresh (s : State) (g : Nat) : State :=
  (((s.hbRefresh (4 * g)).hbRefresh (4 * g + 1)).hbRefresh (4 * g + 2)).hbRefresh (4 * g + 3)

/-! ### Faults, retry and lock-out (R229-R233) -/

/-- STATE of half-bridge `n` becomes `st`. -/
def State.setHbState (s : State) (n st : Nat) : State := s.setFld (HBSTAT n) 30 28 st

/-- The switches a fault affects (R229): 1 high side or GA, 2 low side or GB, 3 both. -/
def State.affectedBy (s : State) (n : Nat) : Nat :=
  let h := s.hb n
  if s.pulseEnable n then 3 else if h.ballA then 1 else if h.ballB then 2 else if !h.high ∨ h.last = 0 then 3 else h.last

/-- Half-bridge `n` enters lock-out (R230, R233). -/
def State.lockOut (s : State) (n : Nat) : State :=
  ((s.setHbState n 3).irq (GATE.base (n / 4)) (4 + n % 4)).updHb n (fun h => { h with locked := true, fellCmdB := false })

/-- The wait of RETRYCFG in units; 0 is taken as 1 µs. -/
def State.retryWait (s : State) (n : Nat) : Nat := max (s.fld (GATE.RETRYCFG (n / 4)) 31 16) 1 * usUnits

/-- Half-bridge `n` is put into the lock-out of an escalation, when it is in Run, fault wait or lock-out (R233). -/
def State.escalateOne (s : State) (n : Nat) : State :=
  let st := s.hbState n
  if st = 1 ∨ st = 2 then ((s.lockOut n).setFld (HBSTAT n) 18 16 4).updHb n (fun h => { h with esc := true })
  else if st = 3 then s.updHb n (fun h => { h with esc := true })
  else s

/-- Escalation of group `g` (R233). -/
def State.escalate (s : State) (g : Nat) : State :=
  let s1 := (((s.escalateOne (4 * g)).escalateOne (4 * g + 1)).escalateOne (4 * g + 2)).escalateOne (4 * g + 3)
  ((s1.setBit (GATE.STAT g) 11 true).irq (GATE.base g) 17).groupRefresh g

/-- Another half-bridge of the group of `n` took a fault within ESC_WIN (R233). -/
def State.escalates (s : State) (n : Nat) : Bool :=
  let cfg := s.shown (GATE.GCFG (n / 4))
  let win := max (bitsOf cfg 23 16) 1 * usUnits
  tb cfg 31 && (List.range 4).any (fun j =>
    decide (j ≠ n % 4) && (match (s.hb (4 * (n / 4) + j)).faultAt with
      | some t => decide (s.now ≤ t + win)
      | none => false))

/-- The gate unit takes a fault on half-bridge `n` (R229, R230): only in Run or fault wait. -/
def State.takeFault (s : State) (n cause aff : Nat) : State :=
  let st := s.hbState n
  if st ≠ 1 ∧ st ≠ 2 then s
  else
    let used := st = 2 ∧ (s.hb n).faultAt = some (s.now - s.retryWait n) ∧ s.retryWait n ≤ s.now
    let try_ := s.fld (HBSTAT n) 21 19 + (if used then 1 else 0)
    let both := if st = 2 then aff ||| s.fld (HBSTAT n) 23 22 else aff
    let s1 := (((s.count (HBSTAT n) 7 0 1).setFld (HBSTAT n) 18 16 cause).setFld (HBSTAT n) 23 22 both).setFld (HBSTAT n) 21 19 (min try_ 7)
    let s2 := s1.irq (GATE.base (n / 4)) (n % 4)
    let s3 := if try_ < s.fld (GATE.RETRYCFG (n / 4)) 2 0 then s2.setHbState n 2 else s2.lockOut n
    let esc := s3.escalates n
    let s4 := s3.updHb n (fun h => { h with faultAt := some s.now, fltHeld := h.flt, ocHeld := s.line (s.fld (HBCFG n) 27 22) })
    (if esc then s4.escalate (n / 4) else s4).hbRefresh n

/-- Half-bridge `n` enters Run (R229-R232). -/
def State.enterRun (s : State) (n : Nat) : State :=
  ((s.setHbState n 1).setFld (HBSTAT n) 23 22 0).updHb n (fun h => { h with high := h.ballA || h.ballB })

/-- The release of half-bridge `n` from lock-out (R231-R233): TRY 0, and ESCALATED clears with the last one of its group. -/
def State.release (s : State) (n : Nat) : State :=
  let s1 := (s.updHb n (fun h => { h with locked := false, esc := false })).setFld (HBSTAT n) 21 19 0
  let g := n / 4
  let left := (List.range 4).any (fun j => (s1.hb (4 * g + j)).esc)
  (if left then s1 else s1.setBit (GATE.STAT g) 11 false).enterRun n

/-- A refused release (R232). -/
def State.releaseRefused (s : State) (n : Nat) : State := (s.setBit (GATE.STAT (n / 4)) 1 true).irq (GATE.base (n / 4)) 18

/-- The rising edge of command B that releases a lock-out in pulse-and-enable mode, or is ignored (R232). -/
def State.releaseByB (s : State) (n : Nat) (b : Bool) : State :=
  let h := s.hb n
  if s.hbState n = 3 ∧ s.pulseEnable n ∧ b ∧ !h.cmdB ∧ h.fellCmdB ∧ s.bit (HBCTL n) 0 then
    if s.srcActive n then s.releaseRefused n else s.release n
  else s

/-- Both commands of half-bridge `n` are high in direct mode (R225): both balls go low and stay so until both commands have been low,
and SHOOT_ACT takes a fault on both switches. -/
def State.bothOn (s : State) (n : Nat) : State :=
  let g := n / 4
  let s1 := (s.updHb n (fun h => { h with shoot := true })).hbEval n true true
  let s2 := ((s1.setBit (GATE.STAT g) 0 true).irq (GATE.base g) (12 + n % 4)).count (GATE.SHOOTCNT g) 31 0 1
  if s2.bit (HBCFG n) 28 then s2.takeFault n 3 3 else s2

/-- Half-bridge `n` sees commands `a` and `b`; in direct mode both at once are refused (R225). -/
def State.hbCommand (s : State) (n : Nat) (a b : Bool) : State :=
  if a && b && !s.pulseEnable n && !(s.hb n).shoot then s.bothOn n else s.hbEval n a b

/-- The commands of generator PWMn at the gate unit become `a` and `b` (R222). -/
def State.gateDrive (s : State) (n : Nat) (a b : Bool) : State := (s.releaseByB n b).hbCommand n a b

/-- A pulse shorter than 4 ns was removed at the output stage (R200): the ball and what the pulse had changed go back. -/
def State.gateRemovePulse (s : State) (n : Nat) (b : Bool) : State :=
  s.updHb n (fun h => { h with
    cmdA := if b then h.cmdA else false, cmdB := if b then false else h.cmdB,
    ballA := if b then h.ballA else false, ballB := if b then false else h.ballB,
    blankEnd := h.saveBlank, blankOpen := h.saveOpen, high := h.saveHigh })

/-- The modes of generator and group are compared (R223). -/
def State.modeCheck (s : State) (n : Nat) : State :=
  let mm := s.bit (PWM.base n + 0x90) 0 != s.pulseEnable n
  let s1 := if mm && !(s.hb n).mism then (s.setBit (GATE.STAT (n / 4)) 2 true).irq (GATE.base (n / 4)) 19 else s
  let s2 := s1.updHb n (fun h => { h with mism := mm })
  s2.hbCommand n (s2.hb n).cmdA (s2.hb n).cmdB

/-- INTERLOCK_EXPIRY (R224): at instant `at_` the opposite ball has been low for the interlock time. -/
def execInterlockExpiry (n at_ : Nat) (s : State) : Out :=
  .next (s.clocked .pwm (fun s => if n < 48 then (s.atTime at_).hbRefresh n else s))

/-- BOTH_ON_COMMAND (R225): both commands are high at the gate unit's input, whatever the generator drives. -/
def execBothOnCommand (n at_ : Nat) (s : State) : Out :=
  .next (s.clocked .pwm (fun s =>
    if n < 48 ∧ !s.pulseEnable n ∧ !(s.hb n).shoot then (s.atTime at_).bothOn n else s))

/-- HBn_FLT_N goes low, or high again (R228, R229): an enabled ball that goes low outside a blanking window takes a fault. -/
def State.faultBall (s : State) (n : Nat) (low : Bool) : State :=
  if (s.hb n).flt == low then s
  else
    let s1 := s.updHb n (fun h => { h with flt := low, fltHeld := false })
    if low ∧ s1.bit (HBCFG n) 31 ∧ (s1.hb n).blankEnd ≤ s1.now then s1.takeFault n 1 (s1.affectedBy n) else s1

/-- FAULT_BALL_ASSERT (R228, R229): the gate unit, on CLK_PWM, sees HBn_FLT_N at a new level. -/
def execFaultBallAssert (n at_ : Nat) (low : Bool) (s : State) : Out :=
  .next (s.clocked .pwm (fun s => if n < 48 then (s.atTime at_).faultBall n low else s))

/-- OVERCURRENT_ASSERT (R228, R229): the enabled overcurrent line is at 1; it is never blanked. In fault wait a line that has stayed 1
since the fault being waited on takes no further one. -/
def execOvercurrentAssert (n at_ : Nat) (s : State) : Out :=
  .next (s.clocked .pwm (fun s =>
    let s1 := s.atTime at_
    if n < 48 ∧ s1.bit (HBCFG n) 30 ∧ s1.line (s1.fld (HBCFG n) 27 22) ∧ !(s1.hbState n == 2 && (s1.hb n).ocHeld) then
      s1.takeFault n 2 (s1.affectedBy n)
    else s1))

/-- BLANKING_WINDOW_END (R228): the window ends with the ball still asserted; in fault wait a ball asserted since the fault
being waited on takes no further one. -/
def execBlankingWindowEnd (n at_ : Nat) (s : State) : Out :=
  .next (s.clocked .pwm (fun s =>
    let s1 := s.atTime at_
    let h := s1.hb n
    if n < 48 ∧ h.blankOpen ∧ h.blankEnd ≤ s1.now then
      let s2 := s1.updHb n (fun h => { h with blankOpen := false })
      if s1.bit (HBCFG n) 31 ∧ h.flt ∧ !(s1.hbState n == 2 && h.fltHeld) then s2.takeFault n 1 (s2.affectedBy n) else s2
    else s1))

/-- The wait of half-bridge `n` ends (R230): TRY increments and the switch is released, or a new fault is taken on the switches held
off. -/
def State.waitEnd (s : State) (n : Nat) : State :=
  let s2 := (s.count (HBSTAT n) 21 19 1).updHb n (fun h => { h with faultAt := if s.srcActive n then none else h.faultAt })
  if s.srcActive n then
    s2.takeFault n (if s.bit (HBCFG n) 31 && (s.hb n).flt then 1 else 2) (s.fld (HBSTAT n) 23 22)
  else (s2.enterRun n).hbRefresh n

/-- RETRY_WAIT_END (R230): the wait has run from the instant the fault was taken. -/
def execRetryWaitEnd (n at_ : Nat) (s : State) : Out :=
  .next (s.clocked .pwm (fun s => if n < 48 ∧ s.hbState n = 2 then (s.atTime at_).waitEnd n else s.atTime at_))

/-- TRY_RESET_TIMER (R231): TRY returns to 0 after 16 waits in Run without a fault. -/
def execTryResetTimer (n : Nat) (s : State) : Out :=
  .next (s.clocked .pwm (fun s => if n < 48 ∧ s.hbState n = 1 then s.setFld (HBSTAT n) 21 19 0 else s))

/-- A write to HBCTLj (R231, R232). -/
def hbctlWrite (init n : Nat) (data : Word) (s : State) : State :=
  let a := HBCTL n
  let was := s.bit a 0
  if tb data 0 then
    if was then (s.setFld (HBSTAT n) 21 19 0).respond init a 0
    else if (s.hb n).locked then
      if s.srcActive n then (s.releaseRefused n).errorResp init a .refused true
      else (((s.setBit a 0 true).release n).hbRefresh n).respond init a 0
    else ((((s.setBit a 0 true).setFld (HBSTAT n) 21 19 0).enterRun n).hbRefresh n).respond init a 0
  else if was then
    ((((s.setBit a 0 false).setHbState n 0).setFld (HBSTAT n) 23 22 0).hbRefresh n).respond init a 0
  else s.respond init a 0

/-- HB_ENABLE (R232): half-bridge n; the write is applied at instant `tick`. -/
def execHbEnable (init n tick : Nat) (s : State) : Out :=
  .next (s.writeAt .pwm (GATE.base (n % 48 / 4)) init (HBCTL (n % 48)) 1 (fun t => hbctlWrite init (n % 48) 1 (t.atTime tick)) tick)

/-- HB_DISABLE (R232). -/
def execHbDisable (init n tick : Nat) (s : State) : Out :=
  .next (s.writeAt .pwm (GATE.base (n % 48 / 4)) init (HBCTL (n % 48)) 0 (fun t => hbctlWrite init (n % 48) 0 (t.atTime tick)) tick)

/-! ### Group enable and shutdown (R234-R236) -/

/-- At a group enable in pulse-and-enable mode a command B that is already high counts as a rising edge (R227). -/
def State.enableHb (s : State) (n : Nat) : State :=
  let b := s.pulseEnable n && s.hbState n == 1 && (s.hb n).cmdB && s.gateOk n true
  ((s.updHb n (fun h => { h with needB := h.needB && !b })).hbRefresh n)

/-- Firmware's enable lets half-bridge `n` switch again after a veto (R32). -/
def State.unveto (s : State) (n : Nat) : State := s.updHb n (fun h => { h with vetoed := false })

/-- Group `g` drives its balls (R235). -/
def State.groupEnable (s : State) (g : Nat) : State :=
  let s1 := ((((s.setBit (GATE.STAT g) 8 true).unveto (4 * g)).unveto (4 * g + 1)).unveto (4 * g + 2)).unveto (4 * g + 3)
  (((s1.enableHb (4 * g)).enableHb (4 * g + 1)).enableHb (4 * g + 2)).enableHb (4 * g + 3)

/-- Phase 3 of a shutdown ends (R234, R235). -/
def State.shutPhase3 (s : State) (g : Nat) : State :=
  let s1 := (s.setBit (GATE.STAT g) 9 false).irq (GATE.base g) 20
  if s1.bit (GATE.STAT g) 10 then (s1.setBit (GATE.STAT g) 10 false).groupEnable g else s1

/-- Phase 2 of a shutdown: every GB low. With SD_MINOFF 0 phase 3 ends on the same edge. -/
def State.shutPhase2 (s : State) (g : Nat) : State :=
  let s1 := (s.setBit (GATE.STAT g) 8 false).groupRefresh g
  if s1.fld (GATE.SDCFG g) 7 0 = 0 then s1.shutPhase3 g else s1

/-- Phase 1 of a shutdown: every GA low. With SD_DELAY 0 (always in version 1) phase 2 falls on the same edge. -/
def State.shutPhase1 (s : State) (g : Nat) : State :=
  let s1 := (s.setBit (GATE.STAT g) 9 true).groupRefresh g
  if bitsOf (s1.shown (GATE.SDCFG g)) 31 16 = 0 then s1.shutPhase2 g else s1

/-- SHUTDOWN_PHASE2 (R234). -/
def execShutdownPhase2 (g at_ : Nat) (s : State) : Out :=
  .next (s.clocked .pwm (fun s =>
    if g < 12 ∧ s.bit (GATE.STAT g) 9 ∧ s.bit (GATE.STAT g) 8 then (s.atTime at_).shutPhase2 g else s))

/-- SHUTDOWN_PHASE3 (R234). -/
def execShutdownPhase3 (g at_ : Nat) (s : State) : Out :=
  .next (s.clocked .pwm (fun s =>
    if g < 12 ∧ s.bit (GATE.STAT g) 9 ∧ !s.bit (GATE.STAT g) 8 then (s.atTime at_).shutPhase3 g else s))

/-- Everything of group `g` back at reset (R142, R239): the commands at its input and its fault balls stand. -/
def State.gateWipe (s : State) (g : Nat) : State :=
  let keep := fun (h : GateHb) => ({ cmdA := h.cmdA, cmdB := h.cmdB, flt := h.flt, fellA := h.fellA, fellB := h.fellB } : GateHb)
  let b := GATE.base g
  let s1 := (((s.dropRegs (b + 0x40) (b + 0xFFF)).wr (b + 0x10) 0).wr (b + 0x14) 0).setBit (b + 0x0C) 0 false
  let s2 := (((s1.updHb (4 * g) keep).updHb (4 * g + 1) keep).updHb (4 * g + 2) keep).updHb (4 * g + 3) keep
  (((s2.modeCheck (4 * g)).modeCheck (4 * g + 1)).modeCheck (4 * g + 2)).modeCheck (4 * g + 3)

/-- The group is driving or shutting down, or an enable is pending. -/
def State.groupBusy (s : State) (g : Nat) : Bool :=
  s.bit (GATE.STAT g) 8 || s.bit (GATE.STAT g) 9 || s.bit (GATE.STAT g) 10

/-- A write of 0 to CTRL.EN of group `g` (R234, R235). -/
def State.groupOff (s : State) (g : Nat) : State :=
  let s1 := s.setBit (GATE.base g + 0x0C) 0 false
  if s1.bit (GATE.STAT g) 10 then s1.setBit (GATE.STAT g) 10 false
  else if s1.bit (GATE.STAT g) 8 && !s1.bit (GATE.STAT g) 9 then s1.shutPhase1 g
  else s1

/-- A write of 1 to CTRL.EN of group `g` (R235). -/
def State.groupOn (s : State) (g : Nat) : State :=
  let s1 := s.setBit (GATE.base g + 0x0C) 0 true
  if s1.bit (GATE.STAT g) 10 || (s1.bit (GATE.STAT g) 8 && !s1.bit (GATE.STAT g) 9) then s1
  else if s1.bit (GATE.STAT g) 9 then s1.setBit (GATE.STAT g) 10 true
  else s1.groupEnable g

/-- A write to CTRL of GATEg (R142, R234-R236). -/
def gateCtrlWrite (init g : Nat) (data : Word) (s : State) : State :=
  let a := GATE.base g + 0x0C
  if tb data 1 then
    if s.groupBusy g then
      (if s.bit (GATE.STAT g) 8 && !s.bit (GATE.STAT g) 9 && !tb data 0 then s.groupOff g else s).errorResp init a .refused true
    else if tb data 0 || s.locked (GATE.base g) then s.errorResp init a .refused true
    else
      let s1 := s.gateWipe g
      { s1 with bus := { s1.bus with softRst := s1.bus.softRst ++ [GATE.base g] } }.respond init a 0
  else if tb data 0 then
    if s.rst.veto then s.errorResp init a .refused true else (s.groupOn g).respond init a 0
  else (s.groupOff g).respond init a 0

/-- GATE_GROUP_ENABLE (R235, R236): a write of 1 to CTRL.EN of GATEg, applied at instant `tick`. -/
def execGateGroupEnable (init g tick : Nat) (s : State) : Out :=
  .next (s.writeAt .pwm (GATE.base (g % 12)) init (GATE.base (g % 12) + 0x0C) 1
    (fun t => (gateCtrlWrite init (g % 12) 1 (t.atTime tick)).takesBalls (GATE.base (g % 12)) 1) tick)

/-- GATE_GROUP_DISABLE (R234): a write of 0 to CTRL.EN of GATEg, applied at instant `tick`. -/
def execGateGroupDisable (init g tick : Nat) (s : State) : Out :=
  .next (s.writeAt .pwm (GATE.base (g % 12)) init (GATE.base (g % 12) + 0x0C) 0
    (fun t => gateCtrlWrite init (g % 12) 0 (t.atTime tick)) tick)

/-- Half-bridge `n` does not switch until firmware enables its group (R32, R226). -/
def State.vetoHb (s : State) (n : Nat) : State := s.updHb n (fun h => { h with vetoed := true })

/-- The gate unit sees the veto at group `g` (R236). -/
def State.vetoGroup (s : State) (g : Nat) : State :=
  let s0 := (((s.vetoHb (4 * g)).vetoHb (4 * g + 1)).vetoHb (4 * g + 2)).vetoHb (4 * g + 3)
  let s1 := (s0.setBit (GATE.base g + 0x0C) 0 false).setBit (GATE.STAT g) 10 false
  (if s1.bit (GATE.STAT g) 8 && !s1.bit (GATE.STAT g) 9 then s1.shutPhase1 g else s1).groupRefresh g

/-- GATE_VETO is asserted (R31, R32, R236): every ball low without any clock, every group disabled, every pending enable discarded.
While CLK_PWM is stopped the pages cannot be seen, so the gate unit's own reaction is not delayed here. -/
def State.assertVeto (s : State) : State :=
  (List.range 12).foldl State.vetoGroup { s with rst := { s.rst with veto := true } }

/-- GATE_VETO_ASSERT (R236). -/
def execGateVetoAssert (at_ : Nat) (s : State) : Out := .next (s.atTime at_).assertVeto

/-! ### Configuration writes -/

/-- A write to GCFG: refused while the group is enabled or shutting down. -/
def gcfgWrite (init g : Nat) (data : Word) (s : State) : State :=
  if s.en (GATE.base g) || s.bit (GATE.STAT g) 9 then s.errorResp init (GATE.GCFG g) .refused true
  else
    let s1 := s.plainWrite init (GATE.GCFG g) data
    (((s1.modeCheck (4 * g)).modeCheck (4 * g + 1)).modeCheck (4 * g + 2)).modeCheck (4 * g + 3)

/-- UVLO acts while UV_EN is 1 (R237), once CLK_PWM runs (R239); its start sets IRQ_RAW.UVLO. -/
def State.uvRefresh (s : State) (n : Nat) : State := s.clocked .pwm (fun s =>
  let on := s.bit (HBCFG n) 29 && (s.hb n).uv
  let s1 := if on && !s.bit (HBSTAT n) 27 then s.irq (GATE.base (n / 4)) (8 + n % 4) else s
  (s1.setBit (HBSTAT n) 27 on).hbRefresh n)

/-- A write to HBCFGj: an OC_SRC beyond PC7 is refused. -/
def hbcfgWrite (init n : Nat) (data : Word) (s : State) : State :=
  if 56 ≤ bitsOf data 27 22 then s.errorResp init (HBCFG n) .refused true
  else (s.plainWrite init (HBCFG n) data).uvRefresh n

/-! ### Gate-supply UVLO (R237, R238) -/

/-- A valid report gives the supplies of half-bridge `n` in units of 25 mV. -/
def State.uvReport (s : State) (n hs ls : Nat) : State :=
  let g := n / 4
  let fall := s.fld (GATE.UVCFG g) 9 0
  let rise := max (s.fld (GATE.UVCFG g) 25 16) fall
  let lowH := decide (hs < fall)
  let lowL := decide (ls < fall)
  let good := if rise ≤ hs ∧ rise ≤ ls then min ((s.hb n).goodRpt + 1) 4 else 0
  let uv := if lowH || lowL then true else if 4 ≤ good then false else (s.hb n).uv
  let s1 := s.wr (UVRPT n) (Word.ofNat (2 ^ 31 + hs % 1024 * 65536 + ls % 1024))
  let s2 := (s1.setBit (HBSTAT n) 26 lowH).setBit (HBSTAT n) 25 lowL
  (s2.updHb n (fun h => { h with uv := uv, goodRpt := good })).uvRefresh n

/-- Reports for half-bridge `n` are lost, or its lane has failed or has only just entered operation (R237). -/
def State.uvLoss (s : State) (n : Nat) : State :=
  (((s.setBit (UVRPT n) 31 false).updHb n (fun h => { h with uv := true, goodRpt := 0 })).uvRefresh n)

end Sys2Proof.Machine
end

