-- ==== Sys2Proof/Machine/Pwm.lean ====
section
/-!
DEFINITION. The edge-timed PWM generators (chapter 8, R197-R221). Instants are units of 62.5 ps; a period's time t is an
instant less the period's start `t0`. Trigger events go to the matrix (R216), outputs A and B to the gate unit (R222).
-/
namespace Sys2Proof.Machine

abbrev PWM.STAT (n : Nat) : Nat := PWM.base n + 0x10
abbrev PWM.LIVE (n k : Nat) : Nat := PWM.base n + 0x40 + 4 * k
abbrev PWM.SH (n k : Nat) : Nat := PWM.base n + 0x60 + 4 * k
abbrev PWM.SHDIRTY (n : Nat) : Nat := PWM.base n + 0x78
abbrev PWM.PER (n : Nat) : Nat := PWM.base n + 0x80
abbrev PWM.DT (n : Nat) : Nat := PWM.base n + 0x84
abbrev PWM.PCNT (n : Nat) : Nat := PWM.base n + 0x8C
abbrev PWM.CFG (n : Nat) : Nat := PWM.base n + 0x90
abbrev PWM.OWNER (n : Nat) : Nat := PWM.base n + 0x94
abbrev PWM.TRIPCFG (n : Nat) : Nat := PWM.base n + 0x98
abbrev PWM.TRIPCTL (n : Nat) : Nat := PWM.base n + 0x9C
abbrev PWM.TRIPSTAT (n : Nat) : Nat := PWM.base n + 0xA0
abbrev PWM.LATECNT (n : Nat) : Nat := PWM.base n + 0xA4
abbrev PWMC.CPEND : Nat := PWMC.base + 0x4C
abbrev PWMC.SYNCIO : Nat := PWMC.base + 0x60

/-- Generator `n`. -/
def State.gen (s : State) (n : Nat) : PwmGen := nth {} s.pwm n

/-- Change generator `n`. -/
def State.updGen (s : State) (n : Nat) (f : PwmGen → PwmGen) : State := { s with pwm := upd s.pwm n f }

/-- A STAT flag and the IRQ_RAW bit of the same number. -/
def State.pwmFlag (s : State) (n i : Nat) : State := (s.setBit (PWM.STAT n) i true).irq (PWM.base n) i

/-- STAT.RUN: the generator has started (R203). -/
def State.pwmRun (s : State) (n : Nat) : Bool := s.bit (PWM.STAT n) 11

/-- CFG as the page's version shows it. -/
def State.pwmCfg (s : State) (n : Nat) : Word := s.shown (PWM.CFG n)

/-- The generator is a follower (CFG.SYNCMODE). -/
def State.follower (s : State) (n : Nat) : Bool := tb (s.pwmCfg n) 3

/-- The active period length. -/
def State.pwmPer (s : State) (n : Nat) : Nat := (s.rd (PWM.PER n)).toNat

/-! ### Outputs A and B (R200-R202, R218, R219) -/

/-- A and B become `a` and `b` now; a high pulse shorter than 64 units is removed at the output stage (R200). -/
def State.pwmOut (s : State) (n : Nat) (a b : Bool) : State :=
  let g := s.gen n
  let s1 := if g.outA && !a && decide (s.now < g.roseA + 64) then s.gateRemovePulse n false else s
  let s2 := if g.outB && !b && decide (s.now < g.roseB + 64) then s1.gateRemovePulse n true else s1
  if a == g.outA && b == g.outB then s
  else
    (s2.updGen n (fun h => { h with
      outA := a, outB := b,
      roseA := if a && !g.outA then s.now else h.roseA, roseB := if b && !g.outB then s.now else h.roseB })).gateDrive n a b

/-- The outputs are forced low: the trip latch is set, or the trip was cleared in this period (R218, R219). -/
def State.pwmForced (s : State) (n : Nat) : Bool := s.bit (PWM.STAT n) 8 || (s.gen n).rest

/-- What an edge of W, now at level `w`, does to the outputs (R201, R202). -/
def State.pwmEdge (s : State) (n : Nat) (w : Bool) : State :=
  if s.pwmForced n then s
  else if tb (s.pwmCfg n) 0 then s.pwmOut n w (s.gen n).outB
  else
    let dt := s.rd (PWM.DT n)
    let d := if w then bitsOf dt 31 16 else bitsOf dt 15 0
    let s1 := s.updGen n (fun h => { h with
      dtA := if w ∧ d ≠ 0 then some (s.now + d) else none, dtB := if !w ∧ d ≠ 0 then some (s.now + d) else none })
    if w then s1.pwmOut n (d = 0) false else s1.pwmOut n false (d = 0)

/-- W takes level `w`: an edge only when it changes (R199). -/
def State.pwmSetW (s : State) (n : Nat) (w : Bool) : State :=
  if (s.gen n).w == w then s else (s.updGen n (fun h => { h with w := w })).pwmEdge n w

/-- DEAD_TIME_EXPIRY (R201): the pending turn-on of A, or of B, is due. -/
def execDeadTimeExpiry (n : Nat) (s : State) : Out :=
  let g := s.gen n
  .next (s.clocked .pwm (fun s => if n < 48 then
    match g.dtA, g.dtB with
    | some t, _ => ((s.atTime t).updGen n (fun h => { h with dtA := none })).pwmOut n true false
    | none, some t => ((s.atTime t).updGen n (fun h => { h with dtB := none })).pwmOut n false true
    | none, none => s
  else s))

/-! ### Edges (R199, R210) -/

/-- The active value of compare `k` (0 CMP_ON, 1 CMP_OFF, 3 ADCCMP; 2 is PHASE). -/
def State.live (s : State) (n k : Nat) : Nat := (s.rd (PWM.LIVE n k)).toNat

/-- Edge `k` has fired in this period. -/
def PwmGen.fired (g : PwmGen) (k : Nat) : Bool := if k = 0 then g.firedOn else if k = 1 then g.firedOff else g.firedAdc

/-- The value that applies to edge `k` from the next period. -/
def PwmGen.nextVal (g : PwmGen) (k : Nat) : Option Word := if k = 0 then g.nextOn else if k = 1 then g.nextOff else g.nextAdc

/-- Set that value. -/
def PwmGen.setNext (g : PwmGen) (k : Nat) (v : Option Word) : PwmGen :=
  if k = 0 then { g with nextOn := v } else if k = 1 then { g with nextOff := v } else { g with nextAdc := v }

/-- Mark edge `k` as fired. -/
def PwmGen.setFired (g : PwmGen) (k : Nat) : PwmGen :=
  if k = 0 then { g with firedOn := true } else if k = 1 then { g with firedOff := true } else { g with firedAdc := true }

/-- Edge `k` fires now: W moves, the event goes to the trigger matrix (R216), and a value that waits for the next edge
shows in the register (R210). When both edges fall on one instant, W ends it low (R199). -/
def State.fireEdge (s : State) (n k : Nat) : State :=
  let g := s.gen n
  let s1 := s.updGen n (fun h => { h.setFired k with offAt := if k = 1 then s.now else h.offAt })
  let s2 :=
    if k = 0 then
      if (g.firedOff ∧ g.offAt = s.now) ∨ (!g.firedOff ∧ g.t0 + s.live n 1 = s.now) then s1 else s1.pwmSetW n true
    else if k = 1 then s1.pwmSetW n false
    else s1
  let s3 := s2.sendEvent (4 * n + (if k = 0 then 1 else if k = 1 then 2 else 3))
  match (s3.gen n).nextVal k with
  | some v => s3.wr (PWM.LIVE n k) v
  | none => s3

/-- PWM_COMPARE_MATCH (R199): t reaches compare `k` (0 CMP_ON, 1 CMP_OFF, 3 ADCCMP). A compare at PER is never reached, and
each edge fires at most once per period. -/
def execPwmCompareMatch (n k : Nat) (s : State) : Out :=
  .next (s.clocked .pwm (fun s =>
    if n < 48 ∧ (k = 0 ∨ k = 1 ∨ k = 3) ∧ s.pwmRun n ∧ !s.bit (PWM.STAT n) 10 ∧ !(s.gen n).fired k ∧ s.live n k < s.pwmPer n then
      (s.atTime ((s.gen n).t0 + s.live n k)).fireEdge n k
    else s))

/-! ### Syncs (R205-R208) -/

/-- Where the sync output of generator `n` comes from (R205): a generator's own starts, or (`none`) PWM_SYNC_IN. A chain is
followed through forwarding generators. -/
def State.syncOutOf (s : State) : Nat → Option Nat
  | 0 => if tb (s.pwmCfg 0) 4 then none else some 0
  | n + 1 => if tb (s.pwmCfg (n + 1)) 4 then s.syncOutOf n else some (n + 1)

/-- Where the sync input of generator `n` comes from. -/
def State.syncInOf (s : State) (n : Nat) : Option Nat := if n = 0 then none else s.syncOutOf (n - 1)

/-- The start that generator `n` has ahead of it, when it is known in advance (R206). -/
def State.nextStart (s : State) (n : Nat) : Option PwmStart :=
  if !s.follower n && s.pwmRun n then some { at_ := (s.gen n).t0 + s.pwmPer n }
  else (s.gen n).starts.head?

/-- The instant at which the sync of the start at `i` reaches the followers of generator `k` (R206): a start it has ahead of it, a
scheduled one, or the start of its present period. -/
def State.syncFrom (s : State) (k i : Nat) : Option Nat :=
  if !s.en (PWM.base k) then none
  else if s.pwmRun k && (s.gen k).t0 == i then some (s.gen k).sent
  else (((s.nextStart k).toList ++ (s.gen k).starts).find? (fun p => p.at_ == i)).map PwmStart.sent

/-- The instant at which follower `n` receives the sync of instant `i`, when its sync input carries one; a sync that PWM_SYNC_IN
started is known 128 units ahead (R208). -/
def State.syncAt (s : State) (n i : Nat) : Option Nat :=
  match s.syncInOf n with
  | some k => s.syncFrom k i
  | none => if s.extSync = some i then some (i - 128) else none

/-- The start that follower `n` schedules for the sync of instant `i` received at `r` (R206): at S + PHASE, or at once where that lies
no later. -/
def State.syncStart (s : State) (n i r : Nat) : PwmStart := { at_ := max (i + s.live n 2) r, known := r }

/-- SYNC_RECEIVE (R206): follower `n` receives the sync of instant `i`, once, and schedules a start at S + PHASE. A start that becomes
known less than 128 units ahead reaches the next follower as soon as it is known (DEDUCED, notes/assumptions/92.md). -/
def execSyncReceive (n i : Nat) (s : State) : Out :=
  .next (s.clocked .pwm (fun s =>
    match s.syncAt n i with
    | none => s
    | some r =>
      if n < 48 ∧ s.en (PWM.base n) ∧ s.follower n ∧ (s.gen n).gotSync ≠ some i then
        let s1 := (s.atTime r).updGen n (fun h => { h with gotSync := some i })
        if 2 ≤ (s1.gen n).starts.length then s1.pwmFlag n 5
        else
          let s2 := s1.updGen n (fun h => { h with starts := h.starts ++ [s1.syncStart n i r] })
          if i + s1.live n 2 ≤ r then s2.pwmFlag n 5 else s2
      else s))

/-- The sync output of PWM47 carries the sync of instant `i` from `src`: a pulse of PWM_SYNC_OUT begins then (R208). -/
def State.syncOutPulse (s : State) (src : Option Nat) (i : Nat) : State :=
  if s.syncOutOf 47 == src then { s with balls := { s.balls with syncOut := s.balls.syncOut ++ [i] } } else s

/-- A sync pulse lasts 64 ns (R208). -/
def syncPulse : Nat := 1024

/-- PWM_SYNC_OUT is high: a pulse lasts, and OUT_EN lets it out (R208). -/
def State.syncOutHigh (s : State) : Bool :=
  s.bit PWMC.SYNCIO 31 && s.balls.syncOut.any (fun i => decide (i ≤ s.now ∧ s.now < i + syncPulse))

/-- SYNC_IN_EDGE (R208): an edge of PWM_SYNC_IN, first seen on the CLK_PWM edge at instant `at_`, starts a sync 8 ns later. -/
def execSyncInEdge (rising : Bool) (at_ : Nat) (s : State) : Out :=
  .next (s.clocked .pwm (fun s => if rising != s.bit PWMC.SYNCIO 0 then
    ({ s.atTime at_ with extSync := some (at_ + 128) } : State).syncOutPulse none (at_ + 128)
  else s))

/-- SYNC_OUT_PULSE_END (R208): the oldest pulse ends 64 ns after it began. -/
def execSyncOutPulseEnd (s : State) : Out :=
  .next (s.clocked .pwm (fun s => match s.balls.syncOut with
    | i :: t => { s.atTime (i + syncPulse) with balls := { s.balls with syncOut := t } }
    | [] => s))

/-! ### Shadow transfer (R213-R215) -/

/-- The commit groups that have an armed generator. -/
def State.armedIn (s : State) (g : Nat) : Bool :=
  (List.range 48).any (fun n => s.bit (PWM.STAT n) 9 && s.fld (PWM.CFG n) 19 16 == g)

/-- Generator `n` disarms; its group's CPEND bit falls with its last armed generator (R204, R214). -/
def State.disarm (s : State) (n : Nat) : State :=
  let g := s.fld (PWM.CFG n) 19 16
  let s1 := s.setBit (PWM.STAT n) 9 false
  if s1.armedIn g || !s1.bit PWMC.CPEND g then s1 else (s1.setBit PWMC.CPEND g false).irq PWMC.base 0

/-- Shadow register `k` (0 PER, 1 CMPON, 2 CMPOFF, 3 PHASE, 4 ADCCMP, 5 DT) and its active register. -/
def activeOf (n k : Nat) : Nat := if k = 0 then PWM.PER n else if k = 5 then PWM.DT n else PWM.LIVE n (k - 1)

/-- Copy shadow register `k` when it is dirty. -/
def State.copyShadow (s : State) (n k : Nat) : State :=
  if s.bit (PWM.SHDIRTY n) k then s.wr (activeOf n k) (s.rd (PWM.SH n k)) else s

/-- The clamp of R211 and R214 for live register `k`: compares to PER, PHASE to PER − 1. -/
def liveMax (per k : Nat) : Nat := if k = 2 then per - 1 else per

/-- Clamp live register `k` after a transfer (R214). -/
def State.clampLive (s : State) (n k : Nat) : State :=
  if liveMax (s.pwmPer n) k < s.live n k then (s.wr (PWM.LIVE n k) (Word.ofNat (liveMax (s.pwmPer n) k))).pwmFlag n 2 else s

/-- The transfer of generator `n` (R214). -/
def State.transfer (s : State) (n : Nat) : State :=
  let s1 := (((((s.copyShadow n 0).copyShadow n 1).copyShadow n 2).copyShadow n 3).copyShadow n 4).copyShadow n 5
  let s2 := ((((s1.wr (PWM.SHDIRTY n) 0).clampLive n 0).clampLive n 1).clampLive n 2).clampLive n 3
  (s2.disarm n).pwmFlag n 4

/-- The value of live register `k` after the clamp of R211, which sets EDGE_RANGE. -/
def State.liveClamp (s : State) (n k : Nat) (v : Word) : State × Word :=
  let m := liveMax (s.pwmPer n) k
  if m < v.toNat then (s.pwmFlag n 2, Word.ofNat m) else (s, v)

/-- A value that was to apply from this period is active now, after a transfer (R210, R215). -/
def State.takeNext (s : State) (n k : Nat) : State :=
  match (s.gen n).nextVal k with
  | some v =>
    let (s1, w) := s.liveClamp n k v
    (s1.wr (PWM.LIVE n k) w).updGen n (fun h => h.setNext k none)
  | none => s

/-- A live write of the transfer's counter clock, applied after it (R215): at t = 0 no edge has fired, so it is active. -/
def State.applyAfter (s : State) (n : Nat) : List (Nat × Word) → State
  | [] => s
  | (k, v) :: t =>
    let (s1, w) := s.liveClamp n k v
    (s1.wr (PWM.LIVE n k) w).applyAfter n t

/-! ### Periods (R198, R199, R203, R207) -/

/-- An unfired CMP_OFF edge below PER fires at a start that ends the period early; other unfired edges are discarded (R207). -/
def State.truncate (s : State) (n : Nat) : State :=
  if s.pwmRun n ∧ s.now < (s.gen n).t0 + s.pwmPer n ∧ !(s.gen n).firedOff ∧ s.live n 1 < s.pwmPer n then s.fireEdge n 1 else s

/-- Generator `n` begins a period at the present instant, whose sync reaches the followers at `sent`: transfer (R213, R214), values of the next period (R210, R215),
outputs after a cleared trip (R219), the enable B (R202), counters, trim (R126), the event (R216) and the sync (R208). -/
def State.beginPeriod (s : State) (n sent : Nat) : State :=
  let p := s.now
  let s1 := s.truncate n
  let due := decide ((s1.gen n).armAt + 2048 ≤ p)
  let s2 := if s1.bit (PWM.STAT n) 9 then (if due then s1.transfer n else s1.pwmFlag n 3) else s1
  let s3 := ((s2.takeNext n 0).takeNext n 1).takeNext n 3
  let s4 := (s3.updGen n (fun h => { h with t0 := p, sent := sent, firedOn := false, firedOff := false, firedAdc := false })).applyAfter n (s3.gen n).after
  let first := !s4.pwmRun n
  let s5 := ((s4.setBit (PWM.STAT n) 11 true).setBit (PWM.STAT n) 10 false).wr (PWM.PCNT n) (s4.rd (PWM.PCNT n) + 1)
  let clear := !s5.bit (PWM.STAT n) 8
  let again := clear && (s5.gen n).rest
  let s6 := { s5.updGen n (fun h => { h with after := [], rest := h.rest && !clear }) with
    clk := { s5.clk with trimUsed := upd s5.clk.trimUsed n (fun _ => nth 0 s5.clk.trims (n / 8)) } }
  let s7 := if tb (s6.pwmCfg n) 0 then
      (if clear && (first || again) then s6.pwmOut n (s6.gen n).w true else s6)
    else if again then s6.pwmEdge n (s6.gen n).w else s6
  (s7.sendEvent (4 * n)).syncOutPulse (some n) p

/-- PWM_PERIOD_START (R198): a running free generator starts exactly PER after its last start; any other starts at its first
scheduled start. -/
def execPwmPeriodStart (n : Nat) (s : State) : Out :=
  .next (s.clocked .pwm (fun s => if n < 48 ∧ s.en (PWM.base n) then
    match s.nextStart n with
    | some p => ((s.atTime p.at_).updGen n (fun h => { h with starts := h.starts.drop 1 })).beginPeriod n p.sent
    | none => s
  else s))

/-- FOLLOWER_REACH_PER (R207): a follower with a scheduled start holds; without one it starts a period on its own. -/
def execFollowerReachPer (n : Nat) (s : State) : Out :=
  .next (s.clocked .pwm (fun s => if n < 48 ∧ s.en (PWM.base n) ∧ s.follower n ∧ s.pwmRun n ∧ !s.bit (PWM.STAT n) 10 then
    let s1 := s.atTime ((s.gen n).t0 + s.pwmPer n)
    if (s.gen n).starts ≠ [] then s1.setBit (PWM.STAT n) 10 true else (s1.pwmFlag n 5).beginPeriod n ((s.gen n).t0 + s.pwmPer n)
  else s))

/-! ### Enable, disable, start (R203, R204) -/

/-- A write to CTRL of a generator, SOFT_RST aside (R203, R204). -/
def pwmCtrlWrite (init n : Nat) (data : Word) (s : State) : State :=
  let a := PWM.base n + 0x0C
  let was := s.bit a 0
  if tb data 0 then
    if was then s.respond init a 0
    else
      ((((s.setBit a 0 true).wr (PWM.PCNT n) 0).updGen n (fun h => { h with
        w := false, firedOn := false, firedOff := false, firedAdc := false, dtA := none, dtB := none, starts := [],
        nextOn := none, nextOff := none, nextAdc := none, after := [] })).pwmOut n false false).respond init a 0
  else if was then
    let s1 := ((s.setBit a 0 false).updGen n (fun h => { h with
      w := false, dtA := none, dtB := none, starts := [], nextOn := none, nextOff := none, nextAdc := none, after := [] })).pwmOut n false false
    let s2 := (s1.setBit (PWM.STAT n) 11 false).setBit (PWM.STAT n) 10 false
    (if s2.bit (PWM.STAT n) 9 then s2.disarm n else s2).respond init a 0
  else s.respond init a 0

/-- PWM_ENABLE (R203): applied at instant `tick`. -/
def execPwmEnable (init n tick : Nat) (s : State) : Out :=
  .next (s.writeAt .pwm (PWM.base (n % 48)) init (PWM.base (n % 48) + 0x0C) 1
    (fun t => (pwmCtrlWrite init (n % 48) 1 (t.atTime tick)).takesBalls (PWM.base (n % 48)) 1) tick)

/-- PWM_DISABLE (R204): applied at instant `tick`. -/
def execPwmDisable (init n tick : Nat) (s : State) : Out :=
  .next (s.writeAt .pwm (PWM.base (n % 48)) init (PWM.base (n % 48) + 0x0C) 0
    (fun t => pwmCtrlWrite init (n % 48) 0 (t.atTime tick)) tick)

/-- A START write names generator `n`: its first period begins 128 units later, when it is an armed free-running one. DESIGN CHOICE
(notes/assumptions/93.md): a second START that names it before that period begins is ignored, as for a running one. -/
def State.startGen (s : State) (n : Nat) : State :=
  if s.en (PWM.base n) && !s.follower n && !s.pwmRun n && (s.gen n).starts.isEmpty then
    s.updGen n (fun h => { h with starts := [{ at_ := s.now + 128, known := s.now }] })
  else s

/-- Run `f` on every generator that a START or FORCE word names: register `k` names PWM(32k) upward (R203, R218). -/
def State.eachGen (s : State) (k : Nat) (data : Word) (f : State → Nat → State) : State :=
  (List.range (if k = 0 then 32 else 16)).foldl (fun t i => if tb data i then f t (32 * k + i) else t) s

/-- A write to START0 or START1 (R203). -/
def startWrite (init k : Nat) (data : Word) (s : State) : State :=
  let a := PWMC.base + 0x40 + 4 * k
  if !s.en PWMC.base then s.errorResp init a .refused true else (s.eachGen k data State.startGen).respond init a 0

/-- PWM_START (R203): START register `k`; `tick` is the CLK_PWM edge that applies the write. -/
def execPwmStart (init k : Nat) (data : Word) (tick : Nat) (s : State) : Out :=
  .next (s.writeAt .pwm PWMC.base init (PWMC.base + 0x40 + 4 * (k % 2)) data
    (fun t => startWrite init (k % 2) data (t.atTime tick)) tick)

/-! ### Live and shadow writes (R209-R213) -/

/-- The write comes from the owner (R209): the teller slip of the instance that OWNER names while OWNER.EN is 1. -/
def State.isOwner (s : State) (n init sub : Nat) : Bool :=
  let o := s.rd (PWM.OWNER n)
  tb o 31 && init == 32 + bitsOf o 19 16 && sub == bitsOf o 10 8

/-- A late live write is flagged and counted (R210). -/
def State.noteLate (s : State) (n : Nat) : State := (s.pwmFlag n 6).count (PWM.LATECNT n) 31 0 1

/-- The late-write policy of R210 for edge `k` at the present instant, with the clamped value `v`. In hold every edge lies
behind, and none fires (R207). -/
def State.liveApply (s : State) (n k : Nat) (v : Word) : State :=
  let g := s.gen n
  let a := if s.bit (PWM.STAT n) 10 then s.pwmPer n + 1 else s.now - g.t0
  if !s.en (PWM.base n) || !s.pwmRun n || k == 2 then s.wr (PWM.LIVE n k) v
  else if g.fired k || decide (s.live n k < a) then (s.wr (PWM.LIVE n k) v).updGen n (fun h => (h.setFired k).setNext k (some v))
  else if a ≤ v.toNat then (s.wr (PWM.LIVE n k) v).updGen n (fun h => h.setNext k none)
  else if tb (s.pwmCfg n) 8 then
    ((s.noteLate n).updGen n (fun h => h.setNext k none)).wr (PWM.LIVE n k) v |>.fireEdge n k
  else (s.noteLate n).updGen n (fun h => h.setNext k (some v))

/-- The instant of generator `n`'s coming period start (R198, R207): the next start known in advance, or the one that a follower
without a scheduled start makes on its own at PER. -/
def State.comingStart (s : State) (n : Nat) : Option Nat :=
  match s.nextStart n with
  | some p => some p.at_
  | none => if s.pwmRun n then some ((s.gen n).t0 + s.pwmPer n) else none

/-- A transfer of generator `n` falls in the present counter clock and is still to come (R215). -/
def State.transferNow (s : State) (n : Nat) : Bool :=
  s.bit (PWM.STAT n) 9 && (match s.comingStart n with
    | some p => decide (p / 32 = s.now / 32) && decide ((s.gen n).armAt + 2048 ≤ p)
    | none => false)

/-- A write to live register `k` (0 CMP_ON, 1 CMP_OFF, 2 PHASE, 3 ADCCMP) at the present instant (R209-R211, R215). -/
def liveWrite (init sub n k : Nat) (data : Word) (s : State) : State :=
  let a := PWM.LIVE n k
  if !s.isOwner n init sub then (s.pwmFlag n 0).errorResp init a .owner true sub
  else if s.transferNow n then (s.updGen n (fun h => { h with after := h.after ++ [(k, data)] })).respond init a 0
  else
    let (s1, v) := s.liveClamp n k data
    (s1.liveApply n k v).respond init a 0

/-- LIVE_COMPARE_WRITE (R210): the write becomes active at instant `tick`. -/
def execLiveCompareWrite (init sub n k : Nat) (data : Word) (tick : Nat) (s : State) : Out :=
  .next (s.writeAt .pwm (PWM.base (n % 48)) init (PWM.LIVE (n % 48) (k % 4)) data
    (fun t => liveWrite init sub (n % 48) (k % 4) data (t.atTime tick)) tick sub)

/-- A write to shadow register `k` (R212): dirty while the generator is enabled, active at once while it is not. A PER_SH
below 4,096 is refused. -/
def shadowWrite (init n k : Nat) (data : Word) (s : State) : State :=
  let a := PWM.SH n k
  if k = 0 ∧ data.toNat < 4096 then s.errorResp init a .refused true
  else
    let s1 := s.plainWrite init a data
    if s1.bus.resp.cause ≠ 0 then s1
    else if s1.en (PWM.base n) then s1.setBit (PWM.SHDIRTY n) k true
    else (s1.wr (activeOf n k) data).setBit (PWM.SHDIRTY n) k false

/-- SHADOW_WRITE (R212). -/
def execShadowWrite (init n k : Nat) (data : Word) (s : State) : Out :=
  .next (s.writeAt .pwm (PWM.base (n % 48)) init (PWM.SH (n % 48) (k % 6)) data (shadowWrite init (n % 48) (k % 6) data))

/-- A commit of group `g` arms generator `n` when it is enabled, of that group and not armed (R213). -/
def State.arm (s : State) (n : Nat) (data : Word) : State :=
  let g := s.fld (PWM.CFG n) 19 16
  if s.en (PWM.base n) && tb data g && !s.bit (PWM.STAT n) 9 then
    ((s.setBit (PWM.STAT n) 9 true).setBit PWMC.CPEND g true).updGen n (fun h => { h with armAt := s.now })
  else s

/-- The groups that COMMIT names; version 1 has groups 0-7. -/
def commitMask (s : State) (data : Word) : Word := if s.ver PWMC.base = 1 then data &&& 0xFF else data &&& 0xFFFF

/-- A write to PWMC.COMMIT (R213). -/
def commitWrite (init : Nat) (data : Word) (s : State) : State :=
  let a := PWMC.base + 0x48
  if !s.en PWMC.base then s.errorResp init a .refused true
  else ((List.range 48).foldl (fun t n => t.arm n (commitMask s data)) s).respond init a 0

/-- PWM_COMMIT (R213): the commit becomes active at instant `tick`. -/
def execPwmCommit (init : Nat) (data : Word) (tick : Nat) (s : State) : Out :=
  .next (s.writeAt .pwm PWMC.base init (PWMC.base + 0x48) data (fun t => commitWrite init data (t.atTime tick)) tick)

/-- A write to CFG of a generator is refused while it is enabled; the gate unit compares the modes anew (R223). -/
def pwmCfgWrite (init n : Nat) (data : Word) (s : State) : State :=
  if s.en (PWM.base n) then s.errorResp init (PWM.CFG n) .refused true
  else (s.plainWrite init (PWM.CFG n) data).modeCheck n

/-! ### Trips (R217-R221) -/

/-- A trip source code is reserved (R217). -/
def tripReserved (c : Nat) : Bool := (56 ≤ c && c < 64) || (112 ≤ c && c < 128) || 144 ≤ c

/-- A trip of generator `n` (R218, R219): cause 1 input, 2 FORCE. -/
def State.trip (s : State) (n cause : Nat) : State :=
  let s1 := (s.setBit (PWM.STAT n) 8 true).irq (PWM.base n) 7
  let s2 := (s1.setFld (PWM.TRIPSTAT n) 29 28 cause).count (PWM.TRIPSTAT n) 15 0 1
  (s2.updGen n (fun h => { h with dtA := none, dtB := none, tripAt := some (s.now / 32) })).pwmOut n false false

/-- The filtered trip input of generator `n` becomes `v` (R217, R218). -/
def State.tripFiltered (s : State) (n : Nat) (v : Bool) : State :=
  let was := s.bit (PWM.TRIPSTAT n) 31
  let s1 := s.setBit (PWM.TRIPSTAT n) 31 v
  if v && !was then s1.trip n 1 else s1

/-- The source with code `c` is active (R217): a level line, a fault ball that is low, a TRIP_IN ball high or low. -/
def State.tripSource (s : State) (c : Nat) : Bool :=
  if c < 56 then s.line c
  else if c < 112 then (s.hb (c - 64)).flt
  else if c < 136 then s.balls.tripIn.testBit (c - 128)
  else !s.balls.tripIn.testBit (c - 136)

/-- The ORed trip input of generator `n` (R217); SRC1_EN is absent in version 1. -/
def State.tripRaw (s : State) (n : Nat) : Bool :=
  let c := s.shown (PWM.TRIPCFG n)
  (tb c 30 && s.tripSource (bitsOf c 7 0)) || (tb c 31 && s.tripSource (bitsOf c 15 8))

/-- The TRIP_IN balls are seen at levels `m`. -/
def State.seeTripIn (s : State) (m : Nat) : State := { s with balls := { s.balls with tripIn := m % 256 } }

/-- A write to TRIPCFG (R217): a reserved code is refused; the filter's count restarts against the new sources' level, and
with FILT 0 the filtered input follows at once. RAW_ACT is `tripRaw`. -/
def tripcfgWrite (init n : Nat) (data : Word) (s : State) : State :=
  let a := PWM.TRIPCFG n
  if tripReserved (bitsOf data 7 0) || tripReserved (bitsOf data 15 8) then s.errorResp init a .refused true
  else
    let s1 := s.plainWrite init a data
    if s1.bus.resp.cause ≠ 0 then s1
    else
      let r := s1.tripRaw n
      if s1.fld a 23 16 = 0 then s1.tripFiltered n r else s1

/-- TRIP_CFG_WRITE (R217): `tripIn` are the levels of the TRIP_IN balls on the edge `tick` that applies the write. -/
def execTripCfgWrite (init n : Nat) (data : Word) (tripIn tick : Nat) (s : State) : Out :=
  .next (s.writeAt .pwm (PWM.base (n % 48)) init (PWM.TRIPCFG (n % 48)) data
    (fun t => tripcfgWrite init (n % 48) data ((t.seeTripIn tripIn).atTime tick)) tick)

/-- The ORed trip input of generator `n`, with the TRIP_IN balls at levels `m`, has stood at `v` for FILT counter clocks (R217). -/
def State.tripSettled (s : State) (n at_ m : Nat) (v : Bool) : State :=
  s.clocked .pwm (fun s =>
    let s1 := (s.atTime at_).seeTripIn m
    if n < 48 ∧ s1.tripRaw n = v then s1.tripFiltered n v else s1)

/-- TRIP_INPUT_ACTIVE (R218): the ORed input has been active for FILT counter clocks; `tripIn` are the TRIP_IN levels. -/
def execTripInputActive (n at_ tripIn : Nat) (s : State) : Out := .next (s.tripSettled n at_ tripIn true)

/-- TRIP_INPUT_INACTIVE (R217): the ORed input has been inactive for FILT counter clocks. -/
def execTripInputInactive (n at_ tripIn : Nat) (s : State) : Out := .next (s.tripSettled n at_ tripIn false)

/-- The latch clears, and the outputs stay low until the next period start (R219, R220); a trip of the same CLK_PWM edge wins. -/
def State.tripUnlatch (s : State) (n : Nat) : State :=
  if (s.gen n).tripAt = some (s.now / 32) then s
  else ((s.setBit (PWM.STAT n) 8 false).setFld (PWM.TRIPSTAT n) 29 28 0).updGen n (fun h => { h with rest := true })

/-- A write to TRIPCTL (R218, R220): FORCE trips; CLR clears the latch while the filtered input is inactive and the write
does not set FORCE, or is refused. -/
def tripctlWrite (init n : Nat) (data : Word) (s : State) : State :=
  let a := PWM.TRIPCTL n
  let s1 := if tb data 1 then s.trip n 2 else s
  if !tb data 0 then s1.respond init a 0
  else if tb data 1 then (s1.pwmFlag n 1).errorResp init a .refused true
  else if !s1.bit (PWM.STAT n) 8 then s1.respond init a 0
  else if s1.bit (PWM.TRIPSTAT n) 31 then (s1.pwmFlag n 1).errorResp init a .refused true
  else (s1.tripUnlatch n).respond init a 0

/-- TRIP_FORCE (R218): a write with FORCE set, applied at instant `tick`. -/
def execTripForce (init n : Nat) (data : Word) (tick : Nat) (s : State) : Out :=
  .next (s.writeAt .pwm (PWM.base (n % 48)) init (PWM.TRIPCTL (n % 48)) (data ||| 2)
    (fun t => tripctlWrite init (n % 48) (data ||| 2) (t.atTime tick)) tick)

/-- TRIP_CLEAR (R220): a write with CLR set, applied at instant `tick`. -/
def execTripClear (init n : Nat) (data : Word) (tick : Nat) (s : State) : Out :=
  .next (s.writeAt .pwm (PWM.base (n % 48)) init (PWM.TRIPCTL (n % 48)) (data ||| 1)
    (fun t => tripctlWrite init (n % 48) (data ||| 1) (t.atTime tick)) tick)

/-- A write to FORCE0 or FORCE1 (R218): absent in version 1. -/
def pwmcForceWrite (init k : Nat) (data : Word) (s : State) : State :=
  let a := PWMC.base + 0x50 + 4 * k
  if s.ver PWMC.base = 1 then s.respond init a 0
  else if !s.en PWMC.base then s.errorResp init a .refused true
  else (s.eachGen k data (fun t n => t.trip n 2)).respond init a 0

/-- PWMC_FORCE (R218): FORCE register `k`, applied at instant `tick`. -/
def execPwmcForce (init k : Nat) (data : Word) (tick : Nat) (s : State) : Out :=
  .next (s.writeAt .pwm PWMC.base init (PWMC.base + 0x50 + 4 * (k % 2)) data
    (fun t => pwmcForceWrite init (k % 2) data (t.atTime tick)) tick)

/-- A soft reset of generator `n` (R142, R221): its trip latch clears too. -/
def State.pwmWipe (s : State) (n : Nat) : State :=
  let b := PWM.base n
  let s1 := s.pwmOut n false false
  (((((s1.dropRegs (b + 0x40) (b + 0xFFF)).wr (b + 0x10) 0).wr (b + 0x14) 0).updGen n (fun _ => {})).modeCheck n)

/-- What a read of TIME returns (R197): t on the edge that serves the read, a multiple of 32; PER while holding. -/
def State.pwmTime (s : State) (n : Nat) : Word :=
  if s.pwmRun n then
    Word.ofNat (if s.bit (PWM.STAT n) 10 then s.pwmPer n / 32 * 32 else (s.now - (s.gen n).t0) / 32 * 32)
  else 0

end Sys2Proof.Machine
end

