-- ==== Sys2Proof/Machine/Flags.lean ====
section
/-!
DEFINITION. The rounding, shifting and saturating functions of the teller's arithmetic (R286) and its one flag, SAT: every
saturation that changes a value sets it.
-/
namespace Sys2Proof.Machine

/-- rnd(x, r) of R286: round to nearest, ties toward +∞. -/
def rnd (x : Int) (r : Nat) : Int := if r = 0 then x else Int.fdiv (x + 2 ^ (r - 1)) (2 ^ r)

/-- shift(x, s) of R286. -/
def shiftI (x s : Int) : Int := if 0 ≤ s then x * 2 ^ s.toNat else rnd x (-s).toNat

/-- satN(x) of R286, for N ≥ 1 bits. -/
def satN (n : Nat) (x : Int) : Int := clampI (-(2 ^ (n - 1))) (2 ^ (n - 1) - 1) x

/-- satN changes the value: SAT is set (R286). -/
def satSets (n : Nat) (x : Int) : Bool := satN n x != x

/-- The signed value of a register (R285). -/
def sgn (w : Word) : Int := w.toInt

/-- A signed value as a register holds it, modulo 2³². -/
def toWord (x : Int) : Word := BitVec.ofInt 32 x

/-- The low lane of a register, signed (R294). -/
def laneLo (w : Word) : Int := toSigned 16 w.toNat

/-- The high lane of a register, signed (R294). -/
def laneHi (w : Word) : Int := toSigned 16 (w.toNat / 65536)

/-- Two lanes as a register holds them. -/
def ofLanes (lo hi : Int) : Word := Word.ofNat (ofSigned 16 hi * 65536 + ofSigned 16 lo)

/-- The comparison that a cc code names (R302): signed EQ, NE, LT, GE, LE, GT, then unsigned LTU, GEU. -/
def ccHolds (cc : Nat) (x y : Word) : Bool :=
  match cc with
  | 0 => x == y
  | 1 => x != y
  | 2 => decide (sgn x < sgn y)
  | 3 => decide (sgn y ≤ sgn x)
  | 4 => decide (sgn x ≤ sgn y)
  | 5 => decide (sgn y < sgn x)
  | 6 => decide (x.toNat < y.toNat)
  | _ => decide (y.toNat ≤ x.toNat)

/-- floor of the square root (R269), for values below 2⁶⁶: one bit of the root at a time, from bit 32 down. -/
def isqrt (n : Nat) : Nat :=
  (List.range 33).foldl (fun r i => if (r + 2 ^ (32 - i)) * (r + 2 ^ (32 - i)) ≤ n then r + 2 ^ (32 - i) else r) 0

end Sys2Proof.Machine
end

