-- ==== Sys2Proof/Machine/MemEcc.lean ====
section
/-!
DEFINITION. The memories' error correction as every reader meets it, and the self-test controller's log, into which each
captured error goes (chapter 18, R480-R484).
-/
namespace Sys2Proof.Machine

abbrev HEALTH.MEMERR : Nat := HEALTH.base + 0x94
abbrev HEALTH.MEMADDR : Nat := HEALTH.base + 0x98
abbrev HEALTH.MEMCNT : Nat := HEALTH.base + 0x9C
abbrev HEALTH.LOGBASE : Nat := HEALTH.base + 0xB0
abbrev HEALTH.LOGIDX : Nat := HEALTH.base + 0xB4

/-- Change the part of the controller that no register shows. -/
def State.updHealth (s : State) (f : Health → Health) : State := { s with health := f s.health }

/-- Record the next free words as met. -/
def State.bumpFrees (s : State) (n : Nat) : State := { s with freeCtr := s.freeCtr + n }

/-- The log ring's size in records (R484). -/
def ringSize (w : Word) : Nat := 16 * max (bitsOf w 11 4) 1

/-! ### The log (R484) -/

/-- Write one log record as a TEST slip, while LOGBASE.EN is 1. -/
def State.logRecord (s : State) (us cycle kind target result : Nat) (w2 w3 : Word) : State :=
  let c := s.rd HEALTH.LOGBASE
  if tb c 0 then
    let idx := s.fld HEALTH.LOGIDX 15 0
    let w1 := Word.ofNat (kind % 16 * 2 ^ 28 + target % 256 * 2 ^ 20 + result % 16 * 2 ^ 16 + (Config.recordBase + s.health.records) % 65536)
    let bytes := leBytes 4 (us % 2 ^ 32) ++ leBytes 4 w1.toNat ++ leBytes 4 w2.toNat ++ leBytes 4 w3.toNat
    let s1 := ((s.setFld HEALTH.LOGIDX 15 0 ((idx + 1) % ringSize c)).updHealth (fun h => { h with records := h.records + 1 }))
    s1.issue { init := 96, addr := bitsOf c 31 12 * 4096 + 16 * idx, write := true, bytes := bytes, cycle := cycle }
  else s

/-- Write a log record whose words 2 and 3 the manual does not describe for its result: free values. -/
def State.logFree (s : State) (us cycle kind target result : Nat) : State :=
  (s.logRecord us cycle kind target result (s.free 0) (s.free 1)).bumpFrees 2

/-! ### Memories (R480-R483) -/

/-- Where a memory of R480 begins on the bus, and how many bytes it holds. -/
def memRange (m : Nat) : Nat × Nat :=
  if m < 0x30 then (0x20000000 + m * 0x80000, 0x80000)
  else if m < 0x40 then (0x30040000 + (m - 0x30) * 0x8000, 0x8000)
  else if m < 0x42 then (0x10000000 + (m - 0x40) * 0x80000, 0x80000)
  else (0x30000000 + (m - 0x42) * 0x10000, 0x10000)

/-- The memory of R480 that holds a bus address, if one does. -/
def memOf (a : Nat) : Option Nat := (List.range 0x46).find? (fun m => (memRange m).1 ≤ a && a < (memRange m).1 + (memRange m).2)

/-- An ECC event of memory `m` at byte address `a` (R483): counted, flagged, captured and logged. -/
def State.eccEvent (s : State) (m a us cycle : Nat) (e : EccError) : State :=
  let s1 := ((if e.uncorr then s.count HEALTH.MEMCNT 15 0 1 else s.count HEALTH.MEMCNT 31 16 1).irq HEALTH.base 4)
  if s.bit HEALTH.MEMERR 31 then s1
  else
    let s2 := (s1.wr HEALTH.MEMERR (Word.ofNat (2 ^ 31 + b2n e.uncorr * 2 ^ 30 + m % 256 * 2 ^ 16 + e.bit % 256))).wr HEALTH.MEMADDR (Word.ofNat a)
    (s2.logRecord us cycle 4 m (if e.uncorr then 6 else 5) (Word.ofNat a)
      (putBits (putBits (s.free 0) 15 8 m) 7 0 e.bit)).bumpFrees 1

/-- An uncorrectable error stays in the word until it is written (R482). -/
def State.noteBad (s : State) (a : Nat) (e : EccError) : State :=
  if e.uncorr ∧ !s.health.bad.contains (a / 16 * 16) then s.updHealth (fun h => { h with bad := h.bad ++ [a / 16 * 16] }) else s

/-- A read of the word of memory `m` that holds `a` finds `ecc`, or the uncorrectable error that the word is known to hold,
whose bit is free: the event is reported, and the answer says whether the read gets no data (R482, R483). -/
def State.eccRead (s : State) (m a us cycle : Nat) (ecc : Option EccError) : State × Bool :=
  let known := s.health.bad.contains (a / 16 * 16)
  match ecc with
  | some e =>
    let e1 := { e with uncorr := e.uncorr || known }
    ((s.noteBad a e1).eccEvent m a us cycle e1, e1.uncorr)
  | none => if known then (s.bumpFrees 1 |>.eccEvent m a us cycle { bit := bitsOf (s.free 0) 7 0 % 137, uncorr := true }, true) else (s, false)

/-- A read of `n` bytes from address `a` of a memory of R480, up to 16: the words it touches are read, `ecc` is what the
first of them shows. -/
def State.eccSpan (s : State) (a n us cycle : Nat) (ecc : Option EccError) : State × Bool :=
  match memOf a with
  | none => (s, false)
  | some m =>
    let q := s.eccRead m a us cycle ecc
    let e := a + n - 1
    if e / 16 = a / 16 then q
    else
      let q2 := q.1.eccRead m (e / 16 * 16) us cycle none
      (q2.1, q.2 || q2.2)

end Sys2Proof.Machine
end

