-- ==== Sys2Proof/Machine/Operands.lean ====
section
/-!
DEFINITION. The operand forms of a teller syllable (R281, R282, R288, R294, R296, R302): its frame, its fields, which of its
bits are in use, and which registers it writes. Slots are numbered 0 M0, 1 M1, 2 L, 3 C.
-/
namespace Sys2Proof.Machine

/-- The frame of a syllable (R282). -/
def synPen (w : Word) : Bool := tb w 31
def synPneg (w : Word) : Bool := tb w 30
def synPsel (w : Word) : Nat := bitsOf w 29 28
def synOpc (w : Word) : Nat := bitsOf w 27 22

/-- The unit register fields [19:15], [14:10], [9:5], [4:0] of an M syllable (R288). -/
def fldD (w : Word) : Nat := bitsOf w 19 15
def fldX (w : Word) : Nat := bitsOf w 14 10
def fldY (w : Word) : Nat := bitsOf w 9 5
def fldZ (w : Word) : Nat := bitsOf w 4 0
/-- The accumulator field (R288). -/
def fldAcc (w : Word) : Nat := bitsOf w 21 20
/-- The register field [20:16] of MOVI and of the L slot (R288, R296). -/
def fldV (w : Word) : Nat := bitsOf w 20 16
/-- The address and target register field [15:11] of FWR, FRD and PGSTEP (R296). -/
def fldVa (w : Word) : Nat := bitsOf w 15 11

/-- A mask of the bits from `hi` to `lo`. -/
def span (hi lo : Nat) : Nat := (2 ^ (hi + 1 - lo) - 1) * 2 ^ lo

/-- The operand bits an M opcode uses (R288, R294), none where the form has no such opcode. -/
def mUsed (sc : Bool) (opc : Nat) : Option Nat :=
  if opc = 0 then some 0
  else if opc ≤ 3 then some (span 21 5)
  else if opc = 4 then some (span 21 15 + span 9 5)
  else if opc = 5 then some (span 21 8)
  else if opc = 6 then some (span 21 20)
  else if opc = 7 then none
  else if opc = 8 ∨ opc = 0x0D ∨ opc = 0x0E then some (span 19 10)
  else if opc ≤ 0x18 then some (span 19 5)
  else if opc = 0x19 ∨ opc = 0x1A then some (span 20 0)
  else if opc = 0x1B then none
  else if opc = 0x1D then if sc then some (span 19 10 + span 5 5) else none
  else if opc ≤ 0x1F then if sc then some (span 19 5) else none
  else if opc = 0x20 then some (span 19 0)
  else if opc = 0x21 ∨ opc = 0x22 then some (span 19 10)
  else if opc = 0x23 ∨ opc = 0x24 then some (span 19 5)
  else none

/-- The operand bits an L opcode uses (R296). -/
def lUsed (opc : Nat) : Option Nat :=
  match opc with
  | 0 => some 0
  | 1 | 2 | 3 | 4 => some (span 20 0)
  | 5 => some (span 20 10)
  | 6 => some (span 20 14)
  | 8 => some (span 20 8)
  | 9 => some (span 20 5)
  | 10 | 12 => some (span 20 11)
  | 11 => some (span 20 16)
  | 13 => some (span 20 6)
  | 14 => some 0
  | _ => none

/-- The operand bits a C opcode uses (R302). -/
def cUsed (opc : Nat) : Option Nat :=
  match opc with
  | 0 | 1 => some 0
  | 2 => some (span 8 0)
  | 3 => some (span 16 0)
  | 4 => some (span 21 7)
  | 5 => some (span 21 0)
  | 6 => some (span 18 16)
  | 7 => some (span 21 14)
  | 8 => some (span 18 17)
  | _ => none

/-- The operand bits a syllable of a slot uses. -/
def usedBits (sc : Bool) (slot opc : Nat) : Option Nat :=
  if slot ≤ 1 then mUsed sc opc else if slot = 2 then lUsed opc else cUsed opc

/-- The syllable has an opcode of its slot and form, and its reserved bits are 0 (R282, R310). -/
def syllableOk (sc : Bool) (slot : Nat) (w : Word) : Bool :=
  match usedBits sc slot (synOpc w) with
  | none => false
  | some m => decide (w.toNat % 2 ^ 22 &&& (2 ^ 22 - 1 - m) = 0)

/-- The operation occupies M0 with a NOP in M1 (R288). -/
def m0Only (opc : Nat) : Bool := 0x20 ≤ opc && opc ≤ 0x24

/-- V registers from `d` upward. -/
def group (d n : Nat) : List Nat := (List.range n).map (d + ·)

/-- The V registers an M operation reads as a group and the V registers it writes (R288-R294). -/
def mWritesV (sc : Bool) (w : Word) : List Nat :=
  let d := fldD w
  let o := synOpc w
  if o = 0 ∨ (1 ≤ o ∧ o ≤ 4) ∨ o = 6 then []
  else if o = 0x19 ∨ o = 0x1A then [fldV w]
  else if o = 0x20 then d :: group (fldZ w) 2
  else if o = 0x21 then if sc then [d] else group d 2
  else if o = 0x22 then if sc then group d 2 else group d 3
  else if o = 0x23 ∨ o = 0x24 then if sc then [d] else group d 2
  else [d]

/-- The accumulators an M operation writes (R288, R293). -/
def mWritesAcc (sc : Bool) (w : Word) : List Nat :=
  let o := synOpc w
  let a := fldAcc w
  if (1 ≤ o ∧ o ≤ 4) ∨ (o = 5 ∧ tb w 8) then (if sc then [a, a + 1] else [a])
  else if o = 6 then [a]
  else []

/-- The V registers an L operation writes (R296). -/
def lWritesV (w : Word) : List Nat :=
  match synOpc w with
  | 1 | 5 | 12 | 13 => [fldV w]
  | 3 | 6 => group (fldV w) 4
  | _ => []

/-- The predicates a C operation writes (R302). -/
def cWritesP (w : Word) : List Nat :=
  match synOpc w with
  | 4 | 5 | 6 | 8 => [bitsOf w 18 17]
  | 7 => [bitsOf w 19 18]
  | _ => []

/-- The word offset and the stride S of a state-memory operation (R297). -/
def fldOff (w : Word) : Nat := bitsOf w 12 0
def fldStride (w : Word) : Nat := [0, 1, 2, 4].getD (bitsOf w 15 14) 0
def fldLevel (w : Word) : Nat := bitsOf w 13 13

end Sys2Proof.Machine
end

