-- ==== Sys2Proof/Machine/TellerRun.lean ====
section
/-!
DEFINITION. A run of a teller program (chapter 12): which syllable the unit fetches, how an operation of one slot executes,
and how a bundle ends (R281-R284, R303-R306). Slots: 0 M0, 1 M1, 2 L, 3 C.
-/
namespace Sys2Proof.Machine

/-- The start of the program library (R258). -/
abbrev libBase : Nat := 0x30000000

/-- Position `n` of the teller array. -/
def State.tpos (s : State) (n : Nat) : TelPos := nth {} s.tel.pos n

/-- Change position `n`. -/
def State.updTpos (s : State) (n : Nat) (f : TelPos → TelPos) : State :=
  { s with tel := { s.tel with pos := upd s.tel.pos n f } }

/-- The run in progress at position `n`. -/
def State.runAt (s : State) (n : Nat) : Option Run := (s.tpos n).run

/-- Set the run at position `n`. -/
def State.setRun (s : State) (n : Nat) (r : Run) : State := s.updTpos n (fun p => { p with run := some r })

/-- The syllable of a slot in bundle `pc` of a run (R281): M0 is the highest word of the bundle, C the lowest. -/
def State.syllable (s : State) (r : Run) (slot : Nat) : Word := s.memWord (libBase + 16 * (r.base + r.pc) + 4 * (3 - slot))

/-- The predicate of a syllable holds (R282, R303), on the predicates of the bundle's first cycle. -/
def Run.holds (r : Run) (w : Word) : Bool := !synPen w || (nth false r.p (synPsel w) != synPneg w)

/-- A V register as the bundle reads it. -/
def Run.V (r : Run) (i : Nat) : Word := nth 0 r.v i

/-- The signed value of a V register. -/
def Run.VI (r : Run) (i : Nat) : Int := sgn (r.V i)

/-- An accumulator as the bundle reads it. -/
def Run.A (r : Run) (i : Nat) : Int := nth 0 r.acc i

/-- Write a V register at the end of the bundle. -/
def Run.putV (r : Run) (i : Nat) (w : Word) : Run := { r with vW := r.vW ++ [(i, w)] }

/-- Write a V register with `x` saturated to `n` bits at the end of the bundle; SAT follows. -/
def Run.putSat (r : Run) (n i : Nat) (x : Int) : Run :=
  { r.putV i (toWord (satN n x)) with satW := r.satW || satSets n x }

/-- Set an accumulator at the end of the bundle, before its saturation. -/
def Run.putA (r : Run) (i : Nat) (x : Int) : Run := { r with accW := r.accW.filter (fun p => p.1 != i) ++ [(i, x)] }

/-- Add to an accumulator; a second term of the bundle joins the first one's exact sum (R289). -/
def Run.addA (r : Run) (i : Nat) (x : Int) : Run :=
  r.putA i ((match Store.find r.accW i with | some y => y | none => r.A i) + x)

/-- The width of an accumulator in the form that runs (R285, R293). -/
def Run.accBits (r : Run) : Nat := if r.sc then 40 else 72

/-- The loop index LC[level] (R297, R304): level 0 is the outer loop. -/
def Run.lc (r : Run) (level : Nat) : Nat :=
  match r.frames.reverse[level]? with
  | some f => f.idx
  | none => 0

/-- Where a run goes after its bundle: back to a loop's start, or on (R304). -/
def loopStep (pc : Nat) : List LoopFrame → Nat × List LoopFrame
  | [] => (pc + 1, [])
  | f :: t =>
    if f.last = pc then
      if f.idx + 1 < f.n then (f.start, { f with idx := f.idx + 1 } :: t) else loopStep pc t
    else (pc + 1, f :: t)

/-- The next bundle and the loops in progress (R304, R305). -/
def Run.advance (r : Run) : Nat × List LoopFrame :=
  match r.ctl with
  | some (.br t) => (t, r.frames)
  | some (.loop n e) => (r.pc + 1, { start := r.pc + 1, last := e, idx := 0, n := n } :: r.frames)
  | _ => loopStep r.pc r.frames

/-- The results of a bundle are written (R283). -/
def Run.commit (r : Run) : Run :=
  let v := r.vW.foldl (fun l p => upd l p.1 (fun _ => p.2)) r.v
  let acc := r.accW.foldl (fun l p => upd l p.1 (fun _ => satN r.accBits p.2)) r.acc
  let ps := r.pW.foldl (fun l p => upd l p.1 (fun _ => p.2)) r.p
  let sat := r.sat || r.satW || r.accW.any (fun p => satSets r.accBits p.2)
  let (pc, fr) := r.advance
  { r with v := v, acc := acc, p := ps, sat := sat, pc := pc, frames := fr,
           vW := [], accW := [], pW := [], stW := [], satW := false, ctl := none, done := 0 }

/-- Nothing holds the bundle any more (R306). -/
def Run.complete (r : Run) : Bool :=
  decide (r.done = 15) && !r.fixed && r.hold.isNone && r.frd.isNone && !r.fence

/-- The lowest state of an instance as INSTSTATs.STATE shows it: 0 disabled, 1 idle, 2 ready, 3 running. -/
def State.instRefresh (s : State) (n i : Nat) : State :=
  let run := match s.runAt n with
    | some r => r.inst == i
    | none => false
  let st := if run then 3 else if !s.bit (TLR.base n + 0x100 + 0x20 * i) 31 then 0
    else if (nth ({} : TelInst) (s.tpos n).inst i).ready then 2 else 1
  s.setFld (TLR.base n + 0x200 + 4 * i) 31 30 st

/-! ### Rotation: counting shadowed runs and taking a position over (R272-R274) -/

abbrev TELC.ROTCFG : Nat := TELC.base + 0x40
abbrev TELC.ROTSTAT : Nat := TELC.base + 0x44
abbrev TELC.ROTCNT : Nat := TELC.base + 0x48
abbrev TELC.CAPSTAT : Nat := TELC.base + 0x4C
abbrev TLR.STAT (n : Nat) : Nat := TLR.base n + 0x10

/-- The unit that serves position `n`. -/
def State.unitOf (s : State) (n : Nat) : Nat := s.fld (TLR.STAT n) 19 16

/-- The spare position that unit `u` serves. -/
def State.spareOf (s : State) (u : Nat) : Nat := if s.unitOf 14 = u then 14 else 15

/-- Instance Tn.i is enabled. -/
def State.instEn (s : State) (n i : Nat) : Bool := s.bit (TLR.base n + 0x100 + 0x20 * i) 31

/-- The fewest shadowed runs of any enabled instance of position `p`, at most 64. -/
def State.minRuns (s : State) (p : Nat) : Nat :=
  (List.range 8).foldl (fun m i => if s.instEn p i then min m (nth 0 s.tel.runs i) else m) 64

/-- MINRUNS follows; at 64 the shadow has passed (R272). -/
def State.shadowProgress (s : State) : State :=
  if s.fld TELC.ROTSTAT 31 30 = 2 then
    let m := s.minRuns (s.fld TELC.ROTSTAT 27 24)
    let s1 := s.setFld TELC.ROTSTAT 6 0 m
    if m = 64 then (s1.setFld TELC.ROTSTAT 31 30 3).updTpos (s.fld TELC.ROTSTAT 27 24) (fun p => { p with mism := [], cleared := [] })
    else s1
  else s

/-- How many spare positions hold a unit that is not retired: CAPSTAT.SPARES, and the same count in HEALTH.SPARES, where
the last spare's loss is flagged (R472). -/
def State.spareRefresh (s : State) : State :=
  let ok := fun (q : Nat) => b2n (!s.bit TELC.CAPSTAT (16 + s.unitOf q))
  (s.setFld TELC.CAPSTAT 11 8 (ok 14 + ok 15)).setSpares 23 16 (ok 14 + ok 15)

/-- Teller unit `u` is marked retired, in TELC and in HEALTH (R472). -/
def State.markTeller (s : State) (u : Nat) : State :=
  ((s.setBit TELC.CAPSTAT (16 + u) true).setBit HEALTH.RETIRED1 (16 + u) true).irq HEALTH.base 0

/-- The positions whose instances the unit of position `n` schedules: its own, and the one it hosts (R262, R277). -/
def State.unitPositions (s : State) (n : Nat) : List Nat :=
  (List.range 16).filter (fun p => p == n || (s.tpos p).host == some n)

/-- The positions that share the unit of position `n` (R277). -/
def State.unitSet (s : State) (n : Nat) : List Nat :=
  match (s.tpos n).host with
  | some h => s.unitPositions h
  | none => s.unitPositions n

/-- The unit of position `n` has no run in progress. -/
def State.unitFree (s : State) (n : Nat) : Bool := (s.unitSet n).all (fun p => (s.runAt p).isNone)

/-- STAT.UNIT of position `p`, and of the position it hosts, shows unit `u` (R256). -/
def State.setUnit (s : State) (p u : Nat) : State :=
  (s.unitPositions p).foldl (fun t q => t.setFld (TLR.STAT q) 19 16 u) s

/-- Unit `u`, now at spare position `q`, takes position `p` over; the old unit goes to `q` (R273, R274, R276). -/
def State.swapUnits (s : State) (p q u : Nat) : State :=
  let old := s.unitOf p
  let s1 := ((s.setUnit p u).setFld (TLR.STAT q) 19 16 old).spareRefresh
  if p < 14 then { s1 with tel := { s1.tel with order := s1.tel.order.erase p ++ [p] } } else s1

/-- No take-over under R274 waits at position `p`, and its shadows' mismatches are forgotten. -/
def State.clearTakeover (s : State) (p : Nat) : State :=
  s.updTpos p (fun x => { x with takeover := none, mism := [], cleared := [] })

/-- A take-over that waits for the unit's run to end happens (R274): the replaced unit is retired. -/
def State.lateTakeover (s : State) (p : Nat) : State :=
  match (s.tpos p).takeover with
  | none => s
  | some u =>
    if s.unitFree p then
      let s1 := s.markTeller (s.unitOf p)
      (s1.swapUnits p (s1.spareOf u) u).clearTakeover p
    else s

/-- A run of the unit of position `n` is over: a take-over that has waited for it happens. -/
def State.afterRun (s : State) (n : Nat) : State := (s.unitSet n).foldl State.lateTakeover s

/-- A run ends at position `n` (R302, R262). -/
def State.endRun (s : State) (n : Nat) (r : Run) : State :=
  let s1 := (s.updTpos n (fun p => { p with run := none })).setBit (TLR.STAT n) 4 false
  let s2 := s1.instRefresh n r.inst
  let s3 := if r.shadowed ∧ s2.fld TELC.ROTSTAT 31 30 = 2 ∧ s2.fld TELC.ROTSTAT 27 24 = n then
      ({ s2 with tel := { s2.tel with runs := upd s2.tel.runs r.inst (fun k => min (k + 1) 64) } } : State).shadowProgress
    else s2
  s3.afterRun n

/-- Bytes written into state memory (R257); while a position is being rotated its writes reach the spare's copy too (R272). -/
def State.telStore (s : State) (a : Nat) (bs : List Byte) : State :=
  let p := s.fld TELC.ROTSTAT 27 24
  let q := s.spareOf (s.fld TELC.ROTSTAT 19 16)
  let lo := 0x30040000 + p * 0x8000
  let s1 := s.memStore (32 + p) a bs
  if s.fld TELC.ROTSTAT 31 30 ≠ 0 ∧ lo ≤ a ∧ a < lo + 0x8000 then s1.memStore (32 + p) (a - p * 0x8000 + q * 0x8000) bs else s1

/-- A bundle whose operations have all executed and that nothing stalls ends: its stores land and its results are written; END ends
the run (R283, R306). -/
def State.bundleEnd (s : State) (n : Nat) : State :=
  match s.runAt n with
  | none => s
  | some r =>
    if r.complete then
      let s1 := r.stW.foldl (fun t q => t.telStore q.1 q.2) s
      if r.ctl = some .stop then s1.endRun n r else s1.setRun n r.commit
    else s

/-- A unit serves position `n`, itself or a host's (R277). -/
def State.served (s : State) (n : Nat) : Bool := !s.bit (TLR.STAT n) 12

/-- The bundle of a run holds a word that is known to be uncorrectable: it does not issue, and the unit retires
(TELLER_UNIT_ERROR, R276). -/
def State.bundleBad (s : State) (r : Run) : Bool :=
  let a := libBase + 16 * (r.base + r.pc)
  s.health.bad.any (fun b => decide (a ≤ b ∧ b < a + 16))

/-- The run and the syllable on which an operation of slot `slot` with opcode `opc` may execute at position `n`: the unit has
fetched exactly this syllable and has not executed it yet, and CLK_TEL runs. `form` restricts it to one form. -/
def State.issues (s : State) (n slot : Nat) (w : Word) (opc : Nat) (form : Option Bool) : Option Run :=
  match s.runAt n with
  | none => none
  | some r =>
    if s.domRun .tel && !s.bundleBad r && s.served n && !r.done.testBit slot && s.syllable r slot == w && synOpc w == opc && (form == none || form == some r.sc)
    then some r else none

/-- The slot's operation has executed. -/
def Run.mark (r : Run) (slot : Nat) : Run := { r with done := r.done + 2 ^ slot }

/-- Execute an operation that only changes the run: `f` when the predicate holds, nothing otherwise (R303). -/
def State.slotOp (s : State) (n slot : Nat) (w : Word) (opc : Nat) (form : Option Bool) (f : Run → Run) : State :=
  match s.issues n slot w opc form with
  | none => s
  | some r => (s.setRun n ((if r.holds w then f r else r).mark slot)).bundleEnd n

/-- The M slot that an operand names: M1 or M0. -/
def mslot (m1 : Bool) : Nat := if m1 then 1 else 0

/-- The signed shift entry `k` of the form that runs (R287, R308). -/
def State.shiftEntry (s : State) (r : Run) (k : Nat) : Int :=
  toSigned 8 (s.byte (libBase + 16 * r.prog + (if r.sc then 0x30 else 0x10) + k)).toNat

end Sys2Proof.Machine
end

