-- ==== Sys2Proof/Machine/TellerMem.lean ====
section
/-!
DEFINITION. The L-slot operations of a teller (chapter 12, R296-R301): state memory, latched inputs, deposits, output writes,
fabric reads, profile steps and FENCE; and the end of a stall (R306). Operands: position `n`, the syllable `w`, and, where a
slip may be issued, the CLK_FAB cycle of its presentation.
-/
namespace Sys2Proof.Machine

/-- Execute an L operation that may change more than the run. -/
def State.lOp (s : State) (n : Nat) (w : Word) (opc : Nat) (f : State → Run → State × Run) : State :=
  match s.issues n 2 w opc none with
  | none => s
  | some r =>
    let q := if r.holds w then f s r else (s, r)
    (q.1.setRun n (q.2.mark 2)).bundleEnd n

/-! ### State memory (R257, R297) -/

/-- The address of the word that a state-memory operation names (R297). -/
def areaWord (s : State) (n : Nat) (r : Run) (w : Word) : Nat :=
  s.areaBase n r.inst + 4 * (fldOff w + r.lc (fldLevel w) * fldStride w)

/-- A unit reads `k` words of state memory from address `a` into V registers from `d` upward: after an uncorrectable error
they read 0 and the instance's MEM_ERR bit is set (R257, R483). -/
def State.unitLoad (s : State) (n : Nat) (r : Run) (d a k us cycle : Nat) (ecc : Option EccError) : State × Run :=
  let q := s.eccSpan a (4 * k) us cycle ecc
  let t := if q.2 then q.1.irq (TLR.base n) (16 + r.inst) else q.1
  (t, (List.range k).foldl (fun x i => x.putV (d + i) (if q.2 then 0 else s.memWord (a + 4 * i))) r)

/-- LDW. `ecc` is the error that the read finds, `us` and `cycle` place the log record of it. -/
def execOpLdw (n : Nat) (w : Word) (us cycle : Nat) (ecc : Option EccError) (s : State) : Out :=
  .next (s.lOp n w 1 (fun t r => t.unitLoad n r (fldV w) (areaWord t n r w) 1 us cycle ecc))

/-- Bytes are written to state memory at the end of the bundle (R283). -/
def Run.putSt (r : Run) (a : Nat) (bs : List Byte) : Run := { r with stW := r.stW ++ [(a, bs)] }

/-- STW. -/
def execOpStw (n : Nat) (w : Word) (s : State) : Out :=
  .next (s.lOp n w 2 (fun t r => (t, r.putSt (areaWord t n r w) (leBytes 4 (r.V (fldV w)).toNat))))

/-- LDQ. -/
def execOpLdq (n : Nat) (w : Word) (us cycle : Nat) (ecc : Option EccError) (s : State) : Out :=
  .next (s.lOp n w 3 (fun t r => t.unitLoad n r (fldV w) (areaWord t n r w) 4 us cycle ecc))

/-- STQ. -/
def execOpStq (n : Nat) (w : Word) (s : State) : Out :=
  .next (s.lOp n w 4 (fun t r =>
    let b := fun i => leBytes 4 (r.V (fldV w + i)).toNat
    (t, r.putSt (areaWord t n r w) (b 0 ++ b 1 ++ b 2 ++ b 3))))

/-- LDIN (R298): the latched slot in the selected mode, or the run's arrival bits. -/
def ldinValue (r : Run) (w : Word) : Word :=
  let x := nth 0 r.slots (bitsOf w 15 12)
  match bitsOf w 11 10 with
  | 0 => x
  | 1 => toWord (laneLo x * 2 ^ 16)
  | 2 => ofLanes (laneLo x) 0
  | _ => Word.ofNat (r.arr % 65536)

/-- LDIN. -/
def execOpLdin (n : Nat) (w : Word) (s : State) : Out :=
  .next (s.lOp n w 5 (fun t r => (t, r.putV (fldV w) (ldinValue r w))))

/-- LDDEP (R298): the deposit slot live and whole. -/
def execOpLddep (n : Nat) (w : Word) (us cycle : Nat) (ecc : Option EccError) (s : State) : Out :=
  .next (s.lOp n w 6 (fun t r => t.unitLoad n r (fldV w) (t.depositAddr n r.inst (bitsOf w 15 14)) 4 us cycle ecc))

/-! ### Slips of a unit (R266, R299, R300, R306) -/

/-- The slips that a unit has outstanding (R266, R300), through whichever position's port it issued them. -/
def State.unitSlips (s : State) (u : Nat) : List Slip := s.fab.slips.filter (fun q => q.unit == some u)

/-- The unit may issue this slip now: fewer than 2 of its slips outstanding to the port, and a coin free. -/
def State.canIssue (s : State) (p : Slip) : Bool :=
  decide ((s.fab.slips.filter (fun q => p.unit.isSome && q.unit == p.unit && portOf q.addr == portOf p.addr)).length < 2) &&
  (s.takeCoin p.init).isSome

/-- Issue a slip, or stall the bundle until it can be issued. An FRD notes the tag of its slip (R156). -/
def State.unitIssue (s : State) (r : Run) (p : Slip) : State × Run :=
  if s.canIssue p then (s.issue p, { r with hold := none, holdTo := none, frdTag := if p.write then r.frdTag else s.takeCoin p.init })
  else (s, { r with hold := some p })

/-- The write slip of an output write of 4 bytes (R299): it carries the instance's name. -/
def State.outSlip (s : State) (n cycle : Nat) (r : Run) (addr : Nat) (data : Word) : Slip :=
  { init := 32 + n, addr := addr, write := true, bytes := leBytes 4 data.toNat, cycle := cycle, sub := r.inst, unit := some (s.unitOf n) }

/-- IRQ_RAW.FAB_ERR of the instance that runs. -/
def State.fabErr (s : State) (n : Nat) (r : Run) : State := s.irq (TLR.base n) (8 + r.inst)

/-- OUT (R299). -/
def execOpOut (n : Nat) (w : Word) (cycle : Nat) (s : State) : Out :=
  .next (s.lOp n w 8 (fun t r =>
    t.unitIssue r (t.outSlip n cycle r (PWM.base (bitsOf w 15 10) + 0x40 + 4 * bitsOf w 9 8) (r.V (fldV w)))))

/-- A PUSH to slot `k` of instance T`p`.`i` issues, or stalls (R299): a target that is not enabled gets no slip and FAB_ERR is set. -/
def State.pushIssue (s : State) (n cycle : Nat) (r : Run) (p i k : Nat) (data : Word) : State × Run :=
  if s.instEn p i then s.unitIssue { r with holdTo := some (p, i, k) } (s.outSlip n cycle r (s.slotAddr p i k) data)
  else (s.fabErr n r, { r with hold := none, holdTo := none })

/-- PUSH (R299). -/
def execOpPush (n : Nat) (w : Word) (cycle : Nat) (s : State) : Out :=
  .next (s.lOp n w 9 (fun t r => t.pushIssue n cycle r (bitsOf w 15 12) (bitsOf w 11 9) (bitsOf w 8 5) (r.V (fldV w))))

/-- The address lies in system SRAM. -/
def inSram (a : Nat) : Bool := 0x20000000 ≤ a && a < 0x21800000

/-- FWR accepts the address (R300): system SRAM, or a register page that PWMC, ADC, TEL, ENG or IOP serves. -/
def fwrOk (a : Nat) : Bool := a % 4 == 0 && (inSram a || ((findPage a).isSome && [32, 33, 34, 35, 37].contains (portOf a)))

/-- FRD accepts the address (R300). -/
def frdOk (a : Nat) : Bool := a % 4 == 0 && (inSram a || (0x30040000 ≤ a && a < 0x300C0000))

/-- FWR (R299, R300). -/
def execOpFwr (n : Nat) (w : Word) (cycle : Nat) (s : State) : Out :=
  .next (s.lOp n w 10 (fun t r =>
    let a := (r.V (fldVa w)).toNat
    if fwrOk a then t.unitIssue r (t.outSlip n cycle r a (r.V (fldV w))) else (t.fabErr n r, r)))

/-- TRIG (R299). -/
def execOpTrig (n : Nat) (w : Word) (cycle : Nat) (s : State) : Out :=
  .next (s.lOp n w 11 (fun t r => t.unitIssue r (t.outSlip n cycle r 0x4001F040 (r.V (fldV w)))))

/-- FRD (R300): the bundle stalls until the response. -/
def execOpFrd (n : Nat) (w : Word) (cycle : Nat) (s : State) : Out :=
  .next (s.lOp n w 12 (fun t r =>
    let a := (r.V (fldVa w)).toNat
    if frdOk a then
      t.unitIssue { r with frd := some (fldV w), frdTag := none, frdVal := none }
        { init := 32 + n, addr := a, write := false, len := 4, cycle := cycle, sub := r.inst, unit := some (t.unitOf n) }
    else (t.fabErr n r, r.putV (fldV w) 0)))

/-- The unit of position `n` has slips outstanding (R300). -/
def State.outstanding (s : State) (n : Nat) : Bool := (s.unitSlips (s.unitOf n)).length != 0

/-- FENCE (R300). -/
def execOpFence (n : Nat) (w : Word) (s : State) : Out :=
  .next (s.lOp n w 14 (fun t r => (t, { r with fence := t.outstanding n })))

/-! ### Profile generators (R269, R270, R301) -/

abbrev PG.CFG (k : Nat) : Nat := TELC.base + 0x400 + 0x20 * k
abbrev PG.X (k : Nat) : Nat := TELC.base + 0x410 + 0x20 * k

/-- One step of R269 from (x, v, a) toward r. -/
def profileStep (vmax amax jmax : Nat) (x v a r : Int) : Int × Int × Int :=
  let e := r - x
  let vdes := e.sign * (min vmax (isqrt (2 * amax * e.natAbs)) : Nat)
  let ades := clampI (-(amax : Int)) amax (vdes - v)
  let a1 := if jmax = 0 then ades else a + clampI (-(jmax : Int)) jmax (ades - a)
  let v1 := clampI (-(vmax : Int)) vmax (v + a1)
  let x1 := satN 32 (x + v1)
  if ((r - x1).sign ≠ e.sign ∨ r = x1) ∧ v1.natAbs ≤ amax then (r, 0, 0) else (x1, v1, a1)

/-- PGk accepts a step of instance Tn.i (R270); version 1 of TELC has no PG16-PG31. -/
def State.pgAccepts (s : State) (k n i : Nat) : Bool :=
  let c := s.rd (PG.CFG k)
  tb c 31 && bitsOf c 19 16 == n && bitsOf c 10 8 == i && !(s.ver TELC.base == 1 && 16 ≤ k)

/-- PGk makes one step toward `r` (R269). -/
def State.pgStep (s : State) (k : Nat) (r : Word) : State :=
  let o := profileStep (s.fld (PG.CFG k + 4) 30 0) (s.fld (PG.CFG k + 8) 30 0) (s.fld (PG.CFG k + 12) 30 0)
    (sgn (s.rd (PG.X k))) (sgn (s.rd (PG.X k + 4))) (sgn (s.rd (PG.X k + 8))) (sgn r)
  (((s.wr (PG.X k) (toWord o.1)).wr (PG.X k + 4) (toWord o.2.1)).wr (PG.X k + 8) (toWord o.2.2)).wr (PG.X k + 12) r

/-- PGSTEP (R301): the new set-point after 8 cycles; a refused step returns x unchanged and sets FAB_ERR. -/
def execOpPgstep (n : Nat) (w : Word) (s : State) : Out :=
  .next (s.lOp n w 13 (fun t r =>
    let k := bitsOf w 10 6
    let t1 := if t.pgAccepts k n r.inst then t.pgStep k (r.V (fldVa w)) else t.fabErr n r
    (t1, { r.putV (fldV w) (t1.rd (PG.X k)) with fixed := true })))

/-! ### The end of a stall (R306) -/

/-- A slip that waited is issued when it now can be; a PUSH takes its target as it stands now (R299). -/
def State.stallIssue (s : State) (n : Nat) (r : Run) (cycle : Nat) : State × Run :=
  match r.hold with
  | none => (s, r)
  | some p =>
    match r.holdTo with
    | some (q, i, k) => s.pushIssue n cycle r q i k (Word.ofNat (leNat p.bytes))
    | none => s.unitIssue r { p with cycle := cycle }

/-- What a bundle's stalls have come to (R306): an FRD takes its response, a FENCE ends when nothing is outstanding. -/
def Run.unstall (r : Run) (busy fixedEnds : Bool) : Run :=
  let r1 := match r.frd, r.frdVal with
    | some d, some v => { r.putV d v with frd := none, frdTag := none, frdVal := none }
    | _, _ => r
  { r1 with fixed := r1.fixed && !fixedEnds, fence := r1.fence && busy }

/-- BUNDLE_STALL_END (R306): the causes that have ended no longer stall the bundle, the fixed one where `fixedEnds`; a
waiting slip issues. -/
def execBundleStallEnd (n cycle : Nat) (fixedEnds : Bool) (s : State) : Out :=
  .next (s.clocked .tel (fun s => match s.runAt n with
    | none => s
    | some r =>
      let q := s.stallIssue n r cycle
      (q.1.setRun n (q.2.unstall (q.1.outstanding n) fixedEnds)).bundleEnd n))

end Sys2Proof.Machine
end

