-- ==== Sys2Proof/Machine/TellerScan.lean ====
section
/-!
DEFINITION. The program image and its admission scan (R264, R284, R289, R304-R311): validity, the static figures WCET and
LASTOUT on every path, the reach into the state area, and the positions an image pushes into.
-/
namespace Sys2Proof.Machine

/-- One form of an image as the scan reads it: its bundles, each a list of the four syllables M0, M1, L, C. -/
abbrev TForm := List (List Word)

/-- Slot `k` of bundle `i` of a form. -/
def synAt (f : TForm) (i k : Nat) : Word := nth 0 (nth [] f i) k

/-- The `cnt` bundles of the library from bundle `b`. -/
def State.libForm (s : State) (b cnt : Nat) : TForm :=
  (List.range cnt).map (fun i => [3, 2, 1, 0].map (fun k => s.memWord (libBase + 16 * (b + i) + 4 * k)))

/-- An image's header (R308). -/
structure ImageHead where
  magic : Nat
  isaver : Nat
  flags : Nat
  nfull : Nat
  nsc : Nat
  resv : Nat
  check : Nat
deriving DecidableEq, Repr

/-- The header at library bundle `prog`. -/
def State.imageHead (s : State) (prog : Nat) : ImageHead :=
  let a := libBase + 16 * prog
  { magic := leNat (s.getBytes a 4), isaver := leNat (s.getBytes (a + 4) 1), flags := leNat (s.getBytes (a + 5) 1),
    nfull := leNat (s.getBytes (a + 6) 2), nsc := leNat (s.getBytes (a + 8) 2), resv := leNat (s.getBytes (a + 10) 2),
    check := leNat (s.getBytes (a + 12) 4) }

/-- Bundles the image occupies (R309). -/
def ImageHead.size (h : ImageHead) : Nat := 5 + h.nfull + h.nsc

/-- The small-change form follows. -/
def ImageHead.sc (h : ImageHead) : Bool := h.flags % 2 == 1

/-- The header, its reserved fields, the check value and the shift tables hold (R308-R310). -/
def State.imageHeadOk (s : State) (prog : Nat) : Bool :=
  let h := s.imageHead prog
  let a := libBase + 16 * prog
  let shOk := fun (o : Nat) => (List.range 32).all (fun k =>
    let v := toSigned 8 (s.byte (a + o + k)).toNat
    decide (-32 ≤ v) && decide (v ≤ 31) && (o == 0x10 || h.sc || decide (v = 0)))
  decide (h.magic = 0x504C4554) && h.isaver == 1 && decide (h.flags < 2) && decide (1 ≤ h.nfull ∧ h.nfull ≤ 512) &&
  (if h.sc then decide (1 ≤ h.nsc ∧ h.nsc ≤ 512) else h.nsc == 0) && h.resv == 0 && decide (prog + h.size ≤ 16384) &&
  shOk 0x10 && shOk 0x30 && decide (h.check = crc32c (s.getBytes (a + 16) (16 * (h.size - 1))))

/-! ### Register groups (R284, R288-R294, R310) -/

/-- Two lists of registers share none. -/
def disjointN (a b : List Nat) : Bool := a.all (fun x => !b.contains x)

/-- No register occurs twice. -/
def nodupN : List Nat → Bool
  | [] => true
  | x :: t => !t.contains x && nodupN t

/-- The group rules of an M operation (R288, R290-R292, R294). -/
def mGroupsOk (sc : Bool) (w : Word) : Bool :=
  let d := fldD w
  let x := fldX w
  let y := fldY w
  match synOpc w with
  | 0x01 | 0x02 | 0x03 | 0x04 | 0x05 => !sc || fldAcc w % 2 == 0
  | 0x18 => decide (y ≤ 30)
  | 0x20 => decide (y ≤ if sc then 29 else 27) && decide (fldZ w ≤ 30) && !(group (fldZ w) 2).contains d
  | 0x21 => decide (x ≤ if sc then 30 else 29) && decide (d ≤ if sc then 31 else 30) &&
      disjointN (group x (if sc then 2 else 3)) (group d (if sc then 1 else 2))
  | 0x22 => decide (x ≤ if sc then 31 else 30) && decide (d ≤ if sc then 30 else 29) &&
      disjointN (group x (if sc then 1 else 2)) (group d (if sc then 2 else 3))
  | 0x23 | 0x24 => decide (x ≤ if sc then 31 else 30) && decide (d ≤ if sc then 31 else 30) &&
      !(group x (if sc then 1 else 2)).contains y && !(group d (if sc then 1 else 2)).contains y
  | _ => true

/-- The rules of an L operation that need no loop (R296, R297). -/
def lRulesOk (w : Word) : Bool :=
  match synOpc w with
  | 3 | 4 => fldV w % 4 == 0 && fldOff w % 4 == 0 && (bitsOf w 15 14 == 0 || bitsOf w 15 14 == 3)
  | 6 => fldV w % 4 == 0
  | 8 => decide (bitsOf w 15 10 ≤ 47)
  | _ => true

/-- MAC or MSU, or their lane forms. -/
def isMac (w : Word) : Bool := synOpc w == 1 || synOpc w == 2

/-- No register is written twice in a bundle; MAC and MSU may share an accumulator (R284, R289). -/
def writesOk (sc : Bool) (b : List Word) : Bool :=
  let m0 := nth 0 b 0
  let m1 := nth 0 b 1
  nodupN (mWritesV sc m0 ++ mWritesV sc m1 ++ lWritesV (nth 0 b 2)) &&
  ((isMac m0 && isMac m1) || disjointN (mWritesAcc sc m0) (mWritesAcc sc m1))

/-- The rules of one bundle that need no control flow. -/
def bundleOk (sc : Bool) (b : List Word) : Bool :=
  let m0 := nth 0 b 0
  let m1 := nth 0 b 1
  syllableOk sc 0 m0 && syllableOk sc 1 m1 && syllableOk sc 2 (nth 0 b 2) && syllableOk sc 3 (nth 0 b 3) &&
  !m0Only (synOpc m1) && (!m0Only (synOpc m0) || synOpc m1 == 0) && mGroupsOk sc m0 && mGroupsOk sc m1 && lRulesOk (nth 0 b 2) &&
  writesOk sc b

/-! ### Control flow (R304, R305) -/

/-- The loops of a form: (index of the LOOP bundle, last body bundle, iterations). -/
def loopsOf (f : TForm) : List (Nat × Nat × Nat) :=
  ((List.range f.length).filter (fun i => synOpc (synAt f i 3) == 3)).map (fun i =>
    (i, bitsOf (synAt f i 3) 8 0, bitsOf (synAt f i 3) 16 9 + 1))

/-- The loops whose body holds bundle `j`, outer first. -/
def enclosing (ls : List (Nat × Nat × Nat)) (j : Nat) : List (Nat × Nat × Nat) := ls.filter (fun l => l.1 < j && j ≤ l.2.1)

/-- The loops nest properly, at most two deep, and end in an allowed operation (R304). -/
def loopsOk (f : TForm) : Bool :=
  let ls := loopsOf f
  ls.all (fun l =>
    decide (l.1 + 1 ≤ l.2.1) && decide (l.2.1 < f.length) && !synPen (synAt f l.1 3) &&
    (enclosing ls l.1).all (fun o => decide (l.2.1 ≤ o.2.1)) && decide ((enclosing ls l.1).length ≤ 1) &&
    [0, 4, 5, 6, 7, 8, 1].contains (synOpc (synAt f l.2.1 3)))

/-- Branches stay inside their innermost body and go forward (R305). -/
def branchesOk (f : TForm) : Bool :=
  let ls := loopsOf f
  (List.range f.length).all (fun i =>
    let c := synAt f i 3
    synOpc c != 2 ||
      (decide (i < bitsOf c 8 0) && decide (bitsOf c 8 0 < f.length) &&
       decide ((enclosing ls (bitsOf c 8 0)).getLast? = (enclosing ls i).getLast?)))

/-- Stride codes name a loop that encloses the bundle (R297). -/
def stridesOk (f : TForm) : Bool :=
  let ls := loopsOf f
  (List.range f.length).all (fun i =>
    let w := synAt f i 2
    !(1 ≤ synOpc w && synOpc w ≤ 4) || bitsOf w 15 14 == 0 || decide (fldLevel w < (enclosing ls i).length))

/-- The last bundle holds an unpredicated END (R305). -/
def endOk (f : TForm) : Bool :=
  let c := synAt f (f.length - 1) 3
  synOpc c == 1 && !synPen c

/-- Everything R310 asks of a form but its WCET. -/
def formOk (sc : Bool) (f : TForm) : Bool :=
  f.all (bundleOk sc) && loopsOk f && branchesOk f && stridesOk f && endOk f

/-! ### The static figures (R306, R307) -/

/-- The fixed stall cycles of an M operation (R306). -/
def mStall (w : Word) : Nat :=
  match synOpc w with
  | 0x20 => 3
  | 0x21 | 0x22 => 1
  | 0x23 | 0x24 => 2
  | _ => 0

/-- What a path of the scan has come to: the last cycle of its last bundle, the completion cycles of the 8 coins and of the 2
places at each port. Ports: 0-11 PWG, 12-27 TSM, 28 SRAM, 29 PWMC, 30 ADC, 31 TEL, 32 ENG, 33 IOP. -/
structure ScanState where
  cyc : Nat
  coins : List Nat
  ports : List (Nat × Nat)
deriving DecidableEq, Repr

/-- The start state of R307. -/
def scanStart : ScanState :=
  { cyc := 0, coins := List.replicate 8 24, ports := List.replicate 28 (24, 24) ++ List.replicate 6 (160, 160) }

/-- The ports an output write or FRD is taken as being on, and its completion time (R307). -/
def scanPorts (w : Word) : Option (List Nat × Nat) :=
  match synOpc w with
  | 8 => some ([bitsOf w 15 10 / 4], 24)
  | 9 => some ([12 + bitsOf w 15 12], 24)
  | 10 => some ([28, 29, 30, 31, 32, 33], 160)
  | 11 => some ([30], 160)
  | 12 => some (group 12 17, 160)
  | _ => none

/-- The least of a list of completion cycles. -/
def leastOf (l : List Nat) : Nat := l.foldl min (l.headD 0)

/-- Replace the first occurrence of `a` by `b`. -/
def replaceFirst (a b : Nat) : List Nat → List Nat
  | [] => []
  | x :: t => if x = a then b :: t else x :: replaceFirst a b t

/-- A slip of the scan issues at the first cycle from `c` at which a coin and a place at each port are free. -/
def ScanState.issueAt (q : ScanState) (c : Nat) (ps : List Nat) : Nat :=
  (ps.map (fun p => min (nth (0, 0) q.ports p).1 (nth (0, 0) q.ports p).2 + 1)).foldl max (max c (leastOf q.coins + 1))

/-- The scan after one bundle `b` that starts in the cycle after the last: its last cycle, and the cycle in which an output
write issues (0 for none). -/
def ScanState.bundle (q : ScanState) (b : List Word) : ScanState × Nat :=
  let c := q.cyc + 1
  let w := nth 0 b 2
  let base := c + max (mStall (nth 0 b 0)) (if synOpc w == 13 then 7 else 0)
  match scanPorts w with
  | some (ps, d) =>
    let t := q.issueAt c ps
    let ports := ps.foldl (fun l p => upd l p (fun x => if x.1 ≤ x.2 then (t + d, x.2) else (x.1, t + d))) q.ports
    let q1 : ScanState := { cyc := 0, coins := replaceFirst (leastOf q.coins) (t + d) q.coins, ports := ports }
    if synOpc w == 12 then ({ q1 with cyc := max base (t + d) }, 0) else ({ q1 with cyc := max base t }, t)
  | none =>
    if synOpc w == 14 then
      ({ q with cyc := q.ports.foldl (fun m x => max m (max x.1 x.2)) (q.coins.foldl max base) }, 0)
    else ({ q with cyc := base }, 0)

/-- The two figures of R307, and whether every path has ended within 65,535 cycles. -/
structure Figures where
  wcet : Nat := 0
  lastout : Nat := 0
  ok : Bool := true
deriving DecidableEq, Repr

/-- The worse of two paths. -/
def Figures.join (a b : Figures) : Figures :=
  { wcet := max a.wcet b.wcet, lastout := max a.lastout b.lastout, ok := a.ok && b.ok }

/-- Scan every path from bundle `i` (R307): predicated branches both ways, each loop body its n times. A bundle takes a
cycle at least, so a path longer than 65,535 bundles has no valid WCET. -/
def scanPath (f : TForm) : Nat → Nat → List LoopFrame → ScanState → Figures
  | 0, _, _, _ => { ok := false }
  | k + 1, i, fr, q =>
    if f.length ≤ i then { ok := false }
    else
      let (q1, t) := q.bundle (nth [] f i)
      let c := synAt f i 3
      let here : Figures := { wcet := 0, lastout := t, ok := decide (q1.cyc ≤ 65535) }
      if 65535 < q1.cyc then here
      else
        let next := fun (_ : Unit) => let s := loopStep i fr; scanPath f k s.1 s.2 q1
        let rest : Figures :=
          match synOpc c with
          | 1 => if synPen c then ({ wcet := q1.cyc } : Figures).join (next ()) else { wcet := q1.cyc }
          | 2 =>
            let taken := scanPath f k (bitsOf c 8 0) fr q1
            if synPen c then taken.join (next ()) else taken
          | 3 => scanPath f k (i + 1) ({ start := i + 1, last := bitsOf c 8 0, idx := 0, n := bitsOf c 16 9 + 1 } :: fr) q1
          | _ => next ()
        here.join rest

/-- The figures of a form (R264, R307). -/
def formFigures (f : TForm) : Figures := scanPath f 65536 0 [] scanStart

/-! ### What admission needs of an image -/

/-- The highest byte that a state-memory operation of bundle `i` can reach in the area, plus one (R311). -/
def reachOf (f : TForm) (i : Nat) : Nat :=
  let w := synAt f i 2
  let o := synOpc w
  if 1 ≤ o ∧ o ≤ 4 then
    let n := match (enclosing (loopsOf f) i)[fldLevel w]? with
      | some l => l.2.2
      | none => 1
    4 * (fldOff w + (n - 1) * fldStride w) + (if o ≤ 2 then 4 else 16)
  else 0

/-- The reach of a form. -/
def formReach (f : TForm) : Nat := (List.range f.length).foldl (fun m i => max m (reachOf f i)) 0

/-- The positions a form pushes into. -/
def pushTargets (f : TForm) : List Nat :=
  ((List.range f.length).filter (fun i => synOpc (synAt f i 2) == 9)).map (fun i => bitsOf (synAt f i 2) 15 12)

/-- What the scan finds of an image (R264). -/
structure ImageScan where
  valid : Bool := false
  hasSc : Bool := false
  full : Figures := {}
  small : Figures := {}
  reach : Nat := 0
  pushes : List Nat := []
deriving DecidableEq, Repr

/-- The scan of the image at library bundle `prog` (R264, R310, R311). -/
def State.scanImage (s : State) (prog : Nat) : ImageScan :=
  if s.imageHeadOk prog then
    let h := s.imageHead prog
    let f := s.libForm (prog + 5) h.nfull
    let g := s.libForm (prog + 5 + h.nfull) h.nsc
    if formOk false f && (!h.sc || formOk true g) then
      let a := formFigures f
      let b := if h.sc then formFigures g else {}
      { valid := a.ok && b.ok, hasSc := h.sc, full := a, small := b, reach := max (formReach f) (formReach g),
        pushes := pushTargets f ++ pushTargets g }
    else {}
  else {}

end Sys2Proof.Machine
end

