-- ==== Sys2Proof/Machine/TellerArray.lean ====
section
/-!
DEFINITION. The teller array (chapter 11): pushes and readiness, scheduling, admission, the library, profile generators'
registers, rotation, unit errors, fallback and small-change mode (R256-R280).
-/
namespace Sys2Proof.Machine

abbrev INST.CFG (n i : Nat) : Nat := TLR.base n + 0x100 + 0x20 * i
abbrev INST.AREA (n i : Nat) : Nat := TLR.base n + 0x104 + 0x20 * i
abbrev INST.SUB (n i : Nat) : Nat := TLR.base n + 0x108 + 0x20 * i
abbrev INST.DL (n i : Nat) : Nat := TLR.base n + 0x10C + 0x20 * i
abbrev INST.MIV (n i : Nat) : Nat := TLR.base n + 0x110 + 0x20 * i
abbrev INST.WCET (n i : Nat) : Nat := TLR.base n + 0x114 + 0x20 * i
abbrev INST.WCSC (n i : Nat) : Nat := TLR.base n + 0x118 + 0x20 * i
abbrev INST.BOUND (n i : Nat) : Nat := TLR.base n + 0x11C + 0x20 * i
abbrev INSTSTAT (n i : Nat) : Nat := TLR.base n + 0x200 + 4 * i
abbrev TLR.ADMIT (n : Nat) : Nat := TLR.base n + 0x44

/-- Instance Tn.i beside its registers. -/
def State.inst (s : State) (n i : Nat) : TelInst := nth ({} : TelInst) (s.tpos n).inst i

/-- Change instance Tn.i. -/
def State.updInst (s : State) (n i : Nat) (f : TelInst → TelInst) : State :=
  s.updTpos n (fun p => { p with inst := upd p.inst i f })

/-- Change the teller array. -/
def State.updTel (s : State) (f : TelArr → TelArr) : State := { s with tel := f s.tel }

/-! ### Readiness (R260) -/

/-- An enabled instance becomes ready at CLK_TEL cycle `cycle`; one that is ready already stays ready once. -/
def State.makeReady (s : State) (n i cycle : Nat) : State :=
  if s.instEn n i && !(s.inst n i).ready then
    (s.updInst n i (fun x => { x with ready := true, since := cycle })).instRefresh n i
  else s

/-- A push lands in slot `k` of enabled instance Tn.i. -/
def State.arrive (s : State) (n i k cycle : Nat) : State :=
  let was := (s.inst n i).arr.testBit k
  let s1 := if was then s.irq (TLR.base n) i else s
  let arr := if was then (s.inst n i).arr else (s.inst n i).arr + 2 ^ k
  let s2 := s1.updInst n i (fun x => { x with arr := arr })
  let m := s2.fld (INST.SUB n i) 15 0
  if m ≠ 0 ∧ (arr &&& m) = m then s2.makeReady n i cycle else s2

/-- The enabled instance of position `n` and the input slot at address `a`. -/
def State.slotAt (s : State) (n a : Nat) : Option (Nat × Nat) :=
  ((List.range 8).find? (fun i => s.instEn n i && decide (s.areaBase n i ≤ a ∧ a < s.areaBase n i + 0x40))).map
    (fun i => (i, (a - s.areaBase n i) / 4))

/-- The position whose state memory holds address `a`. -/
def tsmOf (a : Nat) : Nat := (a - 0x30040000) / 0x8000

/-- A push lands (R129, R260): it leaves the FIFO, its word is stored, its slip is applied, and the slot it hits has an arrival. -/
def State.land (s : State) (n cycle : Nat) (q : Arrival) : State :=
  let s1 := (s.updTel (fun t => { t with arriving := t.arriving.erase q })).telStore q.addr (leBytes 4 q.data.toNat)
  let s2 := s1.updSlip q.coin (fun x => { x with onWay := false })
  match s2.slotAt n q.addr with
  | some (i, k) => s2.arrive n i k cycle
  | none => s2

/-- PUSH_ARRIVAL (R260): the oldest granted push of position n lands at CLK_TEL cycle `cycle`. -/
def execPushArrival (n cycle : Nat) (s : State) : Out :=
  .next (s.clocked .tel (fun s => match s.tel.arriving.find? (fun q => tsmOf q.addr == n) with
    | none => s
    | some q => s.land n cycle q))

/-- A write to KICK (R260); version 1 has none. -/
def kickWrite (init n : Nat) (data : Word) (cycle : Nat) (s : State) : State :=
  let a := TLR.base n + 0x48
  if s.ver (TLR.base n) = 1 then s.respond init a 0
  else ((List.range 8).foldl (fun t i => if tb data i then t.makeReady n i cycle else t) s).respond init a 0

/-- KICK_WRITE (R260). -/
def execKickWrite (init n : Nat) (data : Word) (cycle : Nat) (s : State) : Out :=
  .next (s.writeAt .tel (TLR.base (n % 16)) init (TLR.base (n % 16) + 0x48) data (kickWrite init (n % 16) data cycle) cycle)

/-! ### Scheduling (R261, R262, R277) -/

/-- An instance that can be started: its priority and readiness time. -/
def State.startable (s : State) (n i : Nat) : Bool := s.instEn n i && (s.inst n i).ready && s.en (TLR.base n)

/-- (p, i) goes before (q, j): higher priority, then ready earlier; equal ones keep their order. -/
def State.before (s : State) (a b : Nat × Nat) : Bool :=
  let pa := s.fld (INST.CFG a.1 a.2) 26 24
  let pb := s.fld (INST.CFG b.1 b.2) 26 24
  pb < pa || (pa == pb && (s.inst a.1 a.2).since < (s.inst b.1 b.2).since)

/-- The instance that the unit of position `n` starts next (R262): ties go to the lower position, then the lower instance. -/
def State.chosen (s : State) (n : Nat) : Option (Nat × Nat) :=
  let all := (s.unitPositions n).flatMap (fun p => ((List.range 8).filter (fun i => s.startable p i)).map (fun i => (p, i)))
  all.foldl (fun best c => match best with
    | none => some c
    | some b => if s.before c b then some c else some b) none

/-- The unit of position `n` is there and idle, and serves `n` itself (R262, R277). -/
def State.unitIdle (s : State) (n : Nat) : Bool :=
  s.served n && (s.tpos n).host.isNone && (s.unitPositions n).all (fun p => (s.runAt p).isNone)

/-- The slots of Tn.i are latched: those of a word with an uncorrectable error read 0, and MEM_ERR is set (R257, R483). -/
def State.latchSlots (s : State) (n i us cycle : Nat) : State × List Word :=
  let a := s.areaBase n i
  let rd := fun (q : State × List Word) (b : Nat) =>
    let e := q.1.eccSpan (a + 16 * b) 16 us cycle none
    ((if e.2 then e.1.irq (TLR.base n) (16 + i) else e.1),
     q.2 ++ (List.range 4).map (fun k => if e.2 then 0 else s.memWord (a + 16 * b + 4 * k)))
  [0, 1, 2, 3].foldl rd (s, [])

/-- An instance starts (R261): slots latched, arrival bits and registers cleared. -/
def State.startInst (s0 : State) (n i us cycle : Nat) : State :=
  let l := s0.latchSlots n i us cycle
  let s := l.1
  let sc := s.bit (INSTSTAT n i) 29
  let prog := s.fld (INST.CFG n i) 13 0
  let run : Run := {
    inst := i, sc := sc, prog := prog, base := prog + 5 + (if sc then (s.imageHead prog).nfull else 0),
    slots := l.2, arr := (s.inst n i).arr,
    shadowed := decide (s.fld TELC.ROTSTAT 31 30 = 2) && decide (s.fld TELC.ROTSTAT 27 24 = n) }
  let s1 := (s.updInst n i (fun x => { x with ready := false, arr := 0 })).setRun n run
  let s2 := ((s1.setBit (TLR.STAT n) 4 true).setFld (TLR.STAT n) 2 0 i).setFld (INSTSTAT n i) 15 0 (s.fld (INSTSTAT n i) 15 0 + 1)
  s2.instRefresh n i

/-- INSTANCE_START (R261): the idle unit of position n starts the highest-priority ready instance. `us` and `cycle` place the
log record of an error that latching the slots finds. -/
def execInstanceStart (n us cycle : Nat) (s : State) : Out :=
  .next (s.clocked .tel (fun s => if n < 16 ∧ s.unitIdle n then
    match s.chosen n with
    | some (p, i) => s.startInst p i us cycle
    | none => s
  else s))

/-! ### Admission (R264, R265, R278) -/

/-- The enabled instances of some positions, in order. -/
def State.members (s : State) (ps : List Nat) : List (Nat × Nat) :=
  ps.flatMap (fun p => ((List.range 8).filter (fun i => s.instEn p i)).map (fun i => (p, i)))

/-- WCET and LASTOUT of an instance in the form `sc` says it would run. -/
def State.figures (s : State) (sc : Nat → Nat → Bool) (m : Nat × Nat) : Nat × Nat :=
  let a := if sc m.1 m.2 then INST.WCSC m.1 m.2 else INST.WCET m.1 m.2
  (s.fld a 15 0, s.fld a 31 16)

/-- The priority of an instance. -/
def State.prioOf (s : State) (m : Nat × Nat) : Nat := s.fld (INST.CFG m.1 m.2) 26 24

/-- The worst-case wait W of instance `m` in a set (R265). -/
def State.waitOf (s : State) (sc : Nat → Nat → Bool) (ms : List (Nat × Nat)) (m : Nat × Nat) : Nat :=
  let low := (ms.filter (fun j => s.prioOf j < s.prioOf m)).foldl (fun x j => max x (s.figures sc j).1) 0
  let high := (ms.filter (fun j => j != m && s.prioOf m ≤ s.prioOf j)).foldl (fun x j => x + (s.figures sc j).1) 0
  low + high

/-- The positions that the image of an instance pushes into. -/
def State.imagePushes (s : State) (m : Nat × Nat) : List Nat :=
  let prog := s.fld (INST.CFG m.1 m.2) 13 0
  let h := s.imageHead prog
  pushTargets (s.libForm (prog + 5) h.nfull) ++ pushTargets (s.libForm (prog + 5 + h.nfull) h.nsc)

/-- Q of R265: how many other positions have an enabled instance whose image pushes into position `n`. -/
def State.pushersInto (s : State) (n : Nat) : Nat :=
  ((List.range 16).filter (fun p => p != n && (s.members [p]).any (fun m => (s.imagePushes m).contains n))).length

/-- The number of 1 bits of a value below 2¹⁶. -/
def popcount (v : Nat) : Nat := ((List.range 16).filter (fun k => v.testBit k)).length

/-- Condition 0x06 at position `n` (R265), over the instances `ms` of its unit. -/
def State.portOk (s : State) (ms : List (Nat × Nat)) (n : Nat) : Bool :=
  let ins := ms.foldl (fun x m => x + popcount (s.fld (INST.SUB m.1 m.2) 15 0)) 0
  let deps := ms.foldl (fun x m => x + popcount (s.fld (INST.SUB m.1 m.2) 19 16)) 0
  decide (ins + min 3 deps + 2 * s.pushersInto n ≤ 8)

/-- Condition 0x02 but its reach: the area inside the memory, apart from the position's other areas (R259). -/
def State.areaOk (s : State) (m : Nat × Nat) : Bool :=
  let lo := fun (j : Nat × Nat) => s.fld (INST.AREA j.1 j.2) 10 0
  let hi := fun (j : Nat × Nat) => s.fld (INST.AREA j.1 j.2) 10 0 + s.fld (INST.AREA j.1 j.2) 27 16
  decide (8 ≤ s.fld (INST.AREA m.1 m.2) 27 16) && decide (hi m ≤ 2048) &&
  (s.members [m.1]).all (fun j => j == m || decide (hi j ≤ lo m) || decide (hi m ≤ lo j))

/-- The lowest code among the conditions that instance `m` fails, 0 for none (R265). `new` is the instance being enabled and
what the scan found of its image; the others were valid when they were enabled, and their images cannot change (R258). -/
def State.admitCode (s : State) (sc : Nat → Nat → Bool) (ms : List (Nat × Nat)) (new : Option ((Nat × Nat) × ImageScan))
    (m : Nat × Nat) : Nat :=
  let c := (s.figures sc m).1
  let w := s.waitOf sc ms m
  let isNew := match new with
    | some (j, q) => if j = m then some q else none
    | none => none
  let valid := match isNew with
    | some q => q.valid
    | none => true
  let reach := match isNew with
    | some q => decide (q.reach ≤ s.fld (INST.AREA m.1 m.2) 27 16 * 16)
    | none => true
  if !valid then 1
  else if !(s.areaOk m && reach) then 2
  else if (s.rd (INST.DL m.1 m.2)).toNat < w + (s.figures sc m).2 then 3
  else if (s.rd (INST.MIV m.1 m.2)).toNat < w + c then 4
  else if ms.any (fun j => j != m && decide (s.prioOf m < s.prioOf j) && decide ((s.rd (INST.MIV j.1 j.2)).toNat ≤ w)) then 5
  else if !s.portOk ms m.1 then 6
  else if 14 ≤ m.1 ∧ s.bit TELC.ROTCFG 31 then 7
  else 0

/-- The first instance of a set that fails, with its code: (code, position, instance). -/
def State.admission (s : State) (sc : Nat → Nat → Bool) (ps : List Nat) (new : Option ((Nat × Nat) × ImageScan)) :
    Option (Nat × Nat × Nat) :=
  let ms := s.members ps
  (ms.find? (fun m => s.admitCode sc ms new m != 0)).map (fun m => (s.admitCode sc ms new m, m.1, m.2))

/-- The form each instance runs in (INSTSTATs.FORM). -/
def State.forms (s : State) : Nat → Nat → Bool := fun n i => s.bit (INSTSTAT n i) 29

/-- INSTs_BOUND of every instance of a set (R265). -/
def State.boundsRefresh (s : State) (ps : List Nat) : State :=
  let ms := s.members ps
  ms.foldl (fun t m => t.setFld (INST.BOUND m.1 m.2) 31 16 (min (s.waitOf s.forms ms m) 65535)) s

/-- What a successful admission leaves in ADMIT: code 0; the manual gives POS and INST no value then (free values). -/
def State.admitted (s : State) (n : Nat) : State :=
  ((s.wr (TLR.ADMIT n) 0).setFld (TLR.ADMIT n) 7 4 s.freeWord.toNat).setFld (TLR.ADMIT n) 2 0 (s.freeWord.toNat / 16) |>.bumpFree

/-- Enable Tn.i with its configuration word `cfg` (R264): scan, admission, and the tests of the positions it pushes into.
`none`: admitted. -/
def State.tryEnable (s : State) (n i : Nat) (cfg : Word) : State × Option (Nat × Nat × Nat) :=
  let q := s.scanImage (bitsOf cfg 13 0)
  let s1 := s.wr (INST.CFG n i) (putBits (putBits (putBits 0 31 31 1) 26 24 (bitsOf cfg 26 24)) 13 0 (bitsOf cfg 13 0))
  let s2 := (s1.wr (INST.WCET n i) (Word.ofNat (q.full.lastout * 65536 + q.full.wcet))).wr (INST.WCSC n i)
    (Word.ofNat (q.small.lastout * 65536 + q.small.wcet))
  let s3 := (s2.wr (INSTSTAT n i) 0).setBit (INSTSTAT n i) 28 (s.bit (TLR.STAT n) 12)
  match s3.admission s3.forms (s3.unitSet n) (some ((n, i), q)) with
  | some f => (s, some f)
  | none =>
    match (List.range 16).find? (fun p => p != n && q.pushes.contains p && !s3.portOk (s3.members (s3.unitSet p)) p) with
    | some p => (s, some (6, p, ((s3.members [p]).head?.map (·.2)).getD 0))
    | none => (s3, none)

/-- An instance leaves the schedule (R263): the set that shares its unit is tested again in full form (R278). -/
def State.disableInst (s : State) (n i : Nat) : State :=
  let s1 := (s.setBit (INST.CFG n i) 31 false).updInst n i (fun x => { x with ready := false, arr := 0 })
  let s2 := (s1.setBit (INSTSTAT n i) 28 false).instRefresh n i
  let ps := s2.unitSet n
  let full := (s2.admission (fun _ _ => false) ps none).isNone
  let s3 := if full then (s2.members ps).foldl (fun t m => t.setBit (INSTSTAT m.1 m.2) 29 false) s2 else s2
  let active := (s3.members (List.range 16)).any (fun m => s3.bit (INSTSTAT m.1 m.2) 29)
  ((s3.setBit TELC.CAPSTAT 1 active).boundsRefresh ps).shadowProgress

/-- An instance that is enabled while its position is shadowed has run no shadowed run yet (R272). -/
def State.newcomer (s : State) (n i : Nat) : State :=
  if s.fld TELC.ROTSTAT 27 24 = n then (s.updTel (fun t => { t with runs := upd t.runs i (fun _ => 0) })).shadowProgress else s

/-- A write to INSTs_CFG (R9, R263, R264). -/
def instCfgWrite (init n i : Nat) (data : Word) (s : State) : State :=
  let a := INST.CFG n i
  let old := s.rd a
  let same := bitsOf old 26 24 == bitsOf data 26 24 && bitsOf old 13 0 == bitsOf data 13 0
  if s.locked (TLR.base n) && !same then s.errorResp init a .lockedField true
  else if tb old 31 then
    if !same then s.errorResp init a .refused true
    else if tb data 31 then s.respond init a 0
    else (s.disableInst n i).respond init a 0
  else if tb data 31 then
    match s.tryEnable n i data with
    | (s1, none) =>
      (((((s1.admitted n).updInst n i (fun _ => {})).instRefresh n i).boundsRefresh (s1.unitSet n)).newcomer n i).respond init a 0
    | (s1, some (c, p, k)) => (s1.wr (TLR.ADMIT n) (Word.ofNat (c * 65536 + p * 16 + k))).errorResp init a .refused true
  else s.plainWrite init a data

/-- INSTANCE_ENABLE (R264): a write of `data` with EN set to INSTi_CFG of Tn. -/
def execInstanceEnable (init n i : Nat) (data : Word) (s : State) : Out :=
  .next (s.writeAt .tel (TLR.base (n % 16)) init (INST.CFG (n % 16) (i % 8)) (data ||| 0x80000000)
    (instCfgWrite init (n % 16) (i % 8) (data ||| 0x80000000)))

/-- INSTANCE_DISABLE (R263): a write of `data` with EN clear to INSTi_CFG of Tn. -/
def execInstanceDisable (init n i : Nat) (data : Word) (s : State) : Out :=
  .next (s.writeAt .tel (TLR.base (n % 16)) init (INST.CFG (n % 16) (i % 8)) (data &&& 0x7FFFFFFF)
    (instCfgWrite init (n % 16) (i % 8) (data &&& 0x7FFFFFFF)))

/-- A write to AREA, SUB, DL or MIV of an enabled instance that would change it is refused. -/
def instFieldWrite (init n i a : Nat) (data : Word) (s : State) : State :=
  let s1 := s.plainWrite init a data
  if s1.bus.resp.cause = 0 ∧ s.instEn n i ∧ s1.rd a ≠ s.rd a then s.errorResp init a .refused true else s1

/-- A write to FALLBACK: a host that names the position itself is refused. -/
def fallbackWrite (init n : Nat) (data : Word) (s : State) : State :=
  if bitsOf data 3 0 = n then s.errorResp init (TLR.base n + 0x40) .refused true else s.plainWrite init (TLR.base n + 0x40) data

/-! ### The program library (R258) -/

/-- The bytes `a` … `a + len - 1` touch the image of an enabled instance. -/
def State.imageTouched (s : State) (a len : Nat) : Bool :=
  (s.members (List.range 16)).any (fun m =>
    let prog := s.fld (INST.CFG m.1 m.2) 13 0
    decide (libBase + 16 * prog < a + len) && decide (a < libBase + 16 * (prog + (s.imageHead prog).size)))

/-- A write into the library is applied, or refused inside an image in use. -/
def libWrite (init a sub : Nat) (bs : List Byte) (s : State) : State :=
  if s.imageTouched a bs.length then s.errorResp init a .refused true sub else (s.memStore init a bs).respond init a 0

/-- LIBRARY_WRITE (R258): up to 16 bytes inside one 16-byte block (R155). -/
def execLibraryWrite (init addr : Nat) (bytes : List Byte) (s : State) : Out :=
  .next (if !slipSizeOk addr bytes.length then s.errorResp init addr .size true
    else if addr < libBase ∨ libBase + 0x40000 ≤ addr then s.errorResp init addr .unmapped true
    else s.access .tel libBase { init := init, addr := addr, data := 0, bytes := bytes } (libWrite init addr 0 bytes))

/-! ### Profile generators' registers (R270) -/

/-- A write to PGk_X: sets x and clears v and a while the generator is disabled. -/
def pgXWrite (init k : Nat) (data : Word) (s : State) : State :=
  let a := PG.X k
  if s.ver TELC.base = 1 ∧ 16 ≤ k then s.respond init a 0
  else if s.bit (PG.CFG k) 31 then s.errorResp init a .refused true
  else (((s.wr a data).wr (a + 4) 0).wr (a + 8) 0).respond init a 0

/-- PG_X_WRITE (R270). -/
def execPgXWrite (init k : Nat) (data : Word) (s : State) : Out :=
  .next (s.writeAt .tel TELC.base init (PG.X (k % 32)) data (pgXWrite init (k % 32) data))

/-! ### Rotation (R271-R275) -/

/-- The rotation in progress ends without a hand-over. -/
def State.endRotation (s : State) : State :=
  (s.setFld TELC.ROTSTAT 31 30 0).setBit (TLR.STAT (s.fld TELC.ROTSTAT 27 24)) 8 false

/-- Position `q`'s memory becomes a copy of position `p`'s. -/
def State.copyArea (s : State) (p q : Nat) : State :=
  let lo := 0x30040000 + p * 0x8000
  let dst := 0x30040000 + q * 0x8000
  let src := s.mem.filter (fun c => lo ≤ c.1 && c.1 < lo + 0x8000)
  let s1 := { s with mem := Store.dropRange s.mem dst (dst + 0x7FFF) }
  src.foldl (fun t c => t.setByte (c.1 - lo + dst) c.2) s1

/-- TELLER_ROTATION_START (R272): the copy of position p's memory into spare position q's begins. -/
def execTellerRotationStart (p q : Nat) (s : State) : Out :=
  let u := s.unitOf q
  .next (if s.domRun .tel ∧ s.bit TELC.ROTCFG 31 ∧ s.fld TELC.ROTSTAT 31 30 = 0 ∧ p < 14 ∧ (q = 14 ∨ q = 15) ∧ s.served p ∧
      (s.tpos p).host.isNone ∧ s.tel.released.contains u ∧ s.tel.chosen = some (p, q) then
    let s1 := ((s.copyArea p q).wr TELC.ROTSTAT (Word.ofNat (2 ^ 30 + p * 2 ^ 24 + u * 2 ^ 16))).setBit (TLR.STAT p) 8 true
    s1.updTel (fun t => { t with
      released := t.released.erase u, runs := List.replicate 8 0, chosen := none, rots := (none :: t.rots).take 16 })
  else s)

/-- TELLER_COPY_END (R272): the shadow begins at the position's next instance start. A position without an enabled instance passes at
once (DEDUCED, notes/assumptions/94.md). -/
def execTellerCopyEnd (s : State) : Out :=
  .next (if s.domRun .tel ∧ s.fld TELC.ROTSTAT 31 30 = 1 then (s.setFld TELC.ROTSTAT 31 30 2).shadowProgress else s)

/-- TELLER_SHADOW_MISMATCH (R274): the spare goes to self-test and the serving unit stays. -/
def execTellerShadowMismatch (s : State) : Out :=
  let p := s.fld TELC.ROTSTAT 27 24
  let u := s.fld TELC.ROTSTAT 19 16
  .next (if s.domRun .tel ∧ s.fld TELC.ROTSTAT 31 30 = 2 then
    let s1 := ((s.endRotation).count TELC.ROTCNT 15 8 1).irq TELC.base 3
    (s1.updTel (fun t => { t with freed := t.freed ++ [u] })).updTpos p (fun x =>
      { x with mism := (x.mism ++ [u]).drop (x.mism.length - 1), cleared := x.cleared.filter (fun v => x.mism.drop (x.mism.length - 1) |>.contains v) })
  else s)

/-- TELLER_HANDOVER (R273): after a pass, on an edge on which the serving unit has no run, the spare unit takes the position over. -/
def execTellerHandover (s : State) : Out :=
  let p := s.fld TELC.ROTSTAT 27 24
  let u := s.fld TELC.ROTSTAT 19 16
  .next (if s.domRun .tel ∧ s.fld TELC.ROTSTAT 31 30 = 3 ∧ s.unitFree p then
    let old := s.unitOf p
    let s1 := ((s.swapUnits p (s.spareOf u) u).endRotation.count TELC.ROTCNT 31 16 1).irq TELC.base 2
    s1.updTel (fun t => { t with freed := t.freed ++ [old] })
  else s)

/-- TELLER_ROTATION_ABANDON (R275): the unit returns to the pool. -/
def execTellerRotationAbandon (s : State) : Out :=
  let st := s.fld TELC.ROTSTAT 31 30
  .next (if s.domRun .tel ∧ (st = 1 ∨ st = 2) then
    ((s.endRotation.count TELC.ROTCNT 7 0 1).irq TELC.base 4).updTel (fun t => { t with
      released := t.released ++ [s.fld TELC.ROTSTAT 19 16], rots := some (s.fld TELC.ROTSTAT 27 24) :: t.rots.drop 1 })
  else s)

/-- A spare unit has passed its self-test (R274): when both spares of two consecutive mismatches have passed, the position's
serving unit is retired, and the one that passed last, kept from the pool, takes over once no run is in progress. -/
def State.sparePassed (s : State) (u : Nat) : State :=
  (List.range 14).foldl (fun t p =>
    let x := t.tpos p
    if x.mism.contains u then
      let cl := if x.cleared.contains u then x.cleared else x.cleared ++ [u]
      if x.mism.length = 2 ∧ x.mism.all (fun v => cl.contains v) then
        ((t.updTel (fun z => { z with released := z.released.erase u })).updTpos p (fun y =>
          { y with cleared := cl, takeover := some u })).lateTakeover p
      else t.updTpos p (fun y => { y with cleared := cl })
    else t) s

/-! ### Unit errors, fallback, capacity fault (R276-R279) -/

/-- The generators whose OWNER names an enabled instance of position `p` are tripped (R279). -/
def State.tripOwned (s : State) (p : Nat) : State :=
  (List.range 48).foldl (fun t g =>
    let o := t.rd (PWM.OWNER g)
    if tb o 31 && bitsOf o 19 16 == p && t.instEn p (bitsOf o 10 8) then t.trip g 2 else t) s

/-- The capacity fault of position `p` (R279). -/
def State.capacityFault (s : State) (p : Nat) : State :=
  let s1 := (s.setBit (TLR.STAT p) 12 true).irq (TLR.base p) 24
  let s2 := (s1.members [p]).foldl (fun t m => t.setBit (INSTSTAT m.1 m.2) 28 true) s1
  ((s2.tripOwned p).setBit TELC.CAPSTAT 0 true).irq TELC.base 0

/-- Position `h` may host position `p` (R277): it has a unit, which is not retired, and neither hosts nor is hosted. -/
def State.canHost (s : State) (p h : Nat) : Bool :=
  s.bit (TLR.base p + 0x40) 31 && h != p && s.served h && !s.bit TELC.CAPSTAT (16 + s.unitOf h) && (s.tpos h).host.isNone &&
  (List.range 16).all (fun q => (s.tpos q).host != some h)

/-- Pair `p` with host `h`, whose unit then serves it (R256), or undo the pairing. -/
def State.pair (s : State) (p h : Nat) (on : Bool) : State :=
  let t := if on then s.setFld (TLR.STAT p) 19 16 (s.unitOf h) else s
  ((t.updTpos p (fun x => { x with host := if on then some h else none })).setBit (TLR.STAT p) 10 on).setBit (TLR.STAT h) 9 on

/-- Position `p` is without a unit (R277-R279): it is hosted in full form, in small-change form, or not at all. -/
def State.fallback (s : State) (p : Nat) : State :=
  let h := s.fld (TLR.base p + 0x40) 3 0
  if s.canHost p h then
    let s1 := s.pair p h true
    let ps := s1.unitPositions h
    if (s1.admission (fun _ _ => false) ps none).isNone then
      ((s1.members ps).foldl (fun t m => t.setBit (INSTSTAT m.1 m.2) 29 false) s1).boundsRefresh ps
    else
      let small := fun n i => s1.fld (INST.WCSC n i) 15 0 != 0
      if (s1.admission small ps none).isNone then
        let s2 := (s1.members ps).foldl (fun t m => t.setBit (INSTSTAT m.1 m.2) 29 (small m.1 m.2)) s1
        ((s2.setBit TELC.CAPSTAT 1 true).irq TELC.base 1).boundsRefresh ps
      else (s1.pair p h false).capacityFault p
  else s.capacityFault p

/-- A run at position `p` stops at the failing bundle (R276). -/
def State.stopRun (s : State) (p : Nat) : State :=
  match s.runAt p with
  | none => s
  | some r => ((s.updTpos p (fun x => { x with run := none })).setBit (TLR.STAT p) 4 false).instRefresh p r.inst

/-- Position `p` loses its unit and no spare is there: the position it hosted loses it too; the lower number goes first. -/
def State.unserve (s : State) (p : Nat) : State :=
  let guests := (List.range 16).filter (fun q => (s.tpos q).host == some p)
  let s1 := guests.foldl (fun t q => t.pair q p false) (s.setBit (TLR.STAT p) 12 true)
  let s2 := guests.foldl (fun t q => t.setBit (TLR.STAT q) 12 true) s1
  let both := (List.range 16).filter (fun q => q == p || guests.contains q)
  both.foldl (fun t q => (t.setBit (TLR.STAT q) 12 false).fallback q) s2

/-- Positions 14 and 15 become spare or ordinary (R271): an ordinary one whose unit is retired is left without a unit
(R467), a spare one is no service position. -/
def State.spareRole (s : State) (spare : Bool) : State :=
  [14, 15].foldl (fun t q =>
    if spare then
      match (t.tpos q).host with
      | some h => t.pair q h false
      | none => t.setBit (TLR.STAT q) 12 false
    else if t.bit TELC.CAPSTAT (16 + t.unitOf q) then t.unserve q else t) s

/-- A write to TELC.ROTCFG (R271). -/
def telRotcfgWrite (init : Nat) (data : Word) (s : State) : State :=
  if tb data 31 && (s.members [14, 15]).length != 0 then s.errorResp init TELC.ROTCFG .refused true
  else
    let s1 := s.plainWrite init TELC.ROTCFG data
    if s1.bus.resp.cause ≠ 0 then s1
    else
      let s2 := if s.bit TELC.ROTCFG 31 == tb data 31 then s1
        else ((s1.setBit (TLR.STAT 14) 11 (tb data 31)).setBit (TLR.STAT 15) 11 (tb data 31)).spareRole (tb data 31)
      if !tb data 31 ∧ s2.fld TELC.ROTSTAT 31 30 ≠ 0 then
        s2.endRotation.updTel (fun t => { t with released := t.released ++ [s.fld TELC.ROTSTAT 19 16] })
      else s2

/-- TELLER_ROTCFG_WRITE (R271). -/
def execTellerRotcfgWrite (init : Nat) (data : Word) (s : State) : Out :=
  .next (s.writeAt .tel TELC.base init TELC.ROTCFG data (telRotcfgWrite init data))

/-- The position of unit `u`: not one that it hosts. -/
def State.posOfUnit (s : State) (u : Nat) : Option Nat :=
  (List.range 16).find? (fun p => s.served p && (s.tpos p).host.isNone && s.unitOf p == u)

/-- The spare unit that takes position `p` over cold (R276): the one that rotates it, the one that R274 keeps for it, one of the pool,
or one that R274 keeps for another position. -/
def State.coldSpare (s : State) (p : Nat) : Option Nat :=
  if s.fld TELC.ROTSTAT 31 30 ≠ 0 ∧ s.fld TELC.ROTSTAT 27 24 = p then some (s.fld TELC.ROTSTAT 19 16)
  else if !s.bit TELC.ROTCFG 31 then none
  else match (s.tpos p).takeover, s.tel.released.head? with
    | some v, _ => some v
    | none, some v => some v
    | none, none => (List.range 14).findSome? (fun q => (s.tpos q).takeover)

/-- Unit `v` is kept for no take-over any more. -/
def State.unreserve (s : State) (v : Nat) : State :=
  (List.range 14).foldl (fun t q => if (t.tpos q).takeover = some v then t.clearTakeover q else t)
    (s.updTel (fun t => { t with released := t.released.erase v }))

/-- Unit `u` is retired at once (R276): a spare takes over cold, or the position falls back. -/
def State.retireUnit (s : State) (u : Nat) : State :=
  let s1 := ((s.markTeller u).unreserve u).updTel (fun t => { t with freed := t.freed.erase u })
  match s1.posOfUnit u with
  | none => s1.spareRefresh
  | some p =>
    if 14 ≤ p ∧ s1.bit TELC.ROTCFG 31 then
      (if s.fld TELC.ROTSTAT 31 30 ≠ 0 ∧ s1.fld TELC.ROTSTAT 19 16 = u then s1.endRotation else s1).spareRefresh
    else
      let s2 := (s1.unitPositions p).foldl State.stopRun s1
      let s3 := if s2.fld TELC.ROTSTAT 31 30 ≠ 0 ∧ s2.fld TELC.ROTSTAT 27 24 = p then s2.endRotation else s2
      match s2.coldSpare p with
      | some v => ((s3.swapUnits p (s3.spareOf v) v).unreserve v).clearTakeover p
      | none => (s3.unserve p).spareRefresh

/-- TELLER_UNIT_ERROR (R276): unit u has an uncorrectable error. -/
def execTellerUnitError (u : Nat) (s : State) : Out :=
  .next (if s.domRun .tel ∧ u < 16 ∧ !s.bit TELC.CAPSTAT (16 + u) then (s.retireUnit u).irq TELC.base 5 else s)

end Sys2Proof.Machine
end

