-- ==== Sys2Proof/Machine/Health.lean ====
section
/-!
DEFINITION. The self-test controller and the memory engine (chapter 18): rotations, slices and their retirements, comparator
checks, checker slices, the memory scrub, ECC events and the log.
-/
namespace Sys2Proof.Machine

abbrev HEALTH.ENABLES : Nat := HEALTH.base + 0x44
abbrev HEALTH.CMPSEL (k : Nat) : Nat := HEALTH.base + 0x48 + 4 * k
abbrev HEALTH.CMPFORCE (k : Nat) : Nat := HEALTH.base + 0x50 + 4 * k
abbrev HEALTH.ACHK : Nat := HEALTH.base + 0x58
abbrev HEALTH.CMPFAIL (k : Nat) : Nat := HEALTH.base + 0x70 + 4 * k
abbrev HEALTH.SLICE : Nat := HEALTH.base + 0x80
abbrev HEALTH.SLICECNT : Nat := HEALTH.base + 0x84
abbrev HEALTH.MEMCFG : Nat := HEALTH.base + 0x90

/-- The checker slices of clerk `c`. -/
def State.checker (s : State) (c : Nat) : Checker := if c = 0 then s.health.chk0 else s.health.chk1

/-- Change the checker slices of clerk `c`. -/
def State.updChecker (s : State) (c : Nat) (f : Checker → Checker) : State :=
  s.updHealth (fun h => if c = 0 then { h with chk0 := f h.chk0 } else { h with chk1 := f h.chk1 })

/-! ### Registers -/

/-- A write to HEALTH.CTRL, SOFT_RST aside: EN (R468), which STAT.RUN shows. -/
def healthCtrlWrite (init : Nat) (data : Word) (s : State) : State :=
  ((s.setBit (HEALTH.base + 0x0C) 0 (tb data 0)).setBit HEALTH.STAT 8 (tb data 0)).respond init (HEALTH.base + 0x0C) 0

/-- HEALTH_ENABLE (R468). -/
def execHealthEnable (init : Nat) (data : Word) (s : State) : Out :=
  .next (s.writeAt .fab HEALTH.base init (HEALTH.base + 0x0C) data (healthCtrlWrite init data))

/-- The whole ring lies in system SRAM. -/
def ringOk (w : Word) : Bool :=
  let b := bitsOf w 31 12 * 4096
  decide (0x20000000 ≤ b) && decide (b + 16 * ringSize w ≤ 0x21800000)

/-- A write to LOGBASE (R484): refused where the ring would leave system SRAM; an accepted one writes EN and so clears
LOGIDX. -/
def logbaseWrite (init : Nat) (data : Word) (s : State) : State :=
  if !ringOk data then s.errorResp init HEALTH.LOGBASE .refused true
  else
    let s1 := s.plainWrite init HEALTH.LOGBASE data
    if s1.bus.resp.cause = 0 then s1.wr HEALTH.LOGIDX 0 else s1

/-- SLICE as a read shows it: LEFT is the time in µs from the latest instant of the run to the deadline, 0 when late. -/
def State.sliceShown (s : State) : Word :=
  match s.health.slice with
  | none => 0
  | some x =>
    Word.ofNat (2 ^ 31 + x.kind % 8 * 2 ^ 28 + x.target % 256 * 2 ^ 20 +
      (if x.late then 0 else min ((x.deadline - s.now) / 16000) 0xFFFFF))

/-- The slice that runs changes; STAT.BUSY follows. -/
def State.setSlice (s : State) (x : Option Slice) : State :=
  (s.updHealth (fun h => { h with slice := x })).setBit HEALTH.STAT 9 x.isSome

/-! ### Rotations (R469) -/

/-- Position `p`'s rotation was not abandoned within the last 16 rotations. -/
def notAbandoned (rots : List (Option Nat)) (p : Nat) : Bool := !rots.contains (some p)

/-- The controller's choice for a converter rotation: the spare position of the spare that was released first, and the
enabled position that has served longest. -/
def State.convChoice (s : State) : Option (Nat × Nat) :=
  match s.conv.released.head?, s.conv.order.find? (fun p => s.en (CV.base p) && notAbandoned s.conv.rots p) with
  | some u, some p => some (s.sparePos u, p)
  | _, _ => none

/-- The controller's choice for a teller rotation: the position that has served longest, and the spare position. -/
def State.telChoice (s : State) : Option (Nat × Nat) :=
  let ok := fun (p : Nat) => s.served p && (s.tpos p).host.isNone && (List.range 16).all (fun q => (s.tpos q).host != some p) &&
    notAbandoned s.tel.rots p
  match s.tel.released.head?, s.tel.order.find? ok with
  | some u, some p => some (p, s.spareOf u)
  | _, _ => none

/-- `gap` has passed since `last`. -/
def pastDue (last : Option Nat) (gap now : Nat) : Bool := last.all (fun t => decide (t + gap ≤ now))

/-- A millisecond, in units of 62.5 ps. -/
def oneMs : Nat := 16000000

abbrev HEALTH.SCHED : Nat := HEALTH.base + 0x40

/-- The intervals of SCHED in units of 62.5 ps (0 is taken as 1). -/
def State.telGap (s : State) : Nat := max (s.fld HEALTH.SCHED 15 8) 1 * (oneMs / 10)
def State.convGap (s : State) : Nat := max (s.fld HEALTH.SCHED 23 16) 1 * oneMs
def State.clkGap (s : State) : Nat := max (s.fld HEALTH.SCHED 31 24) 1 * oneMs
def State.cmpGap (s : State) : Nat := max (s.fld HEALTH.SCHED 7 0) 1 * oneMs

/-- A pool may start a rotation (R469): its enables are 1, none is in progress, and its interval has passed. -/
def State.telDue (s : State) (at_ : Nat) : Bool :=
  s.bit HEALTH.ENABLES 0 && s.bit TELC.ROTCFG 31 && s.fld TELC.ROTSTAT 31 30 == 0 && pastDue s.tel.rotTime s.telGap at_
def State.convDue (s : State) (at_ : Nat) : Bool :=
  s.bit HEALTH.ENABLES 1 && s.bit ADCC.ROTCFG 31 && s.fld ADCC.ROTSTAT 31 30 == 0 && pastDue s.conv.rotTime s.convGap at_

/-- ROTATION_SCHEDULE (R468, R469): the controller names the next rotation of a pool; TELLER_ROTATION_START or
CONVERTER_SHADOW_START begins it. -/
def execRotationSchedule (teller : Bool) (at_ : Nat) (s : State) : Out :=
  .next (s.clocked .fab (fun s =>
    if !s.en HEALTH.base then s
    else if teller then
      (match s.telDue at_, s.telChoice with
       | true, some c => s.updTel (fun t => { t with chosen := some c, rotTime := some at_ })
       | _, _ => s)
    else match s.convDue at_, s.convChoice with
      | true, some c => { s with conv := { s.conv with chosen := some c, rotTime := some at_ } }
      | _, _ => s))

/-! ### Slices (R471-R474) -/

/-- The time a slice of each kind may take, in units of 62.5 ps (R466). -/
def sliceBudget (kind : Nat) : Nat := [40000000, 16000000, 24000000, 320000].getD kind 0

/-- The target waits for its test. -/
def State.waitsForTest (s : State) (kind target : Nat) : Bool :=
  match kind with
  | 0 => s.tel.freed.contains target
  | 1 => s.conv.freed.contains target
  | 2 => target < 18 && (s.checker (target / 9)).freed.contains (target % 9)
  | _ => false

/-- SLICE_START (R468, R471): the controller isolates a unit that waits and starts its slice, one slice at a time; a slice
that was late starts again, whatever CTRL.EN. -/
def execSliceStart (at_ kind target : Nat) (s : State) : Out :=
  .next (s.clocked .fab (fun s =>
    let s1 := s.atTime at_
    match s.health.slice with
    | some x =>
      if x.late ∧ x.kind = kind ∧ x.target = target then
        s1.setSlice (some { x with late := false, deadline := at_ + sliceBudget kind })
      else s1
    | none =>
      if s.en HEALTH.base ∧ s.waitsForTest kind target then
        s1.setSlice (some { kind := kind, target := target, deadline := at_ + sliceBudget kind })
      else s1))

/-- The expected mean of each loop-back point, in result steps (R470). -/
def loopExpected : List Int := [0, -29491, 29491, 0, -6554]

/-- A loop-back point passes (R470). -/
def State.pointOk (s : State) (expect : Int) (p : LoopPoint) : Bool :=
  let tol := max (s.fld HEALTH.ACHK 15 8) 1
  decide ((p.sum - 64 * expect).natAbs ≤ 64 * tol) && decide (p.max - p.min ≤ (s.fld HEALTH.ACHK 7 0 : Nat))

/-- The first loop-back point that fails: its number, from 1, and what it gave. -/
def State.badPoint (s : State) (points : List LoopPoint) : Option (Nat × LoopPoint) :=
  ((List.range 5).map (fun k => (k, points[k]?))).findSome? (fun q =>
    match q.2 with
    | some p => if s.pointOk (loopExpected.getD q.1 0) p then none else some (q.1 + 1, p)
    | none => none)

/-- A position that has lost its unit gets teller unit `u`, now at a spare position, by a cold take-over (R473). -/
def State.coldTakeover (s : State) (p u : Nat) : State :=
  let s1 := s.swapUnits p (s.spareOf u) u
  match (s.tpos p).host with
  | some h =>
    let s2 := s1.pair p h false
    (s2.boundsRefresh [h]).boundsRefresh [p]
  | none =>
    let s2 := (List.range 8).foldl (fun t i => t.setBit (INSTSTAT p i) 28 false) (s1.setBit (TLR.STAT p) 12 false)
    s2.setBit TELC.CAPSTAT 0 ((List.range 16).any (fun q => s2.bit (TLR.STAT q) 12))

/-- Teller unit `u` has passed and leaves its slice: it takes over the lowest position that waits for a unit (R473), or the
position whose two spares have now passed (R274), or it joins the pool. -/
def State.releaseTeller (s : State) (u : Nat) : State :=
  let s1 := s.updTel (fun t => { t with freed := t.freed.erase u })
  match (List.range 14).find? (fun p => s.bit TELC.CAPSTAT (16 + s.unitOf p)) with
  | some p => s1.coldTakeover p u
  | none =>
    let s2 := (s1.updTel (fun t => { t with released := t.released ++ [u] })).sparePassed u
    if (List.range 14).any (fun p => (s2.tpos p).takeover == some u) then
      s2.updTel (fun t => { t with released := t.released.erase u }) else s2

/-- The unit of a slice has passed: back to its pool. -/
def State.releaseUnit (s : State) (kind target : Nat) : State :=
  match kind with
  | 0 => s.releaseTeller target
  | 1 => { s with conv := { s.conv with freed := s.conv.freed.erase target, released := s.conv.released ++ [target] } }
  | _ => s.updChecker (target / 9) (fun c => { c with freed := c.freed.erase (target % 9), spare := some (target % 9) })

/-- Converter unit `u` is retired (R472). -/
def State.retireConverter (s : State) (u : Nat) : State :=
  let s1 := { s with conv := { s.conv with freed := s.conv.freed.erase u, released := s.conv.released.erase u } }
  ((s1.setBit HEALTH.RETIRED0 u true).irq HEALTH.base 0).setSpares 31 24 (s.fld HEALTH.SPARES 31 24 - 1)

/-- Checker slice `k` of clerk `c` is retired (R472). -/
def State.retireChecker (s : State) (c k : Nat) : State :=
  let s1 := s.updChecker c (fun x => { x with freed := x.freed.erase k })
  ((s1.setBit HEALTH.RETIRED2 (16 * c + k) true).irq HEALTH.base 0).setSpares (8 * c + 7) (8 * c) (s.fld HEALTH.SPARES (8 * c + 7) (8 * c) - 1)

/-- The unit of a slice has failed twice (R471). -/
def State.retireOf (s : State) (kind target : Nat) : State :=
  match kind with
  | 0 => s.retireUnit target
  | 1 => s.retireConverter target
  | _ => s.retireChecker (target / 9) (target % 9)

/-- Log words 2 and 3 of a slice that a signature or a loop-back point failed; every part the manual does not describe is
free (R484). -/
def State.sliceWords (s : State) (sig : Option Word) (bad : Option (Nat × LoopPoint)) : Word × Word :=
  match sig, bad with
  | some w, _ => (w, s.free 1)
  | none, some (k, p) =>
    (if p.sum % 64 = 0 then Word.ofNat (ofSigned 32 (p.sum / 64)) else s.free 0,
     putBits (putBits (s.free 1) 15 8 k) 7 0 (if p.max - p.min < 256 then (p.max - p.min).toNat else (s.free 1).toNat))
  | none, none => (s.free 0, s.free 1)

/-- A slice of a unit ends in time (R470, R471). -/
def State.unitSliceEnd (s : State) (x : Slice) (at_ us cycle : Nat) (sig : Option Word) (points : List LoopPoint) : State :=
  let bad := if x.kind = 1 ∧ sig = none then s.badPoint points else none
  let (w2, w3) := s.sliceWords sig bad
  let log := fun (t : State) (r : Nat) => (t.logRecord us cycle x.kind x.target r w2 w3).bumpFrees 2
  if sig.isNone ∧ bad.isNone then
    log (((s.setSlice none).count HEALTH.SLICECNT 31 16 1).releaseUnit x.kind x.target) (b2n x.again)
  else if x.again then log ((s.setSlice none).retireOf x.kind x.target) 2
  else (s.setSlice (some { x with again := true, deadline := at_ + sliceBudget x.kind })).count HEALTH.SLICECNT 15 8 1

/-- Comparator `n`'s bit in CMPSEL, CMPFORCE and CMPFAIL: which of the two registers, and the bit (R476). -/
def cmpBit (n : Nat) : Nat × Nat := (n / 32, n % 32)

/-- A comparator's check ends and the controller reads CHKSTAT (R476, R484). -/
def State.cmpSliceEnd (s : State) (x : Slice) (us cycle : Nat) : State :=
  let b := cmpPage x.target
  if s.bit (b + 0x5C) 31 then s
  else
    let fail := s.bit (b + 0x5C) 30
    let s1 := s.setSlice none
    let s2 := if fail then
        ((s1.setBit (HEALTH.CMPFAIL (cmpBit x.target).1) (cmpBit x.target).2 true).irq HEALTH.base 3).count HEALTH.SLICECNT 15 8 1
      else s1.count HEALTH.SLICECNT 31 16 1
    let w3 := putBits (s.free 1) 7 0 (s.fld (b + 0x5C) 7 0)
    (s2.logRecord us cycle 3 x.target (if fail then bitsOf (s.free 2) 3 0 else 0) (s.free 0) w3).bumpFrees 3

/-- SLICE_END (R471): the slice's last slip completes before its deadline. -/
def execSliceEnd (at_ us cycle : Nat) (sig : Option Word) (points : List LoopPoint) (s : State) : Out :=
  .next (s.clocked .fab (fun s =>
    let s1 := s.atTime at_
    match s.health.slice with
    | none => s1
    | some x =>
      if x.late then s1
      else if x.kind = 3 then s1.cmpSliceEnd x us cycle
      else if s1.waitsForTest x.kind x.target then s1.unitSliceEnd x at_ us cycle sig points
      else s1.setSlice none))

/-- SLICE_DEADLINE (R474): the slice is late; its result is discarded and it starts again once its slips have completed. A
late comparator check only ends for the controller. -/
def execSliceDeadline (us cycle : Nat) (s : State) : Out :=
  .next (s.clocked .fab (fun s => match s.health.slice with
    | none => s
    | some x =>
      if x.late then s
      else
        let s1 := (s.setSlice (if x.kind = 3 then none else some { x with late := true })).count HEALTH.SLICECNT 7 0 1
        (s1.irq HEALTH.base 2).logFree us cycle x.kind x.target 3))

/-! ### Comparator checks (R476) -/

/-- The next comparator that the controller checks: selected, on and not claimed. -/
def State.nextCmp (s : State) : Option Nat :=
  ((List.range 56).map (fun i => (s.health.cmpLast + 1 + i) % 56)).find? (fun n =>
    s.bit (HEALTH.CMPSEL (cmpBit n).1) (cmpBit n).2 && s.cmpOn n && !s.claimedPc n)

/-- COMPARATOR_CHECK_SCHEDULE (R476): the controller writes CHECK for the next selected comparator; a refused write is
logged. -/
def execComparatorCheckSchedule (at_ us cycle : Nat) (s : State) : Out :=
  .next (s.clocked .fab (fun s =>
    let s1 := s.atTime at_
    match s.nextCmp with
    | none => s1
    | some n =>
      if !s.en HEALTH.base ∨ !s.bit HEALTH.ENABLES 3 ∨ s.health.slice.isSome ∨ s.mustWait .ps (cmpPage n) ∨
          !pastDue s.health.cmpTime s.cmpGap at_ then s1
      else
        let s2 := s1.updHealth (fun h => { h with cmpLast := n, cmpTime := some at_ })
        let k := if n < 48 then n else n - 48
        let force := b2n (s.bit (HEALTH.CMPFORCE (cmpBit n).1) (cmpBit n).2)
        let s3 := checkWrite 96 (48 ≤ n) (Word.ofNat (2 ^ 31 + 256 * force + k)) s2
        if s3.bus.resp.cause = 0 then s3.setSlice (some { kind := 3, target := n, deadline := at_ + sliceBudget 3 })
        else s3.logFree us cycle 3 n 4))

/-! ### Checker slices (R477) -/

/-- CHECKER_ROTATION (R477): the spare slice of clerk `c` begins to check the group of the slice that has served longest. -/
def execCheckerRotation (c at_ : Nat) (s : State) : Out :=
  .next (s.clocked .fab (fun s =>
    if c < 2 ∧ s.en HEALTH.base ∧ s.bit HEALTH.ENABLES 2 ∧ (s.checker c).spare.isSome ∧ !(s.checker c).parallel ∧
        !s.rst.coreMask.testBit c ∧ pastDue (nth none s.health.chkTime c) s.clkGap at_ then
      (s.updHealth (fun h => { h with chkTime := upd h.chkTime c (fun _ => some at_) })).updChecker c (fun x => { x with parallel := true })
    else s))

/-- CHECKER_TAKEOVER (R477): after 4,096 cycles the spare slice takes the group over and the freed slice goes to its test;
where only the spare has reported a mismatch, the spare goes to its test and the serving slice stays. -/
def execCheckerTakeover (c : Nat) (mismatch : Bool) (s : State) : Out :=
  .next (s.clocked .fab (fun s => if c < 2 ∧ (s.checker c).parallel ∧ !s.rst.coreMask.testBit c then
      s.updChecker c (fun x =>
        match x.spare, x.serving with
        | some k, (old, g) :: t =>
          if mismatch then { x with parallel := false, spare := none, freed := x.freed ++ [k] }
          else { x with parallel := false, spare := none, freed := x.freed ++ [old], serving := t ++ [(k, g)] }
        | _, _ => { x with parallel := false })
    else s))

/-! ### The scrub (R482) -/

/-- The address the scrub reads next. -/
def State.scrubAddr (s : State) : Nat := (memRange s.health.scrubMem).1 + 16 * s.health.scrubWord

/-- The scrub moves to the next word; after the last memory a pass is complete (R482). -/
def State.scrubStep (s : State) : State :=
  let h := s.health
  if 16 * (h.scrubWord + 1) < (memRange h.scrubMem).2 then s.updHealth (fun h => { h with scrubWord := h.scrubWord + 1 })
  else if h.scrubMem < 0x45 then s.updHealth (fun h => { h with scrubMem := h.scrubMem + 1, scrubWord := 0 })
  else (s.updHealth (fun h => { h with scrubMem := 0, scrubWord := 0 })).setFld HEALTH.MEMCFG 31 16 (s.fld HEALTH.MEMCFG 31 16 + 1)

/-- GAP has passed since the last scrub read, in CLK_FAB cycles: 10 ns are 8 of them. -/
def State.scrubDue (s : State) (cycle : Nat) : Bool := pastDue s.health.scrubTime (8 * max (s.fld HEALTH.MEMCFG 15 0) 1) cycle

/-- SCRUB_READ (R482): one word is read; a correctable error is written back corrected, so what the memory holds stays as
it was; an uncorrectable one stays. The read is a slip of initiator 97: without a coin it waits (R159). -/
def execScrubRead (us cycle : Nat) (ecc : Option EccError) (s : State) : Out :=
  .next (s.clocked .fab (fun s =>
    if s.bit HEALTH.ENABLES 4 && s.scrubDue cycle && !s.coinStall 97 then
      ((s.updHealth (fun h => { h with scrubTime := some cycle })).eccRead s.health.scrubMem s.scrubAddr us cycle ecc).1.scrubStep
    else s))

end Sys2Proof.Machine
end

