-- ==== Sys2Proof/Machine/Settlement.lean ====
section
/-!
DEFINITION. The settlement engine (chapter 13, R313-R331): accounts, bus regulation, the allocation with its contingency
table, contingency, and the deposits of all three engines (R324, R267).
-/
namespace Sys2Proof.Machine

abbrev SETL.STAT : Nat := SETL.base + 0x10
abbrev SETL.VREF : Nat := SETL.base + 0x44
abbrev SETL.VBUS : Nat := SETL.base + 0x48
abbrev SETL.INTEG : Nat := SETL.base + 0x5C
abbrev SETL.PBUS : Nat := SETL.base + 0x60
abbrev SETL.GRIDIMP : Nat := SETL.base + 0x64
abbrev SETL.GRIDEXP : Nat := SETL.base + 0x68
abbrev SETL.CONTCTL : Nat := SETL.base + 0x6C
abbrev SETL.CONTSTAT : Nat := SETL.base + 0x70
abbrev SETL.PCNT : Nat := SETL.base + 0x74
abbrev SETL.CURTAIL : Nat := SETL.base + 0x80
abbrev ACCT.CFG (k : Nat) : Nat := SETL.base + 0x100 + 0x20 * k
abbrev ACCT.PREF (k : Nat) : Nat := SETL.base + 0x300 + 0x10 * k
abbrev ACCT.PCONT (k : Nat) : Nat := SETL.base + 0x304 + 0x10 * k
abbrev ACCT.DEST1 (k : Nat) : Nat := SETL.base + 0x308 + 0x10 * k
/-- Base of MPm's page and its registers. -/
abbrev MP.STAT (m : Nat) : Nat := MP.base m + 0x10
abbrev MP.PAVAIL (m : Nat) : Nat := MP.base m + 0x84

/-- Change the settlement engine. -/
def State.updSetl (s : State) (f : Setl → Setl) : State := { s with setl := f s.setl }

/-! ### The allocation (R320, R321, R326) -/

/-- An account in a snapshot, with the bounds, base and grant of R320. -/
structure Acct where
  k : Nat
  bal : Bool
  grid : Bool
  prio : Nat
  /-- the static range -/
  his : Int
  los : Int
  ramp : Int
  prev : Int
  dem : Int
  /-- the fixed contingency grant, when CONTFIX is 1 -/
  fix : Option Int
  lo : Int := 0
  hi : Int := 0
  base : Int := 0
  g : Int := 0
  moved : Bool := false
deriving DecidableEq, Repr

/-- The bounds, base and first grant of an account (R320; R326 for a fixed contingency grant). -/
def Acct.bounds (cont first : Bool) (a : Acct) : Acct :=
  let his := if cont && a.grid then 0 else a.his
  let los := if cont && a.grid then 0 else a.los
  let lh : Int × Int :=
    match (if cont && first then a.fix else none) with
    | some f => (clampI los his f, clampI los his f)
    | none =>
      if a.ramp = 0 ∨ first then (los, his)
      else
        let lo := max los (a.prev - a.ramp)
        let hi := min his (a.prev + a.ramp)
        if hi < lo then (clampI los his a.prev, clampI los his a.prev) else (lo, hi)
  let base := clampI lh.1 lh.2 0
  { a with lo := lh.1, hi := lh.2, base := base, g := if a.bal then base else clampI lh.1 lh.2 a.dem }

/-- Where place() moves accounts: balancing ones toward hi or lo, demand ones toward base. -/
inductive Toward where
  | hi | lo | base
deriving DecidableEq, Repr

/-- The headroom of an account (R321). -/
def Acct.room (t : Toward) (a : Acct) : Nat :=
  match t with
  | .hi => (a.hi - a.g).toNat
  | .lo => (a.g - a.lo).toNat
  | .base => (a.base - a.g).natAbs

/-- One watt more to each share with headroom, in order, until the rest is used up. -/
def spread : Nat → List (Nat × Nat) → List (Nat × Nat)
  | _, [] => []
  | 0, l => l
  | rest + 1, (m, h) :: t => if m < h then (m + 1, h) :: spread rest t else (m, h) :: spread (rest + 1) t

/-- How far each account of a group moves, for x and the headrooms (R321). -/
def shares (x : Nat) (hs : List Nat) : List Nat :=
  let tot := hs.sum
  let fl := hs.map (fun h => h * x / tot)
  (spread (x - fl.sum) (fl.zip hs)).map Prod.fst

/-- Move the accounts of a group by their shares, in the direction of `r`. -/
def moveGroup (sel : Acct → Bool) (neg : Bool) : List Acct → List Nat → List Acct
  | [], _ => []
  | a :: t, ms =>
    if sel a then
      match ms with
      | m :: ms' =>
        { a with g := if neg then a.g - (m : Int) else a.g + (m : Int), moved := a.moved || (decide (m ≠ 0) && !a.bal) }
          :: moveGroup sel neg t ms'
      | [] => a :: t
    else a :: moveGroup sel neg t ms

/-- place() over the priority groups in order (R321): the accounts and what is left of r. -/
def place (sel : Acct → Bool) (t : Toward) : List Nat → List Acct → Int → List Acct × Int
  | [], l, r => (l, r)
  | p :: ps, l, r =>
    let grp := fun (a : Acct) => sel a && a.prio == p
    let hs := (l.filter grp).map (Acct.room t)
    let x := min r.natAbs hs.sum
    if x = 0 then place sel t ps l r
    else place sel t ps (moveGroup grp (decide (r < 0)) l (shares x hs)) (if r < 0 then r + (x : Int) else r - (x : Int))

/-- Priorities in ascending order. -/
def prioUp : List Nat := [0, 1, 2, 3, 4, 5, 6, 7]

/-- The procedure of R320 on the accounts of a snapshot in ascending order: their grants, and r. -/
def allocate (pbus : Int) (cont first : Bool) (accts : List Acct) : List Acct × Int :=
  let l := accts.map (Acct.bounds cont first)
  let r := pbus - (l.map Acct.g).sum
  let up := fun (q : List Acct × Int) => if 0 < q.2 then place Acct.bal .hi prioUp.reverse q.1 q.2 else q
  let down := fun (q : List Acct × Int) => if q.2 < 0 then place Acct.bal .lo prioUp.reverse q.1 q.2 else q
  let rise := fun (q : List Acct × Int) => if 0 < q.2 then place (fun a => !a.bal && decide (a.g < a.base)) .base prioUp q.1 q.2 else q
  let fall := fun (q : List Acct × Int) => if q.2 < 0 then place (fun a => !a.bal && decide (a.base < a.g)) .base prioUp q.1 q.2 else q
  fall (rise (down (up (l, r))))

/-! ### The snapshot (R313-R317) -/

/-- The demand of account `k` (R314). -/
def State.demand (s : State) (k : Nat) : Int :=
  let c := s.shown (ACCT.CFG k)
  if tb c 27 then (if s.en (MP.base (bitsOf c 25 24)) then sgn (s.rd (MP.PAVAIL (bitsOf c 25 24))) else 0)
  else sgn (s.rd (ACCT.CFG k + 0x10))

/-- Account `k` as the snapshot takes it (R313-R315). -/
def State.acct (s : State) (k : Nat) : Acct :=
  let c := s.shown (ACCT.CFG k)
  let im := s.fld (ACCT.CFG k + 4) 30 0
  let ex := s.fld (ACCT.CFG k + 8) 30 0
  let grid := tb c 29
  { k := k, bal := tb c 30, grid := grid, prio := bitsOf c 22 20,
    his := ((if grid then min im (s.fld SETL.GRIDIMP 30 0) else im : Nat) : Int),
    los := -((if grid then min ex (s.fld SETL.GRIDEXP 30 0) else ex : Nat) : Int),
    ramp := (s.fld (ACCT.CFG k + 0xC) 30 0 : Nat), prev := nth 0 s.setl.prev k, dem := s.demand k,
    fix := if tb c 28 then some (sgn (s.rd (ACCT.CFG k + 0x1C))) else none }

/-- The enabled accounts, ascending. -/
def State.acctsOn (s : State) : List Nat := (List.range 16).filter (fun k => s.bit (ACCT.CFG k) 31)

/-- A live flag of STAT and, on its rising edge, its interrupt bit (R319, R322). -/
def State.liveFlag (s : State) (base i irq : Nat) (b : Bool) : State :=
  (if b && !s.bit (base + 0x10) i then s.irq base irq else s).setBit (base + 0x10) i b

/-- Bus regulation (R319): the integrator, P_bus and the stale flag. -/
def State.busStep (s : State) : State :=
  let n := max (s.fld (SETL.base + 0x4C) 7 0) 1
  let stale := decide (n ≤ s.setl.vbusAge)
  let e := if stale then 0 else satN 32 (sgn (s.rd SETL.VREF) - sgn (s.rd SETL.VBUS))
  let kp : Int := (s.rd (SETL.base + 0x50)).toNat
  let ki : Int := (s.rd (SETL.base + 0x54)).toNat
  let lim : Int := (s.fld (SETL.base + 0x58) 30 0 : Nat)
  let i0 := sgn (s.rd SETL.INTEG)
  let i1 := if !stale && !s.bit SETL.STAT 11 then clampI (-lim) lim (i0 + rnd (ki * e) 31) else i0
  let s1 := (s.liveFlag SETL.base 9 2 stale).updSetl (fun x => { x with vbusAge := min (x.vbusAge + 1) 256 })
  (s1.wr SETL.INTEG (toWord i1)).wr SETL.PBUS (toWord (satN 32 (rnd (kp * e) 31 + i1)))

/-! ### Deposits (R324) -/

/-- The destinations a register names: DEST_EN, DEST_T, DEST_S, DEST_D. -/
def destOf (w : Word) : List (Nat × Nat × Nat) :=
  if tb w 15 then [(bitsOf w 11 8, bitsOf w 6 4, bitsOf w 1 0)] else []

/-- The destinations of two registers, the first before the second. -/
def State.dests (s : State) (a b : Nat) : List (Nat × Nat × Nat) := destOf (s.shown a) ++ destOf (s.shown b)

/-- Deposits of one set of words into each destination. -/
def mkDeps (init sub : Nat) (ds : List (Nat × Nat × Nat)) (ws : List Word) : List Dep :=
  ds.map (fun d => { init := init, sub := sub, n := d.1, i := d.2.1, d := d.2.2, words := ws })

/-- Queue deposits behind those that wait (R318). -/
def State.queueDeps (s : State) (l : List Dep) : State := { s with deps := s.deps ++ l }

/-- Some deposit of an engine has not completed. -/
def State.depsOpen (s : State) (init : Nat) : Bool :=
  s.deps.any (fun d => d.init == init) || s.fab.slips.any (fun p => p.init == init) || s.fab.stalled.any (fun p => p.init == init)

/-- g as a Q1.31 fraction of the loop's full scale (word 1 of R324). -/
def fracOf (g : Int) (pfs : Nat) : Word := if pfs = 0 then 0 else toWord (satN 32 (Int.fdiv (g * 2 ^ 32 + pfs) (2 * pfs)))

/-- The deposits of account `k` with grant `g` and flags. -/
def State.acctDeps (s : State) (k : Nat) (g : Int) (flags : Nat) : List Dep :=
  mkDeps 48 0 (s.dests (ACCT.CFG k) (ACCT.DEST1 k))
    [toWord g, fracOf g (s.fld (ACCT.CFG k + 0x18) 30 0), s.rd SETL.PCNT, Word.ofNat flags]

/-- The page whose STAT and IRQ_RAW an engine's deposits report in. -/
def depPage (init sub : Nat) : Nat := if init = 48 then SETL.base else if init = 49 then MP.base (sub % 4) else GSYNC.base

/-- The engine may issue this deposit now: no slip of its own is outstanding to the same TSM port (R267). -/
def State.depReady (s : State) (d : Dep) : Bool :=
  !(s.fab.slips ++ s.fab.stalled).any (fun p => p.init == d.init && portOf p.addr == d.n)

/-- DEP_SKIP is set (R324); MPm raises its interrupt bit with it. -/
def State.depSkip (s : State) (d : Dep) : State :=
  let b := depPage d.init d.sub
  let s1 := s.setBit (b + 0x10) 1 true
  if d.init = 49 then s1.irq b 1 else s1

/-- Issue a deposit, or skip it when the target instance is not enabled or does not subscribe the slot (R324). Without a coin the
deposit waits (R159), and its target is judged again when it issues. -/
def State.depIssue (s : State) (d : Dep) (cycle : Nat) : State :=
  let s1 := { s with deps := s.deps.erase d }
  if s.instEn d.n d.i && s.bit (INST.SUB d.n d.i) (16 + d.d) then
    if s.coinStall d.init then s
    else s1.issue { init := d.init, addr := s.depositAddr d.n d.i d.d, write := true,
                    bytes := d.words.flatMap (fun w => leBytes 4 w.toNat), cycle := cycle, sub := d.sub }
  else s1.depSkip d

/-- ENGINE_DEPOSIT (R324): engine `init` issues its oldest deposit whose port is free. -/
def execEngineDeposit (init cycle : Nat) (s : State) : Out :=
  .next (s.clocked .fab (fun s => match s.deps.find? (fun d => d.init == init && s.depReady d) with
    | none => s
    | some d => s.depIssue d cycle))

/-! ### Contingency (R326-R329) -/

/-- The grid engine raises ISLAND, and TRIP (R365): the live flags that CONTSTAT shows. -/
def State.islandUp (s : State) : Bool := s.bit (GISL.base + 0x10) 12
def State.tripUp (s : State) : Bool := s.bit (GFRT.base + 0x10) 10

/-- CONTSTAT as a read shows it, with the live flags. -/
def State.contstatShown (s : State) : Word :=
  putBits (putBits (s.shown SETL.CONTSTAT) 27 27 (b2n s.islandUp)) 26 26 (b2n s.tripUp)

/-- The causes of a contingency request that stand: 1 ISLAND, 2 TRIP, 3 FORCE (R327). -/
def State.contCauses (s : State) : List Nat :=
  (if s.islandUp then [1] else []) ++ (if s.tripUp then [2] else []) ++ (if s.setl.force then [3] else [])

/-- Contingency ends at the period start after an accepted CLR (R329). -/
def State.contExit (s : State) : State :=
  if s.setl.clr then
    let s1 := s.updSetl (fun x => { x with clr := false, force := false })
    if s.bit SETL.STAT 12 then ((s1.setBit SETL.STAT 12 false).setBit SETL.CONTSTAT 31 false).irq SETL.base 9 else s1
  else s

/-- The first contingency period is entered (R327). Which of several standing causes CAUSE names is left open. -/
def State.contEnter (s : State) : State :=
  let cs := s.contCauses
  let cause := match cs with
    | [c] => c
    | _ => nth 1 cs (s.freeWord.toNat % max cs.length 1)
  let s1 := if 1 < cs.length then s.bumpFree else s
  ((((s1.setBit SETL.STAT 12 true).setBit SETL.CONTSTAT 31 true).setFld SETL.CONTSTAT 29 28 cause).count SETL.CONTSTAT 15 0 1).irq
    SETL.base 8

/-! ### The period (R317-R328) -/

/-- A set of account numbers as bits. -/
def maskOfList (l : List Nat) : Nat := l.foldl (fun m k => m ||| 2 ^ k) 0

/-- The grants of a first contingency period from the table (R327): an account that it does not hold gets 0 W. -/
def State.tableGrants (s : State) (accts : List Acct) : List Acct :=
  accts.map (fun a =>
    let has := s.setl.tabMask.testBit a.k
    { a with g := if has then sgn (s.rd (ACCT.PCONT a.k)) else 0, moved := has && s.setl.tabMoved.testBit a.k })

/-- The contingency table of this snapshot (R326). -/
def State.makeTable (s : State) (accts : List Acct) : State :=
  let q := allocate (sgn (s.rd SETL.PBUS)) true true accts
  let s1 := q.1.foldl (fun t a => t.wr (ACCT.PCONT a.k) (toWord a.g)) s
  (s1.setBit SETL.CONTSTAT 30 true).updSetl (fun x => { x with
    tabMask := maskOfList (q.1.map Acct.k), tabMoved := maskOfList ((q.1.filter Acct.moved).map Acct.k), tabUnmet := decide (q.2 ≠ 0) })

/-- g equals a non-zero bound of the static range (R322). -/
def Acct.atLimit (a : Acct) : Bool := decide (a.g ≠ 0) && (decide (a.g = a.his) || decide (a.g = a.los))

/-- The flags, sums and grants of a period (R316, R322). SUMMEAS is free where the sum leaves its register. -/
def State.periodResults (s : State) (accts : List Acct) (gone : List Nat) (unmet : Bool) : State :=
  let moved := (accts.filter Acct.moved).map Acct.k
  let lim := (accts.filter Acct.atLimit).map Acct.k
  let s1 := (s.liveFlag SETL.base 10 0 (decide (moved ≠ []))).liveFlag SETL.base 11 1 unmet
  let s2 := s1.wr SETL.CURTAIL (Word.ofNat (maskOfList lim * 65536 + maskOfList moved))
  let s3 := s2.wr (SETL.base + 0x78) (toWord (satN 32 (accts.map Acct.g).sum))
  let meas := (accts.map (fun a => sgn (s.rd (ACCT.CFG a.k + 0x14)))).sum
  let s4 := if satSets 32 meas then (s3.wr (SETL.base + 0x7C) s3.freeWord).bumpFree else s3.wr (SETL.base + 0x7C) (toWord meas)
  let s5 := accts.foldl (fun t a => t.wr (ACCT.PREF a.k) (toWord a.g)) s4
  let s6 := gone.foldl (fun t k => t.wr (ACCT.PREF k) 0) s5
  s6.updSetl (fun x => { x with
    dropped := 0,
    prev := (List.range 16).map (fun k => match accts.find? (fun a => a.k == k) with
      | some a => a.g
      | none => 0) })

/-- The deposits of a period, accounts ascending; a removed account gets its last one (R323, R324). -/
def State.periodDeps (s : State) (first : Bool) (accts : List Acct) (gone : List Nat) : State :=
  let common := b2n (s.bit SETL.STAT 12) + 2 * b2n first + 16 * b2n (s.bit SETL.STAT 10) + 32 * b2n (s.bit SETL.STAT 11)
  s.queueDeps ((List.range 16).flatMap (fun k =>
    match accts.find? (fun a => a.k == k) with
    | some a => s.acctDeps k a.g (common + 4 * b2n a.moved + 8 * b2n a.atLimit)
    | none => if gone.contains k then s.acctDeps k 0 (common + 64) else []))

/-- A settlement period starts (R317-R328): the snapshot is this state. -/
def State.setlPeriod (s : State) : State :=
  let s0 := if s.depsOpen 48 then (s.setBit SETL.STAT 2 true).irq SETL.base 4 else s
  let s1 := s0.contExit
  let first := !s1.bit SETL.STAT 12 && decide (s1.contCauses ≠ [])
  let s2 := (if first then s1.contEnter else s1).wr SETL.PCNT (s1.rd SETL.PCNT + 1)
  let accts := s2.acctsOn.map s2.acct
  let gone := (List.range 16).filter (fun k => s2.setl.dropped.testBit k && !s2.bit (ACCT.CFG k) 31)
  let s3 := s2.busStep
  let q := if first && s3.bit SETL.CONTSTAT 30 then (s3.tableGrants accts, if s3.setl.tabUnmet then 1 else 0)
    else allocate (sgn (s3.rd SETL.PBUS)) (s3.bit SETL.STAT 12) first accts
  let s4 := s3.periodResults q.1 gone (decide (q.2 ≠ 0))
  (s4.periodDeps first q.1 gone).makeTable accts

/-- A write to CTRL of SETL, SOFT_RST aside (R317): 1 starts the first period on this edge, 0 lets the present one finish. -/
def setlCtrlWrite (init : Nat) (data : Word) (s : State) : State :=
  let a := SETL.base + 0x0C
  let was := s.en SETL.base
  let s1 := s.setBit a 0 (tb data 0)
  let s2 := if tb data 0 && !was then
      (((s1.wr SETL.PCNT 0).setBit SETL.STAT 8 true).updSetl (fun x => { x with
        vbusAge := 0, prev := List.replicate 16 0 })).setlPeriod
    else s1
  s2.respond init a 0

/-- SETTLEMENT_ENABLE (R317). -/
def execSettlementEnable (init : Nat) (s : State) : Out :=
  .next (s.writeAt .fab SETL.base init (SETL.base + 0x0C) 1 (setlCtrlWrite init 1))

/-- SETTLEMENT_PERIOD_START (R317): the present period ends; the next one starts while EN is 1. -/
def execSettlementPeriodStart (s : State) : Out :=
  .next (s.clocked .fab (fun s =>
    if s.bit SETL.STAT 8 then (if s.en SETL.base then s.setlPeriod else s.setBit SETL.STAT 8 false) else s))

/-- A write to VBUS (R319): the measurement is fresh. -/
def vbusWrite (init : Nat) (data : Word) (s : State) : State :=
  (s.plainWrite init SETL.VBUS data).updSetl (fun x => { x with vbusAge := 0 })

/-- VBUS_WRITE (R319). -/
def execVbusWrite (init : Nat) (data : Word) (s : State) : Out :=
  .next (s.writeAt .fab SETL.base init SETL.VBUS data (vbusWrite init data))

/-- A write to INTEG: it takes a value only while EN is 0. -/
def integWrite (init : Nat) (data : Word) (s : State) : State :=
  if s.en SETL.base then s.respond init SETL.INTEG 0 else s.plainWrite init SETL.INTEG data

/-- A write to ACCTk_CFG (R323): an account that it enables begins with prev 0; one that it disables gets its last deposit in the next
period. -/
def acctCfgWrite (init k : Nat) (data : Word) (s : State) : State :=
  let s1 := s.plainWrite init (ACCT.CFG k) data
  let on := s1.bit (ACCT.CFG k) 31
  if on == s.bit (ACCT.CFG k) 31 then s1
  else if on then
    s1.updSetl (fun x => { x with prev := upd x.prev k (fun _ => 0), dropped := x.dropped - (x.dropped &&& 2 ^ k) })
  else s1.updSetl (fun x => { x with dropped := x.dropped ||| 2 ^ k })

/-- ACCOUNT_ENABLE (R323): a write of `data` with EN set. -/
def execAccountEnable (init k : Nat) (data : Word) (s : State) : Out :=
  .next (s.writeAt .fab SETL.base init (ACCT.CFG (k % 16)) (data ||| 0x80000000) (acctCfgWrite init (k % 16) (data ||| 0x80000000)))

/-- ACCOUNT_DISABLE (R323): a write of `data` with EN clear. -/
def execAccountDisable (init k : Nat) (data : Word) (s : State) : Out :=
  .next (s.writeAt .fab SETL.base init (ACCT.CFG (k % 16)) (data &&& 0x7FFFFFFF) (acctCfgWrite init (k % 16) (data &&& 0x7FFFFFFF)))

/-- A write to CONTCTL (R327, R329): FORCE raises a request, unless contingency is in force; CLR is refused while ISLAND or
TRIP is raised; FORCE and CLR together act as FORCE. Version 1 has no FORCE. -/
def contctlWrite (init : Nat) (data : Word) (s : State) : State :=
  let a := SETL.CONTCTL
  if tb data 0 && decide (s.ver SETL.base ≠ 1) then
    (if s.bit SETL.STAT 12 then s else s.updSetl (fun x => { x with force := true })).respond init a 0
  else if tb data 1 then
    if s.islandUp || s.tripUp then (s.setBit SETL.CONTSTAT 25 true).errorResp init a .refused true
    else (s.updSetl (fun x => { x with clr := true })).respond init a 0
  else s.respond init a 0

/-- CONTINGENCY_FORCE (R327): a write with FORCE set, and CLR as the operand says. -/
def execContingencyForce (init : Nat) (clr : Bool) (s : State) : Out :=
  let d := Word.ofNat (1 + 2 * b2n clr)
  .next (s.writeAt .fab SETL.base init SETL.CONTCTL d (contctlWrite init d))

/-- CONTINGENCY_CLEAR (R329): a write of CLR alone. -/
def execContingencyClear (init : Nat) (s : State) : Out :=
  .next (s.writeAt .fab SETL.base init SETL.CONTCTL 2 (contctlWrite init 2))

/-- The settlement engine at reset, its registers aside (R331, R142). -/
def State.setlWipe (s : State) : State := { s with setl := {}, deps := s.deps.filter (fun d => d.init != 48) }

end Sys2Proof.Machine
end

