-- ==== Sys2Proof/Machine/Mppt.lean ====
section
/-!
DEFINITION. The MPPT engine (chapter 13, R332-R340): samples, steps, holding, scans and their deposits.
-/
namespace Sys2Proof.Machine

abbrev MP.VREF (m : Nat) : Nat := MP.base m + 0x80
abbrev MP.SCANSTAT (m : Nat) : Nat := MP.base m + 0x88
abbrev MP.STEPCNT (m : Nat) : Nat := MP.base m + 0x8C
abbrev MP.SCANCFG (m : Nat) : Nat := MP.base m + 0x6C

/-- MPPT channel `m` beside its registers. -/
def State.mpc (s : State) (m : Nat) : MpChan := nth {} s.mp.ch m

/-- Change the MPPT engine. -/
def State.updMp (s : State) (f : MpEng → MpEng) : State := { s with mp := f s.mp }

/-- Change channel `m`. -/
def State.updMpc (s : State) (m : Nat) (f : MpChan → MpChan) : State := s.updMp (fun e => { e with ch := upd e.ch m f })

/-- A signed register of channel `m`. -/
def State.mpReg (s : State) (m off : Nat) : Int := sgn (s.rd (MP.base m + off))

/-- VMIN, VMAX of channel `m`. -/
def State.mpVmin (s : State) (m : Nat) : Int := s.mpReg m 0x4C
def State.mpVmax (s : State) (m : Nat) : Int := s.mpReg m 0x50

/-- The effective RATE, NPTS, DWELL and SCANPER of given STEPCFG and SCANCFG values. -/
def rateOf (stepcfg : Word) : Nat := max (bitsOf stepcfg 11 0) 50
def nptsOf (scancfg : Word) : Nat := clampN 8 64 (bitsOf scancfg 15 8)
def dwellOf (scancfg : Word) : Nat := clampN 1 16 (bitsOf scancfg 4 0)
def scanPerOf (scancfg : Word) : Nat := clampN 5 60 (bitsOf scancfg 21 16)

/-- Scan point `j` (R338). -/
def State.scanPoint (s : State) (m j : Nat) : Int :=
  s.mpVmax m - Int.fdiv (j * (s.mpVmax m - s.mpVmin m)) (nptsOf (s.rd (MP.SCANCFG m)) - 1 : Nat)

/-- The account that firmware has linked to channel `m` (R314). -/
def State.linked (s : State) (m : Nat) : Option Nat :=
  (List.range 16).find? (fun k => s.bit (ACCT.CFG k) 31 && s.bit (ACCT.CFG k) 27 && s.fld (ACCT.CFG k) 25 24 == m)

/-- The channel is curtailed (R336): the grant of its account is below PAVAIL less its 64th. -/
def State.curtailed (s : State) (m : Nat) : Bool :=
  match s.linked m with
  | none => false
  | some k => decide (nth 0 s.setl.prev k < (s.rd (MP.PAVAIL m)).toNat - (s.rd (MP.PAVAIL m)).toNat / 64)

/-- STAT[11:8] and SCANSTAT.STATE follow the channel. -/
def State.mpRefresh (s : State) (m : Nat) : State :=
  let on := s.en (MP.base m)
  let scan := decide (s.mp.scanning = some m)
  let due := s.mp.due.contains m
  let hold := on && (s.mpc m).hold
  let st := if hold then 3 else if scan then 2 else if due then 1 else 0
  (s.setFld (MP.STAT m) 11 8 (b2n on + 2 * b2n scan + 4 * b2n hold + 8 * b2n due)).setFld (MP.SCANSTAT m) 31 30 st

/-- The deposit of channel `m` (R340). -/
def State.mpDeposit (s : State) (m : Nat) (stale : Bool) : State :=
  let v := s.mpReg m 0x80
  let flags := b2n (decide (s.mp.scanning = some m)) + 2 * b2n (s.mpc m).hold + 4 * b2n (decide (v = s.mpVmin m)) +
    8 * b2n (decide (v = s.mpVmax m)) + 16 * b2n stale
  s.queueDeps (mkDeps 49 m (s.dests (MP.base m + 0x78) (MP.base m + 0x7C))
    [s.rd (MP.VREF m), s.rd (MP.PAVAIL m), s.rd (MP.STEPCNT m), Word.ofNat flags])

/-- Channel `m` becomes due, unless it is due already (R337). -/
def State.mpDue (s : State) (m : Nat) : State :=
  if s.en (MP.base m) && !s.mp.due.contains m then s.updMp (fun e => { e with due := e.due ++ [m] }) else s

/-- The first due channel that does not hold starts its scan, when none scans (R337, R338). `dep` says whether its first
point has a deposit of its own. -/
def State.scanStart (s : State) (dep : Nat → Bool) : State :=
  match s.mp.scanning, s.mp.due.find? (fun m => !s.curtailed m) with
  | none, some m =>
    let s1 := (s.updMp (fun e => { e with due := e.due.erase m, scanning := some m })).updMpc m (fun c => { c with dwell := 0, best := none })
    let s2 := ((s1.wr (MP.VREF m) (s1.rd (MP.base m + 0x50))).setFld (MP.SCANSTAT m) 21 16 0).mpRefresh m
    if dep m then s2.mpDeposit m false else s2
  | _, _ => s

/-- PAVAIL from a power p (R335). Above the signed range of a power the manual states no value. -/
def State.setPavail (s : State) (m : Nat) (p : Int) : State :=
  let v := max 0 (rnd (p * ((s.rd (MP.base m + 0x74)).toNat : Int)) 31)
  if v < 2 ^ 31 then s.wr (MP.PAVAIL m) (toWord v) else (s.wr (MP.PAVAIL m) s.freeWord).bumpFree

/-- The quotient dP·2³¹/dV of R334, truncated and saturated; without a value for dV = 0. -/
def State.slope (s : State) (dP dV : Int) : State × Int :=
  if dV = 0 then (s.bumpFree, sgn s.freeWord) else (s, satN 32 (Int.tdiv (dP * 2 ^ 31) dV))

/-- A tracking step with samples V, I and power p (R334, R335, R337); `secs` are the seconds since the last scan ended. -/
def State.trackStep (s : State) (m : Nat) (v i p : Int) (secs : Nat) : State :=
  let c := s.mpc m
  let dV := v - c.vp
  let dI := i - c.ip
  let smin := s.mpReg m 0x54
  let small := decide ((dV.natAbs : Int) ≤ s.mpReg m 0x60)
  let q := if small then (s, 0) else s.slope (p - c.pp) dV
  let dir := if small then (if (dI.natAbs : Int) ≤ s.mpReg m 0x64 then 0 else dI.sign)
    else (if (q.2.natAbs : Int) ≤ s.mpReg m 0x68 then 0 else q.2.sign)
  let step := if small then smin else clampI smin (s.mpReg m 0x58) (rnd (s.mpReg m 0x5C * q.2.natAbs) 31)
  let old := s.mpReg m 0x80
  let new := clampI (s.mpVmin m) (s.mpVmax m) (old + dir * step)
  let s1 := (q.1.wr (MP.VREF m) (toWord new)).updMpc m (fun x => { x with vp := v, ip := i, pp := p })
  let s2 := if new ≠ old ∧ (new = s.mpVmin m ∨ new = s.mpVmax m) then s1.irq (MP.base m) 3 else s1
  let s3 := s2.setPavail m p
  let irr := tb (s.shown (MP.SCANCFG m)) 30 && decide (s.mpReg m 0x70 ≤ (dI.natAbs : Int)) && decide (60 ≤ secs)
  if irr then s3.mpDue m else s3

/-- The scan of channel `m` ends (R338): the best point's VREF, its V, I and p, PAVAIL, the interrupt. -/
def State.scanEnd (s : State) (m : Nat) (b : MpPoint) : State :=
  let s1 := (s.updMp (fun e => { e with scanning := none })).updMpc m (fun c => { c with vp := b.v, ip := b.i, pp := b.p, best := none, dwell := 0 })
  ((((s1.wr (MP.VREF m) (toWord (s.scanPoint m b.j))).setPavail m b.p).irq (MP.base m) 4).setFld (MP.SCANSTAT m) 21 16 0)

/-- The better of the best point so far and a new one: higher power, ties to the earlier (R338). -/
def betterPoint (best : Option MpPoint) (q : MpPoint) : MpPoint :=
  match best with
  | some b => if b.p < q.p then q else b
  | none => q

/-- A scan step with samples (R338): a dwell that ends records its point and moves on. -/
def State.scanStep (s : State) (m : Nat) (v i p : Int) : State :=
  let c := s.mpc m
  let cfg := s.rd (MP.SCANCFG m)
  let j := s.fld (MP.SCANSTAT m) 21 16
  if c.dwell + 1 < dwellOf cfg then s.updMpc m (fun x => { x with dwell := x.dwell + 1 })
  else
    let b := betterPoint c.best { j := j, v := v, i := i, p := p }
    if nptsOf cfg ≤ j + 1 then s.scanEnd m b
    else
      ((s.updMpc m (fun x => { x with dwell := 0, best := some b })).setFld (MP.SCANSTAT m) 21 16 (j + 1)).wr (MP.VREF m)
        (toWord (s.scanPoint m (j + 1)))

/-- A mean of `n` samples, rounded to nearest with ties toward +∞ (R333). -/
def meanOf (sum : Int) (n : Nat) : Int := Int.fdiv (2 * sum + n) (2 * n)

/-- Seconds to the next timer scan; the manual states none while the timer is off. -/
def State.nextScan (s : State) (m secs : Nat) : State :=
  let cfg := s.rd (MP.SCANCFG m)
  if tb cfg 31 then s.setFld (MP.SCANSTAT m) 11 0 (min (60 * scanPerOf cfg - secs) 4095)
  else (s.setFld (MP.SCANSTAT m) 11 0 s.freeWord.toNat).bumpFree

/-- What a step does with its samples, if any: hold, record only as the first step after a hold, scan, or track (R334-R338). -/
def State.mpMove (s : State) (m secs : Nat) (wasHold : Bool) : State :=
  let c := s.mpc m
  let v := meanOf c.sumV c.n
  let i := meanOf c.sumI c.n
  let p := rnd (v * i) 31
  if c.n = 0 then (s.setBit (MP.STAT m) 2 true).irq (MP.base m) 2
  else
    let s1 := s.updMpc m (fun x => { x with sumV := 0, sumI := 0, n := 0 })
    if c.hold then s1
    else if wasHold then s1.updMpc m (fun x => { x with vp := v, ip := i, pp := p })
    else if s.mp.scanning = some m then s1.scanStep m v i p
    else s1.trackStep m v i p secs

/-- MPPT_STEP (R333): the step interval of channel m has passed; `secs` whole seconds since its last scan ended. A step
without samples leaves a hold that ended to be recorded by the next one. -/
def execMpptStep (m secs : Nat) (s : State) : Out :=
  .next (s.clocked .fab (fun s => if m < 4 ∧ s.en (MP.base m) then
    let c := s.mpc m
    let hold := s.curtailed m
    let stale := decide (c.n = 0)
    let s0 := (s.wr (MP.STEPCNT m) (s.rd (MP.STEPCNT m) + 1)).updMpc m (fun x => { x with hold := hold, relock := (x.hold || x.relock) })
    let s1 := s0.mpMove m secs (c.hold || c.relock)
    let s2 := s1.updMpc m (fun x => { x with relock := x.relock && (hold || stale) })
    let s3 := (s2.scanStart (fun k => k != m)).nextScan m secs
    (s3.mpRefresh m).mpDeposit m stale
  else s))

/-- A write to CTRL of MPm, SOFT_RST aside (R340): at enable VREF is VMAX and the channel is due; a disable ends its scan,
its steps and its deposits. -/
def mpCtrlWrite (init m : Nat) (data : Word) (s : State) : State :=
  let a := MP.base m + 0x0C
  let was := s.en (MP.base m)
  let s1 := s.setBit a 0 (tb data 0)
  let s2 :=
    if tb data 0 && !was then
      ((((s1.wr (MP.VREF m) (s1.rd (MP.base m + 0x50))).wr (MP.STEPCNT m) 0).updMpc m (fun c => { c with
        sumV := 0, sumI := 0, n := 0, hold := false, relock := false })).mpDue m).scanStart (fun _ => true)
    else if was && !tb data 0 then
      let s3 := s1.updMp (fun e => { e with due := e.due.erase m, scanning := if e.scanning = some m then none else e.scanning })
      ({ s3 with deps := s3.deps.filter (fun d => !(d.init == 49 && d.sub == m)) } : State).scanStart (fun _ => true)
    else s1
  (s2.mpRefresh m).respond init a 0

/-- MPPT_ENABLE (R340). -/
def execMpptEnable (init m : Nat) (s : State) : Out :=
  .next (s.writeAt .fab (MP.base (m % 4)) init (MP.base (m % 4) + 0x0C) 1 (mpCtrlWrite init (m % 4) 1))

/-- A write to IIN (R332): VIN and IIN join the running sums of the step. -/
def iinWrite (init m : Nat) (data : Word) (s : State) : State :=
  let s1 := s.plainWrite init (MP.base m + 0x44) data
  if s.en (MP.base m) then
    s1.updMpc m (fun c => { c with sumV := c.sumV + s.mpReg m 0x40, sumI := c.sumI + sgn data, n := c.n + 1 })
  else s1

/-- MPPT_SAMPLE (R332). -/
def execMpptSample (init m : Nat) (data : Word) (s : State) : Out :=
  .next (s.writeAt .fab (MP.base (m % 4)) init (MP.base (m % 4) + 0x44) data (iinWrite init (m % 4) data))

/-- SCAN_TIMER_DUE (R337). -/
def execScanTimerDue (m : Nat) (s : State) : Out :=
  .next (s.clocked .fab (fun s => if m < 4 ∧ s.en (MP.base m) ∧ s.bit (MP.SCANCFG m) 31 ∧ s.mp.scanning ≠ some m then
    ((s.mpDue m).scanStart (fun _ => true)).mpRefresh m
  else s))

/-- A write to SCANREQ (R337); version 1 has none. -/
def scanreqWrite (init m : Nat) (data : Word) (s : State) : State :=
  let a := MP.base m + 0x90
  (if tb data 0 && decide (s.ver (MP.base m) ≠ 1) then ((s.mpDue m).scanStart (fun _ => true)).mpRefresh m else s).respond init a 0

/-- SCAN_REQUEST (R337). -/
def execScanRequest (init m : Nat) (s : State) : Out :=
  .next (s.writeAt .fab (MP.base (m % 4)) init (MP.base (m % 4) + 0x90) 1 (scanreqWrite init (m % 4) 1))

/-- A write to STEPCFG or SCANCFG is refused when a scan would last longer than 200 ms (R339). -/
def mpCfgWrite (init m off : Nat) (data : Word) (s : State) : State :=
  let a := MP.base m + off
  let sc := if off = 0x48 then data else s.rd (MP.base m + 0x48)
  let cf := if off = 0x6C then data else s.rd (MP.SCANCFG m)
  if 20000 < nptsOf cf * dwellOf cf * rateOf sc then s.errorResp init a .refused true else s.plainWrite init a data

/-- A write to VMIN, VMAX, SMIN or SMAX is refused when it makes VMIN ≥ VMAX or SMIN > SMAX. -/
def mpRangeWrite (init m off : Nat) (data : Word) (s : State) : State :=
  let v := fun o => if o = off then sgn data else s.mpReg m o
  if v 0x50 ≤ v 0x4C ∨ v 0x58 < v 0x54 then s.errorResp init (MP.base m + off) .refused true
  else s.plainWrite init (MP.base m + off) data

/-- MPPT channel `m` at reset, its registers aside (R331, R142): a due channel may start its scan. -/
def State.mpWipe (s : State) (m : Nat) : State :=
  let s1 := (s.updMpc m (fun _ => {})).updMp (fun e => { e with
    due := e.due.erase m, scanning := if e.scanning = some m then none else e.scanning })
  ({ s1 with deps := s1.deps.filter (fun d => !(d.init == 49 && d.sub == m)) } : State).scanStart (fun _ => true)

end Sys2Proof.Machine
end

