-- ==== Sys2Proof/Machine/Float32.lean ====
section
/-!
DEFINITION. IEEE 754 binary32 arithmetic as the grid engine uses it (R343): add, subtract, multiply, divide and square root,
each rounded to nearest with ties to even; comparisons; conversions from and to integers. A value is its 32-bit pattern.
-/
namespace Sys2Proof.Machine

/-- A binary32 value taken apart: not a number, an infinity, or ±m·2^e. -/
inductive FVal where
  | nan
  | inf (neg : Bool)
  | fin (neg : Bool) (m : Nat) (e : Int)
deriving DecidableEq, Repr

/-- The value of a pattern. -/
def fVal (w : Word) : FVal :=
  let f := bitsOf w 22 0
  let x := bitsOf w 30 23
  if x = 255 then (if f = 0 then .inf (tb w 31) else .nan)
  else if x = 0 then .fin (tb w 31) f (-149)
  else .fin (tb w 31) (f + 2 ^ 23) ((x : Int) - 150)

/-- The pattern of an infinity. -/
def fInf (neg : Bool) : Word := Word.ofNat (b2n neg * 2 ^ 31 + 0x7F800000)

/-- The pattern of a zero. -/
def fZero (neg : Bool) : Word := Word.ofNat (b2n neg * 2 ^ 31)

/-- The pattern of a NaN. The standard leaves its payload open; nothing in this model depends on it. -/
def fNan : Word := 0x7FC00000

/-- m·2^e shifted right by `k` bits, to nearest with ties to even. -/
def roundShift (m k : Nat) : Nat :=
  let q := m / 2 ^ k
  let r := m % 2 ^ k
  if 2 * r < 2 ^ k ∨ (2 * r = 2 ^ k ∧ q % 2 = 0) then q else q + 1

/-- The pattern of an integral significand below 2²⁴, or 2²⁴ itself, at exponent `e` ≥ −149. -/
def fPack (neg : Bool) (q : Nat) (e : Int) : Word :=
  if q < 2 ^ 23 then Word.ofNat (b2n neg * 2 ^ 31 + q)
  else
    let q1 := if q = 2 ^ 24 then 2 ^ 23 else q
    let x := (if q = 2 ^ 24 then e + 1 else e) + 150
    if 255 ≤ x then fInf neg else Word.ofNat (b2n neg * 2 ^ 31 + x.toNat * 2 ^ 23 + (q1 - 2 ^ 23))

/-- ±m·2^e rounded to binary32. -/
def fRound (neg : Bool) (m : Nat) (e : Int) : Word :=
  if m = 0 then fZero neg
  else
    let l : Int := Nat.log2 m
    let t := max (e + l - 23) (-149)
    if t ≤ e then fPack neg (m * 2 ^ (e - t).toNat) t else fPack neg (roundShift m (t - e).toNat) t

/-- −x. -/
def fNeg (a : Word) : Word := a ^^^ 0x80000000

/-- The signed value of a finite pattern as a multiple of 2^e. -/
def signedAt (neg : Bool) (m : Nat) (d : Nat) : Int := if neg then -((m * 2 ^ d : Nat) : Int) else ((m * 2 ^ d : Nat) : Int)

/-- x + y. -/
def fAdd (a b : Word) : Word :=
  match fVal a, fVal b with
  | .nan, _ => fNan
  | _, .nan => fNan
  | .inf n, .inf k => if n = k then fInf n else fNan
  | .inf n, _ => fInf n
  | _, .inf k => fInf k
  | .fin n m e, .fin k p g =>
    let t := min e g
    let v := signedAt n m (e - t).toNat + signedAt k p (g - t).toNat
    if v = 0 then fZero (n && k) else fRound (decide (v < 0)) v.natAbs t

/-- x − y. -/
def fSub (a b : Word) : Word := fAdd a (fNeg b)

/-- x · y. -/
def fMul (a b : Word) : Word :=
  match fVal a, fVal b with
  | .nan, _ => fNan
  | _, .nan => fNan
  | .inf n, .inf k => fInf (n != k)
  | .inf n, .fin k p _ => if p = 0 then fNan else fInf (n != k)
  | .fin n m _, .inf k => if m = 0 then fNan else fInf (n != k)
  | .fin n m e, .fin k p g => fRound (n != k) (m * p) (e + g)

/-- x / y. The quotient carries 40 bits beyond the divisor's and one sticky bit. -/
def fDiv (a b : Word) : Word :=
  match fVal a, fVal b with
  | .nan, _ => fNan
  | _, .nan => fNan
  | .inf _, .inf _ => fNan
  | .inf n, .fin k _ _ => fInf (n != k)
  | .fin n _ _, .inf k => fZero (n != k)
  | .fin n m e, .fin k p g =>
    if p = 0 then (if m = 0 then fNan else fInf (n != k))
    else
      let x := m * 2 ^ 64
      fRound (n != k) (2 * (x / p) + (if x % p = 0 then 0 else 1)) (e - g - 65)

/-- floor(√n), one bit of the root at a time from bit `k − 1` down. -/
def rootBits : Nat → Nat → Nat → Nat
  | 0, _, r => r
  | k + 1, n, r => rootBits k n (if (r + 2 ^ k) * (r + 2 ^ k) ≤ n then r + 2 ^ k else r)

/-- √x, correctly rounded. -/
def fSqrt (a : Word) : Word :=
  match fVal a with
  | .nan => fNan
  | .inf n => if n then fNan else fInf false
  | .fin n m e =>
    if m = 0 then fZero n
    else if n then fNan
    else
      let odd := decide (e % 2 ≠ 0)
      let x := (if odd then 2 * m else m) * 2 ^ 64
      let r := rootBits 46 x 0
      fRound false (2 * r + (if r * r = x then 0 else 1)) ((if odd then e - 1 else e) / 2 - 33)

/-- x < y; false when either is not a number. -/
def fLt (a b : Word) : Bool :=
  match fVal a, fVal b with
  | .nan, _ => false
  | _, .nan => false
  | .inf n, .inf k => n && !k
  | .inf n, .fin _ _ _ => n
  | .fin _ _ _, .inf k => !k
  | .fin n m e, .fin k p g =>
    let t := min e g
    decide (signedAt n m (e - t).toNat < signedAt k p (g - t).toNat)

/-- x ≤ y; false when either is not a number. -/
def fLe (a b : Word) : Bool :=
  match fVal a, fVal b with
  | .nan, _ => false
  | _, .nan => false
  | _, _ => !fLt b a

/-- The smaller of two values. -/
def fMin (a b : Word) : Word := if fLt b a then b else a

/-- x limited to lo … hi. -/
def fClamp (x lo hi : Word) : Word := if fLt x lo then lo else if fLt hi x then hi else x

/-- An integer as binary32. -/
def fInt (x : Int) : Word := fRound (decide (x < 0)) x.natAbs 0

/-- A natural number over 2^k as binary32. -/
def fFrac (x : Int) (k : Nat) : Word := fRound (decide (x < 0)) x.natAbs (-(k : Int))

/-- x·2^k as an integer by rnd of R286, limited to lo … hi (R343); `free` where x is not a number. -/
def fToInt (free : Word) (x : Word) (k : Nat) (lo hi : Int) : Int :=
  match fVal x with
  | .nan => clampI lo hi free.toInt
  | .inf n => if n then lo else hi
  | .fin n m e =>
    let v := signedAt n m (e + k).toNat
    clampI lo hi (if 0 ≤ e + k then v else rnd (signedAt n m 0) (-(e + k)).toNat)

/-- An angle as 32-bit turns from a fraction of a turn (R7): rnd, modulo 2³². -/
def fToTurns (free : Word) (x : Word) : Word :=
  match fVal x with
  | .nan => free
  | .inf _ => free
  | .fin n m e => toWord (if 0 ≤ e + 32 then signedAt n m (e + 32).toNat else rnd (signedAt n m 0) (-(e + 32)).toNat)

end Sys2Proof.Machine
end

