-- ==== Sys2Proof/Machine/Trig.lean ====
section
/-!
DEFINITION. The sine, cosine and four-quadrant arctangent of the grid engine (R343): binary32 results within 2 ulp of the
exact value. Which of the values within that bound comes out is left open (`Config.fSinUlp` and its like); the bound itself is
kept. Exact values are worked out in fixed point with 400 fraction bits.
-/
namespace Sys2Proof.Machine

/-- Fraction bits of the fixed-point values. -/
abbrev trigBits : Nat := 400

/-- π in fixed point. -/
def piExact : Int := 0x3243f6a8885a308d313198a2e03707344a4093822299f31d0082efa98ec4e6c89452821e638d01377be5466cf34e90c6cc0ac

/-- ±m·2^e in fixed point (e ≥ −149, so nothing is lost). -/
def fixOf (neg : Bool) (m : Nat) (e : Int) : Int := signedAt neg m (e + trigBits).toNat

/-- The product of two fixed-point values. -/
def fixMul (a b : Int) : Int := a * b / 2 ^ trigBits

/-- The tail of an alternating power series: `t` is a term, each next one is −t·r²/((k+1)(k+2)). -/
def alternate (r2 : Int) : Nat → Int → Nat → Int
  | 0, _, _ => 0
  | n + 1, t, k => t + alternate r2 n (-(fixMul t r2) / (((k + 1) * (k + 2) : Nat) : Int)) (k + 2)

/-- An angle brought into −π … π. -/
def reduceAngle (x : Int) : Int := (x + piExact) % (2 * piExact) - piExact

/-- sin of a fixed-point angle. -/
def sinExact (x : Int) : Int := let r := reduceAngle x; alternate (fixMul r r) 80 r 1

/-- cos of a fixed-point angle. -/
def cosExact (x : Int) : Int := let r := reduceAngle x; alternate (fixMul r r) 80 (2 ^ trigBits) 0

/-- The arctangent series: z − z³/3 + z⁵/5 − …; `p` is the power of z at exponent `k`. -/
def atanSeries (z2 : Int) : Nat → Int → Nat → Int
  | 0, _, _ => 0
  | n + 1, p, k => p / (k : Int) + atanSeries z2 n (-(fixMul p z2)) (k + 2)

/-- atan of a fixed-point value of at most 1/2. -/
def atanSmall (z : Int) : Int := atanSeries (fixMul z z) 210 z 1

/-- atan of a fixed-point value between 0 and 1: above 1/4 it is atan(1/2) plus that of a smaller one. -/
def atanExact (q : Int) : Int :=
  let one : Int := 2 ^ trigBits
  if q * 4 ≤ one then atanSmall q
  else atanSmall (one / 2) + atanSmall ((q - one / 2) * one / (one + q / 2))

/-- atan2 of two finite values that are not both 0, with signs `ny`, `nx` and sizes `y`, `x` on one scale. -/
def atan2Exact (ny nx : Bool) (y x : Nat) : Int :=
  let one : Int := 2 ^ trigBits
  let q := if y ≤ x then atanExact ((y : Int) * one / x) else piExact / 2 - atanExact ((x : Int) * one / y)
  let a := if nx then piExact - q else q
  if ny then -a else a

/-- The patterns of finite values in the order of the values they stand for. -/
def ordOf (w : Word) : Int := if tb w 31 then -(bitsOf w 30 0 : Int) else (bitsOf w 30 0 : Int)

/-- The pattern at a place of that order. -/
def ofOrd (i : Int) : Word := Word.ofNat (b2n (decide (i < 0)) * 2 ^ 31 + i.natAbs)

/-- The binary32 value nearest to a fixed-point one. -/
def fNearest (v : Int) : Word := fRound (decide (v < 0)) v.natAbs (-(trigBits : Int))

/-- One ulp at a fixed-point value. -/
def ulpFix (v : Int) : Int :=
  let l : Int := Nat.log2 v.natAbs
  2 ^ (max (l - 23) ((trigBits : Int) - 149)).toNat

/-- A binary32 value within 2 ulp of the fixed-point `v`: `pick` steps from the nearest one, where that is still within the
bound. -/
def within2 (pick : Nat) (v : Int) : Word :=
  let w := ofOrd (ordOf (fNearest v) + ((pick % 5 : Nat) : Int) - 2)
  match fVal w with
  | .fin n m e => if (fixOf n m e - v).natAbs ≤ (2 * ulpFix v).natAbs then w else fNearest v
  | _ => fNearest v

/-- sin x. -/
def fSin (x : Word) : Word :=
  match fVal x with
  | .fin n m e => within2 (Config.fSinUlp x) (sinExact (fixOf n m e))
  | _ => fNan

/-- cos x. -/
def fCos (x : Word) : Word :=
  match fVal x with
  | .fin n m e => within2 (Config.fCosUlp x) (cosExact (fixOf n m e))
  | _ => fNan

/-- atan2(y, x); at two zeros and at infinities as IEEE 754 gives it (PRESUMED). -/
def fAtan2 (y x : Word) : Word :=
  let k := Config.fAtan2Ulp y x
  match fVal y, fVal x with
  | .nan, _ => fNan
  | _, .nan => fNan
  | .inf n, .inf g => within2 k (atan2Exact n g 1 1)
  | .inf n, .fin _ _ _ => within2 k (atan2Exact n false 1 0)
  | .fin n _ _, .inf g => if g then within2 k (atan2Exact n true 0 1) else fZero n
  | .fin n m e, .fin g p h =>
    if m = 0 ∧ p = 0 then (if g then within2 k (atan2Exact n true 0 1) else fZero n)
    else within2 k (atan2Exact n g (m * 2 ^ (e + 149).toNat) (p * 2 ^ (h + 149).toNat))

end Sys2Proof.Machine
end

