-- ==== Sys2Proof/Machine/Grid.lean ====
section
/-!
DEFINITION. The grid engine (chapter 14, R341-R369): samples, the step with its measures, zones, references, limits and deposits,
the protection stages and islanding criteria, TRIP and ISLAND, and the tables. Equations are binary32 in the order written (R343).
-/
namespace Sys2Proof.Machine

abbrev GSYNC.STAT : Nat := GSYNC.base + 0x10
abbrev GSYNC.VA : Nat := GSYNC.base + 0x40
abbrev GSYNC.IC : Nat := GSYNC.base + 0x54
abbrev GSYNC.SCALE : Nat := GSYNC.base + 0x58
abbrev GSYNC.NOM : Nat := GSYNC.base + 0x5C
abbrev GSYNC.CFG : Nat := GSYNC.base + 0x60
abbrev GSYNC.FLLCFG : Nat := GSYNC.base + 0x64
abbrev GSYNC.LOCKCFG : Nat := GSYNC.base + 0x68
abbrev GSYNC.THETA : Nat := GSYNC.base + 0x80
abbrev GSYNC.FREQ : Nat := GSYNC.base + 0x84
abbrev GSYNC.ROCOF : Nat := GSYNC.base + 0x90
abbrev GSYNC.VSHIFT : Nat := GSYNC.base + 0x94
abbrev GSYNC.STEPCNT : Nat := GSYNC.base + 0xA0
abbrev GFRT.STAT : Nat := GFRT.base + 0x10
abbrev GFRT.CFG : Nat := GFRT.base + 0x40
abbrev GISL.STAT : Nat := GISL.base + 0x10
abbrev GISL.CFG : Nat := GISL.base + 0x40
abbrev GISL.PWIN : Nat := GISL.base + 0x50
abbrev GTAB.TABSTAT : Nat := GTAB.base + 0x44
abbrev GTAB.MODE : Nat := GTAB.base + 0x48

/-- Change the grid engine. -/
def State.updGrid (s : State) (f : Grid → Grid) : State := { s with grid := f s.grid }

/-! ### Constants and bases (R343) -/

/-- n / d as binary32. -/
def fRat (n d : Nat) : Word := fDiv (fInt n) (fInt d)

/-- The step length T, 2π, and a per-unit code as a value. -/
def stepT : Word := fRat 1 50000
def twoPi : Word := 0x40C90FDB
def pu (code : Nat) : Word := fFrac code 14

/-- U_b, I_b and S_r. -/
def State.uBase (s : State) : Word :=
  fDiv (fMul (fMul (fInt (s.fld GSYNC.NOM 31 16)) (fRat 1 10)) (fSqrt (fInt 2))) (fSqrt (fInt 3))
def State.iBase (s : State) : Word := fMul (fMul (fInt (s.fld GSYNC.NOM 15 0)) (fRat 1 10)) (fSqrt (fInt 2))
def State.sRated (s : State) : Word :=
  fMul (fMul (fMul (fSqrt (fInt 3)) (fInt (s.fld GSYNC.NOM 31 16))) (fInt (s.fld GSYNC.NOM 15 0))) (fRat 1 100)

/-- The full scales of SCALE, in volts and amperes. -/
def State.vFs (s : State) : Word := fMul (fInt (s.fld GSYNC.SCALE 31 16)) (fRat 1 10)
def State.iFs (s : State) : Word := fMul (fInt (s.fld GSYNC.SCALE 15 0)) (fRat 1 10)

/-- The free words of a step are used up. -/
def State.bumpStep (s : State) : State := { s with freeCtr := s.freeCtr + 32 }

/-- A value as an unsigned 16-bit per-unit code. -/
def codeOf (free x : Word) : Nat := (fToInt free x 14 0 65535).toNat

/-! ### Synchronisation (R344-R348) -/

/-- Clarke transform of R344: α, β and the zero component. -/
def clarke (a b c : Word) : Word × Word × Word :=
  (fDiv (fSub (fSub (fMul (fInt 2) a) b) c) (fInt 3), fDiv (fSub b c) (fSqrt (fInt 3)), fDiv (fAdd (fAdd a b) c) (fInt 3))

/-- √(x² + y²). -/
def hypot (x y : Word) : Word := fSqrt (fAdd (fMul x x) (fMul y y))

/-- One generalised integrator (R344): its error, x' and qx' for sample value `x`. -/
def sogi (k w x : Word) (p : Word × Word) : Word × Word × Word :=
  let e := fSub x p.1
  let x1 := fAdd p.1 (fMul (fMul stepT w) (fSub (fMul k e) p.2))
  (e, x1, fAdd p.2 (fMul (fMul stepT w) x1))

/-- ω after a step of the frequency-locked loop (R346). -/
def fllStep (g k w d vpos : Word) : Word :=
  fClamp (fSub w (fDiv (fMul (fMul (fMul (fMul stepT g) k) w) d) (fMul vpos vpos)))
    (fMul twoPi (fInt 40)) (fMul twoPi (fInt 70))

/-- An angle advanced by ω over a time. -/
def turnsOf (free w t : Word) : Word := fToTurns free (fDiv (fMul w t) twoPi)

/-- SYNC clears; from 1 it sets UNLOCK (R348). Nothing is counted without it: the lock conditions start again, ROCOF and VS are
no longer evaluated (R361), and the enter-service conditions fail (R366). -/
def State.syncClear (s : State) : State :=
  (if s.bit GSYNC.STAT 9 then (s.setBit GSYNC.STAT 9 false).irq GSYNC.base 0 else s).updGrid
    (fun g => { g with lock := 0, rocofN := 0, vsN := 0, es := 0 })

/-- The steps of LOCKT. -/
def State.lockSteps (s : State) : Nat := s.fld GSYNC.LOCKCFG 7 0 * 50

/-- FREQ has changed by at most FTOL across the LOCKT window that ends with this step (R348): none while the window reaches back
before the enable. -/
def State.freqWindow (s : State) : Option Bool :=
  (s.grid.fSteps[s.lockSteps]?).map (fun f =>
    decide (((s.rd GSYNC.FREQ).toInt - f.toInt).natAbs ≤ 10 * s.fld GSYNC.LOCKCFG 15 8))

/-- The sequence error of R345 ends, or its count goes on. -/
def State.seqCount (s : State) (bad : Bool) : State :=
  if bad then s.updGrid (fun g => { g with seq := min (g.seq + 1) 25 })
  else (s.setBit GSYNC.STAT 12 false).updGrid (fun g => { g with seq := 0 })

/-- The step's FREQ joins its history; SYNC clears when a lock condition fails, else the time for which they hold goes on (R348). -/
def State.lockCount (s : State) : State :=
  let s1 := s.updGrid (fun g => { g with fSteps := (s.rd GSYNC.FREQ :: g.fSteps).take 12751 })
  if s.bit GSYNC.STAT 10 || s.bit GSYNC.STAT 11 || s.bit GSYNC.STAT 12 || s1.freqWindow == some false then s1.syncClear
  else s1.updGrid (fun g => { g with lock := g.lock + 1 })

/-- Synchronisation on the sample (R344-R347, R350): integrators, sequences, ω, θ, FREQ, VSEQ, VZERO, U_FRT and U_SV. -/
def State.gridSync (s : State) : State :=
  let g := s.grid
  let k := fFrac (s.fld GSYNC.FLLCFG 31 16) 14
  let v := fun n => fMul (fFrac (nth 0 g.smp n).toInt 31) s.vFs
  let a := sogi k g.w (v 0) (nth (0, 0) g.xs 0)
  let b := sogi k g.w (v 1) (nth (0, 0) g.xs 1)
  let c := sogi k g.w (v 2) (nth (0, 0) g.xs 2)
  let x := clarke a.2.1 b.2.1 c.2.1
  let q := clarke a.2.2 b.2.2 c.2.2
  let e := clarke a.1 b.1 c.1
  let half := fFrac 1 1
  let pa := fMul (fSub x.1 q.2.1) half
  let pb := fMul (fAdd q.1 x.2.1) half
  let vpos := hypot pa pb
  let vneg := hypot (fMul (fAdd x.1 q.2.1) half) (fMul (fSub x.2.1 q.1) half)
  let vzero := hypot x.2.2 q.2.2
  let ub := s.uBase
  let umin := pu (s.fld GSYNC.LOCKCFG 31 16)
  let held := !fLe umin (fDiv vpos ub)
  let w1 := if held then g.w else fllStep (fInt (s.fld GSYNC.FLLCFG 15 0)) k g.w (fAdd (fMul e.1 q.1) (fMul e.2.1 q.2.1)) vpos
  let theta := if held then s.rd GSYNC.THETA + turnsOf (s.free 0) w1 stepT else fToTurns (s.free 1) (fDiv (fAtan2 pb pa) twoPi)
  let usel := s.fld GFRT.CFG 25 24
  let mag := fun (p : Word × Word × Word) => hypot p.2.1 p.2.2
  let line := fun (p r : Word × Word × Word) => hypot (fSub p.2.1 r.2.1) (fSub p.2.2 r.2.2)
  let ufrt :=
    if usel = 0 then fDiv vpos ub
    else if usel = 1 then fDiv (fMin (fMin (mag a) (mag b)) (mag c)) ub
    else fDiv (fMin (fMin (line a b) (line b c)) (line c a)) (fMul (fSqrt (fInt 3)) ub)
  let raw := clarke (v 0) (v 1) (v 2)
  let usv := fDiv (hypot raw.1 raw.2.1) ub
  let s1 := s.updGrid (fun h => { h with
    w := w1, xs := [a.2, b.2, c.2], vpos := vpos, ufrt := ufrt, usv := usv })
  let s2 := (s1.setBit GSYNC.STAT 10 held).wr GSYNC.THETA theta
  let s3 := s2.wr GSYNC.FREQ (toWord (fToInt (s.free 2) (fMul (fDiv w1 twoPi) (fInt 1000)) 0 0 (2 ^ 32 - 1)))
  let s4 := s3.wr (GSYNC.base + 0x88) (Word.ofNat (codeOf (s.free 3) (fDiv vpos ub) * 65536 + codeOf (s.free 4) (fDiv vneg ub)))
  let s5 := s4.wr (GSYNC.base + 0x8C) (Word.ofNat (codeOf (s.free 5) (fDiv vzero ub)))
  let s6 := s5.wr (GFRT.base + 0x78) (Word.ofNat (codeOf (s.free 6) ufrt * 65536 + codeOf (s.free 7) usv))
  s6.seqCount (fLt vpos vneg && !held)

/-! ### ROCOF and vector shift (R351, R352, R361) -/

/-- ROCOF over the window WIN ends now (R351). WIN = 0 has no stated value. -/
def State.rocofNow (s : State) : Word :=
  let n := s.fld (GISL.base + 0x44) 15 8
  if n = 0 then s.free 8
  else
    match s.grid.fHist[10 * n - 1]? with
    | some f =>
      let d := fSub (fInt (s.rd GSYNC.FREQ).toInt) (fInt f.toInt)
      toWord (fToInt (s.free 9) (fDiv d (fMul (fInt n) (fRat 1 100))) 0 (-(2 ^ 31)) (2 ^ 31 - 1))
    | none => 0

/-- Every 50 steps ROCOF is formed and FREQ joins the history of 500 entries (R351). -/
def State.rocofStep (s : State) : State :=
  if s.grid.ms + 1 < 50 then s.updGrid (fun g => { g with ms := g.ms + 1 })
  else (s.wr GSYNC.ROCOF s.rocofNow).updGrid (fun g => { g with ms := 0, fHist := (s.rd GSYNC.FREQ :: g.fHist).take 500 })

/-- The step's angle and frequency join their history. The vector shift is formed once 500 earlier steps are known (R352); it is 0
while HOLD is 1. -/
def State.vshiftStep (s0 : State) : State :=
  let s := s0.updGrid (fun g => { g with aHist := (s0.rd GSYNC.THETA, g.w) :: g.aHist.take 500 })
  if s.bit GSYNC.STAT 10 then s.wr GSYNC.VSHIFT 0
  else
    match s.grid.aHist[500]? with
    | some (th, w) =>
      s.wr GSYNC.VSHIFT (s.rd GSYNC.THETA - th - fToTurns (s.free 10) (fDiv (fMul (fMul (fInt 500) stepT) w) twoPi))
    | none => s

/-- Steps for which ROCOF and VS have been beyond their thresholds; both count only while SYNC is 1 (R361). -/
def State.islCounts (s : State) : State :=
  let on := s.en GISL.base && s.bit GSYNC.STAT 9
  let r := on && decide (s.fld (GISL.base + 0x44) 31 16 < (s.rd GSYNC.ROCOF).toInt.natAbs)
  let v := on && decide (s.fld (GISL.base + 0x48) 31 16 * 65536 < (s.rd GSYNC.VSHIFT).toInt.natAbs) && decide (500 < s.grid.aHist.length)
  s.updGrid (fun g => { g with rocofN := if r then g.rocofN + 1 else 0, vsN := if v then g.vsN + 1 else 0 })

/-! ### Stages (R360) -/

/-- The word of active stage `j`: UV0-3, OV0-3, UF0-3, OF0-3. -/
def stageAt (j : Nat) : Nat := GTAB.base + 0x580 + 8 * j

/-- Stage `j` is enabled; version 1 of GTAB has two stages of each kind. -/
def State.stageOn (s : State) (j : Nat) : Bool := s.en GISL.base && tb (s.shown (stageAt j)) 31

/-- The measure of stage `j` lies beyond its threshold. -/
def State.stageBeyond (s : State) (j : Nat) : Bool :=
  let t := s.fld (stageAt j) 16 0
  if j < 4 then fLt s.grid.ufrt (pu (t % 65536))
  else if j < 8 then fLt (pu (t % 65536)) s.grid.ufrt
  else if j < 12 then decide ((s.rd GSYNC.FREQ).toNat < t)
  else decide (t < (s.rd GSYNC.FREQ).toNat)

/-- Stage `j` is picked up: enabled, with its measure beyond its threshold. -/
def State.pickedUp (s : State) (j : Nat) : Bool := s.stageOn j && s.stageBeyond j

/-- The clearing timer of stage `j` after this step: UF and OF stages keep theirs while HOLD or input loss holds. -/
def State.stageTimer (s : State) (j : Nat) : Nat :=
  let n := nth 0 s.grid.timers j
  if s.stageOn j ∧ 8 ≤ j ∧ (s.bit GSYNC.STAT 10 ∨ s.bit GSYNC.STAT 11) then n
  else if s.pickedUp j then n + 1 else 0

/-- The stages' clearing timers, and STGSTAT. -/
def State.stageStep (s : State) : State :=
  (s.updGrid (fun g => { g with timers := (List.range 16).map s.stageTimer })).wr (GISL.base + 0x64)
    (Word.ofNat (maskOfList ((List.range 16).filter s.pickedUp)))

/-! ### Fast dip, excursion time, enter service, probe sums -/

/-- The fast dip's count (R357); it ends at the first step at or above UFAST. -/
def State.dipStep (s : State) : State :=
  if fLt s.grid.usv (pu (s.fld (GFRT.base + 0x54) 15 0)) then s.updGrid (fun g => { g with dipN := g.dipN + 1 })
  else s.updGrid (fun g => { g with dipN := 0, dip := false })

/-- The excursion's time and the time in the continuous zone, up to this step (R358). -/
def State.excurStep (s : State) : State :=
  let s1 := s.updGrid (fun g => { g with cont := if s.fld GFRT.STAT 12 11 = 0 then g.cont + 1 else 0 })
  if s.bit GFRT.STAT 9 then
    (s1.updGrid (fun g => { g with exSteps := g.exSteps + 1 })).wr (GFRT.base + 0x7C)
      (Word.ofNat (min ((s.grid.exSteps + 1) / 50) (2 ^ 32 - 1)))
  else s1

/-- The nominal frequency in mHz. -/
def State.fNom (s : State) : Nat := if s.bit GSYNC.CFG 20 then 60000 else 50000

/-- The conditions of R366 hold in this step. -/
def State.enterOk (s : State) : Bool :=
  let a := GFRT.base + 0x68
  let f := (s.rd GSYNC.FREQ).toInt
  let lo := toSigned 16 (s.fld (GFRT.base + 0x6C) 15 0)
  let hi := toSigned 16 (s.fld (GFRT.base + 0x6C) 31 16)
  s.bit GSYNC.STAT 9 && fLe (pu (s.fld a 15 0)) s.grid.ufrt && fLe s.grid.ufrt (pu (s.fld a 31 16)) &&
  (decide (s.ver GFRT.base = 1) || (decide (s.fNom + lo ≤ f) && decide (f ≤ s.fNom + hi))) &&
  decide (s.rd (GISL.base + 0x64) = 0)

/-- The time for which they have held. -/
def State.enterStep (s : State) : State := s.updGrid (fun g => { g with es := if s.enterOk then g.es + 1 else 0 })

/-- An angle in turns as radians. -/
def radOf (t : Word) : Word := fMul (fFrac t.toInt 32) twoPi

/-- (α + jβ)·e^(−jθ) added to a complex sum. -/
def addRot (ab : Word × Word × Word) (th re im : Word) : Word × Word :=
  let c := fCos (radOf th)
  let n := fSin (radOf th)
  (fAdd re (fAdd (fMul ab.1 c) (fMul ab.2.1 n)), fAdd im (fSub (fMul ab.2.1 c) (fMul ab.1 n)))

/-- The probe's sums over the raw samples while it is injected (R363); without it the window and the row of high ones end. -/
def State.probeSum (s : State) : State :=
  let g := s.grid
  let raw := fun n => fFrac (nth 0 g.smp n).toInt 31
  if s.bit GISL.STAT 11 then
    let v := addRot (clarke (raw 0) (raw 1) (raw 2)) g.thIh (nth 0 g.acc 0) (nth 0 g.acc 1)
    let i := addRot (clarke (raw 3) (raw 4) (raw 5)) g.thIh (nth 0 g.acc 2) (nth 0 g.acc 3)
    s.updGrid (fun h => { h with accN := h.accN + 1, acc := [v.1, v.2, i.1, i.2] })
  else s.updGrid (fun h => { h with accN := 0, acc := List.replicate 4 0, high := 0 })

/-- The probe's phase advances each step (R362). -/
def State.probePhase (s : State) : State :=
  s.updGrid (fun h => { h with
    thIh := h.thIh + fToTurns (s.free 11) (fMul (fMul (fInt (s.fld (GISL.base + 0x4C) 31 16)) (fRat 1 10)) stepT) })

/-! ### TRIP and ISLAND (R365) -/

/-- TRIP is raised with its cause; the settlement engine reads the flag itself (State.tripUp). -/
def State.raiseTrip (s : State) (cause : Nat) : State :=
  if s.bit GFRT.STAT 10 then s
  else ((s.setBit GFRT.STAT 10 true).setFld GFRT.STAT 7 5 cause).irq GFRT.base 0

/-- ISLAND is raised with its cause; the row of high windows that led to it is over (R364). -/
def State.raiseIsland (s : State) (cause : Nat) : State :=
  let s1 := s.updGrid (fun g => { g with high := 0 })
  if s.bit GISL.STAT 12 then s1
  else ((s1.setBit GISL.STAT 12 true).setFld GISL.STAT 7 5 cause).irq GISL.base 0

/-- TRIP or ISLAND is raised. -/
def State.tripped (s : State) : Bool := s.bit GFRT.STAT 10 || s.bit GISL.STAT 12

/-! ### Zone, excursion and curves (R356, R358) -/

/-- The zone by voltage (R356); a voltage beyond the cessation band ceases also in a fast dip. -/
def State.zoneOf (s : State) : Nat :=
  let u := s.grid.ufrt
  let lo := fun off => pu (s.fld (GFRT.base + off) 15 0)
  let hi := fun off => pu (s.fld (GFRT.base + off) 31 16)
  if !s.en GFRT.base then 0
  else if fLt u (lo 0x48) || fLt (hi 0x48) u then 2
  else if fLe (lo 0x44) u && fLe u (hi 0x44) && !s.grid.dip then 0
  else 1

/-- The number of the last point, of those before `n`, whose time is at most `steps` of 20 µs. -/
def State.curvePoint (s : State) (base steps : Nat) : Nat → Nat
  | 0 => 0
  | n + 1 => if s.fld (base + 4 * n) 31 16 * 50 ≤ steps then n else s.curvePoint base steps n

/-- u(t) of an active table of `n` points at the excursion's time (R358). -/
def State.curveAt (s : State) (base n : Nat) (linear : Bool) : Word :=
  let steps := s.grid.exSteps
  let j := s.curvePoint base steps n
  let u := fun i => pu (s.fld (base + 4 * i) 15 0)
  let t := fun i => fInt (s.fld (base + 4 * i) 31 16)
  if linear ∧ j + 1 < n then
    fAdd (u j) (fDiv (fMul (fSub (u (j + 1)) (u j)) (fSub (fDiv (fInt steps) (fInt 50)) (t j))) (fSub (t (j + 1)) (t j)))
  else u j

/-- The ride-through curves trip during an excursion (CURVE_TRIP, R358). -/
def State.curveTrip (s : State) : State :=
  if s.bit GFRT.STAT 9 && s.en GFRT.base then
    let m := s.shown (GTAB.base + 0x448)
    let lv := s.curveAt (GTAB.base + 0x500) (bitsOf m 11 8 + 1) (tb m 0)
    let hv := s.curveAt (GTAB.base + 0x540) (bitsOf m 15 12 + 1) (tb m 1)
    let s1 := if s.bit GFRT.CFG 29 && fLt s.grid.ufrt lv then s.raiseTrip 1 else s
    if s.bit GFRT.CFG 28 && fLt hv s.grid.ufrt then s1.raiseTrip 2 else s1
  else s

/-- The zone of the step: an excursion starts with the first step outside the continuous zone, the trip zone included (R358);
TRIP and ISLAND make it trip (R365). -/
def State.zoneStep (s : State) : State :=
  let z := s.zoneOf
  let s1 := if (z ≠ 0 ∨ (s.en GFRT.base ∧ s.tripped)) ∧ !s.bit GFRT.STAT 9 then
      ((s.setBit GFRT.STAT 9 true).updGrid (fun g => { g with exSteps := 0 })).wr (GFRT.base + 0x7C) 0 else s
  let s2 := s1.curveTrip
  let z2 := if s2.tripped then 3 else z
  (if z2 ≠ s2.fld GFRT.STAT 12 11 then s2.irq GFRT.base 1 else s2).setFld GFRT.STAT 12 11 z2

/-! ### References and limits (R353, R355, R359, R362) -/

/-- x limited to ±m. -/
def fLimit (x m : Word) : Word := fClamp x (fNeg m) m

/-- i_q / I_b before the current limit (R353, R359). -/
def State.qRef (s : State) (zone : Nat) : Word :=
  let q := fFrac (toSigned 16 (s.fld (GSYNC.base + 0x6C) 15 0)) 14
  let k := fFrac (s.fld (GFRT.base + 0x50) 15 0) 12
  let lo := pu (s.fld (GFRT.base + 0x4C) 15 0)
  let hi := pu (s.fld (GFRT.base + 0x4C) 31 16)
  let u := s.grid.ufrt
  if zone = 1 ∧ s.bit GFRT.CFG 31 then
    let r := if fLt u lo then fAdd q (fMul k (fSub lo u)) else if fLt hi u then fSub q (fMul k (fSub u hi)) else q
    fLimit r (pu (s.fld (GFRT.base + 0x50) 31 16))
  else q

/-- √(m² − x²). -/
def fRest (m x : Word) : Word := fSqrt (fSub (fMul m m) (fMul x x))

/-- i_d, i_q and the active limit of a zone (R353), before the probe. -/
def State.refs (s : State) (zone : Nat) : Word × Word × Word :=
  let g := sgn (s.rd (ACCT.PREF (s.fld GSYNC.CFG 19 16)))
  let id := if s.bit GSYNC.STAT 10 then fZero false else fDiv (fInt g) (fMul (fFrac 3 1) s.grid.vpos)
  let iq := fMul (s.qRef zone) s.iBase
  let imax := fMul (pu (s.fld (GSYNC.base + 0x70) 15 0)) s.iBase
  if tb (s.shown GFRT.CFG) 30 then
    let d := fLimit id imax
    (d, fLimit iq (fRest imax d), imax)
  else
    let q := fLimit iq imax
    let m := fRest imax q
    (fLimit id m, q, m)

/-- References are forced to 0 (R353). -/
def State.ceased (s : State) : Bool := decide (2 ≤ s.fld GFRT.STAT 12 11) || s.bit GSYNC.STAT 11

/-- The targets of the grid limits, import and export (R355). -/
def State.limitTargets (s : State) (idmax : Word) : Word × Word :=
  let im := fInt (s.fld (GFRT.base + 0x5C) 30 0)
  let ex := fInt (s.fld (GFRT.base + 0x60) 30 0)
  if s.ceased then (fZero false, fZero false)
  else if s.fld GFRT.STAT 12 11 = 1 then
    let m := fMul (fDiv (fMul (fDiv s.grid.vpos s.uBase) idmax) s.iBase) s.sRated
    (fMin im m, fMin ex m)
  else (im, ex)

/-- A limit one step on: it falls at once, and rises by at most PRAMP / 50 (R355). -/
def State.limitStep (s : State) (old target : Word) : Word :=
  let p := s.fld (GFRT.base + 0x64) 30 0
  if fLt target old ∨ p = 0 then target else fMin (fAdd old (fDiv (fInt p) (fInt 50))) target

/-- The probe is injected (R362). -/
def State.probeOn (s : State) : Bool :=
  s.bit GISL.CFG 31 && s.bit GSYNC.STAT 9 && decide (s.fld GFRT.STAT 12 11 = 0) && !s.tripped

/-- The probe current (i_d, i_q). -/
def State.probeCurrent (s : State) : Word × Word :=
  let a := fMul (fMul (fInt (s.fld (GISL.base + 0x4C) 15 0)) (fRat 1 10000)) s.iBase
  let t := radOf (s.grid.thIh - s.rd GSYNC.THETA)
  (fMul a (fCos t), fMul a (fSin t))

/-- A current as a Q1.31 fraction of IFS. -/
def State.ofIfs (s : State) (free x : Word) : Word := toWord (fToInt free (fDiv x s.iFs) 31 (-(2 ^ 31)) (2 ^ 31 - 1))

/-- References and grid limits of the step (R353, R355, R362). -/
def State.gridOutputs (s : State) : State :=
  let r := s.refs (s.fld GFRT.STAT 12 11)
  let cease := s.ceased
  let on := s.probeOn && !cease
  let p := if on then s.probeCurrent else (fZero false, fZero false)
  let d0 := if cease then fZero false else r.1
  let q0 := if cease then fZero false else r.2.1
  let d := if on then fAdd d0 p.1 else d0
  let q := if on then fAdd q0 p.2 else q0
  let t := s.limitTargets r.2.2
  let im := s.limitStep s.grid.imp0 t.1
  let ex := s.limitStep s.grid.exp0 t.2
  let s1 := (s.wr (GSYNC.base + 0x98) (s.ofIfs (s.free 12) d)).wr (GSYNC.base + 0x9C) (s.ofIfs (s.free 13) q)
  let s2 := (s1.setBit GISL.STAT 11 on).updGrid (fun g => { g with imp := im, exp := ex })
  let s3 := (s2.wr SETL.GRIDIMP (toWord (fToInt (s.free 14) im 0 0 (2 ^ 31 - 1)))).wr SETL.GRIDEXP
    (toWord (fToInt (s.free 15) ex 0 0 (2 ^ 31 - 1)))
  s3.setBit GFRT.STAT 8 (fLt im t.1 || fLt ex t.2)

/-! ### The deposit (R354) -/

/-- Word 0: θ extrapolated from the sample stamp to the step's start and LEAD; in version 1 θ at the stamp. -/
def State.leadAngle (s : State) : Word :=
  if s.ver GSYNC.base = 1 then s.rd GSYNC.THETA
  else s.rd GSYNC.THETA + turnsOf (s.free 16) s.grid.w (fDiv (fInt (s.grid.age + 8 * s.fld GSYNC.CFG 11 0)) (fInt 800000000))

/-- Word 3 of the deposit. -/
def State.gridFlags (s : State) : Word :=
  let dth := (fToInt (s.free 17) (fMul (fDiv s.grid.w twoPi) (fRat 1 1000000)) 32 0 (2 ^ 20 - 1)).toNat
  Word.ofNat (dth * 4096 + s.fld GSYNC.STEPCNT 3 0 * 256 + b2n (decide (s.grid.stale ≠ 0)) * 128 + b2n (s.bit GISL.STAT 11) * 64 +
    b2n (s.bit GISL.STAT 12) * 32 + b2n (s.bit GFRT.STAT 10) * 16 + b2n s.ceased * 8 + s.fld GFRT.STAT 12 11 * 2 + b2n (s.bit GSYNC.STAT 9))

/-- The step's deposits (R354); those of the same step that wait are replaced. -/
def State.gridDeposit (s : State) : State :=
  let k := (s.rd GSYNC.STEPCNT).toNat
  ({ s with deps := s.deps.filter (fun d => !(d.init == 50 && d.sub == k)) } : State).queueDeps
    (mkDeps 50 k (s.dests (GSYNC.base + 0x74) (GSYNC.base + 0x78))
      [s.leadAngle, s.rd (GSYNC.base + 0x98), s.rd (GSYNC.base + 0x9C), s.gridFlags])

/-- The end of the computation of a step with a sample: zone, references, limits, deposits. -/
def State.gridFinish (s : State) : State := s.zoneStep.gridOutputs.gridDeposit.bumpStep

/-! ### The step (R342, R366, R369) -/

/-- The accepted APPLY takes effect: shadow tables become active (R369). The manual states no count after 65,535. -/
def State.tableCopy (s : State) : State :=
  if s.grid.apply then
    let s1 := (List.range 64).foldl (fun t k => t.wr (GTAB.base + 0x500 + 4 * k) (t.rd (GTAB.base + 0x100 + 4 * k))) s
    let s2 := (s1.wr (GTAB.base + 0x448) (s1.rd GTAB.MODE)).updGrid (fun g => { g with apply := false })
    let c := s.fld GTAB.TABSTAT 15 0
    let s3 := s2.setBit GTAB.TABSTAT 31 false
    if c = 65535 then (s3.setFld GTAB.TABSTAT 15 0 s3.freeWord.toNat).bumpFree else s3.setFld GTAB.TABSTAT 15 0 (c + 1)
  else s

/-- Accepted clears take effect (R366). -/
def State.flagClears (s : State) : State :=
  let s1 := if s.grid.clrTrip then s.setBit GFRT.STAT 10 false else s
  let s2 := if s.grid.clrIsl then s1.setBit GISL.STAT 12 false else s1
  s2.updGrid (fun g => { g with clrTrip := false, clrIsl := false })

/-- What counts steps or time, in a step with or without a sample: the lock time, ROCOF's and the vector shift's histories, the
criteria and stages, the excursion and the enter-service time (R348, R351, R352, R358, R360, R361, R366). -/
def State.stepTime (s : State) : State :=
  s.lockCount.rocofStep.vshiftStep.islCounts.stageStep.excurStep.enterStep

/-- A step with a sample whose stamp lies `age` CLK_FAB cycles before the step's start. -/
def State.freshStep (s : State) (age : Nat) : State :=
  let s1 := (s.setBit GSYNC.STAT 11 false).updGrid (fun g => { g with
    fresh := false, age := age, stale := 0, imp0 := g.imp, exp0 := g.exp })
  (s1.gridSync.dipStep.stepTime.probeSum.probePhase).gridFinish

/-- A stale step advances the angle and updates nothing else that comes from samples (R342): what the rules count in steps or time
goes on. Where a curve trips, the step ends as one with a sample does. -/
def State.staleStep (s : State) : State :=
  let s1 := s.updGrid (fun g => { g with stale := g.stale + 1 })
  let s2 := (s1.wr GSYNC.THETA (s1.rd GSYNC.THETA + turnsOf (s.free 0) s.grid.w stepT)).stepTime.probePhase
  let s3 := s2.curveTrip
  if s3.tripped && !s2.tripped then s3.gridFinish else s2.gridDeposit.bumpStep

/-- One step of the grid engine. -/
def State.gridStep (s : State) (age : Nat) : State :=
  let s0 := if s.depsOpen 50 then s.setBit GSYNC.STAT 2 true else s
  let s1 := s0.tableCopy.flagClears
  let s2 := s1.wr GSYNC.STEPCNT (s1.rd GSYNC.STEPCNT + 1)
  if s2.grid.fresh then s2.freshStep age else s2.staleStep

/-- GRID_STEP (R342): `age` is the time from the sample's stamp to the step's start in CLK_FAB cycles. -/
def execGridStep (age : Nat) (s : State) : Out :=
  .next (s.clocked .fab (fun s => if s.en GSYNC.base then s.gridStep age else s))

/-- A write to IC (R341): the six values are one sample. -/
def icWrite (init : Nat) (data : Word) (s : State) : State :=
  let s1 := s.plainWrite init GSYNC.IC data
  s1.updGrid (fun g => { g with smp := (List.range 6).map (fun k => s1.rd (GSYNC.VA + 4 * k)), fresh := true })

/-- GRID_SAMPLE (R341). -/
def execGridSample (init : Nat) (data : Word) (s : State) : Out :=
  .next (s.writeAt .fab GSYNC.base init GSYNC.IC data (icWrite init data))

/-- A write to CTRL of GSYNC, SOFT_RST aside (R342, R346): refused with a zero scale; the first step runs on this edge. -/
def gsyncCtrlWrite (init : Nat) (data : Word) (age : Nat) (s : State) : State :=
  let a := GSYNC.base + 0x0C
  let was := s.en GSYNC.base
  let zero := s.fld GSYNC.SCALE 31 16 = 0 ∨ s.fld GSYNC.SCALE 15 0 = 0 ∨ s.fld GSYNC.NOM 31 16 = 0 ∨ s.fld GSYNC.NOM 15 0 = 0
  if tb data 0 then
    if zero then s.errorResp init a .refused true
    else if was then s.respond init a 0
    else
      let g := s.grid
      let s1 := ((s.setBit a 0 true).setFld GSYNC.STAT 12 8 1).wr GSYNC.STEPCNT 0
      let s2 := { s1 with grid := { ({} : Grid) with
        smp := g.smp, fresh := g.fresh, apply := g.apply, clrTrip := g.clrTrip, clrIsl := g.clrIsl,
        exSteps := g.exSteps, cont := g.cont, timers := g.timers,
        w := fMul twoPi (fInt (if s.bit GSYNC.CFG 20 then 60 else 50)) } }
      (s2.gridStep age).respond init a 0
  else
    let s1 := ((s.setBit a 0 false).setBit GSYNC.STAT 8 false).updGrid (fun g => { g with
      imp := 0, exp := 0, es := 0, rocofN := 0, vsN := 0 })
    ((s1.wr SETL.GRIDIMP 0).wr SETL.GRIDEXP 0).respond init a 0

/-- GRID_ENABLE (R342). -/
def execGridEnable (init age : Nat) (s : State) : Out :=
  .next (s.writeAt .fab GSYNC.base init (GSYNC.base + 0x0C) 1 (gsyncCtrlWrite init 1 age) age)

/-! ### Events inside a step -/

/-- GRID_INPUT_LOSS (R342): after 50 consecutive stale steps references and limits are forced to 0. -/
def execGridInputLoss (s : State) : Out :=
  .next (s.clocked .fab (fun s => if s.en GSYNC.base ∧ 50 ≤ s.grid.stale ∧ !s.bit GSYNC.STAT 11 then
    ((s.setBit GSYNC.STAT 11 true).irq GSYNC.base 2).syncClear.gridOutputs.gridDeposit.bumpStep
  else s))

/-- SEQUENCE_ERROR (R345): 25 consecutive steps with |V⁻| above |V⁺|. -/
def execSequenceError (s : State) : Out :=
  .next (s.clocked .fab (fun s => if s.en GSYNC.base ∧ 25 ≤ s.grid.seq ∧ !s.bit GSYNC.STAT 12 then
    ((s.setBit GSYNC.STAT 12 true).irq GSYNC.base 1).syncClear.gridFinish
  else s))

/-- GRID_SYNC_SET (R348): the lock conditions have held for LOCKT ms, with a whole LOCKT window across which FREQ was steady. -/
def execGridSyncSet (s : State) : Out :=
  .next (s.clocked .fab (fun s => if s.en GSYNC.base ∧ !s.bit GSYNC.STAT 9 ∧ 0 < s.grid.lock ∧ s.lockSteps ≤ s.grid.lock ∧
      s.freqWindow = some true then
    (s.setBit GSYNC.STAT 9 true).gridFinish
  else s))

/-- FAST_DIP_DETECT (R357): U_SV has been below UFAST for NDIP steps; the zone becomes mandatory operation. -/
def execFastDipDetect (s : State) : Out :=
  .next (s.clocked .fab (fun s => if s.en GSYNC.base ∧ !s.grid.dip ∧ max (s.fld GFRT.CFG 15 8) 1 ≤ s.grid.dipN then
    (s.updGrid (fun g => { g with dip := true })).gridFinish
  else s))

/-- EXCURSION_END (R358): the zone has stayed continuous for TREC ms. -/
def execExcursionEnd (s : State) : Out :=
  .next (s.clocked .fab (fun s => if s.en GSYNC.base ∧ s.bit GFRT.STAT 9 ∧ s.fld GFRT.STAT 12 11 = 0 ∧ s.fld (GFRT.base + 0x58) 15 0 * 50 ≤ s.grid.cont then
    (s.setBit GFRT.STAT 9 false).irq GFRT.base 2
  else s))

/-- GRID_STAGE_ACT (R360): stage `j` (UV0-3, OV0-3, UF0-3, OF0-3) has reached its clearing time. -/
def execGridStageAct (j : Nat) (s : State) : Out :=
  .next (s.clocked .fab (fun s => if j < 16 ∧ s.en GSYNC.base ∧ s.stageOn j ∧ s.fld (stageAt j + 4) 19 0 * 50 < nth 0 s.grid.timers j then
    (if s.bit (stageAt j) 30 then s.raiseIsland 4 else s.raiseTrip 3).gridFinish
  else s))

/-- ROCOF_ISLAND (R361): |ROCOF| has exceeded RTH for RDLY. -/
def execRocofIsland (s : State) : Out :=
  .next (s.clocked .fab (fun s => if s.en GSYNC.base ∧ s.en GISL.base ∧ s.bit GSYNC.STAT 9 ∧ s.bit GISL.CFG 30 ∧ 0 < s.grid.rocofN ∧
      s.fld (GISL.base + 0x44) 7 0 * 500 ≤ s.grid.rocofN then (s.raiseIsland 2).gridFinish
  else s))

/-- VECTOR_SHIFT_ISLAND (R361): |VS| has exceeded VTH for NVS steps. -/
def execVectorShiftIsland (s : State) : Out :=
  .next (s.clocked .fab (fun s => if s.en GSYNC.base ∧ s.en GISL.base ∧ s.bit GSYNC.STAT 9 ∧ tb (s.shown GISL.CFG) 29 ∧ 0 < s.grid.vsN ∧
      s.fld (GISL.base + 0x48) 7 0 ≤ s.grid.vsN then (s.raiseIsland 3).gridFinish
  else s))

/-- The steps of a probe window, and the confirming windows, as the page's version shows them. -/
def State.probeSteps (s : State) : Nat := bitsOf (s.shown GISL.PWIN) 7 0 * 500
def State.nConf (s : State) : Nat := max (bitsOf (s.shown GISL.PWIN) 15 8) 1

/-- −V/I of complex numbers: the product with the conjugate over |I|². -/
def negQuot (vr vi ir ii : Word) : Word × Word :=
  let d := fAdd (fMul ir ir) (fMul ii ii)
  (fNeg (fDiv (fAdd (fMul vr ir) (fMul vi ii)) d), fNeg (fDiv (fSub (fMul vi ir) (fMul vr ii)) d))

/-- PROBE_WINDOW_END (R363, R364): Z_h and its registers; after NCONF consecutive windows whose |Z_h| exceeds ZTH, ISLAND. -/
def execProbeWindowEnd (s : State) : Out :=
  .next (s.clocked .fab (fun s => if s.en GSYNC.base ∧ 0 < s.grid.accN ∧ s.probeSteps ≤ s.grid.accN then
    let n := fInt s.grid.accN
    let m := fun k fs => fMul (fDiv (nth 0 s.grid.acc k) n) fs
    let z := negQuot (m 0 s.vFs) (m 1 s.vFs) (m 2 s.iFs) (m 3 s.iFs)
    let zm := fMul (hypot z.1 z.2) (fInt 1000)
    let mag := (fToInt (s.free 18) zm 0 0 (2 ^ 32 - 1)).toNat
    let ang := (fToInt (s.free 19) (fDiv (fAtan2 z.2 z.1) twoPi) 16 (-(2 ^ 31)) (2 ^ 31 - 1) % 65536).toNat
    let high := if fLt (fInt (s.rd (GISL.base + 0x54)).toNat) zm then s.grid.high + 1 else 0
    let s1 := ((s.wr (GISL.base + 0x58) (Word.ofNat mag)).wr (GISL.base + 0x5C) (Word.ofNat (ang * 65536))).irq GISL.base 1
    let s2 := s1.updGrid (fun g => { g with accN := 0, acc := List.replicate 4 0, high := high })
    if s.en GISL.base ∧ s.nConf ≤ high then (s2.raiseIsland 1).gridFinish else s2.bumpStep
  else s))

/-! ### Clears and tables -/

/-- The conditions of R366 hold and have held for ESDLY seconds. -/
def State.enterHeld (s : State) : Bool := s.enterOk && decide (0 < s.grid.es) && decide (s.fld (GFRT.base + 0x70) 15 0 * 50000 ≤ s.grid.es)

/-- A write to GFRT.CLR (R366). -/
def gfrtClrWrite (init : Nat) (data : Word) (s : State) : State :=
  let a := GFRT.base + 0x74
  if !tb data 0 then s.respond init a 0
  else if s.enterHeld then (s.updGrid (fun g => { g with clrTrip := true })).respond init a 0
  else (((s.setBit GFRT.STAT 0 true).irq GFRT.base 3)).errorResp init a .refused true

/-- TRIP_FLAG_CLEAR (R366). -/
def execTripFlagClear (init : Nat) (s : State) : Out :=
  .next (s.writeAt .fab GFRT.base init (GFRT.base + 0x74) 1 (gfrtClrWrite init 1))

/-- A write to GISL.CLR (R366). -/
def gislClrWrite (init : Nat) (data : Word) (s : State) : State :=
  let a := GISL.base + 0x60
  if !tb data 0 then s.respond init a 0
  else if s.enterHeld then (s.updGrid (fun g => { g with clrIsl := true })).respond init a 0
  else (((s.setBit GISL.STAT 0 true).irq GISL.base 2)).errorResp init a .refused true

/-- ISLAND_FLAG_CLEAR (R366). -/
def execIslandFlagClear (init : Nat) (s : State) : Out :=
  .next (s.writeAt .fab GISL.base init (GISL.base + 0x60) 1 (gislClrWrite init 1))

/-- The points of a shadow table: (T, U). -/
def State.points (s : State) (base n : Nat) : List (Nat × Nat) :=
  (List.range n).map (fun k => (s.fld (base + 4 * k) 31 16, s.fld (base + 4 * k) 15 0))

/-- Each element stands in a relation to the next. -/
def chained (r : Nat → Nat → Bool) : List Nat → Bool
  | a :: b :: t => r a b && chained r (b :: t)
  | _ => true

/-- The first failure of the shadow tables (R369), 0 for none. The UF and OF thresholds are tested whether their stages are enabled
or not; in version 1 the absent stages 2 and 3 have none. -/
def State.tableErr (s : State) : Nat :=
  let m := s.shown GTAB.MODE
  let lv := s.points (GTAB.base + 0x100) (bitsOf m 11 8 + 1)
  let hv := s.points (GTAB.base + 0x140) (bitsOf m 15 12 + 1)
  let bad := fun (j : Nat) =>
    let w := s.shown (GTAB.base + 0x180 + 8 * j)
    decide (bitsOf w 16 0 < 40000) || decide (70000 < bitsOf w 16 0)
  if (lv.head?.map Prod.fst) ≠ some 0 ∨ (hv.head?.map Prod.fst) ≠ some 0 then 1
  else if !chained (fun a b => a ≤ b) (lv.map Prod.fst) || !chained (fun a b => a ≤ b) (hv.map Prod.fst) then 2
  else if !chained (fun a b => a ≤ b) (lv.map Prod.snd) || !chained (fun a b => b ≤ a) (hv.map Prod.snd) then 3
  else if (if s.ver GTAB.base = 1 then [8, 9, 12, 13] else [8, 9, 10, 11, 12, 13, 14, 15]).any bad then 4
  else 0

/-- A write to APPLY (R369). -/
def tableApplyWrite (init : Nat) (data : Word) (s : State) : State :=
  let a := GTAB.base + 0x40
  if !tb data 0 then s.respond init a 0
  else if s.tableErr = 0 then ((s.updGrid (fun g => { g with apply := true })).setBit GTAB.TABSTAT 31 true).respond init a 0
  else (s.setFld GTAB.TABSTAT 23 16 s.tableErr).errorResp init a .refused true

/-- TABLE_APPLY (R369). -/
def execTableApply (init : Nat) (s : State) : Out :=
  .next (s.writeAt .fab GTAB.base init (GTAB.base + 0x40) 1 (tableApplyWrite init 1))

/-! ### Configuration writes that are checked -/

/-- FIH keeps 2 Hz from every multiple of the nominal frequency up to 200 Hz (R362). -/
def fihOk (fih fnom : Nat) : Bool :=
  ([1, 2, 3, 4].filter (fun k => k * fnom ≤ 200)).all (fun k => decide (20 ≤ ((fih : Int) - 10 * k * fnom).natAbs))

/-- A write to GSYNC.CFG: FNOM may not break R362. -/
def gsyncCfgWrite (init : Nat) (data : Word) (s : State) : State :=
  if fihOk (s.fld (GISL.base + 0x4C) 31 16) (if tb data 20 then 60 else 50) then s.plainWrite init GSYNC.CFG data
  else s.errorResp init GSYNC.CFG .refused true

/-- A write to GFRT.CFG: USEL 0b11 is refused, in version 1 0b10 too (R350). -/
def gfrtCfgWrite (init : Nat) (data : Word) (s : State) : State :=
  let u := bitsOf data 25 24
  if u = 3 ∨ (u = 2 ∧ s.ver GFRT.base = 1) then s.errorResp init GFRT.CFG .refused true else s.plainWrite init GFRT.CFG data

/-- A write to UCONT, UCEASE, UDB or ESU: LO may not exceed HI. -/
def gfrtBandWrite (init off : Nat) (data : Word) (s : State) : State :=
  if bitsOf data 31 16 < bitsOf data 15 0 then s.errorResp init (GFRT.base + off) .refused true
  else s.plainWrite init (GFRT.base + off) data

/-- A write to PROBECFG (R362). -/
def probecfgWrite (init : Nat) (data : Word) (s : State) : State :=
  if fihOk (bitsOf data 31 16) (s.fNom / 1000) then s.plainWrite init (GISL.base + 0x4C) data
  else s.errorResp init (GISL.base + 0x4C) .refused true

/-- A write to PWIN (R364): detection within 1,000 ms. -/
def pwinWrite (init : Nat) (data : Word) (s : State) : State :=
  let nc := if s.ver GISL.base = 1 then 1 else bitsOf data 15 8
  if 100 < (nc + 1) * bitsOf data 7 0 then s.errorResp init GISL.PWIN .refused true else s.plainWrite init GISL.PWIN data

/-- What stands behind page `i` of the grid engine at reset, its registers aside (R142): 0 GSYNC, 1 GFRT, 2 GISL, 3 GTAB. -/
def State.gridWipe (s : State) (i : Nat) : State :=
  let z : Grid := {}
  if i = 0 then
    let s1 := s.updGrid (fun g => { z with
      dipN := g.dipN, dip := g.dip, exSteps := g.exSteps, cont := g.cont, timers := g.timers, apply := g.apply, clrTrip := g.clrTrip,
      clrIsl := g.clrIsl, thIh := g.thIh })
    (({ s1 with deps := s1.deps.filter (fun d => d.init != 50) }).wr SETL.GRIDIMP 0).wr SETL.GRIDEXP 0
  else if i = 1 then s.updGrid (fun g => { g with dipN := 0, dip := false, exSteps := 0, cont := 0, es := 0, clrTrip := false })
  else if i = 2 then s.updGrid (fun g => { g with
    timers := z.timers, rocofN := 0, vsN := 0, thIh := 0, accN := 0, acc := z.acc, high := 0, clrIsl := false })
  else s.updGrid (fun g => { g with apply := false })

/-- The bits of STAT that a soft reset of page `i` of the grid engine keeps (R365): the flag TRIP or ISLAND with its cause, and the
zone that a raised flag holds at trip. -/
def State.gridKept (s : State) (i : Nat) : Nat :=
  if i = 1 then 0x4E0 + (if s.tripped then 0x1800 else 0) else if i = 2 then 0x10E0 else 0

end Sys2Proof.Machine
end

