-- ==== Sys2Proof/Machine/SafetyUnit.lean ====
section
/-!
DEFINITION. The safety unit (chapter 17, R434-R454): its two channels, inputs and demands, contactors, cable locks, the Dusk state, and
GATE_VETO. The mailbox and the safety-layer frames stand in SafetyMailbox.
-/
namespace Sys2Proof.Machine

/-! ### Parameters (R455) -/

/-- Word `w` of the active parameter set. -/
def State.par (s : State) (w : Nat) : Word := nth 0 s.sup.params w

/-- Bits `[hi:lo]` of it. -/
def State.parF (s : State) (w hi lo : Nat) : Nat := bitsOf (s.par w) hi lo

/-- Bit `i` of it. -/
def State.parB (s : State) (w i : Nat) : Bool := tb (s.par w) i

/-- Channel n is enabled; it has a weld check. -/
def State.kEn (s : State) (n : Nat) : Bool := s.parB (5 + 2 * n) 31
def State.kMirror (s : State) (n : Nat) : Bool := s.parB (5 + 2 * n) 30

/-- Channels of a mask, as numbers. -/
def maskChans (m : Nat) : List Nat := (List.range 12).filter (fun n => m.testBit n)

/-- Change the safety unit. -/
def State.updSup (s : State) (f : SafetyUnit → SafetyUnit) : State := { s with sup := f s.sup }

/-- Channel n; change it. -/
def State.kAt (s : State) (n : Nat) : Contactor := nth {} s.sup.k n
def State.updK (s : State) (n : Nat) (f : Contactor → Contactor) : State := s.updSup (fun u => { u with k := upd u.k n f })

/-- Lock p; change it. -/
def State.lockAt (s : State) (p : Nat) : CableLock := nth {} s.sup.locks p
def State.updLock (s : State) (p : Nat) (f : CableLock → CableLock) : State :=
  s.updSup (fun u => { u with locks := upd u.locks p f })

/-- KMIRn reads open (high). -/
def State.mirOpen (s : State) (n : Nat) : Bool := s.sup.kmir.testBit n

/-- VDRV and VLOCK are above their thresholds (R84). -/
def State.vdrvGood (s : State) : Bool := s.bit RSUP.SUPSTAT 2
def State.vlockGood (s : State) : Bool := s.bit RSUP.SUPSTAT 3

/-! ### Demands (R438-R441, R443, R449, R461) -/

/-- Whether channels A and B of function `f` demand a stop, from filtered levels `lv` (R438). -/
def fnDemand (w : Word) (lv f : Nat) : Bool × Bool :=
  (!lv.testBit (2 * f), if tb w 30 then lv.testBit (2 * f + 1) else !lv.testBit (2 * f + 1))

/-- A stop demand: its DEMAND bit, its contactors, its cause code, and whether it asserts the veto and the STOP state. -/
structure Demand where
  bit : Nat
  mask : Nat
  cause : Nat
  stops : Bool := true
deriving DecidableEq, Repr

/-- What function `f` demands, from levels `lv`: by its channels or a MANUAL latch, and by a latched discrepancy (DEDUCED,
notes/assumptions/96.md: the manual latches it, shows it in DEMAND and says when it clears). -/
def State.fnDemands (s : State) (lv f : Nat) : List Demand :=
  let w := s.par (1 + f)
  if tb w 31 then
    let (a, b) := fnDemand w lv f
    (if a || b || s.sup.man.testBit f then [{ bit := f, mask := bitsOf w 11 0, cause := 1 + f }] else []) ++
    (if s.sup.disc.testBit f then [{ bit := 3 + f, mask := bitsOf w 11 0, cause := 1 + f }] else [])
  else []

/-- SAINn is out of limits (R440). -/
def State.sainOut (s : State) (n : Nat) : Bool :=
  let c := nth 0 s.sup.useMax n
  s.parB (33 + n) 31 && (decide (s.parF (33 + n) 27 16 < c) || decide (c < s.parF (33 + n) 11 0))

/-- Connection `c` demands a stop (R461). -/
def State.connDemands (s : State) (c : Nat) : Bool :=
  let x := nth ({} : SafeConn) s.sup.conns c
  s.parB (60 + 2 * c) 31 && (!x.up || !x.permit || x.man)

/-- A channel carries a fault. -/
def State.kFaulty (s : State) : Bool := s.sup.k.any (fun k => k.st == 4)

/-- Every demand the safety processor sees (R438-R440, R443, R446, R449, R461). -/
def State.demands (s : State) : List Demand :=
  let pc : List Demand := ((List.range 8).filter (fun n => s.sup.pcSp.testBit n)).map
    (fun n => { bit := 8 + n, mask := 0xFFF, cause := 8 + n })
  let cn : List Demand := ((List.range 4).filter s.connDemands).map
    (fun c => { bit := 20 + c, mask := s.parF (60 + 2 * c) 27 16, cause := 0x14 + c })
  (List.range 3).flatMap (s.fnDemands s.sup.inSp) ++ pc ++
  (if s.sup.wc = 0 then [] else [{ bit := 16, mask := 0xFFF, cause := 0x10 }]) ++
  (if (List.range 16).any (fun n => s.parB (33 + n) 30 && s.sainOut n) then [{ bit := 17, mask := 0xFFF, cause := 0x11 }] else []) ++
  (if s.vdrvGood then [] else [{ bit := 18, mask := 0xFFF, cause := 0x12 }]) ++ cn ++
  (if s.kFaulty then [{ bit := 24, mask := 0xFFF, cause := 0x18 }] else []) ++
  (if s.parB 67 31 && (s.sup.gridUp || s.sup.gridStale) then [{ bit := 25, mask := s.parF 67 11 0, cause := 0, stops := false }] else [])

/-- Curfew's own demand and its contactors: the functions, the claimed lines, and a failed test or readback (R436, R444). -/
def State.curfewDemand (s : State) : Bool × Nat :=
  let fs := (List.range 3).flatMap (s.fnDemands s.sup.inCur)
  let kf := s.sup.k.any (fun k => k.st == 4 && decide (4 ≤ k.fault ∧ k.fault ≤ 7))
  (!fs.isEmpty || s.sup.pcCur != 0 || kf,
    if s.sup.pcCur != 0 || kf then 0xFFF else fs.foldl (fun m d => m ||| d.mask) 0)

/-! ### Outputs (R436, R443) -/

/-- Curfew drives Kn_HG: asked for, outside its demands, enabled, and turned on only while KMIRn reads open (R445). -/
def State.curfewSwitch (s : State) (n : Nat) : State :=
  let k := s.kAt n
  let on := k.hgReq && !k.bstop && !s.curfewDemand.2.testBit n && s.kEn n && (k.hg || !s.kMirror n || s.mirOpen n)
  s.updK n (fun k => { k with hg := on })

/-- SAFE_OK_A and SAFE_OK_B are on (R434, R436). -/
def State.safeOkA (s : State) : Bool := s.sup.st == 3
def State.safeOkB (s : State) : Bool := s.sup.st == 3 && !s.rst.dusk && !s.curfewDemand.1

/-- Kn_HG and Kn_LG as the balls show them: a test pulse turns one off, VDRV below its threshold holds Kn_LG low. -/
def State.hgOn (s : State) (n : Nat) : Bool := (s.kAt n).hg && (s.kAt n).test != 2
def State.lgOn (s : State) (n : Nat) : Bool := (s.kAt n).lg && (s.kAt n).test != 1 && s.vdrvGood

/-- Curfew holds the unlock drive of lock `p` off (R452). -/
def State.curfewBlock (s : State) (p : Nat) : Bool := s.parB (29 + p) 31 && s.parB (29 + p) 30 && s.line (48 + s.parF (29 + p) 29 27)

/-- LOCKp_A and LOCKp_B (R450, R452). -/
def State.lockDrive (s : State) (p : Nat) : Bool × Bool :=
  (s.vlockGood && (s.lockAt p).dir == 1, s.vlockGood && (s.lockAt p).dir == 2 && !s.curfewBlock p)

/-- GATE_VETO is asserted while any one of these holds (R436). -/
def State.vetoWanted (s : State) : Bool :=
  s.rst.vetoHold || s.rst.dusk || s.rst.clockFail || s.sup.st != 3 || s.curfewDemand.1

/-- Curfew's switches and GATE_VETO follow the state (R32, R436). -/
def State.settleSafety (s : State) : State :=
  let s1 := (List.range 12).foldl State.curfewSwitch s
  if s1.vetoWanted then (if s1.rst.veto then s1 else s1.assertVeto) else { s1 with rst := { s1.rst with veto := false } }

/-- GATE_VETO_RELEASE (R32, R60): GATE_VETO is released when nothing asserts it; no group switches until firmware enables it. -/
def execGateVetoRelease (s : State) : Out :=
  .next (if s.vetoWanted then s else { s with rst := { s.rst with veto := false } })

/-! ### State changes (R434, R435, R437) -/

/-- Enter a state; a change raises IRQ_RAW.STATE. -/
def State.enterSt (s : State) (st : Nat) : State :=
  if s.sup.st = st then s else (s.updSup (fun u => { u with st := st })).irq SMBX.base 1

/-- Kn_LG off, the channel opens (R443, R448). -/
def State.openK (s : State) (n : Nat) : State :=
  if (s.kAt n).st = 1 ∨ (s.kAt n).st = 2 then
    s.updK n (fun k => { k with st := 3, lg := false, wait := none, dl := false, test := 0 })
  else s

/-- A stop demand opens the channel at once: Kn_LG off, and the request for Kn_HG withdrawn, an ordered opening's too (R443, R448). -/
def State.stopK (s : State) (n : Nat) : State := (s.openK n).updK n (fun k => { k with hgReq := false })

/-- A channel takes a fault: both switches off (R446). -/
def State.faultK (s : State) (n code : Nat) : State :=
  (s.updK n (fun k => { st := 4, fault := code, ord0 := k.ord0 })).irq SMBX.base 3

/-- An internal fault leads to LOCKDOWN (R435, R437): both channels open every contactor at once. -/
def State.lockdown (s : State) : State :=
  if s.sup.st = 0 ∨ s.sup.st = 6 then s
  else
    let s1 := (s.updSup (fun u => { u with cause := 0x30 })).enterSt 6
    let s2 := (List.range 12).foldl State.openK s1
    (s2.updSup (fun u => { u with k := u.k.map (fun k => { k with hgReq := false, hg := false }), duskPend := 0 })).settleSafety

/-- An ordered opening starts for the closed channels of a mask (R448). -/
def State.orderedOpen (s : State) (mask : Nat) : State :=
  (maskChans mask).foldl (fun s n =>
    if (s.kAt n).st = 1 ∨ (s.kAt n).st = 2 then s.updK n (fun k => { k with dl := true, ord0 := true }) else s) s

/-- CHANNEL_DISAGREEMENT (R437). -/
def execChannelDisagreement (at_ : Nat) (s : State) : Out := .next (s.atTime at_).lockdown

/-- CLOCK_CHECK_FAIL (R114, R437): the checking channel asserts GATE_VETO, an internal fault. -/
def execClockCheckFail (at_ : Nat) (s : State) : Out :=
  .next (State.settleSafety ({ s.atTime at_ with rst := { s.rst with clockFail := true } } : State).lockdown)

/-- The Dusk state begins (R43, R44, R453): `code` 1 heartbeat loss, 2 watchdog expiry. -/
def State.enterDusk (s : State) (code : Nat) : State :=
  if s.rst.dusk then s
  else
    let s1 := { s with rst := { s.rst with dusk := true } }
    let s2 := s1.wr RSUP.DUSKCAUSE (Word.ofNat (0x100 + code))
    (s2.updSup (fun u => { u with duskPend := 0x1F + code })).settleSafety

/-- HEARTBEAT_LOSS (R30, R43): with monitoring armed, the control die has driven no edge for 8 µs. While it drives the heartbeat
there is nothing to declare. -/
def execHeartbeatLoss (at_ : Nat) (s : State) : Out :=
  .next (if s.rst.hbArmed ∧ !s.heartbeat then (s.atTime at_).enterDusk 1 else s)

/-- The safety unit's part of the end of the Dusk state (R45, R435). -/
def State.endDusk (s : State) : State :=
  let s1 := { s with rst := { s.rst with dusk := false } }
  let s2 := (s1.setBit RSUP.DUSKCAUSE 8 false).updSup (fun u => { u with
    duskPend := 0, k := u.k.map (fun k => if k.st = 0 then { k with hgReq := false, bstop := false } else { k with bstop := false }) })
  (if s2.sup.st = 5 then s2.enterSt 2 else s2).settleSafety

/-- The safety unit's part of a system reset that starts while GATE_VETO is released (R88, R435). -/
def State.resetOpening (s : State) : State := if s.sup.st = 3 then (s.orderedOpen 0xFFF).enterSt 2 else s

/-- Every condition of an automatic restart (R454). -/
def State.autoRestartDue (s : State) : Bool :=
  s.sup.st == 5 && s.parB 4 31 && s.sup.kmir % 4096 == 0xFFF &&
    (List.range 4).all (fun p => !s.parB (29 + p) 31 || !s.sup.lkfb.testBit p)

/-! ### Inputs (R438, R439, R442) -/

/-- MANUAL latches of the functions that demand a stop now. -/
def State.latchManual (s : State) (lv : Nat) : State :=
  s.updSup (fun u => { u with man := (List.range 3).foldl (fun m f =>
    let w := s.par (1 + f)
    let (a, b) := fnDemand w lv f
    if tb w 31 && tb w 29 && (a || b) then m ||| 2 ^ f else m) u.man })

/-- A discrepancy clears once both channels have demanded a stop together and then both are healthy (R438). -/
def State.discStep (s : State) (f : Nat) : State :=
  let (a, b) := fnDemand (s.par (1 + f)) s.sup.inSp f
  let bit := 2 ^ f
  if !s.sup.disc.testBit f then s
  else if a && b then s.updSup (fun u => { u with both := u.both ||| bit })
  else if !a && !b && s.sup.both.testBit f then s.updSup (fun u => { u with both := u.both - bit, disc := u.disc - bit })
  else s

/-- Set or clear bit `i` of a number. -/
def setBitN (v i : Nat) (b : Bool) : Nat := if b then v ||| 2 ^ i else v - (v &&& 2 ^ i)

/-- SAFETY_INPUT_CHANGE (R438, R442). -/
def execSafetyInputChange (at_ input : Nat) (cur level : Bool) (s : State) : Out :=
  let s := s.atTime at_
  if 7 ≤ input then .next s
  else if cur then
    let s1 := s.updSup (fun u => { u with inCur := setBitN u.inCur input level })
    .next (s1.latchManual s1.sup.inCur).settleSafety
  else
    let s1 := s.updSup (fun u => { u with inSp := setBitN u.inSp input level })
    .next ((s1.latchManual s1.sup.inSp).discStep (input / 2))

/-- INPUT_DISCREPANCY (R438). -/
def execInputDiscrepancy (at_ f : Nat) (s : State) : Out :=
  let s := s.atTime at_
  let (a, b) := fnDemand (s.par (1 + f)) s.sup.inSp f
  if f < 3 ∧ s.parB (1 + f) 31 ∧ a ≠ b then .next (s.updSup (fun u => { u with disc := u.disc ||| 2 ^ f })).settleSafety
  else .next s

/-- CLAIMED_COMPARATOR_STOP (R439). -/
def execClaimedComparatorStop (at_ n : Nat) (s : State) : Out :=
  let s := s.atTime at_
  if n < 8 ∧ s.parB (49 + n) 31 ∧ s.parB (49 + n) 23 ∧ s.line (48 + n) then
    .next (s.updSup (fun u => { u with pcSp := u.pcSp ||| 2 ^ n, pcCur := u.pcCur ||| 2 ^ n })).settleSafety
  else .next s

/-- WCMASK names WCn. -/
def State.wcNamed (s : State) (n : Nat) : Bool := if n < 32 then s.parB 57 n else n < 48 && s.parB 58 (n - 32)

/-- WC_LINE_STOP (R439): in the safety processor only. -/
def execWcLineStop (n : Nat) (s : State) : Out :=
  if s.wcNamed n && s.line n then .next (s.updSup (fun u => { u with wc := u.wc ||| 2 ^ n })) else .next s

/-- SAFETY_CONVERSION_ROUND (R440, R441): a reference outside 2,048 ± 20 in two consecutive rounds is an internal fault. -/
def execSafetyConversionRound (at_ : Nat) (codes : List Nat) (s : State) : Out :=
  let s := s.atTime at_
  let c (i : Nat) := nth 0 codes i % 4096
  let dev (i : Nat) := if c i < 2048 then 2048 - c i else c i - 2048
  let s1 := s.updSup (fun u => { u with
    code := (List.range 33).map c
    runMax := (List.range 33).map (fun i => max (nth 0 u.runMax i) (c i))
    runDev := (List.range 16).map (fun i => max (nth 0 u.runDev i) (dev i))
    round := true, refBad := decide (20 < dev 32) })
  .next (if s.sup.refBad && s1.sup.refBad then s1.lockdown else s1)

/-- A cause still demands a stop: with one of these a press changes only the presence window (R442). -/
def State.causePersists (s : State) : Bool :=
  (List.range 3).any (fun f => s.parB (1 + f) 31 &&
    (let (a, b) := fnDemand (s.par (1 + f)) s.sup.inSp f
     let (c, d) := fnDemand (s.par (1 + f)) s.sup.inCur f
     a || b || c || d || s.sup.disc.testBit f)) ||
  s.demands.any (fun d => 8 ≤ d.bit ∧ d.bit ≤ 18) ||
  (List.range 4).any (fun c => let x := nth ({} : SafeConn) s.sup.conns c
    s.parB (60 + 2 * c) 31 && (!x.up || !x.permit)) ||
  (List.range 12).any (fun n => (s.kAt n).st == 4 && !s.mirOpen n)

/-- A press counts in a channel (R442). -/
def pressOk (ms : Nat) : Bool := decide (300 ≤ ms ∧ ms ≤ 3000)

/-- SAFETY_RESET_PRESS (R442, R461). -/
def execSafetyResetPress (spMs curMs : Nat) (s : State) : Out :=
  if pressOk spMs && pressOk curMs then
    let s1 := s.updSup (fun u => { u with present := true })
    if s.causePersists then .next s1
    else
      let s2 := s1.updSup (fun u => { u with man := 0, conns := u.conns.map (fun c => { c with man := false }) })
      .next ((List.range 12).foldl (fun s n =>
        if (s.kAt n).st = 4 ∧ s.mirOpen n then s.updK n (fun _ => {}) else s) s2).settleSafety
  else .next s

/-- PRESENCE_WINDOW_END (R458). -/
def execPresenceWindowEnd (s : State) : Out := .next (s.updSup (fun u => { u with present := false }))

/-- GRID_STATUS_TRANSFER (R449): the control die reports its flags; without CLK_B no transfer arrives. -/
def execGridStatusTransfer (s : State) : Out :=
  if s.rst.dawn != .held && s.domRun .fab && s.domRun .ps then
    .next (s.updSup (fun u => { u with gridUp := s.tripped, gridStale := false }))
  else .next s

/-- GRID_STATUS_TIMEOUT (R449). -/
def execGridStatusTimeout (s : State) : Out :=
  .next (if s.rst.veto then s else s.updSup (fun u => { u with gridStale := true }))

/-! ### Contactors (R445-R448, R453) -/

/-- A Kn_CS code is at or above `mv` millivolts (code × 2,500 / 4,096). -/
def codeAtLeast (code mv : Nat) : Bool := decide (mv * 4096 ≤ code * 2500)

/-- Kn_CS exceeds ICMIN in the last cycle (R445). -/
def State.coilSeen (s : State) (n : Nat) : Bool :=
  decide (s.parF (6 + 2 * n) 23 16 * 10 * 4096 < nth 0 s.sup.useMax (16 + n) * 2500)

/-- A channel counts as open: outside the Dusk state the request for Kn_HG is withdrawn (R448). -/
def State.openedK (s : State) (n : Nat) : State := s.updK n (fun k => { k with st := 0, hgReq := k.hgReq && s.sup.st == 5 })

/-- What a cycle does on a channel that closes or opens (R445, R447, R448). -/
def State.cycleK (s : State) (n : Nat) : State :=
  let k := s.kAt n
  if k.st = 1 then
    if k.lg then
      let seen := k.seen || s.coilSeen n
      let done := seen && (!s.kMirror n || !s.mirOpen n)
      s.updK n (fun k => { k with seen := seen, st := if done then 2 else 1 })
    else match k.wait with
      | none => if s.sup.hgRb.testBit n then s.updK n (fun k => { k with wait := some 2 }) else s
      | some w => if w ≤ 1 then s.updK n (fun k => { k with wait := none, lg := true, seen := false })
        else s.updK n (fun k => { k with wait := some (w - 1) })
  else if k.st = 3 ∧ s.mirOpen n then s.openedK n
  else s

/-- A readback that differs from its command (R446). -/
def State.readbackK (s : State) (n : Nat) : State :=
  if (s.kAt n).st = 4 then s
  else if s.sup.hgRb.testBit n != s.hgOn n then s.faultK n 6
  else if s.sup.lgRb.testBit n != s.lgOn n then s.faultK n 7
  else s

/-- COIL_CURRENT_TIMEOUT (R445). -/
def execCoilCurrentTimeout (n : Nat) (s : State) : Out :=
  .next (if n < 12 ∧ (s.kAt n).st = 1 ∧ (s.kAt n).lg ∧ !(s.kAt n).seen then (s.faultK n 3).settleSafety else s)

/-- MIRROR_TIMEOUT (R445, R447, R448): 0x08 after a close, 0x02 after an opening. A channel with MIRROR = 0 has no weld check: TMIRROR
after its opening it counts as open. -/
def execMirrorTimeout (n : Nat) (s : State) : Out :=
  let k := s.kAt n
  .next (if n < 12 then
    (if s.kMirror n ∧ k.st = 1 ∧ k.lg ∧ s.mirOpen n then (s.faultK n 8).settleSafety
     else if k.st = 3 ∧ !s.mirOpen n then (if s.kMirror n then s.faultK n 2 else s.openedK n).settleSafety else s)
  else s)

/-- CONTACTOR_TEST_PULSE (R446): without coil current before the pulse the switch's test has failed. -/
def execContactorTestPulse (n code : Nat) (hg : Bool) (s : State) : Out :=
  .next (if n < 12 ∧ (s.kAt n).st = 2 ∧ (s.kAt n).test = 0 then
    (if codeAtLeast code (s.parF (6 + 2 * n) 23 16 * 10) then s.updK n (fun k => { k with test := if hg then 2 else 1 })
     else (s.faultK n (if hg then 4 else 5)).settleSafety)
  else s)

/-- TEST_PULSE_END (R446): at the end of the pulse Kn_CS must be below ICOFF. -/
def execTestPulseEnd (n code : Nat) (s : State) : Out :=
  let t := (s.kAt n).test
  .next (if n < 12 ∧ t ≠ 0 then
    (if codeAtLeast code (s.parF (6 + 2 * n) 15 8) then (s.faultK n (if t = 2 then 4 else 5)).settleSafety
     else s.updK n (fun k => { k with test := 0 }))
  else s)

/-- OPENING_DEADLINE (R448): te + TMAXOPEN. -/
def execOpeningDeadline (n : Nat) (s : State) : Out := .next (if (s.kAt n).dl then s.openK n else s)

/-- CURFEW_BACKSTOP (R453): in the Dusk state Curfew turns Kn_HG off. -/
def execCurfewBackstop (n : Nat) (s : State) : Out :=
  .next (if s.sup.st = 5 then s.updK n (fun k => { k with bstop := true, hg := false }) else s)

/-- The rank of a channel. -/
def State.kRank (s : State) (n : Nat) : Nat := s.parF (5 + 2 * n) 27 24

/-- The current condition of an ordered opening holds (R448). -/
def State.kCurrentLow (s : State) (n : Nat) : Bool :=
  let i := s.parF (5 + 2 * n) 20 16
  i == 31 || decide (nth 0 s.sup.useDev i < s.parF (5 + 2 * n) 11 0)

/-- The channels of `was` that open at the end of this cycle in an ordered opening (R448). -/
def State.orderedNow (s : State) (was : List Nat) : List Nat :=
  was.filter (fun n => (s.kAt n).dl && s.kCurrentLow n &&
    !(List.range 12).any (fun m => (s.kAt m).ord0 && decide (s.kRank m < s.kRank n)))

/-! ### Cable locks (R450, R451, R453) -/

/-- Port p is held (R451). -/
def State.portHeld (s : State) (p : Nat) : Bool :=
  s.parB (29 + p) 31 && decide (s.parF (29 + p) 21 10 ≤ nth 0 s.sup.useMax (s.parF (29 + p) 26 22))

/-- A lock starts to move. -/
def State.moveLock (s : State) (p dir : Nat) : State := s.updLock p (fun l => { l with st := 3, dir := dir, stall := false })

/-- LOCK_MOVE_END (R450): the new position, a stall, or the end of TDRIVE. -/
def execLockMoveEnd (p code : Nat) (fb : Bool) (s : State) : Out :=
  let l := s.lockAt p
  if p < 4 ∧ l.st = 3 then
    let reached := fb == (l.dir == 1)
    let stall := !reached && decide (s.parF (29 + p) 4 0 * 50 * 4096 < code * 2500)
    .next ((s.updLock p (fun l => { l with
      st := if reached then (if l.dir = 1 then 1 else 2) else 4, dir := 0, stall := stall })).irq SMBX.base 6)
  else .next s

/-- In the Dusk state each enabled lock is unlocked once its port is no longer held (R453). -/
def State.duskLock (s : State) (p : Nat) : State :=
  let l := s.lockAt p
  if s.sup.st = 5 ∧ s.parB (29 + p) 31 ∧ !l.duskDone ∧ !s.portHeld p ∧ l.st ≠ 3 ∧ s.vlockGood then
    (s.moveLock p 2).updLock p (fun l => { l with duskDone := true })
  else s

/-! ### The cycle (R436, R443) -/

/-- The codes of the cycle that ends become the ones the next evaluation uses (R440). -/
def SafetyUnit.rollCodes (u : SafetyUnit) : SafetyUnit :=
  if u.round then { u with
    useMax := u.runMax, useDev := u.runDev, runMax := List.replicate 33 0, runDev := List.replicate 16 0, round := false }
  else u

/-- The safety processor takes a Dusk entry (R435, R453). -/
def State.takeDusk (s : State) : State :=
  if s.sup.duskPend ≠ 0 ∧ 2 ≤ s.sup.st ∧ s.sup.st ≤ 4 then
    let s1 := (s.updSup (fun u => { u with
      cause := u.duskPend, duskPend := 0, locks := u.locks.map (fun l => { l with duskDone := false }) })).enterSt 5
    s1.orderedOpen 0xFFF
  else s.updSup (fun u => { u with duskPend := 0 })

/-- The smallest cause of a list of demands. -/
def minCause (ds : List Demand) : Nat := ds.foldl (fun m d => min m d.cause) 0xFF

/-- The safety processor evaluates its demands (R435, R443, R449). -/
def State.takeDemands (s : State) : State :=
  let ds := s.demands
  let bits := ds.foldl (fun b d => b ||| 2 ^ d.bit) 0
  let stops := ds.filter (fun d => d.stops)
  let fresh := stops.filter (fun d => !s.sup.dem.testBit d.bit)
  let mask := ds.foldl (fun m d => m ||| d.mask) 0
  let stopMask := stops.foldl (fun m d => m ||| d.mask) 0
  let s1 := (maskChans stopMask).foldl State.stopK ((maskChans mask).foldl State.openK s)
  let s2 := s1.updSup (fun u => { u with dem := bits, demMask := mask, pcSp := u.pcCur })
  let s3 := if fresh.isEmpty then s2 else s2.irq SMBX.base 2
  if stops.isEmpty then (if s3.sup.st = 4 then s3.enterSt 2 else s3)
  else if s3.sup.st = 2 ∨ s3.sup.st = 3 then
    (s3.updSup (fun u => { u with cause := minCause (if fresh.isEmpty then stops else fresh) })).enterSt 4
  else if s3.sup.st = 4 ∧ !fresh.isEmpty then s3.updSup (fun u => { u with cause := minCause fresh })
  else s3

/-- The channels still closed in an ordered opening as the next cycle starts (R448). -/
def State.markOrdered (s : State) : State :=
  s.updSup (fun u => { u with k := u.k.map (fun k => { k with ord0 := k.dl && (k.st == 1 || k.st == 2) }) })

/-- The opcodes of R463. -/
def smbxOps : List Nat := [0x10, 0x11, 0x20, 0x21, 0x30, 0x31, 0x40, 0x41, 0x42, 0x43, 0x44, 0x50]

/-- The safety processor posts a reply (R463). -/
def State.smbxReply (s : State) (status : Nat) (data : Word) : State :=
  let c := s.sup.latch.1
  let s1 := (s.wr (SMBX.base + 0x4C) (Word.ofNat (status * 2 ^ 24 + bitsOf c 23 16 * 2 ^ 16 + bitsOf c 31 24 * 2 ^ 8))).wr
    (SMBX.base + 0x50) data
  ((s1.setBit (SMBX.base + 0x10) 8 false).irq SMBX.base 0).updSup (fun u => { u with taken := false })

/-- The safety processor takes the command that waits (R463); its own command of the table executes it. -/
def State.takeSmbx (s : State) : State :=
  if s.bit (SMBX.base + 0x10) 8 && !s.sup.taken then
    if smbxOps.contains (bitsOf s.sup.latch.1 31 24) then s.updSup (fun u => { u with taken := true }) else s.smbxReply 1 0
  else s

/-- SAFETY_CYCLE (R436, R437, R440, R443, R445-R449, R453, R463). -/
def execSafetyCycle (at_ kmir lkfb hgRb lgRb : Nat) (fault : Bool) (s : State) : Out :=
  let s0 := (s.atTime at_).updSup (fun u => { u.rollCodes with kmir := kmir, lkfb := lkfb, hgRb := hgRb, lgRb := lgRb })
  if s0.sup.st = 0 then .next s0
  else if s0.sup.st = 6 then .next ((List.range 12).foldl State.cycleK s0).takeSmbx
  else if fault then .next s0.lockdown
  else
    let s1 := (List.range 12).foldl State.readbackK s0
    let was := (List.range 12).filter (fun n => (s1.kAt n).dl)
    let s2 := s1.takeDusk.takeDemands
    let s3 := (s2.orderedNow was).foldl State.openK s2
    let s4 := (List.range 12).foldl State.cycleK s3
    let s5 := (List.range 4).foldl State.duskLock s4
    .next s5.markOrdered.takeSmbx.settleSafety

/-! ### What SMBX shows (R463 and its tables) -/

/-- CHECK of a parameter set (R456). -/
def paramCheck (ws : List Word) : Word := Word.ofNat (crc32c (ws.flatMap (fun w => leBytes 4 w.toNat)))

/-- A number with bit `n` set where `f n` holds, n < k. -/
def maskOfB (k : Nat) (f : Nat → Bool) : Nat := (List.range k).foldl (fun m n => if f n then m + 2 ^ n else m) 0

/-- KCLOSED: both switches on. -/
def State.kClosed (s : State) : Nat := maskOfB 12 (fun n => s.hgOn n && s.lgOn n)

/-- The word SMBX computes for offset `off`, where it computes one. -/
def State.smbxShown (s : State) (off : Nat) : Option Nat :=
  let u := s.sup
  if off = 0x40 then some (u.st * 2 ^ 28 + b2n s.rst.hbArmed * 2 ^ 27 + b2n s.rst.veto * 2 ^ 26 + b2n (!s.curfewDemand.1) * 2 ^ 25 +
    b2n u.cand.isSome * 2 ^ 24 + u.cause * 2 ^ 16 + u.lkfb % 16 * 2 ^ 12 + s.kClosed)
  else if off = 0x54 then some (u.kmir % 4096 * 2 ^ 20 + u.lkfb % 16 * 2 ^ 16 + b2n (u.inSp.testBit 6) * 2 ^ 15 +
    u.inCur % 64 * 2 ^ 8 + u.inSp % 64)
  else if off = 0x58 then some u.dem
  else if 0x80 ≤ off ∧ off < 0xB0 then
    let n := (off - 0x80) / 4
    let k := s.kAt n
    some (k.st * 2 ^ 29 + k.fault * 2 ^ 24 + b2n (u.hgRb.testBit n) * 2 ^ 23 + b2n (u.lgRb.testBit n) * 2 ^ 22 +
      b2n (u.kmir.testBit n) * 2 ^ 21 + nth 0 u.code (16 + n))
  else if 0xC0 ≤ off ∧ off < 0xD0 then
    let p := (off - 0xC0) / 4
    let l := s.lockAt p
    some (l.st * 2 ^ 29 + b2n (s.portHeld p) * 2 ^ 28 + b2n (s.curfewBlock p) * 2 ^ 27 + b2n l.stall * 2 ^ 26 +
      nth 0 u.code (s.parF (29 + p) 26 22))
  else if 0x100 ≤ off ∧ off < 0x140 then
    let n := (off - 0x100) / 4
    some (b2n (s.sainOut n) * 2 ^ 31 + nth 0 u.code n)
  else if off = 0x180 then some (paramCheck u.params).toNat
  else if off = 0x184 then some u.pcand.toNat
  else if 0x240 ≤ off ∧ off < 0x250 then
    let x := nth ({} : SafeConn) u.conns ((off - 0x240) / 4)
    some (b2n x.up * 2 ^ 31 + b2n x.fault * 2 ^ 30 + x.cause * 2 ^ 28 + x.last % 65536)
  else none

end Sys2Proof.Machine
end

