-- ==== Sys2Proof/Machine/SafetyMailbox.lean ====
section
/-!
DEFINITION. The safety mailbox (R455-R458, R463), the parameter set's checks, and the safety-layer frames (R459-R464).
-/
namespace Sys2Proof.Machine

/-! ### Validity of a parameter set (R455, R456) -/

/-- The bits word `i` may use. -/
def paramMask (i : Nat) : Nat :=
  if i = 0 then 0xFF00FFFF
  else if i ≤ 3 then 0xEFFF0FFF
  else if i = 4 then 0x80FFFFFF
  else if i < 29 then (if i % 2 = 1 then 0xCF1F0FFF else 0xFFFFFF00)
  else if i < 33 then 0xFFFFFFFF
  else if i < 49 then 0xCFFF0FFF
  else if i < 57 then 0xF3FF0FFF
  else if i = 57 then 0xFFFFFFFF
  else if i = 58 then 0xFF00FFFF
  else if i < 67 then (if i % 2 = 1 then 0xFFFFFFFF else 0xEFFF03FF)
  else if i = 67 then 0x80000FFF
  else 0

/-- Bits `[hi:lo]` of word `i` of a set. -/
def pf (ws : List Word) (i hi lo : Nat) : Nat := bitsOf (nth 0 ws i) hi lo

/-- `v` lies in `lo … hi`. -/
def inR (v lo hi : Nat) : Bool := decide (lo ≤ v ∧ v ≤ hi)

/-- Every channel a mask names is enabled. -/
def chansEnabled (ws : List Word) (m : Nat) : Bool := (maskChans m).all (fun n => tb (nth 0 ws (5 + 2 * n)) 31)

/-- CID of connection `c` is non-zero and differs from that of every other enabled connection. -/
def cidOk (ws : List Word) (c : Nat) : Bool :=
  nth 0 ws (59 + 2 * c) != 0 &&
    (List.range c).all (fun d => !tb (nth 0 ws (60 + 2 * d)) 31 || nth 0 ws (59 + 2 * d) != nth 0 ws (59 + 2 * c))

/-- Word `i` is valid within its set (R455, R456). -/
def paramWordOk (ws : List Word) (i : Nat) : Bool :=
  let w := nth 0 ws i
  let en := tb w 31
  (w.toNat ||| paramMask i) == paramMask i &&
  (if i = 0 then pf ws 0 31 24 == 1
   else if i ≤ 3 then
     if en then inR (pf ws i 27 24) 1 10 && inR (pf ws i 23 16) 1 50 && chansEnabled ws (pf ws i 11 0) else i != 1
   else if i = 4 then inR (pf ws 4 23 16) 1 60 && inR (pf ws 4 15 8) 1 20 && inR (pf ws 4 7 0) 1 50
   else if i < 29 then
     if i % 2 = 1 then !en || pf ws i 20 16 ≤ 15 || pf ws i 20 16 == 31
     else !tb (nth 0 ws (i - 1)) 31 || pf ws i 31 24 != 0
   else if i < 33 then
     !en || (pf ws i 26 22 ≤ 15 && pf ws i 9 5 != 0 && pf ws i 4 0 != 0 &&
       (!tb w 30 || tb (nth 0 ws (49 + pf ws i 29 27)) 31))
   else if i < 49 then !en || pf ws i 11 0 ≤ pf ws i 27 16
   else if i < 57 then !en || inR (pf ws i 22 16) 1 100
   else if i = 58 then (nth 0 ws 57 == 0 && pf ws 58 15 0 == 0) || inR (pf ws 58 31 24) 1 10
   else if 59 ≤ i ∧ i < 67 then
     if i % 2 = 1 then !tb (nth 0 ws (i + 1)) 31 || cidOk ws ((i - 59) / 2)
     else !en || (inR (pf ws i 9 0) 5 1000 && chansEnabled ws (pf ws i 27 16))
   else if i = 67 then !en || chansEnabled ws (pf ws 67 11 0)
   else true)

/-- The first word of a set that fails, none for a valid set. -/
def paramBad (ws : List Word) : Option Nat := (List.range 79).find? (fun i => !paramWordOk ws i)

/-- Activate a set (R253, R458): Curfew's copy, the claims, and READY. -/
def State.activateSet (s : State) (ws : List Word) : State :=
  let s1 := s.updSup (fun u => { u with
    params := ws, cand := none, checked := false, pcand := 0, man := 0, disc := 0, both := 0, pcSp := 0, pcCur := 0, wc := 0 })
  let s2 := (List.range 8).foldl (fun s n =>
    let w := nth 0 ws (49 + n)
    if tb w 31 then s.claimPc n w else s.unclaimPc n) s1
  ((s2.latchManual s2.sup.inSp).latchManual s2.sup.inCur).enterSt 2 |>.settleSafety

/-- SAFETY_INIT_COMPLETE (R435, R437, R456, R457): the newer stored copy that is valid; LOCKDOWN where the self-test fails.
Step 2 of the Dawn sequence: it follows the end of the power-side die's reset stretch with VIN_PS and VDD_PS in range (R109). -/
def execSafetyInitComplete (pass : Bool) (bad : Nat) (s : State) : Out :=
  if s.sup.st ≠ 0 ∨ s.rst.stretch = some .powerOn ∨ !s.bit RSUP.SUPSTAT 0 ∨ !s.bit RSUP.SUPSTAT 1 then .next s
  else if !pass then .next (((s.updSup (fun u => { u with cause := 0x30 })).enterSt 6).settleSafety)
  else
    let good := ((List.range 2).filter (fun i => !bad.testBit i)).filterMap (fun i => s.sup.copies[i]?)
    match good.find? (fun ws => (paramBad ws).isNone) with
    | some ws => .next (s.activateSet ws)
    | none => .next (s.enterSt 1).settleSafety

/-! ### The mailbox (R463) -/

/-- A write to CMD: it posts and latches the command, or is refused while PEND is 1. -/
def smbxCmdWrite (init : Nat) (data : Word) (s : State) : State :=
  if s.bit (SMBX.base + 0x10) 8 then s.errorResp init (SMBX.base + 0x44) .refused true
  else
    let s1 := (s.wr (SMBX.base + 0x44) data).setBit (SMBX.base + 0x10) 8 true
    (s1.updSup (fun u => { u with latch := (data, s1.rd (SMBX.base + 0x48)), taken := false })).respond init (SMBX.base + 0x44) 0

/-- Execute the taken command when its opcode is `opc`: `f` gets ARG and CMDARG and answers the state, the status and RPLDATA. -/
def runSmbx (opc : Nat) (f : Nat → Word → State → State × Nat × Word) (s : State) : Out :=
  if s.sup.taken && s.bit (SMBX.base + 0x10) 8 && bitsOf s.sup.latch.1 31 24 == opc then
    let r := f (bitsOf s.sup.latch.1 15 0) s.sup.latch.2 s
    .next (r.1.settleSafety.smbxReply r.2.1 r.2.2)
  else .next s

/-- In the Dusk state a command is refused with DUSK (R454). -/
def notInDusk (f : Nat → Word → State → State × Nat × Word) (arg : Nat) (d : Word) (s : State) : State × Nat × Word :=
  if s.sup.st = 5 ∨ s.rst.dusk then (s, 7, 0) else f arg d s

/-- Every contactor is open and has passed its weld check (R111, R447). -/
def State.allOpen (s : State) : Bool := (List.range 12).all (fun n => (s.kAt n).st == 0 && (!s.kMirror n || s.mirOpen n))

/-- VETO_RELEASE (R111, R463): the grant releases GATE_VETO, arms heartbeat monitoring and clears DUSKCAUSE. -/
def vetoRelease (hbUs : Nat) (s : State) : State × Nat × Word :=
  if s.sup.st = 3 then (s, 0, 0)
  else if s.sup.st ≠ 2 ∨ s.sup.cand.isSome then (s, 2, 0)
  else if s.sup.dem % 2 ^ 25 ≠ 0 ∨ s.curfewDemand.1 then (s, 4, 0)
  else if !s.allOpen then (s, 5, 0)
  else if !s.heartbeat ∨ hbUs < 100 then (s, 6, 0)
  else
    let s1 := { s with rst := { s.rst with vetoHold := false, hbArmed := true } }
    (((s1.setFld RSUP.DUSKCAUSE 1 0 0).setBit SYS.VERSEL 0 false).enterSt 3, 0, 0)

/-- VETO_RELEASE (R111). -/
def execSfVetoRelease (at_ hbUs : Nat) (s : State) : Out :=
  runSmbx 0x10 (notInDusk (fun _ _ s => vetoRelease hbUs s)) (s.atTime at_)

/-- HALT (R435, R463). -/
def halt (s : State) : State × Nat × Word :=
  let s1 := if s.sup.st = 3 then (s.updSup (fun u => { u with cause := 0x19 })).enterSt 2 else s
  (s1.orderedOpen 0xFFF, 0, 0)

/-- HALT (R448, R463). -/
def execSfHalt (at_ : Nat) (s : State) : Out := runSmbx 0x11 (notInDusk (fun _ _ s => halt s)) (s.atTime at_)

/-- A faulted channel whose mirror reads closed. -/
def State.weldedK (s : State) (n : Nat) : Bool := (s.kAt n).st == 4 && s.kMirror n && !s.mirOpen n

/-- A mask is empty, sets a bit above bit 11, or names a disabled channel (R463). -/
def State.badMask (s : State) (m : Nat) : Bool := m == 0 || decide (4096 ≤ m) || !(maskChans m).all s.kEn

/-- Why channel `n` is refused by CLOSE: 4 INPUT, 11 FAULT, 5 CONTACTOR, 8 LOCK; 0 when it is accepted (R445, R463). -/
def State.closeJudge (s : State) (n : Nat) : Nat :=
  let k := s.kAt n
  if s.sup.demMask.testBit n ∨ s.curfewDemand.2.testBit n then 4
  else if k.st = 4 then 11
  else if s.kMirror n && !s.mirOpen n then 5
  else if n < 8 && s.parB (29 + n / 2) 31 && !s.sup.lkfb.testBit (n / 2) then 8
  else 0

/-- The first refusal in test order that any channel met. -/
def firstRefusal (rs : List Nat) : Nat := ([4, 11, 5, 8].find? (fun r => rs.contains r)).getD 0

/-- CLOSE (R445, R447, R463): a channel whose mirror reads closed takes fault 0x01; an accepted one asks Curfew for Kn_HG. -/
def closeCmd (m : Nat) (s : State) : State × Nat × Word :=
  if s.sup.st ≠ 3 then (s, 2, 0)
  else if s.badMask m then (s, 3, 0)
  else
    let js := (maskChans m).map (fun n => (n, s.closeJudge n))
    let s1 := js.foldl (fun s p =>
      if p.2 = 5 then s.faultK p.1 1
      else if p.2 = 0 ∧ ((s.kAt p.1).st = 0 ∨ (s.kAt p.1).st = 3) then
        s.updK p.1 (fun k => { st := 1, hgReq := true, hg := k.hg })
      else s) s
    (s1, firstRefusal (js.map (fun p => p.2)), Word.ofNat (js.foldl (fun a p => if p.2 = 0 then a + 2 ^ p.1 else a) 0))

/-- CLOSE (R445). -/
def execSfClose (s : State) : Out := runSmbx 0x20 (notInDusk (fun a _ s => closeCmd a s)) s

/-- OPEN (R448, R463). -/
def openCmd (m : Nat) (s : State) : State × Nat × Word := if s.badMask m then (s, 3, 0) else (s.orderedOpen m, 0, 0)

/-- OPEN (R448). -/
def execSfOpen (s : State) : Out := runSmbx 0x21 (notInDusk (fun a _ s => openCmd a s)) s

/-- Port `p` has a contactor that is not open; a welded one is closed. -/
def State.portClosed (s : State) (p : Nat) : Bool :=
  [2 * p, 2 * p + 1].any (fun n => (s.kAt n).st == 1 || (s.kAt n).st == 2 || (s.kAt n).st == 3 || s.weldedK n)

/-- LOCK and UNLOCK (R450, R451, R463): refused while VLOCK is low, while the lock moves, and for a held or closed port. -/
def lockCmd (arg dir : Nat) (s : State) : State × Nat × Word :=
  if 4 ≤ arg ∨ !s.parB (29 + arg) 31 then (s, 3, 0)
  else if !s.vlockGood ∨ (s.lockAt arg).st = 3 then (s, 8, 0)
  else if dir = 2 ∧ (s.portHeld arg ∨ s.portClosed arg) then (s, 8, 0)
  else (s.moveLock arg dir, 0, 0)

/-- LOCK (R450). -/
def execSfLock (s : State) : Out := runSmbx 0x30 (notInDusk (fun a _ s => lockCmd a 1 s)) s

/-- UNLOCK (R451). -/
def execSfUnlock (s : State) : Out := runSmbx 0x31 (notInDusk (fun a _ s => lockCmd a 2 s)) s

/-- PARAM_BEGIN (R458). -/
def paramBegin (s : State) : State × Nat × Word :=
  let quiet := (List.range 12).all (fun n => (s.kAt n).st == 0 || ((s.kAt n).st == 4 && !s.weldedK n))
  if s.sup.cand.isSome ∨ !(s.sup.st == 1 || (s.sup.st == 2 && quiet)) then (s, 2, 0)
  else (s.updSup (fun u => { u with cand := some u.params, checked := false }), 0, 0)

/-- PARAM_BEGIN (R458). -/
def execSfParamBegin (s : State) : Out := runSmbx 0x40 (notInDusk (fun _ _ s => paramBegin s)) s

/-- PARAM_WRITE (R458). -/
def paramWrite (arg : Nat) (d : Word) (s : State) : State × Nat × Word :=
  match s.sup.cand with
  | none => (s, 2, 0)
  | some ws =>
    if 78 < arg then (s, 3, 0)
    else (s.updSup (fun u => { u with cand := some (upd ws arg (fun _ => d)), checked := false }), 0, 0)

/-- PARAM_WRITE (R458). -/
def execSfParamWrite (s : State) : Out := runSmbx 0x41 (notInDusk paramWrite) s

/-- PARAM_CHECK (R456, R458). -/
def paramCheckCmd (s : State) : State × Nat × Word :=
  match s.sup.cand with
  | none => (s, 2, 0)
  | some ws =>
    match paramBad ws with
    | some i => (s.updSup (fun u => { u with checked := false, pcand := 0 }), 3, Word.ofNat i)
    | none => (s.updSup (fun u => { u with checked := true, pcand := paramCheck ws }), 0, paramCheck ws)

/-- PARAM_CHECK (R458). -/
def execSfParamCheck (s : State) : Out := runSmbx 0x42 (notInDusk (fun _ _ s => paramCheckCmd s)) s

/-- PARAM_CONFIRM (R458): the candidate becomes the newer stored copy and the active set. -/
def paramConfirm (d : Word) (s : State) : State × Nat × Word :=
  match s.sup.cand with
  | none => (s, 2, 0)
  | some ws =>
    if s.sup.st ≠ 1 ∧ s.sup.st ≠ 2 then (s, 2, 0)
    else if !s.sup.checked ∨ d ≠ s.sup.pcand then (s, 9, 0)
    else if !s.sup.present then (s, 10, 0)
    else ((s.updSup (fun u => { u with copies := ws :: u.copies.take 1 })).activateSet ws, 0, 0)

/-- PARAM_CONFIRM (R458). -/
def execSfParamConfirm (s : State) : Out := runSmbx 0x43 (notInDusk (fun _ d s => paramConfirm d s)) s

/-- PARAM_ABORT (R458). -/
def paramAbort (s : State) : State × Nat × Word :=
  if s.sup.cand.isNone then (s, 2, 0)
  else (s.updSup (fun u => { u with cand := none, checked := false, pcand := 0 }), 0, 0)

/-- PARAM_ABORT (R458). -/
def execSfParamAbort (s : State) : Out := runSmbx 0x44 (notInDusk (fun _ _ s => paramAbort s)) s

/-- READ_PARAM (R463): allowed in the Dusk state too. -/
def readParam (arg : Nat) (s : State) : State × Nat × Word :=
  if 79 < arg then (s, 3, 0) else (s, 0, if arg = 79 then paramCheck s.sup.params else s.par arg)

/-- READ_PARAM (R463). -/
def execSfReadParam (s : State) : Out := runSmbx 0x50 (fun a _ s => readParam a s) s

/-! ### Safety-layer frames (R459-R462, R464) -/

/-- Change connection `c`. -/
def State.updConn (s : State) (c : Nat) (f : SafeConn → SafeConn) : State :=
  s.updSup (fun u => { u with conns := upd u.conns c f })

/-- A connection fault (R460, R461): cause 1 check, version, length or TEXP; 2 sequence; 3 timeout. -/
def State.connFault (s : State) (c cause : Nat) : State :=
  (s.updConn c (fun x => { x with
    up := false, exp := none, fault := true, cause := cause, man := x.man || s.parB (60 + 2 * c) 29 })).irq SMBX.base 5

/-- CONNECTION_TIMEOUT (R460): a fault in UP; in DOWN the next frame sets the expected SEQ anew. -/
def execConnectionTimeout (c : Nat) (s : State) : Out :=
  if c < 4 ∧ s.parB (60 + 2 * c) 31 then
    if (nth ({} : SafeConn) s.sup.conns c).up then .next (s.connFault c 3)
    else .next (s.updConn c (fun x => { x with exp := none }))
  else .next s

/-- CHECK of a frame's bytes before it, on connection `c` (R459). -/
def State.frameCheck (s : State) (c : Nat) (bs : List Byte) : Nat := crc32c (beBytes 4 (s.par (59 + 2 * c)).toNat ++ bs)

/-- The frame passes every test of R460 but its sequence. -/
def State.frameOk (s : State) (c : Nat) (bs : List Byte) : Bool :=
  let len := beNat ((bs.drop 1).take 1)
  decide (10 ≤ bs.length) && bs.head? == some 1 && decide (len ≤ 32) && bs.length == len + 10 &&
    beNat ((bs.drop 4).take 2) == s.parF (60 + 2 * c) 9 0 &&
    beNat (bs.drop (6 + len)) == s.frameCheck c (bs.take (6 + len))

/-- The connection after an accepted frame (R460, R461). -/
def SafeConn.accept (x : SafeConn) (seq : Nat) (permit up : Bool) : SafeConn :=
  { x with exp := some ((seq + 1) % 65536), last := seq, permit := permit, up := up, fault := x.fault && !up
           cause := if up then 0 else x.cause }

/-- A relayed frame is evaluated on connection `c` (R460). -/
def State.evalFrame (s : State) (c : Nat) (bs : List Byte) : State :=
  if !s.parB (60 + 2 * c) 31 then s
  else if !s.frameOk c bs then s.connFault c 1
  else
    let x := nth ({} : SafeConn) s.sup.conns c
    let seq := beNat ((bs.drop 2).take 2)
    let permit := decide (1 ≤ beNat ((bs.drop 1).take 1)) && ((bs.drop 6).headD 0).getLsbD 0
    if x.up then
      if x.exp = some seq then s.updConn c (fun x => x.accept seq permit true)
      else if seq = x.last then s
      else s.connFault c 2
    else s.updConn c (fun x => x.accept seq permit (decide (x.exp = some seq)))

/-- Byte `i` of a frame packed in words from address `a` (R464). -/
def State.packed (s : State) (a n : Nat) : List Byte :=
  (List.range n).map (fun i => BitVec.ofNat 8 ((s.rd (a + 4 * (i / 4))).toNat >>> (8 * (i % 4))))

/-- A write to RXCTL: GO hands the frame over, or is refused while one waits (R464). -/
def rxctlWrite (init : Nat) (data : Word) (s : State) : State :=
  let a := SMBX.base + 0x1C0
  if !tb data 31 then s.respond init a 0
  else if s.sup.rx.isSome then s.errorResp init a .refused true
  else (s.updSup (fun u => { u with rx := some (bitsOf data 9 8, s.packed (SMBX.base + 0x1C4) (min (bitsOf data 5 0) 44)) })).respond init a 0

/-- SAFETY_FRAME_RELAY (R464). -/
def execSafetyFrameRelay (init : Nat) (data : Word) (s : State) : Out :=
  .next (s.writeAt .ps SMBX.base init (SMBX.base + 0x1C0) (data ||| 0x80000000) (rxctlWrite init (data ||| 0x80000000)))

/-- SAFETY_FRAME_RECEIVE (R460, R464). -/
def execSafetyFrameReceive (s : State) : Out :=
  match s.sup.rx with
  | none => .next s
  | some (c, bs) => .next (State.evalFrame (s.updSup (fun u => { u with rx := none })) c bs)

/-- The frame connection `c` sends next (R459, R462). -/
def State.sendFrame (s : State) (c : Nat) : List Byte :=
  let x := nth ({} : SafeConn) s.sup.conns c
  let b := [1, 8] ++ beBytes 2 x.txSeq ++ beBytes 2 (s.parF (60 + 2 * c) 9 0) ++ beBytes 1 s.sup.st ++ beBytes 1 s.sup.cause ++
    beBytes 2 s.kClosed ++ beBytes 1 (s.sup.lkfb % 16) ++ [0, 0, 0]
  b ++ beBytes 4 (s.frameCheck c b)

/-- SAFETY_FRAME_SEND (R462, R464): a frame posted while READY is 1 replaces the old one and sets OVF. -/
def execSafetyFrameSend (c : Nat) (s : State) : Out :=
  if c < 4 ∧ s.parB (60 + 2 * c) 31 ∧ s.parB (60 + 2 * c) 30 ∧ s.sup.st ≠ 0 then
    let f := s.sendFrame c
    let tx := SMBX.base + 0x1F0
    let s1 := (List.range 11).foldl (fun s i => s.wr (SMBX.base + 0x200 + 4 * i) (Word.ofNat (leNat ((f.drop (4 * i)).take 4)))) s
    let s2 := if s1.bit tx 31 then s1.setBit tx 30 true else s1
    let s3 := ((s2.setBit tx 31 true).setFld tx 9 8 c).setFld tx 5 0 f.length
    .next ((s3.irq SMBX.base 4).updConn c (fun x => { x with txSeq := (x.txSeq + 1) % 65536 }))
  else .next s

end Sys2Proof.Machine
end

