-- ==== Sys2Proof/Machine/Reset.lean ====
section
/-!
DEFINITION. Supplies and resets (chapter 3, R84-R97): the supply monitors, the reset controller with its three nested levels,
core resets and restarts, the system watchdog.
-/
namespace Sys2Proof.Machine

/-! ### Causes (R89) -/

/-- The level of a cause code, none for a code the table does not list (R89). -/
def causeLevel (c : Nat) : Option RLevel :=
  if c = 1 then some .powerOn
  else if (2 ≤ c ∧ c ≤ 8) ∨ (0x10 ≤ c ∧ c ≤ 0x15) then some .system
  else if c = 0x20 ∨ c = 0x21 ∨ c = 0x22 ∨ c = 0x24 ∨ c = 0x25 ∨ c = 0x28 then some .core
  else none

/-- The rank of a level: a higher one contains the lower ones (R86). -/
def RLevel.rank : RLevel → Nat
  | .core => 1 | .system => 2 | .powerOn => 3

/-- RSTCAUSE.LEVEL. -/
def RLevel.code : RLevel → Nat
  | .powerOn => 1 | .system => 2 | .core => 3

/-- The clerks a core-reset cause names: bit 0 CLK0, bit 1 CLK1 (R89). -/
def causeHarts (c : Nat) : Nat := if c = 0x20 ∨ c = 0x24 then 1 else if c = 0x21 ∨ c = 0x25 then 2 else 3

/-- The rank of the reset in progress: its stretch, or the control die still held; 0 for none (R91). -/
def State.resetRank (s : State) : Nat :=
  match s.rst.stretch with
  | some l => if l = .core ∧ s.rst.dawn = .held then 2 else l.rank
  | none => if s.rst.dawn = .held then 2 else 0

/-! ### The control die's part of a system or power-on reset (R86, R49) -/

/-- The registers that a system reset keeps: those of the power-side die but for the auxiliary drivers, the link and the
watchdog, and DBG_OPEN (R86). Live inputs of the auxiliary drivers and of the GPIO balls stand. -/
def keptRegs (s : State) : List (Nat × Word) :=
  let ps := s.regs.filter (fun p => 0x40800000 ≤ p.1 && p.1 < 0x40880000 && !(AUX.base ≤ p.1 && p.1 < AUX.base + 0x1000) && p.1 != RSUP.WDOG_CFG)
  let live := [(SYS.STAT, s.rd SYS.STAT &&& 0x400), (AUX.base + 0x5C, s.rd (AUX.base + 0x5C) &&& 0x78070000),
    (GPIO.base + 0x50, s.rd (GPIO.base + 0x50))]
  live.foldl (fun l p => Store.put (resetOf p.1) l p.1 p.2) ps

/-- Memory that is not on the KL960: xSPI devices and LPDDR4X. Every memory of the control die loses its contents (R86). -/
def extMem (m : List Host.Cell) : List Host.Cell := m.filter (fun c => 0x60000000 ≤ c.1)

/-- A half-bridge after the reset: both balls low (R50), its inputs as they are. -/
def GateHb.afterReset (h : GateHb) (now : Nat) : GateHb :=
  { flt := h.flt, vetoed := h.vetoed, fellA := if h.ballA then some now else h.fellA, fellB := if h.ballB then some now else h.fellB }

/-- Everything of the control die at its reset value (R86, R49, R174, R239, R280, R331): slips, waiting accesses and claims are
gone, memories lost, the clerks held, the clocks relocking, keys and caches cleared, internal scan left. -/
def State.dieReset (s : State) : State :=
  let z : State := {}
  { s with
    regs := keptRegs s, mem := extMem s.mem, claimed := [],
    balls := { tripIn := s.balls.tripIn, taken := s.balls.taken.filter (fun b => 0x40800000 ≤ b && b < 0x40880000) }, clk := z.clk, clerk0 := z.clerk0, clerk1 := z.clerk1, bus := z.bus, fab := z.fab,
    conv := z.conv, pwm := z.pwm, gate := s.gate.map (fun h => h.afterReset s.now), extSync := none,
    aux := { above := s.aux.above }, tel := z.tel, deps := [], setl := z.setl, mp := z.mp, grid := z.grid,
    ledger := z.ledger, health := z.health, ox := z.ox, ptp := { since := s.now }, eth := z.eth, can := z.can, canDma := z.canDma, xspi := none,
    ddrGo := false, uart := z.uart, spi := z.spi, pilot := z.pilot, recorder := z.recorder,
    jtag := { s.jtag with intscan := false, bootKeys := false } }

/-- The clerk debug logic and the TAP at their reset state (R86): a power-on reset, or the loss of VDD_CORE. -/
def State.debugLost (s : State) : State := ({ s with jtag := {} } : State).setBit SYS.STAT 10 false

/-- The comparators at power-on: their configuration is lost, the inputs stand (R86). -/
def cmpPowerOn (l : List Cmp) : List Cmp :=
  let z : State := {}
  List.zipWith (fun d c => { d with vin := c.vin }) z.cmp l

/-- Enter a system reset (R86-R88, R95): GATE_VETO is asserted and monitoring disarmed; where the veto was released, the
contactors open in order; the control die goes to reset; the Dusk state persists unless `endsDusk`. -/
def State.systemReset (s : State) (endsDusk debugLoss : Bool) : State :=
  let s1 := if s.rst.veto then s else s.resetOpening
  let s2 : State := { s1 with rst := { s1.rst with
    vetoHold := true, hbArmed := false, hbStopped := false, wdRun := false, wdLimit := 2000, dawn := .held, entry := 0,
    coreMask := 0, attempt := 0, firstFail := 0 } }
  let s3 := (if s2.rst.veto then s2 else s2.assertVeto).dieReset
  let s4 := (s3.setBit (RSUP.base + 0x10) 8 false).setBit (RSUP.base + 0x14) 1 false
  let s5 := if debugLoss then s4.debugLost else s4
  if endsDusk ∧ s5.rst.dusk then s5.endDusk else s5

/-- Enter a power-on reset (R86, R87): both dies. Meloskern and Nightwatch go on, and the safety unit's parameter store stays. -/
def State.powerOnReset (s : State) : State :=
  let s1 := (if s.rst.veto then s else s.assertVeto).dieReset
  let z : State := {}
  { s1 with
    regs := [], jtag := {}, cmp := cmpPowerOn s1.cmp, aux := z.aux, sup := { copies := s1.sup.copies },
    fuses := { s1.fuses with latchedPs := [] },
    rst := { z.rst with stretch := s1.rst.stretch, rstnHeld := s1.rst.rstnHeld, straps := s1.rst.straps } }

/-! ### Core resets (R90, R174, R508) -/

/-- A clerk enters core reset: its reservation is lost (R506), its debug halt ends; MRSTINFO records the cause. -/
def Clerk.coreReset (c : Clerk) (code : Nat) (already : Bool) : Clerk :=
  { c with held := true, resv := none, fault := none, halted := false, rstCause := code,
           rstCount := if already then c.rstCount else min (c.rstCount + 1) 255 }

/-- Hart `h` enters core reset: the responses to its outstanding slips and accesses will be discarded (R174), a parallel check of
its lockstep checker stops (R477). -/
def State.coreResetHart (s : State) (h code : Nat) : State :=
  let already := s.rst.coreMask.testBit h
  let s1 := (s.updClerk h (fun c => c.coreReset code already)).updChecker h (fun x => { x with parallel := false })
  let kill := fun (p : Slip) => if p.init = 64 + h then { p with dead := true } else p
  { s1 with
    fab := { s1.fab with slips := s1.fab.slips.map kill, stalled := s1.fab.stalled.map kill },
    bus := { s1.bus with waiting := s1.bus.waiting.map (fun x => if x.init = 64 + h then { x with dead := true } else x) },
    rst := { s1.rst with coreMask := s1.rst.coreMask ||| 2 ^ h } }

/-- A core-reset cause takes the clerks it names. -/
def State.coreReset (s : State) (code : Nat) : State :=
  [0, 1].foldl (fun t h => if (causeHarts code).testBit h then t.coreResetHart h code else t) s

/-! ### The arrival of causes (R91, R92) -/

/-- The source of a cause can raise it in this state: RST_N while the KL960 does not drive the ball (R94), the watchdog while it
counts and monitoring is disarmed (R96), an automatic restart while it is due (R45, R454), a lockstep mismatch of a clerk that
runs (R90). The other sources stand outside what the state holds. -/
def State.causeStands (s : State) (c : Nat) : Bool :=
  if c = 0x10 then !s.rst.rstnLow
  else if c = 0x11 then s.rst.wdRun && !s.rst.hbArmed
  else if c = 0x14 then s.rst.dusk && s.autoRestartDue
  else if c = 0x24 then !s.clerk0.held
  else if c = 0x25 then !s.clerk1.held
  else true

/-- The causes of one CLK_SAFE cycle that are not discarded: a core-level cause during a system or power-on reset is (R91). -/
def State.acceptedCauses (s : State) (codes : List Nat) : List Nat :=
  codes.filter (fun c =>
    match causeLevel c with
    | none => false
    | some .core => decide (s.resetRank < 2)
    | some _ => true)

/-- The cause among some that is recorded: the highest level, then the lowest code (R91). -/
def bestCause : List Nat → Option (RLevel × Nat)
  | [] => none
  | c :: t =>
    match causeLevel c, bestCause t with
    | none, b => b
    | some l, none => some (l, c)
    | some l, some (m, d) => if m.rank < l.rank ∨ (m.rank = l.rank ∧ c ≤ d) then some (l, c) else some (m, d)

/-- The part of the reset that a level brings. Core causes in one cycle act for every clerk they name. -/
def State.enterLevel (s : State) (l : RLevel) (codes : List Nat) : State :=
  match l with
  | .powerOn => s.powerOnReset
  | .system => s.systemReset (codes.any (fun c => c == 0x10 || c == 0x14)) (codes.contains 2)
  | .core => codes.foldl State.coreReset s

/-- Reset causes that arrive in one CLK_SAFE cycle (R86-R92): recorded, applied, and the stretch starts anew with RST_N low. -/
def State.resetArrive (s : State) (codes : List Nat) : State :=
  let cs := s.acceptedCauses codes
  match bestCause cs with
  | none => s
  | some (l, c) =>
    let cur := s.resetRank
    let top := match s.rst.stretch with
      | some m => if l.rank < m.rank then m else l
      | none => l
    let s1 := s.enterLevel l cs
    let s2 := if cur ≤ l.rank then s1.wr RSUP.RSTCAUSE (Word.ofNat (l.code * 256 + c)) else s1
    { s2 with rst := { s2.rst with
        stretch := some top, rstnLow := true, testHeld := cs.contains 0x15 || (decide (l ≠ .powerOn) && s.rst.testHeld) } }

/-- POWER_ON_RESET (R86). -/
def execPowerOnReset (s : State) : Out := .next (s.resetArrive [1])

/-- RESET_CAUSE_ARRIVE (R91): the causes of one CLK_SAFE cycle, as far as their sources can raise them. -/
def execResetCauseArrive (codes : List Nat) (s : State) : Out := .next (s.resetArrive (codes.filter s.causeStands))

/-! ### Supply monitors (R84, R85) -/

/-- VMONn takes part in resets: enabled, with the reaction "system reset", which version 1 does not have. -/
def State.vmonResets (s : State) (n : Nat) : Bool :=
  s.bit (RSUP.VMON n) 31 && decide (s.fld (RSUP.VMON n) 30 29 = 2) && decide (s.ver RSUP.base ≠ 1)

/-- No rail whose cause holds the control die in reset stands below its threshold (R92, R109). -/
def State.railsGood (s : State) : Bool :=
  [0, 1, 4, 5, 6, 7, 8, 9, 10].all (fun i => s.bit RSUP.SUPSTAT i) &&
  (List.range 4).all (fun n => !s.vmonResets n || s.bit RSUP.SUPSTAT (14 + n))

/-- The rail's balls return to their shipped classes once their bank supply has left its range (R101). -/
def State.bankLost (s : State) (rail : Nat) : State :=
  if 7 ≤ rail ∧ rail ≤ 10 then { s with fuses := { s.fuses with latched := upd s.fuses.latched (rail - 7) (fun _ => []) } } else s

/-- The reaction of a rail's monitor (R84). `rail` is its bit in SUPSTAT.GOOD. -/
def State.railReaction (s : State) (rail : Nat) : State :=
  if rail < 2 then s.resetArrive [1]
  else if rail = 2 then (s.irq RSUP.base 0).auxVdrv true
  else if rail = 3 ∨ rail = 11 ∨ rail = 12 ∨ rail = 13 then s.irq RSUP.base 0
  else if rail < 9 then s.resetArrive [rail - 2]
  else if rail < 11 then s.resetArrive [7]
  else if s.vmonResets (rail - 14) then s.resetArrive [8]
  else if s.fld (RSUP.VMON (rail - 14)) 30 29 ≠ 0 then s.irq RSUP.base 0
  else s

/-- SUPPLY_MONITOR_FALL (R85): the rail has stayed below its falling threshold for the filter time. A disabled VMONn monitors
nothing; a rail that is not good cannot fall again. -/
def execSupplyMonitorFall (rail : Nat) (s : State) : Out :=
  .next (if 18 ≤ rail then s
    else if 14 ≤ rail ∧ !s.bit (RSUP.VMON (rail - 14)) 31 then s
    else if rail < 14 ∧ !s.bit RSUP.SUPSTAT rail then s
    else (((s.setBit RSUP.SUPSTAT rail false).setBit RSUP.SUPFLAG rail true).bankLost rail).railReaction rail)

/-- SUPPLY_MONITOR_GOOD (R85): the rail has stayed above its rising threshold for the filter time. -/
def execSupplyMonitorGood (rail : Nat) (s : State) : Out :=
  .next (if 18 ≤ rail then s
    else if 14 ≤ rail ∧ !s.bit (RSUP.VMON (rail - 14)) 31 then s
    else
      let s1 := s.setBit RSUP.SUPSTAT rail true
      if rail = 2 ∧ !s.bit RSUP.SUPSTAT 2 then s1.auxVdrv false else s1)

/-! ### The stretch, RST_N, restarts -/

/-- RESET_STRETCH_END (R92, R93): RST_N is released once no cause stands and the board does not hold the ball. After a core reset
the clerks restart. The power-side die leaves its power-on stretch when its own rails are good (R109, step 1), while the control
die's reset goes on for its rails. -/
def execResetStretchEnd (s : State) : Out :=
  .next (match s.rst.stretch with
    | none => s
    | some l =>
      if s.rst.rstnHeld then s
      else if l = .core ∨ s.railsGood then { s with rst := { s.rst with stretch := none, rstnLow := false } }
      else if l = .powerOn ∧ s.bit RSUP.SUPSTAT 0 ∧ s.bit RSUP.SUPSTAT 1 then { s with rst := { s.rst with stretch := some .system } }
      else s)

/-- RST_N_REQUEST (R93, R94): the board has held RST_N low for `lowNs` ns, and still holds it where `holds`. The request is ignored
while the KL960 drives the ball and for 10 µs after; between 0.25 µs and 1 µs it may or may not be taken (a free choice). While the
board holds the ball the reset lasts; the stretch runs from its release. -/
def execRstNRequest (lowNs usSinceDriven : Nat) (holds : Bool) (s : State) : Out :=
  let s0 : State := { s with rst := { s.rst with rstnHeld := s.rst.rstnHeld && holds } }
  let taken := fun (t : State) =>
    let u := t.resetArrive [0x10]
    { u with rst := { u.rst with rstnHeld := holds } }
  .next (if s.rst.rstnLow ∨ usSinceDriven < 10 ∨ lowNs < 250 then s0
    else if 1000 ≤ lowNs then taken s0
    else if s.freeBit then taken s0.bumpFree else s0.bumpFree)

/-- LOCKSTEP_MISMATCH (R90): the control die applies a core reset to the clerk, and the reset controller records it. -/
def execLockstepMismatch (h : Nat) (s : State) : Out :=
  .next (if h < 2 ∧ !(s.clerk h).held then s.resetArrive [0x24 + h] else s)

/-- MRSTINFO (R507). -/
def Clerk.rstInfo (c : Clerk) : Word := Word.ofNat (c.rstCause * 256 + c.rstCount)

/-- A clerk restarts after a core reset (R508): at its checkpoint where VALID is 1, otherwise at ENTRY; a0 holds MRSTINFO. -/
def Clerk.restart (c : Clerk) (entry : Word) : Clerk :=
  { c with held := false, icache := [], pmp := [], mtcmp := BitVec.allOnes 64, mtip := false, a0 := c.rstInfo,
           pc := if tb c.mckpt 0 then c.mckpt &&& 0xFFFFFFFC else entry }

/-- CORE_RESET_RESTART (R508): clerk `h` leaves core reset; the sources its context has claimed count as completed. Before
the boot ROM has started the clerks it only leaves the reset. -/
def execCoreResetRestart (h : Nat) (s : State) : Out :=
  .next (if h < 2 ∧ s.rst.coreMask.testBit h ∧ s.rst.stretch = none then
    let s1 : State := { s with claimed := s.claimed.filter (fun p => p.2 != h), rst := { s.rst with coreMask := setBitN s.rst.coreMask h false } }
    if s1.rst.dawn = .running then s1.updClerk h (fun c => c.restart s1.rst.entry) else s1
  else s)

/-! ### Requests of firmware -/

/-- The cause that a key of RSTREQ requests (R89). -/
def rstreqCause (data : Word) : Option Nat :=
  if data = 0xB0A70001 then some 0x20 else if data = 0xB0A70002 then some 0x21 else if data = 0xB0A70003 then some 0x22
  else if data = 0xB0A70010 then some 0x12 else none

/-- A write to RSTREQ: it completes before the reset starts; any other value is refused. -/
def rstreqWrite (init : Nat) (data : Word) (s : State) : State :=
  match rstreqCause data with
  | none => s.errorResp init RSUP.RSTREQ .refused true
  | some c => (s.respond init RSUP.RSTREQ 0).resetArrive [c]

/-- RSTREQ_CORE_RESET (R89): `clerks` is 1 for CLK0, 2 for CLK1, 3 for both; a write of any other key is refused. -/
def execRstreqCoreReset (init clerks : Nat) (s : State) : Out :=
  let data := if 1 ≤ clerks ∧ clerks ≤ 3 then Word.ofNat (0xB0A70000 + clerks) else 0xB0A70000
  .next (s.writeAt .ps RSUP.base init RSUP.RSTREQ data (rstreqWrite init data))

/-- RSTREQ_SYSTEM_RESET (R89). -/
def execRstreqSystemReset (init : Nat) (s : State) : Out :=
  .next (s.writeAt .ps RSUP.base init RSUP.RSTREQ 0xB0A70010 (rstreqWrite init 0xB0A70010))

/-- AUTO_RESTART (R454): the reset controller issues the system reset that ends the Dusk state. -/
def execAutoRestart (s : State) : Out := .next (if s.rst.dusk ∧ s.autoRestartDue then s.resetArrive [0x14] else s)

/-! ### The system watchdog (R96) -/

/-- The timeout that WDOG_CFG names, ms. -/
def State.wdTimeout (s : State) : Nat :=
  let t := s.fld RSUP.WDOG_CFG 13 0
  if t = 0 ∨ 10000 < t then 10000 else t

/-- The count restarts, with the timeout WDOG_CFG now holds. -/
def State.wdKick (s : State) : State := { s with rst := { s.rst with wdRun := true, wdLimit := s.wdTimeout } }

/-- A write to WDOG_KICK (R96): its key restarts the count, any other value changes nothing. -/
def wdogKickWrite (init : Nat) (data : Word) (s : State) : State :=
  (if data = 0xA5A55A5A ∧ s.rst.dawn ≠ .held then s.wdKick else s).respond init RSUP.WDOG_KICK 0

/-- WDOG_KICK (R96). -/
def execWdogKick (init : Nat) (s : State) : Out :=
  .next (s.writeAt .ps RSUP.base init RSUP.WDOG_KICK 0xA5A55A5A (wdogKickWrite init 0xA5A55A5A))

/-- WATCHDOG_EXPIRY (R96): a system reset, or the Dusk state while heartbeat monitoring is armed. -/
def execWatchdogExpiry (at_ : Nat) (s : State) : Out :=
  let s1 := s.atTime at_
  .next (if s1.rst.wdRun then
    let s2 : State := { s1 with rst := { s1.rst with wdRun := false } }
    if s2.rst.hbArmed then s2.enterDusk 2 else s2.resetArrive [0x11]
  else s1)

end Sys2Proof.Machine
end

