-- ==== Sys2Proof/Machine/Dawn.lean ====
section
/-!
DEFINITION. The Dawn sequence (chapter 3, R103-R109; R467, R480): release of the control die, the start-up sweep and memory
test, the boot ROM's image checks; the fuse programmer (R98-R102) and the clerks' timer (R507).
-/
namespace Sys2Proof.Machine

/-! ### Release and fuse load (steps 3 and 4) -/

/-- Step 4 (R98, R101): the shadow is loaded, the control die's class latches take the fused classes, and the power-side die
takes those of its balls at the first load after its power-on reset. -/
def State.fuseLoad (s : State) : State :=
  let b := s.fuses.blown
  { s with
    fuses := { s.fuses with shadow := b, latched := List.replicate 4 b, latchedPs := if s.rst.psClasses then s.fuses.latchedPs else b },
    rst := { s.rst with psClasses := true } }

/-- CONTROL_DIE_RELEASE (R109 steps 3 and 4, R96, R103): once step 2 has ended, no stretch runs, the rails are good and the
25 MHz oscillator's amplitude detector is (`osc`), the straps are sampled, the watchdog starts at 2,000 ms and the fuses are loaded. A die that TEST_EN holds stays in reset (R53). -/
def execControlDieRelease (straps : Nat) (osc : Bool) (s : State) : Out :=
  .next (if osc ∧ s.rst.dawn = .held ∧ s.rst.stretch = none ∧ s.sup.st ≠ 0 ∧ s.railsGood ∧ !s.rst.testHeld then
    let s1 := s.fuseLoad
    { s1 with rst := { s1.rst with dawn := .locking, straps := straps % 8, wdRun := true, wdLimit := 2000 } }
  else s)

/-- XSPI_RESET_RELEASE (R107): 10 µs after the ADPLLs have locked. -/
def execXspiResetRelease (s : State) : Out :=
  .next (if s.rst.dawn = .held ∨ s.rst.dawn = .locking then s else { s with balls := { s.balls with xspiReset := true } })

/-! ### Step 6: memory test and the sweep (R467, R480) -/

/-- The hard-repair entries that are valid (R481). -/
def State.hardEntries (s : State) : Nat := ((List.range 0x40).filter (fun k => tb (s.fuse (0x30 + k)) 31)).length

/-- A retirement of the sweep: SWEEP_FAIL, and the flag of R472. -/
def State.sweepFlag (s : State) : State := (s.setBit HEALTH.STAT 10 true).irq HEALTH.base 0

/-- The sweep's converter units (R467): the failed ones are retired and replaced by the lowest-numbered passing spare. -/
def State.sweepConv (s : State) (fail : List Nat) : State :=
  let bad := (List.range 26).filter (fun u => fail.contains u)
  let s1 := bad.foldl (fun t u =>
    ((t.sweepFlag.setBit HEALTH.RETIRED0 u true).setSpares 31 24 (t.fld HEALTH.SPARES 31 24 - 1))) s
  let good := [24, 25].filter (fun u => !bad.contains u)
  let pairs := (bad.filter (fun u => u < 24)).zip good
  let s2 := pairs.foldl (fun t q => (t.setFld (CV.STAT q.1) 24 20 q.2).setFld (CV.STAT q.2) 24 20 q.1) s1
  { s2 with conv := { s2.conv with released := good.filter (fun u => pairs.all (fun q => q.2 != u)) } }

/-- The sweep's teller units (R467): as for converters; a position without a passing unit falls back (R277-R279). -/
def State.sweepTel (s : State) (fail : List Nat) : State :=
  let bad := (List.range 16).filter (fun u => fail.contains u)
  let s1 := bad.foldl (fun t u => (t.markTeller u).setBit HEALTH.STAT 10 true) s
  let good := [14, 15].filter (fun u => !bad.contains u)
  let low := bad.filter (fun u => u < 14)
  let pairs := low.zip good
  let s2 := pairs.foldl (fun t q => (t.setFld (TLR.STAT q.1) 19 16 q.2).setFld (TLR.STAT q.2) 19 16 q.1) s1
  let s3 := (low.drop good.length).foldl State.unserve s2
  (s3.updTel (fun t => { t with released := good.filter (fun u => pairs.all (fun q => q.2 != u)) })).spareRefresh

/-- The checker slices of one clerk after the sweep: the spare slice serves the lowest group whose slice has failed, and the
groups of further failed slices stay unchecked. -/
def sweptChecker (bad : List Nat) : Checker :=
  let own := (List.range 8).filter (fun k => !bad.contains k)
  let serve := own.map (fun k => (k, k))
  if bad.contains 8 then { serving := serve, spare := none }
  else
    match (List.range 8).find? (fun k => bad.contains k) with
    | none => {}
    | some g => { serving := serve ++ [(8, g)], spare := none }

/-- The sweep's checker slices (R467); `fail` numbers them 0-8 for CLK0 and 9-17 for CLK1. -/
def State.sweepChk (s : State) (fail : List Nat) : State :=
  [0, 1].foldl (fun t c =>
    let bad := (List.range 9).filter (fun k => fail.contains (9 * c + k))
    let t1 := bad.foldl (fun u k => (u.retireChecker c k).setBit HEALTH.STAT 10 true) t
    let t2 := t1.updChecker c (fun _ => sweptChecker bad)
    if 2 ≤ bad.length then t2.setBit HEALTH.STAT 11 true else t2) s

/-! ### Step 7: the boot ROM -/

/-- The boot ROM writes BOOTSTAT; each write replaces the record. -/
def State.bootStat (s : State) (code keySlot secVer firstFail : Nat) (secondary : Bool) : State :=
  s.wr RSUP.BOOTSTAT (Word.ofNat (code * 2 ^ 24 + keySlot % 4 * 2 ^ 20 + b2n secondary * 2 ^ 19 + s.rst.straps * 2 ^ 16 +
    min secVer 63 * 2 ^ 8 + firstFail))

/-- The boot ROM stops both clerks with a code (R103, R106, R108). -/
def State.bootStop (s : State) (code : Nat) : State :=
  let s1 := s.bootStat code 0 0 0 false
  { s1 with rst := { s1.rst with dawn := .stopped } }

/-- Step 7 starts (R103): CODE 0x01; the lifecycle first, then the straps; before the first image the ROM kicks the watchdog
(R97). -/
def State.bootStart (s : State) : State :=
  let s1 := s.bootStat 1 0 0 0 false
  if s.lifecycle ≠ 1 ∧ s.lifecycle ≠ 3 then s1.bootStop 0x22
  else if 4 ≤ s.rst.straps then s1.bootStop 0x21
  else { s1.wdKick with rst := { s1.wdKick.rst with dawn := .boot } }

/-- DAWN_SELF_TEST_END (R467, R480, R108): step 6 ends and step 7 starts. `tel`, `conv`, `chk` are the units that fail for good,
`retried` how many units passed on the repeat; `rows`, `cols`, `minLeft` what MEMREP shows; `ok`: every memory is repaired. -/
def execDawnSelfTestEnd (tel conv chk : List Nat) (retried rows cols minLeft : Nat) (ok : Bool) (s : State) : Out :=
  .next (if s.rst.dawn = .memTest then
    let s1 := ((s.sweepConv conv).sweepTel tel).sweepChk chk
    let fails := ((List.range 16).filter tel.contains).length + ((List.range 26).filter conv.contains).length +
      ((List.range 18).filter chk.contains).length
    let s2 := s1.count HEALTH.SLICECNT 15 8 (fails + retried)
    let s3 := s2.wr (HEALTH.base + 0xA0) (Word.ofNat (rows % 256 * 2 ^ 24 + cols % 256 * 2 ^ 16 + s.hardEntries * 2 ^ 8 + minLeft % 256))
    if ok then s3.bootStart else s3.bootStop 0x23
  else s)

/-! ### Image checks (R102, R104, R105) -/

/-- A little-endian field of a header. -/
def hdrField (h : List Byte) (off n : Nat) : Nat := leNat ((h.drop off).take n)

/-- The bytes of a header from `off`. -/
def hdrBytes (h : List Byte) (off n : Nat) : List Byte := (h.drop off).take n

/-- The key hash in slot `k` (R98): first byte in word bits [7:0]. -/
def State.slotHash (s : State) (k : Nat) : List Byte := (List.range 8).flatMap (fun j => leBytes 4 (s.fuse (0x08 + 8 * k + j)).toNat)

/-- Key slot `k` is programmed. -/
def State.slotUsed (s : State) (k : Nat) : Bool := (s.slotHash k).any (fun b => b != 0)

/-- The blown anti-rollback bits. -/
def State.rollback (s : State) : Nat :=
  ((List.range 32).filter (fun i => tb (s.fuse 6) i)).length + ((List.range 32).filter (fun i => tb (s.fuse 7) i)).length

/-- KEY_SLOT is programmed and not revoked, or 0xFF is allowed (R102). -/
def State.keySlotOk (s : State) (k : Nat) : Bool :=
  if k = 0xFF then decide (s.lifecycle = 1) && (List.range 4).all (fun j => !s.slotUsed j)
  else decide (k < 4) && s.slotUsed k && !tb (s.fuse 5) k

/-- The destination lies wholly in system SRAM or in one clerk's TCM, and ENTRY inside it. -/
def loadOk (load len entry : Nat) : Bool :=
  let inside := fun (lo n : Nat) => decide (lo ≤ load) && decide (load + len ≤ lo + n)
  decide (load % 16 = 0) && decide (len ≠ 0) && decide (len % 16 = 0) &&
  (inside 0x20000000 0x1800000 || inside 0x10000000 0x80000 || inside 0x10080000 0x80000) &&
  decide (load ≤ entry) && decide (entry < load + len)

/-- The first header check that fails (R105); 0 for none. -/
def State.headerCode (s : State) (h : List Byte) : Nat :=
  let k := hdrField h 6 1
  let key := hdrBytes h 0x40 64
  let sig := hdrBytes h 0xC0 64
  if hdrField h 0 4 ≠ 0x36394C4B ∨ hdrField h 4 2 ≠ 1 ∨ hdrField h 7 1 ≠ 0 ∨ hdrField h 0x18 8 ≠ 0 ∨ hdrField h 0x80 64 ≠ 0 then 0x10
  else if !s.keySlotOk k then 0x11
  else if k ≠ 0xFF ∧ sha256 key ≠ s.slotHash k then 0x12
  else if k ≠ 0xFF ∧ !ecdsaVerify (beNat (key.take 32), beNat (key.drop 32)) (beNat (sha256 (h.take 0xC0))) (beNat (sig.take 32)) (beNat (sig.drop 32)) then 0x13
  else if hdrField h 8 4 < s.rollback then 0x15
  else if !loadOk (hdrField h 0xC 4) (hdrField h 0x14 4) (hdrField h 0x10 4) then 0x16
  else 0

/-- An image is accepted (R106): both clerks start together at ENTRY, but for a clerk in core reset. What a0 then holds is left
open: a free value. -/
def State.bootAccept (s : State) (h : List Byte) : State :=
  let k := hdrField h 6 1
  let entry := Word.ofNat (hdrField h 0x10 4)
  let s1 := (s.bootStat 2 (if k = 0xFF then 0 else k) (hdrField h 8 4) s.rst.firstFail (decide (s.rst.attempt = 1))).wdKick
  let start := fun (m : Nat) (c : Clerk) => if s.rst.coreMask.testBit m then c else { c with held := false, pc := entry, a0 := s.free m }
  let s2 := (((s1.updClerk 0 (start 0)).updClerk 1 (start 1))).bumpFrees 2
  { s2 with rst := { s2.rst with dawn := .running, entry := entry } }

/-- An image fails with a code (R105, R106): on xSPI the secondary image is next, otherwise the boot ROM stops. -/
def State.bootFail (s : State) (code : Nat) : State :=
  let first := if s.rst.attempt = 0 then code else s.rst.firstFail
  if s.rst.attempt = 0 ∧ s.rst.straps ≠ 3 then
    let s1 := s.wdKick
    { s1 with rst := { s1.rst with attempt := 1, firstFail := first } }
  else
    let s1 := s.bootStat 0x20 0 0 first (decide (s.rst.attempt = 1))
    { s1 with rst := { s1.rst with dawn := .stopped, firstFail := first } }

/-- The bus address of the image that the boot ROM reads on xSPI (R103, R105): XSPI_CS0_N is the boot chip select, XSPI_CS1_N under
strap 0b010; the primary image lies at flash offset 0, the secondary at 0x0100_0000. -/
def State.imageBase (s : State) : Nat :=
  (if s.rst.straps = 2 then 0x68000000 else 0x60000000) + (if s.rst.attempt = 0 then 0 else 0x01000000)

/-- The header, and `n` bytes of payload, that the boot source gives (R103, R104): the flash, or on UART what the host has sent. -/
def State.imageHeader (s : State) (sent : List Byte) : List Byte := if s.rst.straps = 3 then sent else s.getBytes s.imageBase 256
def State.imagePayload (s : State) (sent : List Byte) (n : Nat) : List Byte :=
  if s.rst.straps = 3 then sent.take n else s.getBytes (s.imageBase + 256) n

/-- BOOT_IMAGE_ATTEMPT_END (R105-R107): an image is read and checked; `header` and `payload` are what UART0 has received. The payload
reaches memory only after every header check; one whose hash fails is zeroed. An attempt whose bytes have not all arrived has not
ended; xSPI is read only after XSPI_RESET_N has been released. -/
def execBootImageAttemptEnd (header payload : List Byte) (s : State) : Out :=
  let h := s.imageHeader header
  .next (if s.rst.dawn = .boot ∧ h.length = 256 ∧ (s.rst.straps = 3 ∨ s.balls.xspiReset) then
    let code := s.headerCode h
    let n := hdrField h 0x14 4
    let body := s.imagePayload payload n
    if code ≠ 0 then s.bootFail code
    else if body.length < n then s
    else
      let s1 : State := { s with jtag := { s.jtag with bootKeys := s.jtag.bootKeys || hdrField h 6 1 != 0xFF } }
      let s2 := s1.memStore 67 (hdrField h 0xC 4) body
      if sha256 body = hdrBytes h 0x20 32 then s2.bootAccept h
      else (s2.memStore 67 (hdrField h 0xC 4) (List.replicate n 0)).bootFail 0x14
  else s)

/-! ### The fuse programmer (R98, R100, R102) -/

/-- Fuse word `w` as it stands in the array. -/
def State.fuseArray (s : State) (w : Nat) : Word := fuseBase w ||| (Store.find s.fuses.blown w).getD 0

/-- The bits of word `w` that the post maker may blow in the present lifecycle (R98, R102). -/
def State.fuseAllowed (s : State) (w : Nat) : Word :=
  let l := s.lifecycle
  if l ≠ 1 ∧ l ≠ 3 then 0
  else if w = 4 then 7
  else if w = 5 then 0xF
  else if w = 6 ∨ w = 7 ∨ (0xB0 ≤ w ∧ w < 0xF0) then 0xFFFFFFFF
  else if l = 1 ∧ ((0x08 ≤ w ∧ w < 0x28) ∨ (0x70 ≤ w ∧ w < 0xB0)) then 0xFFFFFFFF
  else 0

/-- A key slot of the array is programmed and not revoked. -/
def State.someKey (s : State) : Bool :=
  (List.range 4).any (fun k => (List.range 8).any (fun j => s.fuseArray (8 + 8 * k + j) != 0) && !tb (s.fuseArray 5) k)

/-- FUSE_BLOW (R98, R100, R102): the bits of `bits` that the lifecycle permits are blown for good; the change to SECURED is
refused without a usable key. They take effect at the next fuse load. DESIGN CHOICE (notes/assumptions/86.md): R102 does not say
what a mask that mixes permitted and other bits does; its permitted bits are blown. -/
def execFuseBlow (word : Nat) (bits : Word) (s : State) : Out :=
  let b := bits &&& s.fuseAllowed word
  let new := s.fuseArray word ||| b
  .next (if word = 4 ∧ bitsOf new 2 0 = 3 ∧ new ≠ s.fuseArray 4 ∧ !s.someKey then s
    else { s with fuses := { s.fuses with blown := Store.put 0 s.fuses.blown word ((Store.find s.fuses.blown word).getD 0 ||| b) } })

/-! ### The clerks' timer (R507) -/

/-- MACHINE_TIMER_MATCH (R507): the shared counter stands at `time`; the interrupt is pending while it is at or above the
hart's compare. -/
def execMachineTimerMatch (h time : Nat) (s : State) : Out :=
  .next (if h < 2 then s.updClerk h (fun c => { c with mtip := decide (c.mtcmp.toNat ≤ time) }) else s)

end Sys2Proof.Machine
end

