-- ==== Sys2Proof/Machine/Jtag.lean ====
section
/-!
DEFINITION. JTAG and clerk debug (chapter 20, R509-R511; R478): the TAP's instructions, the debug module of RISC-V External Debug
Support 0.13.2, the internal scan.
-/
namespace Sys2Proof.Machine

/-- Change the TAP and the debug module. -/
def State.updJtag (s : State) (f : Jtag → Jtag) : State := { s with jtag := f s.jtag }

/-- Select an instruction: its code and what its data register captures. Leaving internal scan resets the system (R478). -/
def State.selectIr (s : State) (ir dr : Nat) : State :=
  (if s.jtag.intscan then s.resetArrive [0x13] else s).updJtag (fun j => { j with ir := ir, dr := dr, error := false })

/-- An instruction that is not available selects BYPASS. -/
def State.bypass (s : State) : State := s.selectIr 0x1F 0

/-! ### Boundary scan and the selections (R509, R510) -/

/-- JTAG_EXTEST (R509): `bits` is shifted into the boundary register. -/
def execJtagExtest (bits : Nat) (s : State) : Out := .next ((s.selectIr 0x00 0).updJtag (fun j => { j with boundary := bits }))

/-- JTAG_SAMPLE_PRELOAD (R509): `pins` is what the cells capture, `bits` what is shifted in. -/
def execJtagSamplePreload (pins bits : Nat) (s : State) : Out :=
  .next ((s.selectIr 0x01 pins).updJtag (fun j => { j with boundary := bits }))

/-- JTAG_IDCODE (R509). -/
def execJtagIdcode (s : State) : Out := .next (s.selectIr 0x02 0x109605CB)

/-- JTAG_CLAMP (R509). -/
def execJtagClamp (s : State) : Out := .next (s.selectIr 0x03 0)

/-- JTAG_HIGHZ (R509). -/
def execJtagHighz (s : State) : Out := .next (s.selectIr 0x04 0)

/-- JTAG_BYPASS (R509). -/
def execJtagBypass (s : State) : Out := .next s.bypass

/-- JTAG_SYSRST (R509, R89): a system reset with cause 0x13, in every lifecycle but RETIRED. -/
def execJtagSysrst (s : State) : Out :=
  .next (if s.lifecycle = 7 then s.bypass else (s.resetArrive [0x13]).selectIr 0x18 0)

/-- JTAG_CORERST (R509, R89): a core reset of both clerks with cause 0x28. -/
def execJtagCorerst (s : State) : Out :=
  .next (if s.lifecycle = 7 then s.bypass else (s.selectIr 0x19 0).resetArrive [0x28])

/-! ### Internal scan (R478) -/

/-- JTAG_INTSCAN (R478): in OPEN every secret-holding register is cleared and read back; `clean` says that each read 0. -/
def execJtagIntscan (clean : Bool) (s : State) : Out :=
  .next (if s.lifecycle = 1 then
    s.clearKeys.updJtag (fun j => { j with ir := 0x1C, dr := 0, bootKeys := false, error := !clean, intscan := clean })
  else (s.selectIr 0x1C 0).updJtag (fun j => { j with error := true }))

/-- INTSCAN_EXIT (R478). -/
def execIntscanExit (s : State) : Out := .next (if s.jtag.intscan then s.resetArrive [0x13] else s)

/-! ### The debug transport (R511) -/

/-- JTAG_DTMCS (R509): version 0.13 and no error; abits and idle are left open. Only where debug is available. -/
def execJtagDtmcs (s : State) : Out :=
  .next (if s.debugOpen then (s.selectIr 0x10 (1 + bitsOf s.freeWord 9 4 * 16 + bitsOf s.freeWord 14 12 * 4096)).bumpFree else s.bypass)

/-- The hart is there and not held in reset. -/
def State.hartOn (s : State) (h : Nat) : Bool := !(s.clerk h).held

/-- A write to dmcontrol: dmactive 0 resets the module; halt and resume requests act on the selected hart. -/
def State.dmcontrol (s : State) (data : Word) : State :=
  if !tb data 0 then
    s.updJtag (fun j => { j with
      active := false, hart := 0, resumeack := 0, data0 := 0, cmderr := 0, readOnAddr := false, autoInc := false,
      readOnData := false, sberror := 0, sbaccess := 2, sbbusyerr := false, sbaddr := 0, sbdata := 0 })
  else
    let h := bitsOf data 25 16
    let s1 := s.updJtag (fun j => { j with active := true, hart := h })
    if 2 ≤ h ∨ !s.hartOn h then s1
    else if tb data 31 then s1.updClerk h (fun c => { c with halted := true })
    else if tb data 30 ∧ (s.clerk h).halted then
      (s1.updClerk h (fun c => { c with halted := false })).updJtag (fun j => { j with resumeack := j.resumeack ||| 2 ^ h })
    else s1

/-- dmstatus of the selected hart; the havereset bits are left open. -/
def State.dmstatus (s : State) : Nat :=
  let h := s.jtag.hart
  let both := fun (b : Bool) (i : Nat) => b2n b * 3 * 2 ^ i
  let has := decide (h < 2)
  2 + 0x80 + both (has && s.hartOn h && (s.clerk h).halted) 8 + both (has && s.hartOn h && !(s.clerk h).halted) 10 +
    both (has && !s.hartOn h) 12 + both (!has) 14 + both (has && s.jtag.resumeack.testBit h) 16 + both (s.freeBit) 18

/-- A CSR or general register as the debug module reads it. What the hart's program has left in it is firmware's: a free
value, but for x0, the custom CSRs of R507, the PMP registers and the triggers. -/
def State.dbgRead (s : State) (h regno : Nat) : Word :=
  let c := s.clerk h
  let t := 4 * h + nth 0 s.jtag.tselect h
  if regno = 0x7C0 then Word.ofNat c.mtcmp.toNat
  else if regno = 0x7C1 then Word.ofNat (c.mtcmp.toNat / 2 ^ 32)
  else if regno = 0x7C2 then c.mckpt
  else if regno = 0x7C3 then c.rstInfo
  else if 0x3A0 ≤ regno ∧ regno < 0x3C0 then Word.ofNat ((Store.find c.pmp regno).getD 0)
  else if regno = 0x7A0 then Word.ofNat (nth 0 s.jtag.tselect h)
  else if regno = 0x7A1 then nth 0 s.jtag.tdata1 t
  else if regno = 0x7A2 then nth 0 s.jtag.tdata2 t
  else if regno = 0xF14 then Word.ofNat h
  else if regno = 0x1000 then 0
  else s.freeWord

/-- A register as the debug module writes it; what only the hart's program sees is not part of the state. -/
def State.dbgWrite (s : State) (h regno : Nat) (v : Word) : State :=
  let t := 4 * h + nth 0 s.jtag.tselect h
  if regno = 0x7C0 then s.updClerk h (fun c => { c with mtcmp := BitVec.ofNat 64 (c.mtcmp.toNat / 2 ^ 32 * 2 ^ 32 + v.toNat) })
  else if regno = 0x7C1 then s.updClerk h (fun c => { c with mtcmp := BitVec.ofNat 64 (v.toNat * 2 ^ 32 + c.mtcmp.toNat % 2 ^ 32) })
  else if regno = 0x7C2 then s.updClerk h (fun c => { c with mckpt := v &&& 0xFFFFFFFD })
  else if (0x3A0 ≤ regno ∧ regno < 0x3A4) ∨ (0x3B0 ≤ regno ∧ regno < 0x3C0) then
    s.updClerk h (fun c => { c with pmp := tabSet c.pmp regno v.toNat })
  else if regno = 0x7A0 then (if v.toNat < 4 then s.updJtag (fun j => { j with tselect := upd j.tselect h (fun _ => v.toNat) }) else s)
  else if regno = 0x7A1 then s.updJtag (fun j => { j with tdata1 := upd j.tdata1 t (fun _ => v) })
  else if regno = 0x7A2 then s.updJtag (fun j => { j with tdata2 := upd j.tdata2 t (fun _ => v) })
  else s

/-- An abstract command: access to one register of the selected hart, which must be halted (cmderr 4), of 32 bits (cmderr 2). -/
def State.dmCommand (s : State) (data : Word) : State :=
  let j := s.jtag
  if j.cmderr ≠ 0 then s
  else if bitsOf data 31 24 ≠ 0 ∨ bitsOf data 22 20 ≠ 2 ∨ tb data 18 ∨ 0x1040 ≤ bitsOf data 15 0 then s.updJtag (fun j => { j with cmderr := 2 })
  else if 2 ≤ j.hart ∨ !s.hartOn j.hart ∨ !(s.clerk j.hart).halted then s.updJtag (fun j => { j with cmderr := 4 })
  else if !tb data 17 then s
  else if tb data 16 then s.dbgWrite j.hart (bitsOf data 15 0) j.data0
  else (s.updJtag (fun j => { j with data0 := s.dbgRead j.hart (bitsOf data 15 0) })).bumpFree

/-- A system bus access of the debug module is under way. -/
def State.sbBusy (s : State) : Bool := s.fab.slips.any (fun p => p.init == 66) || s.fab.stalled.any (fun p => p.init == 66)

/-- The debug module starts a system bus access as initiator 66 (R511): 32 bits, aligned. -/
def State.sbAccess (s : State) (write : Bool) (cycle : Nat) : State :=
  let j := s.jtag
  if s.sbBusy then s.updJtag (fun j => { j with sbbusyerr := true })
  else if j.sberror ≠ 0 ∨ j.sbbusyerr then s
  else if j.sbaccess ≠ 2 then s.updJtag (fun j => { j with sberror := 4 })
  else if j.sbaddr.toNat % 4 ≠ 0 then s.updJtag (fun j => { j with sberror := 3 })
  else
    let s1 := s.issue { init := 66, addr := j.sbaddr.toNat, write := write, bytes := if write then leBytes 4 j.sbdata.toNat else [],
                        len := if write then 0 else 4, cycle := cycle }
    s1.updJtag (fun j => { j with sbaddr := if j.autoInc then j.sbaddr + 4 else j.sbaddr })

/-- A write to a register of the debug module. -/
def State.dmWrite (s : State) (addr : Nat) (data : Word) (cycle : Nat) : State :=
  if addr = 0x10 then s.dmcontrol data
  else if !s.jtag.active then s
  else if addr = 0x04 then s.updJtag (fun j => { j with data0 := data })
  else if addr = 0x16 then s.updJtag (fun j => { j with cmderr := j.cmderr - (j.cmderr &&& bitsOf data 10 8) })
  else if addr = 0x17 then s.dmCommand data
  else if addr = 0x38 then
    s.updJtag (fun j => { j with
      readOnAddr := tb data 20, sbaccess := bitsOf data 19 17, autoInc := tb data 16, readOnData := tb data 15,
      sbbusyerr := j.sbbusyerr && !tb data 22, sberror := j.sberror - (j.sberror &&& bitsOf data 14 12) })
  else if addr = 0x39 then
    let s1 := s.updJtag (fun j => { j with sbaddr := data })
    if s.jtag.readOnAddr then s1.sbAccess false cycle else s1
  else if addr = 0x3C then (s.updJtag (fun j => { j with sbdata := data })).sbAccess true cycle
  else s

/-- A read of a register of the debug module; a read of sbdata0 may start the next access. -/
def State.dmRead (s : State) (addr cycle : Nat) : State × Nat :=
  let j := s.jtag
  if addr = 0x04 then (s, j.data0.toNat)
  else if addr = 0x10 then (s, j.hart * 65536 + b2n j.active)
  else if addr = 0x11 then (s.bumpFree, s.dmstatus)
  else if addr = 0x16 then (s, j.cmderr * 256 + 1)
  else if addr = 0x38 then
    (s, 2 ^ 29 + b2n j.sbbusyerr * 2 ^ 22 + b2n s.sbBusy * 2 ^ 21 + b2n j.readOnAddr * 2 ^ 20 + j.sbaccess % 8 * 2 ^ 17 +
      b2n j.autoInc * 2 ^ 16 + b2n j.readOnData * 2 ^ 15 + j.sberror * 2 ^ 12 + 32 * 2 ^ 5 + 4)
  else if addr = 0x39 then (s, j.sbaddr.toNat)
  else if addr = 0x3C then (if j.readOnData then s.sbAccess false cycle else s, j.sbdata.toNat)
  else if addr = 0x40 then (s, b2n (s.clerk 0).halted + 2 * b2n (s.clerk 1).halted)
  else (s, 0)

/-- JTAG_DMI (R511): `op` 1 reads and 2 writes a register of the debug module; only where debug is available. -/
def execJtagDmi (op addr : Nat) (data : Word) (cycle : Nat) (s : State) : Out :=
  .next (if !s.debugOpen then s.bypass
    else
      let s1 := s.selectIr 0x11 0
      if op = 1 then
        let r := s1.dmRead addr cycle
        r.1.updJtag (fun j => { j with dr := r.2 })
      else if op = 2 then s1.dmWrite addr data cycle
      else s1)

end Sys2Proof.Machine
end

