-- ==== Sys2Proof/Machine/MeloRec.lean ====
section
/-!
DEFINITION. Meloskern's records (R405-R414), the closing and signing of sessions (R415-R419), the passing of its time (R429) and
the retention queue of Nightwatch (R431).
-/
namespace Sys2Proof.Machine

/-! ### Registers of the measurement and Nightwatch blocks, as Meloskern holds them -/

abbrev MELO.MSTAT : Nat := 0x40C01000
/-- CHCFGc, CHSCALEc. -/
abbrev MELO.CHCFG (c : Nat) : Nat := 0x40C01040 + 4 * c
abbrev MELO.CHSCALE (c : Nat) : Nat := 0x40C01080 + 4 * c
/-- CIRCk_INOM, CIRCk_CFG, PULSEn. -/
abbrev MELO.INOM (k : Nat) : Nat := 0x40C01140 + 0x10 * k
abbrev MELO.CIRC (k : Nat) : Nat := 0x40C01144 + 0x10 * k
abbrev MELO.PULSE (n : Nat) : Nat := 0x40C011A0 + 4 * n
abbrev MELO.MCFG : Nat := 0x40C011C0
/-- BK of segment j of channel m, m = 0-3 for MIA-MIN, 4-7 for MI0-MI3. -/
abbrev MELO.BK (m j : Nat) : Nat := 0x40C01200 + 0x40 * m + 8 * j
abbrev MELO.NWSTAT : Nat := 0x40C02000
abbrev MELO.NWGAUGE : Nat := 0x40C02004
abbrev MELO.NWHARV : Nat := 0x40C02008
abbrev MELO.NWCNT : Nat := 0x40C0200C
abbrev MELO.NWCFG : Nat := 0x40C02040
abbrev MELO.NWCAP : Nat := 0x40C02044

/-- A register of Meloskern's blocks, by its window address. -/
def State.mrd (s : State) (a : Nat) : Word := (Store.find s.melo.vals a).getD (resetOf a)

/-- Set a register of Meloskern's blocks. -/
def State.mwr (s : State) (a : Nat) (v : Word) : State :=
  { s with melo := { s.melo with vals := Store.put (resetOf a) s.melo.vals a v } }

/-- Bits `[hi:lo]` of such a register. -/
def State.mfld (s : State) (a hi lo : Nat) : Nat := bitsOf (s.mrd a) hi lo

/-- Bit `i` of such a register. -/
def State.mbit (s : State) (a i : Nat) : Bool := tb (s.mrd a) i

/-- Set bits `[hi:lo]` of such a register. -/
def State.mset (s : State) (a hi lo v : Nat) : State := s.mwr a (putBits (s.mrd a) hi lo v)

/-- Metrology is suspended (R395). -/
def State.suspended (s : State) : Bool := s.mbit MELO.MSTAT 30

/-! ### Time (R429) -/

/-- `dt` (2⁻¹⁶ s) passes: the RTC counts while Nightwatch is alive, and so do the suspended time of open sessions and the time
since the last TIME_SET (DESIGN CHOICE, notes/assumptions/1.md: the command carries it). -/
def State.elapse (s : State) (dt : Nat) : State :=
  let susp := if s.melo.running && s.suspended then dt else 0
  { s with
    nw := { s.nw with rtc := if s.nw.alive then s.nw.rtc + dt else s.nw.rtc }
    melo := { s.melo with
      setAge := s.melo.setAge.map (· + dt)
      sess := s.melo.sess.map (fun o => o.map (fun x => { x with susp := x.susp + susp })) } }

/-! ### Quality marks (R411, R414) -/

/-- Set bits of the QUALITY of the open session of port `p`; one that a brown-out has closed takes no more. -/
def Melo.markPort (m : Melo) (p bits : Nat) : Melo :=
  { m with sess := upd m.sess p (fun o => o.map (fun x =>
    if x.closeAt.isNone then { x with quality := x.quality ||| bits } else x)) }

/-- A rollback changed the end values of the sessions that the brown-out closed: bit 4 of their QUALITY (R411, R416). -/
def Melo.markRollback (m : Melo) : Melo :=
  { m with sess := m.sess.map (fun o => o.map (fun x => { x with quality := x.quality ||| 16 })) }

/-- Set bits of the QUALITY of every open session. -/
def Melo.markSess (m : Melo) (bits : Nat) : Melo := (List.range 4).foldl (fun m p => m.markPort p bits) m

/-- Set bits of the QUALITY of the running interval. -/
def Melo.markIvl (m : Melo) (bits : Nat) : Melo := { m with ivlQ := m.ivlQ ||| bits }

/-! ### Writing records -/

/-- Sessions that hold a reservation. -/
def Melo.openCount (m : Melo) : Nat := (m.sess.filter Option.isSome).length

/-- FREE (R406). -/
def Melo.free (m : Melo) : Nat := 65536 - (m.nextSeq - m.heldSeq)

/-- The usable count U (R407). -/
def Melo.usable (m : Melo) : Nat := m.free - 2 * m.openCount

/-- A list of bytes cut or filled with zeros to `n`. -/
def padTo (n : Nat) (bs : List Byte) : List Byte := (bs ++ List.replicate n 0).take n

/-- The 128 bytes of a record (R410): `t` is the instant described in 2⁻¹⁶ s. -/
def mkRecord (typ flags seq t sealcnt : Nat) (body : List Byte) : List Byte :=
  let b := leBytes 1 typ ++ leBytes 1 1 ++ leBytes 1 flags ++ leBytes 1 0 ++ leBytes 4 seq ++ leBytes 4 (t / 65536) ++
    leBytes 2 (t % 65536) ++ leBytes 2 sealcnt ++ padTo 108 body
  b ++ leBytes 4 (crc32c b)

/-- Put a record into its slot (R405). -/
def Melo.store (m : Melo) (seq : Nat) (r : List Byte) : Melo := { m with recs := Store.put [] m.recs (seq % 65536) r }

/-- Write the next record. -/
def Melo.append (m : Melo) (typ flags t : Nat) (body : List Byte) : Melo :=
  { m.store m.nextSeq (mkRecord typ flags m.nextSeq t m.sealcnt body) with nextSeq := m.nextSeq + 1 }

/-- The body of an event record (R413). -/
def eventBody (code origin : Nat) (data : List Byte) : List Byte := leBytes 2 code ++ leBytes 1 origin ++ [0] ++ data

/-- Count a record that U = 0 drops (R407). -/
def Melo.dropOne (m : Melo) (ivl : Bool) (t : Nat) : Melo :=
  { m with
    dropI := m.dropI + b2n ivl
    dropE := m.dropE + b2n (!ivl)
    dropFirst := if m.dropI + m.dropE = 0 then t / 65536 else m.dropFirst
    dropLast := t / 65536 }

/-- The LEDGER_GAP event, where one is due and U is above 0 (R407). -/
def Melo.gap (m : Melo) (t : Nat) (valid : Bool) : Melo :=
  if m.dropI + m.dropE = 0 ∨ m.usable = 0 then m
  else
    { m.append 0x10 (b2n (!valid)) t (eventBody 0x60 0
        (leBytes 4 m.dropI ++ leBytes 4 m.dropE ++ leBytes 4 m.dropFirst ++ leBytes 4 m.dropLast)) with
      dropI := 0, dropE := 0 }

/-- METER_ID (R412). -/
def meterId : List Byte := (List.range 16).map Config.meterId

/-- Sign the committed head that lacks a tail, and write its tail: the next record (R405, R417, R419). -/
def Melo.signTail (m : Melo) : Melo :=
  match m.untailed with
  | [] => m
  | h :: rest =>
    let head := (Store.find m.recs (h % 65536)).getD []
    let t := leNat ((head.drop 8).take 4) * 65536 + leNat ((head.drop 12).take 2)
    let flags := leNat ((head.drop 2).take 1)
    let pre := leBytes 4 h ++ leBytes 4 0 ++ meterId ++ leBytes 8 0
    let msg := head ++ (mkRecord 0x02 flags (h + 1) t m.sealcnt pre).take 0x30
    let sig := ecdsaSign (scalarOf (Config.privateKey 0)) (scalarOf (Config.signSecret m.signs)) (beNat (sha256 msg))
    let tail := mkRecord 0x02 flags (h + 1) t m.sealcnt (pre ++ beBytes 32 sig.1 ++ beBytes 32 sig.2)
    { m.store (h + 1) tail with untailed := rest, signs := m.signs + 1, nextSeq := max m.nextSeq (h + 2) }

/-- Every head has its tail: SEQ counts the records in the order of writing and a tail's is its head's + 1, so a tail that is due is
written before any other record (R405, R412). -/
def Melo.tails (m : Melo) : Melo := m.untailed.foldl (fun m _ => m.signTail) m

/-- Sign the committed head that lacks a tail. -/
def State.signTail (s : State) : State := { s with melo := s.melo.signTail }

/-- Write an event or interval record, or drop it while U is 0 (R407). -/
def Melo.record (m : Melo) (ivl : Bool) (flags t : Nat) (valid : Bool) (body : List Byte) : Melo :=
  let g := m.tails.gap t valid
  if g.usable = 0 then g.dropOne ivl t else g.append (if ivl then 0x20 else 0x10) flags t body

/-- Meloskern writes an event of its own at the present instant (R413). -/
def State.event (s : State) (code : Nat) (data : List Byte := []) : State :=
  { s with melo := s.melo.record false (b2n (!s.nw.timeValid)) s.nw.rtc s.nw.timeValid (eventBody code 0 data) }

/-- Meloskern writes a Nightwatch event into the ledger, ORIGIN 1 (R431). -/
def State.nwRecord (s : State) (e : NwEvent) : State :=
  { s with melo := s.melo.record false (b2n (!e.valid) + 2) e.time e.valid (eventBody e.code 1 e.data) }

/-! ### Sessions (R411, R412, R415-R419) -/

/-- A 96-bit value, little-endian. -/
def le96 (v : Nat) : List Byte := leBytes 12 v

/-- The body of a session head (R411), with the legal registers at the closing instant. -/
def headBody (s : State) (p status : Nat) (legal : List Nat) (x : Session) : List Byte :=
  leBytes 1 p ++ leBytes 1 status ++ leBytes 1 x.quality ++ [0] ++ leBytes 4 (x.topen / 65536) ++ leBytes 2 (x.topen % 65536) ++
  [0, 0] ++ le96 x.delStart ++ le96 (nth 0 legal (24 + 2 * p)) ++ le96 x.recStart ++
  le96 (nth 0 legal (25 + 2 * p)) ++ leBytes 4 (s.mfld (MELO.CIRC (p + 1)) 31 16) ++ padTo 16 x.id ++ padTo 8 x.cref ++
  leBytes 4 (s.mrd (MELO.INOM (p + 1))).toNat ++ leBytes 4 (x.susp * 1000 / 65536) ++ leBytes 4 Config.romVer.toNat

/-- Write the head of the session of port `p`, closed at instant `t` with the legal registers as they stood then; its tail is due
(R407, R412, R417). -/
def State.closeHead (s : State) (p status t : Nat) (valid : Bool) (legal : List Nat) : State :=
  match nth none s.melo.sess p with
  | none => s
  | some x =>
    let m := s.melo.tails.gap t valid
    let m1 := m.append 0x01 (b2n (!valid)) t (headBody s p status legal x)
    { s with melo := { m1 with sess := upd m1.sess p (fun _ => none), untailed := [m.nextSeq] } }

/-- Close every open session at the present instant with STATUS INTERRUPTED (R416). -/
def State.closeAll (s : State) : State :=
  (List.range 4).foldl (fun s p => s.closeHead p 2 s.nw.rtc s.nw.timeValid s.melo.legal) s

/-! ### Interval records (R414, R425) -/

/-- The increase of register `k` over the running interval. -/
def Melo.delta (m : Melo) (k : Nat) : Nat := nth 0 m.legal k - nth 0 m.ivlBase k

/-- The body of an interval record. -/
def Melo.ivlBody (m : Melo) : List Byte :=
  leBytes 4 (m.ivlStart / 900) ++ leBytes 1 m.ivlQ ++ [0, 0, 0] ++
  ([18, 19, 20, 21] ++ (List.range 8).map (24 + ·)).flatMap (fun k => leBytes 8 (m.delta k))

/-- A new interval starts at second `sec` with the quality `q`. -/
def Melo.newIvl (m : Melo) (sec q : Nat) : Melo :=
  { m with ivlStart := sec, ivlEnd := (sec / 900 + 1) * 900, ivlBase := m.legal, ivlQ := q }

/-- A new interval starts: bit 0 of its QUALITY where metrology is suspended (R414). -/
def State.newIvl (s : State) (sec q : Nat) : State := { s with melo := s.melo.newIvl sec (q ||| b2n s.suspended) }

/-- Close the running interval at boundary second `b` (R414): no record while TIME_VALID is 0, when the next one is partial. -/
def State.closeIvl (s : State) (b : Nat) : State :=
  let m := if s.nw.timeValid then s.melo.record true 0 (b * 65536) true s.melo.ivlBody else s.melo
  State.newIvl { s with melo := m } b (if s.nw.timeValid then 0 else 8)

/-! ### Nightwatch's gauge and queue (R428, R431) -/

/-- The gauge at VSTORE `mv`, in µJ (R428). -/
def State.gaugeAt (s : State) (mv : Nat) : Nat :=
  if mv ≤ 2000 then 0 else ((s.mfld MELO.NWCAP 23 0) * (mv * mv - 4000000) + 1000000) / 2000000

/-- Nightwatch measures VSTORE and computes the gauge (R428). -/
def State.measureVst (s : State) (mv : Nat) : State :=
  let g := s.gaugeAt mv
  (((s.mset MELO.NWSTAT 15 0 (min mv 65535)).mwr MELO.NWGAUGE (Word.ofNat g)).mset MELO.NWSTAT 28 28 (b2n (decide (g < 60))))

/-- NWSTAT.QLEN and NWCNT.UNCOMMIT follow the queue. -/
def State.nwCounts (s : State) : State :=
  (s.mset MELO.NWSTAT 20 16 s.nw.queue.length).mset MELO.NWCNT 7 0 (s.nw.queue.filter (fun e => e.uncommitted)).length

/-- Put an event into the queue: a full queue drops it and counts it; QUEUE_OVERFLOW is the next entry written after drops. -/
def State.nwPush (s : State) (e : NwEvent) : State :=
  let q1 := if s.nw.lost ≠ 0 ∧ s.nw.queue.length < 16 then
      s.nw.queue ++ [{ code := 0x51, data := leBytes 4 s.nw.lost, time := e.time, valid := e.valid }] else s.nw.queue
  let lost := if q1.length = s.nw.queue.length then s.nw.lost else 0
  let full := decide (16 ≤ q1.length)
  let s1 := if full then s.mset MELO.NWCNT 15 8 (min (s.mfld MELO.NWCNT 15 8 + 1) 255) else s
  State.nwCounts { s1 with nw := { s1.nw with queue := (if full then q1 else q1 ++ [e]), lost := lost + b2n full } }

/-- Nightwatch queues an event at the present instant; a dead Nightwatch queues none. -/
def State.nwQueue (s : State) (code : Nat) (data : List Byte := []) : State :=
  if s.nw.alive then s.nwPush { code := code, data := data, time := s.nw.rtc, valid := s.nw.timeValid } else s

/-- The queued entries go to MRAM, oldest first, the newest RTC value with them. -/
def State.commitQueue (s : State) : State :=
  match s.nw.queue.getLast? with
  | none => s
  | some e => { s with nw := { s.nw with
      queue := [], dark := s.nw.dark ++ s.nw.queue.map (fun e => { e with uncommitted := false }), rtcMram := e.time } }

/-- With VDD_M absent, Nightwatch commits what it has queued while the gauge is at least 60 µJ, and else marks it (R431). -/
def State.nwCommit (s : State) (mv : Nat) : State :=
  if s.nw.alive && !s.melo.running && !s.nw.queue.isEmpty then
    let s1 := s.measureVst mv
    if s1.gaugeAt mv < 60 then
      State.nwCounts { s1 with nw := { s1.nw with queue := s1.nw.queue.map (fun e => { e with uncommitted := true }) } }
    else s1.commitQueue.nwCounts
  else s

end Sys2Proof.Machine
end

