-- ==== Sys2Proof/Machine/MeterFilter.lean ====
section
/-!
DEFINITION. The signal path of Meloskern's channels (R372, R373) from the modulator words to the metrology samples, the Hilbert filter
and the delay of R378, and the harmonic groups of R379. A value is an integer in 2⁻³¹ of the channel's full scale, rounded by rnd at the
output of each filter and of the correction (DESIGN CHOICE, notes/assumptions/95.md: the manual states no width inside the path).
-/
namespace Sys2Proof.Machine

/-! ### Exact arithmetic -/

/-- n / d rounded to nearest, ties toward +∞: rnd of R286 on an exact fraction. -/
def rdiv (n : Int) (d : Nat) : Int := Int.fdiv (2 * n + d) (2 * d)

/-- The sum of products of two lists. -/
def dot (a b : List Int) : Int := (List.zipWith (· * ·) a b).foldl (· + ·) 0

/-! ### Filters -/

/-- A sequence summed over a moving window of `n`. -/
def movingSum (n : Nat) (t : List Nat) : List Nat :=
  (List.range (t.length + n - 1)).map (fun j => ((t.take (j + 1)).drop (j + 1 - n)).foldl (· + ·) 0)

/-- The sinc⁴ filter that decimates by 64: four moving sums of 64, its gain 2²⁴ (R372). -/
def sincTaps : List Nat := movingSum 64 (movingSum 64 (movingSum 64 (List.replicate 64 1)))

/-- The 96 taps of the linear-phase FIR filter (R372), in 2⁻³¹; the manual gives their symmetry and the response, not their values. -/
def firTaps : List Int := (List.range 96).map (fun j => Config.firTap (min j (95 - j)))

/-- The 127 antisymmetric taps of the Hilbert filter (R378), in 2⁻³¹. -/
def hilbertTaps : List Int :=
  (List.range 127).map (fun j => if j < 63 then Config.hilbertTap (62 - j) else if j = 63 then 0 else -Config.hilbertTap (j - 64))

/-! ### Correction (R373) -/

/-- CHOFFc, CHGAINc, and word 1 of the active segment of a current channel. -/
abbrev MELO.CHOFF (c : Nat) : Nat := 0x40C010C0 + 4 * c
abbrev MELO.CHGAIN (c : Nat) : Nat := 0x40C01100 + 4 * c

/-- What a channel's correction uses: whether the channel yields words, CHOFF, CHGAIN, SG and DLY, and whether the high-pass acts. -/
structure Correction where
  on : Bool
  off : Int
  gain : Int
  sg : Int
  dly : Int
  high : Bool

/-- The channel yields its corrected word: it is enabled and scaled. -/
def State.chanOn (s : State) (c : Nat) : Bool := s.mbit (MELO.CHCFG c) 31 && s.mrd (MELO.CHSCALE c) != 0

/-- The segment channel of R374 that serves channel `c`: MIA-MIN, MI0-MI3. -/
def segChannel (c : Nat) : Option Nat := if 3 ≤ c ∧ c < 7 then some (c - 3) else if 11 ≤ c ∧ c < 15 then some (c - 7) else none

/-- The correction of channel `c` as it stands, with the active segment of a current channel (R374). -/
def State.correction (s : State) (c : Nat) : Correction :=
  let w := match segChannel c with
    | some m => s.mrd (MELO.BK m (nth 0 s.melo.seg m) + 4)
    | none => 0
  { on := s.chanOn c, off := toSigned 24 (s.mfld (MELO.CHOFF c) 23 0), gain := toSigned 24 (s.mfld (MELO.CHGAIN c) 23 0),
    sg := toSigned 12 (bitsOf w 31 20), dly := toSigned 20 (bitsOf w 19 0), high := decide (c < 7) }

/-- One sample at 64 kSps of a channel: offset, delay, gain, high-pass (R373). A delay may be negative, down to 8 samples, so every
channel is delayed by 8 more. -/
def MeloChan.sample64 (h : MeloChan) (p : Correction) (x0 : Int) : MeloChan :=
  let x1 := (x0 - p.off * 256) :: h.x1.take 16
  let pos := (8 * 65536 + p.dly).toNat
  let f : Int := (pos % 65536 : Nat)
  let x2 := nth 0 x1 (pos / 65536) * (65536 - f) + nth 0 x1 (pos / 65536 + 1) * f
  let x3 := rdiv (x2 * (2 ^ 24 + p.gain) * (2 ^ 18 + p.sg)) (2 ^ 58)
  let y := if p.high then rdiv (Config.highPass * (h.hp.2 + x3 - h.hp.1)) (2 ^ 31) else x3
  let out := if p.on then y else 0
  { h with x1 := x1, hp := (x3, y), c64 := out :: (if p.high then h.c64 else h.c64.take 95)
           absSum := h.absSum + (if p.on then x3.natAbs else 0) }

/-- Sixty-four modulator words yield one sample at 64 kSps (R372). -/
def MeloChan.decimate (h : MeloChan) (p : Correction) (words : List Word) : MeloChan :=
  let mods := (words.map (·.toInt)).reverse ++ h.mods
  { h with mods := mods.take 252 }.sample64 p (rdiv (dot (sincTaps.map (fun t => (t : Int))) mods) (2 ^ 24))

/-- The next `n` samples at 64 kSps. -/
def MeloChan.decimateAll (p : Correction) : Nat → List Word → MeloChan → MeloChan
  | 0, _, h => h
  | n + 1, ws, h => MeloChan.decimateAll p n (ws.drop 64) (h.decimate p (ws.take 64))

/-- A metrology sample: the 512 modulator words of its time, 8 corrected samples, the FIR filter (R372, R373). -/
def MeloChan.metrology (h : MeloChan) (p : Correction) (words : List Word) : MeloChan :=
  let g := MeloChan.decimateAll p 8 words h
  { g with m8 := satN 32 (rdiv (dot firTaps g.c64) (2 ^ 31)) :: g.m8.take 126 }

/-- The channel of index `c`. -/
def State.chan (s : State) (c : Nat) : MeloChan := nth {} s.melo.chans c

/-- Every channel takes its modulator words (R372). -/
def State.filtered (s : State) (mods : List (List Word)) : State :=
  { s with melo := { s.melo with chans := (List.range 15).map (fun c => (s.chan c).metrology (s.correction c) (nth [] mods c)) } }

/-- The Q1.31 metrology sample of channel `c` that lies `d` samples back (R383). -/
def State.meterWord (s : State) (c d : Nat) : Int := if s.chanOn c then nth 0 (s.chan c).m8 d else 0

/-- v_H of phase `x` (R378): it belongs to the sample 63 back. -/
def State.hilbert (s : State) (x : Nat) : Int :=
  if s.chanOn x then satN 32 (rdiv (dot hilbertTaps (s.chan x).m8) (2 ^ 31)) else 0

/-! ### Harmonic groups (R379) -/

/-- A quotient of fixed-point values. -/
def fixDiv (a b : Int) : Int := a * 2 ^ trigBits / b

/-- The samples at 64 kSps, newest first, at `back` 2⁻²⁰ samples before the newest, by linear interpolation, in 2⁻⁵¹ of full scale. -/
def interpolate (xs : List Int) (back : Nat) : Int :=
  let f : Int := (back % 2 ^ 20 : Nat)
  nth 0 xs (back / 2 ^ 20) * (2 ^ 20 - f) + nth 0 xs (back / 2 ^ 20 + 1) * f

/-- A block that ends `back` before the newest sample and lasts `span` (2⁻²⁰ samples at 64 kSps), resampled to 4,096 points. -/
def resample (xs : List Int) (back span : Nat) : List Int :=
  (List.range 4096).map (fun j => interpolate xs (back + span - span * j / 4096))

/-- The squared RMS C_k² of bin `k` of the points' DFT, in fixed point. -/
def binSquare (pts : List Int) (k : Nat) : Int :=
  let angle := fun (j : Nat) => 2 * piExact * ((k * j % 4096 : Nat) : Int) / 4096
  let re := dot pts ((List.range 4096).map (fun j => cosExact (angle j)))
  let im := dot pts ((List.range 4096).map (fun j => sinExact (angle j)))
  2 * (re * re + im * im) / 2 ^ (24 + 102 + trigBits)

/-- C_k² divided by the squared responses at the bin's frequency: sinc⁴, the interpolation's sinc², the high-pass filter at 0.1 Hz. -/
def binCorrect (span k : Nat) (c2 : Int) : Int :=
  let psi := piExact * ((k * 2 ^ 20 : Nat) : Int) / span
  let a := fixDiv (sinExact psi) (64 * sinExact (psi / 64))
  let b := fixDiv (sinExact psi) psi
  let d : Int := 2 ^ trigBits * span / ((10 * k * 64000 * 2 ^ 20 : Nat) : Int)
  let sq := fun (x : Int) => fixMul x x
  fixDiv (fixMul c2 (2 ^ trigBits + sq d)) (fixMul (sq (sq (sq a))) (sq (sq b)))

/-- The squared harmonic group G_h² (IEC 61000-4-7) of bins `c`, `b` bins apart, in 2⁻⁶⁴ of full scale squared. -/
def groupSquare (c : Nat → Int) (b h : Nat) : Nat :=
  let lo := b * h - b / 2
  let inner := (List.range (b - 1)).foldl (fun a i => a + c (lo + 1 + i)) 0
  (((c lo + c (b * h + b / 2)) / 2 + inner) / 2 ^ (trigBits - 64)).toNat

/-- The groups h = 1-127 of the samples `xs` of a block (R379). -/
def harmonicGroups (xs : List Int) (back span b : Nat) : List Nat :=
  let pts := resample xs back span
  let c := fun k => binCorrect span k (binSquare pts k)
  (List.range 127).map (fun i => groupSquare c b (i + 1))

end Sys2Proof.Machine
end

