-- ==== Sys2Proof/Machine/Meter.lean ====
section
/-!
DEFINITION. Meloskern's measurement (chapter 15, R370-R396): samples, AC cycles and blocks, energy quanta by direction, start-up
admission, pulse outputs, brown-out, start, commits and clock supervision.
-/
namespace Sys2Proof.Machine

/-! ### Exact arithmetic -/

/-- floor(√n) for n < 2^(2·bits). -/
def isqrtOf (bits n : Nat) : Nat :=
  (List.range bits).foldl
    (fun r i => if (r + 2 ^ (bits - 1 - i)) * (r + 2 ^ (bits - 1 - i)) ≤ n then r + 2 ^ (bits - 1 - i) else r) 0

/-- √(n / d) rounded to nearest, for n / d < 2²⁵⁴. -/
def rndRoot (n d : Nat) : Nat := (isqrtOf 128 (4 * n / d) + 1) / 2

/-- √n / d rounded to nearest, for n < 2³¹⁸. -/
def rndRootOver (n d : Nat) : Nat := (isqrtOf 160 (4 * n) + d) / (2 * d)

/-! ### Quanta and pulses (R382, R383, R390) -/

/-- Add quantum `q` (2⁻³² µWh) to register `k` (R383). -/
def Melo.addQ (m : Melo) (k q : Nat) : Melo :=
  let r := nth 0 m.res k + q
  { m with legal := upd m.legal k (· + r / 2 ^ 32), res := upd m.res k (fun _ => r % 2 ^ 32) }

/-- The ball of MPULSEn goes high when its output is idle, enabled and owes a pulse (R390). -/
def State.pulseKick (s : State) (n : Nat) : State :=
  if s.melo.running && !s.suspended && s.mbit (MELO.PULSE n) 31 && nth 0 s.melo.pulse n == 0 && nth 0 s.melo.owed n != 0 then
    { s with melo := { s.melo with pulse := upd s.melo.pulse n (fun _ => 1), owed := upd s.melo.owed n (· - 1) } }
  else s

/-- Output `n` accumulates a quantum of direction `dir` (0 delivered or import, 1 received or export) (R390), enabled or not: EN only
lets the ball pulse. -/
def State.pulseAdd (s : State) (n dir q : Nat) : State :=
  let pc := s.mrd (MELO.PULSE n)
  if tb pc (28 + dir) then
    let acc := nth 0 s.melo.acc n + q * bitsOf pc 16 0
    let owed := nth 0 s.melo.owed n + acc / (10 ^ 9 * 2 ^ 32)
    let s1 := { s with melo := { s.melo with
      acc := upd s.melo.acc n (fun _ => acc % (10 ^ 9 * 2 ^ 32)), owed := upd s.melo.owed n (fun _ => owed) } }
    let s2 := s1.pulseKick n
    if 65535 < nth 0 s2.melo.owed n then
      { s2 with melo := { s2.melo with owed := upd s2.melo.owed n (fun _ => 65535) } }.mset MELO.MSTAT 24 24 1
    else s2
  else s

/-! ### Samples (R373, R378, R380-R384) -/

/-- CHSCALE of a channel. -/
def State.chScale (s : State) (c : Nat) : Nat := (s.mrd (MELO.CHSCALE c)).toNat

/-- A phase's sums with one sample more. -/
def AcSum.add (a : AcSum) (v h i : Int) (k : Nat) : AcSum :=
  { ep := a.ep + rdiv (v * i * k) (28800000 * 2 ^ 30)
    eq := a.eq + rdiv (h * i * k) (28800000 * 2 ^ 30)
    vi := a.vi + v * i, hi := a.hi + h * i
    vv := a.vv + (v * v).toNat, ii := a.ii + (i * i).toNat }

/-- One sample of the three phases and the neutral, as it leaves the delay of R378. -/
def State.acSample (s : State) : State :=
  let one (l : List AcSum) : List AcSum := (List.range 3).map (fun x =>
    (nth ({} : AcSum) l x).add (s.meterWord x 63) (s.hilbert x) (s.meterWord (3 + x) 63) (s.chScale x * s.chScale (3 + x)))
  let n := s.meterWord 6 63
  { s with melo := { s.melo with
    cyc := one s.melo.cyc, cycN := s.melo.cycN + 1, blk := one s.melo.blk, blkN := s.melo.blkN + 1
    blkNeutral := s.melo.blkNeutral + (n * n).toNat } }

/-- The scale of p_v: one unit is 2⁻⁶²·10⁻¹⁴ W (R380, R383). -/
def State.inletPower (s : State) (p : Nat) (u i : Int) : Int :=
  u * i * s.chScale (7 + p) * s.chScale (11 + p) * 10 ^ 8 -
    (s.mfld (MELO.CIRC (p + 1)) 31 16 : Nat) * i * i * s.chScale (11 + p) * s.chScale (11 + p)

/-- A DC sample is admitted (R384): the mean |i| of the 64 samples that end with it against ISTART × 0.001 % of INOM. -/
def State.dcAdmits (s : State) (p : Nat) : Bool :=
  let inom := (s.mrd (MELO.INOM (p + 1))).toNat
  inom != 0 && decide (64 * 2 ^ 31 * (s.mfld (MELO.CIRC (p + 1)) 15 0 * inom) ≤
    (nth [] s.melo.hist p).foldl (· + ·) 0 * s.chScale (11 + p) * 10 ^ 4)

/-- One sample of DC port `p` (R380-R384). -/
def State.dcSample (s : State) (p : Nat) : State :=
  let u := s.meterWord (7 + p) 0
  let i := s.meterWord (11 + p) 0
  let pv := s.inletPower p u i
  let m := { s.melo with
    hist := upd s.melo.hist p (fun h => i.natAbs :: h.take 63)
    dc := upd s.melo.dc p (fun d => { u := d.u + u, i := d.i + i, ui := d.ui + u * i, pv := d.pv + pv }) }
  let s1 := { s with melo := m }
  if s1.dcAdmits p then
    let q := (rdiv pv (2880000000000000 * 2 ^ 30)).natAbs
    let dir := b2n (decide (pv < 0))
    { s1 with melo := { m.addQ (24 + 2 * p + dir) q with act := m.act ||| 2 ^ (p + 1) } }.pulseAdd p dir q
  else s1

/-- Mark the blocks, the sessions and the interval in which a channel clips (R373, R411, R414). -/
def State.markClips (s : State) (mask : Nat) : State :=
  let m := { s.melo with ovr := s.melo.ovr ||| mask }
  let m1 := (List.range 4).foldl (fun m p => if mask.testBit (7 + p) || mask.testBit (11 + p) then m.markPort p 2 else m) m
  { s with melo := if mask = 0 then m1 else m1.markIvl 2 }

/-- PULSE_WIDTH_END (R390): a high ball goes low and stays so for PW; after that the next owed pulse may start. -/
def execPulseWidthEnd (n : Nat) (s : State) : Out :=
  if nth 0 s.melo.pulse n = 1 then .next { s with melo := { s.melo with pulse := upd s.melo.pulse n (fun _ => 2) } }
  else if nth 0 s.melo.pulse n = 2 then
    .next (State.pulseKick { s with melo := { s.melo with pulse := upd s.melo.pulse n (fun _ => 0) } } n)
  else .next s

/-! ### AC cycles (R376, R382-R384) -/

/-- A phase's cycle is admitted (R384): I_rms against ISTART × 0.001 % of INOM. -/
def State.acAdmits (s : State) (x : Nat) : Bool :=
  let inom := (s.mrd (MELO.INOM 0)).toNat
  let ifs := s.chScale (3 + x)
  inom != 0 && s.melo.cycN != 0 && decide (s.melo.cycN * 2 ^ 62 * (s.mfld (MELO.CIRC 0) 15 0 * inom) ^ 2 ≤
    (nth ({} : AcSum) s.melo.cyc x).ii * ifs ^ 2 * 10 ^ 8)

/-- The cycle energies E_P, E_Q, E_S of phase `x` in 2⁻³² µWh; E_S is rounded once (R383). -/
def State.phaseEnergy (s : State) (x : Nat) : Int × Int × Nat :=
  let a := nth ({} : AcSum) s.melo.cyc x
  let k := s.chScale x * s.chScale (3 + x)
  (a.ep, a.eq, rndRootOver (a.vv * a.ii * k ^ 2) (28800000 * 2 ^ 30))

/-- Add the quanta of one phase, or of the total (x = 3), each to the register of its direction (R381, R382). -/
def Melo.addAc (m : Melo) (x : Nat) (e : Int × Int × Nat) : Melo :=
  let exp := b2n (decide (e.1 < 0))
  ((m.addQ (6 * x + exp) e.1.natAbs).addQ (6 * x + 2 + b2n (decide (e.2.1 < 0))) e.2.1.natAbs).addQ (6 * x + 4 + exp) e.2.2

/-- Close the AC cycle: the admitted phases' quanta, then the total's (R382, R384). -/
def State.closeCycle (s : State) : State :=
  let es := ((List.range 3).filter s.acAdmits).map (fun x => (x, s.phaseEnergy x))
  let m := es.foldl (fun m p => m.addAc p.1 p.2) s.melo
  let tot := es.foldl (fun t p => (t.1 + p.2.1, t.2.1 + p.2.2.1, t.2.2 + p.2.2.2)) ((0 : Int), (0 : Int), (0 : Nat))
  let m1 := if es.isEmpty then m else { m.addAc 3 tot with act := m.act ||| 1 }
  let s1 := { s with melo := { m1 with cyc := List.replicate 3 {}, cycN := 0 } }
  if es.isEmpty then s1 else s1.pulseAdd 4 (b2n (decide (tot.1 < 0))) tot.1.natAbs

/-- The source of the next cycle (R376): the first of MUA, MUB, MUC whose RMS over the cycle was at least 5 % of full scale. -/
def State.cycleSource (s : State) : Nat :=
  ((List.range 3).find? (fun x => decide (s.melo.cycN ≠ 0 ∧
    s.melo.cycN * 2 ^ 62 ≤ 400 * (nth ({} : AcSum) s.melo.cyc x).vv))).getD 3

/-- The length of a cycle of fixed length, in metrology samples (R376). -/
def State.fixedLength (s : State) : Nat := if s.mbit MELO.MCFG 0 then (if s.melo.fixK = 2 then 134 else 133) else 160

/-- A cycle ends here (R376): without a source after its fixed length, else between the values `y0` and `y1` of the source voltage's
fundamental if it crosses zero there upward. -/
def State.cycleEnds (s : State) (y0 y1 : Word) : Bool :=
  s.melo.cycN != 0 && (if s.melo.src = 3 then s.melo.cycN == s.fixedLength else decide (y0.toInt < 0 ∧ 0 ≤ y1.toInt))

/-- The crossing by linear interpolation, in 2⁻²⁰ metrology samples after the last one. -/
def State.crossing (s : State) (y0 y1 : Word) : Nat :=
  if s.melo.src = 3 then s.melo.cycFrac else y0.toInt.natAbs * 2 ^ 20 / (y0.toInt.natAbs + y1.toInt.natAbs)

/-- The cycle closes and the next one begins at the crossing, with the source that it has then (R376, R382). -/
def State.nextCycle (s : State) (y0 y1 : Word) : State :=
  let src := s.cycleSource
  let x := s.crossing y0 y1
  let time := (((s.melo.cycN * 2 ^ 20 + x : Nat) : Int) - s.melo.cycFrac).toNat
  let fix := if s.melo.src = 3 then (s.melo.fixK + 1) % 3 else 0
  let s1 := s.closeCycle
  State.mset { s1 with melo := { s1.melo with
    src := src, blkCyc := s1.melo.blkCyc + 1, blkT := s1.melo.blkT + time, cycFrac := x, fixK := fix } } 0x40C01004 31 30 src

/-! ### Blocks (R374, R377-R380) -/

/-- The highest segment of channel `m` whose bound `reach` accepts; the first 0 after segment 0 ends the table (R374). -/
def State.topSegment (s : State) (m : Nat) (reach : Nat → Bool) : Nat :=
  ((List.range 8).foldl (fun (a : Nat × Bool) j =>
    let bk := s.mfld (MELO.BK m j) 23 0
    if a.2 || (j != 0 && bk == 0) then (a.1, true) else if reach bk then (j, false) else (a.1, false)) (0, false)).1

/-- The active segment of channel `m` after a block: up to the highest one reached, down only when the metric is below 63/64 of
the active bound (R374). `reach b k` tests metric ≥ b × k / 64. -/
def State.nextSegment (s : State) (m : Nat) (reach : Nat → Nat → Bool) : Nat :=
  let cur := nth 0 s.melo.seg m
  let top := s.topSegment m (fun b => reach b 64)
  if cur < top then top else if reach (s.mfld (MELO.BK m cur) 23 0) 63 then cur else top

/-- Select the segments of channels MIA-MIN from their sums Σ i² over `n` samples. -/
def State.acSegments (s : State) (n : Nat) (ii : List Nat) : State :=
  let f (x : Nat) := s.nextSegment x (fun b k => decide (n * (b * 128 * k) ^ 2 ≤ 4096 * nth 0 ii x))
  { s with melo := { s.melo with seg := (List.range 4).map f ++ s.melo.seg.drop 4 } }

/-- Select the segments of channels MI0-MI3 from their mean |x₃| over the `n` metrology samples of the block. -/
def State.dcSegments (s : State) (n : Nat) : State :=
  let f (p : Nat) := s.nextSegment (4 + p) (fun b k => decide (8 * n * 128 * (b * k) ≤ 64 * (s.chan (11 + p)).absSum))
  { s with melo := { s.melo with seg := s.melo.seg.take 4 ++ (List.range 4).map f } }

/-- ACx word `w`. -/
abbrev MELO.AC (x w : Nat) : Nat := 0x40C01500 + 0x20 * x + 4 * w

/-- A ratio that the manual leaves undefined at 0/0 and beyond its field is a free value of the field's width (R378, R379). -/
def State.ratio (s : State) (k : Nat) (ok : Bool) (v : Nat) : Nat := if ok then v else (s.free k).toNat % 65536

/-- PF = P/S in 2⁻¹⁵, of `P` and S². -/
def powerFactor (p : Int) (ss : Nat) : Int :=
  let r : Int := rndRoot (2 ^ 30 * p.natAbs ^ 2) ss
  if p < 0 then -r else r

/-- THD in 0.01 % of a channel's squared groups (R379), or a free value. -/
def State.thd (s : State) (k : Nat) (g : List Nat) : Nat :=
  let g1 := nth 0 g 0
  let v := rndRoot (10 ^ 8 * ((g.take 40).drop 1).foldl (· + ·) 0) g1
  s.ratio k (g1 != 0 && decide (v < 65536)) v

/-- The results of phase `x` (R378, R379). -/
def State.phaseResults (s : State) (n x : Nat) (a : AcSum) (g2 : List (List Nat)) : State :=
  let vf := s.chScale x
  let cf := s.chScale (3 + x)
  let k := vf * cf
  let ss := a.vv * a.ii
  let pf := powerFactor a.vi ss
  ((((((s.mwr (MELO.AC x 0) (Word.ofNat (rndRoot (a.vv * (10 * vf) ^ 2) (n * 2 ^ 62)))).mwr (MELO.AC x 1)
      (Word.ofNat (rndRoot (a.ii * cf ^ 2) (n * 2 ^ 62 * 100)))).mwr (MELO.AC x 2)
      (BitVec.ofInt 32 (rdiv (a.vi * k) (n * 2 ^ 62 * 10 ^ 6)))).mwr (MELO.AC x 3)
      (BitVec.ofInt 32 (rdiv (a.hi * k) (n * 2 ^ 62 * 10 ^ 6)))).mwr (MELO.AC x 4)
      (Word.ofNat (rndRootOver (ss * k ^ 2) (n * 2 ^ 62 * 10 ^ 6)))).mset (MELO.AC x 5) 31 16
      (s.ratio (3 * x) (ss != 0 && decide (pf < 32768)) (ofSigned 16 pf))).mwr (MELO.AC x 6)
      (Word.ofNat (s.thd (3 * x + 1) (nth [] g2 x) * 65536 + s.thd (3 * x + 2) (nth [] g2 (3 + x))))

/-- Sum of one result word of the three phases. -/
def State.phaseTotal (s : State) (w : Nat) : Word := s.mrd (MELO.AC 0 w) + s.mrd (MELO.AC 1 w) + s.mrd (MELO.AC 2 w)

/-- The totals and the neutral (R378); the voltage THD of x = 3 has no voltage and is a free value. -/
def State.totalResults (s : State) (n neutral : Nat) (g : List Nat) : State :=
  let p := s.phaseTotal 2
  let sv := s.phaseTotal 4
  let pf := powerFactor p.toInt (sv.toNat ^ 2)
  (((((s.mwr (MELO.AC 3 1) (Word.ofNat (rndRoot (neutral * s.chScale 6 ^ 2) (n * 2 ^ 62 * 100)))).mwr (MELO.AC 3 2) p).mwr
    (MELO.AC 3 3) (s.phaseTotal 3)).mwr (MELO.AC 3 4) sv).mset (MELO.AC 3 5) 31 16
      (s.ratio 9 (sv != 0 && decide (pf < 32768)) (ofSigned 16 pf))).mwr (MELO.AC 3 6)
      (Word.ofNat ((s.free 10).toNat % 65536 * 65536 + s.thd 11 g))

/-- The harmonic words of channel `c` (R379): round(G_h × √2 / full scale × 65,536), saturating. -/
def State.harmResults (s : State) (c : Nat) (g : List Nat) : State :=
  let v (h : Nat) : Nat := if h < 128 then min (rndRoot (nth 0 g (h - 1)) (2 ^ 31)) 65535 else 0
  (List.range 64).foldl (fun s w => s.mwr (0x40C01800 + 0x100 * c + 4 * w) (Word.ofNat (v (2 * w + 2) * 65536 + v (2 * w + 1)))) s

/-- Count the block; publish the activity and the clips of the channels the block covers (R377, R396). -/
def State.blockFlags (s : State) (actMask ovrMask : Nat) : State :=
  let act := (s.mfld MELO.MSTAT 4 0 &&& (31 ^^^ actMask)) ||| (s.melo.act &&& actMask)
  let ovr := ((s.mrd 0x40C01010).toNat &&& (0xFFFF ^^^ ovrMask)) ||| (s.melo.ovr &&& ovrMask)
  let s1 := ((s.mset MELO.MSTAT 4 0 act).mwr 0x40C01010 (Word.ofNat ovr)).mwr 0x40C0100C (s.mrd 0x40C0100C + 1)
  { s1 with melo := { s1.melo with act := s1.melo.act &&& (31 ^^^ actMask), ovr := s1.melo.ovr &&& (0xFFFF ^^^ ovrMask) } }

/-- Cycles of an AC block (R377). -/
def State.blockCycles (s : State) : Nat := if s.mbit MELO.MCFG 0 then 12 else 10

/-- The squared harmonic groups of channel `c` over the AC block (R379). The last sample that left the delay of R378 lies 551.5 samples
at 64 kSps before the newest one: 47.5 for the FIR filter and 8 × 63; the block ends at its last crossing. -/
def State.groups (s : State) (c : Nat) : List Nat :=
  harmonicGroups (s.chan c).c64 (1103 * 2 ^ 19 - 8 * s.melo.cycFrac) (8 * s.melo.blkT) s.blockCycles

/-- The mean frequency of the block's cycles in mHz (R376). -/
def State.blockFreq (s : State) : Nat := (rdiv (s.melo.blkCyc * 8000000 * 2 ^ 20 : Nat) s.melo.blkT).toNat

/-- The end of an AC block (R377-R379). -/
def State.acBlock (s : State) : State :=
  let n := s.melo.blkN
  let b := s.melo.blk
  let g2 := (List.range 7).map s.groups
  let s1 := (List.range 3).foldl (fun s x => s.phaseResults n x (nth ({} : AcSum) b x) g2) s
  let s2 := s1.totalResults n s.melo.blkNeutral (nth [] g2 6)
  let s3 := (List.range 7).foldl (fun s c => s.harmResults c (nth [] g2 c)) s2
  let s4 := ((s3.mset 0x40C01004 19 0 s.blockFreq).blockFlags 1 0x7F).acSegments n (b.map (fun a => a.ii) ++ [s.melo.blkNeutral])
  { s4 with freeCtr := s4.freeCtr + 12, melo := { s4.melo with
    blk := List.replicate 3 {}, blkN := 0, blkNeutral := 0, blkCyc := 0, blkT := 0
    chans := s4.melo.chans.map (fun h => { h with c64 := h.c64.take 600 }) } }

/-- DCp word `w`. -/
abbrev MELO.DC (p w : Nat) : Nat := 0x40C01580 + 0x10 * p + 4 * w

/-- The block means of DC port `p` (R380). -/
def State.dcResults (s : State) (n p : Nat) : State :=
  let d := nth ({} : DcSum) s.melo.dc p
  let vf := s.chScale (7 + p)
  let cf := s.chScale (11 + p)
  (((s.mwr (MELO.DC p 0) (BitVec.ofInt 32 (rdiv (d.u * vf * 10) (n * 2 ^ 31)))).mwr (MELO.DC p 1)
    (BitVec.ofInt 32 (rdiv (d.i * cf) (n * 2 ^ 31 * 10)))).mwr (MELO.DC p 2)
    (BitVec.ofInt 32 (rdiv (d.ui * vf * cf) (n * 2 ^ 62 * 10 ^ 6)))).mwr (MELO.DC p 3)
    (BitVec.ofInt 32 (rdiv d.pv (n * 2 ^ 62 * 10 ^ 14)))

/-- The end of a DC block (R377, R380). -/
def State.dcBlock (s : State) : State :=
  let s1 := (List.range 4).foldl (fun s p => s.dcResults s.melo.dcN p) s
  let s2 := (s1.blockFlags 0x1E 0x7F80).dcSegments s.melo.dcN
  { s2 with melo := { s2.melo with
    dc := List.replicate 4 {}, dcN := 0, chans := s2.melo.chans.map (fun h => { h with absSum := 0 }) } }

/-- An AC block has its cycles; a DC block its 1,600 samples (R377). -/
def State.acDue (s : State) : Bool := decide (s.blockCycles ≤ s.melo.blkCyc)
def State.dcDue (s : State) : Bool := decide (1600 ≤ s.melo.dcN)

/-- What measuring anything more presupposes: every block that is due has ended (R377), so none grows beyond its length. -/
def State.endBlocks (s : State) : State :=
  let s1 := if s.acDue then s.acBlock else s
  if s1.dcDue then s1.dcBlock else s1

/-- METER_BLOCK_END (R377): an AC block after its 10 or 12 cycles, a DC block after its 1,600 samples; before that nothing ends. -/
def execMeterBlockEnd (ac : Bool) (temp : Word) (s : State) : Out :=
  .next (if s.melo.running && !s.suspended && (if ac then s.acDue else s.dcDue) then
    let s1 := s.mset 0x40C01008 15 0 (temp.toNat % 65536)
    if ac then s1.acBlock else s1.dcBlock
  else s)

/-- AC_CYCLE_END (R376, R382). -/
def execAcCycleEnd (y0 y1 : Word) (s : State) : Out :=
  .next (if s.melo.running && !s.suspended && s.cycleEnds y0 y1 then s.endBlocks.nextCycle y0 y1 else s)

/-- METROLOGY_SAMPLE (R372, R373, R378, R380-R384): the modulator words of one metrology sample pass the filters, and the sample that
leaves them is measured. While Meloskern does not run or metrology is suspended it measures nothing. -/
def execMetrologySample (mods : List (List Word)) (clip : Nat) (s : State) : Out :=
  .next (if s.melo.running && !s.suspended then
    let s1 := ((s.endBlocks.filtered mods).markClips (clip % 2 ^ 15)).acSample
    let s2 := { s1 with melo := { s1.melo with dcN := s1.melo.dcN + 1 } }
    (List.range 4).foldl State.dcSample s2
  else s)

/-! ### Commits, brown-out, start (R392, R394, R405, R416, R417, R420, R424) -/

/-- The two MRAM copies: the newest one by its sequence number, and whether it is copy 1. -/
def Melo.newest (m : Melo) : MeterCopy × Bool :=
  let a := nth ({} : MeterCopy) m.copies 0
  let b := nth ({} : MeterCopy) m.copies 1
  if a.seq < b.seq then (b, true) else (a, false)

/-- Commit the metering state to the other copy, and the RTC with it (R394, R429); `ok`: it was written whole. -/
def State.commit (s : State) (ok : Bool) : State :=
  let (c, one) := s.melo.newest
  let n : MeterCopy := { seq := c.seq + 1, valid := ok, legal := s.melo.legal, res := s.melo.res, acc := s.melo.acc }
  { s with
    melo := { s.melo with copies := upd s.melo.copies (if one then 0 else 1) (fun _ => n) }
    nw := { s.nw with rtcMram := if s.nw.alive then s.nw.rtc else s.nw.rtcMram } }

/-- MRAM_COMMIT (R394). -/
def execMramCommit (dt : Nat) (ok : Bool) (s : State) : Out :=
  let s := s.elapse dt
  if s.melo.running then .next (s.commit ok) else .next s

/-- Every pulse output goes low. -/
def Melo.pulsesLow (m : Melo) : Melo := { m with pulse := List.replicate 5 0 }

/-- MELOSKERN_BROWNOUT (R392, R416, R424, R431): metrology stops, the open cycle closes as a partial one, the state is
committed, open sessions and commissioning end, and Nightwatch queues MAIN_LOSS. -/
def execMeloskernBrownout (dt vst : Nat) (ok : Bool) (s : State) : Out :=
  let s := s.elapse dt
  if !s.melo.running then .next s
  else
    let s1 := (if s.suspended then s else s.closeCycle).commit ok
    let m := { s1.melo.pulsesLow with
      running := false, bo := true
      sess := s1.melo.sess.map (fun o => o.map (fun x => { x with closeAt := some (s1.nw.rtc, s1.nw.timeValid) }))
      comm := false, stage := [], commAbort := s1.melo.commAbort || s1.melo.comm
      cmd := none, rest := none, reply := none }
    .next (State.nwCommit (State.nwQueue { s1 with melo := m } 0x02) vst)

/-- The mirror's registers of type RO go back to 0 at a Meloskern start; the RWS ones stay (R396). -/
def meloResults (a : Nat) : Bool := decide (a < 0x40C01040 ∨ (0x40C01400 ≤ a ∧ a < 0x40C02000))

/-- The metering state as a start finds it (R394, R374, R384, R376): from the newest valid copy; the sums start anew. Whether
pulses still owed survive a Meloskern reset is left open: a free choice. -/
def State.meterResume (s : State) : State :=
  let (c, one) := s.melo.newest
  let src := if c.valid then c else nth ({} : MeterCopy) s.melo.copies (if one then 0 else 1)
  let m := { s.melo.pulsesLow with
    running := true, bo := false
    vals := s.melo.vals.filter (fun p => !meloResults p.1)
    legal := src.legal, res := src.res, acc := src.acc
    owed := if s.freeBit then s.melo.owed else List.replicate 5 0
    cyc := List.replicate 3 {}, cycN := 0, blk := List.replicate 3 {}, blkN := 0, blkNeutral := 0, blkCyc := 0, blkT := 0, cycFrac := 0, fixK := 0
    chans := List.replicate 15 {}, dc := List.replicate 4 {}, dcN := 0, hist := List.replicate 4 (List.replicate 64 0)
    act := 0, ovr := 0, seg := List.replicate 8 0, src := 3, good := 0
    copies := [src, src], cmd := none, rest := none, reply := none, vetoRun := 0, linkLost := false, pubCrc := 0 }
  (State.mset { s with melo := m } MELO.MSTAT 31 25
    (64 + (if s.melo.bo then 2 else 0) + (if c.valid then 0 else 1))).bumpFree

/-- A start closes each session that the brown-out interrupted, head and tail, with POWER_LOSS (R405, R416). -/
def State.closeLost (s : State) : State :=
  (List.range 4).foldl (fun s p =>
    match nth none s.melo.sess p with
    | some { closeAt := some (t, v), .. } => (s.closeHead p 3 t v s.melo.legal).signTail
    | _ => s) s

/-- MELOSKERN_START (R82, R394, R405): the metering state resumes and the start writes its records in the order of R405. -/
def execMeloskernStart (dt : Nat) (level : Bool) (s : State) : Out :=
  let s := s.elapse dt
  if s.melo.running then .next s
  else
    let kind := if !s.nw.alive then 2 else if s.melo.bo then 1 else 0
    let s1 := s.meterResume
    let roll := s1.mbit MELO.MSTAT 25
    let s2 := { s1 with melo := s1.melo.tails }
    let s3 := if roll then { s2 with melo := s2.melo.markRollback } else s2
    let s4 := s3.closeLost.event 0x01 (leBytes 1 kind)
    let s5 := if roll then s4.event 0x03 else s4
    let s6 := if s5.melo.commAbort then State.event { s5 with melo := { s5.melo with commAbort := false } } 0x12 [2] else s5
    let s7 := if s6.melo.sealOpen != level then
      State.event { s6 with melo := { s6.melo with sealOpen := level } } (if level then 0x10 else 0x11) else s6
    let s8 := (s7.nw.dark ++ s7.nw.queue).foldl (fun s e => s.nwRecord e) s7
    let s9 := State.nwCounts { s8 with nw := { s8.nw with dark := [], queue := [] } }
    .next (s9.newIvl (s9.nw.rtc / 65536) 8)

/-! ### Clock supervision (R395) -/

/-- The upper byte of MSTAT, as METRO_SUSPEND and METRO_RESUME carry it. -/
def State.mstatByte (s : State) : List Byte := leBytes 1 (s.mfld MELO.MSTAT 31 24)

/-- Metrology is suspended: outputs stay low and their queues wait (R390, R395). -/
def State.suspend (s : State) : State :=
  let s1 := (s.mset MELO.MSTAT 30 29 3)
  State.event { s1 with melo := { ((s1.melo.pulsesLow.markSess 1).markIvl 1) with good := 0 } } 0x30 (s1.mstatByte)

/-- Metrology resumes. -/
def State.resume (s : State) : State :=
  let s1 := s.mset MELO.MSTAT 30 29 0
  ((List.range 5).foldl (fun s n => s.pulseKick n) s1).event 0x31 s1.mstatByte

/-- CLOCK_RATIO_WINDOW (R395). -/
def execClockRatioWindow (dt ratio mOff nwOff : Nat) (s : State) : Out :=
  let s := s.elapse dt
  if !s.melo.running then .next s
  else
    let s1 := (s.mset MELO.MSTAT 28 28 (b2n (decide (50000 < mOff)))).mset MELO.MSTAT 27 27 (b2n (decide (50000 < nwOff)))
    if 2000 < ratio then
      if s1.suspended then .next { s1 with melo := { s1.melo with good := 0 } } else .next s1.suspend
    else if s1.suspended then
      if s1.melo.good = 2 then .next (State.resume { s1 with melo := { s1.melo with good := 0 } })
      else .next { s1 with melo := { s1.melo with good := s1.melo.good + 1 } }
    else .next s1

end Sys2Proof.Machine
end

