-- ==== Sys2Proof/Machine/Ledger.lean ====
section
/-!
DEFINITION. The ledger link and Meloskern's commands (R397-R404, R408-R425): the mailbox of the control die, the poll, the mirror,
sessions, export, time, commissioning, key and seal.
-/
namespace Sys2Proof.Machine

abbrev LEDGER.LW_IRQ : Nat := 0x40C0F0F8
abbrev LEDGER.DOOR : Nat := 0x40C0F0FC
abbrev LEDGER.RPL (w : Nat) : Nat := 0x40C0F100 + 4 * w
abbrev LEDGER.REFRESH : Nat := 0x40C00004

/-- The control die answers the ledger link: out of system reset, with CLK_FAB running (R399). -/
def State.answers (s : State) : Bool := s.rst.dawn != .held && s.domRun .fab

/-! ### The mirror (R389, R398, R423, R433) -/

/-- The staging entries as bytes, and their CRC-32C (R422). -/
def Melo.stageBytes (m : Melo) : List Byte := m.stage.flatMap (fun e => leBytes 4 e.1 ++ leBytes 4 e.2.toNat)
def Melo.stageCrc (m : Melo) : Nat := crc32c m.stageBytes

/-- LSTAT. -/
def State.lstat (s : State) : Nat :=
  b2n s.melo.sealOpen * 2 ^ 31 + b2n s.melo.comm * 2 ^ 30 + b2n s.nw.timeValid * 2 ^ 29 + b2n s.melo.key.isSome * 2 ^ 28 +
  b2n (decide (s.melo.usable < 1024)) * 2 ^ 27 +
  ((List.range 4).foldl (fun n p => n + b2n (nth none s.melo.sess p).isSome * 2 ^ p) 0) * 65536 + s.melo.sealcnt

/-- Words `0 … n-1` of a byte string. -/
def wordsOf (n : Nat) (bs : List Byte) : List Nat := (List.range n).map (fun i => leNat ((bs.drop (4 * i)).take 4))

/-- Consecutive words at an address. -/
def regPairs (a : Nat) (ws : List Nat) : List (Nat × Nat) := (List.range ws.length).map (fun i => (a + 4 * i, nth 0 ws i))

/-- The words of session port `p`. -/
def Session.words (x : Session) : List Nat :=
  [2 ^ 31 + x.quality * 65536, x.topen / 65536] ++ wordsOf 3 (le96 x.delStart) ++ wordsOf 3 (le96 x.recStart)

/-- NWSTAT's flags of the charge path and the loops. -/
def State.nwFlags (s : State) : Nat :=
  b2n s.nw.atLimit * 2 ^ 31 + b2n (s.nw.boost && !s.nw.atLimit) * 2 ^ 30 + b2n (s.melo.running && !s.nw.atLimit) * 2 ^ 29 +
  b2n ((nth {} s.nw.loops 1 : Loop).cond != 0) * 2 ^ 27 + b2n ((nth {} s.nw.loops 0 : Loop).cond != 0) * 2 ^ 26

/-- Every word a refresh carries beside Meloskern's own registers. -/
def State.mirrorWords (s : State) : List (Nat × Nat) :=
  let m := s.melo
  regPairs LEDGER.base [Config.romRev * 65536 + 1] ++
  regPairs 0x40C00008 [s.lstat, s.nw.rtc / 65536, s.nw.rtc % 65536, m.nextSeq, m.nextSeq - 65536, m.heldSeq, m.free,
    min m.dropI 65535 * 65536 + min m.dropE 65535] ++
  regPairs 0x40C00100 (wordsOf 4 meterId ++ [Config.romVer.toNat]) ++
  (match m.key with
   | none => []
   | some (x, y) => regPairs 0x40C00120 (wordsOf 8 (beBytes 32 x) ++ wordsOf 8 (beBytes 32 y))) ++
  (List.range 4).flatMap (fun p => match nth none m.sess p with
    | none => []
    | some x => regPairs (0x40C00200 + 0x20 * p) x.words) ++
  (List.range 32).flatMap (fun k => let l := nth 0 m.legal k
    regPairs (0x40C01400 + 8 * k) [l % 2 ^ 32, l / 2 ^ 48 % 65536 * 65536 + l / 2 ^ 32 % 65536]) ++
  regPairs MELO.NWSTAT [(s.mrd MELO.NWSTAT).toNat % 2 ^ 26 + s.mfld MELO.NWSTAT 28 28 * 2 ^ 28 + s.nwFlags] ++
  regPairs 0x40C0107C [(s.mrd 0x40C0107C ||| 0x80000000).toNat] ++
  regPairs 0x40C02100 [m.stage.length, m.stageCrc] ++ regPairs 0x40C02200 (wordsOf (2 * m.stage.length) m.stageBytes)

/-- A refresh (R398): the new copy replaces every read region but the record buffer and the reply; REFRESH increments. A mirror
write that the control die does not answer is lost. -/
def State.refresh (s : State) : State :=
  if s.answers then
    let cnt := s.rd LEDGER.REFRESH + 1
    let s1 := s.dropRegs LEDGER.base 0x40C02FFF
    let s2 := s.melo.vals.foldl (fun s p => s.wr p.1 p.2) s1
    let s3 := s.mirrorWords.foldl (fun s p => s.wr p.1 (Word.ofNat p.2)) s2
    let s4 := (s3.wr LEDGER.REFRESH cnt).setBit LEDGER.LW_IRQ 0 true
    { s4 with melo := { s4.melo with pubCrc := s.melo.stageCrc } }
  else s

/-! ### The mailbox (R400, R401, R403) -/

/-- The control die posts a status of its own with the latched opcode and SEQ; PEND clears (R401). -/
def State.postOwn (s : State) (status : Nat) : State :=
  let h := nth 0 s.ledger.latch 0
  let s1 := ((s.wr (LEDGER.RPL 0) (putBits h 31 24 status)).setBit LEDGER.DOOR 0 false).setBit LEDGER.LW_IRQ 1 true
  { s1 with ledger := { s1.ledger with taken := false } }

/-- A write of 1 to DOOR.PEND: the command is latched as it stands, or refused while one is pending (R400). -/
def doorPend (init : Nat) (s : State) : State :=
  if s.bit LEDGER.DOOR 0 then s.errorResp init LEDGER.DOOR .refused true
  else
    let l := (List.range 16).map (fun i => s.rd (0x40C0F000 + 4 * i))
    (State.setBit { s with ledger := { latch := l, taken := false } } LEDGER.DOOR 0 true).respond init LEDGER.DOOR 0

/-- A write to DOOR: CANCEL acts on the command that waits, then PEND (R400, R401). -/
def doorWrite (init : Nat) (cancel pend : Bool) (s : State) : State :=
  if cancel && s.bit LEDGER.DOOR 0 && s.ledger.taken then s.errorResp init LEDGER.DOOR .refused true
  else
    let s1 := if cancel && s.bit LEDGER.DOOR 0 then s.postOwn 0xFF else s
    if pend then doorPend init s1 else s1.respond init LEDGER.DOOR 0

/-- MAILBOX_DOORBELL (R400). -/
def execMailboxDoorbell (init : Nat) (s : State) : Out :=
  .next (s.writeAt .fab LEDGER.base init LEDGER.DOOR 1 (doorWrite init false true))

/-- MAILBOX_CANCEL (R401). -/
def execMailboxCancel (init : Nat) (pend : Bool) (s : State) : Out :=
  .next (s.writeAt .fab LEDGER.base init LEDGER.DOOR (Word.ofNat (2 + b2n pend)) (doorWrite init true pend))

/-- MIRROR_STALE (R401, R403): a command that pends is posted as LOST. -/
def execMirrorStale (s : State) : Out :=
  if s.answers then
    let s1 := s.setBit LEDGER.LW_IRQ 2 true
    .next (if s1.bit LEDGER.DOOR 0 then s1.postOwn 0xFE else s1)
  else .next s

/-- REPLY_POSTED (R400, R402): the reply and its records reach the buffer; PEND clears when it carries the latched SEQ. -/
def execReplyPosted (s : State) : Out :=
  match s.melo.reply with
  | none => .next s
  | some (ws, recs) =>
    let s0 := { s with melo := { s.melo with reply := none } }
    if s0.answers then
      let s1 := (regPairs (LEDGER.RPL 0) ((ws.map BitVec.toNat ++ List.replicate 64 0).take 64)).foldl
        (fun s p => s.wr p.1 (Word.ofNat p.2)) s0
      let s2 := (regPairs 0x40C03000 (wordsOf (32 * recs.length) recs.flatten)).foldl (fun s p => s.wr p.1 (Word.ofNat p.2)) s1
      let s3 := s2.setBit LEDGER.LW_IRQ 1 true
      if s3.bit LEDGER.DOOR 0 && bitsOf (nth 0 ws 0) 15 0 == bitsOf (nth 0 s3.ledger.latch 0) 15 0 then
        .next (State.setBit { s3 with ledger := { s3.ledger with taken := false } } LEDGER.DOOR 0 false)
      else .next s3
    else .next s0

/-! ### The poll (R33-R35, R399, R402, R416) -/

/-- What a valid poll does after its command: the VETO test, the return of the link, the mirror (R402, R416). -/
def State.pollRest (s : State) (veto : Bool) : State :=
  let m := { s.melo with vetoRun := if veto then s.melo.vetoRun + 1 else 0, linkLost := false, rest := none }
  let s1 := { s with melo := m }
  let s2 := if 10 ≤ m.vetoRun then s1.closeAll else s1
  (if s.melo.linkLost then s2.event 0x71 else s2).refresh

/-- The opcodes of R404. -/
def meloOps : List Nat := [0x01, 0x10, 0x11, 0x20, 0x21, 0x30, 0x40, 0x41, 0x42, 0x43, 0x44]

/-- The reply header of a command (R433). -/
def replyHdr (cmd : Word) (status : Nat) : Word := putBits cmd 31 24 status

/-- Take the latched command (R402, R404). Its version is tested before anything else: a command whose bits [31:24] are not 1, the one
version of LLHDR.VERSUP, is answered with status 0x02 VERSION (R147), then an unknown opcode with 0x01, both at once. -/
def State.takeCmd (s : State) (veto : Bool) : State :=
  let l := s.ledger.latch
  let h := nth 0 l 0
  let s1 := { s with ledger := { s.ledger with taken := true } }
  if bitsOf h 31 24 ≠ 1 then State.pollRest { s1 with melo := { s1.melo with reply := some ([replyHdr h 2], []) } } veto
  else if meloOps.contains (bitsOf h 23 16) then { s1 with melo := { s1.melo with cmd := some l, rest := some veto, cmdTime := s1.nw.rtc, cmdValid := s1.nw.timeValid, cmdLegal := s1.melo.legal } }
  else State.pollRest { s1 with melo := { s1.melo with reply := some ([replyHdr h 1], []) } } veto

/-! ### Commands (R404) -/

/-- What a command answers: the state, the status, reply words and records. -/
structure Answer where
  s : State
  status : Nat := 0
  words : List Nat := []
  recs : List (List Byte) := []

/-- A refused command changes nothing (R402). -/
def refuse (s : State) (status : Nat) : Answer := { s := s, status := status }

/-- Execute the taken command if its opcode is `opc`, keep its reply, then end its poll (R402). `f` gets the VETO bit of that poll. -/
def State.runAs (s : State) (opc : Nat) (f : List Word → Bool → State → Answer) : State :=
  match s.melo.running, s.melo.cmd with
  | true, some l =>
    if bitsOf (nth 0 l 0) 23 16 = opc then
      let a := f (l.drop 1) (s.melo.rest.getD s.rst.veto) s
      let s1 := { a.s with melo := { a.s.melo with
        cmd := none, reply := some (replyHdr (nth 0 l 0) a.status :: a.words.map Word.ofNat, a.recs) } }
      match s.melo.rest with
      | some v => s1.pollRest v
      | none => s1
    else s
  | _, _ => s

/-- Argument `a` of a command. -/
def argOf (args : List Word) (a : Nat) : Nat := (nth 0 args a).toNat

/-- NOP (R404). -/
def mbxNop (s : State) : Answer := { s := s }

/-- MBX_NOP (R404). -/
def execMbxNop (s : State) : Out := .next (s.runAs 0x01 (fun _ _ s => mbxNop s))

/-- SESSION_OPEN (R404, R407, R415). -/
def sessionOpen (args : List Word) (veto : Bool) (s : State) : Answer :=
  let p := argOf args 0
  let m := s.melo
  if 3 < p then refuse s 3
  else if s.mrd (MELO.INOM (p + 1)) = 0 then refuse s 3
  else if (nth none m.sess p).isSome || m.comm || m.key.isNone || !s.nw.timeValid then refuse s 4
  else if veto then refuse s 9
  else if m.usable < 1024 then refuse s 6
  else
    let del := nth 0 m.cmdLegal (24 + 2 * p)
    let rec' := nth 0 m.cmdLegal (25 + 2 * p)
    let id := (args.drop 1).take 6 |>.flatMap (fun w => leBytes 4 w.toNat)
    let x : Session := { id := id.take 16, cref := id.drop 16, topen := m.cmdTime, delStart := del, recStart := rec'
                         quality := b2n s.suspended + (if m.sealOpen then 8 else 0) }
    { s := { s with melo := { m with sess := upd m.sess p (fun _ => some x) } }
      words := wordsOf 3 (le96 del) ++ wordsOf 3 (le96 rec') ++ [m.cmdTime / 65536] }

/-- SESSION_OPEN (R415). -/
def execSessionOpen (s : State) : Out := .next (s.runAs 0x10 sessionOpen)

/-- SESSION_CLOSE (R404, R416). -/
def sessionClose (args : List Word) (s : State) : Answer :=
  let p := argOf args 0
  if 3 < p then refuse s 3
  else if (nth none s.melo.sess p).isNone then refuse s 4
  else
    let s1 := s.closeHead p 1 s.melo.cmdTime s.melo.cmdValid s.melo.cmdLegal
    { s := s1, words := [s1.melo.untailed.getLast?.getD 0] }

/-- SESSION_CLOSE (R416). -/
def execSessionClose (s : State) : Out := .next (s.runAs 0x11 (fun a _ s => sessionClose a s))

/-- The record with sequence number `seq`, when it is present (R405, R408). -/
def Melo.recordOf (m : Melo) (seq : Nat) : Option (List Byte) :=
  if m.nextSeq ≤ seq + 65536 ∧ seq < m.nextSeq then
    match Store.find m.recs (seq % 65536) with
    | some r => if leNat ((r.drop 4).take 4) = seq % 2 ^ 32 then some r else none
    | none => none
  else none

/-- READ (R408). -/
def ledgerRead (args : List Word) (s : State) : Answer :=
  let n := argOf args 1
  if n = 0 ∨ 16 < n then refuse s 3
  else
    let rs := (List.range n).map (fun i => s.melo.recordOf (argOf args 0 + i))
    { s := s, words := [(rs.filter Option.isSome).length], recs := rs.map (fun r => r.getD (List.replicate 128 0)) }

/-- LEDGER_READ (R408). -/
def execLedgerRead (s : State) : Out := .next (s.runAs 0x20 (fun a _ s => ledgerRead a s))

/-- EXPORT (R409). -/
def ledgerExport (args : List Word) (s : State) : Answer :=
  let first := argOf args 0
  let last := argOf args 1
  let r := s.melo.recordOf last
  if first ≠ s.melo.heldSeq ∨ last < first ∨ s.melo.nextSeq ≤ last then refuse s 3
  else if (r.getD []).head? = some 1 then refuse s 3
  else if (r.map (fun r => leNat (r.drop 0x7C))) ≠ some (argOf args 2) then refuse s 7
  else { s := { s with melo := { s.melo with heldSeq := last + 1 } }, words := [last + 1] }

/-- EXPORT (R409). -/
def execLedgerExport (s : State) : Out := .next (s.runAs 0x21 (fun a _ s => ledgerExport a s))

/-- The interval effects of an accepted TIME_SET to second `sec` (R425). -/
def State.timeSetIvl (s : State) (sec : Nat) : State :=
  let m := (s.melo.markSess 4).markIvl 4
  if !s.nw.timeValid then State.newIvl { s with melo := m } sec 12
  else if m.ivlEnd ≤ sec then State.closeIvl { s with melo := m } (sec / 900 * 900)
  else if sec < s.nw.rtc / 65536 then { s with melo := { m with ivlEnd := (sec / 900 + 1) * 900 } }
  else { s with melo := m }

/-- TIME_SET (R425). -/
def timeSet (args : List Word) (s : State) : Answer :=
  let new := argOf args 0 * 65536 + argOf args 1 % 65536
  let old := s.nw.rtc
  let gapT := if old ≤ new then new - old else old - new
  let recent := match s.melo.setAge with
    | some a => decide (a < 3600 * 65536)
    | none => false
  if s.nw.timeValid && !s.melo.comm && (decide (60 * 65536 < gapT) || recent) then refuse s 8
  else
    let s1 := s.timeSetIvl (new / 65536)
    let s2 := { s1 with nw := { s1.nw with rtc := new, timeValid := true }, melo := { s1.melo with setAge := some 0 } }
    { s := s2.event 0x20 (leBytes 4 (old / 65536) ++ leBytes 2 (old % 65536)) }

/-- TIME_SET (R425). -/
def execTimeSet (s : State) : Out := .next (s.runAs 0x30 (fun a _ s => timeSet a s))

/-! ### Commissioning (R420-R424) -/

/-- COMM_BEGIN (R404, R421). -/
def commBegin (s : State) : Answer :=
  if !s.melo.sealOpen then refuse s 5
  else if s.melo.comm || s.melo.sess.any Option.isSome then refuse s 4
  else { s := { s with melo := { s.melo with comm := true, stage := [] } } }

/-- COMM_BEGIN (R421). -/
def execCommBegin (s : State) : Out := .next (s.runAs 0x40 (fun _ _ s => commBegin s))

/-- `v` has no bit outside `m`. -/
def within (v m : Nat) : Bool := v ||| m == m

/-- The channel is a voltage channel or MTEMP: its gain is 1 (R370). -/
def gainFixed (c : Nat) : Bool := decide (c < 3 ∨ (7 ≤ c ∧ c < 11) ∨ c = 15)

/-- The limits of an RWS register of the measurement block at block offset `o`; false where no RWS register is (R374, R384,
R390, R396, R422). -/
def measOk (o v : Nat) : Bool :=
  if o % 4 ≠ 0 then false
  else if 0x040 ≤ o ∧ o < 0x080 then within v 0x80000007 && decide (v % 8 ≤ 5) && (v % 8 == 0 || !gainFixed ((o - 0x040) / 4))
  else if 0x080 ≤ o ∧ o < 0x0C0 then o != 0x0BC || v == 0
  else if 0x0C0 ≤ o ∧ o < 0x140 then within v 0xFFFFFF
  else if 0x140 ≤ o ∧ o < 0x190 then
    if o % 16 = 0 then true
    else if o = 0x144 then decide (1 ≤ v ∧ v ≤ 100)
    else o % 16 == 4 && decide (1 ≤ v % 65536 ∧ v % 65536 ≤ 10)
  else if 0x1A0 ≤ o ∧ o < 0x1B4 then
    within v 0xB301FFFF && decide (v / 2 ^ 28 % 4 ≠ 0) && decide (1000 ≤ v % 2 ^ 17 ∧ v % 2 ^ 17 ≤ 100000)
  else if o = 0x1C0 then decide (v ≤ 1)
  else if 0x200 ≤ o ∧ o < 0x400 then
    if o % 8 = 4 then true else within v 0xFFFFFF && (v == 0 || o % 0x40 != 0)
  else false

/-- The value may be staged for the register at window offset `o` (R422). -/
def rwsOk (o v : Nat) : Bool :=
  if o = 0x2040 then within v 0xF3000000 && decide (v / 2 ^ 30 ≠ 3)
  else if o = 0x2044 then decide (1 ≤ v ∧ v < 2 ^ 24)
  else if 0x1000 ≤ o ∧ o < 0x2000 then measOk (o - 0x1000) v
  else false

/-- COMM_WRITE (R422): a second write to an offset replaces its entry. -/
def commWrite (args : List Word) (s : State) : Answer :=
  let o := argOf args 0
  let v := nth 0 args 1
  let old := s.melo.stage.any (fun e => e.1 == o)
  if !s.melo.comm then refuse s 4
  else if !rwsOk o v.toNat || (!old && decide (64 ≤ s.melo.stage.length)) then refuse s 3
  else
    let st := if old then s.melo.stage.map (fun e => if e.1 = o then (o, v) else e) else s.melo.stage ++ [(o, v)]
    { s := { s with melo := { s.melo with stage := st } }, words := [st.length] }

/-- COMM_WRITE (R422). -/
def execCommWrite (s : State) : Out := .next (s.runAs 0x41 (fun a _ s => commWrite a s))

/-- BK_j of channel `m` as the staged set would leave it. -/
def State.stagedBk (s : State) (m j : Nat) : Nat :=
  match s.melo.stage.find? (fun e => e.1 == 0x1200 + 0x40 * m + 8 * j) with
  | some e => e.2.toNat
  | none => s.mfld (MELO.BK m j) 23 0

/-- The bounds of channel `m` are in order: each exceeds the one before, up to the first 0 (R374). -/
def State.orderOk (s : State) (m : Nat) : Bool :=
  ((List.range 7).foldl (fun (a : Nat × Bool × Bool) j =>
    let bk := s.stagedBk m (j + 1)
    if a.2.1 || bk == 0 then (a.1, true, a.2.2) else (bk, false, a.2.2 && decide (a.1 < bk))) (0, false, true)).2.2

/-- Apply one staged value; a PULSEn clears its accumulator and queue, and its ball is low while EN is 0 (R390, R423). -/
def State.applyStaged (s : State) (e : Nat × Word) : State :=
  let s1 := s.mwr (LEDGER.base + e.1) e.2
  if 0x11A0 ≤ e.1 ∧ e.1 < 0x11B4 then
    let n := (e.1 - 0x11A0) / 4
    { s1 with melo := { s1.melo with
      acc := upd s1.melo.acc n (fun _ => 0), owed := upd s1.melo.owed n (fun _ => 0)
      pulse := if tb e.2 31 then s1.melo.pulse else upd s1.melo.pulse n (fun _ => 0) } }
  else s1

/-- The PARAM_CHANGE records of a list of changes, eight entries each (R413, R423). -/
def State.paramRecords : Nat → List (Nat × Word × Word) → State → State
  | 0, _, s => s
  | fuel + 1, l, s =>
    if l.isEmpty then s
    else
      let c := l.take 8
      State.paramRecords fuel (l.drop 8) (s.event 0x13
        (leBytes 4 c.length ++ c.flatMap (fun e => leBytes 4 e.1 ++ leBytes 4 e.2.1.toNat ++ leBytes 4 e.2.2.toNat)))

/-- COMM_COMMIT (R423). -/
def commCommit (args : List Word) (s : State) : Answer :=
  let m := s.melo
  if !m.comm then refuse s 4
  else if argOf args 0 ≠ m.pubCrc then refuse s 7
  else if m.sealcnt = 65535 then refuse s 4
  else if !(List.range 8).all s.orderOk then refuse s 3
  else
    let ch := (m.stage.map (fun e => (e.1, s.mrd (LEDGER.base + e.1), e.2))).filter (fun e => e.2.1 != e.2.2)
    let s1 := m.stage.foldl State.applyStaged s
    let s2 := { s1 with melo := { s1.melo with
      comm := false, stage := [], sealcnt := if ch.isEmpty then m.sealcnt else m.sealcnt + 1 } }
    { s := State.paramRecords 8 ch s2, words := [s2.melo.sealcnt] }

/-- COMM_COMMIT (R423). -/
def execCommCommit (s : State) : Out := .next (s.runAs 0x42 (fun a _ s => commCommit a s))

/-- End commissioning with nothing applied; COMM_ABORT records the cause (R424). -/
def State.commEnd (s : State) (cause : Nat) : State :=
  State.event { s with melo := { s.melo with comm := false, stage := [] } } 0x12 (leBytes 1 cause)

/-- COMM_ABORT (R404, R424). -/
def commAbort (s : State) : Answer := if s.melo.comm then { s := s.commEnd 0 } else refuse s 4

/-- COMM_ABORT (R424). -/
def execCommAbort (s : State) : Out := .next (s.runAs 0x43 (fun _ _ s => commAbort s))

/-- KEYGEN (R418). -/
def keyGen (s : State) : Answer :=
  if !s.melo.comm || s.melo.key.isSome then refuse s 4
  else { s := State.event { s with melo := { s.melo with key := some (publicKey (scalarOf (Config.privateKey 0))) } } 0x14 }

/-- KEYGEN (R418). -/
def execKeygen (s : State) : Out := .next (s.runAs 0x44 (fun _ _ s => keyGen s))

/-! ### Polls (R33-R35, R399, R402, R416) -/

/-- A command that is taken and not yet executed is executed now: whatever Meloskern does after its poll comes behind it and behind
that poll's tests (R402). -/
def State.runTaken (s : State) : State :=
  ((((((((((s.runAs 0x01 (fun _ _ s => mbxNop s)).runAs 0x10 sessionOpen).runAs 0x11 (fun a _ s => sessionClose a s)).runAs 0x20
    (fun a _ s => ledgerRead a s)).runAs 0x21 (fun a _ s => ledgerExport a s)).runAs 0x30 (fun a _ s => timeSet a s)).runAs 0x40
    (fun _ _ s => commBegin s)).runAs 0x41 (fun a _ s => commWrite a s)).runAs 0x42 (fun a _ s => commCommit a s)).runAs 0x43
    (fun _ _ s => commAbort s)).runAs 0x44 (fun _ _ s => keyGen s)

/-- LEDGER_POLL (R33, R399, R402). A taken command is executed by its own command of the table, at the latest before the next poll; the
tests of the poll that took it follow it. -/
def execLedgerPoll (dt : Nat) (s : State) : Out :=
  let s := s.elapse dt
  .next (if !s.melo.running then s
  else
    let s1 := s.runTaken
    if !s1.answers then { s1 with melo := { s1.melo with vetoRun := 0 } }
    else if s1.bit LEDGER.DOOR 0 && !s1.ledger.taken && s1.melo.cmd.isNone && s1.melo.reply.isNone then s1.takeCmd s1.rst.veto
    else s1.pollRest s1.rst.veto)

/-- POLL_TIMEOUT (R34, R399, R416). -/
def execPollTimeout (dt : Nat) (s : State) : Out :=
  let s1 := (s.elapse dt).runTaken
  .next { s1 with melo := { s1.melo with vetoRun := 0 } }

/-- CONTROL_DIE_LOSS (R35, R416). -/
def execControlDieLoss (dt : Nat) (s : State) : Out :=
  let s := s.elapse dt
  .next (if s.melo.running && !s.melo.linkLost then
    let s1 := s.runTaken.closeAll
    State.event { s1 with melo := { s1.melo with linkLost := true, vetoRun := 0 } } 0x70
  else s)

/-- SESSION_TAIL_SIGN (R417). -/
def execSessionTailSign (s : State) : Out := if s.melo.running then .next s.signTail else .next s

/-- INTERVAL_BOUNDARY (R414): the RTC has reached the running interval's end. -/
def execIntervalBoundary (dt : Nat) (s : State) : Out :=
  let s := s.elapse dt
  if s.melo.running && decide (s.melo.ivlEnd ≤ s.nw.rtc / 65536) then .next (s.closeIvl (s.nw.rtc / 65536 / 900 * 900))
  else .next s

/-- SEAL_CHANGE (R420, R424): a level that differs from the one taken is recorded; closing ends commissioning. -/
def execSealChange (dt : Nat) (level : Bool) (s : State) : Out :=
  let s := s.elapse dt
  if s.melo.running && s.melo.sealOpen != level then
    let s1 := State.event { s with melo := { s.melo with sealOpen := level } } (if level then 0x10 else 0x11)
    if level then .next { s1 with melo := s1.melo.markSess 8 }
    else .next (if s1.melo.comm then s1.commEnd 1 else s1)
  else .next s

end Sys2Proof.Machine
end

