-- ==== Sys2Proof/Machine/LineCode.lean ====
section
/-!
DEFINITION. The line code of an Oxernal lane (R488): the 8b/10b code of IEEE 802.3 clause 36, frames as symbols, and a received frame
back to bytes. The two code tables are those of the standard that R488 names (PRESUMED: notes/assumptions/97.md). A symbol is its
ten bits a b c d e i f g h j, bit a, which is sent first, on top.
-/
namespace Sys2Proof.Machine

/-- A 10-bit symbol of the line code. -/
abbrev Symbol := BitVec 10

/-- The 5b/6b codes abcdei of EDCBA = 0 to 31 at negative running disparity. -/
def code6 : List Nat :=
  [0b100111, 0b011101, 0b101101, 0b110001, 0b110101, 0b101001, 0b011001, 0b111000] ++
  [0b111001, 0b100101, 0b010101, 0b110100, 0b001101, 0b101100, 0b011100, 0b010111] ++
  [0b011011, 0b100011, 0b010011, 0b110010, 0b001011, 0b101010, 0b011010, 0b111010] ++
  [0b110011, 0b100110, 0b010110, 0b110110, 0b001110, 0b101110, 0b011110, 0b101011]

/-- The 3b/4b codes fghj of HGF = 0 to 7 at negative running disparity; the last is the primary code of 7. -/
def code4 : List Nat := [0b1011, 0b1001, 0b0101, 0b1100, 0b1101, 0b1010, 0b0110, 0b1110]

/-- How many of the low `k` bits of `c` are 1. -/
def onesIn (k c : Nat) : Nat := ((List.range k).filter c.testBit).length

/-- The code of a sub-block of `k` bits at running disparity `pos` (true: positive): a code with unequal ones and zeros, and the
balanced code of D.07 or D.x.3, has a complement for the positive disparity. -/
def atDisparity (k c : Nat) (pos : Bool) : Nat :=
  if pos ∧ (2 * onesIn k c ≠ k ∨ c = 0b111000 ∨ c = 0b1100) then 2 ^ k - 1 - c else c

/-- The running disparity after a sub-block: it changes where the code is not balanced. -/
def disparityAfter (k c : Nat) (pos : Bool) : Bool := if 2 * onesIn k c = k then pos else decide (k < 2 * onesIn k c)

/-- The alternate code of D.x.7, which keeps runs short, is due after these EDCBA. -/
def altSeven (x : Nat) (pos : Bool) : Bool := if pos then x == 11 || x == 13 || x == 14 else x == 17 || x == 18 || x == 20

/-- The 4-bit part of the data symbol D.x.y at the running disparity after its 6-bit part. -/
def dataCode4 (x y : Nat) (pos : Bool) : Nat :=
  atDisparity 4 (if y = 7 ∧ altSeven x pos then 0b0111 else code4.getD y 0) pos

/-- A symbol from its two sub-blocks. -/
def symbolOf (c6 c4 : Nat) : Symbol := BitVec.ofNat 10 (c6 * 16 + c4)

/-- The data symbol of a byte at running disparity `pos`, and the running disparity after it. -/
def encodeByte (pos : Bool) (b : Byte) : Symbol × Bool :=
  let x := b.toNat % 32
  let c6 := atDisparity 6 (code6.getD x 0) pos
  let mid := disparityAfter 6 c6 pos
  let c4 := dataCode4 x (b.toNat / 32) mid
  (symbolOf c6 c4, disparityAfter 4 c4 mid)

/-- A special symbol, given at negative running disparity; at positive it is the complement. -/
def special (c : Symbol) (pos : Bool) : Symbol := if pos then ~~~c else c

/-- K28.5, /S/ = K27.7 and /T/ = K29.7 at negative running disparity. -/
def symK : Symbol := 0b0011111010
def symS : Symbol := 0b1101101000
def symT : Symbol := 0b1011101000

/-- The running disparity after a symbol. -/
def symbolAfter (c : Symbol) (pos : Bool) : Bool :=
  disparityAfter 4 (c.toNat % 16) (disparityAfter 6 (c.toNat / 16) pos)

/-- An idle pair K28.5, D16.2 (R488): it leaves the running disparity as it was. -/
def idlePair (pos : Bool) : List Symbol := [special symK pos, (encodeByte (symbolAfter (special symK pos) pos) 0x50).1]

/-- The data symbols of bytes, and the running disparity after them. -/
def encodeBytes : Bool → List Byte → List Symbol × Bool
  | pos, [] => ([], pos)
  | pos, b :: bs =>
    let (c, p) := encodeByte pos b
    let (cs, q) := encodeBytes p bs
    (c :: cs, q)

/-- A frame's symbols, /S/ to /T/, and the running disparity after it (R488). -/
def frameSymbols (pos : Bool) (bs : List Byte) : List Symbol × Bool :=
  let s := special symS pos
  let (ds, p) := encodeBytes (symbolAfter s pos) bs
  let t := special symT p
  ((s :: ds) ++ [t], symbolAfter t p)

/-- The symbols of one slot (R488, R491): the frame from the first symbol on, idle pairs up to 50; and the disparity after it. -/
def slotSymbols (pos : Bool) (bs : List Byte) : List Symbol × Bool :=
  let (fs, p) := frameSymbols pos bs
  (fs ++ (List.replicate ((50 - fs.length) / 2) (idlePair p)).flatten, p)

/-! ### Reception -/

/-- Where a value stands in a list. -/
def indexOf? : List Nat → Nat → Option Nat
  | [], _ => none
  | a :: as, v => if a = v then some 0 else (indexOf? as v).map (· + 1)

/-- The byte of a data symbol received at running disparity `pos`: none for a code violation or a disparity error. -/
def decodeByte (pos : Bool) (c : Symbol) : Option Byte :=
  let c6 := c.toNat / 16
  let c4 := c.toNat % 16
  let mid := disparityAfter 6 c6 pos
  match indexOf? (code6.map (fun k => atDisparity 6 k pos)) c6 with
  | none => none
  | some x => (indexOf? ((List.range 8).map (fun y => dataCode4 x y mid)) c4).map (fun y => BitVec.ofNat 8 (32 * y + x))

/-- The bytes up to the end symbol /T/: none for a code violation or a disparity error before it, or with no /T/ at the end. -/
def decodeBytes : Bool → List Symbol → Option (List Byte)
  | _, [] => none
  | pos, [t] => if t = special symT pos then some [] else none
  | pos, c :: cs =>
    match decodeByte pos c with
    | none => none
    | some b => (decodeBytes (symbolAfter c pos) cs).map (b :: ·)

/-- The bytes of a received frame (R488, R489): it begins with /S/, whose form gives the running disparity there. -/
def decodeFrame : List Symbol → Option (List Byte)
  | [] => none
  | c :: cs =>
    if c = special symS false then decodeBytes (symbolAfter c false) cs
    else if c = special symS true then decodeBytes (symbolAfter c true) cs
    else none

/-- What a receiver reads from an open or shorted pair (R52): constant 0, which is no symbol of the code. -/
def openPairSymbol : Symbol := 0

end Sys2Proof.Machine
end

