-- ==== Sys2Proof/Machine/Oxernal.lean ====
section
/-!
DEFINITION. The Oxernal lanes (chapter 19): training, frames, satellite commands, reports and their loss.
-/
namespace Sys2Proof.Machine

abbrev OX.STAT (n : Nat) : Nat := OX.base n + 0x10
abbrev OX.CFG (n : Nat) : Nat := OX.base n + 0x40
abbrev OX.LINKSTAT (n : Nat) : Nat := OX.base n + 0x44
abbrev OX.SATID (n : Nat) : Nat := OX.base n + 0x48
abbrev OX.SATREV (n : Nat) : Nat := OX.base n + 0x4C
abbrev OX.TEMP (n : Nat) : Nat := OX.base n + 0x50
abbrev OX.ERRCNT (n : Nat) : Nat := OX.base n + 0x54
abbrev OX.LINKCNT (n : Nat) : Nat := OX.base n + 0x58
abbrev OX.DRVSTAT (n i : Nat) : Nat := OX.base n + 0x60 + 4 * i
abbrev OX.SACMD (n : Nat) : Nat := OX.base n + 0x80
abbrev OX.SADATA (n : Nat) : Nat := OX.base n + 0x84
abbrev OX.SARESP (n : Nat) : Nat := OX.base n + 0x88
abbrev OX.STREAMVAL (n : Nat) : Nat := OX.base n + 0x8C

/-- Lane `n`. -/
def State.lane (s : State) (n : Nat) : OxLane := nth {} s.ox n

/-- Change lane `n`. -/
def State.updLane (s : State) (n : Nat) (f : OxLane → OxLane) : State := { s with ox := upd s.ox n f }

/-- STAT.STATE of lane `n` (R497): 0 OFF, 1 ALIGN, 2 OFFER, 3 SELECT, 4 RUN, 5 LOST, 6 FAIL. -/
def State.oxState (s : State) (n : Nat) : Nat := s.fld (OX.STAT n) 10 8

/-- The lane enters a state; LINKSTAT.VER shows the running version in RUN only. ALIGN, RUN and LOST start their count of time. -/
def State.oxEnter (s : State) (n st : Nat) : State :=
  ((s.setFld (OX.STAT n) 10 8 st).setFld (OX.LINKSTAT n) 25 24 (if st = 4 then (s.lane n).sel else 0)).updLane n
    (fun x => if st = 1 ∨ st = 4 ∨ st = 5 then { x with timer := s.now } else x)

/-- The transmitter starts: idle pairs, with the running disparity negative (R488). -/
def State.oxStart (s : State) (n : Nat) : State := (s.oxEnter n 1).updLane n (fun x => { x with disparity := false })

/-- A time of `u` units of 2 µs, in units of 62.5 ps. -/
def oxTime (u : Nat) : Nat := u * 32000

/-- The six half-bridges of lane `n` have no reports (R237, R503). -/
def State.oxUvLoss (s : State) (n : Nat) : State := (List.range 6).foldl (fun t i => t.uvLoss (6 * n + i)) s

/-- The lane declares loss of reports and goes to `st` (R501, R503). -/
def State.oxLoss (s : State) (n st : Nat) : State :=
  ((((s.oxEnter n st).count (OX.LINKCNT n) 31 16 1).setBit (OX.STAT n) 2 true).irq (OX.base n) 2).oxUvLoss n

/-- The lane leaves its state for `st`: from RUN that is a loss (R501). -/
def State.oxLeave (s : State) (n st : Nat) : State := if s.oxState n = 4 then s.oxLoss n st else s.oxEnter n st

/-! ### Control (R497) -/

/-- A write to CTRL, SOFT_RST aside: EN and RETRAIN (R497, R501). In LOST without AUTORETRAIN, RETRAIN starts ALIGN. -/
def oxCtrlWrite (init n : Nat) (data : Word) (s : State) : State :=
  let st := s.oxState n
  let s1 := s.setBit (OX.base n + 0x0C) 0 (tb data 0)
  let s2 :=
    if !tb data 0 then s1.oxLeave n 0
    else if st = 0 then s1.oxStart n
    else if tb data 2 ∧ st ≠ 6 then
      (if st = 5 ∧ !s.bit (OX.CFG n) 31 then s1.oxEnter n 1 else s1.oxLeave n 5)
    else s1
  s2.respond init (OX.base n + 0x0C) 0

/-- OX_LANE_ENABLE (R497). -/
def execOxLaneEnable (init n : Nat) (s : State) : Out :=
  .next (s.writeAt .ox (OX.base (n % 8)) init (OX.base (n % 8) + 0x0C) 1 (oxCtrlWrite init (n % 8) 1))

/-- OX_LANE_DISABLE (R497, R501). -/
def execOxLaneDisable (init n : Nat) (s : State) : Out :=
  .next (s.writeAt .ox (OX.base (n % 8)) init (OX.base (n % 8) + 0x0C) 0 (oxCtrlWrite init (n % 8) 0))

/-- OX_RETRAIN (R497, R501). -/
def execOxRetrain (init n : Nat) (s : State) : Out :=
  .next (s.writeAt .ox (OX.base (n % 8)) init (OX.base (n % 8) + 0x0C) 5 (oxCtrlWrite init (n % 8) 5))

/-- The versions the lane offers (R499): in version 1 of its page only 1.0. -/
def State.oxOffer (s : State) (n : Nat) : Nat := if s.ver (OX.base n) = 1 then 1 else s.fld (OX.CFG n) 25 24

/-- A write to CFG: refused while the lane is enabled, and with VOFFER 0. -/
def oxCfgWrite (init n : Nat) (data : Word) (s : State) : State :=
  let v := if s.ver (OX.base n) = 1 then bitsOf data 24 24 else bitsOf data 25 24
  if s.en (OX.base n) ∨ v = 0 then s.errorResp init (OX.CFG n) .refused true else s.plainWrite init (OX.CFG n) data

/-! ### Frames -/

/-- A frame's bytes with its check value (R489). -/
def withCrc16 (bs : List Byte) : List Byte := bs ++ [BitVec.ofNat 8 (crc16 bs / 256), BitVec.ofNat 8 (crc16 bs)]

/-- The check value of a frame is correct (R489). -/
def crc16Ok (bs : List Byte) : Bool :=
  decide (2 ≤ bs.length) && decide (withCrc16 (bs.take (bs.length - 2)) = bs)

/-- The big-endian 16-bit field of a frame at byte `i` (R489). -/
def be16 (bs : List Byte) (i : Nat) : Nat := (bs.getD i 0).toNat * 256 + (bs.getD (i + 1) 0).toNat

/-- Byte `i` of a frame. -/
def byteAt (bs : List Byte) (i : Nat) : Nat := (bs.getD i 0).toNat

/-- The lane's receiver works on frames: from OFFER to RUN, while CLK_OX runs. -/
def State.oxListens (s : State) (n : Nat) : Bool :=
  decide (n < 8) && s.domRun .ox && decide (2 ≤ s.oxState n) && decide (s.oxState n ≤ 4)

/-- A frame is refused (R489, R500): CRC_ERR, and a run of identical OFFERs ends. -/
def State.oxRefuse (s : State) (n : Nat) : State :=
  (((s.count (OX.ERRCNT n) 31 16 1).setBit (OX.STAT n) 0 true).irq (OX.base n) 0).updLane n (fun x => { x with same := 0 })

/-- The frame the KL960 sends in a slot (R491, R495, R498). -/
def State.oxFrame (s : State) (n : Nat) : List Byte :=
  let x := s.lane n
  match s.oxState n with
  | 2 => withCrc16 ([0x81, s.oxOffer n, 0, 0, 0, 0, 0, 0].map (BitVec.ofNat 8))
  | 3 => withCrc16 ([0x82, x.sel].map (BitVec.ofNat 8))
  | _ =>
    let (c, a, d) := x.cmd.getD (0, 0, 0)
    withCrc16 ([0x90, x.txSeq, s.fld (OX.LINKSTAT n) 15 8, c, if x.cmd.isSome then x.tag else 0, a, d / 256, d].map (BitVec.ofNat 8))

/-- A slot in which the lane sends `frame`: its symbols and idle pairs, the running disparity going on (R488, R491). -/
def OxLane.send (x : OxLane) (frame : List Byte) (run : Bool) : OxLane :=
  let (cs, p) := slotSymbols x.disparity frame
  { x with
    tx := frame, symbols := cs, disparity := p, slots := x.slots + 1
    txSeq := if run then (x.txSeq + 1) % 256 else x.txSeq }

/-- OX_SLOT (R491): a slot starts and the lane sends its frame. -/
def execOxSlot (n : Nat) (s : State) : Out :=
  .next (if s.oxListens n then s.updLane n (fun x => x.send (s.oxFrame n) (s.oxState n == 4)) else s)

/-- What the transmitter of lane `n` sends (R486, R488, R497): nothing while it is off, the slot's symbols from OFFER to RUN, idle pairs
in every other state. -/
def State.oxLine (s : State) (n : Nat) : List Symbol :=
  if !s.en (OX.base n) then []
  else if 2 ≤ s.oxState n ∧ s.oxState n ≤ 4 then (s.lane n).symbols
  else idlePair (s.lane n).disparity

/-- OX_ALIGN_DONE (R497). -/
def execOxAlignDone (n : Nat) (s : State) : Out :=
  .next (if n < 8 ∧ s.domRun .ox ∧ s.oxState n = 1 then (s.oxEnter n 2).updLane n (fun x => { x with offer := [], same := 0 }) else s)

/-! ### Training (R497-R499) -/

/-- The lane selects a version from the satellite's repeated OFFER, or fails (R499). -/
def State.oxSelect (s : State) (n vers : Nat) : State :=
  let common := s.oxOffer n &&& vers % 4
  if common = 0 then (((s.oxEnter n 6).setBit (OX.STAT n) 3 true).irq (OX.base n) 3).oxUvLoss n
  else (s.updLane n (fun x => { x with sel := if common.testBit 1 then 2 else 1 })).oxEnter n 3

/-- The bytes of a received frame that R489 accepts as TYPE `typ`, `len` bytes long: no code violation or disparity error, the
type, its length and the check value. -/
def acceptFrame (typ len : Nat) (frame : List Symbol) : Option (List Byte) :=
  (decodeFrame frame).filter (fun bs => byteAt bs 0 == typ && bs.length == len && crc16Ok bs)

/-- A valid satellite OFFER in state OFFER (R497, R499): the lane page shows it, and the third identical one selects a version. -/
def State.oxOffered (s : State) (n : Nat) (bytes : List Byte) : State :=
  let x := s.lane n
  let k := if x.offer = bytes ∧ 0 < x.same then x.same + 1 else 1
  let s1 := (s.setFld (OX.LINKSTAT n) 17 16 (byteAt bytes 1)).wr (OX.SATID n) (Word.ofNat (be16 bytes 2 * 65536 + be16 bytes 4))
  let s2 := (s1.wr (OX.SATREV n) (Word.ofNat (be16 bytes 6))).updLane n (fun y => { y with offer := bytes, same := k })
  if k = 3 then s2.oxSelect n (byteAt bytes 1) else s2

/-- OFFER_RECEIVE (R489, R497, R499): the symbols of a received frame, /S/ to /T/. -/
def execOfferReceive (n : Nat) (frame : List Symbol) (s : State) : Out :=
  .next (if !s.oxListens n then s
    else match acceptFrame 0x01 10 frame with
      | none => s.oxRefuse n
      | some bytes =>
        if s.oxState n = 4 then s.oxRefuse n else if s.oxState n = 3 then s else s.oxOffered n bytes)

/-- The lane enters RUN (R497, R503): its half-bridges wait for their first reports. -/
def State.oxUp (s : State) (n : Nat) : State :=
  (((s.oxEnter n 4).irq (OX.base n) 1).updLane n (fun x => { x with rxSeq := none, errs := [] })).oxUvLoss n

/-- SELECT_ACK_RECEIVE (R497): the acknowledgement of the selected version enters RUN. -/
def execSelectAckReceive (n : Nat) (frame : List Symbol) (at_ : Nat) (s : State) : Out :=
  .next (if !s.oxListens n then s
    else match acceptFrame 0x02 4 frame with
      | none => s.oxRefuse n
      | some bytes =>
        if s.oxState n = 4 then s.oxRefuse n
        else if s.oxState n = 3 ∧ byteAt bytes 1 = (s.lane n).sel then (s.atTime at_).oxUp n
        else s)

/-- TRAINTMO × 10 µs have passed since the last entry into ALIGN; 0 is taken as 1 (R497). -/
def State.oxTrainOver (s : State) (n at_ : Nat) : Bool :=
  decide ((s.lane n).timer + oxTime (5 * max (s.fld (OX.CFG n) 7 0) 1) ≤ at_)

/-- RETRY × 10 µs have passed in LOST; values below 2 are taken as 2 (R497). -/
def State.oxRetryDue (s : State) (n at_ : Nat) : Bool :=
  decide ((s.lane n).timer + oxTime (5 * max (s.fld (OX.CFG n) 15 8) 2) ≤ at_)

/-- No valid report for LOSSTMO × 2 µs; values below 2 are taken as 2 (R501). -/
def State.oxReportOver (s : State) (n at_ : Nat) : Bool :=
  decide ((s.lane n).timer + oxTime (max (s.fld (OX.CFG n) 23 16) 2) ≤ at_)

/-- TRAIN_TIMEOUT (R497): the count ends outside RUN. It runs on CLK_OX. -/
def execTrainTimeout (n at_ : Nat) (s : State) : Out :=
  .next (s.clocked .ox (fun s =>
    if n < 8 ∧ 1 ≤ s.oxState n ∧ s.oxState n ≤ 3 ∧ s.oxTrainOver n at_ then
      (((s.atTime at_).oxEnter n 5).setBit (OX.STAT n) 4 true).irq (OX.base n) 4
    else s))

/-- OX_RETRY (R497): LOST ends by itself with AUTORETRAIN. Its count runs on CLK_OX. -/
def execOxRetry (n at_ : Nat) (s : State) : Out :=
  .next (s.clocked .ox (fun s =>
    if n < 8 ∧ s.oxState n = 5 ∧ s.bit (OX.CFG n) 31 ∧ s.oxRetryDue n at_ then (s.atTime at_).oxEnter n 1 else s))

/-! ### Reports (R492-R503) -/

/-- A supply word as the lane takes it: 0 V without VALID (R493). -/
def supplyOf (w : Nat) : Nat := if w.testBit 15 then w % 1024 else 0

/-- DRV_i of a valid report (R492): the status register, its sticky bits, and DRVFLAG when a bit rises. -/
def State.oxDrv (s : State) (n i d : Nat) : State :=
  let a := OX.DRVSTAT n i
  let rose := d &&& (255 - s.fld a 7 0)
  let s1 := s.wr a (Word.ofNat ((s.fld a 15 8 ||| d) * 256 + d))
  if rose ≠ 0 then s1.irq (OX.base n) 6 else s1

/-- The reply of a valid report completes the outstanding command (R495). -/
def State.oxReply (s : State) (n : Nat) (bytes : List Byte) : State :=
  if (byteAt bytes 2).testBit 3 ∧ (s.lane n).cmd.isSome ∧ byteAt bytes 4 = (s.lane n).tag then
    ((((s.wr (OX.SARESP n) (Word.ofNat (2 ^ 31 + byteAt bytes 5 * 65536 + be16 bytes 6))).setBit (OX.SACMD n) 30 false).irq
      (OX.base n) 5).updLane n (fun x => { x with cmd := none }))
  else s

/-- A valid report is taken (R500, R503): page registers, reply, and the supply words to the gate units. -/
def State.oxReport (s : State) (n : Nat) (bytes : List Byte) : State :=
  let seq := byteAt bytes 1
  let gap := (seq + 255 - (s.lane n).rxSeq.getD 255) % 256
  let s1 := ((s.setFld (OX.LINKSTAT n) 15 8 seq).wr (OX.TEMP n) (Word.ofNat (be16 bytes 38))).count (OX.LINKCNT n) 15 0 gap
  let s2 := if (s.lane n).sel = 2 then s1.wr (OX.STREAMVAL n) (Word.ofNat (be16 bytes 40 * 65536 + be16 bytes 42)) else s1
  let s3 := (List.range 6).foldl (fun t i => t.oxDrv n i (byteAt bytes (32 + i))) s2
  let s4 := (s3.oxReply n bytes).updLane n (fun x => { x with rxSeq := some seq, satstat := byteAt bytes 2, timer := s.now })
  s4.clocked .pwm (fun t => (List.range 6).foldl (fun t i =>
    t.uvReport (6 * n + i) (supplyOf (be16 bytes (8 + 4 * i))) (supplyOf (be16 bytes (10 + 4 * i)))) t)

/-- The REPORT that R489 and R500 accept in RUN: of the TYPE and length of the selected version. -/
def State.oxAccepts (s : State) (n : Nat) (frame : List Symbol) : Option (List Byte) :=
  if (s.lane n).sel = 2 then acceptFrame 0x20 46 frame else acceptFrame 0x10 42 frame

/-- REPORT_RECEIVE (R489, R500, R503): refused, discarded as a repeat, or taken. The gate units take the words while CLK_PWM runs
(R128, R132). -/
def execReportReceive (n : Nat) (frame : List Symbol) (at_ : Nat) (s : State) : Out :=
  .next (if !s.oxListens n then s
    else match s.oxAccepts n frame with
      | none => s.oxRefuse n
      | some bytes =>
        if s.oxState n ≠ 4 then s.oxRefuse n
        else if (s.lane n).rxSeq = some (byteAt bytes 1) then s
        else (s.atTime at_).oxReport n bytes)

/-- OX_CODE_ERROR (R501): counted; the fourth within 64 symbols in RUN is a loss. -/
def execOxCodeError (n symbol : Nat) (s : State) : Out :=
  .next (if n < 8 ∧ s.domRun .ox ∧ s.oxState n ≠ 0 then
      let s1 := ((s.count (OX.ERRCNT n) 15 0 1).setBit (OX.STAT n) 1 true).irq (OX.base n) 0
      if s.oxState n = 4 then
        let errs := (s.lane n).errs.filter (fun e => symbol < e + 64) ++ [symbol]
        let s2 := s1.updLane n (fun x => { x with errs := errs })
        if 4 ≤ errs.length then s2.oxLoss n 5 else s2
      else s1
    else s)

/-- REPORT_LOSS (R501): the report timer ends in RUN. It counts on CLK_PWM, so CLK_OX may be stopped. -/
def execReportLoss (n at_ : Nat) (s : State) : Out :=
  .next (s.clocked .pwm (fun s =>
    if n < 8 ∧ s.oxState n = 4 ∧ s.oxReportOver n at_ then (s.atTime at_).oxLoss n 5 else s))

/-! ### Satellite commands (R494, R495) -/

/-- A TAG other than the last one; which one is left open. -/
def newTag (old : Nat) (w : Word) : Nat := if old = 0 then w.toNat % 255 + 1 else (old + w.toNat % 254) % 255 + 1

/-- A write to SACMD (R495): CMD values other than 1-4 (in version 1 other than 1 and 2) are refused, and so is a GO while a
command is outstanding, outside RUN, or with CMD 3 or 4 at link version 1.0. -/
def sacmdWrite (init n : Nat) (data : Word) (s : State) : State :=
  let c := bitsOf data 26 24
  let top := if s.ver (OX.base n) = 1 then 2 else 4
  if c = 0 ∨ top < c then s.errorResp init (OX.SACMD n) .refused true
  else if !tb data 31 then s.plainWrite init (OX.SACMD n) data
  else if s.bit (OX.SACMD n) 30 ∨ s.oxState n ≠ 4 ∨ (3 ≤ c ∧ (s.lane n).sel ≠ 2) then s.errorResp init (OX.SACMD n) .refused true
  else
    let s1 := (s.plainWrite init (OX.SACMD n) data).setBit (OX.SACMD n) 30 true
    let s2 := (s1.setFld (OX.SARESP n) 31 30 0).bumpFree
    s2.updLane n (fun x => { x with
      slots := 0, tag := newTag x.tag s.freeWord, cmd := some (c, bitsOf data 7 0, if c = 2 then s.fld (OX.SADATA n) 15 0 else 0) })

/-- The word of SACMD with GO. -/
def sacmdWord (c reg : Nat) : Word := Word.ofNat (2 ^ 31 + c * 2 ^ 24 + reg % 256)

/-- SAT_READ (R495). -/
def execSatRead (init n reg : Nat) (s : State) : Out :=
  .next (s.writeAt .ox (OX.base (n % 8)) init (OX.SACMD (n % 8)) (sacmdWord 1 reg) (sacmdWrite init (n % 8) (sacmdWord 1 reg)))

/-- SAT_WRITE (R495): SADATA holds the data. -/
def execSatWrite (init n reg : Nat) (s : State) : Out :=
  .next (s.writeAt .ox (OX.base (n % 8)) init (OX.SACMD (n % 8)) (sacmdWord 2 reg) (sacmdWrite init (n % 8) (sacmdWord 2 reg)))

/-- SAT_SELFTEST (R495). -/
def execSatSelftest (init n test : Nat) (s : State) : Out :=
  .next (s.writeAt .ox (OX.base (n % 8)) init (OX.SACMD (n % 8)) (sacmdWord 3 test) (sacmdWrite init (n % 8) (sacmdWord 3 test)))

/-- SAT_STREAM (R494): bit 7 of `sel` enables, bit 3 is the side, bits [2:0] the half-bridge. -/
def execSatStream (init n sel : Nat) (s : State) : Out :=
  .next (s.writeAt .ox (OX.base (n % 8)) init (OX.SACMD (n % 8)) (sacmdWord 4 sel) (sacmdWrite init (n % 8) (sacmdWord 4 sel)))

/-- SAT_COMMAND_TIMEOUT (R495): 16 slots have passed without the reply. -/
def execSatCommandTimeout (n : Nat) (s : State) : Out :=
  .next (if n < 8 ∧ (s.lane n).cmd.isSome ∧ 16 ≤ (s.lane n).slots then
      (((s.setBit (OX.SARESP n) 30 true).setBit (OX.SACMD n) 30 false).irq (OX.base n) 5).updLane n (fun x => { x with cmd := none })
    else s)

end Sys2Proof.Machine
end

