-- ==== Sys2Proof/Machine/Pilot.lean ====
section
/-!
DEFINITION. The control-pilot units (R519-R524).
-/
namespace Sys2Proof.Machine

abbrev CP.STAT (n : Nat) : Nat := CP.base n + 0x10
abbrev CP.PWMCFG (n : Nat) : Nat := CP.base n + 0x40
abbrev CP.MEASCFG (n : Nat) : Nat := CP.base n + 0x44
/-- THRA-THRD, k = 0-3, and DIODE, k = 4. -/
abbrev CP.THR (n k : Nat) : Nat := CP.base n + 0x48 + 4 * k
abbrev CP.CAL (n : Nat) : Nat := CP.base n + 0x5C
abbrev CP.PPCFG (n : Nat) : Nat := CP.base n + 0x60
abbrev CP.ACTCFG (n : Nat) : Nat := CP.base n + 0x64
abbrev CP.VHIGH (n : Nat) : Nat := CP.base n + 0x80
abbrev CP.VLOW (n : Nat) : Nat := CP.base n + 0x84
abbrev CP.PPV (n : Nat) : Nat := CP.base n + 0x88
abbrev CP.PPR (n : Nat) : Nat := CP.base n + 0x8C
abbrev CP.PCNT (n : Nat) : Nat := CP.base n + 0x90

/-- Unit `n`. -/
def State.cp (s : State) (n : Nat) : Pilot := nth {} s.pilot n

/-- Change unit `n`. -/
def State.updCp (s : State) (n : Nat) (f : Pilot → Pilot) : State := { s with pilot := upd s.pilot n f }

/-- Drive CPn_OUT. -/
def State.cpDrive (s : State) (n : Nat) (v : Bool) : State :=
  { s with balls := { s.balls with cpOut := s.balls.cpOut - (s.balls.cpOut &&& 2 ^ n) + b2n v * 2 ^ n } }

/-- A pilot period starts: CPn_OUT is high unless DUTY is 0 (R519). -/
def State.cpStart (s : State) (n : Nat) : State := s.cpDrive n (decide ((s.cp n).duty ≠ 0))

/-- A write to CTRL of unit `n`, SOFT_RST aside (R519, R522): an enable starts periods with no taken state; a disable drives
both balls low. -/
def cpCtrlWrite (init n : Nat) (data : Word) (s : State) : State :=
  let was := s.en (CP.base n)
  let s1 := s.setBit (CP.base n + 0x0C) 0 (tb data 0)
  let s2 :=
    if tb data 0 && !was then
      let d := min (s.fld (CP.PWMCFG n) 9 0) 1000
      ((((s1.setBit (CP.STAT n) 0 true).setFld (CP.STAT n) 18 16 7).setBit (CP.STAT n) 1 (s.bit (CP.PWMCFG n) 31)).wr (CP.PCNT n) 0).updCp n
        (fun x => { x with duty := d, writes := [], same := 0 }) |>.cpStart n
    else if !tb data 0 then ((s1.setBit (CP.STAT n) 0 false).setBit (CP.STAT n) 1 false).cpDrive n false
    else s1
  s2.respond init (CP.base n + 0x0C) 0

/-- A write to PWMCFG: DRV acts at once, DUTY at a period start (R519). -/
def cpPwmcfgWrite (init n : Nat) (data : Word) (s : State) : State :=
  let s1 := s.plainWrite init (CP.PWMCFG n) data
  let s2 := s1.setBit (CP.STAT n) 1 (s.en (CP.base n) && tb data 31)
  s2.updCp n (fun x => { x with writes := x.writes ++ [min (bitsOf data 9 0) 1000] })

/-- A write to THRA-THRD or DIODE with LO above HI is refused; DIODE's bounds are signed. -/
def cpThrWrite (init n k : Nat) (data : Word) (s : State) : State :=
  let v := fun (x : Nat) => if k = 4 then toSigned 16 x else (x : Int)
  if v (bitsOf data 31 16) < v (bitsOf data 15 0) then s.errorResp init (CP.THR n k) .refused true
  else s.plainWrite init (CP.THR n k) data

/-- PILOT_DUTY_END (R519): CPn_OUT falls. -/
def execPilotDutyEnd (n : Nat) (s : State) : Out :=
  .next (s.clocked .fab (fun s => if n < 4 ∧ s.bit (CP.STAT n) 0 ∧ (s.cp n).duty < 1000 then s.cpDrive n false else s))

/-! ### Measurement (R520, R521, R524) -/

/-- The mean of pilot samples in mV (R520). -/
def State.cpMean (s : State) (n : Nat) (codes : List Nat) (up : Bool) : Int :=
  let g := toSigned 16 (s.fld (CP.CAL n) 31 16)
  let o := toSigned 16 (s.fld (CP.CAL n) 15 0)
  let sum := (codes.map (fun c => ((c % 4096 : Nat) : Int) * 2500 - 1250 * 4096)).foldl (· + ·) 0
  pickRound (sum * 12 * (65536 + g) + o * ((codes.length * 4096 * 65536 : Nat) : Int)) (codes.length * 4096 * 65536) up

/-- The mean of proximity samples in mV (R524). -/
def ppMean (codes : List Nat) (up : Bool) : Int :=
  pickRound (((codes.map (fun c => c % 4096)).foldl (· + ·) 0 * 2500 : Nat) : Int) (codes.length * 4096) up

/-- SETTLE in µs (R521). -/
def State.cpSettle (s : State) (n : Nat) : Nat := clampN 2 200 (s.fld (CP.MEASCFG n) 7 0)

/-- PPR of R524. -/
def ppResistance (rpu vpu ppv : Nat) : Nat :=
  if rpu = 0 ∨ vpu = 0 then 0 else if vpu ≤ ppv then 65535 else min (rpu * ppv / (vpu - ppv)) 65535

/-- The samples of one phase of a period, `from_` to `to_` µs after its rising edge, that its mean takes (R521): from SETTLE after the
phase's first edge to 2 µs before its last; none where the phase is too short. Sample `k` is taken k µs after the rising edge. -/
def State.cpPhase (s : State) (n from_ to_ : Nat) (cp : List Nat) : List Nat :=
  if to_ - from_ < s.cpSettle n + 4 then [] else (cp.take (to_ - 1)).drop (from_ + s.cpSettle n)

/-- The measured values at a period's end (R521, R524) from the 1,000 samples of CPn_SNS and of PPn_SNS; NOHIGH says that the high
phase gave none. -/
def State.cpMeasure (s : State) (n : Nat) (cp pp : List Nat) : State :=
  let d := (s.cp n).duty
  let hi := s.cpPhase n 0 d cp
  let lo := s.cpPhase n d 1000 cp
  let hiOk := !hi.isEmpty
  let s1 := if hiOk then s.wr (CP.VHIGH n) (BitVec.ofInt 32 (s.cpMean n hi (Config.freeBit s.freeCtr))) else s
  let s2 := if !lo.isEmpty then s1.wr (CP.VLOW n) (BitVec.ofInt 32 (s.cpMean n lo (Config.freeBit (s.freeCtr + 1)))) else s1
  let s3 := s2.setBit (CP.STAT n) 3 !hiOk
  if pp.isEmpty then { s3 with freeCtr := s.freeCtr + 3 }
  else
    let v := (ppMean pp (Config.freeBit (s.freeCtr + 2))).toNat
    let s4 := (s3.wr (CP.PPV n) (Word.ofNat v)).wr (CP.PPR n)
      (Word.ofNat (ppResistance (s.fld (CP.PPCFG n) 31 16) (s.fld (CP.PPCFG n) 15 0) v))
    { s4 with freeCtr := s.freeCtr + 3 }

/-! ### States (R522, R523) -/

/-- The first row of R522 that matches before the diode check: 0-5, or 6. -/
def State.cpRow (s : State) (n : Nat) : Nat :=
  let v := (s.rd (CP.VHIGH n)).toInt
  let inThr := fun (k : Nat) => decide ((s.fld (CP.THR n k) 15 0 : Int) ≤ v) && decide (v ≤ (s.fld (CP.THR n k) 31 16 : Int))
  if inThr 0 then 0 else if inThr 1 then 1 else if inThr 2 then 2 else if inThr 3 then 3
  else if v.natAbs ≤ 1000 then 4 else if (s.cp n).duty = 0 then 5 else 6

/-- The second case of INVALID (R522). -/
def State.cpDiode (s : State) (n : Nat) : Bool :=
  let v := (s.rd (CP.VLOW n)).toInt
  let r := s.cpRow n
  decide (1 ≤ r) && decide (r ≤ 3) && decide (0 < (s.cp n).duty) && decide ((s.cp n).duty < 1000) &&
  (decide (toSigned 16 (s.fld (CP.THR n 4) 31 16) < v) || decide (v < toSigned 16 (s.fld (CP.THR n 4) 15 0)))

/-- A taken state in STMASK trips the generators of the groups in GMASK (R523). -/
def State.cpAction (s : State) (n st : Nat) : State :=
  let c := s.shown (CP.ACTCFG n)
  if tb c 31 && decide (st < 7) && tb c (24 + st) then
    (s.clocked .pwm (fun s => (List.range 48).foldl (fun t g => if tb c (g / 4) then t.trip g 2 else t) s)).irq (CP.base n) 2
  else s

/-- PILOT_PERIOD_END (R519, R521-R524). -/
def execPilotPeriodEnd (n late : Nat) (cp pp : List Nat) (s : State) : Out :=
  .next (s.clocked .fab (fun s => if n < 4 ∧ s.bit (CP.STAT n) 0 then
      let s1 := (s.cpMeasure n cp pp).wr (CP.PCNT n) (s.rd (CP.PCNT n) + 1)
      let dio := s1.cpDiode n
      let raw := if dio then 6 else s1.cpRow n
      let s2 := if dio && !s.bit (CP.STAT n) 2 then s1.irq (CP.base n) 1 else s1
      let same := if 0 < (s.cp n).same ∧ raw = s.fld (CP.STAT n) 14 12 then (s.cp n).same + 1 else 1
      let s3 := ((s2.setBit (CP.STAT n) 2 dio).setFld (CP.STAT n) 14 12 raw).updCp n (fun x => { x with same := min same 15 })
      let deb := max (bitsOf (s.shown (CP.MEASCFG n)) 11 8) 1
      let s4 := if deb ≤ same ∧ raw ≠ s.fld (CP.STAT n) 18 16 then
          ((s3.setFld (CP.STAT n) 18 16 raw).irq (CP.base n) 0).cpAction n raw
        else s3
      let early := (s.cp n).writes.take ((s.cp n).writes.length - late)
      let s5 := s4.updCp n (fun x => { x with duty := early.getLast?.getD x.duty, writes := x.writes.drop early.length })
      s5.cpStart n
    else s))

end Sys2Proof.Machine
end

