-- ==== Sys2Proof/Machine/Recorder.lean ====
section
/-!
DEFINITION. The disturbance recorder (R525-R528).
-/
namespace Sys2Proof.Machine

abbrev REC.STAT : Nat := REC.base + 0x10
abbrev REC.CFG : Nat := REC.base + 0x40
abbrev REC.RINGBASE : Nat := REC.base + 0x44
abbrev REC.RINGSIZE : Nat := REC.base + 0x48
abbrev REC.POST : Nat := REC.base + 0x4C
abbrev REC.TRIGSRC : Nat := REC.base + 0x50
abbrev REC.CMPMASK (k : Nat) : Nat := REC.base + 0x54 + 4 * k
abbrev REC.TRIGCTL : Nat := REC.base + 0x5C
abbrev REC.TRIGROW : Nat := REC.base + 0x60
abbrev REC.PREVALID : Nat := REC.base + 0x64
abbrev REC.WRROW : Nat := REC.base + 0x68
abbrev REC.DROPCNT : Nat := REC.base + 0x6C
abbrev REC.TRIGSEC : Nat := REC.base + 0x70
abbrev REC.TRIGNS : Nat := REC.base + 0x74
abbrev REC.TRIGCAUSE : Nat := REC.base + 0x78
abbrev REC.SRC (k : Nat) : Nat := REC.base + 0x100 + 4 * k
abbrev REC.INJ (k : Nat) : Nat := REC.base + 0x180 + 4 * k

/-- STAT.STATE: 0 off, 1 ARMED, 2 POST, 3 DONE. -/
def State.recState (s : State) : Nat := s.fld REC.STAT 9 8

/-- Bytes of a row (R525). -/
def State.recRowSize (s : State) : Nat := if s.fld REC.CFG 28 24 < 8 then 16 else if s.fld REC.CFG 28 24 < 16 then 32 else 64

/-- R: rows of the ring (R525). -/
def State.recRows (s : State) : Nat := s.fld REC.RINGSIZE 15 0 * 65536 / s.recRowSize

/-- POST as it acts: R − 1 at most. -/
def State.recPost (s : State) : Nat := min (s.fld REC.POST 23 0) (s.recRows - 1)

/-- Change the recorder. -/
def State.updRec (s : State) (f : Recorder → Recorder) : State := { s with recorder := f s.recorder }

/-! ### Registers -/

/-- The ring lies in mapped LPDDR4X. -/
def State.recRingOk (s : State) : Bool :=
  let b := s.fld REC.RINGBASE 31 16 * 65536
  let n := s.fld REC.RINGSIZE 15 0 * 65536
  decide (0 < n) && decide (0x80000000 ≤ b) && s.dmaOk b n

/-- A write to CTRL, SOFT_RST aside (R527): EN starts rows in ARMED at row 0, and is refused where the ring is not in mapped
LPDDR4X; EN 0 stops them. -/
def recCtrlWrite (init : Nat) (data : Word) (s : State) : State :=
  let a := REC.base + 0x0C
  if tb data 0 && !s.en REC.base then
    if !s.recRingOk then s.errorResp init a .refused true
    else ((((s.setBit a 0 true).setFld REC.STAT 9 8 1).wr REC.WRROW 0).updRec (fun _ => {})).respond init a 0
  else if tb data 0 then s.respond init a 0
  else (((s.setBit a 0 false).setFld REC.STAT 9 8 0).updRec (fun x => { x with waits := false })).respond init a 0

/-- A write to CFG, RINGBASE or RINGSIZE: refused while enabled; a ring size of 0 is refused. -/
def recCfgWrite (init a : Nat) (data : Word) (s : State) : State :=
  if s.en REC.base ∨ (a = REC.RINGSIZE ∧ bitsOf data 15 0 = 0) then s.errorResp init a .refused true else s.plainWrite init a data

/-! ### Sources (R526) -/

/-- The value of a channel's source; `w` is free for an index that names nothing. -/
def State.recSource (s : State) (src w : Word) : Nat :=
  let sub := bitsOf src 15 8
  let i := bitsOf src 7 0
  let open_ := bitsOf w 15 0
  let lines := fun (from_ n : Nat) => ((List.range n).map (fun k => b2n ((nth { } s.cmp (from_ + k)).line) * 2 ^ k)).foldl (· + ·) 0
  match bitsOf src 23 16 with
  | 1 => if i < 26 ∧ sub < 16 then tabGet (nth {} s.conv.pos i).last sub else open_
  | 2 => if i < 3 then lines (16 * i) 16 else if i = 3 then lines 48 8 else open_
  | 3 =>
    if i < 48 then
      b2n (s.gen i).w + 2 * b2n (s.gen i).outA + 4 * b2n (s.gen i).outB + 8 * b2n (s.bit (PWM.STAT i) 8)
    else open_
  | 4 =>
    match sub with
    | 0 => s.fld (GSYNC.base + 0x80) 31 16
    | 1 => s.fld (GSYNC.base + 0x88) 31 16
    | 2 => s.fld (GSYNC.base + 0x98) 31 16
    | 3 => s.fld (GSYNC.base + 0x9C) 31 16
    | 4 => (clampI 0 65535 ((s.rd (GSYNC.base + 0x84)).toInt - 40000)).toNat
    | _ => open_
  | 5 => ofSigned 16 (clampI (-32768) 32767 (pickRound (s.rd (SETL.base + 0x60)).toInt 32 (tb w 16)))
  | 6 => if s.ver REC.base = 1 then 0 else if i < 8 then s.fld (REC.INJ i) 31 16 else open_
  | _ => 0

/-- CHk_SRC as it acts: in version 1 TYPE 0x06 reads 0. -/
def State.recSrc (s : State) (k : Nat) : Word := s.rd (REC.SRC k)

/-- The bytes of a row: channels 0 to NCH, and free bytes up to the row's size (R525). -/
def State.recBytes (s : State) : List Byte :=
  let chans := ((List.range (s.fld REC.CFG 28 24 + 1)).map (fun k => leBytes 2 (s.recSource (s.recSrc k) (s.free k)))).flatten
  let pad := ((List.range 32).map (fun k => leBytes 2 (s.free (32 + k)).toNat)).flatten
  (chans ++ pad.drop chans.length).take s.recRowSize

/-! ### Rows (R525, R527, R528) -/

/-- The row's slips: whole 16-byte writes from `a` upward. -/
def State.recIssue (s : State) (a cycle : Nat) (bs : List Byte) : Nat → State
  | 0 => s
  | n + 1 => (s.issue { init := 80, addr := a, write := true, bytes := bs.take 16, cycle := cycle }).recIssue (a + 16) cycle (bs.drop 16) n

/-- The row is written, or dropped whole where it would overfill the 8 KiB buffer behind a coin stall (R528). -/
def State.recWrite (s : State) (cycle : Nat) : State :=
  let held := 16 * (s.fab.stalled.filter (fun p => p.init == 80)).length
  let r := (s.rd REC.WRROW).toNat
  let s0 := { s with freeCtr := s.freeCtr + 64 }
  if 8192 < held + s.recRowSize then ((s0.count REC.DROPCNT 31 0 1).setBit REC.STAT 0 true).irq REC.base 2
  else
    (s0.recIssue (s.fld REC.RINGBASE 31 16 * 65536 + r % max s.recRows 1 * s.recRowSize) cycle s.recBytes (s.recRowSize / 16)).updRec
      (fun x => { x with written := x.written + 1 })

/-- The row that starts is the trigger row (R527). -/
def State.recTrigRow (s : State) : State :=
  let t := s.ptpNow
  let on := s.en (ETH.base 0)
  ((((s.wr REC.TRIGROW (s.rd REC.WRROW)).wr REC.PREVALID (Word.ofNat (min s.recorder.written (s.recRows - s.recPost - 1)))).wr
    REC.TRIGSEC (if on then Word.ofNat (ptpSec t) else 0)).wr REC.TRIGNS (if on then Word.ofNat (ptpNs t) else 0)).updRec
    (fun x => { x with waits := false, left := s.recPost + 1 })

/-- The next row is due (R525): DIV + 1 µs have passed since the last one; values of DIV above 999 are taken as 999. -/
def State.recDue (s : State) (at_ : Nat) : Bool :=
  s.recorder.last.all (fun t => decide (t + (min (s.fld REC.CFG 9 0) 999 + 1) * 16000 ≤ at_))

/-- RECORDER_ROW (R525, R527): a row starts in ARMED or POST; after the last row of POST the recorder is DONE. -/
def execRecorderRow (at_ cycle : Nat) (s : State) : Out :=
  .next ((s.atTime at_).clocked .fab (fun s1 => if s1.en REC.base ∧ (s1.recState = 1 ∨ s1.recState = 2) ∧ s1.recDue at_ then
      let s2 := (if s1.recorder.waits then s1.recTrigRow else s1).updRec (fun x => { x with last := some at_ })
      let s3 := (s2.recWrite cycle).wr REC.WRROW (s2.rd REC.WRROW + 1)
      if s2.recState = 2 then
        let s4 := s3.updRec (fun x => { x with left := x.left - 1 })
        if s4.recorder.left = 0 then (s4.setFld REC.STAT 9 8 3).irq REC.base 1 else s4
      else s3
    else s1))

/-! ### Triggers (R527) -/

/-- Enabled trigger events of one cycle: in ARMED they start POST, in POST and DONE they are lost. -/
def State.recTrigger (s : State) (events : Nat) : State :=
  let e := events &&& s.fld REC.TRIGSRC 6 0
  if e = 0 then s
  else if s.recState = 1 then
    (((s.setFld REC.STAT 9 8 2).setFld REC.TRIGCAUSE 6 0 e).irq REC.base 0).updRec (fun x => { x with waits := true })
  else if s.recState = 0 then s
  else s.count REC.TRIGCAUSE 31 24 1

/-- A level line that CMPMASK selects is among those that rise. -/
def State.recLines (s : State) (lines : List Nat) : Bool := lines.any (fun n => n < 56 && s.bit (REC.CMPMASK (n / 32)) (n % 32))

/-- RECORDER_TRIGGER (R527): events of the blocks; bit 5 follows from the level lines. -/
def execRecorderTrigger (events : Nat) (lines : List Nat) (s : State) : Out :=
  .next (s.clocked .fab (fun s => s.recTrigger ((events &&& 0b1011110) + b2n (s.recLines lines) * 32)))

/-- A write to TRIGCTL (R527). Which of SWTRIG and ARM of one write acts first is left open. -/
def trigctlWrite (init : Nat) (data : Word) (s : State) : State :=
  let sw := fun (t : State) => if tb data 1 then t.recTrigger 1 else t
  let arm := fun (t : State) => if tb data 0 ∧ t.recState = 3 then t.setFld REC.STAT 9 8 1 else t
  let s1 := if tb data 0 && tb data 1 then (if s.freeBit then arm (sw s) else sw (arm s)).bumpFree else arm (sw s)
  s1.respond init REC.TRIGCTL 0

/-- RECORDER_SWTRIG (R527). -/
def execRecorderSwtrig (init : Nat) (s : State) : Out :=
  .next (s.writeAt .fab REC.base init REC.TRIGCTL 2 (trigctlWrite init 2))

/-- RECORDER_ARM (R527). -/
def execRecorderArm (init : Nat) (s : State) : Out :=
  .next (s.writeAt .fab REC.base init REC.TRIGCTL 1 (trigctlWrite init 1))

end Sys2Proof.Machine
end

