-- ==== Sys2Proof/Machine/Access.lean ====
section
/-!
DEFINITION. What a register page does with any write or read that reaches it (chapter 5): the header, the registers with
an effect of their own, soft reset, the ledger window, and the accesses that have waited.
-/
namespace Sys2Proof.Machine

/-! ### CTRL -/

/-- What a write to CTRL with SOFT_RST = 0 of the page of type `typ` and instance `i` at `b` does to its block. -/
def State.ctrlApply (s : State) (p : PageRow) (i b init : Nat) (data : Word) (tick : Nat) : State :=
  if p.typ = 0x02 then adpllCtrlWrite s init i data
  else if p.alwaysOn then
    (if tb data 0 then (if p.typ = 0x03 then (s.plainWrite init (b + 0x0C) data).fabRefresh else s.plainWrite init (b + 0x0C) data) else s.errorResp init (b + 0x0C) .refused true)
  else match p.typ with
  | 0x10 => convCtrlWrite init i data s
  | 0x12 => pwmCtrlWrite init i data (s.atTime tick)
  | 0x14 => gateCtrlWrite init i data (s.atTime tick)
  | 0x20 => setlCtrlWrite init data s
  | 0x21 => mpCtrlWrite init i data s
  | 0x28 => healthCtrlWrite init data s
  | 0x35 => recCtrlWrite init data s
  | 0x36 => uartPlain init i (b + 0x0C) data s
  | 0x37 => (s.plainWrite init (b + 0x0C) data).spiRefresh i
  | 0x40 => oxCtrlWrite init i data s
  | 0x41 => cpCtrlWrite init i data s
  | 0x51 => cmpCtrlWrite init false data s
  | 0x52 => cmpCtrlWrite init true data s
  | 0x53 => auxCtrlWrite init data s
  | _ => if b = GSYNC.base then gsyncCtrlWrite init data tick s else s.plainWrite init (b + 0x0C) data

/-- A write to CTRL with SOFT_RST = 0; one that enables the block takes its balls (R48). -/
def State.ctrlWrite (s : State) (p : PageRow) (i b init : Nat) (data : Word) (tick : Nat) : State :=
  (s.ctrlApply p i b init data tick).takesBalls b data

/-! ### Soft reset (R142) -/

/-- STAT and the registers from 0x040 upward of the page at `b` back at reset, but for the registers of `keep` and the bits
`statKeep` of STAT; IRQ_RAW clears. DESIGN CHOICE (notes/assumptions/91.md): STAT is cleared, as R142 says, on CPn too, whose STAT
resets to 0x0007_7000. -/
def State.wipeRegs (s : State) (b size statKeep : Nat) (keep : List Nat) : State :=
  let kept := keep.map (fun o => (b + o, s.rd (b + o)))
  let st := s.rd (b + 0x10) &&& Word.ofNat statKeep
  let s1 := ((s.dropRegs (b + 0x40) (b + size - 1)).wr (b + 0x10) st).wr (b + 0x14) 0
  kept.foldl (fun t q => t.wr q.1 q.2) s1

/-- The PTP clock and its registers, which both MACs share, at reset (R514). -/
def State.ptpWipe (s : State) : State :=
  { (s.dropRegs 0x400A0300 0x400A033F).wr PTP.ONESTEP 0 with ptp := { since := s.now }, balls := { s.balls with ppsOut := false } }

/-- A comparator at reset; its input stands. A claimed comparator keeps what its claim uses (R253); a check of it ends with the page's
check unit, and LEVEL goes on to show its line. -/
def State.cmpWipe (s : State) (n : Nat) : State :=
  if s.claimedPc n then
    let s1 := s.setBit (levelBit n).1 (levelBit n).2 (s.line n)
    if (s.cmpAt n).check then
      (s1.updCmp n (fun c => { c with check := false, cfg := s1.rd (cmpCfgAddr n), hi := false, lo := false })).firstDecision n
    else s1
  else (s.updCmp n (fun c => { cfg := if n < 48 then 0 else 0x03000000, vin := c.vin, line := c.line })).driveLine n false true

/-- Tn's instances leave the schedule, the run at the position ends, and the page is at reset. The unit that serves the
position, its role and its pairing are not the page's. -/
def State.tlrWipe (s : State) (n : Nat) : State :=
  let s1 := s.updTpos n (fun p => { p with run := none })
  let s2 := (List.range 8).foldl (fun t i => if t.instEn n i then t.disableInst n i else t) s1
  ((s2.updTpos n (fun p => { p with inst := List.replicate 8 {} })).wipeRegs (TLR.base n) 0x1000 0x000F1F00 []).afterRun n

/-- The teller array's common page at reset: a rotation in progress ends and its unit goes back to the pool. What follows
from the units' states stays (CAPSTAT). -/
def State.telcWipe (s : State) : State :=
  let s1 := if s.fld TELC.ROTSTAT 31 30 ≠ 0 then
      s.endRotation.updTel (fun t => { t with released := t.released ++ [s.fld TELC.ROTSTAT 19 16] }) else s
  let s2 := ((s1.setBit (TLR.STAT 14) 11 true).setBit (TLR.STAT 15) 11 true)
  ((if s.bit TELC.ROTCFG 31 then s2 else s2.spareRole true).updTel (fun t => { t with runs := List.replicate 8 0 })).wipeRegs TELC.base 0x1000 0 [0x4C]

/-- The common converter page at reset: a shadow in progress ends and its unit goes back to the pool. DESIGN CHOICE
(notes/assumptions/90.md): ROTCFG.EN returns to 1 although a spare position may stand enabled, which R192 keeps a write from
bringing about; the position stays enabled. -/
def State.adccWipe (s : State) : State :=
  let s1 := if s.fld ADCC.ROTSTAT 31 30 ≠ 0 then
      let t := s.endShadow 0
      { t with conv := { t.conv with released := t.conv.released ++ [s.fld ADCC.ROTSTAT 20 16] } }
    else s
  { s1 with conv := { s1.conv with sent := [], counts := [], exceed := 0, oldRun := false } }.wipeRegs ADCC.base 0x1000 0 []

/-- HEALTH at reset. What it knows of the units stays, as the pools themselves do: SPARES, RETIRED, CHKR_INCOMPLETE (R472). -/
def State.healthWipe (s : State) : State :=
  let s1 := s.updHealth (fun h => { h with
    slice := none, chk0 := { h.chk0 with parallel := false }, chk1 := { h.chk1 with parallel := false },
    cmpLast := 55, cmpTime := none, chkTime := [none, none], scrubTime := none, records := 0, scrubMem := 0, scrubWord := 0 })
  s1.wipeRegs HEALTH.base 0x1000 0x800 [0x60, 0x64, 0x68, 0x6C]

/-- The block behind the page at reset (R142). -/
def State.blockWipe (s : State) (p : PageRow) (i b : Nat) : State :=
  match p.typ with
  | 0x10 => (s.updPos i (fun _ => {})).wipeRegs b 0x800 0x01F00000 []
  | 0x11 => s.adccWipe
  | 0x12 => s.pwmWipe i
  | 0x13 => { s.wipeRegs b 0x1000 0 [] with extSync := none, balls := { s.balls with syncOut := [] } }
  | 0x18 => s.tlrWipe i
  | 0x19 => s.telcWipe
  | 0x20 => s.setlWipe.wipeRegs b 0x1000 0 []
  | 0x21 => (s.mpWipe i).wipeRegs b 0x1000 0 []
  | 0x22 => (s.gridWipe i).wipeRegs b 0x1000 (s.gridKept i) []
  | 0x28 => s.healthWipe
  | 0x30 => ((s.ptpWipe.updMac i (fun _ => {})).wipeRegs b 0x1000 0 [])
  | 0x31 => (s.updCan i (fun _ => {})).wipeRegs b 0x1000 0 []
  | 0x32 => { s.wipeRegs b 0x1000 0 [] with xspi := none }
  | 0x34 => { s.wipeRegs b 0x1000 0 [] with ddrGo := false }
  | 0x35 => (s.updRec (fun _ => {})).wipeRegs b 0x1000 0 []
  | 0x36 => (s.updUart i (fun _ => {})).wipeRegs b 0x1000 0 []
  | 0x37 => (s.updSpi i (fun _ => {})).wipeRegs b 0x1000 0 []
  | 0x38 => { s.wipeRegs b 0x1000 0 [0x50] with balls := { s.balls with gpioTaken := false } }
  | 0x40 => (s.updLane i (fun _ => {})).wipeRegs b 0x1000 0 []
  | 0x41 => (s.updCp i (fun _ => {})).wipeRegs b 0x1000 0 []
  | 0x51 => (List.range 48).foldl State.cmpWipe (s.wipeRegs b 0x1000 0 [])
  | 0x52 =>
    let claimed := (List.range 8).filter (fun k => s.claimedPc (48 + k))
    (List.range 8).foldl (fun t k => t.cmpWipe (48 + k)) (s.wipeRegs b 0x1000 0 (0x60 :: claimed.map (fun k => 0x80 + 4 * k)))
  | 0x53 =>
    let live := s.rd AXSTAT &&& 0x78070000
    (s.updAux (fun x => { above := x.above })).wipeRegs b 0x1000 0 [] |>.wr AXSTAT live
  | _ => s.wipeRegs b 0x1000 0 []

/-- A write to CTRL with SOFT_RST = 1 (R141, R142): refused on an always-on page, on a locked page and where EN stays 1;
otherwise EN falls and the block returns to reset. The ADPLL and gate-unit pages follow R118 and R234. -/
def State.softReset (s : State) (p : PageRow) (i b init : Nat) (data : Word) (tick : Nat) : State :=
  let a := b + 0x0C
  if p.typ = 0x02 then adpllCtrlWrite s init i data
  else if p.typ = 0x14 then gateCtrlWrite init i data (s.atTime tick)
  else if p.alwaysOn ∨ tb data 0 ∨ s.locked b then s.errorResp init a .refused true
  else
    let s1 := (s.ctrlWrite p i b init (data &&& 0xFFFFFFFD) tick).blockWipe p i b
    { s1 with bus := { s1.bus with softRst := s1.bus.softRst ++ [b] } }.respond init a 0

/-! ### Writes (R9, R10) -/

/-- A write to a register from 0x040 upward: `o` is its offset. Registers with an effect of their own take it, every other
one follows its field types. `tick` is the instant at which a PWM or gate page applies the write; for KICK it is the CLK_TEL
cycle. -/
def State.blockWrite (s : State) (p : PageRow) (i b init o : Nat) (data : Word) (sub tick : Nat) : State :=
  let a := b + o
  let plain := s.plainWrite init a data
  match p.typ with
  | 0x01 =>
    if o = 0x40 then testenWrite init data s else if o = 0x44 then verselWrite init data s
    else if o = 0x48 then dbgopenWrite init data s else plain
  | 0x02 =>
    if o = 0x40 then refcfgWrite s init i data else if o = 0x44 then fcwWrite s init i data
    else if 0x60 ≤ o ∧ o < 0x80 ∧ o % 4 = 0 ∧ (i = 0 ∨ o = 0x60) then outCfgWrite s init i ((o - 0x60) / 4) data else plain
  | 0x03 => if o = 0x90 then watchselWrite init data s else plain
  | 0x04 => if o = 0xC4 ∨ o = 0xCC then completeWrite init ((o - 0xC4) / 8) data s else plain
  | 0x10 => if 0x80 ≤ o ∧ o < 0x100 ∧ o % 4 = 0 then entryApply init i ((o - 0x80) / 8) (decide (o % 8 = 4)) data s else plain
  | 0x11 =>
    if o = 0x40 then swtrigApply init data tick s else if o = 0x48 then rotcfgApply init data s
    else if 0x100 ≤ o ∧ o < 0x180 ∧ o % 4 = 0 then tgCfgWrite init ((o - 0x100) / 4) data s else plain
  | 0x12 =>
    let t := s.atTime tick
    if 0x40 ≤ o ∧ o < 0x50 ∧ o % 4 = 0 then liveWrite init sub i ((o - 0x40) / 4) data t
    else if 0x60 ≤ o ∧ o < 0x78 ∧ o % 4 = 0 then shadowWrite init i ((o - 0x60) / 4) data t
    else if o = 0x90 then pwmCfgWrite init i data t else if o = 0x98 then tripcfgWrite init i data t
    else if o = 0x9C then tripctlWrite init i data t else plain
  | 0x13 =>
    let t := s.atTime tick
    if o = 0x40 ∨ o = 0x44 then startWrite init ((o - 0x40) / 4) data t else if o = 0x48 then commitWrite init data t
    else if o = 0x50 ∨ o = 0x54 then pwmcForceWrite init ((o - 0x50) / 4) data t
    else plain
  | 0x14 =>
    let t := s.atTime tick
    if o = 0x40 then gcfgWrite init i data t
    else if 0x60 ≤ o ∧ o < 0x70 ∧ o % 4 = 0 then hbcfgWrite init (4 * i + (o - 0x60) / 4) data t
    else if 0x70 ≤ o ∧ o < 0x80 ∧ o % 4 = 0 then hbctlWrite init (4 * i + (o - 0x70) / 4) data t else plain
  | 0x18 =>
    if o = 0x40 then fallbackWrite init i data s else if o = 0x48 then kickWrite init i data tick s
    else if 0x100 ≤ o ∧ o < 0x200 then
      (if o % 32 = 0 then instCfgWrite init i ((o - 0x100) / 32) data s
       else if o % 32 = 4 ∨ o % 32 = 8 ∨ o % 32 = 12 ∨ o % 32 = 16 then instFieldWrite init i ((o - 0x100) / 32) a data s else plain)
    else plain
  | 0x19 =>
    if o = 0x40 then telRotcfgWrite init data s
    else if 0x400 ≤ o ∧ o < 0x800 ∧ o % 32 = 16 then pgXWrite init ((o - 0x400) / 32) data s else plain
  | 0x20 =>
    if o = 0x48 then vbusWrite init data s else if o = 0x5C then integWrite init data s
    else if o = 0x6C then contctlWrite init data s
    else if 0x100 ≤ o ∧ o < 0x300 ∧ o % 32 = 0 then acctCfgWrite init ((o - 0x100) / 32) data s else plain
  | 0x21 =>
    if o = 0x44 then iinWrite init i data s else if o = 0x90 then scanreqWrite init i data s
    else if o = 0x48 ∨ o = 0x6C then mpCfgWrite init i o data s
    else if o = 0x4C ∨ o = 0x50 ∨ o = 0x54 ∨ o = 0x58 then mpRangeWrite init i o data s else plain
  | 0x22 =>
    if a = GSYNC.IC then icWrite init data s else if a = GSYNC.CFG then gsyncCfgWrite init data s
    else if a = GFRT.CFG then gfrtCfgWrite init data s else if a = GFRT.base + 0x74 then gfrtClrWrite init data s
    else if i = 1 ∧ (o = 0x44 ∨ o = 0x48 ∨ o = 0x4C ∨ o = 0x68) then gfrtBandWrite init o data s
    else if a = GISL.base + 0x4C then probecfgWrite init data s else if a = GISL.PWIN then pwinWrite init data s
    else if a = GISL.base + 0x60 then gislClrWrite init data s else if a = GTAB.base + 0x40 then tableApplyWrite init data s
    else plain
  | 0x28 => if o = 0xB0 then logbaseWrite init data s else plain
  | 0x30 =>
    if o = 0x60 then anctlWrite init i data s else if o = 0x68 then pauseWrite init i data s
    else if o = 0x9C then rxtailWrite init i data s else if o = 0x120 then cntclrWrite init i data s
    else if o = 0x30C then ptpRateWrite init a data s else if o = 0x318 then ptpCtlWrite init a data s
    else if o = 0x320 then ppscfgWrite init a data s
    else if 0x600 ≤ o ∧ o < 0x800 ∧ o % 4 = 0 then sakeyWrite init i ((o - 0x600) / 4) data s
    else (s.plainWrite init (ptpAddr a) data).respond init a 0
  | 0x31 =>
    if o = 0x40 then canModeWrite init i data s else if o = 0x44 ∨ o = 0x48 then canTimingWrite init i a data s else plain
  | 0x32 => if o = 0x50 then icmdWrite init data s else plain
  | 0x33 => if o = 0x44 ∨ o = 0x48 ∨ o = 0x4C then ddrCfgWrite init a data s else plain
  | 0x34 =>
    if o = 0x40 then ddrPllWrite init data s else if o = 0x44 then ddrCfgWrite init a data s
    else if o = 0x48 then ddrInitWrite init data s else plain
  | 0x35 =>
    if o = 0x40 ∨ o = 0x44 ∨ o = 0x48 then recCfgWrite init a data s else if o = 0x5C then trigctlWrite init data s else plain
  | 0x36 => if o = 0x48 then uartTxWrite init i data s else if o = 0x54 then uartPlain init i a data s else plain
  | 0x37 => if o = 0x4C then spiTxWrite init i data s else if o = 0x48 then spiCsWrite init i data s else plain
  | 0x38 =>
    if o = 0x40 then gpioDir init data s else if o = 0x48 then gpioSet init data s
    else if o = 0x4C then gpioClr init data s else plain
  | 0x40 => if o = 0x40 then oxCfgWrite init i data s else if o = 0x80 then sacmdWrite init i data s else plain
  | 0x41 =>
    if o = 0x40 then cpPwmcfgWrite init i data s
    else if 0x48 ≤ o ∧ o < 0x5C ∧ o % 4 = 0 then cpThrWrite init i ((o - 0x48) / 4) data s else plain
  | 0x50 => if o = 0x48 then rstreqWrite init data s else if o = 0x74 then wdogKickWrite init data s else plain
  | 0x51 =>
    if o = 0x58 then checkWrite init false data s
    else if 0x60 ≤ o ∧ o < 0x78 ∧ o % 4 = 0 then bankCfgWrite init ((o - 0x60) / 4) data s
    else if 0x80 ≤ o ∧ o < 0x140 ∧ o % 4 = 0 then cmpCfgWrite init ((o - 0x80) / 4) data s else plain
  | 0x52 =>
    if o = 0x58 then checkWrite init true data s
    else if 0x80 ≤ o ∧ o < 0xA0 ∧ o % 4 = 0 then cmpCfgWrite init (48 + (o - 0x80) / 4) data s else plain
  | 0x53 => if o = 0x40 then axcfgWrite init data s else if o = 0x60 then axclrWrite init data s else plain
  | 0x54 => if o = 0x44 then smbxCmdWrite init data s else if o = 0x1C0 then rxctlWrite init data s else plain
  | _ => plain

/-- A 32-bit write that reaches the page whose row is `p` (R9, R10, R141-R144, R151). An IRQ_RAW bit that a block event sets in the
cycle of the write stays 1 (R143). -/
def State.pageWrite (s : State) (p : PageRow) (i b init a : Nat) (data : Word) (sub tick : Nat) : State :=
  let o := a - b
  let data := if o = 0x14 then data &&& ~~~s.bus.sameCycle else data
  if o = 0x08 then ifverWrite init p b data s
  else if o = 0x0C then (if tb data 1 then s.softReset p i b init data tick else s.ctrlWrite p i b init data tick)
  else if o = 0x20 then lockWrite init b data s
  else if o = 0x24 ∧ p.dom = .ps then s.respond init a 0
  else if o = 0x14 ∧ p.typ = 0x36 then uartPlain init i a data s
  else if o < 0x40 then s.plainWrite init a data
  else s.blockWrite p i b init o data sub tick

/-- A 32-bit write to the ledger window (R36, R400, R403): only the mailbox is written. -/
def State.ledgerWrite (s : State) (init a : Nat) (data : Word) : State :=
  if a < 0x40C0F000 ∨ 0x40C0F100 ≤ a then s.errorResp init a .ledger true
  else if a = LEDGER.DOOR then doorWrite init (tb data 1) (tb data 0) s
  else if a = LEDGER.LW_IRQ then (s.wr a (s.rd a &&& ~~~(data &&& 7))).respond init a 0
  else if a < 0x40C0F040 then (s.wr a data).respond init a 0
  else s.respond init a 0

/-! ### Reads -/

/-- PAGE_ID (R138). -/
def pageId (p : PageRow) (i : Nat) : Word := Word.ofNat (p.typ * 2 ^ 24 + i * 2 ^ 16 + 1)

/-- SYS.STAT.PERTURB_ACT: the test key is held and a control-die PERTURB register is not 0. -/
def State.perturbAct (s : State) : Bool :=
  s.bit SYS.STAT 9 && s.regs.any (fun q =>
    match findPage q.1 with
    | some (p, _, b) => decide (q.1 - b = 0x24) && decide (p.dom ≠ .ps) && decide (q.2 ≠ 0)
    | none => false)

/-- CLKSTAT as a read shows it (R134): the copies of bits 16 to 20 are live, and the CLK_REF bit reads 0 while the reference is
lost. -/
def State.clkstatShown (s : State) : Word :=
  Word.ofNat (s.fld SYS.CLKSTAT 10 10 * 2 ^ 10 + b2n (s.bit SYS.CLKSTAT 9 && !s.bit (ADPLLA + 0x50) 28) * 2 ^ 9 + s.fld SYS.CLKSTAT 8 0 + b2n (s.bit (ADPLLA + 0x50) 31) * 2 ^ 16 + b2n (s.bit (ADPLLB + 0x50) 31) * 2 ^ 17 +
    b2n (s.bit (ADPLLA + 0x50) 28) * 2 ^ 18 + b2n s.heartbeat * 2 ^ 19 + b2n (s.bit (ADPLLB + 0x84) 31) * 2 ^ 20)

/-- ERRINFO as the page's version shows it: in version 1 the causes 5 to 7 read 4. -/
def State.errinfoShown (s : State) : Word :=
  let w := s.rd SYS.ERRINFO
  if s.ver SYS.base = 1 ∧ 5 ≤ bitsOf w 15 8 ∧ bitsOf w 15 8 ≤ 7 then putBits w 15 8 4 else w

/-- A word whose bit `k` is `f k`. -/
def wordOf (f : Nat → Bool) : Word := (List.range 32).foldl (fun w k => if f k then w ||| Word.ofNat (2 ^ k) else w) 0

/-- The value of a register that is computed where it is read, where it is one. -/
def State.computed (s : State) (p : PageRow) (i b o : Nat) : Option Word :=
  if o = 0x00 then some (pageId p i)
  else if o = 0x04 then some (if p.v1 then 3 else 2)
  else if o = 0x1C then some (s.shown (b + 0x14) &&& s.rd (b + 0x18))
  else if o = 0x24 ∧ p.dom = .ps then some 0
  else match p.typ with
  | 0x01 =>
    if o = 0x10 then some (putBits (s.shown SYS.STAT) 8 8 (b2n s.perturbAct)) else if o = 0x54 then some s.errinfoShown
    else if o = 0x80 then some s.clkstatShown
    else if 0x400 ≤ o ∧ o < 0x800 ∧ o % 4 = 0 then some (s.fuse ((o - 0x400) / 4)) else none
  | 0x04 =>
    if 0x40 ≤ o ∧ o < 0x60 ∧ o % 4 = 0 then some (wordOf (fun k => s.sourcePending ((o - 0x40) / 4 * 32 + k))) else none
  | 0x12 =>
    if o = 0x88 then some (s.pwmTime i) else if o = 0xA0 then some (putBits (s.shown (b + o)) 30 30 (b2n (s.tripRaw i))) else none
  | 0x13 =>
    if (o = 0x58 ∨ o = 0x5C) ∧ s.ver b ≠ 1 then
      some (wordOf (fun k => decide ((o - 0x58) / 4 * 32 + k < 48) && s.bit (PWM.STAT ((o - 0x58) / 4 * 32 + k)) 8)) else none
  | 0x14 =>
    if o = 0x10 then some (putBits (s.shown (b + 0x10)) 12 12 (b2n s.rst.veto))
    else if 0x80 ≤ o ∧ o < 0x90 ∧ o % 4 = 0 then
      some (putBits (s.shown (b + o)) 24 24 (b2n (s.srcActive (4 * i + (o - 0x80) / 4)))) else none
  | 0x20 => if o = 0x70 then some s.contstatShown else none
  | 0x28 => if o = 0x80 then some s.sliceShown else none
  | 0x54 => (s.smbxShown o).map (fun v => Word.ofNat v)
  | _ => none

/-- A 32-bit read that reaches the page whose row is `p`; some reads have an effect (R153, R189, R529). A generator's page serves it on
the CLK_PWM edge at `tick` (R197). -/
def State.pageRead (s : State) (p : PageRow) (i b init a tick : Nat) : State :=
  let o := a - b
  let s := if p.typ = 0x12 then s.atTime tick else s
  match s.computed p i b o with
  | some w => s.respond init a (s.viewed a w)
  | none =>
    if p.typ = 0x04 ∧ (o = 0xC4 ∨ o = 0xCC) then claimRead init ((o - 0xC4) / 8) s
    else if p.typ = 0x10 ∧ o = 0x40 then resultReadApply init i s
    else if p.typ = 0x30 then
      (if o = 0x300 then s.ptpLatch.respond init a (s.ptpLatch.rd PTP.SEC_HI) else if o = 0x34C then tsNsRead init i s
       else s.respond init a (s.shown (ptpAddr a)))
    else if p.typ = 0x36 ∧ o = 0x4C then uartRxRead init i s
    else if p.typ = 0x37 ∧ o = 0x50 then spiRxRead init i s
    else s.respond init a (s.shown a)

/-! ### One access of any kind to the register window (R11, R136, R137, R140) -/

/-- The ledger window holds the address. -/
def inLedger (a : Nat) : Bool := 0x40C00000 ≤ a && a < 0x40C10000

/-- An access of `len` bytes at `a` reaches the register window. -/
def State.regAccess (s : State) (init a len : Nat) (write : Bool) (data : Word) (sub tick : Nat) : State :=
  let sized := decide (len = 4) && decide (a % 4 = 0)
  match findPage a with
  | some (p, k, b) =>
    if !sized then s.errorResp init a .size write sub
    else if write then s.pageWrite p (p.inst0 + k) b init a data sub tick else s.pageRead p (p.inst0 + k) b init a tick
  | none =>
    if !inLedger a then s.errorResp init a .unmapped write sub
    else if !sized then s.errorResp init a .size write sub
    else if write then s.ledgerWrite init a data else s.respond init a (s.rd a)

/-- The domain and the page that an access has to wait for: a register page's, the teller array's for its memories. SYS.CLKSTAT
runs on CLK_REF (R112, R133). -/
def waitKey (a : Nat) : Dom × Nat :=
  if a = SYS.CLKSTAT then (.ref, SYS.base) else
  match findPage a with
  | some (p, _, b) => (p.dom, b)
  | none => if 0x30000000 ≤ a ∧ a < 0x300C0000 then (.tel, libBase) else (.fab, 0)

/-- Run `f` on an access of `init`, whose initiator reacts to an error response when it arrives; `sub` names the instance or
channel (R157, R173). The response to an access whose initiator has been reset since is discarded (R174). -/
def State.withReaction (s : State) (init a sub : Nat) (write : Bool) (f : State → State) (dead : Bool := false) : State :=
  let s1 := f { s with bus := { s.bus with quiet := some init, resp := { init := init, addr := a } } }
  let s2 : State := { s1 with bus := { s1.bus with quiet := none } }
  if s2.bus.resp.cause = 0 ∨ dead then s2 else s2.initiatorReact init a sub write

/-- Run an access that has waited, or keep it waiting. -/
def State.runWaiting (s : State) (x : Access) : State :=
  let k := waitKey x.addr
  s.access k.1 k.2 x (fun t =>
    if x.addr < 0x40000000 then libWrite x.init x.addr x.sub x.bytes t
    else t.withReaction x.init x.addr x.sub x.write (fun u =>
      u.regAccess x.init x.addr (if x.bytes = [] then 4 else x.bytes.length) x.write x.data x.sub x.tick) x.dead)

/-- Every access that waits is tried again, oldest first. -/
def State.retryWaiting (s : State) : State :=
  s.bus.waiting.foldl State.runWaiting { s with bus := { s.bus with waiting := [] } }

/-! ### The commands -/

/-- REGISTER_WRITE (R9): a write of `len` bytes; at its page once its clock runs and no soft reset is under way (R132, R142). -/
def execRegisterWrite (init addr len : Nat) (data : Word) (sub tick : Nat) (s : State) : Out :=
  let k := waitKey addr
  .next (s.access k.1 k.2 { init := init, addr := addr, data := data, bytes := leBytes len data.toNat, sub := sub, tick := tick }
    (fun t => t.withReaction init addr sub true (fun u => u.regAccess init addr len true data sub tick)))

/-- PAGE_SOFT_RESET (R142): a write of `data`, with SOFT_RST set, to CTRL of the page at `base`; an address that is no page's
base gives an error response (R137). -/
def execPageSoftReset (init base : Nat) (data : Word) (s : State) : Out :=
  .next (if pageBase base ≠ base ∨ base = 0 then s.errorResp init base .unmapped true
    else
      let d := data ||| 2
      let k := waitKey base
      s.access k.1 k.2 { init := init, addr := base + 0x0C, data := d }
        (fun t => t.withReaction init (base + 0x0C) 0 true (fun u => u.regAccess init (base + 0x0C) 4 true d 0 t.now)))

/-- SOFT_RESET_COMPLETE (R142): the soft reset of the page at `base` ends and the accesses that waited for it proceed. -/
def execSoftResetComplete (base : Nat) (s : State) : Out :=
  .next (if s.bus.softRst.contains base then
      ({ s with bus := { s.bus with softRst := s.bus.softRst.filter (fun b => b != base) } } : State).retryWaiting
    else s)

/-- The page domains that a clock serves. -/
def domOf : ClockDomain → Dom
  | .fab => .fab | .tel => .tel | .pwm => .pwm | .adc => .adc | .xspi => .xspi
  | .ox => .ox | .eth => .eth | .can => .can | .ddr => .ddr | .clkB => .ps

/-- STOPPED_DOMAIN_RESTART (R132): the domain's clock runs again, and every access that waited for it completes normally. The gate unit
takes up the supply reports it holds (R239). -/
def execStoppedDomainRestart (dom : ClockDomain) (s : State) : Out :=
  .next (if s.domRun (domOf dom) then
      (if dom = .pwm then (List.range 48).foldl State.uvRefresh s else s).retryWaiting
    else s)

end Sys2Proof.Machine
end

