-- ==== Sys2Proof/Machine/Bus.lean ====
section
/-!
DEFINITION. A granted slip at its target, and its completion (chapter 6, R155-R176; R136, R257-R260, R482, R483, R506, R516,
R517).
-/
namespace Sys2Proof.Machine

/-! ### The memories -/

/-- How many bytes a slip moves. -/
def Slip.size (p : Slip) : Nat := if p.write then p.bytes.length else p.len

/-- What a read of `n` bytes of memory returns; the manual does not give the boot ROM's contents. -/
def State.memRead (s : State) (a n : Nat) : List Byte :=
  if a < 0x10000 then (List.range n).map (fun i => Config.bootRom (a + i)) else s.getBytes a n

/-- The word an atomic instruction leaves in memory (R506): 0 add, 1 swap, 2 xor, 3 or, 4 and, 5 min, 6 max, 7 minu, 8 maxu. -/
def amoResult (op : Nat) (old v : Word) : Word :=
  match op with
  | 0 => old + v
  | 1 => v
  | 2 => old ^^^ v
  | 3 => old ||| v
  | 4 => old &&& v
  | 5 => if old.toInt ≤ v.toInt then old else v
  | 6 => if old.toInt ≤ v.toInt then v else old
  | 7 => if old.toNat ≤ v.toNat then old else v
  | _ => if old.toNat ≤ v.toNat then v else old

/-- The runs of enabled bytes of a write from address `a` (R155); an enable that is not listed is 1. -/
def enabledRuns (a : Nat) : List Byte → List Bool → List (Nat × List Byte)
  | [], _ => []
  | b :: t, e =>
    let rest := enabledRuns (a + 1) t e.tail
    if e.headD true then
      match rest with
      | (c, bs) :: r => if c = a + 1 then (a, b :: bs) :: r else (a, [b]) :: (c, bs) :: r
      | [] => [(a, [b])]
    else rest

/-- A result push or a PUSH: one whole word into a slot of a state memory, through the FIFO of R129. -/
def Slip.isPush (p : Slip) : Bool :=
  p.write && decide (portOf p.addr < 16) && (p.init < 26 || (32 ≤ p.init && p.init < 48)) &&
  decide (p.bytes.length = 4 ∧ p.addr % 4 = 0 ∧ p.enables = [])

/-- The enabled bytes of a slip land in a memory: a push lands later (R129, R260), a write to the library may be refused
(R258), a write to a state memory reaches a rotating spare too (R272). -/
def State.memWrite (s : State) (p : Slip) : State :=
  let runs := enabledRuns p.addr p.bytes p.enables
  if p.isPush then
    (s.updTel (fun t => { t with arriving := t.arriving ++ [{ coin := p.coin, addr := p.addr, data := Word.ofNat (leNat p.bytes) }] })).updSlip
      p.coin (fun x => { x with onWay := true })
  else if portOf p.addr < 16 then runs.foldl (fun t q => t.telStore q.1 q.2) s
  else if portOf p.addr = 16 then
    (if runs.any (fun q => s.imageTouched q.1 q.2.length) then s.errorResp p.init p.addr .refused true p.sub
     else runs.foldl (fun t q => t.memStore p.init q.1 q.2) s)
  else runs.foldl (fun t q => t.memStore p.init q.1 q.2) s

/-- The hart of a clerk's slip. -/
def Slip.hart (p : Slip) : Nat := p.init - 64

/-- A clerk's LR, SC or AMO at a memory, and any other slip there (R506): the state, and the bytes that the response carries.
An SC answers 0 where it stored. -/
def State.memApply (s : State) (p : Slip) : State × List Byte :=
  match p.kind with
  | .plain => if p.write then (s.memWrite p, []) else (s, s.memRead p.addr p.len)
  | .lr => (if p.dead then s else s.updClerk p.hart (fun c => { c with resv := some (block16 p.addr) }), s.memRead p.addr p.len)
  | .sc =>
    let ok := decide ((s.clerk p.hart).resv = some (block16 p.addr))
    let s1 := if ok then s.memWrite p else s
    (s1.updClerk p.hart (fun c => { c with resv := none }), leBytes 4 (b2n (!ok)))
  | .amo op =>
    let old := s.memRead p.addr 4
    (s.memWrite { p with bytes := leBytes 4 (amoResult op (Word.ofNat (leNat old)) (Word.ofNat (leNat p.bytes))).toNat }, old)

/-- A read or an atomic of the slip needs the old contents. -/
def Slip.reads (p : Slip) : Bool := !p.write || decide (p.kind ≠ .plain)

/-- A slip at a memory of R480: a read of a word with an uncorrectable error is refused (R173, R483). -/
def State.sramAccess (s : State) (p : Slip) (us cycle : Nat) (ecc : Option EccError) : State × List Byte :=
  let q := if p.reads then s.eccSpan p.addr p.size us cycle ecc else (s, false)
  if q.2 then (q.1.errorResp p.init p.addr .refused p.write p.sub, List.replicate p.len 0) else q.1.memApply p

/-- Inline ECC of LPDDR4X (R517, R529): an error is counted and flagged; an uncorrectable one is refused. -/
def State.ddrEcc (s : State) (a : Nat) (ecc : Option EccError) : State × Bool :=
  match ecc with
  | none => (s, false)
  | some e =>
    if !s.bit (DDRC.base + 0x40) 31 then (s, false)
    else if e.uncorr then (((s.count (DDRC.base + 0x50) 15 0 1).wr (DDRC.base + 0x54) (Word.ofNat (block16 a))).irq DDRC.base 1, true)
    else ((s.count (DDRC.base + 0x50) 31 16 1).irq DDRC.base 0, false)

/-- A slip at LPDDR4X (R517): nothing is there beyond the mapped size. -/
def State.ddrAccess (s : State) (p : Slip) (ecc : Option EccError) : State × List Byte :=
  if 0x80000000 + s.ddrMapped < p.addr + p.size then (s.errorResp p.init p.addr .unmapped p.write p.sub, List.replicate p.len 0)
  else
    let q := if p.reads then s.ddrEcc p.addr ecc else (s, false)
    if q.2 then (q.1.errorResp p.init p.addr .refused p.write p.sub, List.replicate p.len 0) else q.1.memApply p

/-- The slip reaches beyond the device fitted on its chip select (R136). -/
def Slip.beyondFlash (p : Slip) : Bool :=
  let c := (p.addr - 0x60000000) / 0x8000000
  decide (0x60000000 + c * 0x8000000 + Config.xspiFitted c < p.addr + p.size)

/-- A slip at its target (R136, R137): the state and the bytes of a read response. -/
def State.target (s : State) (p : Slip) (us cycle tick : Nat) (ecc : Option EccError) : State × List Byte :=
  let port := portOf p.addr
  let misaligned := (p.init = 64 ∨ p.init = 65) ∧ p.addr % p.size ≠ 0
  let refuse := fun (c : Cause) => (s.errorResp p.init p.addr c p.write p.sub, List.replicate p.len 0)
  if port ≤ 19 then (if misaligned then refuse .size else s.sramAccess p us cycle ecc)
  else if port = 40 then
    (if p.beyondFlash then refuse .unmapped else if p.write then refuse .refused else if misaligned then refuse .size else s.memApply p)
  else if port = 41 then (if misaligned then refuse .size else s.ddrAccess p ecc)
  else if p.addr < 0x10000 then (if p.write then refuse .refused else if misaligned then refuse .size else s.memApply p)
  else if p.enables.any (fun e => !e) then
    refuse (if (findPage p.addr).isSome || inLedger p.addr then .size else .unmapped)
  else
    let t := s.regAccess p.init p.addr p.size p.write (Word.ofNat (leNat p.bytes)) p.sub tick
    (t, if p.write then [] else if t.bus.resp.cause = 0 then leBytes 4 t.bus.resp.data.toNat else List.replicate p.len 0)

/-! ### The grant (R162-R165, R171, R175) -/

/-- The FIFO into a state memory makes a slip wait (R129, R169): it is full, or holds an entry that a slip which is no push must
not overtake. -/
def State.fifoWaits (s : State) (p : Slip) : Bool :=
  let n := (s.tel.arriving.filter (fun q => portOf q.addr == portOf p.addr)).length
  if p.isPush then decide (16 ≤ n) else decide (n ≠ 0)

/-- The slip has to wait at its port in target cycle `target` (R129, R132, R142, R171, R175, R516): its domain is stopped, its page
is in soft reset or has just received a slip of the same initiator, the FIFO into the state memory stops it, or an indirect command
runs on the chip select whose window it reads. LPDDR4X that is not mapped answers at once (R517). -/
def State.slipBlocked (s : State) (target : Nat) (p : Slip) : Bool :=
  let port := portOf p.addr
  if port < 16 then !s.domRun .tel || s.fifoWaits p
  else if port = 40 then
    !s.domRun .xspi || (!p.write && (match s.xspi with
      | some cs => decide (cs = (p.addr - 0x60000000) / 0x8000000)
      | none => false))
  else if port = 41 then decide (p.addr + p.size ≤ 0x80000000 + s.ddrMapped) && !s.domRun .ddr
  else s.mustWait (waitKey p.addr).1 (waitKey p.addr).2 || s.tooClose target p

/-- The granted slip is applied: its response is on its way, with its error cause and its data. A PWM or gate page takes the
instant of the write, every other page the target cycle. `events` are the IRQ_RAW bits
that block events of its page set in the same cycle (R143). -/
def State.applySlip (s : State) (p : Slip) (us cycle target tick : Nat) (events : Word) (ecc : Option EccError) : State :=
  let s0 : State := { s with bus := { s.bus with
    quiet := some p.init, resp := { init := p.init, addr := p.addr }, sameCycle := events, cycle := some cycle } }
  let port := portOf p.addr
  let q := s0.target p us cycle (if 20 ≤ port ∧ port ≤ 32 then tick else target) ecc
  let cause := q.1.bus.resp.cause
  ({ q.1 with bus := { q.1.bus with quiet := none, sameCycle := 0, cycle := none } } : State).updSlip p.coin
    (fun x => { x with applied := true, cause := cause, data := q.2 })

/-- SLIP_GRANT (R162): in one CLK_FAB cycle the port grants the slip that ranks first, and the slip is applied at its target.
Nothing crosses while CLK_FAB is stopped. -/
def execSlipGrant (port cycle target tick us : Nat) (events : Word) (ecc : Option EccError) (s : State) : Out :=
  .next (s.clocked .fab (fun s => match s.grantee port cycle (s.slipBlocked target) with
    | none => s
    | some p => ((s.noteGrant port cycle p).applySlip p us cycle target tick events ecc).noteCollision target p))

/-! ### The issue of a slip (R136, R155, R159) -/

/-- The memory is the clerk's own tightly coupled memory (R136). -/
def ownTcm (init a : Nat) : Bool :=
  (init == 64 && 0x10000000 ≤ a && a < 0x10080000) || (init == 65 && 0x10080000 ≤ a && a < 0x10100000)

/-- A clerk reaches its own tightly coupled memory without the fabric (R136): no coin, no port; the access ends at once. -/
def State.tcmAccess (s : State) (p : Slip) (us : Nat) (ecc : Option EccError) : State :=
  s.withReaction p.init p.addr p.sub p.write (fun t =>
    let q := t.target p us p.cycle 0 ecc
    if q.1.bus.resp.cause = 0 then q.1.respond p.init p.addr (Word.ofNat (leNat q.2)) else q.1)

/-- SLIP_ISSUE (R155, R159): a slip that breaks R155 is not issued and gives an error response; a number without an initiator
issues nothing. A clerk's LR, SC or AMO elsewhere than R506 allows takes an access fault; other initiators have none. A slip of
the self-test controller takes the deadline of the slice that runs (R164). `us` and `ecc` serve an access of a clerk to its own
tightly coupled memory. -/
def execSlipIssue (init addr : Nat) (write : Bool) (bytes : List Byte) (enables : List Bool) (len cycle sub us : Nat) (kind : SlipKind)
    (ecc : Option EccError) (s : State) : Out :=
  let k := if init = 64 ∨ init = 65 then kind else .plain
  let isW := match k with
    | .plain => write
    | .lr => false
    | _ => true
  let n := if k = .plain then len else 4
  let bs := if k = .plain then bytes else leBytes 4 (leNat bytes)
  let p : Slip := { init := init, addr := addr, write := isW, bytes := if isW then bs else [], enables := if isW ∧ k = .plain then enables else [],
                    len := if isW then 0 else n, cycle := cycle, sub := sub, kind := k,
                    deadline := if init = 96 then s.health.slice.map (fun x => x.deadline) else none }
  .next (if initClass init = none then s
    else if k ≠ .plain ∧ !atomicOk addr then s.updClerk (init - 64) (fun c => { c with fault := some (isW, addr) })
    else if !slipSizeOk addr (if isW then bs.length else n) then s.errorResp init addr .size isW sub
    else if ownTcm init addr then s.tcmAccess p us ecc
    else s.issue p)

/-! ### Completion (R157, R173, R174) -/

/-- The response reaches the debug module (R511): data or an error status. -/
def State.debugResponse (s : State) (p : Slip) : State :=
  s.updJtag (fun j => { j with
    sbdata := if p.write ∨ p.cause ≠ 0 then j.sbdata else Word.ofNat (leNat p.data),
    sberror := if p.cause = 0 then j.sberror else if p.cause = 1 then 2 else if p.cause = 2 then 3 else 7 })

/-- The response reaches its initiator (R157, R173): data of a teller's FRD (R300), the debug module's answer, the reaction to
an error; a clerk that has been reset since discards it (R174). -/
def State.response (s : State) (p : Slip) : State :=
  let s1 := if p.cause = 0 ∨ p.dead then s else s.initiatorReact p.init p.addr p.sub p.write
  if 32 ≤ p.init ∧ p.init < 48 ∧ !p.write then
    match s1.runAt (p.init - 32) with
    | some r =>
      if r.frdTag = some p.coin then s1.setRun (p.init - 32) { r with frdVal := some (Word.ofNat (leNat p.data)) } else s1
    | none => s1
  else if p.init = 66 then s1.debugResponse p
  else s1

/-- The DMAs go on with what waited for a coin (R159, R512, R515). -/
def State.dmaServe (s : State) : State := ((s.rxDrain 0).rxDrain 1).canDrain

/-- SLIP_COMPLETE (R157): the response of the slip with tag `coin` reaches its initiator at CLK_FAB cycle `cycle`, and its coin
returns. -/
def execSlipComplete (coin cycle : Nat) (s : State) : Out :=
  .next (s.clocked .fab (fun s => match s.slipOf coin with
    | none => s
    | some p => if p.applied && !p.onWay then (((s.noteLatency p cycle).response p).returnCoin cycle p).dmaServe else s))

/-- PERTURB_COIN_RETURN (R176): a withheld coin returns to its pool at CLK_FAB cycle `cycle`. -/
def execPerturbCoinReturn (coin cycle : Nat) (s : State) : Out :=
  .next (s.clocked .fab (fun s =>
    let s1 := { s with fab := { s.fab with withheld := s.fab.withheld.filter (fun q => q.1 != coin) } }
    if s.fab.withheld.any (fun q => q.1 == coin) then (s1.unstall cycle s1.fab.stalled).fabRefresh.dmaServe else s))

end Sys2Proof.Machine
end

