-- ==== Sys2Proof/Machine/Nightwatch.lean ====
section
/-!
DEFINITION. Nightwatch (R426-R432): its states, the charging of CSTORE, the gauge, the tamper loops and the retention queue.
-/
namespace Sys2Proof.Machine

/-- NIGHTWATCH_START (R426, R429, R432): the RTC counts from 0 with TIME_VALID 0; CONTINUITY_LOST carries the newest RTC value
in MRAM. -/
def execNightwatchStart (dt : Nat) (s : State) : Out :=
  let s := s.elapse dt
  if s.nw.alive then .next s
  else
    let s1 := s.mset MELO.NWCNT 31 16 (min (s.mfld MELO.NWCNT 31 16 + 1) 65535)
    let nw := { s1.nw with alive := true, rtc := 0, timeValid := false, queue := [], lost := 0, loops := [{}, {}] }
    let s2 := State.nwQueue { s1 with nw := nw } 0x50 (leBytes 4 (s1.nw.rtcMram / 65536) ++ leBytes 2 (s1.nw.rtcMram % 65536))
    .next (s2.newIvl 0 8)

/-- NIGHTWATCH_DEATH (R426): the RTC, the queue and every uncommitted entry are lost. -/
def execNightwatchDeath (dt : Nat) (s : State) : Out :=
  let s := s.elapse dt
  if s.nw.alive then
    .next (State.nwCounts { s with nw := { s.nw with
      alive := false, rtc := 0, timeValid := false, queue := [], lost := 0, loops := [{}, {}] } })
  else .next s

/-- The charge limit in mV (R427). -/
def State.chargeLimit (s : State) : Nat := 2700 + 300 * s.mfld MELO.NWCFG 31 30

/-- FOCV in hundredths (R427). -/
def State.focv (s : State) : Nat :=
  match s.mfld MELO.NWCFG 29 28 with
  | 0 => 70
  | 1 => 76
  | 2 => 80
  | _ => 85

/-- VOC_MEASURE (R427): the boost holds HARV_IN at FOCV × V_OC from then on. -/
def execVocMeasure (voc : Nat) (s : State) : Out :=
  if s.nw.boost then
    .next (s.mwr MELO.NWHARV (Word.ofNat (min voc 65535 * 65536 + min ((voc * s.focv + 50) / 100) 65535)))
  else .next s

/-- COLD_START_EXIT (R426, R427): from 1.9 V upward the boost converter charges CSTORE. -/
def execColdStartExit (vst : Nat) (s : State) : Out :=
  if 1900 ≤ vst then .next { s with nw := { s.nw with boost := true } } else .next s

/-- CHARGE_LIMIT_REACHED (R427, R83): the boost and the path from VDD_M stop. -/
def execChargeLimitReached (vst : Nat) (s : State) : Out :=
  if s.chargeLimit ≤ vst then .next { s with nw := { s.nw with atLimit := true } } else .next s

/-- CHARGE_RESUME (R427): 50 mV below the limit. -/
def execChargeResume (vst : Nat) (s : State) : Out :=
  if vst + 50 ≤ s.chargeLimit then .next { s with nw := { s.nw with atLimit := false } } else .next s

/-- GAUGE_UPDATE (R428, R431): the gauge, and another try for the entries that wait for a commit. -/
def execGaugeUpdate (dt vst : Nat) (s : State) : Out :=
  let s := s.elapse dt
  if s.nw.alive then .next ((s.measureVst vst).nwCommit vst) else .next s

/-- What one sample of a loop shows: 0 good, 1 open, 2 short (R430). -/
def loopKind (pre post : Bool) : Nat := if pre then 2 else if post then 0 else 1

/-- TAMPER's kind byte of a taken condition (R413). -/
def tamperKind (cond : Nat) : Nat := if cond = 0 then 1 else if cond = 1 then 0 else 2

/-- TAMPER_SAMPLE (R430): two consecutive samples of one kind take it; a change queues TAMPER and marks what runs. -/
def execTamperSample (loop dt vst : Nat) (pre post : Bool) (s : State) : Out :=
  let s := s.elapse dt
  if s.nw.alive && decide (loop < 2) && s.mbit MELO.NWCFG (24 + loop) then
    let k := loopKind pre post
    let l := nth ({} : Loop) s.nw.loops loop
    let taken := k == l.last && k != l.cond
    let s1 := { s with nw := { s.nw with loops := upd s.nw.loops loop (fun l => { cond := if taken then k else l.cond, last := k }) } }
    if taken then
      let s2 := s1.nwQueue 0x40 (leBytes 1 loop ++ leBytes 1 (tamperKind k))
      .next ({ s2 with melo := (s2.melo.markSess 32).markIvl 16 } |>.nwCommit vst)
    else .next s1
  else .next s

/-- QUEUE_TRANSFER (R431): the oldest queued event moves into the ledger. -/
def execQueueTransfer (dt : Nat) (s : State) : Out :=
  let s := s.elapse dt
  if s.melo.running then
    match s.nw.queue with
    | [] => .next s
    | e :: t => .next (State.nwCounts (State.nwRecord { s with nw := { s.nw with queue := t } } e))
  else .next s

end Sys2Proof.Machine
end

