-- ==== Sys2Proof/Machine/TellerCtl.lean ====
section
/-!
DEFINITION. The C-slot operations of a teller (chapter 12, R302-R305). Operands: position `n` and the syllable `w`.
-/
namespace Sys2Proof.Machine

/-- Write a predicate at the end of the bundle. -/
def Run.putP (r : Run) (i : Nat) (b : Bool) : Run := { r with pW := r.pW ++ [(i, b)] }

/-- END (R302): the run ends after the bundle. -/
def execOpEnd (n : Nat) (w : Word) (s : State) : Out :=
  .next (s.slotOp n 3 w 1 none (fun r => { r with ctl := some .stop }))

/-- BR (R302, R305): the next bundle is t. -/
def execOpBr (n : Nat) (w : Word) (s : State) : Out :=
  .next (s.slotOp n 3 w 2 none (fun r => { r with ctl := some (.br (bitsOf w 8 0)) }))

/-- LOOP (R304): n = field + 1 iterations over the following bundles up to e. -/
def execOpLoop (n : Nat) (w : Word) (s : State) : Out :=
  .next (s.slotOp n 3 w 3 none (fun r => { r with ctl := some (.loop (bitsOf w 16 9 + 1) (bitsOf w 8 0)) }))

/-- CMP (R302). -/
def execOpCmp (n : Nat) (w : Word) (s : State) : Out :=
  .next (s.slotOp n 3 w 4 none (fun r => r.putP (bitsOf w 18 17) (ccHolds (bitsOf w 21 19) (r.V (bitsOf w 16 12)) (r.V (bitsOf w 11 7)))))

/-- CMPI (R302): the immediate is sign-extended. -/
def execOpCmpi (n : Nat) (w : Word) (s : State) : Out :=
  .next (s.slotOp n 3 w 5 none (fun r =>
    r.putP (bitsOf w 18 17) (ccHolds (bitsOf w 21 19) (r.V (bitsOf w 16 12)) (toWord (toSigned 12 (bitsOf w 11 0))))))

/-- PSET (R302). -/
def execOpPset (n : Nat) (w : Word) (s : State) : Out :=
  .next (s.slotOp n 3 w 6 none (fun r => r.putP (bitsOf w 18 17) (tb w 16)))

/-- The combination that PLOG's op names: AND, OR, XOR, AND NOT (R302). -/
def plogHolds (op : Nat) (a b : Bool) : Bool :=
  match op with
  | 0 => a && b
  | 1 => a || b
  | 2 => a != b
  | _ => a && !b

/-- PLOG (R302). -/
def execOpPlog (n : Nat) (w : Word) (s : State) : Out :=
  .next (s.slotOp n 3 w 7 none (fun r =>
    r.putP (bitsOf w 19 18) (plogHolds (bitsOf w 21 20) (nth false r.p (bitsOf w 17 16)) (nth false r.p (bitsOf w 15 14)))))

/-- PSAT (R302): the sticky SAT flag as the bundle reads it. -/
def execOpPsat (n : Nat) (w : Word) (s : State) : Out :=
  .next (s.slotOp n 3 w 8 none (fun r => r.putP (bitsOf w 18 17) r.sat))

end Sys2Proof.Machine
end

