-- ==== Sys2Proof/Machine/TellerMath.lean ====
section
/-!
DEFINITION. The M-slot operations of a teller (chapter 12, R286-R294): accumulators, ALU, transforms, and the lane operations
of the small-change form. Operands: position `n`, slot M1 (`m1`) or M0, and the syllable `w`.
-/
namespace Sys2Proof.Machine

/-! ### Shared shapes -/

/-- Fields of MAC and its like (R288): accumulator [21:20], Vx [19:15], Vy [14:10], shift entry [9:5]. -/
def macX (w : Word) : Nat := bitsOf w 19 15
def macY (w : Word) : Nat := bitsOf w 14 10
def macS (w : Word) : Nat := bitsOf w 9 5

/-- An operation with one result register and no saturation. -/
def aluOp (n : Nat) (m1 : Bool) (w : Word) (opc : Nat) (f : Run → Word) (s : State) : Out :=
  .next (s.slotOp n (mslot m1) w opc none (fun r => r.putV (fldD w) (f r)))

/-- An operation with one result register, saturated to 32 bits. -/
def satOp (n : Nat) (m1 : Bool) (w : Word) (opc : Nat) (f : Run → Int) (s : State) : Out :=
  .next (s.slotOp n (mslot m1) w opc none (fun r => r.putSat 32 (fldD w) (f r)))

/-- The shifted product of the two registers a MAC names, in the full form (R288). -/
def macTerm (s : State) (r : Run) (w : Word) : Int := shiftI (r.VI (macX w) * r.VI (macY w)) (s.shiftEntry r (macS w))

/-- The lane of a register: lo, or hi. -/
def lane (hi : Bool) (w : Word) : Int := if hi then laneHi w else laneLo w

/-- The shifted product of one lane of the two registers a QMAC names (R294). -/
def qmacTerm (s : State) (r : Run) (w : Word) (hi : Bool) : Int :=
  shiftI (lane hi (r.V (macX w)) * lane hi (r.V (macY w))) (s.shiftEntry r (macS w))

/-- Two lanes saturated to 16 bits into a register; SAT follows. -/
def Run.putLanes (r : Run) (i : Nat) (lo hi : Int) : Run :=
  { r.putV i (ofLanes (satN 16 lo) (satN 16 hi)) with satW := r.satW || satSets 16 lo || satSets 16 hi }

/-- An M0 operation with a fixed stall (R306). -/
def stallOp (n : Nat) (w : Word) (opc : Nat) (sc : Bool) (f : Run → Run) (s : State) : Out :=
  .next (s.slotOp n 0 w opc (some sc) (fun r => { f r with fixed := true }))

/-! ### Multiply-accumulate (R288, R289) -/

/-- MAC (R288). -/
def execOpMac (n : Nat) (m1 : Bool) (w : Word) (s : State) : Out :=
  .next (s.slotOp n (mslot m1) w 1 (some false) (fun r => r.addA (fldAcc w) (macTerm s r w)))

/-- MSU (R288). -/
def execOpMsu (n : Nat) (m1 : Bool) (w : Word) (s : State) : Out :=
  .next (s.slotOp n (mslot m1) w 2 (some false) (fun r => r.addA (fldAcc w) (-macTerm s r w)))

/-- MUL (R288). -/
def execOpMul (n : Nat) (m1 : Bool) (w : Word) (s : State) : Out :=
  .next (s.slotOp n (mslot m1) w 3 (some false) (fun r => r.putA (fldAcc w) (macTerm s r w)))

/-- ACCLD (R288). -/
def execOpAccld (n : Nat) (m1 : Bool) (w : Word) (s : State) : Out :=
  .next (s.slotOp n (mslot m1) w 4 (some false) (fun r =>
    r.putA (fldAcc w) (shiftI (r.VI (macX w) * 2 ^ 31) (s.shiftEntry r (macS w)))))

/-- MOVA (R288, R289): it reads the accumulator before the bundle's own writes. -/
def execOpMova (n : Nat) (m1 : Bool) (w : Word) (s : State) : Out :=
  .next (s.slotOp n (mslot m1) w 5 (some false) (fun r =>
    let r1 := r.putSat 32 (fldD w) (rnd (r.A (fldAcc w)) (bitsOf w 14 9))
    if tb w 8 then r1.putA (fldAcc w) 0 else r1))

/-- ACCCLR (R288). -/
def execOpAccclr (n : Nat) (m1 : Bool) (w : Word) (s : State) : Out :=
  .next (s.slotOp n (mslot m1) w 6 none (fun r => r.putA (fldAcc w) 0))

/-! ### ALU (R288) -/

/-- MOV. -/
def execOpMov (n : Nat) (m1 : Bool) (w : Word) (s : State) : Out := aluOp n m1 w 0x08 (fun r => r.V (fldX w)) s
/-- ADD. -/
def execOpAdd (n : Nat) (m1 : Bool) (w : Word) (s : State) : Out := aluOp n m1 w 0x09 (fun r => r.V (fldX w) + r.V (fldY w)) s
/-- ADDS. -/
def execOpAdds (n : Nat) (m1 : Bool) (w : Word) (s : State) : Out := satOp n m1 w 0x0A (fun r => r.VI (fldX w) + r.VI (fldY w)) s
/-- SUB. -/
def execOpSub (n : Nat) (m1 : Bool) (w : Word) (s : State) : Out := aluOp n m1 w 0x0B (fun r => r.V (fldX w) - r.V (fldY w)) s
/-- SUBS. -/
def execOpSubs (n : Nat) (m1 : Bool) (w : Word) (s : State) : Out := satOp n m1 w 0x0C (fun r => r.VI (fldX w) - r.VI (fldY w)) s
/-- NEG. -/
def execOpNeg (n : Nat) (m1 : Bool) (w : Word) (s : State) : Out := satOp n m1 w 0x0D (fun r => -r.VI (fldX w)) s
/-- ABS. -/
def execOpAbs (n : Nat) (m1 : Bool) (w : Word) (s : State) : Out := satOp n m1 w 0x0E (fun r => ((r.VI (fldX w)).natAbs : Int)) s
/-- MIN. -/
def execOpMin (n : Nat) (m1 : Bool) (w : Word) (s : State) : Out :=
  aluOp n m1 w 0x0F (fun r => if r.VI (fldX w) ≤ r.VI (fldY w) then r.V (fldX w) else r.V (fldY w)) s
/-- MAX. -/
def execOpMax (n : Nat) (m1 : Bool) (w : Word) (s : State) : Out :=
  aluOp n m1 w 0x10 (fun r => if r.VI (fldX w) ≤ r.VI (fldY w) then r.V (fldY w) else r.V (fldX w)) s
/-- AND. -/
def execOpAnd (n : Nat) (m1 : Bool) (w : Word) (s : State) : Out := aluOp n m1 w 0x11 (fun r => r.V (fldX w) &&& r.V (fldY w)) s
/-- OR. -/
def execOpOr (n : Nat) (m1 : Bool) (w : Word) (s : State) : Out := aluOp n m1 w 0x12 (fun r => r.V (fldX w) ||| r.V (fldY w)) s
/-- XOR. -/
def execOpXor (n : Nat) (m1 : Bool) (w : Word) (s : State) : Out := aluOp n m1 w 0x13 (fun r => r.V (fldX w) ^^^ r.V (fldY w)) s
/-- SHL. -/
def execOpShl (n : Nat) (m1 : Bool) (w : Word) (s : State) : Out := aluOp n m1 w 0x14 (fun r => r.V (fldX w) <<< fldY w) s
/-- SHRA: with rounding. -/
def execOpShra (n : Nat) (m1 : Bool) (w : Word) (s : State) : Out :=
  aluOp n m1 w 0x15 (fun r => toWord (rnd (r.VI (fldX w)) (fldY w))) s
/-- SHRL: with truncation. -/
def execOpShrl (n : Nat) (m1 : Bool) (w : Word) (s : State) : Out := aluOp n m1 w 0x16 (fun r => r.V (fldX w) >>> fldY w) s
/-- MULQ. -/
def execOpMulq (n : Nat) (m1 : Bool) (w : Word) (s : State) : Out :=
  satOp n m1 w 0x17 (fun r => rnd (r.VI (fldX w) * r.VI (fldY w)) 31) s
/-- CLAMP: between Vy and V(y+1); the upper bound wins. -/
def execOpClamp (n : Nat) (m1 : Bool) (w : Word) (s : State) : Out :=
  aluOp n m1 w 0x18 (fun r => toWord (min (max (r.VI (fldX w)) (r.VI (fldY w))) (r.VI (fldY w + 1)))) s
/-- MOVI: the immediate sign-extended. -/
def execOpMovi (n : Nat) (m1 : Bool) (w : Word) (s : State) : Out :=
  .next (s.slotOp n (mslot m1) w 0x19 none (fun r => r.putV (fldV w) (toWord (toSigned 16 (bitsOf w 15 0)))))
/-- MOVIH: the upper half; the lower half is kept. -/
def execOpMovih (n : Nat) (m1 : Bool) (w : Word) (s : State) : Out :=
  .next (s.slotOp n (mslot m1) w 0x1A none (fun r => r.putV (fldV w) (putBits (r.V (fldV w)) 31 16 (bitsOf w 15 0))))

/-! ### The biquad (R290) -/

/-- The biquad section of R290 at `n` bits with `q` fraction bits: (y, s1n, s2n) before their saturation flags. -/
def biquad (n q : Nat) (b0 b1 b2 a1 a2 s1 s2 x : Int) : (Int × Int × Int) × Bool :=
  let y0 := rnd (b0 * x + s1 * 2 ^ q) q
  let y := satN n y0
  let s1n := rnd (b1 * x - a1 * y + s2 * 2 ^ q) q
  let s2n := rnd (b2 * x - a2 * y) q
  ((y, satN n s1n, satN n s2n), satSets n y0 || satSets n s1n || satSets n s2n)

/-- BIQ (R290). -/
def execOpBiq (n : Nat) (w : Word) (s : State) : Out :=
  stallOp n w 0x20 false (fun r =>
    let c := fldY w
    let z := fldZ w
    let o := biquad 32 30 (r.VI c) (r.VI (c + 1)) (r.VI (c + 2)) (r.VI (c + 3)) (r.VI (c + 4)) (r.VI z) (r.VI (z + 1)) (r.VI (fldX w))
    { ((r.putV (fldD w) (toWord o.1.1)).putV z (toWord o.1.2.1)).putV (z + 1) (toWord o.1.2.2) with satW := r.satW || o.2 }) s

/-! ### Transforms (R291, R292) -/

/-- K3, KS and KH of R291. -/
def K3 : Int := 715827883
def KS : Int := 1239850262
def KH : Int := 1859775393

/-- CLARKE (R291). -/
def execOpClarke (n : Nat) (w : Word) (s : State) : Out :=
  stallOp n w 0x21 false (fun r =>
    let a := r.VI (fldX w)
    let b := r.VI (fldX w + 1)
    let c := r.VI (fldX w + 2)
    (r.putSat 32 (fldD w) (rnd (K3 * (2 * a - b - c)) 31)).putSat 32 (fldD w + 1) (rnd (KS * (b - c)) 31)) s

/-- ICLARKE (R291). -/
def execOpIclarke (n : Nat) (w : Word) (s : State) : Out :=
  stallOp n w 0x22 false (fun r =>
    let al := r.VI (fldX w)
    let be := r.VI (fldX w + 1)
    ((r.putV (fldD w) (r.V (fldX w))).putSat 32 (fldD w + 1) (rnd (KH * be - al * 2 ^ 30) 31)).putSat 32 (fldD w + 2)
      (rnd (-KH * be - al * 2 ^ 30) 31)) s

/-- sin(2πk/4,096) × 2³¹ for k = 0 … 1,024 rounded to the nearest integer and limited to 2³¹ − 1 (R292), by the Taylor series
in fixed point with 96 fraction bits; `x` is the angle with 96 fraction bits. -/
def sinFix (x : Nat) : Nat :=
  let one := 2 ^ 96
  let x2 := x * x / one
  let step := fun (acc : Nat × Nat × Nat) (i : Nat) =>
    -- acc = (positive part, negative part, term); the next term is term · x² / ((2i+2)(2i+3))
    let t := acc.2.2 * x2 / one / ((2 * i + 2) * (2 * i + 3))
    if i % 2 = 0 then (acc.1, acc.2.1 + t, t) else (acc.1 + t, acc.2.1, t)
  let r := (List.range 14).foldl step (x, 0, x)
  r.1 - r.2.1

/-- π with 96 fraction bits, rounded down. -/
def piFix : Nat := 248902613312231085230521944622

/-- T[k] of R292 for the first quarter, k = 0 … 1,024. -/
def sineQuarter (k : Nat) : Int :=
  let v := sinFix (piFix * k / 2048)
  min (((v + 2 ^ 64) / 2 ^ 65 : Nat) : Int) (2 ^ 31 - 1)

/-- The table T of R292. -/
def sineTable (k : Nat) : Int :=
  let j := k % 4096
  if j ≤ 1024 then sineQuarter j
  else if j ≤ 2048 then sineQuarter (2048 - j)
  else if j ≤ 3072 then -sineFull (j - 2048)
  else -sineFull (4096 - j)
where
  /-- the same entry where its negative is formed: −2³¹ is in range, so only +2³¹ is limited -/
  sineFull (j : Nat) : Int := (((sinFix (piFix * j / 2048) + 2 ^ 64) / 2 ^ 65 : Nat) : Int)

/-- S(t) of R292 for a turn fraction. -/
def tellerSin (t : Word) : Int :=
  let i := bitsOf t 31 20
  sineTable i + rnd ((sineTable (i + 1) - sineTable i) * (bitsOf t 19 4 : Int)) 16

/-- C(t) of R292. -/
def tellerCos (t : Word) : Int := tellerSin (t + 0x40000000)

/-- PARK (R292). -/
def execOpPark (n : Nat) (w : Word) (s : State) : Out :=
  stallOp n w 0x23 false (fun r =>
    let al := r.VI (fldX w)
    let be := r.VI (fldX w + 1)
    let sn := tellerSin (r.V (fldY w))
    let cs := tellerCos (r.V (fldY w))
    (r.putSat 32 (fldD w) (rnd (al * cs + be * sn) 31)).putSat 32 (fldD w + 1) (rnd (be * cs - al * sn) 31)) s

/-- IPARK (R292). -/
def execOpIpark (n : Nat) (w : Word) (s : State) : Out :=
  stallOp n w 0x24 false (fun r =>
    let d := r.VI (fldX w)
    let q := r.VI (fldX w + 1)
    let sn := tellerSin (r.V (fldY w))
    let cs := tellerCos (r.V (fldY w))
    (r.putSat 32 (fldD w) (rnd (d * cs - q * sn) 31)).putSat 32 (fldD w + 1) (rnd (d * sn + q * cs) 31)) s

/-! ### The small-change form (R293, R294) -/

/-- QMAC. -/
def execOpQmac (n : Nat) (m1 : Bool) (w : Word) (s : State) : Out :=
  .next (s.slotOp n (mslot m1) w 1 (some true) (fun r =>
    (r.addA (fldAcc w) (qmacTerm s r w false)).addA (fldAcc w + 1) (qmacTerm s r w true)))

/-- QMSU. -/
def execOpQmsu (n : Nat) (m1 : Bool) (w : Word) (s : State) : Out :=
  .next (s.slotOp n (mslot m1) w 2 (some true) (fun r =>
    (r.addA (fldAcc w) (-qmacTerm s r w false)).addA (fldAcc w + 1) (-qmacTerm s r w true)))

/-- QMUL. -/
def execOpQmul (n : Nat) (m1 : Bool) (w : Word) (s : State) : Out :=
  .next (s.slotOp n (mslot m1) w 3 (some true) (fun r =>
    (r.putA (fldAcc w) (qmacTerm s r w false)).putA (fldAcc w + 1) (qmacTerm s r w true)))

/-- QACCLD. -/
def execOpQaccld (n : Nat) (m1 : Bool) (w : Word) (s : State) : Out :=
  .next (s.slotOp n (mslot m1) w 4 (some true) (fun r =>
    let t := fun hi => shiftI (lane hi (r.V (macX w)) * 2 ^ 15) (s.shiftEntry r (macS w))
    (r.putA (fldAcc w) (t false)).putA (fldAcc w + 1) (t true)))

/-- QMOVA. -/
def execOpQmova (n : Nat) (m1 : Bool) (w : Word) (s : State) : Out :=
  .next (s.slotOp n (mslot m1) w 5 (some true) (fun r =>
    let sh := bitsOf w 14 9
    let r1 := r.putLanes (fldD w) (rnd (r.A (fldAcc w)) sh) (rnd (r.A (fldAcc w + 1)) sh)
    if tb w 8 then (r1.putA (fldAcc w) 0).putA (fldAcc w + 1) 0 else r1))

/-- PACK. -/
def execOpPack (n : Nat) (m1 : Bool) (w : Word) (s : State) : Out :=
  .next (s.slotOp n (mslot m1) w 0x1C (some true) (fun r =>
    r.putLanes (fldD w) (rnd (r.VI (fldX w)) 16) (rnd (r.VI (fldY w)) 16)))

/-- UNPK. -/
def execOpUnpk (n : Nat) (m1 : Bool) (w : Word) (s : State) : Out :=
  .next (s.slotOp n (mslot m1) w 0x1D (some true) (fun r =>
    r.putV (fldD w) (toWord (lane (tb w 5) (r.V (fldX w)) * 2 ^ 16))))

/-- QADDS. -/
def execOpQadds (n : Nat) (m1 : Bool) (w : Word) (s : State) : Out :=
  .next (s.slotOp n (mslot m1) w 0x1E (some true) (fun r =>
    r.putLanes (fldD w) (laneLo (r.V (fldX w)) + laneLo (r.V (fldY w))) (laneHi (r.V (fldX w)) + laneHi (r.V (fldY w)))))

/-- QSUBS. -/
def execOpQsubs (n : Nat) (m1 : Bool) (w : Word) (s : State) : Out :=
  .next (s.slotOp n (mslot m1) w 0x1F (some true) (fun r =>
    r.putLanes (fldD w) (laneLo (r.V (fldX w)) - laneLo (r.V (fldY w))) (laneHi (r.V (fldX w)) - laneHi (r.V (fldY w)))))

/-- QBIQ: R290 per lane with Q2.14 coefficients. -/
def execOpQbiq (n : Nat) (w : Word) (s : State) : Out :=
  stallOp n w 0x20 true (fun r =>
    let c := fldY w
    let z := fldZ w
    let o := fun hi => biquad 16 14 (laneLo (r.V c)) (laneHi (r.V c)) (laneLo (r.V (c + 1))) (laneHi (r.V (c + 1))) (laneLo (r.V (c + 2)))
      (lane hi (r.V z)) (lane hi (r.V (z + 1))) (lane hi (r.V (fldX w)))
    let l := o false
    let h := o true
    { ((r.putV (fldD w) (ofLanes l.1.1 h.1.1)).putV z (ofLanes l.1.2.1 h.1.2.1)).putV (z + 1) (ofLanes l.1.2.2 h.1.2.2) with
      satW := r.satW || l.2 || h.2 }) s

/-- QCLARKE. -/
def execOpQclarke (n : Nat) (w : Word) (s : State) : Out :=
  stallOp n w 0x21 true (fun r =>
    let a := laneLo (r.V (fldX w))
    let b := laneHi (r.V (fldX w))
    let c := laneLo (r.V (fldX w + 1))
    r.putLanes (fldD w) (rnd (10923 * (2 * a - b - c)) 15) (rnd (18919 * (b - c)) 15)) s

/-- QICLARKE. -/
def execOpQiclarke (n : Nat) (w : Word) (s : State) : Out :=
  stallOp n w 0x22 true (fun r =>
    let al := laneLo (r.V (fldX w))
    let be := laneHi (r.V (fldX w))
    (r.putLanes (fldD w) al (rnd (28378 * be - al * 2 ^ 14) 15)).putLanes (fldD w + 1) (rnd (-28378 * be - al * 2 ^ 14) 15) 0) s

/-- S and C of R292 in Q1.15 (R294). -/
def qSin (t : Word) : Int := satN 16 (rnd (tellerSin t) 16)
def qCos (t : Word) : Int := satN 16 (rnd (tellerCos t) 16)

/-- Forming S and C in Q1.15 saturates (R286, R294). -/
def qTrigSat (t : Word) : Bool := satSets 16 (rnd (tellerSin t) 16) || satSets 16 (rnd (tellerCos t) 16)

/-- QPARK. -/
def execOpQpark (n : Nat) (w : Word) (s : State) : Out :=
  stallOp n w 0x23 true (fun r =>
    let al := laneLo (r.V (fldX w))
    let be := laneHi (r.V (fldX w))
    let t := r.V (fldY w)
    let r1 := r.putLanes (fldD w) (rnd (al * qCos t + be * qSin t) 15) (rnd (be * qCos t - al * qSin t) 15)
    { r1 with satW := r1.satW || qTrigSat t }) s

/-- QIPARK. -/
def execOpQipark (n : Nat) (w : Word) (s : State) : Out :=
  stallOp n w 0x24 true (fun r =>
    let d := laneLo (r.V (fldX w))
    let q := laneHi (r.V (fldX w))
    let t := r.V (fldY w)
    let r1 := r.putLanes (fldD w) (rnd (d * qCos t - q * qSin t) 15) (rnd (d * qSin t + q * qCos t) 15)
    { r1 with satW := r1.satW || qTrigSat t }) s

/-- NOP (R282): slot 0 M0, 1 M1, 2 L, 3 C. -/
def execOpNop (n slot : Nat) (w : Word) (s : State) : Out := .next (s.slotOp n (slot % 4) w 0 none (fun r => r))

end Sys2Proof.Machine
end

