-- ==== Sys2Proof/Machine/Dispatch.lean ====
section
/-!
DEFINITION. Which meaning each command has: one arm per constructor.
-/
namespace Sys2Proof.Machine

/-- The effect of a command on everything but the queue. -/
def exec (i : Instr) (s : State) : Host.Outcome State Fault Refusal :=
  match i with
  | .powerOnReset => Sys2Proof.Machine.execPowerOnReset s
  | .supplyMonitorFall rail => Sys2Proof.Machine.execSupplyMonitorFall rail s
  | .supplyMonitorGood rail => Sys2Proof.Machine.execSupplyMonitorGood rail s
  | .resetCauseArrive codes => Sys2Proof.Machine.execResetCauseArrive codes s
  | .resetStretchEnd => Sys2Proof.Machine.execResetStretchEnd s
  | .rstNRequest lowNs usSinceDriven holds => Sys2Proof.Machine.execRstNRequest lowNs usSinceDriven holds s
  | .lockstepMismatch h => Sys2Proof.Machine.execLockstepMismatch h s
  | .coreResetRestart h => Sys2Proof.Machine.execCoreResetRestart h s
  | .rstreqCoreReset init clerks => Sys2Proof.Machine.execRstreqCoreReset init clerks s
  | .rstreqSystemReset init => Sys2Proof.Machine.execRstreqSystemReset init s
  | .wdogKick init => Sys2Proof.Machine.execWdogKick init s
  | .watchdogExpiry at_ => Sys2Proof.Machine.execWatchdogExpiry at_ s
  | .safetyInitComplete pass bad => Sys2Proof.Machine.execSafetyInitComplete pass bad s
  | .controlDieRelease straps osc => Sys2Proof.Machine.execControlDieRelease straps osc s
  | .dawnSelfTestEnd tel conv chk retried rows cols minLeft ok => Sys2Proof.Machine.execDawnSelfTestEnd tel conv chk retried rows cols minLeft ok s
  | .xspiResetRelease => Sys2Proof.Machine.execXspiResetRelease s
  | .bootImageAttemptEnd header payload => Sys2Proof.Machine.execBootImageAttemptEnd header payload s
  | .adpllRefcfgWrite init pll data => Sys2Proof.Machine.execAdpllRefcfgWrite init pll data s
  | .adpllFcwWrite init pll data => Sys2Proof.Machine.execAdpllFcwWrite init pll data s
  | .adpllSoftReset init pll data => Sys2Proof.Machine.execAdpllSoftReset init pll data s
  | .adpllLockDeclare pll errs trims worst maxErr => Sys2Proof.Machine.execAdpllLockDeclare pll errs trims worst maxErr s
  | .adpllLockLoss pll errs => Sys2Proof.Machine.execAdpllLockLoss pll errs s
  | .referenceLoss pll => Sys2Proof.Machine.execReferenceLoss pll s
  | .graceExpiry => Sys2Proof.Machine.execGraceExpiry s
  | .adpllOutputCfgWrite init pll k data => Sys2Proof.Machine.execAdpllOutputCfgWrite init pll k data s
  | .icalUpdate group target worst maxErr => Sys2Proof.Machine.execIcalUpdate group target worst maxErr s
  | .clockMonitorWindow => Sys2Proof.Machine.execClockMonitorWindow s
  | .clockCheckFail at_ => Sys2Proof.Machine.execClockCheckFail at_ s
  | .stoppedDomainRestart dom => Sys2Proof.Machine.execStoppedDomainRestart dom s
  | .heartbeatLoss at_ => Sys2Proof.Machine.execHeartbeatLoss at_ s
  | .autoRestart => Sys2Proof.Machine.execAutoRestart s
  | .registerWrite init addr len data sub tick => Sys2Proof.Machine.execRegisterWrite init addr len data sub tick s
  | .fabricErrorResponse init addr cause sub write => Sys2Proof.Machine.execFabricErrorResponse init addr cause sub write s
  | .pageLock init base => Sys2Proof.Machine.execPageLock init base s
  | .pageUnlock init base => Sys2Proof.Machine.execPageUnlock init base s
  | .pageSoftReset init base data => Sys2Proof.Machine.execPageSoftReset init base data s
  | .softResetComplete base => Sys2Proof.Machine.execSoftResetComplete base s
  | .ifverSelect init base data => Sys2Proof.Machine.execIfverSelect init base data s
  | .testKeyTake init => Sys2Proof.Machine.execTestKeyTake init s
  | .testKeyDrop init data => Sys2Proof.Machine.execTestKeyDrop init data s
  | .verselClose init => Sys2Proof.Machine.execVerselClose init s
  | .debugOpen init => Sys2Proof.Machine.execDebugOpen init s
  | .debugClose init data => Sys2Proof.Machine.execDebugClose init data s
  | .intcClaim init ctx => Sys2Proof.Machine.execIntcClaim init ctx s
  | .intcComplete init ctx data => Sys2Proof.Machine.execIntcComplete init ctx data s
  | .slipIssue init addr write bytes enables len cycle sub us kind ecc => Sys2Proof.Machine.execSlipIssue init addr write bytes enables len cycle sub us kind ecc s
  | .slipGrant port cycle target tick us events ecc => Sys2Proof.Machine.execSlipGrant port cycle target tick us events ecc s
  | .slipComplete coin cycle => Sys2Proof.Machine.execSlipComplete coin cycle s
  | .slipAged coin cycle => Sys2Proof.Machine.execSlipAged coin cycle s
  | .slipUrgent coin at_ => Sys2Proof.Machine.execSlipUrgent coin at_ s
  | .perturbCoinReturn coin cycle => Sys2Proof.Machine.execPerturbCoinReturn coin cycle s
  | .watchSelect init data => Sys2Proof.Machine.execWatchSelect init data s
  | .triggerGroupFire codes cycle => Sys2Proof.Machine.execTriggerGroupFire codes cycle s
  | .adcTrigEdge j rising => Sys2Proof.Machine.execAdcTrigEdge j rising s
  | .swtrigWrite init data cycle => Sys2Proof.Machine.execSwtrigWrite init data cycle s
  | .triggerGroupCfgWrite init k data => Sys2Proof.Machine.execTriggerGroupCfgWrite init k data s
  | .conversionEnd n vin vinSpare => Sys2Proof.Machine.execConversionEnd n vin vinSpare s
  | .resultPush n cycle => Sys2Proof.Machine.execResultPush n cycle s
  | .resultRead init n => Sys2Proof.Machine.execResultRead init n s
  | .entryWrite init n k b data => Sys2Proof.Machine.execEntryWrite init n k b data s
  | .converterDisable init n => Sys2Proof.Machine.execConverterDisable init n s
  | .converterRotcfgWrite init data => Sys2Proof.Machine.execConverterRotcfgWrite init data s
  | .converterShadowStart spare p => Sys2Proof.Machine.execConverterShadowStart spare p s
  | .converterHandover => Sys2Proof.Machine.execConverterHandover s
  | .converterShadowAbandon => Sys2Proof.Machine.execConverterShadowAbandon s
  | .pwmEnable init n tick => Sys2Proof.Machine.execPwmEnable init n tick s
  | .pwmDisable init n tick => Sys2Proof.Machine.execPwmDisable init n tick s
  | .pwmStart init k data tick => Sys2Proof.Machine.execPwmStart init k data tick s
  | .pwmPeriodStart n => Sys2Proof.Machine.execPwmPeriodStart n s
  | .followerReachPer n => Sys2Proof.Machine.execFollowerReachPer n s
  | .pwmCompareMatch n k => Sys2Proof.Machine.execPwmCompareMatch n k s
  | .deadTimeExpiry n => Sys2Proof.Machine.execDeadTimeExpiry n s
  | .syncReceive n k => Sys2Proof.Machine.execSyncReceive n k s
  | .syncInEdge rising at_ => Sys2Proof.Machine.execSyncInEdge rising at_ s
  | .syncOutPulseEnd => Sys2Proof.Machine.execSyncOutPulseEnd s
  | .liveCompareWrite init sub n k data tick => Sys2Proof.Machine.execLiveCompareWrite init sub n k data tick s
  | .shadowWrite init n k data => Sys2Proof.Machine.execShadowWrite init n k data s
  | .pwmCommit init data tick => Sys2Proof.Machine.execPwmCommit init data tick s
  | .tripCfgWrite init n data tripIn tick => Sys2Proof.Machine.execTripCfgWrite init n data tripIn tick s
  | .tripInputActive n at_ tripIn => Sys2Proof.Machine.execTripInputActive n at_ tripIn s
  | .tripInputInactive n at_ tripIn => Sys2Proof.Machine.execTripInputInactive n at_ tripIn s
  | .tripForce init n data tick => Sys2Proof.Machine.execTripForce init n data tick s
  | .pwmcForce init k data tick => Sys2Proof.Machine.execPwmcForce init k data tick s
  | .tripClear init n data tick => Sys2Proof.Machine.execTripClear init n data tick s
  | .gateVetoAssert at_ => Sys2Proof.Machine.execGateVetoAssert at_ s
  | .gateVetoRelease => Sys2Proof.Machine.execGateVetoRelease s
  | .gateGroupEnable init g tick => Sys2Proof.Machine.execGateGroupEnable init g tick s
  | .gateGroupDisable init g tick => Sys2Proof.Machine.execGateGroupDisable init g tick s
  | .shutdownPhase2 g at_ => Sys2Proof.Machine.execShutdownPhase2 g at_ s
  | .shutdownPhase3 g at_ => Sys2Proof.Machine.execShutdownPhase3 g at_ s
  | .hbEnable init n tick => Sys2Proof.Machine.execHbEnable init n tick s
  | .hbDisable init n tick => Sys2Proof.Machine.execHbDisable init n tick s
  | .interlockExpiry n at_ => Sys2Proof.Machine.execInterlockExpiry n at_ s
  | .bothOnCommand n at_ => Sys2Proof.Machine.execBothOnCommand n at_ s
  | .faultBallAssert n at_ low => Sys2Proof.Machine.execFaultBallAssert n at_ low s
  | .overcurrentAssert n at_ => Sys2Proof.Machine.execOvercurrentAssert n at_ s
  | .blankingWindowEnd n at_ => Sys2Proof.Machine.execBlankingWindowEnd n at_ s
  | .retryWaitEnd n at_ => Sys2Proof.Machine.execRetryWaitEnd n at_ s
  | .tryResetTimer n => Sys2Proof.Machine.execTryResetTimer n s
  | .auxEnable init => Sys2Proof.Machine.execAuxEnable init s
  | .auxPrechargeEnd n => Sys2Proof.Machine.execAuxPrechargeEnd n s
  | .auxPeriodStart => Sys2Proof.Machine.execAuxPeriodStart s
  | .auxDutyMatch n => Sys2Proof.Machine.execAuxDutyMatch n s
  | .hallCodeChange h => Sys2Proof.Machine.execHallCodeChange h s
  | .bootstrapUv n => Sys2Proof.Machine.execBootstrapUv n s
  | .auxOvercurrent => Sys2Proof.Machine.execAuxOvercurrent s
  | .auxOcClear init above => Sys2Proof.Machine.execAuxOcClear init above s
  | .comparatorCrossing n vin seen => Sys2Proof.Machine.execComparatorCrossing n vin seen s
  | .comparatorEnable init n data vin => Sys2Proof.Machine.execComparatorEnable init n data vin s
  | .firstDecisionEnd n vin => Sys2Proof.Machine.execFirstDecisionEnd n vin s
  | .thresholdWrite init n data vin => Sys2Proof.Machine.execThresholdWrite init n data vin s
  | .comparatorCheckStart init pc data => Sys2Proof.Machine.execComparatorCheckStart init pc data s
  | .comparatorCheckEnd pc seen vin => Sys2Proof.Machine.execComparatorCheckEnd pc seen vin s
  | .pushArrival n cycle => Sys2Proof.Machine.execPushArrival n cycle s
  | .kickWrite init n data cycle => Sys2Proof.Machine.execKickWrite init n data cycle s
  | .instanceStart n us cycle => Sys2Proof.Machine.execInstanceStart n us cycle s
  | .bundleStallEnd n cycle fixedEnds => Sys2Proof.Machine.execBundleStallEnd n cycle fixedEnds s
  | .instanceEnable init n k data => Sys2Proof.Machine.execInstanceEnable init n k data s
  | .instanceDisable init n k data => Sys2Proof.Machine.execInstanceDisable init n k data s
  | .libraryWrite init addr bytes => Sys2Proof.Machine.execLibraryWrite init addr bytes s
  | .pgXWrite init k data => Sys2Proof.Machine.execPgXWrite init k data s
  | .tellerRotcfgWrite init data => Sys2Proof.Machine.execTellerRotcfgWrite init data s
  | .tellerRotationStart p q => Sys2Proof.Machine.execTellerRotationStart p q s
  | .tellerCopyEnd => Sys2Proof.Machine.execTellerCopyEnd s
  | .tellerShadowMismatch => Sys2Proof.Machine.execTellerShadowMismatch s
  | .tellerHandover => Sys2Proof.Machine.execTellerHandover s
  | .tellerRotationAbandon => Sys2Proof.Machine.execTellerRotationAbandon s
  | .tellerUnitError u => Sys2Proof.Machine.execTellerUnitError u s
  | .opNop n slot w => Sys2Proof.Machine.execOpNop n slot w s
  | .opMac n m1 w => Sys2Proof.Machine.execOpMac n m1 w s
  | .opMsu n m1 w => Sys2Proof.Machine.execOpMsu n m1 w s
  | .opMul n m1 w => Sys2Proof.Machine.execOpMul n m1 w s
  | .opAccld n m1 w => Sys2Proof.Machine.execOpAccld n m1 w s
  | .opMova n m1 w => Sys2Proof.Machine.execOpMova n m1 w s
  | .opAccclr n m1 w => Sys2Proof.Machine.execOpAccclr n m1 w s
  | .opMov n m1 w => Sys2Proof.Machine.execOpMov n m1 w s
  | .opAdd n m1 w => Sys2Proof.Machine.execOpAdd n m1 w s
  | .opAdds n m1 w => Sys2Proof.Machine.execOpAdds n m1 w s
  | .opSub n m1 w => Sys2Proof.Machine.execOpSub n m1 w s
  | .opSubs n m1 w => Sys2Proof.Machine.execOpSubs n m1 w s
  | .opNeg n m1 w => Sys2Proof.Machine.execOpNeg n m1 w s
  | .opAbs n m1 w => Sys2Proof.Machine.execOpAbs n m1 w s
  | .opMin n m1 w => Sys2Proof.Machine.execOpMin n m1 w s
  | .opMax n m1 w => Sys2Proof.Machine.execOpMax n m1 w s
  | .opAnd n m1 w => Sys2Proof.Machine.execOpAnd n m1 w s
  | .opOr n m1 w => Sys2Proof.Machine.execOpOr n m1 w s
  | .opXor n m1 w => Sys2Proof.Machine.execOpXor n m1 w s
  | .opShl n m1 w => Sys2Proof.Machine.execOpShl n m1 w s
  | .opShra n m1 w => Sys2Proof.Machine.execOpShra n m1 w s
  | .opShrl n m1 w => Sys2Proof.Machine.execOpShrl n m1 w s
  | .opMulq n m1 w => Sys2Proof.Machine.execOpMulq n m1 w s
  | .opClamp n m1 w => Sys2Proof.Machine.execOpClamp n m1 w s
  | .opMovi n m1 w => Sys2Proof.Machine.execOpMovi n m1 w s
  | .opMovih n m1 w => Sys2Proof.Machine.execOpMovih n m1 w s
  | .opBiq n w => Sys2Proof.Machine.execOpBiq n w s
  | .opClarke n w => Sys2Proof.Machine.execOpClarke n w s
  | .opIclarke n w => Sys2Proof.Machine.execOpIclarke n w s
  | .opPark n w => Sys2Proof.Machine.execOpPark n w s
  | .opIpark n w => Sys2Proof.Machine.execOpIpark n w s
  | .opQmac n m1 w => Sys2Proof.Machine.execOpQmac n m1 w s
  | .opQmsu n m1 w => Sys2Proof.Machine.execOpQmsu n m1 w s
  | .opQmul n m1 w => Sys2Proof.Machine.execOpQmul n m1 w s
  | .opQaccld n m1 w => Sys2Proof.Machine.execOpQaccld n m1 w s
  | .opQmova n m1 w => Sys2Proof.Machine.execOpQmova n m1 w s
  | .opPack n m1 w => Sys2Proof.Machine.execOpPack n m1 w s
  | .opUnpk n m1 w => Sys2Proof.Machine.execOpUnpk n m1 w s
  | .opQadds n m1 w => Sys2Proof.Machine.execOpQadds n m1 w s
  | .opQsubs n m1 w => Sys2Proof.Machine.execOpQsubs n m1 w s
  | .opQbiq n w => Sys2Proof.Machine.execOpQbiq n w s
  | .opQclarke n w => Sys2Proof.Machine.execOpQclarke n w s
  | .opQiclarke n w => Sys2Proof.Machine.execOpQiclarke n w s
  | .opQpark n w => Sys2Proof.Machine.execOpQpark n w s
  | .opQipark n w => Sys2Proof.Machine.execOpQipark n w s
  | .opLdw n w us cycle ecc => Sys2Proof.Machine.execOpLdw n w us cycle ecc s
  | .opStw n w => Sys2Proof.Machine.execOpStw n w s
  | .opLdq n w us cycle ecc => Sys2Proof.Machine.execOpLdq n w us cycle ecc s
  | .opStq n w => Sys2Proof.Machine.execOpStq n w s
  | .opLdin n w => Sys2Proof.Machine.execOpLdin n w s
  | .opLddep n w us cycle ecc => Sys2Proof.Machine.execOpLddep n w us cycle ecc s
  | .opOut n w cycle => Sys2Proof.Machine.execOpOut n w cycle s
  | .opPush n w cycle => Sys2Proof.Machine.execOpPush n w cycle s
  | .opFwr n w cycle => Sys2Proof.Machine.execOpFwr n w cycle s
  | .opTrig n w cycle => Sys2Proof.Machine.execOpTrig n w cycle s
  | .opFrd n w cycle => Sys2Proof.Machine.execOpFrd n w cycle s
  | .opPgstep n w => Sys2Proof.Machine.execOpPgstep n w s
  | .opFence n w => Sys2Proof.Machine.execOpFence n w s
  | .opEnd n w => Sys2Proof.Machine.execOpEnd n w s
  | .opBr n w => Sys2Proof.Machine.execOpBr n w s
  | .opLoop n w => Sys2Proof.Machine.execOpLoop n w s
  | .opCmp n w => Sys2Proof.Machine.execOpCmp n w s
  | .opCmpi n w => Sys2Proof.Machine.execOpCmpi n w s
  | .opPset n w => Sys2Proof.Machine.execOpPset n w s
  | .opPlog n w => Sys2Proof.Machine.execOpPlog n w s
  | .opPsat n w => Sys2Proof.Machine.execOpPsat n w s
  | .settlementEnable init => Sys2Proof.Machine.execSettlementEnable init s
  | .settlementPeriodStart => Sys2Proof.Machine.execSettlementPeriodStart s
  | .engineDeposit init cycle => Sys2Proof.Machine.execEngineDeposit init cycle s
  | .vbusWrite init data => Sys2Proof.Machine.execVbusWrite init data s
  | .accountEnable init k data => Sys2Proof.Machine.execAccountEnable init k data s
  | .accountDisable init k data => Sys2Proof.Machine.execAccountDisable init k data s
  | .contingencyForce init clr => Sys2Proof.Machine.execContingencyForce init clr s
  | .contingencyClear init => Sys2Proof.Machine.execContingencyClear init s
  | .mpptEnable init m => Sys2Proof.Machine.execMpptEnable init m s
  | .mpptSample init m data => Sys2Proof.Machine.execMpptSample init m data s
  | .mpptStep m secs => Sys2Proof.Machine.execMpptStep m secs s
  | .scanTimerDue m => Sys2Proof.Machine.execScanTimerDue m s
  | .scanRequest init m => Sys2Proof.Machine.execScanRequest init m s
  | .gridEnable init age => Sys2Proof.Machine.execGridEnable init age s
  | .gridSample init data => Sys2Proof.Machine.execGridSample init data s
  | .gridStep age => Sys2Proof.Machine.execGridStep age s
  | .gridInputLoss => Sys2Proof.Machine.execGridInputLoss s
  | .sequenceError => Sys2Proof.Machine.execSequenceError s
  | .gridSyncSet => Sys2Proof.Machine.execGridSyncSet s
  | .fastDipDetect => Sys2Proof.Machine.execFastDipDetect s
  | .excursionEnd => Sys2Proof.Machine.execExcursionEnd s
  | .gridStageAct j => Sys2Proof.Machine.execGridStageAct j s
  | .rocofIsland => Sys2Proof.Machine.execRocofIsland s
  | .vectorShiftIsland => Sys2Proof.Machine.execVectorShiftIsland s
  | .probeWindowEnd => Sys2Proof.Machine.execProbeWindowEnd s
  | .tripFlagClear init => Sys2Proof.Machine.execTripFlagClear init s
  | .islandFlagClear init => Sys2Proof.Machine.execIslandFlagClear init s
  | .tableApply init => Sys2Proof.Machine.execTableApply init s
  | .gridStatusTransfer => Sys2Proof.Machine.execGridStatusTransfer s
  | .gridStatusTimeout => Sys2Proof.Machine.execGridStatusTimeout s
  | .metrologySample mods clip => Sys2Proof.Machine.execMetrologySample mods clip s
  | .pulseWidthEnd n => Sys2Proof.Machine.execPulseWidthEnd n s
  | .acCycleEnd y0 y1 => Sys2Proof.Machine.execAcCycleEnd y0 y1 s
  | .meterBlockEnd ac temp => Sys2Proof.Machine.execMeterBlockEnd ac temp s
  | .meloskernBrownout dt vst ok => Sys2Proof.Machine.execMeloskernBrownout dt vst ok s
  | .meloskernStart dt level => Sys2Proof.Machine.execMeloskernStart dt level s
  | .mramCommit dt ok => Sys2Proof.Machine.execMramCommit dt ok s
  | .clockRatioWindow dt ratio mOff nwOff => Sys2Proof.Machine.execClockRatioWindow dt ratio mOff nwOff s
  | .ledgerPoll dt => Sys2Proof.Machine.execLedgerPoll dt s
  | .pollTimeout dt => Sys2Proof.Machine.execPollTimeout dt s
  | .controlDieLoss dt => Sys2Proof.Machine.execControlDieLoss dt s
  | .mailboxDoorbell init => Sys2Proof.Machine.execMailboxDoorbell init s
  | .mailboxCancel init pend => Sys2Proof.Machine.execMailboxCancel init pend s
  | .mirrorStale => Sys2Proof.Machine.execMirrorStale s
  | .replyPosted => Sys2Proof.Machine.execReplyPosted s
  | .mbxNop => Sys2Proof.Machine.execMbxNop s
  | .sessionOpen => Sys2Proof.Machine.execSessionOpen s
  | .sessionClose => Sys2Proof.Machine.execSessionClose s
  | .ledgerRead => Sys2Proof.Machine.execLedgerRead s
  | .ledgerExport => Sys2Proof.Machine.execLedgerExport s
  | .timeSet => Sys2Proof.Machine.execTimeSet s
  | .commBegin => Sys2Proof.Machine.execCommBegin s
  | .commWrite => Sys2Proof.Machine.execCommWrite s
  | .commCommit => Sys2Proof.Machine.execCommCommit s
  | .commAbort => Sys2Proof.Machine.execCommAbort s
  | .keygen => Sys2Proof.Machine.execKeygen s
  | .sessionTailSign => Sys2Proof.Machine.execSessionTailSign s
  | .intervalBoundary dt => Sys2Proof.Machine.execIntervalBoundary dt s
  | .sealChange dt level => Sys2Proof.Machine.execSealChange dt level s
  | .nightwatchStart dt => Sys2Proof.Machine.execNightwatchStart dt s
  | .nightwatchDeath dt => Sys2Proof.Machine.execNightwatchDeath dt s
  | .vocMeasure voc => Sys2Proof.Machine.execVocMeasure voc s
  | .chargeLimitReached vst => Sys2Proof.Machine.execChargeLimitReached vst s
  | .gaugeUpdate dt vst => Sys2Proof.Machine.execGaugeUpdate dt vst s
  | .tamperSample loop dt vst pre post => Sys2Proof.Machine.execTamperSample loop dt vst pre post s
  | .queueTransfer dt => Sys2Proof.Machine.execQueueTransfer dt s
  | .safetyCycle at_ kmir lkfb hgRb lgRb fault => Sys2Proof.Machine.execSafetyCycle at_ kmir lkfb hgRb lgRb fault s
  | .channelDisagreement at_ => Sys2Proof.Machine.execChannelDisagreement at_ s
  | .safetyInputChange at_ input cur level => Sys2Proof.Machine.execSafetyInputChange at_ input cur level s
  | .inputDiscrepancy at_ f => Sys2Proof.Machine.execInputDiscrepancy at_ f s
  | .claimedComparatorStop at_ n => Sys2Proof.Machine.execClaimedComparatorStop at_ n s
  | .wcLineStop n => Sys2Proof.Machine.execWcLineStop n s
  | .safetyConversionRound at_ codes => Sys2Proof.Machine.execSafetyConversionRound at_ codes s
  | .safetyResetPress spMs curMs => Sys2Proof.Machine.execSafetyResetPress spMs curMs s
  | .presenceWindowEnd => Sys2Proof.Machine.execPresenceWindowEnd s
  | .coilCurrentTimeout n => Sys2Proof.Machine.execCoilCurrentTimeout n s
  | .mirrorTimeout n => Sys2Proof.Machine.execMirrorTimeout n s
  | .contactorTestPulse n code hg => Sys2Proof.Machine.execContactorTestPulse n code hg s
  | .testPulseEnd n code => Sys2Proof.Machine.execTestPulseEnd n code s
  | .openingDeadline n => Sys2Proof.Machine.execOpeningDeadline n s
  | .curfewBackstop n => Sys2Proof.Machine.execCurfewBackstop n s
  | .lockMoveEnd p code fb => Sys2Proof.Machine.execLockMoveEnd p code fb s
  | .connectionTimeout c => Sys2Proof.Machine.execConnectionTimeout c s
  | .safetyFrameSend c => Sys2Proof.Machine.execSafetyFrameSend c s
  | .safetyFrameRelay init data => Sys2Proof.Machine.execSafetyFrameRelay init data s
  | .safetyFrameReceive => Sys2Proof.Machine.execSafetyFrameReceive s
  | .sfVetoRelease at_ hbUs => Sys2Proof.Machine.execSfVetoRelease at_ hbUs s
  | .sfHalt at_ => Sys2Proof.Machine.execSfHalt at_ s
  | .sfClose => Sys2Proof.Machine.execSfClose s
  | .sfOpen => Sys2Proof.Machine.execSfOpen s
  | .sfLock => Sys2Proof.Machine.execSfLock s
  | .sfUnlock => Sys2Proof.Machine.execSfUnlock s
  | .sfParamBegin => Sys2Proof.Machine.execSfParamBegin s
  | .sfParamWrite => Sys2Proof.Machine.execSfParamWrite s
  | .sfParamCheck => Sys2Proof.Machine.execSfParamCheck s
  | .sfParamConfirm => Sys2Proof.Machine.execSfParamConfirm s
  | .sfParamAbort => Sys2Proof.Machine.execSfParamAbort s
  | .sfReadParam => Sys2Proof.Machine.execSfReadParam s
  | .healthEnable init data => Sys2Proof.Machine.execHealthEnable init data s
  | .rotationSchedule teller at_ => Sys2Proof.Machine.execRotationSchedule teller at_ s
  | .sliceStart at_ kind target => Sys2Proof.Machine.execSliceStart at_ kind target s
  | .sliceEnd at_ us cycle sig points => Sys2Proof.Machine.execSliceEnd at_ us cycle sig points s
  | .sliceDeadline us cycle => Sys2Proof.Machine.execSliceDeadline us cycle s
  | .comparatorCheckSchedule at_ us cycle => Sys2Proof.Machine.execComparatorCheckSchedule at_ us cycle s
  | .checkerRotation c at_ => Sys2Proof.Machine.execCheckerRotation c at_ s
  | .checkerTakeover c mismatch => Sys2Proof.Machine.execCheckerTakeover c mismatch s
  | .scrubRead us cycle ecc => Sys2Proof.Machine.execScrubRead us cycle ecc s
  | .jtagExtest bits => Sys2Proof.Machine.execJtagExtest bits s
  | .jtagSamplePreload pins bits => Sys2Proof.Machine.execJtagSamplePreload pins bits s
  | .jtagIdcode => Sys2Proof.Machine.execJtagIdcode s
  | .jtagClamp => Sys2Proof.Machine.execJtagClamp s
  | .jtagHighz => Sys2Proof.Machine.execJtagHighz s
  | .jtagDtmcs => Sys2Proof.Machine.execJtagDtmcs s
  | .jtagDmi op addr data cycle => Sys2Proof.Machine.execJtagDmi op addr data cycle s
  | .jtagSysrst => Sys2Proof.Machine.execJtagSysrst s
  | .jtagCorerst => Sys2Proof.Machine.execJtagCorerst s
  | .jtagIntscan clean => Sys2Proof.Machine.execJtagIntscan clean s
  | .jtagBypass => Sys2Proof.Machine.execJtagBypass s
  | .intscanExit => Sys2Proof.Machine.execIntscanExit s
  | .machineTimerMatch h time => Sys2Proof.Machine.execMachineTimerMatch h time s
  | .oxLaneEnable init n => Sys2Proof.Machine.execOxLaneEnable init n s
  | .oxLaneDisable init n => Sys2Proof.Machine.execOxLaneDisable init n s
  | .oxRetrain init n => Sys2Proof.Machine.execOxRetrain init n s
  | .oxAlignDone n => Sys2Proof.Machine.execOxAlignDone n s
  | .oxSlot n => Sys2Proof.Machine.execOxSlot n s
  | .offerReceive n frame => Sys2Proof.Machine.execOfferReceive n frame s
  | .selectAckReceive n frame at_ => Sys2Proof.Machine.execSelectAckReceive n frame at_ s
  | .reportReceive n frame at_ => Sys2Proof.Machine.execReportReceive n frame at_ s
  | .oxCodeError n symbol => Sys2Proof.Machine.execOxCodeError n symbol s
  | .reportLoss n at_ => Sys2Proof.Machine.execReportLoss n at_ s
  | .trainTimeout n at_ => Sys2Proof.Machine.execTrainTimeout n at_ s
  | .oxRetry n at_ => Sys2Proof.Machine.execOxRetry n at_ s
  | .satRead init n reg => Sys2Proof.Machine.execSatRead init n reg s
  | .satWrite init n reg => Sys2Proof.Machine.execSatWrite init n reg s
  | .satSelftest init n test => Sys2Proof.Machine.execSatSelftest init n test s
  | .satStream init n sel => Sys2Proof.Machine.execSatStream init n sel s
  | .satCommandTimeout n => Sys2Proof.Machine.execSatCommandTimeout n s
  | .ethFrameReceive m at_ frame ptp err => Sys2Proof.Machine.execEthFrameReceive m at_ frame ptp err s
  | .ethFrameTransmit m at_ ptp err => Sys2Proof.Machine.execEthFrameTransmit m at_ ptp err s
  | .ptpStep init m at_ => Sys2Proof.Machine.execPtpStep init m at_ s
  | .ppsInEdge at_ err => Sys2Proof.Machine.execPpsInEdge at_ err s
  | .ppsOutSecond at_ => Sys2Proof.Machine.execPpsOutSecond at_ s
  | .ptpTargetReached at_ => Sys2Proof.Machine.execPtpTargetReached at_ s
  | .timestampPop init m => Sys2Proof.Machine.execTimestampPop init m s
  | .ethCounterClear init m => Sys2Proof.Machine.execEthCounterClear init m s
  | .ethPauseSend init m data => Sys2Proof.Machine.execEthPauseSend init m data s
  | .anRestart init m data => Sys2Proof.Machine.execAnRestart init m data s
  | .canFrameReceive m frame time tec rec_ => Sys2Proof.Machine.execCanFrameReceive m frame time tec rec_ s
  | .canTxRequest init m k => Sys2Proof.Machine.execCanTxRequest init m k s
  | .canFrameSent m k time tec rec_ => Sys2Proof.Machine.execCanFrameSent m k time tec rec_ s
  | .canBusOff m tec rec_ => Sys2Proof.Machine.execCanBusOff m tec rec_ s
  | .canRecover init m => Sys2Proof.Machine.execCanRecover init m s
  | .xspiIndirectCmd init data => Sys2Proof.Machine.execXspiIndirectCmd init data s
  | .xspiCommandDone status rdata flash => Sys2Proof.Machine.execXspiCommandDone status rdata flash s
  | .xspiPollTimeout status => Sys2Proof.Machine.execXspiPollTimeout status s
  | .ddrInitGo init => Sys2Proof.Machine.execDdrInitGo init s
  | .ddrInitDone ok stage lane eyes => Sys2Proof.Machine.execDdrInitDone ok stage lane eyes s
  | .ddrRetrain refA refB => Sys2Proof.Machine.execDdrRetrain refA refB s
  | .uartTxPush init m data => Sys2Proof.Machine.execUartTxPush init m data s
  | .uartRxPop init m => Sys2Proof.Machine.execUartRxPop init m s
  | .uartByteReceive m data perr ferr brk => Sys2Proof.Machine.execUartByteReceive m data perr ferr brk s
  | .spiTxPush init m data => Sys2Proof.Machine.execSpiTxPush init m data s
  | .spiFrameDone m data => Sys2Proof.Machine.execSpiFrameDone m data s
  | .spiRxPop init m => Sys2Proof.Machine.execSpiRxPop init m s
  | .gpioOutset init data => Sys2Proof.Machine.execGpioOutset init data s
  | .gpioOutclr init data => Sys2Proof.Machine.execGpioOutclr init data s
  | .gpioDirWrite init data => Sys2Proof.Machine.execGpioDirWrite init data s
  | .gpioPinEdge n level => Sys2Proof.Machine.execGpioPinEdge n level s
  | .pilotPeriodEnd n late cp pp => Sys2Proof.Machine.execPilotPeriodEnd n late cp pp s
  | .recorderRow at_ cycle => Sys2Proof.Machine.execRecorderRow at_ cycle s
  | .recorderTrigger events lines => Sys2Proof.Machine.execRecorderTrigger events lines s
  | .recorderSwtrig init => Sys2Proof.Machine.execRecorderSwtrig init s
  | .recorderArm init => Sys2Proof.Machine.execRecorderArm init s
  | .coldStartExit vst => Sys2Proof.Machine.execColdStartExit vst s
  | .chargeResume vst => Sys2Proof.Machine.execChargeResume vst s
  | .referenceReturn pll => Sys2Proof.Machine.execReferenceReturn pll s
  | .fuseBlow word bits => Sys2Proof.Machine.execFuseBlow word bits s
  | .bootstrapRecover n => Sys2Proof.Machine.execBootstrapRecover n s
  | .linkChange m link done partner => Sys2Proof.Machine.execLinkChange m link done partner s
  | .busOffRecoveryEnd m => Sys2Proof.Machine.execBusOffRecoveryEnd m s
  | .ppsOutFall at_ => Sys2Proof.Machine.execPpsOutFall at_ s
  | .pilotDutyEnd n => Sys2Proof.Machine.execPilotDutyEnd n s
  | .uartByteSent m => Sys2Proof.Machine.execUartByteSent m s
  | .phyPllUnlock => Sys2Proof.Machine.execPhyPllUnlock s

end Sys2Proof.Machine
end

