-- ==== Sys2Proof/Machine/BallState.lean ====
section
/-!
DEFINITION. What the balls show (R47-R52, R69, R75, R101): the class in a ball's latch, whether its block has taken it, and the
levels of the half-bridge balls.
-/
namespace Sys2Proof.Machine

/-- What a ball with a fused class shows: nothing while its bank has no supply, its reset state, or what its block drives. -/
inductive BallState where
  | undriven
  | reset (c : BallClass)
  | taken
deriving DecidableEq, Repr

/-- The rail of SUPSTAT bit `bank` is within its range. -/
def State.bankGood (s : State) (bank : Nat) : Bool := s.bit RSUP.SUPSTAT bank

/-- Word `w` of the classes in the latches of a bank (R101): the shipped, hard-wired classes and the fuses that the latch has taken
since its supply came up; the power-side die's balls keep those of its own first load. -/
def State.latchWord (s : State) (bank w : Nat) : Word :=
  let l := if 7 ≤ bank then nth [] s.fuses.latched (bank - 7) else s.fuses.latchedPs
  shippedClasses w ||| (Store.find l w).getD 0

/-- The class that the ball's latch holds (R99, R101). -/
def State.ballClass (s : State) (r c : Nat) : Option BallClass :=
  (ballRun r c).map (fun b => BallClass.ofBits ((s.latchWord b.bank (ballWord r c)).toNat >>> ballBit r c))

/-- The ball's owning block has taken it (R48): by a write of 1 to CTRL.EN, a GPIO ball by a write of its direction; the boot ROM
takes XSPI_RESET_N when it releases it (R69). -/
def State.ballTaken (s : State) (r c : Nat) (b : BallRun) : Bool :=
  if b.page = GPIO.base then s.balls.gpioTaken
  else s.balls.taken.contains (b.owner c) || (decide (r = 29 ∧ c = 15) && s.balls.xspiReset)

/-- What the ball at row index `r` and column `c` shows; none for a ball without a fused class. -/
def State.ballState (s : State) (r c : Nat) : Option BallState :=
  (ballRun r c).map (fun b =>
    if !s.bankGood b.bank then .undriven
    else if s.ballTaken r c b then .taken
    else .reset ((s.ballClass r c).getD .z))

/-- HBn_GA and HBn_GB (R31, R50, R75): not driven while VDDIO_G is absent, otherwise low while GATE_VETO is asserted and as the gate
unit drives them while it is not. -/
def State.hbBalls (s : State) (n : Nat) : Option (Bool × Bool) :=
  if !s.bankGood 7 then none
  else some (!s.rst.veto && (nth {} s.gate n).ballA, !s.rst.veto && (nth {} s.gate n).ballB)

/-- What the block drives on pin `n` of GPIO, when it is taken (R518, R529): nothing on an input, and on an open-drain output whose level
is 1. -/
def State.gpioDrive (s : State) (n : Nat) : Option Bool :=
  if !s.bit (GPIO.base + 0x40) n ∨ (s.bit (GPIO.base + 0x54) n ∧ s.bit (GPIO.base + 0x44) n) then none
  else some (s.bit (GPIO.base + 0x44) n)

/-- The pull resistor of pin `n` of GPIO: none, or its level (R518, R529). -/
def State.gpioPull (s : State) (n : Nat) : Option Bool :=
  if s.bit (GPIO.base + 0x58) n then some (s.bit (GPIO.base + 0x5C) n) else none

/-- The termination of lane OXn's receiver pair is connected: while the lane is enabled (R52). -/
def State.oxTerminated (s : State) (n : Nat) : Bool := s.en (OX.base n)

end Sys2Proof.Machine
end

