-- ==== Sys2Proof/Safety.lean ====
section
/-!
DEFINITION. The vocabulary of the statements: which registers, bytes and parts a command leaves alone, what it means that a
reset has been entered, that a mailbox command has been answered, that an access has been refused; the invariants of the
machine.
-/
namespace Sys2Proof.Machine

/-! ### Frames -/

/-- Address `a` lies in the 4 KiB page at `b`. -/
def inPage (b a : Nat) : Prop := b ≤ a ∧ a < b + 0x1000

/-- Every register outside `P` reads after as it read before. -/
def RegsBut (P : Nat → Prop) (s t : State) : Prop := ∀ a, ¬ P a → t.rd a = s.rd a

/-- Every byte of memory outside `P` reads after as it read before. -/
def MemBut (P : Nat → Prop) (s t : State) : Prop := ∀ a, ¬ P a → t.byte a = s.byte a

/-- Address `a` lies in a page of the gate unit. -/
def gatePage (a : Nat) : Prop := 0x40880000 ≤ a ∧ a < 0x4088C000

/-! ### Responses -/

/-- The last response is a normal one to a write of address `a` by `init`. -/
def Accepted (init a : Nat) (t : State) : Prop := t.bus.resp = { init := init, addr := a, cause := 0, data := 0 }

/-- The last response is an error response with cause `c` to `init`'s access to address `a` (R148, R173). -/
def Refused (init a : Nat) (c : Cause) (t : State) : Prop := t.bus.resp = { init := init, addr := a, cause := c.code, data := 0 }

/-! ### Resets (R86-R92) -/

/-- No reset is in progress. -/
def State.noReset (s : State) : Prop := s.rst.stretch = none ∧ s.rst.dawn ≠ .held

/-- A system reset has been entered with cause `c`: it is recorded and stretched, GATE_VETO is asserted, the control die holds
nothing of before, and the meter goes on. -/
def SystemResetEntered (c : Nat) (s t : State) : Prop :=
  t.rd RSUP.RSTCAUSE = Word.ofNat (0x200 + c) ∧ t.rst.stretch = some .system ∧ t.rst.rstnLow = true ∧
  t.rst.veto = true ∧ t.rst.hbArmed = false ∧ t.rst.wdRun = false ∧ t.rst.dawn = .held ∧
  t.clerk0 = {} ∧ t.clerk1 = {} ∧ t.fab = {} ∧ t.bus = {} ∧ (∀ a, a < 0x60000000 → t.byte a = memDefault a) ∧
  (∀ a, 0x60000000 ≤ a → t.byte a = s.byte a) ∧ t.melo = s.melo ∧ t.nw = s.nw ∧ t.cmp = s.cmp ∧ t.fuses = s.fuses ∧
  t.sup.params = s.sup.params ∧ t.sup.copies = s.sup.copies ∧ t.pending = s.pending

/-- A core reset has been entered with cause `c`: the clerks that the cause names are held and their reservations lost; the other
clerk, every other register and all of memory stand; slips and accesses keep their place, some with their response discarded. -/
def CoreResetEntered (c : Nat) (s t : State) : Prop :=
  t.rd RSUP.RSTCAUSE = Word.ofNat (0x300 + c) ∧ t.rst.stretch = some .core ∧ t.rst.rstnLow = true ∧
  (∀ h, h < 2 → (causeHarts c).testBit h = true →
    (t.clerk h).held = true ∧ (t.clerk h).resv = none ∧ (t.clerk h).rstCause = c ∧ t.rst.coreMask.testBit h = true) ∧
  (∀ h, h < 2 → (causeHarts c).testBit h = false → t.clerk h = s.clerk h) ∧
  RegsBut (fun a => a = RSUP.RSTCAUSE) s t ∧
  t = { s with regs := t.regs, rst := t.rst, clerk0 := t.clerk0, clerk1 := t.clerk1, fab := t.fab, health := t.health,
               bus := { s.bus with waiting := t.bus.waiting } }

/-! ### The safety unit (R434-R463) -/

/-- Only the safety unit, its switches, GATE_VETO, the gate unit that sees it and the registers of `l` have changed. -/
def SafetyFrame (l : List Nat) (s t : State) : Prop :=
  RegsBut (fun a => gatePage a ∨ a ∈ l) s t ∧
  t = { s with regs := t.regs, rst := t.rst, gate := t.gate, sup := t.sup, now := t.now } ∧
  t.rst = { s.rst with veto := t.rst.veto }

/-- LOCKDOWN has been entered (R435, R437): GATE_VETO asserted, every switch that Curfew drives off, no channel closed. -/
def LockdownEntered (t : State) : Prop :=
  t.sup.st = 6 ∧ t.sup.cause = 0x30 ∧ t.rst.veto = true ∧ t.bit (SMBX.base + 0x14) 1 = true ∧
  (∀ n, n < 12 → (t.kAt n).hg = false ∧ (t.kAt n).st ≠ 1 ∧ (t.kAt n).st ≠ 2)

/-- Channel `n` has taken fault `code` (R446, R447): both switches off, every other channel where it was, GATE_VETO asserted for a
failed test or readback. -/
def FaultTaken (n code : Nat) (s t : State) : Prop :=
  (t.kAt n).st = 4 ∧ (t.kAt n).fault = code ∧ (t.kAt n).hg = false ∧ (t.kAt n).lg = false ∧
  (∀ m, m ≠ n → (t.kAt m).st = (s.kAt m).st ∧ (t.kAt m).lg = (s.kAt m).lg) ∧
  (4 ≤ code ∧ code ≤ 7 → t.rst.veto = true) ∧ t.bit (SMBX.base + 0x14) 3 = true ∧ SafetyFrame [SMBX.base + 0x14] s t

/-- Connection `c` has faulted (R460, R461); every other connection and everything else stands. -/
def ConnFaulted (c cause : Nat) (s t : State) : Prop :=
  (nth {} t.sup.conns c).up = false ∧ (nth {} t.sup.conns c).exp = none ∧ (nth {} t.sup.conns c).fault = true ∧
  (nth {} t.sup.conns c).cause = cause ∧ (∀ d, d ≠ c → nth {} t.sup.conns d = nth {} s.sup.conns d) ∧
  t.bit (SMBX.base + 0x14) 5 = true ∧ RegsBut (fun a => a = SMBX.base + 0x14) s t ∧
  t = { s with regs := t.regs, sup := { s.sup with rx := t.sup.rx, conns := t.sup.conns } }

/-- The safety processor holds command `opc` and no Dusk state lasts. -/
def SmbxTaken (opc : Nat) (s : State) : Prop :=
  s.sup.taken = true ∧ s.bit (SMBX.base + 0x10) 8 = true ∧ bitsOf s.sup.latch.1 31 24 = opc ∧ s.sup.st ≠ 5 ∧ s.rst.dusk = false

/-- The registers a mailbox reply writes. -/
def smbxReplyRegs : List Nat := [SMBX.base + 0x10, SMBX.base + 0x14, SMBX.base + 0x4C, SMBX.base + 0x50]

/-- The command is answered with `status` and `data`: PEND clears and IRQ_RAW.REPLY sets (R463). -/
def SmbxReplied (status : Nat) (data : Word) (s t : State) : Prop :=
  t.rd (SMBX.base + 0x4C) =
    Word.ofNat (status * 2 ^ 24 + bitsOf s.sup.latch.1 23 16 * 2 ^ 16 + bitsOf s.sup.latch.1 31 24 * 2 ^ 8) ∧
  t.rd (SMBX.base + 0x50) = data ∧ t.bit (SMBX.base + 0x10) 8 = false ∧ t.bit (SMBX.base + 0x14) 0 = true ∧ t.sup.taken = false

/-! ### The ADPLLs (R116-R122) -/

/-- Acquisition of an ADPLL has started over: no lock; its outputs are stopped (R118); the tuning word is held exactly while the
reference is lost, which the restart does not change (R121). -/
def AcqRestarted (pll : Nat) (s t : State) : Prop :=
  t.bit (adpllPage pll + 0x50) 31 = false ∧ t.bit (adpllPage pll + 0x50) 30 = true ∧
  t.bit (adpllPage pll + 0x50) 29 = s.bit (adpllPage pll + 0x50) 28 ∧
  t.bit (adpllPage pll + 0x50) 28 = s.bit (adpllPage pll + 0x50) 28 ∧
  (pll = 0 → t.clk.grace = false ∧ ∀ d ∈ [Dom.fab, .tel, .adc, .xspi, .ox, .eth, .can, .ps], t.domRun d = false) ∧
  (pll = 1 → t.domRun .pwm = false)

/-- Lock has been left: hold, the flag and the interrupt. -/
def LockLeft (pll : Nat) (t : State) : Prop :=
  t.bit (adpllPage pll + 0x50) 31 = false ∧ t.bit (adpllPage pll + 0x50) 29 = true ∧ t.bit (adpllPage pll + 0x50) 23 = true ∧
  t.bit (adpllPage pll + 0x14) 0 = true

/-- Only the ADPLL's REFCFG, FCW, LOCKSTAT and ICALSTAT, its clock's bookkeeping and the response have changed. -/
def AdpllFrame (pll : Nat) (s t : State) : Prop :=
  RegsBut (fun a => a ∈ [adpllPage pll + 0x40, adpllPage pll + 0x44, adpllPage pll + 0x50, adpllPage pll + 0x84]) s t ∧
  t = { s with regs := t.regs, clk := t.clk, ptp := t.ptp, bus := { s.bus with resp := t.bus.resp } }

/-! ### The comparators (R244-R255) -/

/-- Only comparator `n`, its page and what its line ends have changed: the safety unit's filters, and what a half-bridge with this
overcurrent source remembers of it (R228, R439). -/
def CmpFrame (n : Nat) (s t : State) : Prop :=
  RegsBut (inPage (cmpPage n)) s t ∧ (∀ m, m ≠ n → t.cmpAt m = s.cmpAt m) ∧
  (∀ m, t.hb m = { s.hb m with ocHeld := (t.hb m).ocHeld } ∧ (s.fld (HBCFG m) 27 22 ≠ n → t.hb m = s.hb m)) ∧
  t = { s with regs := t.regs, cmp := t.cmp, gate := t.gate, sup := { s.sup with wc := t.sup.wc, pcCur := t.sup.pcCur } }

/-- The same for a register write, which also leaves its response. -/
def CmpWriteFrame (n : Nat) (s t : State) : Prop :=
  RegsBut (inPage (cmpPage n)) s t ∧ (∀ m, m ≠ n → t.cmpAt m = s.cmpAt m) ∧
  (∀ m, t.hb m = { s.hb m with ocHeld := (t.hb m).ocHeld } ∧ (s.fld (HBCFG m) 27 22 ≠ n → t.hb m = s.hb m)) ∧
  t = { s with regs := t.regs, cmp := t.cmp, gate := t.gate, sup := { s.sup with wc := t.sup.wc, pcCur := t.sup.pcCur },
               bus := { s.bus with resp := t.bus.resp } }

/-! ### The gate unit (R222-R239) -/

/-- Only group `g` of the gate unit has changed, and time has moved to `at_` or stands. -/
def GateFrame (g at_ : Nat) (s t : State) : Prop :=
  RegsBut (inPage (GATE.base g)) s t ∧ (∀ m, m / 4 ≠ g → t.hb m = s.hb m) ∧
  t = { s with regs := t.regs, gate := t.gate, now := max s.now at_ }

/-- The same for a register write, which also leaves its response. -/
def GateWriteFrame (g at_ : Nat) (s t : State) : Prop :=
  RegsBut (inPage (GATE.base g)) s t ∧ (∀ m, m / 4 ≠ g → t.hb m = s.hb m) ∧
  t = { s with regs := t.regs, gate := t.gate, now := max s.now at_, balls := { s.balls with taken := t.balls.taken },
               bus := { s.bus with resp := t.bus.resp } }

/-- Both balls of half-bridge `n` are low. -/
def BallsLow (n : Nat) (t : State) : Prop := (t.hb n).ballA = false ∧ (t.hb n).ballB = false

/-- Half-bridge `n` has taken a fault (R229, R230): counted, its cause and flag shown, and it waits for a retry or is locked out. -/
def FaultShown (n cause : Nat) (s t : State) : Prop :=
  t.fld (HBSTAT n) 18 16 = cause ∧ t.fld (HBSTAT n) 7 0 = min (s.fld (HBSTAT n) 7 0 + 1) 255 ∧
  t.bit (GATE.base (n / 4) + 0x14) (n % 4) = true ∧
  (s.fld (HBSTAT n) 21 19 < s.fld (GATE.RETRYCFG (n / 4)) 2 0 → t.hbState n = 2) ∧
  (s.fld (GATE.RETRYCFG (n / 4)) 2 0 ≤ s.fld (HBSTAT n) 21 19 →
    t.hbState n = 3 ∧ t.bit (GATE.base (n / 4) + 0x14) (4 + n % 4) = true ∧ BallsLow n t)

/-! ### The PWM generators (R197-R221) -/

/-- Only generator `n`, its half-bridge's group at the gate unit, the commit flags, the trigger matrix's input, the trim in use
and the sync ball have changed. -/
def PwmFrame (n : Nat) (s t : State) : Prop :=
  RegsBut (fun a => inPage (PWM.base n) a ∨ inPage (GATE.base (n / 4)) a ∨ a = PWMC.CPEND ∨ a = PWMC.base + 0x14) s t ∧
  (∀ m, m ≠ n → t.gen m = s.gen m) ∧ (∀ m, m ≠ n → t.hb m = s.hb m) ∧
  t = { s with regs := t.regs, pwm := t.pwm, gate := t.gate, conv := { s.conv with sent := t.conv.sent },
               clk := { s.clk with trimUsed := t.clk.trimUsed }, balls := { s.balls with syncOut := t.balls.syncOut }, now := t.now }

/-- The same for a register write, which also leaves its response. -/
def PwmWriteFrame (n : Nat) (s t : State) : Prop :=
  RegsBut (fun a => inPage (PWM.base n) a ∨ inPage (GATE.base (n / 4)) a ∨ a = PWMC.CPEND ∨ a = PWMC.base + 0x14) s t ∧
  (∀ m, m ≠ n → t.gen m = s.gen m) ∧ (∀ m, m ≠ n → t.hb m = s.hb m) ∧
  t = { s with regs := t.regs, pwm := t.pwm, gate := t.gate, conv := { s.conv with sent := t.conv.sent },
               balls := { s.balls with tripIn := t.balls.tripIn, taken := t.balls.taken }, now := t.now, bus := { s.bus with resp := t.bus.resp } }

/-- Generator `n` has tripped (R218, R219): the latch, its flag and cause, the outputs low. -/
def Tripped (n cause : Nat) (s t : State) : Prop :=
  t.bit (PWM.STAT n) 8 = true ∧ t.bit (PWM.base n + 0x14) 7 = true ∧ t.fld (PWM.TRIPSTAT n) 29 28 = cause ∧
  t.fld (PWM.TRIPSTAT n) 15 0 = min (s.fld (PWM.TRIPSTAT n) 15 0 + 1) 65535 ∧ (t.gen n).outA = false ∧ (t.gen n).outB = false ∧
  (t.gen n).dtA = none ∧ (t.gen n).dtB = none

/-! ### Teller programs (R281-R306) -/

/-- The unit of position `n` has fetched syllable `w` with opcode `opc` in slot `slot` of run `r`, has not executed it yet, and its
predicate holds; CLK_TEL runs and no word of the bundle is known to be uncorrectable (R124, R276). -/
def Executes (n slot opc : Nat) (w : Word) (r : Run) (s : State) : Prop :=
  n < 16 ∧ s.runAt n = some r ∧ s.served n = true ∧ r.done.testBit slot = false ∧ s.syllable r slot = w ∧ synOpc w = opc ∧
  s.domRun .tel = true ∧ s.bundleBad r = false ∧ r.holds w = true

/-- The same, but its predicate does not hold (R303). -/
def Skips (n slot opc : Nat) (w : Word) (r : Run) (s : State) : Prop :=
  n < 16 ∧ s.runAt n = some r ∧ s.served n = true ∧ r.done.testBit slot = false ∧ s.syllable r slot = w ∧ synOpc w = opc ∧
  s.domRun .tel = true ∧ s.bundleBad r = false ∧ r.holds w = false

/-- Something holds the bundle (R306). -/
def Run.Stalled (r : Run) : Prop := r.fixed = true ∨ r.hold ≠ none ∨ r.frd ≠ none ∨ r.fence = true

/-- The last value written for key `k`, or `d`. -/
def lastOf {α : Type} (l : List (Nat × α)) (k : Nat) (d : α) : α := ((l.filter (fun q => q.1 == k)).getLast?.map (·.2)).getD d

/-- Run `r`'s bundle has ended and `r'` stands at the next one (R283, R304, R305): every register holds what the bundle wrote
last, accumulators saturated once, and control goes where the C slot or a loop's end sends it. -/
def BundleEnded (r r' : Run) : Prop :=
  (∀ d, d < 32 → r'.V d = lastOf r.vW d (r.V d)) ∧
  (∀ a, a < 4 → r'.A a = lastOf (r.accW.map (fun q => (q.1, satN r.accBits q.2))) a (r.A a)) ∧
  (∀ i, i < 4 → nth false r'.p i = lastOf r.pW i (nth false r.p i)) ∧
  r'.sat = (r.sat || r.satW || r.accW.any (fun q => satSets r.accBits q.2)) ∧
  (∀ t, r.ctl = some (.br t) → r'.pc = t ∧ r'.frames = r.frames) ∧
  (∀ m e, r.ctl = some (.loop m e) → r'.pc = r.pc + 1 ∧ r'.frames = { start := r.pc + 1, last := e, idx := 0, n := m } :: r.frames) ∧
  (r.ctl = none → r.frames = [] → r'.pc = r.pc + 1 ∧ r'.frames = []) ∧
  (∀ f fs, r.ctl = none → r.frames = f :: fs → f.last ≠ r.pc → r'.pc = r.pc + 1 ∧ r'.frames = r.frames) ∧
  (∀ f fs, r.ctl = none → r.frames = f :: fs → f.last = r.pc → f.idx + 1 < f.n →
    r'.pc = f.start ∧ r'.frames = { f with idx := f.idx + 1 } :: fs) ∧
  (∀ f fs, r.ctl = none → r.frames = f :: fs → f.last = r.pc → f.n ≤ f.idx + 1 → (∀ g ∈ fs, g.last ≠ r.pc) →
    r'.pc = r.pc + 1 ∧ r'.frames = fs) ∧
  r' = { r with v := r'.v, acc := r'.acc, p := r'.p, sat := r'.sat, pc := r'.pc, frames := r'.frames,
                vW := [], accW := [], pW := [], stW := [], satW := false, ctl := none, done := 0 }

/-- The stores of run `r`'s bundle have landed in state memory (R283). -/
def State.stored (s : State) (r : Run) : State := r.stW.foldl (fun t q => t.telStore q.1 q.2) s

/-- The operation of slot `slot` at position `n` has turned the run into `r2` and is done: the bundle goes on, or it ends, its stores
land, and with it the run where END stands in it (R283, R302, R306). Nothing else changes but in a run's end, which may let a
take-over that has waited for it happen (R274). -/
def OpRan (n slot : Nat) (r2 : Run) (s t : State) : Prop :=
  (r2.done + 2 ^ slot ≠ 15 ∨ r2.Stalled → t = s.setRun n { r2 with done := r2.done + 2 ^ slot }) ∧
  (r2.done + 2 ^ slot = 15 → ¬ r2.Stalled → r2.ctl = some .stop → t.runAt n = none ∧ t.bit (TLR.STAT n) 4 = false ∧
    (∀ m, m ≠ n → t.runAt m = s.runAt m) ∧ (∀ m, (t.tpos m).inst = (s.tpos m).inst) ∧
    t = { s.stored r2 with regs := t.regs, tel := t.tel }) ∧
  (r2.done + 2 ^ slot = 15 → ¬ r2.Stalled → r2.ctl ≠ some .stop → ∃ r', t = (s.stored r2).setRun n r' ∧ BundleEnded r2 r')

/-- The operation has written V register `d` alone, with `sat` if a saturation changed its value. -/
def Run.wroteV (r : Run) (d : Nat) (v : Word) (sat : Bool) : Run := { r with vW := r.vW ++ [(d, v)], satW := r.satW || sat }

/-- Slip `p` has been issued: it holds its initiator's coin and is in flight (R157, R159). -/
def Issued (p : Slip) (s t : State) : Prop :=
  ∃ c late, s.takeCoin p.init = some c ∧ t.fab.slips = s.fab.slips ++ [{ p with coin := c, late := late }] ∧
    t.fab.stalled = s.fab.stalled ∧ RegsBut (inPage FAB.base) s t ∧ t = { s with regs := t.regs, fab := t.fab }

/-- The unit of position `n` may issue a slip to address `a`: fewer than two of its slips outstanding to the port, and a coin free
(R266). -/
def UnitFree (n a : Nat) (s : State) : Prop :=
  (s.fab.slips.filter (fun q => q.unit == some (s.unitOf n) && portOf q.addr == portOf a)).length < 2 ∧ (∃ c, s.takeCoin (32 + n) = some c) ∧
  (∀ q ∈ s.fab.stalled, q.init ≠ 32 + n)

/-- It may not: the port or the coins hold it. -/
def UnitHeld (n a : Nat) (s : State) : Prop :=
  2 ≤ (s.fab.slips.filter (fun q => q.unit == some (s.unitOf n) && portOf q.addr == portOf a)).length ∨ s.takeCoin (32 + n) = none

/-- The comparison a cc code names (R302). -/
def ccSpec (cc : Nat) (x y : Word) : Bool :=
  ([decide (x = y), decide (x ≠ y), x.slt y, y.sle x, x.sle y, y.slt x, x.ult y, y.ule x] : List Bool).getD cc false

/-! ### The grid engine (R341-R369) -/

/-- Only the grid engine, its pages, its deposits and what it hands the settlement engine have changed. -/
def GridFrame (s t : State) : Prop :=
  RegsBut (fun a => inPage GSYNC.base a ∨ inPage GFRT.base a ∨ inPage GISL.base a ∨ inPage GTAB.base a ∨
    a ∈ [SETL.GRIDIMP, SETL.GRIDEXP]) s t ∧
  t = { s with regs := t.regs, grid := t.grid, deps := t.deps, freeCtr := t.freeCtr }

/-- The reference currents are those of no current (R353). -/
def RefsZero (s t : State) : Prop :=
  (∃ f, t.rd (GSYNC.base + 0x98) = s.ofIfs f (fZero false)) ∧ ∃ f, t.rd (GSYNC.base + 0x9C) = s.ofIfs f (fZero false)

/-- ISLAND stands with `cause`, the settlement engine sees it and the zone is trip (R365). -/
def IslandRaised (cause : Nat) (s t : State) : Prop :=
  t.bit GISL.STAT 12 = true ∧ t.fld GISL.STAT 7 5 = cause ∧ t.bit (GISL.base + 0x14) 0 = true ∧ t.islandUp = true ∧
  t.fld GFRT.STAT 12 11 = 3 ∧ RefsZero s t ∧ GridFrame s t

/-! ### Meloskern, the ledger link and Nightwatch (R370-R433) -/

/-- Register `k` and its residue in 2⁻³² µWh (R383). -/
def State.energy (s : State) (k : Nat) : Nat := nth 0 s.melo.legal k * 2 ^ 32 + nth 0 s.melo.res k

/-- Meloskern holds command `l` with opcode `opc`, taken in a poll whose VETO bit was 0. -/
def LedgerCmd (opc : Nat) (l : List Word) (s : State) : Prop :=
  s.melo.running = true ∧ s.melo.cmd = some l ∧ bitsOf (nth 0 l 0) 23 16 = opc ∧ s.melo.rest = some false ∧ s.melo.linkLost = false

/-- The command is executed and its reply waits to be posted; only Meloskern, Nightwatch and the ledger window have changed
(R402). -/
def LedgerDone (l : List Word) (status : Nat) (words : List Nat) (recs : List (List Byte)) (s t : State) : Prop :=
  t.melo.cmd = none ∧ t.melo.rest = none ∧ t.melo.reply = some (putBits (nth 0 l 0) 31 24 status :: words.map Word.ofNat, recs) ∧
  RegsBut (fun a => 0x40C00000 ≤ a ∧ a < 0x40C10000) s t ∧ t = { s with regs := t.regs, melo := t.melo, nw := t.nw }

/-- Only what a poll and a command's end touch of Meloskern has changed. -/
def MeloIdle (s t : State) : Prop :=
  t.melo = { s.melo with cmd := none, rest := none, reply := t.melo.reply, vetoRun := 0, pubCrc := t.melo.pubCrc } ∧ t.nw = s.nw

/-! ### The Oxernal lanes (R485-R503) -/

/-- Only lane `n`, its page and the gate unit's view of its six half-bridges have changed. -/
def OxFrame (n : Nat) (s t : State) : Prop :=
  RegsBut (fun a => inPage (OX.base n) a ∨ gatePage a) s t ∧ (∀ m, m ≠ n → t.lane m = s.lane m) ∧ (∀ m, m / 6 ≠ n → t.hb m = s.hb m) ∧
  t = { s with regs := t.regs, gate := t.gate, ox := t.ox }

/-- The same for a register write, which also leaves its response. -/
def OxWriteFrame (n : Nat) (s t : State) : Prop :=
  RegsBut (fun a => inPage (OX.base n) a ∨ gatePage a) s t ∧ (∀ m, m ≠ n → t.lane m = s.lane m) ∧ (∀ m, m / 6 ≠ n → t.hb m = s.hb m) ∧
  t = { s with regs := t.regs, gate := t.gate, ox := t.ox, freeCtr := t.freeCtr, bus := { s.bus with resp := t.bus.resp } }

/-- The half-bridges of lane `n` have no reports: undervoltage (R237). -/
def OxUnreported (n : Nat) (t : State) : Prop := ∀ i, i < 6 → t.bit (UVRPT (6 * n + i)) 31 = false ∧ (t.hb (6 * n + i)).uv = true

/-- Lane `n` has declared loss of reports (R501, R503). -/
def OxLost (n : Nat) (s t : State) : Prop :=
  t.fld (OX.LINKCNT n) 31 16 = min (s.fld (OX.LINKCNT n) 31 16 + 1) 65535 ∧ t.bit (OX.STAT n) 2 = true ∧ t.bit (OX.base n + 0x14) 2 = true ∧
  OxUnreported n t

/-- The bytes of a frame in form: `len` bytes, of type `typ`, with its check value (R489). -/
def OxFrameOk (bytes : List Byte) (typ len : Nat) : Prop := byteAt bytes 0 = typ ∧ bytes.length = len ∧ crc16Ok bytes = true

/-- Lane `n` has refused a frame (R489, R500): it is counted and flagged, and a run of identical OFFERs ends. -/
def OxRefused (n : Nat) (s t : State) : Prop :=
  t.fld (OX.ERRCNT n) 31 16 = min (s.fld (OX.ERRCNT n) 31 16 + 1) 65535 ∧ t.bit (OX.STAT n) 0 = true ∧
  t.bit (OX.base n + 0x14) 0 = true ∧ t.lane n = { s.lane n with same := 0 } ∧ t.oxState n = s.oxState n ∧ t.gate = s.gate ∧ OxFrame n s t

/-- Satellite command `c` with address `reg` has been issued on lane `n`, under a TAG other than the last one (R495). -/
def SatIssued (c init n reg : Nat) (s t : State) : Prop :=
  t.bit (OX.SACMD n) 30 = true ∧ t.fld (OX.SACMD n) 26 24 = c ∧ t.fld (OX.SACMD n) 7 0 = reg % 256 ∧
  t.fld (OX.SARESP n) 31 30 = 0 ∧ (t.lane n).cmd = some (c, reg % 256, if c = 2 then s.fld (OX.SADATA n) 15 0 else 0) ∧
  (t.lane n).slots = 0 ∧ (t.lane n).tag ≠ (s.lane n).tag ∧ 1 ≤ (t.lane n).tag ∧ (t.lane n).tag ≤ 255 ∧
  Accepted init (OX.SACMD n) t ∧ t.gate = s.gate ∧ OxWriteFrame n s t

/-! ### The shape of the state -/

/-- Every list that stands for a fixed number of like things has that number of entries, the live writes that wait at a generator
name its four live registers, and Meloskern's values and staged changes lie in its window. -/
def State.Shaped (s : State) : Prop :=
  (s.conv.pos.length = 26 ∧ s.pwm.length = 48 ∧ s.gate.length = 48 ∧ s.cmp.length = 56 ∧ s.clk.trims.length = 6 ∧
    s.clk.trimUsed.length = 48) ∧
  (s.tel.pos.length = 16 ∧ (∀ p ∈ s.tel.pos, p.inst.length = 8 ∧
      ∀ r, p.run = some r → r.v.length = 32 ∧ r.acc.length = 4 ∧ r.p.length = 4 ∧ r.slots.length = 16) ∧
    s.tel.runs.length = 8 ∧ s.setl.prev.length = 16 ∧ s.mp.ch.length = 4) ∧
  (s.sup.k.length = 12 ∧ s.sup.locks.length = 4 ∧ s.sup.conns.length = 4) ∧
  (s.ox.length = 8 ∧ s.eth.length = 2 ∧ s.can.length = 4 ∧ s.uart.length = 2 ∧ s.spi.length = 2 ∧ s.pilot.length = 4) ∧
  (∀ g ∈ s.pwm, ∀ q ∈ g.after, q.1 < 4) ∧
  (s.melo.legal.length = 32 ∧ s.melo.res.length = 32 ∧ s.melo.acc.length = 5 ∧ s.melo.owed.length = 5 ∧ s.melo.pulse.length = 5 ∧
    s.melo.hist.length = 4 ∧ s.melo.dc.length = 4 ∧ s.melo.seg.length = 8 ∧ s.melo.sess.length = 4 ∧ s.melo.copies.length = 2 ∧
    (∀ c ∈ s.melo.copies, c.legal.length = 32 ∧ c.res.length = 32 ∧ c.acc.length = 5) ∧ s.nw.loops.length = 2) ∧
  (s.melo.cyc.length = 3 ∧ s.melo.blk.length = 3 ∧ s.melo.chans.length = 15 ∧ s.melo.ivlBase.length = 32 ∧
    s.melo.cmdLegal.length = 32 ∧ s.grid.timers.length = 16 ∧ s.health.chkTime.length = 2 ∧ s.jtag.tselect.length = 2 ∧
    s.jtag.tdata1.length = 8 ∧ s.jtag.tdata2.length = 8) ∧
  ((∀ q ∈ s.melo.vals, 0x40C01000 ≤ q.1 ∧ q.1 < 0x40C03000) ∧ s.melo.stage.length ≤ 64 ∧
    (∀ q ∈ s.melo.stage, 0x1000 ≤ q.1 ∧ q.1 < 0x3000))

end Sys2Proof.Machine
end

