-- ==== Sys2Proof/Certificates/Slice0/Obligations.lean ====
section
/-!
DEFINITION. The statements of this row, for the provers: what each family of commands does and leaves alone, that it completes,
and what every step keeps.
-/
open Sys2Proof Sys2Proof.Machine

/-- For every state and command, a step of the state with the command in front of its queue is exec of that command on the state
with the queue's rest, and that completes with a next state: no command of the table stops the machine. On an empty queue a step
changes nothing (the model's choice, notes/assumptions/3.md). (00_scope.md; 95_what_each_step_holds.md) -/
def Obligations.StepTakesTheFirstCommandOfTheQueue : Prop :=
  (∀ (c : Instr) (q : List Instr) (s : State), step { s with pending := c :: q } = exec c { s with pending := q }) ∧
  (∀ (c : Instr) (s : State), ∃ t, exec c s = .next t) ∧
  (∀ s : State, s.pending = [] → step s = .next s)

/-- At State.reset the queue is empty, every register shows its reset value of the page tables, GATE_VETO is asserted, heartbeat
monitoring is disarmed, RST_N is low for the power-on stretch, both clerks are held, no slip is in flight, no clock check has
failed; the memory and register lists are in canonical form and the state has its shape. That every byte of memory reads 0 is
the model's choice (notes/assumptions/2.md). (00_scope.md (R12); 03_supplies_reset_dawn.md (R86, R87, R92)) -/
def Obligations.ResetLeavesTheSpecsValues : Prop :=
  State.reset.pending = [] ∧ (∀ a, State.reset.rd a = resetOf a) ∧ (∀ a, State.reset.byte a = 0) ∧
  State.reset.rst.veto = true ∧ State.reset.rst.hbArmed = false ∧ State.reset.rst.stretch = some .powerOn ∧
  State.reset.rst.rstnLow = true ∧ State.reset.rst.dawn = .held ∧ State.reset.clerk0.held = true ∧ State.reset.clerk1.held = true ∧
  State.reset.fab.slips = [] ∧ State.reset.rst.clockFail = false ∧
  State.reset.rd (ADPLLA + 0x44) = resetOf (ADPLLA + 0x44) ∧
  Memory.wf State.reset.mem = true ∧ Regs.wf State.reset.regs = true ∧ State.reset.Shaped

/-- From every state POWER_ON_RESET completes: RSTCAUSE reads 0x101, every other register reads its reset value, GATE_VETO is
asserted, RST_N is driven low, the control die is held and its memory lost, while the meter, Nightwatch, the safety unit's
parameter store, the fuses that are blown, external memory and the queue stand. That a lost byte reads 0 is the model's choice
(assumption 2). (03_supplies_reset_dawn.md (R86, R87, R91, R92); 03_supplies_reset_dawn.md (R89)) -/
def Obligations.PowerOnResetKeepsOnlyMeterAndStore : Prop :=
  ∀ s : State, ∃ t, exec .powerOnReset s = .next t ∧
    t.rd RSUP.RSTCAUSE = 0x101 ∧ (∀ a, a ≠ RSUP.RSTCAUSE → t.rd a = resetOf a) ∧
    t.rst.stretch = some .powerOn ∧ t.rst.rstnLow = true ∧ t.rst.veto = true ∧ t.rst.hbArmed = false ∧ t.rst.dusk = false ∧
    t.rst.dawn = .held ∧ t.clerk0 = {} ∧ t.clerk1 = {} ∧ t.fab = {} ∧ t.bus = {} ∧ t.tel = {} ∧ t.conv = {} ∧
    (∀ a, a < 0x60000000 → t.byte a = memDefault a) ∧ (∀ a, 0x60000000 ≤ a → t.byte a = s.byte a) ∧
    (∀ n, BallsLow n t) ∧ t.melo = s.melo ∧ t.nw = s.nw ∧ t.sup = { copies := s.sup.copies } ∧ t.fuses.blown = s.fuses.blown ∧
    t.pending = s.pending

/-- In every state with no reset in progress: a system-level cause, an RST_N request of 1 us or more, a RSTREQ write with the
system key, a watchdog expiry while monitoring is not armed, an automatic restart that is due and the monitor of a rail of the control die
each enter a system reset recorded with their code of R89; a monitor of VIN_PS or VDD_PS enters a power-on
reset; a core-level cause, a RSTREQ write with a core key and a lockstep mismatch each enter a core reset of exactly the clerks their code names. A write of any other key is refused.
(03_supplies_reset_dawn.md (R84-R86); 03_supplies_reset_dawn.md (R88-R93); 03_supplies_reset_dawn.md (R96); 17_safety_unit.md
(R454)) -/
def Obligations.ResetCausesEnterTheirLevel : Prop :=
  ∀ s : State, s.noReset →
  (∀ c, causeLevel c = some .system → s.causeStands c = true → ∃ t, exec (.resetCauseArrive [c]) s = .next t ∧ SystemResetEntered c s t) ∧
  (∀ c, causeLevel c = some .core → s.causeStands c = true → ∃ t, exec (.resetCauseArrive [c]) s = .next t ∧ CoreResetEntered c s t) ∧
  (∀ low us holds, s.rst.rstnLow = false → 1000 ≤ low → 10 ≤ us → ∃ t, exec (.rstNRequest low us holds) s = .next t ∧
      SystemResetEntered 0x10 s t ∧ t.rst.rstnHeld = holds) ∧
  (∀ init, s.mustWait .ps RSUP.base = false → ∃ t, exec (.rstreqSystemReset init) s = .next t ∧ SystemResetEntered 0x12 s t) ∧
  (∀ init k, s.mustWait .ps RSUP.base = false → 1 ≤ k → k ≤ 3 → ∃ t, exec (.rstreqCoreReset init k) s = .next t ∧
    CoreResetEntered (0x1F + k) (s.respond init RSUP.RSTREQ 0) t) ∧
  (∀ init k, s.mustWait .ps RSUP.base = false → k = 0 ∨ 3 < k → ∃ t, exec (.rstreqCoreReset init k) s = .next t ∧
    Refused init RSUP.RSTREQ .refused t ∧ t.rst = s.rst) ∧
  (∀ h, h < 2 → (s.clerk h).held = false → ∃ t, exec (.lockstepMismatch h) s = .next t ∧ CoreResetEntered (0x24 + h) s t) ∧
  (∀ at_, s.rst.wdRun = true → s.rst.hbArmed = false → ∃ t, exec (.watchdogExpiry at_) s = .next t ∧ SystemResetEntered 0x11 s t) ∧
  (s.rst.dusk = true → s.autoRestartDue = true → ∃ t, exec .autoRestart s = .next t ∧ SystemResetEntered 0x14 s t ∧
      t.rst.dusk = false) ∧
  (∀ rail, rail < 2 → s.bit RSUP.SUPSTAT rail = true → ∃ t, exec (.supplyMonitorFall rail) s = .next t ∧
    t.rd RSUP.RSTCAUSE = 0x101 ∧ (∀ a, a ≠ RSUP.RSTCAUSE → t.rd a = resetOf a) ∧ t.rst.stretch = some .powerOn ∧ t.rst.veto = true ∧
    t.rst.dawn = .held ∧ t.melo = s.melo ∧ t.nw = s.nw ∧ t.sup = { copies := s.sup.copies }) ∧
  (∀ rail, rail = 9 ∨ rail = 10 → s.bit RSUP.SUPSTAT rail = true → ∃ t, exec (.supplyMonitorFall rail) s = .next t ∧
    t.rd RSUP.RSTCAUSE = 0x207 ∧ t.rst.stretch = some .system ∧ t.rst.veto = true ∧ t.rst.dawn = .held ∧
    t.bit RSUP.SUPSTAT rail = false ∧ t.bit RSUP.SUPFLAG rail = true ∧ t.melo = s.melo ∧ t.nw = s.nw) ∧
  (∀ rail, 4 ≤ rail → rail < 9 → s.bit RSUP.SUPSTAT rail = true → ∃ t, exec (.supplyMonitorFall rail) s = .next t ∧
    t.rd RSUP.RSTCAUSE = Word.ofNat (0x200 + (rail - 2)) ∧ t.rst.stretch = some .system ∧ t.rst.veto = true ∧ t.rst.dawn = .held ∧
    t.bit RSUP.SUPSTAT rail = false ∧ t.bit RSUP.SUPFLAG rail = true ∧ t.melo = s.melo ∧ t.nw = s.nw)

/-- From every state: a monitor of an interrupt-only rail clears its GOOD bit, sets its flag and RSUP's interrupt; a rail that is
good again sets its GOOD bit; VDRV's monitor does the same for the auxiliary drivers' undervoltage; a stretch that may end
releases RST_N, which the board may hold, and the power-side die's own stretch ends before the control die's; a clerk whose core reset is over restarts at its
checkpoint or at ENTRY with MRSTINFO in a0 and its claims completed; a kick restarts the watchdog with WDOG_CFG's timeout; an
expiry while monitoring is armed begins the Dusk state with DUSKCAUSE 0x102. Everything else stands.
(03_supplies_reset_dawn.md (R84, R85); 03_supplies_reset_dawn.md (R92, R93, R96); 01_architecture.md (R43, R44);
20_host_and_vehicle_interfaces.md (R507, R508)) -/
def Obligations.ResetsEndAndWatchdogAndMonitorsAct : Prop :=
  ∀ s : State,
  (∀ rail, rail ∈ [3, 11, 12, 13] → s.bit RSUP.SUPSTAT rail = true → ∃ t, exec (.supplyMonitorFall rail) s = .next t ∧
    t.bit RSUP.SUPSTAT rail = false ∧ t.bit RSUP.SUPFLAG rail = true ∧ t.bit (RSUP.base + 0x14) 0 = true ∧
    RegsBut (fun a => a ∈ [RSUP.SUPSTAT, RSUP.SUPFLAG, RSUP.base + 0x14]) s t ∧ t = { s with regs := t.regs }) ∧
  (∀ rail, rail ≠ 2 → rail < 14 ∨ (rail < 18 ∧ s.bit (RSUP.VMON (rail - 14)) 31 = true) →
    ∃ t, exec (.supplyMonitorGood rail) s = .next t ∧ t.bit RSUP.SUPSTAT rail = true ∧
    RegsBut (fun a => a = RSUP.SUPSTAT) s t ∧ t = { s with regs := t.regs }) ∧
  (s.bit RSUP.SUPSTAT 2 = false → ∃ t, exec (.supplyMonitorGood 2) s = .next t ∧ t.bit RSUP.SUPSTAT 2 = true ∧
    t.bit AXSTAT 30 = false ∧ RegsBut (fun a => a = RSUP.SUPSTAT ∨ a = AXSTAT) s t ∧ t = { s with regs := t.regs, aux := t.aux }) ∧
  (s.bit RSUP.SUPSTAT 2 = true → ∃ t, exec (.supplyMonitorFall 2) s = .next t ∧ t.bit RSUP.SUPSTAT 2 = false ∧
    t.bit RSUP.SUPFLAG 2 = true ∧ t.bit (RSUP.base + 0x14) 0 = true ∧ t.bit AXSTAT 30 = true ∧
    RegsBut (fun a => a ∈ [RSUP.SUPSTAT, RSUP.SUPFLAG, RSUP.base + 0x14, AXSTAT, AUX.base + 0x14]) s t ∧ t = { s with regs := t.regs }) ∧
  (∀ l, s.rst.stretch = some l → s.rst.rstnHeld = false → l = .core ∨ s.railsGood = true →
    exec .resetStretchEnd s = .next { s with rst := { s.rst with stretch := none, rstnLow := false } }) ∧
  (s.rst.stretch = some .powerOn → s.rst.rstnHeld = false → s.railsGood = false → s.bit RSUP.SUPSTAT 0 = true →
    s.bit RSUP.SUPSTAT 1 = true → exec .resetStretchEnd s = .next { s with rst := { s.rst with stretch := some .system } }) ∧
  (s.rst.rstnHeld = true → exec .resetStretchEnd s = .next s) ∧
  (∀ h, h < 2 → s.rst.coreMask.testBit h = true → s.rst.stretch = none → s.rst.dawn = .running →
    ∃ t, exec (.coreResetRestart h) s = .next t ∧ (t.clerk h).held = false ∧ (t.clerk h).a0 = (s.clerk h).rstInfo ∧
    (t.clerk h).pc = (if tb (s.clerk h).mckpt 0 then (s.clerk h).mckpt &&& 0xFFFFFFFC else s.rst.entry) ∧
    (t.clerk h).pmp = [] ∧ (t.clerk h).icache = [] ∧ t.clerk (1 - h) = s.clerk (1 - h) ∧ t.rst.coreMask.testBit h = false ∧
    (∀ p ∈ t.claimed, p.2 ≠ h) ∧
    t = { s with clerk0 := t.clerk0, clerk1 := t.clerk1, claimed := t.claimed, rst := { s.rst with coreMask := t.rst.coreMask } }) ∧
  (∀ init, s.mustWait .ps RSUP.base = false → s.rst.dawn ≠ .held → ∃ t, exec (.wdogKick init) s = .next t ∧
    t.rst = { s.rst with wdRun := true, wdLimit := s.wdTimeout } ∧ Accepted init RSUP.WDOG_KICK t ∧
    t = { s with rst := t.rst, bus := { s.bus with resp := t.bus.resp } }) ∧
  (∀ at_, s.rst.wdRun = true → s.rst.hbArmed = true → s.rst.dusk = false → ∃ t, exec (.watchdogExpiry at_) s = .next t ∧
    t.rd RSUP.DUSKCAUSE = 0x102 ∧ t.rst = { s.rst with wdRun := false, dusk := true, veto := true } ∧ t.sup.duskPend = 0x21 ∧
    t.now = max s.now at_ ∧ RegsBut (fun a => gatePage a ∨ a = RSUP.DUSKCAUSE) s t ∧
    t = { s with regs := t.regs, rst := t.rst, gate := t.gate, sup := t.sup, now := t.now })

/-- From every state: the control die's release samples the straps, loads the fuses and starts the watchdog; XSPI_RESET_N goes
high once the ADPLLs have locked; the start-up test ends in step 7 with BOOTSTAT code 0x01, or stops the clerks with 0x23
where a memory cannot be repaired; an image of the boot source that passes every check is in memory, BOOTSTAT reads code 0x02, and both clerks that are not in
core reset run at its ENTRY; a failed primary image leads to the secondary; a fuse write blows exactly the bits the lifecycle
permits, for good and not before the next load; the timer interrupt follows the compare. (03_supplies_reset_dawn.md (R98,
R100-R102); 03_supplies_reset_dawn.md (R103-R109); 18_self_test_and_repair.md (R467, R480); 20_host_and_vehicle_interfaces.md
(R507)) -/
def Obligations.DawnStepsBootAndFuses : Prop :=
  ∀ s : State,
  (∀ straps, s.rst.dawn = .held → s.rst.stretch = none → s.sup.st ≠ 0 → s.railsGood = true → s.rst.testHeld = false →
    ∃ t, exec (.controlDieRelease straps true) s = .next t ∧
    t.rst = { s.rst with dawn := .locking, straps := straps % 8, wdRun := true, wdLimit := 2000, psClasses := true } ∧
    t.fuses = { s.fuses with shadow := s.fuses.blown, latched := List.replicate 4 s.fuses.blown, latchedPs := t.fuses.latchedPs } ∧
    t.fuses.latchedPs = (if s.rst.psClasses then s.fuses.latchedPs else s.fuses.blown) ∧
    t = { s with rst := t.rst, fuses := t.fuses }) ∧
  (∀ straps, exec (.controlDieRelease straps false) s = .next s) ∧
  (s.rst.dawn ≠ .held → s.rst.dawn ≠ .locking →
    exec .xspiResetRelease s = .next { s with balls := { s.balls with xspiReset := true } }) ∧
  (∀ tel conv chk r a b c, s.rst.dawn = .memTest → s.rst.straps < 8 →
      ∃ t, exec (.dawnSelfTestEnd tel conv chk r a b c false) s = .next t ∧
    t.rst.dawn = .stopped ∧ t.fld RSUP.BOOTSTAT 31 24 = 0x23 ∧ t.mem = s.mem) ∧
  (∀ tel conv chk r a b c, s.rst.dawn = .memTest → s.lifecycle = 1 ∨ s.lifecycle = 3 → s.rst.straps < 4 →
    ∃ t, exec (.dawnSelfTestEnd tel conv chk r a b c true) s = .next t ∧ t.rst.dawn = .boot ∧ t.fld RSUP.BOOTSTAT 31 24 = 1 ∧
    t.rst.wdRun = true ∧ (∀ u ∈ conv, u < 26 → t.bit HEALTH.RETIRED0 u = true) ∧ t.mem = s.mem ∧ t.clerk0 = s.clerk0) ∧
  (∀ sent pl h, s.imageHeader sent = h → ∀ n, hdrField h 0x14 4 = n → s.rst.dawn = .boot → h.length = 256 →
      s.rst.straps = 3 ∨ s.balls.xspiReset = true → s.headerCode h = 0 → s.rst.straps < 8 → s.rst.firstFail < 256 →
      n ≤ (s.imagePayload pl n).length → sha256 (s.imagePayload pl n) = hdrBytes h 0x20 32 →
    ∃ t, exec (.bootImageAttemptEnd sent pl) s = .next t ∧ t.rst.dawn = .running ∧ t.rst.entry = Word.ofNat (hdrField h 0x10 4) ∧
    t.fld RSUP.BOOTSTAT 31 24 = 2 ∧ (∀ i, i < 2 → s.rst.coreMask.testBit i = false →
      (t.clerk i).held = false ∧ (t.clerk i).pc = Word.ofNat (hdrField h 0x10 4)) ∧
    (∀ i, i < n → some (t.byte (hdrField h 0xC 4 + i)) = (s.imagePayload pl n)[i]?) ∧
    MemBut (fun a => hdrField h 0xC 4 ≤ a ∧ a < hdrField h 0xC 4 + n) s t ∧ RegsBut (fun a => a = RSUP.BOOTSTAT) s t) ∧
  (∀ sent pl, s.rst.dawn = .boot → (s.imageHeader sent).length = 256 → s.balls.xspiReset = true → s.rst.straps ≠ 3 →
      s.rst.attempt = 0 → s.headerCode (s.imageHeader sent) ≠ 0 →
    ∃ t, exec (.bootImageAttemptEnd sent pl) s = .next t ∧
    t = { s with rst := { s.rst with wdRun := true, wdLimit := s.wdTimeout, attempt := 1, firstFail := s.headerCode (s.imageHeader sent) } }) ∧
  (∀ w bits, ¬ (w = 4 ∧ bitsOf (s.fuseArray 4 ||| (bits &&& s.fuseAllowed 4)) 2 0 = 3 ∧
      s.fuseArray 4 ||| (bits &&& s.fuseAllowed 4) ≠ s.fuseArray 4 ∧ s.someKey = false) →
    ∃ t, exec (.fuseBlow w bits) s = .next t ∧
    t.fuseArray w = s.fuseArray w ||| (bits &&& s.fuseAllowed w) ∧ (∀ v, v ≠ w → t.fuseArray v = s.fuseArray v) ∧
    (∀ v, t.fuse v = s.fuse v) ∧ t = { s with fuses := { s.fuses with blown := t.fuses.blown } }) ∧
  (∀ bits, bitsOf (s.fuseArray 4 ||| (bits &&& s.fuseAllowed 4)) 2 0 = 3 →
      s.fuseArray 4 ||| (bits &&& s.fuseAllowed 4) ≠ s.fuseArray 4 →
    s.someKey = false → exec (.fuseBlow 4 bits) s = .next s) ∧
  (∀ h time, h < 2 → ∃ t, exec (.machineTimerMatch h time) s = .next t ∧
    (t.clerk h).mtip = decide ((s.clerk h).mtcmp.toNat ≤ time) ∧ (t.clerk h).mtcmp = (s.clerk h).mtcmp ∧
    t.clerk (1 - h) = s.clerk (1 - h) ∧ t = { s with clerk0 := t.clerk0, clerk1 := t.clerk1 })

/-- In every state with no soft reset of the page under way: an allowed REFCFG or FCW write and a soft reset restart acquisition
(LOCK 0, ACQ 1, the outputs stopped) and change their register, or the whole page back to reset; each is refused while R119 forbids
it or the new frequencies lie out of range; ADPLL-B's FCW is read-only and follows REFMODE; an allowed output write sets the enable,
divider and delay; a divider below 2, a change of an enabled output, a clear of CLK_FAB's enable and a clear of CLK_PWM's with a
generator enabled are refused. Registers of other pages, memory and everything but the clocks, the PTP clock's bookkeeping and the
response stand. (04_clocks_and_crossings.md (R116-R119); 04_clocks_and_crossings.md (R123, R124)) -/
def Obligations.AdpllWritesRestartAcquisition : Prop :=
  ∀ (s : State) (init pll : Nat), pll < 2 → s.mustWait .ref (adpllPage pll) = false →
  (∀ data, bitsOf data 1 0 ≠ 3 → restartRefused s pll = false →
    (pll = 0 → dcoOk (bitsOf data 1 0) (s.fld (ADPLLA + 0x44) 28 0) = true ∧
        outsOk s (bitsOf data 1 0) (s.fld (ADPLLA + 0x44) 28 0) = true) →
    ∃ t, exec (.adpllRefcfgWrite init pll data) s = .next t ∧ t.fld (adpllPage pll + 0x40) 1 0 = bitsOf data 1 0 ∧
        AcqRestarted pll s t ∧
    (pll = 1 → t.rd (ADPLLB + 0x44) = fcwOfMode (bitsOf data 1 0) ∧ t.bit (ADPLLB + 0x84) 31 = false) ∧
    Accepted init (adpllPage pll + 0x40) t ∧ AdpllFrame pll s t) ∧
  (∀ data, bitsOf data 1 0 = 3 ∨ restartRefused s pll = true ∨ (pll = 0 ∧
      (dcoOk (bitsOf data 1 0) (s.fld (ADPLLA + 0x44) 28 0) && outsOk s (bitsOf data 1 0) (s.fld (ADPLLA + 0x44) 28 0)) = false) → ∃ t, exec (.adpllRefcfgWrite init pll data) s = .next t ∧
    Refused init (adpllPage pll + 0x40) .refused t ∧ t.clk = s.clk ∧ t.rd (adpllPage pll + 0x40) = s.rd (adpllPage pll + 0x40)) ∧
  (∀ data, pll = 0 → s.rst.veto = true → dcoOk (s.fld (ADPLLA + 0x40) 1 0) (bitsOf data 28 0) = true →
    outsOk s (s.fld (ADPLLA + 0x40) 1 0) (bitsOf data 28 0) = true →
    ∃ t, exec (.adpllFcwWrite init pll data) s = .next t ∧ t.fld (ADPLLA + 0x44) 28 0 = bitsOf data 28 0 ∧ AcqRestarted 0 s t ∧
    Accepted init (ADPLLA + 0x44) t ∧ AdpllFrame 0 s t) ∧
  (∀ data, pll = 0 → s.rst.veto = false ∨ (dcoOk (s.fld (ADPLLA + 0x40) 1 0) (bitsOf data 28 0) &&
      outsOk s (s.fld (ADPLLA + 0x40) 1 0) (bitsOf data 28 0)) = false → ∃ t, exec (.adpllFcwWrite init pll data) s = .next t ∧
    Refused init (ADPLLA + 0x44) .refused t ∧ t.clk = s.clk ∧ t.rd (ADPLLA + 0x44) = s.rd (ADPLLA + 0x44)) ∧
  (∀ data, pll = 1 → ∃ t, exec (.adpllFcwWrite init pll data) s = .next t ∧ Accepted init (ADPLLB + 0x44) t ∧
    t = { s with bus := { s.bus with resp := t.bus.resp } }) ∧
  (∀ data, restartRefused s pll = true → ∃ t, exec (.adpllSoftReset init pll data) s = .next t ∧
    Refused init (adpllPage pll + 0x0C) .refused t ∧ t.clk = s.clk ∧ t.bus.softRst = s.bus.softRst) ∧
  (∀ data, restartRefused s pll = false → ∃ t, exec (.adpllSoftReset init pll data) s = .next t ∧
    AcqRestarted pll s t ∧ t.rd (adpllPage pll + 0x40) = resetOf (adpllPage pll + 0x40) ∧
    t.rd (adpllPage pll + 0x44) = resetOf (adpllPage pll + 0x44) ∧ t.rd (adpllPage pll + 0x14) = 0 ∧
    t.bus.softRst = s.bus.softRst ++ [adpllPage pll] ∧ Accepted init (adpllPage pll + 0x0C) t ∧ RegsBut (inPage (adpllPage pll)) s t ∧
    t = { s with regs := t.regs, clk := t.clk, ptp := t.ptp, bus := t.bus }) ∧
  (∀ k data, pll = 0 → k < 8 → 2 ≤ bitsOf data 15 8 → (k = 1 → tb data 31 = true) →
    (s.bit (ADPLLA + 0x60 + 4 * k) 31 = false ∨ s.fld (ADPLLA + 0x60 + 4 * k) 15 0 = bitsOf data 15 0) →
    (tb data 31 = true → outOk (s.fld (ADPLLA + 0x40) 1 0) (s.fld (ADPLLA + 0x44) 28 0) k (bitsOf data 15 8) = true) →
    ∃ t, exec (.adpllOutputCfgWrite init pll k data) s = .next t ∧ t.bit (ADPLLA + 0x60 + 4 * k) 31 = tb data 31 ∧
    t.fld (ADPLLA + 0x60 + 4 * k) 15 0 = bitsOf data 15 0 ∧ Accepted init (ADPLLA + 0x60 + 4 * k) t ∧
    RegsBut (fun a => a = ADPLLA + 0x60 + 4 * k) s t ∧
        t = { s with regs := t.regs, ptp := t.ptp, bus := { s.bus with resp := t.bus.resp } }) ∧
  (∀ k data, pll = 0 → k < 8 → bitsOf data 15 8 < 2 ∨ (k = 1 ∧ tb data 31 = false) ∨
      (s.bit (ADPLLA + 0x60 + 4 * k) 31 = true ∧ s.fld (ADPLLA + 0x60 + 4 * k) 15 0 ≠ bitsOf data 15 0) →
    ∃ t, exec (.adpllOutputCfgWrite init pll k data) s = .next t ∧
    Refused init (ADPLLA + 0x60 + 4 * k) .refused t ∧ t.rd (ADPLLA + 0x60 + 4 * k) = s.rd (ADPLLA + 0x60 + 4 * k)) ∧
  (∀ data, pll = 1 → tb data 31 = true ∨ anyPwmOn s = false → ∃ t, exec (.adpllOutputCfgWrite init pll 0 data) s = .next t ∧
    t.bit (ADPLLB + 0x60) 31 = tb data 31 ∧ Accepted init (ADPLLB + 0x60) t ∧ RegsBut (fun a => a = ADPLLB + 0x60) s t ∧
    t = { s with regs := t.regs, bus := { s.bus with resp := t.bus.resp } }) ∧
  (∀ data, pll = 1 → tb data 31 = false → anyPwmOn s = true → ∃ t, exec (.adpllOutputCfgWrite init pll 0 data) s = .next t ∧
    Refused init (ADPLLB + 0x60) .refused t ∧ t.bit (ADPLLB + 0x60) 31 = s.bit (ADPLLB + 0x60) 31)

/-- From every state: a lock declaration, made at the errors that R120 asks for and never without them, sets LOCK, clears ACQ and HOLD and ends a grace count, and ADPLL-B's first lock sets its
calibration valid with the measured trims; leaving lock clears LOCK, enters hold, sets the flag and the interrupt and on
ADPLL-A starts the grace count; a lost reference sets REF_LOST and holds, its return clears REF_LOST, and HOLD while acquiring (that is
DEDUCED, notes/assumptions/106.md); a grace expiry stops the
heartbeat and is flagged; a calibration update moves its trim by at most one step and flags an end code
with the target beyond it; the clock monitor shows the running
domains. Everything else stands. (04_clocks_and_crossings.md (R120-R122); 04_clocks_and_crossings.md (R125, R126);
04_clocks_and_crossings.md (R134)) -/
def Obligations.AdpllLockHoldAndGraceFollowTheReference : Prop :=
  ∀ s : State,
  (∀ pll errs trims w m, pll < 2 → lockMet s pll errs = true → s.rst.dawn ≠ .held → s.bit (adpllPage pll + 0x50) 31 = false →
      s.bit (adpllPage pll + 0x50) 28 = false →
    ∃ t, exec (.adpllLockDeclare pll errs trims w m) s = .next t ∧ t.bit (adpllPage pll + 0x50) 31 = true ∧
    t.bit (adpllPage pll + 0x50) 30 = false ∧ t.bit (adpllPage pll + 0x50) 29 = false ∧
    t.fld (adpllPage pll + 0x50) 15 0 = phErrBits (errs.getLastD 0) ∧ (pll = 0 → t.clk.grace = false) ∧
    (pll = 1 → s.bit (ADPLLB + 0x50) 30 = true → t.bit (ADPLLB + 0x84) 31 = true ∧ t.fld (ADPLLB + 0x84) 18 16 = w % 8 ∧
      (∀ g, g < 6 → nth 0 t.clk.trims g = min (nth 0 trims g) 63)) ∧
    (s.rst.dawn ≠ .locking → t.rst = s.rst) ∧
    (s.rst.dawn = .locking → t.rst.dawn = (if s.bit (adpllPage (1 - pll) + 0x50) 31 then .memTest else .locking)) ∧
    RegsBut (fun a => a = adpllPage pll + 0x50 ∨ a = ADPLLB + 0x84) s t ∧
    t = { s with regs := t.regs, clk := t.clk, ptp := t.ptp, rst := t.rst }) ∧
  (∀ pll errs trims w m, lockMet s pll errs = false → exec (.adpllLockDeclare pll errs trims w m) s = .next s) ∧
  (∀ pll errs, pll < 2 → s.bit (adpllPage pll + 0x50) 31 = true → unlockMet s pll errs = true →
    ∃ t, exec (.adpllLockLoss pll errs) s = .next t ∧ LockLeft pll t ∧
    (pll = 0 → t.clk.grace = true) ∧ RegsBut (fun a => a = adpllPage pll + 0x50 ∨ a = adpllPage pll + 0x14) s t ∧
    t = { s with regs := t.regs, clk := { s.clk with grace := t.clk.grace } }) ∧
  (∀ pll errs, s.bit (adpllPage pll + 0x50) 31 = false ∨ unlockMet s pll errs = false → exec (.adpllLockLoss pll errs) s = .next s) ∧
  (∀ pll, pll < 2 → s.bit (adpllPage pll + 0x50) 28 = false → ∃ t, exec (.referenceLoss pll) s = .next t ∧ t.bit (adpllPage pll + 0x50) 28 = true ∧
    t.bit (adpllPage pll + 0x50) 24 = true ∧ t.bit (adpllPage pll + 0x50) 29 = true ∧ t.bit (adpllPage pll + 0x50) 31 = false ∧
    t.bit (adpllPage pll + 0x14) 1 = true ∧ (pll = 0 → s.bit (ADPLLA + 0x50) 31 = true → t.clk.grace = true) ∧
    RegsBut (fun a => a = adpllPage pll + 0x50 ∨ a = adpllPage pll + 0x14) s t ∧
    t = { s with regs := t.regs, clk := { s.clk with grace := t.clk.grace } }) ∧
  (∀ pll, pll < 2 → s.bit (adpllPage pll + 0x50) 28 = true → ∃ t, exec (.referenceReturn pll) s = .next t ∧
    t.bit (adpllPage pll + 0x50) 28 = false ∧
    t.bit (adpllPage pll + 0x50) 29 = (s.bit (adpllPage pll + 0x50) 29 && !s.bit (adpllPage pll + 0x50) 30) ∧ RegsBut (fun a => a = adpllPage pll + 0x50) s t ∧
    t = { s with regs := t.regs }) ∧
  (s.clk.grace = true → ∃ t, exec .graceExpiry s = .next t ∧ t.bit (ADPLLA + 0x50) 25 = true ∧ t.bit (ADPLLA + 0x14) 2 = true ∧
    RegsBut (fun a => a = ADPLLA + 0x50 ∨ a = ADPLLA + 0x14) s t ∧
    t = { s with regs := t.regs, clk := { s.clk with grace := false }, rst := { s.rst with hbStopped := true } }) ∧
  (∀ g target w m, g < 6 → g < s.clk.trims.length → s.bit (ADPLLB + 0x80) 31 = true → s.bit (ADPLLB + 0x84) 31 = true →
    ∃ t, exec (.icalUpdate g target w m) s = .next t ∧ nth 0 t.clk.trims g = trimStep (nth 0 s.clk.trims g) target ∧
    (∀ h, h ≠ g → nth 0 t.clk.trims h = nth 0 s.clk.trims h) ∧ t.fld (ADPLLB + 0x84) 15 8 = min m 255 ∧
    ((nth 0 t.clk.trims g = 0 ∧ target < 0) ∨ (nth 0 t.clk.trims g = 63 ∧ 63 < target) →
      t.bit (ADPLLB + 0x84) 30 = true ∧ t.bit (ADPLLB + 0x14) 2 = true) ∧
    RegsBut (fun a => a = ADPLLB + 0x84 ∨ a = ADPLLB + 0x14) s t ∧
    t = { s with regs := t.regs, clk := { s.clk with trims := t.clk.trims } }) ∧
  (∃ t, exec .clockMonitorWindow s = .next t ∧ t.bit SYS.CLKSTAT 1 = s.domRun .fab ∧ t.bit SYS.CLKSTAT 0 = s.domRun .tel ∧
    t.bit SYS.CLKSTAT 2 = s.domRun .pwm ∧ t.bit SYS.CLKSTAT 9 = !s.bit (ADPLLA + 0x50) 28 ∧ t.bit SYS.CLKSTAT 10 = s.domRun .ps ∧ RegsBut (fun a => a = SYS.CLKSTAT) s t ∧
    t = { s with regs := t.regs })

/-- In every state: a 4-byte write to IRQ_EN of any page that answers makes it read the data and changes nothing else but the
response; a write of 1s clears exactly those bits of FAB.IRQ_RAW; an access that is not an aligned 4-byte one is refused with
cause 0x02, one to an address that no page, no memory and no ledger serves with 0x01, and one to the ledger window outside the
mailbox with 0x07; a write to a page that must wait only joins the queue of waiting accesses. A soft reset of a stateless
block's page puts its registers from 0x40 upward and its flags at reset and makes it wait; an always-on page refuses it. A
waiting write proceeds when its soft reset ends or its clock returns, and not before. (00_scope.md (R9-R11);
05_register_pages.md (R136, R137, R140); 05_register_pages.md (R142); 06_clearing_fabric.md (R173); 04_clocks_and_crossings.md
(R132)) -/
def Obligations.RegisterWritesObeyTheirPage : Prop :=
  ∀ (s : State) (init sub tick : Nat),
  (∀ b data, pageBase b = b → b ≠ 0 → s.mustWait (waitKey b).1 b = false →
    ∃ t, exec (.registerWrite init (b + 0x18) 4 data sub tick) s = .next t ∧ t.rd (b + 0x18) = data ∧ Accepted init (b + 0x18) t ∧
    RegsBut (fun a => a = b + 0x18) s t ∧ t = { s with regs := t.regs, bus := { s.bus with resp := t.bus.resp, quiet := none } }) ∧
  (∀ data, s.mustWait .fab FAB.base = false →
    ∃ t, exec (.registerWrite init (FAB.base + 0x14) 4 data sub tick) s = .next t ∧
    t.rd (FAB.base + 0x14) = s.rd (FAB.base + 0x14) &&& ~~~data ∧ RegsBut (fun a => a = FAB.base + 0x14) s t) ∧
  (∀ addr len data, findPage addr ≠ none → len ≠ 4 ∨ addr % 4 ≠ 0 → s.mustWait (waitKey addr).1 (waitKey addr).2 = false →
    ∃ t, exec (.registerWrite init addr len data sub tick) s = .next t ∧ Refused init addr .size t ∧ t.mem = s.mem ∧
    (s.bit SYS.ERRINFO 31 = false → t.rd SYS.ERRADDR = Word.ofNat addr)) ∧
  (∀ addr len data, findPage addr = none → inLedger addr = false → s.mustWait (waitKey addr).1 (waitKey addr).2 = false →
    ∃ t, exec (.registerWrite init addr len data sub tick) s = .next t ∧ Refused init addr .unmapped t ∧ t.mem = s.mem) ∧
  (∀ addr data, inLedger addr = true → addr % 4 = 0 → addr < 0x40C0F000 ∨ 0x40C0F100 ≤ addr → s.mustWait .fab 0 = false →
    ∃ t, exec (.registerWrite init addr 4 data sub tick) s = .next t ∧ Refused init addr .ledger t ∧ t.mem = s.mem ∧
    t.rd addr = s.rd addr) ∧
  (∀ addr len data, s.mustWait (waitKey addr).1 (waitKey addr).2 = true →
    ∃ t, exec (.registerWrite init addr len data sub tick) s = .next t ∧
    t = { s with bus := { s.bus with waiting := s.bus.waiting ++
      [{ init := init, addr := addr, data := data, bytes := leBytes len data.toNat, sub := sub, tick := tick }] } }) ∧
  (∀ b data, b ∈ [PWMC.base, XSPI.base, DDRC.base, DDRPHY.base] → s.mustWait (waitKey b).1 b = false → s.locked b = false →
    tb data 0 = false → ∃ t, exec (.pageSoftReset init b data) s = .next t ∧ Accepted init (b + 0x0C) t ∧
    (∀ a, b + 0x40 ≤ a → a < b + 0x1000 → t.rd a = resetOf a) ∧ t.rd (b + 0x14) = 0 ∧ t.en b = false ∧ b ∈ t.bus.softRst ∧
    RegsBut (inPage b) s t ∧ t.mem = s.mem) ∧
  (∀ b data, b ∈ [SYS.base, FAB.base, INTC.base, RSUP.base, SMBX.base] → s.mustWait (waitKey b).1 b = false →
    ∃ t, exec (.pageSoftReset init b data) s = .next t ∧ Refused init (b + 0x0C) .refused t ∧ t.bus.softRst = s.bus.softRst) ∧
  (∀ b, s.bus.softRst.contains b = true → s.bus.waiting = [] → ∃ t, exec (.softResetComplete b) s = .next t ∧
    (∀ c, c ∈ t.bus.softRst ↔ c ∈ s.bus.softRst ∧ c ≠ b) ∧ t = { s with bus := { s.bus with softRst := t.bus.softRst } }) ∧
  (∀ b x, pageBase b = b → b ≠ 0 → s.bus.softRst = [b] → s.bus.waiting = [x] → x.addr = b + 0x18 → x.write = true → x.bytes = [] →
    s.domRun (waitKey b).1 = true → ∃ t, exec (.softResetComplete b) s = .next t ∧ t.rd (b + 0x18) = x.data ∧
    t.bus.waiting = [] ∧ t.bus.softRst = [] ∧ RegsBut (fun a => a = b + 0x18) s t) ∧
  (∀ d, s.domRun (domOf d) = false → exec (.stoppedDomainRestart d) s = .next s) ∧
  (∀ d b x, d ≠ .pwm → pageBase b = b → b ≠ 0 → s.domRun (domOf d) = true → s.bus.softRst = [] → s.bus.waiting = [x] → x.addr = b + 0x18 →
    x.write = true → x.bytes = [] → s.domRun (waitKey b).1 = true → ∃ t, exec (.stoppedDomainRestart d) s = .next t ∧
    t.rd (b + 0x18) = x.data ∧ t.bus.waiting = [] ∧ RegsBut (fun a => a = b + 0x18) s t)

/-- In every state where the page answers: LOCK's two keys set and clear the lock bit of any page; a version is selected on an
unlocked page that is not enabled, and refused on one that is; VERSEL closes the selection of the always-on pages; the test
key is taken in OPEN and in SECURED with debug open, refused otherwise, and dropped by any other value; the debug key opens
debug in SECURED, is refused in RETIRED and any other value closes debug. Nothing else changes but the response.
(05_register_pages.md (R141, R144); 05_register_pages.md (R149, R150); 03_supplies_reset_dawn.md (R102)) -/
def Obligations.LocksVersionsAndKeysGuardThePages : Prop :=
  ∀ (s : State) (init : Nat),
  (∀ b, pageBase b = b → b ≠ 0 → s.mustWait (waitKey b).1 b = false → ∃ t, exec (.pageLock init b) s = .next t ∧
    t.locked b = true ∧ Accepted init (b + 0x20) t ∧ RegsBut (fun a => a = b + 0x10) s t ∧
    t = { s with regs := t.regs, bus := { s.bus with resp := t.bus.resp } }) ∧
  (∀ b, pageBase b = b → b ≠ 0 → s.mustWait (waitKey b).1 b = false → ∃ t, exec (.pageUnlock init b) s = .next t ∧
    t.locked b = false ∧ Accepted init (b + 0x20) t ∧ RegsBut (fun a => a = b + 0x10) s t ∧
    t = { s with regs := t.regs, bus := { s.bus with resp := t.bus.resp } }) ∧
  (∀ b data, b ∈ [WCMP.base, PCMP.base, SETL.base, GSYNC.base, PWMC.base, TELC.base, ADCC.base] → s.mustWait (waitKey b).1 b = false →
    s.locked b = false → s.en b = false → bitsOf data 3 0 = 1 ∨ bitsOf data 3 0 = 2 →
    ∃ t, exec (.ifverSelect init b data) s = .next t ∧ t.ver b = bitsOf data 3 0 ∧ Accepted init (b + 0x08) t ∧
    RegsBut (fun a => a = b + 0x08) s t ∧ t = { s with regs := t.regs, bus := { s.bus with resp := t.bus.resp } }) ∧
  (∀ b data, b ∈ [WCMP.base, PCMP.base, SETL.base, GSYNC.base, PWMC.base, TELC.base, ADCC.base] → s.mustWait (waitKey b).1 b = false →
    s.en b = true → s.locked b = false → ∃ t, exec (.ifverSelect init b data) s = .next t ∧ t.ver b = s.ver b ∧
    Refused init (b + 0x08) .refused t) ∧
  (s.mustWait .fab SYS.base = false → s.ver SYS.base ≠ 1 → ∃ t, exec (.verselClose init) s = .next t ∧ t.bit SYS.VERSEL 0 = false ∧
    Accepted init SYS.VERSEL t ∧ RegsBut (fun a => a = SYS.VERSEL) s t ∧
        t = { s with regs := t.regs, bus := { s.bus with resp := t.bus.resp } }) ∧
  (s.mustWait .fab SYS.base = false → s.lifecycle = 1 ∨ (s.lifecycle = 3 ∧ s.bit SYS.STAT 10 = true) →
    ∃ t, exec (.testKeyTake init) s = .next t ∧ t.bit SYS.STAT 9 = true ∧ t.bit SYS.IRQ_RAW 1 = true ∧ Accepted init SYS.TESTEN t ∧
    RegsBut (fun a => a = SYS.STAT ∨ a = SYS.IRQ_RAW) s t ∧ t = { s with regs := t.regs, bus := { s.bus with resp := t.bus.resp } }) ∧
  (s.mustWait .fab SYS.base = false → ¬ (s.lifecycle = 1 ∨ (s.lifecycle = 3 ∧ s.bit SYS.STAT 10 = true)) →
    ∃ t, exec (.testKeyTake init) s = .next t ∧ t.bit SYS.STAT 9 = s.bit SYS.STAT 9 ∧ Refused init SYS.TESTEN .refused t) ∧
  (∀ data, s.mustWait .fab SYS.base = false → data ≠ 0x7E575EED → ∃ t, exec (.testKeyDrop init data) s = .next t ∧
    t.bit SYS.STAT 9 = false ∧ Accepted init SYS.TESTEN t ∧ RegsBut (fun a => a = SYS.STAT) s t ∧
    t = { s with regs := t.regs, bus := { s.bus with resp := t.bus.resp } }) ∧
  (s.mustWait .fab SYS.base = false → s.lifecycle = 3 → ∃ t, exec (.debugOpen init) s = .next t ∧ t.bit SYS.STAT 10 = true ∧
    t.debugOpen = true ∧ Accepted init SYS.DBGOPEN t ∧ RegsBut (fun a => a = SYS.STAT) s t ∧
    t = { s with regs := t.regs, bus := { s.bus with resp := t.bus.resp } }) ∧
  (s.mustWait .fab SYS.base = false → s.lifecycle = 7 → ∃ t, exec (.debugOpen init) s = .next t ∧
    t.bit SYS.STAT 10 = s.bit SYS.STAT 10 ∧ Refused init SYS.DBGOPEN .refused t) ∧
  (∀ data, s.mustWait .fab SYS.base = false → s.lifecycle ≠ 7 → data ≠ 0xDEB60A4E → ∃ t, exec (.debugClose init data) s = .next t ∧
    t.bit SYS.STAT 10 = false ∧ Accepted init SYS.DBGOPEN t ∧ RegsBut (fun a => a = SYS.STAT) s t ∧
    t = { s with regs := t.regs, bus := { s.bus with resp := t.bus.resp } })

/-- From every state: an error response is the last response, sets the fabric's flag and, when none is held, is captured in
ERRADDR and ERRINFO with its initiator, cause and direction, a further one only sets the overflow bit; a clerk records the
access fault. A claim returns the best eligible source, which stops being pending until it is completed, or 0; a completion by
an enabled context makes the source claimable again, and any other is ignored. (05_register_pages.md (R148, R152, R153);
06_clearing_fabric.md (R173)) -/
def Obligations.ErrorsAreCapturedAndInterruptsClaimed : Prop :=
  ∀ (s : State) (init : Nat),
  (∀ addr sub w, s.bus.quiet = none → s.bus.cycle = none → ∃ t, exec (.fabricErrorResponse init addr 1 sub w) s = .next t ∧ Refused init addr .unmapped t ∧
    t.bit (FAB.base + 0x14) 0 = true ∧ t.bit SYS.ERRINFO 31 = true ∧ t.mem = s.mem ∧
    (s.bit SYS.ERRINFO 31 = false → t.rd SYS.ERRADDR = Word.ofNat addr ∧ t.fld SYS.ERRINFO 23 16 = init % 256 ∧
      t.fld SYS.ERRINFO 15 8 = 1 ∧ t.bit SYS.ERRINFO 0 = w ∧ t.bit SYS.IRQ_RAW 0 = true) ∧
    (s.bit SYS.ERRINFO 31 = true → t.rd SYS.ERRADDR = s.rd SYS.ERRADDR ∧ t.bit SYS.ERRINFO 30 = true) ∧
    (init = 64 → t.clerk0.fault = some (w, addr)) ∧ (init = 65 → t.clerk1.fault = some (w, addr)) ∧
    t = { s with regs := t.regs, bus := { s.bus with resp := t.bus.resp, capturedAt := t.bus.capturedAt },
                 clerk0 := t.clerk0, clerk1 := t.clerk1 }) ∧
  (∀ addr sub w, s.bus.quiet = none → ∃ t, exec (.fabricErrorResponse init addr 6 sub w) s = .next t ∧ Refused init addr .link t ∧
    t.bit (RSUP.base + 0x10) 8 = true ∧ t.bit (RSUP.base + 0x14) 1 = true) ∧
  (∀ ctx, ctx < 2 → s.mustWait .fab INTC.base = false → s.claimable ctx ≠ 0 → ∃ t, exec (.intcClaim init ctx) s = .next t ∧
    t.bus.resp.data = Word.ofNat (s.claimable ctx) ∧ t.bus.resp.cause = 0 ∧ t.claimed = s.claimed ++ [(s.claimable ctx, ctx)] ∧
    t.sourcePending (s.claimable ctx) = false ∧ t = { s with claimed := t.claimed, bus := { s.bus with resp := t.bus.resp } }) ∧
  (∀ ctx, ctx < 2 → s.mustWait .fab INTC.base = false → s.claimable ctx = 0 → ∃ t, exec (.intcClaim init ctx) s = .next t ∧
    t.bus.resp.data = 0 ∧ t = { s with bus := { s.bus with resp := t.bus.resp } }) ∧
  (∀ ctx data, ctx < 2 → s.mustWait .fab INTC.base = false → s.intEnabled ctx (bitsOf data 7 0) = true →
    (∃ p ∈ s.claimed, p.1 = bitsOf data 7 0) → ∃ t, exec (.intcComplete init ctx data) s = .next t ∧
    (∀ p, p ∈ t.claimed ↔ p ∈ s.claimed ∧ p.1 ≠ bitsOf data 7 0) ∧
    t.sourcePending (bitsOf data 7 0) = s.sourceLevel (bitsOf data 7 0) ∧
    t = { s with claimed := t.claimed, bus := { s.bus with resp := t.bus.resp } }) ∧
  (∀ ctx data, ctx < 2 → s.mustWait .fab INTC.base = false → s.intEnabled ctx (bitsOf data 7 0) = false →
    ∃ t, exec (.intcComplete init ctx data) s = .next t ∧ t = { s with bus := { s.bus with resp := t.bus.resp } })

/-- From every state: a slip that fits one 16-byte block takes the coin R159 and R160 name and joins the slips in flight, or waits
when no coin is free or an older slip of its initiator waits; one that does not fit is refused with cause 0x02; a clerk's
atomic outside SRAM and the TCMs takes an access fault, and a clerk's write to its own TCM lands at once without a coin. A granted
write to system SRAM stores exactly its enabled bytes and a granted read returns them, each marking its slip applied; nothing is
granted while CLK_FAB is stopped or nothing can be granted. A completed slip returns its coin, at once or, under a perturbation,
withheld until it is returned; while CLK_FAB is stopped nothing completes. Which free coin a slip takes is the model's choice
(notes/assumptions/81.md). (06_clearing_fabric.md (R155-R160); 06_clearing_fabric.md (R162); 05_register_pages.md (R136);
20_host_and_vehicle_interfaces.md (R506); 06_clearing_fabric.md (R176)) -/
def Obligations.SlipsTakeCoinsAreGrantedAndReturnThem : Prop :=
  ∀ s : State,
  (∀ init addr w bytes en len cycle sub us ecc, initClass init ≠ none → slipSizeOk addr (if w then bytes.length else len) = true →
    ownTcm init addr = false → (∀ q ∈ s.fab.stalled, q.init ≠ init) → ∀ c, s.takeCoin init = some c →
    ∃ t p, exec (.slipIssue init addr w bytes en len cycle sub us .plain ecc) s = .next t ∧ t.fab.slips = s.fab.slips ++ [p] ∧
    p.coin = c ∧ p.init = init ∧ p.addr = addr ∧ p.write = w ∧ p.bytes = (if w then bytes else []) ∧
    p.enables = (if w then en else []) ∧ p.applied = false ∧ p.cycle = cycle ∧
    t.fab.stalled = s.fab.stalled ∧ RegsBut (inPage FAB.base) s t ∧ t = { s with regs := t.regs, fab := t.fab }) ∧
  (∀ init addr w bytes en len cycle sub us ecc, initClass init ≠ none → slipSizeOk addr (if w then bytes.length else len) = true →
    ownTcm init addr = false → (∃ q ∈ s.fab.stalled, q.init = init) ∨ s.takeCoin init = none →
    ∃ t p, exec (.slipIssue init addr w bytes en len cycle sub us .plain ecc) s = .next t ∧ p.init = init ∧ p.addr = addr ∧
    p.write = w ∧ t = { s with fab := { s.fab with stalled := s.fab.stalled ++ [p] } }) ∧
  (∀ init addr w bytes en len cycle sub us ecc, initClass init ≠ none → slipSizeOk addr (if w then bytes.length else len) = false →
    ∃ t, exec (.slipIssue init addr w bytes en len cycle sub us .plain ecc) s = .next t ∧ Refused init addr .size t ∧
    t.fab = s.fab ∧ t.mem = s.mem) ∧
  (∀ init addr w bytes en len cycle sub us k ecc, init = 64 ∨ init = 65 → k ≠ .plain → atomicOk addr = false →
    ∃ t, exec (.slipIssue init addr w bytes en len cycle sub us k ecc) s = .next t ∧
    (t.clerk (init - 64)).fault = some (decide (k ≠ .lr), addr) ∧ t.fab = s.fab ∧ t.regs = s.regs ∧ t.bus = s.bus) ∧
  (∀ init addr bytes len cycle sub us ecc, ownTcm init addr = true → slipSizeOk addr bytes.length = true → addr % bytes.length = 0 →
    ∃ t, exec (.slipIssue init addr true bytes [] len cycle sub us .plain ecc) s = .next t ∧
    (∀ i (h : i < bytes.length), t.byte (addr + i) = bytes[i]) ∧ MemBut (fun a => addr ≤ a ∧ a < addr + bytes.length) s t ∧
    Accepted init addr t ∧ t.fab = s.fab ∧ t.regs = s.regs) ∧
  (∀ port cycle target tick us ev ecc, s.domRun .fab = false ∨ s.grantee port cycle (s.slipBlocked target) = none →
    exec (.slipGrant port cycle target tick us ev ecc) s = .next s) ∧
  (∀ cycle target tick us ev ecc p, s.grantee 17 cycle (s.slipBlocked target) = some p → s.domRun .fab = true →
    portOf p.addr = 17 → p.kind = .plain → p.write = true → p.init ≠ 64 → p.init ≠ 65 →
    ∃ t, exec (.slipGrant 17 cycle target tick us ev ecc) s = .next t ∧
    (∀ i (h : i < p.bytes.length), t.byte (p.addr + i) = if p.enables.getD i true then p.bytes[i] else s.byte (p.addr + i)) ∧
    MemBut (fun a => p.addr ≤ a ∧ a < p.addr + p.bytes.length) s t ∧
    t.fab.slips = s.fab.slips.map (fun x => if x.coin = p.coin then { x with applied := true, cause := 0, data := [] } else x) ∧
    RegsBut (inPage FAB.base) s t) ∧
  (∀ cycle target tick us ev p, s.grantee 17 cycle (s.slipBlocked target) = some p → s.domRun .fab = true → portOf p.addr = 17 →
    p.kind = .plain → p.write = false → p.init ≠ 64 → p.init ≠ 65 → (∀ b ∈ s.health.bad, b ≠ p.addr / 16 * 16 ∧
        b ≠ (p.addr + p.len - 1) / 16 * 16) →
    ∃ t, exec (.slipGrant 17 cycle target tick us ev none) s = .next t ∧ t.mem = s.mem ∧
    t.fab.slips = s.fab.slips.map (fun x => if x.coin = p.coin then
      { x with applied := true, cause := 0, data := s.getBytes p.addr p.len } else x) ∧ RegsBut (inPage FAB.base) s t) ∧
  (∀ coin cycle p, s.slipOf coin = some p → s.domRun .fab = true → p.applied = true → p.onWay = false → p.cause = 0 → p.init < 26 →
    s.fab.stalled = [] → (∀ m ∈ s.eth, m.rxq = []) → (∀ c ∈ s.can, c.held = []) →
    ∃ t, exec (.slipComplete coin cycle) s = .next t ∧ (∀ q, q ∈ t.fab.slips ↔ q ∈ s.fab.slips ∧ q.coin ≠ coin) ∧
    t.fab.withheld = (if p.late then s.fab.withheld ++ [(coin, p.init)] else s.fab.withheld) ∧ RegsBut (inPage FAB.base) s t ∧
    t = { s with regs := t.regs, fab := t.fab }) ∧
  (∀ coin cycle, s.domRun .fab = false → exec (.slipComplete coin cycle) s = .next s) ∧
  (∀ coin cycle init, (coin, init) ∈ s.fab.withheld → s.domRun .fab = true → s.fab.stalled = [] → (∀ m ∈ s.eth, m.rxq = []) →
    (∀ c ∈ s.can, c.held = []) → ∃ t, exec (.perturbCoinReturn coin cycle) s = .next t ∧
    (∀ q, q ∈ t.fab.withheld ↔ q ∈ s.fab.withheld ∧ q.1 ≠ coin) ∧ t.fab.slips = s.fab.slips ∧ RegsBut (inPage FAB.base) s t ∧
    t = { s with regs := t.regs, fab := t.fab })

/-- From every state in which CLK_FAB runs: a waiting slip of a class other than LOOP whose age, which saturates at 4,095, exceeds its
threshold takes its aged rank and is counted, an older mark or a younger slip changes nothing; a TEST slip of a slice near its
deadline becomes urgent, flagged and counted, and one further from it does not; a write to WATCHSEL sets it and clears the watch
counters. Only the slip of that coin and the fabric's page change. (06_clearing_fabric.md (R162-R164); 06_clearing_fabric.md
(R158)) -/
def Obligations.SlipsAgeTurnUrgentAndAreWatched : Prop :=
  ∀ s : State, s.domRun .fab = true →
  (∀ coin cycle p, s.slipOf coin = some p → ∀ c, initClass p.init = some c → c ≠ .loop → p.applied = false → p.aged = false →
    s.ageLimit c < min (cycle - p.cycle) 4095 → ∃ t, exec (.slipAged coin cycle) s = .next t ∧
    t.fab.slips = s.fab.slips.map (fun q => if q.coin = coin then { q with aged := true } else q) ∧
    (s.bit (FAB.base + 0x0C) 2 = false → t.rd FAB.AGEDCNT = Word.ofNat (min ((s.rd FAB.AGEDCNT).toNat + 1) (2 ^ 32 - 1))) ∧
    (s.bit (FAB.base + 0x0C) 2 = true → t.rd FAB.AGEDCNT = s.rd FAB.AGEDCNT) ∧
    RegsBut (fun a => a = FAB.AGEDCNT) s t ∧ t = { s with regs := t.regs, fab := { s.fab with slips := t.fab.slips } }) ∧
  (∀ coin cycle p, s.slipOf coin = some p → ∀ c, initClass p.init = some c → c = .loop ∨ p.aged = true ∨
      min (cycle - p.cycle) 4095 ≤ s.ageLimit c →
    exec (.slipAged coin cycle) s = .next s) ∧
  (∀ coin at_ p, s.slipOf coin = some p → ∀ d, p.deadline = some d → initClass p.init = some .test → p.applied = false →
    p.urgent = false → d ≤ at_ + 16000 * s.urgMargin → ∃ t, exec (.slipUrgent coin at_) s = .next t ∧
    t.fab.slips = s.fab.slips.map (fun q => if q.coin = coin then { q with urgent := true } else q) ∧
    t.bit (FAB.base + 0x14) 1 = true ∧ RegsBut (fun a => a = FAB.URGCNT ∨ a = FAB.base + 0x14) s t ∧
    t = { s with regs := t.regs, fab := { s.fab with slips := t.fab.slips }, now := max s.now at_ }) ∧
  (∀ coin at_ p, s.slipOf coin = some p → ∀ d, p.deadline = some d → at_ + 16000 * s.urgMargin < d →
    exec (.slipUrgent coin at_) s = .next { s with now := max s.now at_ }) ∧
  (∀ init data, s.mustWait .fab FAB.base = false → s.ver FAB.base = 2 → ∃ t, exec (.watchSelect init data) s = .next t ∧
    t.bit FAB.WATCHSEL 31 = tb data 31 ∧ t.fld FAB.WATCHSEL 7 0 = bitsOf data 7 0 ∧
    (s.bit (FAB.base + 0x0C) 2 = true → t.rd FAB.WATCHISS = 0 ∧ t.rd FAB.WATCHLAT = 0 ∧ t.fld FAB.WATCHOUT 22 16 = 0) ∧
    Accepted init FAB.WATCHSEL t ∧ RegsBut (inPage FAB.base) s t ∧
    t = { s with regs := t.regs, bus := { s.bus with resp := t.bus.resp } })

/-- From every state in which CLK_ADC runs: taken events count toward their groups and fired groups are noted in GRPFIRED and start a
run at every idle enabled member position; a selected edge is sent to the matrix, and merges with one that still waits; a software
trigger fires its enabled groups; a group's configuration restarts its count, a reserved source is refused and version 1 ignores
groups it lacks; a conversion's end puts the rounded, saturated result with its flags in RESULT and goes on to the next selected
entry, the pending run or rest; a discarded one leaves RESULT alone; a push takes the coin, clears NEW and issues the push word to
the input slot; a read returns RESULT and clears NEW. Other positions stand, and with CLK_ADC stopped nothing happens.
(07_control_converters.md (R179, R182-R184); 07_control_converters.md (R185-R188); 07_control_converters.md (R189-R191);
04_clocks_and_crossings.md (R124, R127)) -/
def Obligations.TriggersStartRunsAndResultsLand : Prop :=
  ∀ s : State,
  (s.domRun .adc = false → ∀ codes cycle j rising n vin vs, exec (.triggerGroupFire codes cycle) s = .next s ∧
    exec (.adcTrigEdge j rising) s = .next s ∧ exec (.conversionEnd n vin vs) s = .next s ∧ exec (.resultPush n cycle) s = .next s) ∧
  (s.domRun .adc = true →
  (∀ codes cycle, s.en ADCC.base = true → s.fld ADCC.ROTSTAT 31 30 ≠ 2 →
    ∀ g, s.groupStep (s.conv.sent.filter (fun e => codes.contains e.code)) = g →
    ∃ t, exec (.triggerGroupFire codes cycle) s = .next t ∧ t.conv.counts = g.2.2 ∧
    t.conv.sent = s.conv.sent.filter (fun e => !codes.contains e.code) ∧
    t.rd ADCC.GRPFIRED = s.rd ADCC.GRPFIRED ||| Word.ofNat g.1 ∧
    (∀ n, n < 26 → n < s.conv.pos.length → s.en (CV.base n) = true → (s.cpos n).cur = none → ∀ k, s.nextEntry n g.1 0 = some k →
      (t.cpos n).cur = some k ∧ (t.cpos n).groups = g.1 ∧ t.rd (CV.RUNCNT n) = s.rd (CV.RUNCNT n) + 1 ∧ t.bit (CV.STAT n) 8 = true) ∧
    (∀ n, n < 26 → s.en (CV.base n) = false → t.cpos n = s.cpos n) ∧
    RegsBut (fun a => a = ADCC.GRPFIRED ∨ ∃ n, n < 26 ∧ (a = CV.STAT n ∨ a = CV.RUNCNT n ∨ a = CV.base n + 0x14)) s t ∧
    t = { s with regs := t.regs, conv := t.conv }) ∧
  (∀ codes cycle, s.en ADCC.base = false → ∃ t, exec (.triggerGroupFire codes cycle) s = .next t ∧
    t = { s with conv := { s.conv with sent := s.conv.sent.filter (fun e => !codes.contains e.code) } }) ∧
  (∀ j rising, j < 4 → s.bit ADCC.EXTTRIG (2 * j + (if rising then 0 else 1)) = true → (∀ e ∈ s.conv.sent, e.code ≠ 192 + j) →
    exec (.adcTrigEdge j rising) s =
      .next { s with conv := { s.conv with sent := s.conv.sent ++ [{ code := 192 + j, time := s.now }] } }) ∧
  (∀ j rising, j < 4 → s.bit ADCC.EXTTRIG (2 * j + (if rising then 0 else 1)) = true → (∃ e ∈ s.conv.sent, e.code = 192 + j) →
    exec (.adcTrigEdge j rising) s =
      .next { s with conv := { s.conv with sent := s.conv.sent.map (fun e => if e.code = 192 + j then { e with twice := true } else e) } }) ∧
  (∀ j rising, j < 4 → s.bit ADCC.EXTTRIG (2 * j + (if rising then 0 else 1)) = false → exec (.adcTrigEdge j rising) s = .next s) ∧
  (∀ init data cycle, s.mustWait .adc ADCC.base = false → s.en ADCC.base = true → s.fld ADCC.ROTSTAT 31 30 ≠ 2 →
    ∃ t, exec (.swtrigWrite init data cycle) s = .next t ∧
    t.rd ADCC.GRPFIRED = s.rd ADCC.GRPFIRED ||| Word.ofNat (s.swGroups data) ∧ t.conv.counts = s.conv.counts ∧
    (∀ n, n < 26 → n < s.conv.pos.length → s.en (CV.base n) = true → (s.cpos n).cur = none →
      ∀ k, s.nextEntry n (s.swGroups data) 0 = some k → (t.cpos n).cur = some k ∧ t.rd (CV.RUNCNT n) = s.rd (CV.RUNCNT n) + 1) ∧
    Accepted init ADCC.SWTRIG t ∧ t = { s with regs := t.regs, conv := t.conv, bus := { s.bus with resp := t.bus.resp } }) ∧
  (∀ init k data, k < 32 → s.mustWait .adc ADCC.base = false → s.locked ADCC.base = false → s.ver ADCC.base = 2 →
    bitsOf data 7 0 < 196 → bitsOf data 15 8 < 196 → ∃ t, exec (.triggerGroupCfgWrite init k data) s = .next t ∧
    t.fld (ADCC.TG_CFG k) 31 30 = bitsOf data 31 30 ∧ t.fld (ADCC.TG_CFG k) 23 20 = bitsOf data 23 20 ∧
    t.fld (ADCC.TG_CFG k) 15 0 = bitsOf data 15 0 ∧ tabGet t.conv.counts k = 0 ∧ (∀ j, j ≠ k →
        tabGet t.conv.counts j = tabGet s.conv.counts j) ∧
    Accepted init (ADCC.TG_CFG k) t ∧ RegsBut (fun a => a = ADCC.TG_CFG k) s t ∧
    t = { s with regs := t.regs, conv := { s.conv with counts := t.conv.counts }, bus := { s.bus with resp := t.bus.resp } }) ∧
  (∀ init k data, k < 32 → s.mustWait .adc ADCC.base = false → s.ver ADCC.base ≠ 1 ∨ k < 16 →
    196 ≤ bitsOf data 7 0 ∨ 196 ≤ bitsOf data 15 8 →
    ∃ t, exec (.triggerGroupCfgWrite init k data) s = .next t ∧ Refused init (ADCC.TG_CFG k) .refused t ∧ t.conv = s.conv) ∧
  (∀ init k data, 16 ≤ k → k < 32 → s.mustWait .adc ADCC.base = false → s.ver ADCC.base = 1 →
    ∃ t, exec (.triggerGroupCfgWrite init k data) s = .next t ∧ Accepted init (ADCC.TG_CFG k) t ∧
    t = { s with bus := { s.bus with resp := t.bus.resp } }) ∧
  (∀ n vin vs, n < 26 → n < s.conv.pos.length → ∀ e, (s.cpos n).cur = some e → (s.cpos n).discard = false →
    ∃ t, exec (.conversionEnd n vin vs) s = .next t ∧
    t.rd (CV.RESULT n) = resultWord (s.bit (CV.RESULT n) 31) (s.cpos n).merged (convClips (s.cpos n).fieldsA vin) e
      (s.fld (CV.RUNCNT n) 7 0) (convResult (s.cpos n).fieldsA vin) ∧
    (∀ k, s.nextEntry n (s.cpos n).groups (e + 1) = some k → (t.cpos n).cur = some k ∧ (t.cpos n).pend = (s.cpos n).pend) ∧
    (s.nextEntry n (s.cpos n).groups (e + 1) = none → (s.cpos n).pend = none → (t.cpos n).cur = none ∧ t.bit (CV.STAT n) 8 = false) ∧
    (s.nextEntry n (s.cpos n).groups (e + 1) = none → ∀ p, (s.cpos n).pend = some p → ∀ k, s.nextEntry n p.1 0 = some k →
      (t.cpos n).cur = some k ∧ (t.cpos n).groups = p.1 ∧ (t.cpos n).pend = none ∧ t.bit (CV.STAT n) 2 = true) ∧
    (∀ m, m ≠ n → t.cpos m = s.cpos m) ∧
    RegsBut (fun a => inPage ADCC.base a ∨ (CV.base n ≤ a ∧ a < CV.base n + 0x800) ∨ ∃ m, m < 32 ∧ a = CV.STAT m) s t ∧
    t = { s with regs := t.regs, conv := t.conv }) ∧
  (∀ n vin vs, n < 26 → n < s.conv.pos.length → (s.cpos n).cur ≠ none → (s.cpos n).discard = true → (s.cpos n).pend = none →
    ∃ t, exec (.conversionEnd n vin vs) s = .next t ∧ (t.cpos n).cur = none ∧ (t.cpos n).discard = false ∧
    (∀ m, m ≠ n → t.cpos m = s.cpos m) ∧ RegsBut (fun a => a = CV.STAT n) s t ∧ t = { s with regs := t.regs, conv := t.conv }) ∧
  (∀ n cycle, n < 26 → n < s.conv.pos.length → ∀ d, (s.cpos n).dest = some d → s.bit (CV.RESULT n) 31 = true →
    s.en (CV.base n) = true → s.domRun .fab = true → (∀ q ∈ s.fab.stalled, q.init ≠ n) → ∀ c, s.takeCoin n = some c →
    ∃ t p, exec (.resultPush n cycle) s = .next t ∧ t.bit (CV.RESULT n) 31 = false ∧ (t.cpos n).dest = none ∧
    t.fab.slips = s.fab.slips ++ [p] ∧ p.coin = c ∧ p.init = n ∧ p.write = true ∧ p.addr = s.slotAddr d.1 d.2.1 d.2.2 ∧
    p.bytes = leBytes 4 (pushWord s n).toNat ∧ (∀ m, m ≠ n → t.cpos m = s.cpos m) ∧
    RegsBut (fun a => a = CV.RESULT n ∨ inPage FAB.base a) s t ∧ t = { s with regs := t.regs, conv := t.conv, fab := t.fab }) ∧
  (∀ init n, n < 26 → s.mustWait .adc (CV.base n) = false → ∃ t, exec (.resultRead init n) s = .next t ∧
    t.bus.resp = { init := init, addr := CV.RESULT n, cause := 0, data := s.shown (CV.RESULT n) } ∧ t.bit (CV.RESULT n) 31 = false ∧
    RegsBut (fun a => a = CV.RESULT n) s t ∧ t = { s with regs := t.regs, bus := { s.bus with resp := t.bus.resp } }))

/-- From every state: an entry write sets the entry's fields and restarts a shadow of its position, an input the position cannot
select is refused; disabling clears EN, drops the pending run and marks the conversion in progress to be discarded; ROTCFG is
written, its EN refused while a spare position is enabled, and a clear of
EN ends a shadow, its unit back in the pool; a chosen shadow starts with its position, unit and flag; after a
pass the spare unit serves the position, the freed unit the spare position, counted and flagged; an abandoned shadow ends
counted, its unit released. Memory and other blocks stand. (07_control_converters.md (R178, R188); 07_control_converters.md
(R192-R196)) -/
def Obligations.ConvertersAreConfiguredAndRotated : Prop :=
  ∀ s : State,
  (∀ init n k data, n < 26 → k < 16 → s.mustWait .adc (CV.base n) = false → s.locked (CV.base n) = false → s.ver (CV.base n) = 2 →
    inselOk n (bitsOf data 6 0) = true → ∃ t, exec (.entryWrite init n k false data) s = .next t ∧
    t.fld (CV.ENTRY_A n k) 31 16 = bitsOf data 31 16 ∧ t.fld (CV.ENTRY_A n k) 6 0 = bitsOf data 6 0 ∧
        Accepted init (CV.ENTRY_A n k) t ∧
    (s.fld ADCC.ROTSTAT 31 30 = 1 → s.fld ADCC.ROTSTAT 28 24 = n → t.fld ADCC.ROTSTAT 12 0 = 0) ∧
    RegsBut (fun a => a = CV.ENTRY_A n k ∨ a = ADCC.ROTSTAT) s t ∧
        t = { s with regs := t.regs, bus := { s.bus with resp := t.bus.resp } }) ∧
  (∀ init n k data, n < 26 → k < 16 → s.mustWait .adc (CV.base n) = false → s.locked (CV.base n) = false → s.ver (CV.base n) = 2 →
    ∃ t, exec (.entryWrite init n k true data) s = .next t ∧
    t.bit (CV.ENTRY_B n k) 31 = tb data 31 ∧ t.fld (CV.ENTRY_B n k) 19 16 = bitsOf data 19 16 ∧
    t.fld (CV.ENTRY_B n k) 10 8 = bitsOf data 10 8 ∧ t.fld (CV.ENTRY_B n k) 3 0 = bitsOf data 3 0 ∧ Accepted init (CV.ENTRY_B n k) t ∧
    RegsBut (fun a => a = CV.ENTRY_B n k ∨ a = ADCC.ROTSTAT) s t ∧
        t = { s with regs := t.regs, bus := { s.bus with resp := t.bus.resp } }) ∧
  (∀ init n k data, n < 26 → k < 16 → s.mustWait .adc (CV.base n) = false → inselOk n (bitsOf data 6 0) = false →
    ∃ t, exec (.entryWrite init n k false data) s = .next t ∧ Refused init (CV.ENTRY_A n k) .refused t ∧
    t.rd (CV.ENTRY_A n k) = s.rd (CV.ENTRY_A n k)) ∧
  (∀ init n, n < 26 → n < s.conv.pos.length → s.mustWait .adc (CV.base n) = false → ∃ t, exec (.converterDisable init n) s = .next t ∧
    t.en (CV.base n) = false ∧ (t.cpos n).pend = none ∧ (t.cpos n).dest = none ∧ (t.cpos n).discard = (s.cpos n).cur.isSome ∧
    (t.cpos n).cur = (s.cpos n).cur ∧ (∀ m, m ≠ n → t.cpos m = s.cpos m) ∧ Accepted init (CV.base n + 0x0C) t ∧
    RegsBut (fun a => a = CV.base n + 0x0C) s t ∧
        t = { s with regs := t.regs, conv := t.conv, bus := { s.bus with resp := t.bus.resp } }) ∧
  (∀ init data, s.mustWait .adc ADCC.base = false → s.locked ADCC.base = false → s.ver ADCC.base = 2 →
    (tb data 31 = true → s.en (CV.base 24) = false ∧ s.en (CV.base 25) = false) → tb data 31 = true ∨ s.fld ADCC.ROTSTAT 31 30 = 0 →
    ∃ t, exec (.converterRotcfgWrite init data) s = .next t ∧ t.bit ADCC.ROTCFG 31 = tb data 31 ∧
    t.fld ADCC.ROTCFG 23 0 = bitsOf data 23 0 ∧ Accepted init ADCC.ROTCFG t ∧ RegsBut (fun a => a = ADCC.ROTCFG) s t ∧
    t = { s with regs := t.regs, bus := { s.bus with resp := t.bus.resp } }) ∧
  (∀ init data, s.mustWait .adc ADCC.base = false → tb data 31 = true → s.en (CV.base 24) = true ∨ s.en (CV.base 25) = true →
    ∃ t, exec (.converterRotcfgWrite init data) s = .next t ∧ Refused init ADCC.ROTCFG .refused t ∧ t.conv = s.conv ∧
    t.rd ADCC.ROTCFG = s.rd ADCC.ROTCFG) ∧
  (∀ sp p, s.domRun .adc = true → sp = 24 ∨ sp = 25 → p < 24 → s.bit ADCC.ROTCFG 31 = true → s.fld ADCC.ROTSTAT 31 30 = 0 → s.en (CV.base p) = true →
    s.fld (CV.STAT sp) 24 20 ∈ s.conv.released → s.conv.chosen = some (sp, p) → ∃ t, exec (.converterShadowStart sp p) s = .next t ∧
    t.fld ADCC.ROTSTAT 31 30 = 1 ∧ t.fld ADCC.ROTSTAT 28 24 = p ∧ t.fld ADCC.ROTSTAT 20 16 = s.fld (CV.STAT sp) 24 20 ∧
    t.fld ADCC.ROTSTAT 12 0 = 0 ∧ t.rd ADCC.ROTEXC = 0 ∧ t.bit (CV.STAT p) 9 = true ∧ t.conv.chosen = none ∧ t.conv.exceed = 0 ∧
    t.conv.pos = s.conv.pos ∧ RegsBut (fun a => a = ADCC.ROTSTAT ∨ a = ADCC.ROTEXC ∨ a = CV.STAT p) s t ∧
    t = { s with regs := t.regs, conv := t.conv }) ∧
  (∀ p u, s.domRun .adc = true → p < 24 → s.fld ADCC.ROTSTAT 31 30 = 2 → s.fld ADCC.ROTSTAT 28 24 = p → s.fld ADCC.ROTSTAT 20 16 = u →
      (s.cpos p).cur = none →
    ∃ t, exec .converterHandover s = .next t ∧ t.fld (CV.STAT p) 24 20 = u ∧
    t.fld (CV.STAT (s.sparePos u)) 24 20 = s.fld (CV.STAT p) 24 20 ∧ t.fld ADCC.ROTSTAT 31 30 = 0 ∧
    t.bit (CV.base p + 0x14) 6 = true ∧ t.bit (ADCC.base + 0x14) 0 = true ∧
    t.fld ADCC.ROTCNT 31 16 = min (s.fld ADCC.ROTCNT 31 16 + 1) 65535 ∧ t.conv.freed = s.conv.freed ++ [s.fld (CV.STAT p) 24 20] ∧
    t.conv.pos = s.conv.pos ∧
    RegsBut (fun a => a ∈ [ADCC.ROTSTAT, ADCC.ROTCNT, ADCC.base + 0x14, CV.base p + 0x14, CV.STAT p, CV.STAT (s.sparePos u)]) s t ∧
    t = { s with regs := t.regs, conv := t.conv }) ∧
  (s.domRun .adc = true → s.fld ADCC.ROTSTAT 31 30 = 1 → ∃ t, exec .converterShadowAbandon s = .next t ∧ t.fld ADCC.ROTSTAT 31 30 = 0 ∧
    t.bit (CV.STAT (s.fld ADCC.ROTSTAT 28 24)) 9 = false ∧ t.fld ADCC.ROTCNT 7 0 = min (s.fld ADCC.ROTCNT 7 0 + 1) 255 ∧
    t.bit (ADCC.base + 0x14) 2 = true ∧ t.conv.released = s.conv.released ++ [s.fld ADCC.ROTSTAT 20 16] ∧ t.conv.pos = s.conv.pos ∧
    RegsBut (fun a => a ∈ [ADCC.ROTSTAT, ADCC.ROTCNT, ADCC.base + 0x14, CV.STAT (s.fld ADCC.ROTSTAT 28 24)]) s t ∧
    t = { s with regs := t.regs, conv := t.conv }) ∧
  (∀ init data, s.mustWait .adc ADCC.base = false → s.locked ADCC.base = false → s.ver ADCC.base = 2 → tb data 31 = false →
    s.fld ADCC.ROTSTAT 31 30 ≠ 0 → ∃ t, exec (.converterRotcfgWrite init data) s = .next t ∧ t.bit ADCC.ROTCFG 31 = false ∧
    t.fld ADCC.ROTSTAT 31 30 = 0 ∧ t.bit (CV.STAT (s.fld ADCC.ROTSTAT 28 24)) 9 = false ∧
    t.conv.released = s.conv.released ++ [s.fld ADCC.ROTSTAT 20 16] ∧ Accepted init ADCC.ROTCFG t ∧
    RegsBut (fun a => a ∈ [ADCC.ROTCFG, ADCC.ROTSTAT, CV.STAT (s.fld ADCC.ROTSTAT 28 24)]) s t)

/-- For every generator, from every state in which the pages answer: enabling clears PCNT and starts with both outputs low;
disabling ends the run with both outputs low; a START write schedules the first period of every named armed free-running
generator 128 units later, and is refused while PWMC is disabled; at a period start the period begins at its due instant, PCNT
rises by one, RUN is set, no edge has fired and the start event is sent; a follower that reaches PER holds while a start is
scheduled and otherwise begins a period with SYNC_MISS. Other generators and half-bridges stand. (08_edge_pwm.md (R198, R203,
R204); 08_edge_pwm.md (R206, R207)) -/
def Obligations.GeneratorsEnableStartAndBeginPeriods : Prop :=
  ∀ (s : State) (init n tick : Nat), n < 48 → n < s.pwm.length →
  (s.mustWait .pwm (PWM.base n) = false → s.en (PWM.base n) = false → ∃ t, exec (.pwmEnable init n tick) s = .next t ∧
    t.en (PWM.base n) = true ∧ t.rd (PWM.PCNT n) = 0 ∧ (t.gen n).outA = false ∧ (t.gen n).outB = false ∧ (t.gen n).w = false ∧
    (t.gen n).starts = [] ∧ Accepted init (PWM.base n + 0x0C) t ∧ PwmWriteFrame n s t) ∧
  (s.mustWait .pwm (PWM.base n) = false → s.en (PWM.base n) = true → ∃ t, exec (.pwmDisable init n tick) s = .next t ∧
    t.en (PWM.base n) = false ∧ t.pwmRun n = false ∧ t.bit (PWM.STAT n) 9 = false ∧ (t.gen n).outA = false ∧ (t.gen n).outB = false ∧
    (t.gen n).starts = [] ∧ Accepted init (PWM.base n + 0x0C) t ∧ PwmWriteFrame n s t) ∧
  (∀ k data, k < 2 → s.mustWait .pwm PWMC.base = false → s.en PWMC.base = true →
    ∃ t, exec (.pwmStart init k data tick) s = .next t ∧ Accepted init (PWMC.base + 0x40 + 4 * k) t ∧
    (n / 32 = k → tb data (n % 32) = true → s.en (PWM.base n) = true → s.follower n = false → s.pwmRun n = false →
        (s.gen n).starts = [] →
      (t.gen n).starts = [{ at_ := max s.now tick + 128, known := max s.now tick }]) ∧
    (n / 32 ≠ k ∨ tb data (n % 32) = false → t.gen n = s.gen n) ∧ t.regs = s.regs ∧
    t = { s with pwm := t.pwm, now := max s.now tick, bus := { s.bus with resp := t.bus.resp } }) ∧
  (∀ k data, k < 2 → s.mustWait .pwm PWMC.base = false → s.en PWMC.base = false →
    ∃ t, exec (.pwmStart init k data tick) s = .next t ∧ Refused init (PWMC.base + 0x40 + 4 * k) .refused t ∧ t.pwm = s.pwm) ∧
  (∀ p, s.nextStart n = some p → s.domRun .pwm = true → s.en (PWM.base n) = true → (∀ q ∈ (s.gen n).after, q.1 < 4) →
      ∃ t, exec (.pwmPeriodStart n) s = .next t ∧
    (t.gen n).t0 = max s.now p.at_ ∧ (t.gen n).sent = p.sent ∧ t.pwmRun n = true ∧ t.bit (PWM.STAT n) 10 = false ∧ t.rd (PWM.PCNT n) = s.rd (PWM.PCNT n) + 1 ∧
    (t.gen n).firedOn = false ∧ (t.gen n).firedOff = false ∧ (t.gen n).firedAdc = false ∧ (t.gen n).starts = (s.gen n).starts.drop 1 ∧
    (∃ e ∈ t.conv.sent, e.code = 4 * n) ∧ PwmFrame n s t) ∧
  (s.nextStart n = none → exec (.pwmPeriodStart n) s = .next s) ∧
  (s.domRun .pwm = true → s.en (PWM.base n) = true → s.follower n = true → s.pwmRun n = true → s.bit (PWM.STAT n) 10 = false → (s.gen n).starts ≠ [] →
    ∃ t, exec (.followerReachPer n) s = .next t ∧ t.bit (PWM.STAT n) 10 = true ∧ t.gen n = s.gen n ∧ PwmFrame n s t) ∧
  (s.domRun .pwm = true → s.en (PWM.base n) = true → s.follower n = true → s.pwmRun n = true → s.bit (PWM.STAT n) 10 = false → (s.gen n).starts = [] →
    (∀ q ∈ (s.gen n).after, q.1 < 4) → ∃ t, exec (.followerReachPer n) s = .next t ∧
        (t.gen n).t0 = max s.now ((s.gen n).t0 + s.pwmPer n) ∧ t.bit (PWM.STAT n) 5 = true ∧
    t.rd (PWM.PCNT n) = s.rd (PWM.PCNT n) + 1 ∧ PwmFrame n s t)

/-- For every generator, from every state: each edge fires at most once per period, at its compare, sends its event and moves W
(CMP_ON up, CMP_OFF down, ADCCMP not at all); a pending turn-on takes its output at the end of its dead time; a follower that
receives the sync of an instant S, once, schedules a start at S + PHASE, or at once with SYNC_MISS when that has passed, and with two
starts scheduled already only sets SYNC_MISS; a selected edge of PWM_SYNC_IN starts a sync 8 ns later, which PWM_SYNC_OUT carries from
that instant where the generators forward it; a pulse ends 64 ns after it began; nothing of this happens while CLK_PWM is stopped. The
instant at which a late-known sync reaches a follower is DEDUCED (notes/assumptions/92.md). (08_edge_pwm.md (R199, R201);
08_edge_pwm.md (R205, R206, R208, R216); 04_clocks_and_crossings.md (R124)) -/
def Obligations.CompareEdgesDeadTimesAndSyncs : Prop :=
  ∀ (s : State) (n : Nat), n < 48 → n < s.pwm.length →
  (∀ k, k = 0 ∨ k = 1 ∨ k = 3 → s.domRun .pwm = true → s.pwmRun n = true → s.bit (PWM.STAT n) 10 = false → (s.gen n).fired k = false →
      s.live n k < s.pwmPer n →
    ∃ t, exec (.pwmCompareMatch n k) s = .next t ∧ (t.gen n).fired k = true ∧
    (∃ e ∈ t.conv.sent, e.code = 4 * n + (if k = 0 then 1 else if k = 1 then 2 else 3)) ∧
    (k = 0 → s.live n 1 ≠ s.live n 0 → (s.gen n).firedOff = false → s.now ≤ (s.gen n).t0 + s.live n 0 → (t.gen n).w = true) ∧
    (k = 1 → (t.gen n).w = false) ∧ (k = 3 → (t.gen n).w = (s.gen n).w ∧ t.gate = s.gate) ∧
    t.now = max s.now ((s.gen n).t0 + s.live n k) ∧ PwmFrame n s t) ∧
  (∀ k, (s.gen n).fired k = true ∨ s.pwmPer n ≤ s.live n k → exec (.pwmCompareMatch n k) s = .next s) ∧
  (∀ d, (s.gen n).dtA = some d → s.domRun .pwm = true → ∃ t, exec (.deadTimeExpiry n) s = .next t ∧ (t.gen n).dtA = none ∧ (t.gen n).outA = true ∧
    (t.gen n).outB = false ∧ t.now = max s.now d ∧ PwmFrame n s t) ∧
  (∀ d, (s.gen n).dtB = some d → (s.gen n).dtA = none → s.domRun .pwm = true → ∃ t, exec (.deadTimeExpiry n) s = .next t ∧ (t.gen n).dtB = none ∧
    (t.gen n).outA = false ∧ (t.gen n).outB = true ∧ t.now = max s.now d ∧ PwmFrame n s t) ∧
  (∀ i r, s.syncAt n i = some r → s.domRun .pwm = true → s.en (PWM.base n) = true → s.follower n = true → (s.gen n).gotSync ≠ some i →
    ∃ t, exec (.syncReceive n i) s = .next t ∧ (t.gen n).gotSync = some i ∧ t.now = max s.now r ∧
    ((s.gen n).starts.length < 2 →
      (t.gen n).starts = (s.gen n).starts ++ [{ at_ := if i + s.live n 2 ≤ r then r else i + s.live n 2, known := r }] ∧
      (i + s.live n 2 ≤ r → t.bit (PWM.STAT n) 5 = true) ∧ (r < i + s.live n 2 → t.regs = s.regs)) ∧
    (2 ≤ (s.gen n).starts.length → (t.gen n).starts = (s.gen n).starts ∧ t.bit (PWM.STAT n) 5 = true) ∧ PwmFrame n s t) ∧
  (∀ i, s.syncAt n i = none ∨ (s.gen n).gotSync = some i ∨ s.follower n = false → exec (.syncReceive n i) s = .next s) ∧
  (∀ rising at_, rising = !s.bit PWMC.SYNCIO 0 → s.domRun .pwm = true →
    exec (.syncInEdge rising at_) s = .next { s with
      extSync := some (at_ + 128), now := max s.now at_,
      balls := { s.balls with syncOut := s.balls.syncOut ++ (if s.syncOutOf 47 = none then [at_ + 128] else []) } }) ∧
  (∀ rising at_, rising = s.bit PWMC.SYNCIO 0 → exec (.syncInEdge rising at_) s = .next s) ∧
  (∀ i l, s.balls.syncOut = i :: l → s.domRun .pwm = true →
    exec .syncOutPulseEnd s = .next { s with now := max s.now (i + 1024), balls := { s.balls with syncOut := l } }) ∧
  (s.domRun .pwm = false → exec (.pwmCompareMatch n 0) s = .next s ∧ exec (.deadTimeExpiry n) s = .next s ∧
    exec (.pwmPeriodStart n) s = .next s ∧ exec (.followerReachPer n) s = .next s ∧ exec .syncOutPulseEnd s = .next s)

/-- For every generator, from every state in which the pages answer: a live write by another than the owner is refused with cause
0x05 and flagged; the owner's write within range shows at once while the generator is not running and, of an edge not fired
whose old and new values are still ahead, while it runs; a late one is flagged, counted and, without the immediate policy,
waits for the next period; a value beyond its maximum is clamped and flagged. A shadow write is dirty while the generator is
enabled and active at once while it is not; a PER below 4,096 is refused. A commit arms every enabled unarmed generator of a
named group. (08_edge_pwm.md (R209-R211); 08_edge_pwm.md (R212, R213)) -/
def Obligations.LiveShadowAndCommitWritesTakeEffect : Prop :=
  ∀ (s : State) (init sub n tick : Nat), n < 48 → n < s.pwm.length →
  (∀ k data, k < 4 → s.mustWait .pwm (PWM.base n) = false → s.isOwner n init sub = false →
    ∃ t, exec (.liveCompareWrite init sub n k data tick) s = .next t ∧ Refused init (PWM.LIVE n k) .owner t ∧
    t.bit (PWM.STAT n) 0 = true ∧ t.rd (PWM.LIVE n k) = s.rd (PWM.LIVE n k) ∧ t.pwm = s.pwm) ∧
  (∀ k data, k < 4 → s.mustWait .pwm (PWM.base n) = false → s.isOwner n init sub = true → (s.atTime tick).transferNow n = false →
    s.pwmRun n = false → ∃ t, exec (.liveCompareWrite init sub n k data tick) s = .next t ∧
    t.live n k = min data.toNat (liveMax (s.pwmPer n) k) ∧ (liveMax (s.pwmPer n) k < data.toNat → t.bit (PWM.STAT n) 2 = true) ∧
    Accepted init (PWM.LIVE n k) t ∧ PwmWriteFrame n s t) ∧
  (∀ k data, k = 0 ∨ k = 1 ∨ k = 3 → s.mustWait .pwm (PWM.base n) = false → s.isOwner n init sub = true →
    (s.atTime tick).transferNow n = false → s.en (PWM.base n) = true → s.pwmRun n = true → s.bit (PWM.STAT n) 10 = false →
    (s.gen n).fired k = false → max s.now tick - (s.gen n).t0 ≤ s.live n k → data.toNat ≤ liveMax (s.pwmPer n) k →
    ∃ t, exec (.liveCompareWrite init sub n k data tick) s = .next t ∧ Accepted init (PWM.LIVE n k) t ∧ PwmWriteFrame n s t ∧
    (max s.now tick - (s.gen n).t0 ≤ data.toNat → t.rd (PWM.LIVE n k) = data ∧ (t.gen n).nextVal k = none) ∧
    (data.toNat < max s.now tick - (s.gen n).t0 → tb (s.pwmCfg n) 8 = false →
      t.rd (PWM.LIVE n k) = s.rd (PWM.LIVE n k) ∧ (t.gen n).nextVal k = some data ∧ t.bit (PWM.STAT n) 6 = true ∧
      t.rd (PWM.LATECNT n) = Word.ofNat (min ((s.rd (PWM.LATECNT n)).toNat + 1) (2 ^ 32 - 1)))) ∧
  (∀ k data, k < 6 → s.mustWait .pwm (PWM.base n) = false → s.locked (PWM.base n) = false → (k = 0 → 4096 ≤ data.toNat) →
    ∃ t, exec (.shadowWrite init n k data) s = .next t ∧ t.rd (PWM.SH n k) = data ∧
    t.bit (PWM.SHDIRTY n) k = s.en (PWM.base n) ∧ (s.en (PWM.base n) = false → t.rd (activeOf n k) = data) ∧
    (s.en (PWM.base n) = true → t.rd (activeOf n k) = s.rd (activeOf n k)) ∧ Accepted init (PWM.SH n k) t ∧
    RegsBut (fun a => a ∈ [PWM.SH n k, PWM.SHDIRTY n, activeOf n k]) s t ∧
    t = { s with regs := t.regs, bus := { s.bus with resp := t.bus.resp } }) ∧
  (∀ data, s.mustWait .pwm (PWM.base n) = false → data.toNat < 4096 → ∃ t, exec (.shadowWrite init n 0 data) s = .next t ∧
    Refused init (PWM.SH n 0) .refused t ∧ t.rd (PWM.SH n 0) = s.rd (PWM.SH n 0) ∧ t.pwm = s.pwm) ∧
  (∀ data, s.mustWait .pwm PWMC.base = false → s.en PWMC.base = true → ∃ t, exec (.pwmCommit init data tick) s = .next t ∧
    Accepted init (PWMC.base + 0x48) t ∧
    (s.en (PWM.base n) = true → tb (commitMask s data) (s.fld (PWM.CFG n) 19 16) = true → s.bit (PWM.STAT n) 9 = false →
      t.bit (PWM.STAT n) 9 = true ∧ (t.gen n).armAt = max s.now tick ∧ t.bit PWMC.CPEND (s.fld (PWM.CFG n) 19 16) = true) ∧
    (s.en (PWM.base n) = false → t.gen n = s.gen n ∧ t.rd (PWM.STAT n) = s.rd (PWM.STAT n)) ∧
    RegsBut (fun a => a = PWMC.CPEND ∨ ∃ m, m < 48 ∧ a = PWM.STAT m) s t ∧
    t = { s with regs := t.regs, pwm := t.pwm, now := max s.now tick, bus := { s.bus with resp := t.bus.resp } })

/-- For every generator, from every state in which the pages answer: the filtered input turning active while the ORed sources are
active trips the generator with cause 1, turning inactive while they are inactive only clears the input, and neither happens at the
other level of the sources or while CLK_PWM is stopped; RAW_ACT reads as the sources stand; a FORCE write and PWMC's FORCE trip it with cause 2, PWMC's being refused
while PWMC is disabled; CLR clears the latch when the input is inactive and keeps the outputs low until the next period, loses to a
trip of the same CLK_PWM edge, and is refused with its flag while the input is active; a trip configuration with a reserved source is
refused. Other generators stand but where PWMC's word names them. (08_edge_pwm.md (R217-R220); 04_clocks_and_crossings.md (R124)) -/
def Obligations.TripsTurnOutputsOffUntilCleared : Prop :=
  ∀ (s : State) (init n at_ : Nat), n < 48 → n < s.pwm.length →
  (∀ m, s.domRun .pwm = true → (s.seeTripIn m).tripRaw n = true → s.bit (PWM.TRIPSTAT n) 31 = false →
    ∃ t, exec (.tripInputActive n at_ m) s = .next t ∧
    Tripped n 1 s t ∧ t.bit (PWM.TRIPSTAT n) 31 = true ∧ t.balls.tripIn = m % 256 ∧ (∀ k, k ≠ n → t.gen k = s.gen k) ∧
        t = { s with regs := t.regs, pwm := t.pwm, gate := t.gate, balls := { s.balls with tripIn := m % 256 }, now := max s.now at_ }) ∧
  (∀ m, s.domRun .pwm = true → (s.seeTripIn m).tripRaw n = false →
    ∃ t, exec (.tripInputInactive n at_ m) s = .next t ∧ t.bit (PWM.TRIPSTAT n) 31 = false ∧
    t.bit (PWM.STAT n) 8 = s.bit (PWM.STAT n) 8 ∧ t.pwm = s.pwm ∧ RegsBut (fun a => a = PWM.TRIPSTAT n) s t ∧
    t = { s with regs := t.regs, balls := { s.balls with tripIn := m % 256 }, now := max s.now at_ }) ∧
  (∀ m, s.domRun .pwm = true →
    ((s.seeTripIn m).tripRaw n = false →
      exec (.tripInputActive n at_ m) s = .next { s with balls := { s.balls with tripIn := m % 256 }, now := max s.now at_ }) ∧
    ((s.seeTripIn m).tripRaw n = true →
      exec (.tripInputInactive n at_ m) s = .next { s with balls := { s.balls with tripIn := m % 256 }, now := max s.now at_ })) ∧
  tb (s.regAccess init (PWM.TRIPSTAT n) 4 false 0 0 at_).bus.resp.data 30 = s.tripRaw n ∧
  (∀ m, s.domRun .pwm = false → exec (.tripInputActive n at_ m) s = .next s ∧ exec (.tripInputInactive n at_ m) s = .next s) ∧
  (∀ data, s.mustWait .pwm (PWM.base n) = false → tb data 0 = false → ∃ t, exec (.tripForce init n data at_) s = .next t ∧
    Tripped n 2 s t ∧ Accepted init (PWM.TRIPCTL n) t ∧ PwmWriteFrame n s t) ∧
  (∀ k data, k < 2 → s.mustWait .pwm PWMC.base = false → s.ver PWMC.base = 2 → s.en PWMC.base = true → n / 32 = k →
      tb data (n % 32) = true →
    ∃ t, exec (.pwmcForce init k data at_) s = .next t ∧ Tripped n 2 s t ∧ Accepted init (PWMC.base + 0x50 + 4 * k) t ∧
    (∀ m, m / 32 ≠ k → t.gen m = s.gen m) ∧
    t = { s with regs := t.regs, pwm := t.pwm, gate := t.gate, now := max s.now at_, bus := { s.bus with resp := t.bus.resp } }) ∧
  (∀ k data, k < 2 → s.mustWait .pwm PWMC.base = false → s.ver PWMC.base = 2 → s.en PWMC.base = false →
    ∃ t, exec (.pwmcForce init k data at_) s = .next t ∧ Refused init (PWMC.base + 0x50 + 4 * k) .refused t ∧ t.pwm = s.pwm) ∧
  (∀ data, s.mustWait .pwm (PWM.base n) = false → tb data 1 = false → s.bit (PWM.STAT n) 8 = true →
      s.bit (PWM.TRIPSTAT n) 31 = false → (s.gen n).tripAt ≠ some (max s.now at_ / 32) →
    ∃ t, exec (.tripClear init n data at_) s = .next t ∧ t.bit (PWM.STAT n) 8 = false ∧ t.fld (PWM.TRIPSTAT n) 29 28 = 0 ∧
    (t.gen n).rest = true ∧ (t.gen n).outA = (s.gen n).outA ∧ Accepted init (PWM.TRIPCTL n) t ∧ PwmWriteFrame n s t) ∧
  (∀ data, s.mustWait .pwm (PWM.base n) = false → tb data 1 = false → s.bit (PWM.STAT n) 8 = true →
      s.bit (PWM.TRIPSTAT n) 31 = false → (s.gen n).tripAt = some (max s.now at_ / 32) →
    ∃ t, exec (.tripClear init n data at_) s = .next t ∧ t.bit (PWM.STAT n) 8 = true ∧ t.pwm = s.pwm ∧
    t.rd (PWM.TRIPSTAT n) = s.rd (PWM.TRIPSTAT n)) ∧
  (∀ data, s.mustWait .pwm (PWM.base n) = false → tb data 1 = false → s.bit (PWM.STAT n) 8 = true → s.bit (PWM.TRIPSTAT n) 31 = true →
    ∃ t, exec (.tripClear init n data at_) s = .next t ∧ t.bit (PWM.STAT n) 8 = true ∧ t.bit (PWM.STAT n) 1 = true ∧
    Refused init (PWM.TRIPCTL n) .refused t ∧ t.pwm = s.pwm) ∧
  (∀ data m, s.mustWait .pwm (PWM.base n) = false → s.locked (PWM.base n) = false → s.ver (PWM.base n) = 2 →
    tripReserved (bitsOf data 7 0) = false → tripReserved (bitsOf data 15 8) = false →
    ∃ t, exec (.tripCfgWrite init n data m at_) s = .next t ∧ t.fld (PWM.TRIPCFG n) 31 30 = bitsOf data 31 30 ∧
    t.fld (PWM.TRIPCFG n) 23 0 = bitsOf data 23 0 ∧ (bitsOf data 23 16 ≠ 0 → t.bit (PWM.STAT n) 8 = s.bit (PWM.STAT n) 8) ∧
    (bitsOf data 23 16 = 0 → t.bit (PWM.TRIPSTAT n) 31 = t.tripRaw n) ∧
    Accepted init (PWM.TRIPCFG n) t ∧ PwmWriteFrame n s t) ∧
  (∀ data m, s.mustWait .pwm (PWM.base n) = false → tripReserved (bitsOf data 7 0) = true →
    ∃ t, exec (.tripCfgWrite init n data m at_) s = .next t ∧ Refused init (PWM.TRIPCFG n) .refused t ∧
    t.rd (PWM.TRIPCFG n) = s.rd (PWM.TRIPCFG n))

/-- From every state, for every half-bridge: in direct mode a commanded ball rises once the opposite one has been low for the
interlock time, and not before; commands to both balls, whether the generator's own outputs in direct mode or not, turn both off, set
SHOOT and count it; a fault ball that goes low outside blanking and an overcurrent line at 1 each take a fault in Run with
escalation off: counted, shown with its cause, followed by fault wait while retries are left and otherwise by lock-out with both
balls low; a blanking window that ends on an asserted ball does the same; a source that has stayed asserted takes no further one; the
end of the wait returns to Run with TRY one higher; TRY returns to 0 after its time in Run; nothing of this happens while CLK_PWM is
stopped. Other groups, other pages and everything outside the gate unit stand but for the generator that moved.
(09_bridge_protection.md (R224, R225); 09_bridge_protection.md (R228-R231); 09_bridge_protection.md (R239)) -/
def Obligations.GateUnitTakesFaultsAndRetries : Prop :=
  ∀ (s : State) (n at_ : Nat), n < 48 → n < s.gate.length →
  (∀ f, (s.hb n).fellB = some f → s.domRun .pwm = true → s.pulseEnable n = false → (s.hb n).cmdA = true → (s.hb n).cmdB = false → (s.hb n).shoot = false → s.gateOk n false = true →
    (s.hb n).needA = false → (s.hb n).ballA = false → (s.hb n).ballB = false →
    ∃ t, exec (.interlockExpiry n at_) s = .next t ∧
    (t.hb n).ballA = decide (f + s.fld (GATE.GCFG (n / 4)) 15 8 * 32 ≤ max s.now at_) ∧ (t.hb n).ballB = false ∧ t.regs = s.regs ∧
    GateFrame (n / 4) at_ s t) ∧
  (s.domRun .pwm = true → s.pulseEnable n = false → (s.hb n).shoot = false → ∃ t, exec (.bothOnCommand n at_) s = .next t ∧ BallsLow n t ∧
    (t.hb n).shoot = true ∧ t.bit (GATE.STAT (n / 4)) 0 = true ∧ t.bit (GATE.base (n / 4) + 0x14) (12 + n % 4) = true ∧
    t.rd (GATE.SHOOTCNT (n / 4)) = Word.ofNat (min ((s.rd (GATE.SHOOTCNT (n / 4))).toNat + 1) (2 ^ 32 - 1)) ∧
    (s.bit (HBCFG n) 28 = false → t.hbState n = s.hbState n) ∧
    GateFrame (n / 4) at_ s t) ∧
  (s.domRun .pwm = true → ∃ t, exec (.faultBallAssert n at_ false) s = .next t ∧ (t.hb n).flt = false ∧ t.regs = s.regs ∧ GateFrame (n / 4) at_ s t) ∧
  (s.domRun .pwm = true → s.bit (HBCFG n) 31 = true → (s.hb n).flt = false → (s.hb n).blankEnd ≤ s.now → s.hbState n = 1 → tb (s.shown (GATE.GCFG (n / 4))) 31 = false →
    ∃ t, exec (.faultBallAssert n at_ true) s = .next t ∧ (t.hb n).flt = true ∧ FaultShown n 1 s t ∧ GateFrame (n / 4) at_ s t) ∧
  (s.domRun .pwm = true → s.bit (HBCFG n) 30 = true → s.line (s.fld (HBCFG n) 27 22) = true → s.hbState n = 1 →
    tb (s.shown (GATE.GCFG (n / 4))) 31 = false →
    ∃ t, exec (.overcurrentAssert n at_) s = .next t ∧ FaultShown n 2 s t ∧ GateFrame (n / 4) at_ s t) ∧
  (s.domRun .pwm = true → s.bit (HBCFG n) 31 = true → (s.hb n).blankOpen = true → (s.hb n).blankEnd ≤ s.now → (s.hb n).flt = true → s.hbState n = 1 →
    tb (s.shown (GATE.GCFG (n / 4))) 31 = false →
    ∃ t, exec (.blankingWindowEnd n at_) s = .next t ∧ FaultShown n 1 s t ∧ GateFrame (n / 4) at_ s t) ∧
  (s.domRun .pwm = true → s.hbState n = 2 → s.srcActive n = false → ∃ t, exec (.retryWaitEnd n at_) s = .next t ∧ t.hbState n = 1 ∧
    t.fld (HBSTAT n) 21 19 = min (s.fld (HBSTAT n) 21 19 + 1) 7 ∧ t.fld (HBSTAT n) 23 22 = 0 ∧ GateFrame (n / 4) at_ s t) ∧
  (∀ low, s.domRun .pwm = true → (s.hb n).flt = low → exec (.faultBallAssert n at_ low) s = .next { s with now := max s.now at_ }) ∧
  (s.domRun .pwm = true → s.hbState n = 2 → (s.hb n).ocHeld = true →
    exec (.overcurrentAssert n at_) s = .next { s with now := max s.now at_ }) ∧
  (s.domRun .pwm = true → s.pwmRun n = true → n < s.pwm.length → s.bit (PWM.STAT n) 10 = false → tb (s.pwmCfg n) 0 = true →
      s.pwmForced n = false → (s.gen n).w = false → (s.gen n).outA = false → (s.gen n).outB = true → (s.gen n).fired 0 = false →
      (s.gen n).firedOff = false → s.live n 1 ≠ s.live n 0 → s.live n 0 < s.pwmPer n → s.now ≤ (s.gen n).t0 + s.live n 0 →
      s.pulseEnable n = false → (s.hb n).shoot = false →
    ∃ t, exec (.pwmCompareMatch n 0) s = .next t ∧ (t.gen n).outA = true ∧ BallsLow n t ∧ (t.hb n).shoot = true ∧
    t.bit (GATE.STAT (n / 4)) 0 = true ∧ t.bit (GATE.base (n / 4) + 0x14) (12 + n % 4) = true ∧
    t.rd (GATE.SHOOTCNT (n / 4)) = Word.ofNat (min ((s.rd (GATE.SHOOTCNT (n / 4))).toNat + 1) (2 ^ 32 - 1)) ∧ PwmFrame n s t) ∧
  (s.domRun .pwm = false → ∀ low, exec (.faultBallAssert n at_ low) s = .next s ∧ exec (.overcurrentAssert n at_) s = .next s ∧
    exec (.bothOnCommand n at_) s = .next s ∧ exec (.retryWaitEnd n at_) s = .next s ∧ exec (.interlockExpiry n at_) s = .next s) ∧
  (s.domRun .pwm = true → s.hbState n = 1 → ∃ t, exec (.tryResetTimer n) s = .next t ∧ t.fld (HBSTAT n) 21 19 = 0 ∧ t.hbState n = 1 ∧
    RegsBut (fun a => a = HBSTAT n) s t ∧ t = { s with regs := t.regs })

/-- From every state in which the page answers: HB_ENABLE puts a disabled half-bridge that is not locked out into Run with TRY 0,
and is refused with no change of state of a half-bridge whose fault source still acts; HB_DISABLE turns it off with both balls
low; a group enable is refused while GATE_VETO is asserted and otherwise sets EN and drives the group; a disable clears EN and
starts the shutdown, whose phases 2 and 3 turn every ball off and end it with its flag; GATE_VETO turns every ball of the part
low and disables every group, none of which switches again before firmware enables it. Other pages, and for one group's commands the other groups, stand. (09_bridge_protection.md
(R232); 09_bridge_protection.md (R234-R236); 01_architecture.md (R31, R32)) -/
def Obligations.HalfBridgesAndGroupsEnableAndShutDown : Prop :=
  ∀ s : State,
  (∀ init n tick, n < 48 → n < s.gate.length → s.mustWait .pwm (GATE.base (n / 4)) = false → s.bit (HBCTL n) 0 = false →
    (s.hb n).locked = false → ∃ t, exec (.hbEnable init n tick) s = .next t ∧ t.bit (HBCTL n) 0 = true ∧ t.hbState n = 1 ∧
    t.fld (HBSTAT n) 21 19 = 0 ∧ Accepted init (HBCTL n) t ∧ GateWriteFrame (n / 4) tick s t) ∧
  (∀ init n tick, n < 48 → s.mustWait .pwm (GATE.base (n / 4)) = false → s.bit (HBCTL n) 0 = false → (s.hb n).locked = true →
    s.srcActive n = true → ∃ t, exec (.hbEnable init n tick) s = .next t ∧ t.bit (HBCTL n) 0 = false ∧ t.hbState n = s.hbState n ∧
    t.bit (GATE.STAT (n / 4)) 1 = true ∧ t.bit (GATE.base (n / 4) + 0x14) 18 = true ∧ t.gate = s.gate ∧
        Refused init (HBCTL n) .refused t) ∧
  (∀ init n tick, n < 48 → s.mustWait .pwm (GATE.base (n / 4)) = false → s.bit (HBCTL n) 0 = true →
    ∃ t, exec (.hbDisable init n tick) s = .next t ∧ t.bit (HBCTL n) 0 = false ∧ t.hbState n = 0 ∧ BallsLow n t ∧
    Accepted init (HBCTL n) t ∧ GateWriteFrame (n / 4) tick s t) ∧
  (∀ init g tick, g < 12 → s.mustWait .pwm (GATE.base g) = false → s.rst.veto = false → s.groupBusy g = false →
    ∃ t, exec (.gateGroupEnable init g tick) s = .next t ∧ t.en (GATE.base g) = true ∧ t.bit (GATE.STAT g) 8 = true ∧
    t.bit (GATE.STAT g) 9 = false ∧ (∀ j, j < 4 → 4 * g + j < s.gate.length → (t.hb (4 * g + j)).vetoed = false) ∧
    Accepted init (GATE.base g + 0x0C) t ∧ GateWriteFrame g tick s t) ∧
  (∀ init g tick, g < 12 → s.mustWait .pwm (GATE.base g) = false → s.rst.veto = true →
    ∃ t, exec (.gateGroupEnable init g tick) s = .next t ∧ t.en (GATE.base g) = s.en (GATE.base g) ∧ t.gate = s.gate ∧
    Refused init (GATE.base g + 0x0C) .refused t) ∧
  (∀ init g tick, g < 12 → s.mustWait .pwm (GATE.base g) = false → s.bit (GATE.STAT g) 8 = true → s.bit (GATE.STAT g) 9 = false →
    s.bit (GATE.STAT g) 10 = false → ∃ t, exec (.gateGroupDisable init g tick) s = .next t ∧ t.en (GATE.base g) = false ∧
    (∀ j, j < 4 → (t.hb (4 * g + j)).ballA = false) ∧
    (bitsOf (s.shown (GATE.SDCFG g)) 31 16 ≠ 0 → t.bit (GATE.STAT g) 8 = true ∧ t.bit (GATE.STAT g) 9 = true) ∧
    (bitsOf (s.shown (GATE.SDCFG g)) 31 16 = 0 → t.bit (GATE.STAT g) 8 = false ∧ (∀ j, j < 4 → BallsLow (4 * g + j) t)) ∧
    Accepted init (GATE.base g + 0x0C) t ∧ GateWriteFrame g tick s t) ∧
  (∀ g at_, g < 12 → s.domRun .pwm = true → s.bit (GATE.STAT g) 9 = true → s.bit (GATE.STAT g) 8 = true → s.bit (GATE.STAT g) 10 = false →
    ∃ t, exec (.shutdownPhase2 g at_) s = .next t ∧ t.bit (GATE.STAT g) 8 = false ∧ (∀ j, j < 4 → BallsLow (4 * g + j) t) ∧
    t.bit (GATE.STAT g) 9 = decide (s.fld (GATE.SDCFG g) 7 0 ≠ 0) ∧ GateFrame g at_ s t) ∧
  (∀ g at_, g < 12 → s.domRun .pwm = true → s.bit (GATE.STAT g) 9 = true → s.bit (GATE.STAT g) 8 = false →
    ∃ t, exec (.shutdownPhase3 g at_) s = .next t ∧ t.bit (GATE.STAT g) 9 = false ∧ t.bit (GATE.base g + 0x14) 20 = true ∧
    t.bit (GATE.STAT g) 8 = s.bit (GATE.STAT g) 10 ∧ t.bit (GATE.STAT g) 10 = false ∧ GateFrame g at_ s t) ∧
  (∀ at_, ∃ t, exec (.gateVetoAssert at_) s = .next t ∧ t.rst = { s.rst with veto := true } ∧ (∀ n, n < 48 → BallsLow n t) ∧
    (∀ g, g < 12 → t.en (GATE.base g) = false ∧ t.bit (GATE.STAT g) 10 = false) ∧
    (∀ n, n < 48 → n < s.gate.length → (t.hb n).vetoed = true) ∧ (∀ n b, n < 48 → n < s.gate.length → t.gateOk n b = false) ∧ RegsBut gatePage s t ∧
    t = { s with regs := t.regs, gate := t.gate, rst := t.rst, now := max s.now at_ })

/-- From every state: enabling starts the precharge of all three phases; a precharge end frees its phase; a period start takes the
new duties, limited to the period of at least 480, and ends an unlatched overcurrent; nothing drives while VDRV is out of its range; a duty match ends its phase's high part;
a new Hall code shows with its error flag in six-step mode; a bootstrap undervoltage and its recovery set and clear their bit;
an overcurrent is flagged and holds or latches; the latch clears while the current is below the threshold and the clear is
refused above it. Everything outside the drivers and their page stands. (09_bridge_protection.md (R240, R241);
09_bridge_protection.md (R242, R243); 03_supplies_reset_dawn.md (R84)) -/
def Obligations.AuxiliaryDriversFollowTheirEvents : Prop :=
  ∀ s : State,
  (∀ init, s.mustWait .ps AUX.base = false → s.en AUX.base = false → ∃ t, exec (.auxEnable init) s = .next t ∧ t.en AUX.base = true ∧
    t.aux = { s.aux with pre := 7, before := 0, ocHold := false } ∧ Accepted init (AUX.base + 0x0C) t ∧
    RegsBut (fun a => a = AUX.base + 0x0C) s t ∧
    t = { s with regs := t.regs, aux := t.aux, balls := { s.balls with taken := t.balls.taken }, bus := { s.bus with resp := t.bus.resp } }) ∧
  (∀ n en inp, s.bit RSUP.SUPSTAT 2 = false ∨ s.bit AXSTAT 30 = true → auxDrive s n en inp = (false, false)) ∧
  (∀ n, n < 3 → ∃ t, exec (.auxPrechargeEnd n) s = .next t ∧ t.aux.pre.testBit n = false ∧
    (∀ m, m < 3 → m ≠ n → t.aux.pre.testBit m = s.aux.pre.testBit m) ∧ t = { s with aux := { s.aux with pre := t.aux.pre } }) ∧
  (s.en AUX.base = true → ∃ t, exec .auxPeriodStart s = .next t ∧ t.aux.per = max (s.fld APER 15 0) 480 ∧
    (∀ n, n < 3 → nth 0 t.aux.duty n = min (s.fld (ADUTY n) 15 0) t.aux.per ∧
      t.aux.before.testBit n = decide (0 < nth 0 t.aux.duty n)) ∧ t.aux.ocHold = false ∧ t = { s with aux := t.aux }) ∧
  (∀ n, n < 3 → nth 0 s.aux.duty n < s.aux.per → ∃ t, exec (.auxDutyMatch n) s = .next t ∧ t.aux.before.testBit n = false ∧
    (∀ m, m < 3 → m ≠ n → t.aux.before.testBit m = s.aux.before.testBit m) ∧
        t = { s with aux := { s.aux with before := t.aux.before } }) ∧
  (∀ h, h < 8 → ∃ t, exec (.hallCodeChange h) s = .next t ∧ t.fld AXSTAT 18 16 = h ∧
    t.bit AXSTAT 26 = (decide (s.fld AXCFG 25 24 = 2) && (hallPhases h).isNone) ∧
    RegsBut (fun a => a = AXSTAT ∨ a = AUX.base + 0x14) s t ∧ t = { s with regs := t.regs }) ∧
  (∀ n, n < 3 → s.bit AXSTAT (27 + n) = false → ∃ t, exec (.bootstrapUv n) s = .next t ∧ t.bit AXSTAT (27 + n) = true ∧
    t.bit (AUX.base + 0x14) 2 = true ∧ (∀ en inp, (auxDrive t n en inp).1 = false) ∧
    RegsBut (fun a => a = AXSTAT ∨ a = AUX.base + 0x14) s t ∧ t = { s with regs := t.regs }) ∧
  (∀ n, n < 3 → ∃ t, exec (.bootstrapRecover n) s = .next t ∧ t.bit AXSTAT (27 + n) = false ∧
    RegsBut (fun a => a = AXSTAT) s t ∧ t = { s with regs := t.regs }) ∧
  (s.en AUX.base = true → s.bit OCCFG 31 = true → ∃ t, exec .auxOvercurrent s = .next t ∧ t.aux.above = true ∧
    t.bit (AUX.base + 0x14) 0 = true ∧ t.bit AXSTAT 31 = (s.bit AXSTAT 31 || tb (s.shown OCCFG) 30) ∧
    (∀ n en inp, n < 3 → (auxDrive t n en inp).1 = false) ∧ RegsBut (fun a => a = AXSTAT ∨ a = AUX.base + 0x14) s t ∧
    t = { s with regs := t.regs, aux := { s.aux with above := true, ocHold := t.aux.ocHold } }) ∧
  (∀ init, s.mustWait .ps AUX.base = false → ∃ t, exec (.auxOcClear init false) s = .next t ∧ t.bit AXSTAT 31 = false ∧
    t.aux.above = false ∧ Accepted init AXCLR t ∧ RegsBut (fun a => a = AXSTAT) s t ∧
    t = { s with regs := t.regs, aux := { s.aux with above := false }, bus := { s.bus with resp := t.bus.resp } }) ∧
  (∀ init, s.mustWait .ps AUX.base = false → ∃ t, exec (.auxOcClear init true) s = .next t ∧ Refused init AXCLR .refused t ∧
    t.bit AXSTAT 31 = s.bit AXSTAT 31)

/-- From every state and for every comparator: a crossing is compared with the hysteresis in force and drives the level line that
MODE forms, an element that is off drives 0, and a comparator under check only follows its input; a first decision ends with
the elements judged without hysteresis; enabling a comparator by a write starts its first decision; a write to an enabled one
moves the threshold; a check starts by marking its comparator, its line held or forced, is refused while one runs and for a
comparator that is off or claimed, and ends with its result recorded and
a new first decision. Every other comparator stands, and registers change only in the page of the comparator.
(10_window_comparators.md (R246-R248); 10_window_comparators.md (R249-R251); 10_window_comparators.md (R252-R255)) -/
def Obligations.ComparatorsDecideHoldAndCheck : Prop :=
  ∀ (s : State) (n : Nat), n < 56 → n < s.cmp.length →
  (∀ vin seen, (s.cmpAt n).check = false → (s.cmpAt n).first = false → s.cmpOn n = true →
    ∃ t, exec (.comparatorCrossing n vin seen) s = .next t ∧ (t.cmpAt n).vin = vin ∧
    (t.cmpAt n).hi = elementNext ((s.cmpAt n).below n false) (s.cmpAt n).hi (s.cmpAt n).hysHi (s.cmpLevel n false) vin ∧
    (t.cmpAt n).line = cmpCombine n (s.cmpAt n).cfg (t.cmpAt n).hi (t.cmpAt n).lo ∧ CmpFrame n s t) ∧
  (∀ vin seen, (s.cmpAt n).check = false → s.cmpOn n = false → ∃ t, exec (.comparatorCrossing n vin seen) s = .next t ∧
    (t.cmpAt n).vin = vin ∧ (t.cmpAt n).line = false ∧ CmpFrame n s t) ∧
  (∀ vin seen, (s.cmpAt n).check = true →
    exec (.comparatorCrossing n vin seen) s = .next (s.updCmp n (fun c => { c with vin := vin }))) ∧
  (∀ vin, (s.cmpAt n).check = false → (s.cmpAt n).first = true → s.cmpOn n = true →
    ∃ t, exec (.firstDecisionEnd n vin) s = .next t ∧ (t.cmpAt n).first = false ∧
    (t.cmpAt n).hi = elementFirst ((s.cmpAt n).below n false) (cmpHyst n (s.cmpAt n).cfg) (s.cmpLevel n false) vin ∧
    (t.cmpAt n).hysHi = cmpHyst n (s.cmpAt n).cfg ∧
    (t.cmpAt n).line = cmpCombine n (s.cmpAt n).cfg (t.cmpAt n).hi (t.cmpAt n).lo ∧ CmpFrame n s t) ∧
  (∀ init data vin, s.mustWait .ps (cmpPage n) = false → s.locked (cmpPage n) = false → s.ver (cmpPage n) = 2 →
    s.claimedPc n = false → (s.cmpAt n).check = false → tb (s.cmpAt n).cfg 31 = false →
    (n < 48 → bitsOf data 5 0 ≤ bitsOf data 13 8) →
    ∃ t, exec (.comparatorEnable init n data vin) s = .next t ∧ t.bit (cmpCfgAddr n) 31 = true ∧
        (t.cmpAt n).cfg = t.rd (cmpCfgAddr n) ∧
    (t.cmpAt n).first = true ∧ (t.cmpAt n).vin = vin ∧ Accepted init (cmpCfgAddr n) t ∧ CmpWriteFrame n s t) ∧
  (∀ init data vin, s.mustWait .ps (cmpPage n) = false → s.locked (cmpPage n) = false → s.ver (cmpPage n) = 2 →
    s.claimedPc n = false → (s.cmpAt n).check = false →
    (n < 48 → bitsOf data 5 0 ≤ bitsOf data 13 8) →
    ∃ t, exec (.thresholdWrite init n data vin) s = .next t ∧ (t.cmpAt n).cfg = t.rd (cmpCfgAddr n) ∧
    bitsOf (t.rd (cmpCfgAddr n)) 5 0 = bitsOf data 5 0 ∧ t.bit (cmpCfgAddr n) 31 = tb data 31 ∧
    (t.cmpAt n).vin = vin ∧ Accepted init (cmpCfgAddr n) t ∧ CmpWriteFrame n s t) ∧
  (∀ init data, s.mustWait .ps (cmpPage n) = false → bitsOf data 5 0 = (if n < 48 then n else n - 48) →
    s.bit (cmpPage n + 0x5C) 31 = false → s.cmpOn n = true → s.claimedPc n = false →
    ∃ t, exec (.comparatorCheckStart init (decide (48 ≤ n)) data) s = .next t ∧ (t.cmpAt n).check = true ∧
    t.bit (cmpPage n + 0x5C) 31 = true ∧ t.fld (cmpPage n + 0x5C) 21 16 = (if n < 48 then n else n - 48) ∧
    t.bit (cmpPage n + 0x10) 8 = true ∧ (tb data 8 = true → s.ver (cmpPage n) = 2 → (t.cmpAt n).line = true) ∧
    (tb data 8 = false → (t.cmpAt n).line = (s.cmpAt n).line) ∧
    Accepted init (cmpPage n + 0x58) t ∧ CmpWriteFrame n s t) ∧
  (∀ init data, s.mustWait .ps (cmpPage n) = false → bitsOf data 5 0 = (if n < 48 then n else n - 48) →
    s.bit (cmpPage n + 0x5C) 31 = true ∨ s.cmpOn n = false ∨ s.claimedPc n = true →
    ∃ t, exec (.comparatorCheckStart init (decide (48 ≤ n)) data) s = .next t ∧ Refused init (cmpPage n + 0x58) .refused t ∧
    t.cmp = s.cmp) ∧
  (∀ seen vin, s.bit (cmpPage n + 0x5C) 31 = true → s.checked (decide (48 ≤ n)) = n → seen < 256 →
    ∃ t, exec (.comparatorCheckEnd (decide (48 ≤ n)) seen vin) s = .next t ∧ (t.cmpAt n).check = false ∧ (t.cmpAt n).first = true ∧
    t.bit (cmpPage n + 0x5C) 31 = false ∧ t.fld (cmpPage n + 0x5C) 7 0 = seen ∧
    t.bit (cmpPage n + 0x5C) 30 = decide (seen ≠ checkExpected n (s.cmpAt n).cfg) ∧ t.bit (cmpPage n + 0x14) 1 = true ∧
        CmpFrame n s t)

/-- From every state of the shape: an arriving push is stored in its slot, its slip is applied, it sets its arrival bit (an arrival bit already set raises
the instance's interrupt bit) and makes the instance ready once the bits of its mask are set; KICK makes exactly the named
enabled instances ready; a start latches the slots and arrival bits, clears them and runs bundle 0; an enable whose admission
succeeds enables the instance with its fields, one that fails leaves it disabled with the code, position and instance in
ADMIT; a disable clears EN and readiness and leaves a run going; a library write stores its bytes outside images in use; a
write to PGk_X of a disabled generator sets x and clears v and a. (11_teller_array.md (R257, R260-R262); 11_teller_array.md
(R258); 11_teller_array.md (R263-R265); 11_teller_array.md (R270)) -/
def Obligations.PushesReadyAndStartInstances : Prop :=
  ∀ s : State, s.Shaped →
  (∀ n cycle q, s.tel.arriving.find? (fun p => tsmOf p.addr == n) = some q → ∀ i k, s.slotAt n q.addr = some (i, k) → n < 16 →
      s.domRun .tel = true → ∃ t, exec (.pushArrival n cycle) s = .next t ∧ t.tel.arriving = s.tel.arriving.erase q ∧
    t.memWord q.addr = q.data ∧
    t.fab = { s.fab with slips := s.fab.slips.map (fun x => if x.coin = q.coin then { x with onWay := false } else x) } ∧
    (∀ j, (t.inst n i).arr.testBit j = ((s.inst n i).arr.testBit j || j == k)) ∧
    ((s.inst n i).arr.testBit k = true → t.bit (TLR.base n + 0x14) i = true) ∧
    ((t.inst n i).ready = true ↔ (s.inst n i).ready = true ∨
      (s.fld (INST.SUB n i) 15 0 ≠ 0 ∧ (t.inst n i).arr &&& s.fld (INST.SUB n i) 15 0 = s.fld (INST.SUB n i) 15 0)) ∧
    (∀ j, j ≠ i → t.inst n j = s.inst n j) ∧ (∀ m, m ≠ n → t.tpos m = s.tpos m) ∧ t.runAt n = s.runAt n ∧
    MemBut (fun b => (q.addr ≤ b ∧ b < q.addr + 4) ∨ (s.fld TELC.ROTSTAT 31 30 ≠ 0 ∧ 0x300B0000 ≤ b)) s t ∧
    RegsBut (fun b => b = TLR.base n + 0x14 ∨ b = INSTSTAT n i) s t ∧
    t = { s with regs := t.regs, tel := t.tel, mem := t.mem, fab := t.fab, clerk0 := t.clerk0, clerk1 := t.clerk1, health := t.health }) ∧
  (∀ init n data cycle, n < 16 → s.mustWait .tel (TLR.base n) = false → s.ver (TLR.base n) ≠ 1 →
    ∃ t, exec (.kickWrite init n data cycle) s = .next t ∧
    (∀ i, i < 8 → (t.inst n i).ready = ((s.inst n i).ready || (tb data i && s.instEn n i)) ∧ (t.inst n i).arr = (s.inst n i).arr) ∧
    (∀ m, m ≠ n → t.tpos m = s.tpos m) ∧ t.runAt n = s.runAt n ∧ Accepted init (TLR.base n + 0x48) t ∧
    RegsBut (fun a => ∃ i, i < 8 ∧ a = INSTSTAT n i) s t ∧
    t = { s with regs := t.regs, tel := { s.tel with pos := t.tel.pos }, bus := { s.bus with resp := t.bus.resp } }) ∧
  (∀ n us cycle p i, s.chosen n = some (p, i) → n < 16 → s.domRun .tel = true → s.unitIdle n = true → s.health.bad = [] →
    ∃ t, exec (.instanceStart n us cycle) s = .next t ∧ ∃ r, t.runAt p = some r ∧ r.inst = i ∧ r.pc = 0 ∧
        r.sc = s.bit (INSTSTAT p i) 29 ∧
    r.prog = s.fld (INST.CFG p i) 13 0 ∧ r.base = r.prog + 5 + (if r.sc then (s.imageHead r.prog).nfull else 0) ∧
    r.slots = (List.range 16).map (fun k => s.memWord (s.slotAddr p i k)) ∧ r.arr = (s.inst p i).arr ∧
    r.v = List.replicate 32 0 ∧ r.acc = [0, 0, 0, 0] ∧ r.p = List.replicate 4 false ∧ r.sat = false ∧ r.frames = [] ∧ r.done = 0 ∧ r.stW = [] ∧
    (t.inst p i).ready = false ∧ (t.inst p i).arr = 0 ∧ t.bit (TLR.STAT p) 4 = true ∧ t.fld (TLR.STAT p) 2 0 = i ∧
    t.fld (INSTSTAT p i) 15 0 = (s.fld (INSTSTAT p i) 15 0 + 1) % 65536 ∧ t.fld (INSTSTAT p i) 31 30 = 3 ∧
    (∀ j, j ≠ i → t.inst p j = s.inst p j) ∧ (∀ m, m ≠ p → t.tpos m = s.tpos m) ∧
    RegsBut (fun a => a = TLR.STAT p ∨ a = INSTSTAT p i) s t ∧
        t = { s with regs := t.regs, tel := { s.tel with pos := t.tel.pos } }) ∧
  (∀ init n i data, n < 16 → i < 8 → s.mustWait .tel (TLR.base n) = false → s.locked (TLR.base n) = false → s.instEn n i = false →
    (s.tryEnable n i (data ||| 0x80000000)).2 = none → ∃ t, exec (.instanceEnable init n i data) s = .next t ∧
    t.instEn n i = true ∧ t.fld (INST.CFG n i) 26 24 = bitsOf data 26 24 ∧ t.fld (INST.CFG n i) 13 0 = bitsOf data 13 0 ∧
    t.inst n i = {} ∧ t.fld (TLR.ADMIT n) 23 16 = 0 ∧ Accepted init (INST.CFG n i) t ∧
    t.fld (INST.WCET n i) 15 0 = (s.scanImage (bitsOf data 13 0)).full.wcet % 65536 ∧
    (∀ m, t.runAt m = s.runAt m) ∧ (∀ m j, m ≠ n ∨ j ≠ i → t.inst m j = s.inst m j) ∧
    RegsBut (fun a => a ∈ [TLR.ADMIT n, INST.CFG n i, INST.WCET n i, INST.WCSC n i, INSTSTAT n i, TELC.ROTSTAT] ∨
      ∃ m j, m < 16 ∧ j < 8 ∧ a = INST.BOUND m j) s t ∧
    t = { s with regs := t.regs, freeCtr := t.freeCtr, tel := { s.tel with pos := t.tel.pos, runs := t.tel.runs }, bus := { s.bus with resp := t.bus.resp } }) ∧
  (∀ init n i data c p k, n < 16 → i < 8 → s.mustWait .tel (TLR.base n) = false → s.locked (TLR.base n) = false →
    s.instEn n i = false → (s.tryEnable n i (data ||| 0x80000000)).2 = some (c, p, k) →
    ∃ t, exec (.instanceEnable init n i data) s = .next t ∧ Refused init (INST.CFG n i) .refused t ∧ t.instEn n i = false ∧
    t.rd (TLR.ADMIT n) = Word.ofNat (c * 65536 + p * 16 + k) ∧ t.tel = s.tel ∧ t.mem = s.mem) ∧
  (∀ init n i data, n < 16 → i < 8 → s.mustWait .tel (TLR.base n) = false → s.instEn n i = true →
    bitsOf (s.rd (INST.CFG n i)) 26 24 = bitsOf data 26 24 → bitsOf (s.rd (INST.CFG n i)) 13 0 = bitsOf data 13 0 →
    ∃ t, exec (.instanceDisable init n i data) s = .next t ∧ t.instEn n i = false ∧ (t.inst n i).ready = false ∧
        (t.inst n i).arr = 0 ∧
    (∀ m, t.runAt m = s.runAt m) ∧ (∀ m j, m ≠ n ∨ j ≠ i → t.inst m j = s.inst m j) ∧
    Accepted init (INST.CFG n i) t ∧
    RegsBut (fun a => a = INST.CFG n i ∨ a = TELC.CAPSTAT ∨ a = TELC.ROTSTAT ∨ ∃ m j, m < 16 ∧ j < 8 ∧ (a = INSTSTAT m j ∨ a = INST.BOUND m j)) s t ∧
    t = { s with regs := t.regs, tel := { s.tel with pos := t.tel.pos }, bus := { s.bus with resp := t.bus.resp } }) ∧
  (∀ init addr bs, slipSizeOk addr bs.length = true → libBase ≤ addr → addr < libBase + 0x40000 → s.mustWait .tel libBase = false →
    s.imageTouched addr bs.length = false → ∃ t, exec (.libraryWrite init addr bs) s = .next t ∧
    (∀ k, k < bs.length → t.byte (addr + k) = nth 0 bs k) ∧ MemBut (fun b => addr ≤ b ∧ b < addr + bs.length) s t ∧
    Accepted init addr t ∧ RegsBut (fun _ => False) s t ∧
    t = { s with mem := t.mem, clerk0 := t.clerk0, clerk1 := t.clerk1, health := t.health, bus := { s.bus with resp := t.bus.resp } }) ∧
  (∀ init addr bs, slipSizeOk addr bs.length = true → libBase ≤ addr → addr < libBase + 0x40000 → s.mustWait .tel libBase = false →
    s.imageTouched addr bs.length = true → ∃ t, exec (.libraryWrite init addr bs) s = .next t ∧ Refused init addr .refused t ∧
    t.mem = s.mem) ∧
  (∀ init k data, k < 32 → s.mustWait .tel TELC.base = false → s.bit (PG.CFG k) 31 = false → s.ver TELC.base ≠ 1 ∨ k < 16 →
    ∃ t, exec (.pgXWrite init k data) s = .next t ∧ t.rd (PG.X k) = data ∧ t.rd (PG.X k + 4) = 0 ∧ t.rd (PG.X k + 8) = 0 ∧
    Accepted init (PG.X k) t ∧ RegsBut (fun a => a ∈ [PG.X k, PG.X k + 4, PG.X k + 8]) s t ∧
    t = { s with regs := t.regs, bus := { s.bus with resp := t.bus.resp } })

/-- From every state of the shape, while CLK_TEL runs: ROTCFG is written and positions 14 and 15 become spare or ordinary, or it is
refused while an instance of theirs is enabled; a chosen rotation copies the position's memory into the spare's and takes the unit
from the pool; the copy's end begins the shadow, which a position without an enabled instance passes at once (DEDUCED,
notes/assumptions/94.md); a mismatch ends the rotation counted and flagged, the serving unit staying; a hand-over, on an edge on
which the serving unit has no run of any position it serves, puts the spare unit in service and the freed one at the spare
position; an abandoned rotation returns the unit to the pool. A unit error retires the unit: a released spare takes over and the
run stops, or without host and spare the capacity fault marks the position, its instances and its generators.
(11_teller_array.md (R271-R273); 11_teller_array.md (R274, R275); 11_teller_array.md (R276, R277, R279)) -/
def Obligations.TellerUnitsAreRotatedAndReplaced : Prop :=
  ∀ s : State, s.Shaped →
  (∀ init data, s.mustWait .tel TELC.base = false → s.locked TELC.base = false → s.members [14, 15] = [] →
    ∃ t, exec (.tellerRotcfgWrite init data) s = .next t ∧ t.bit TELC.ROTCFG 31 = tb data 31 ∧
    t.fld TELC.ROTCFG 7 0 = bitsOf data 7 0 ∧ Accepted init TELC.ROTCFG t ∧
    (s.bit TELC.ROTCFG 31 ≠ tb data 31 → t.bit (TLR.STAT 14) 11 = tb data 31 ∧ t.bit (TLR.STAT 15) 11 = tb data 31) ∧
    (tb data 31 = false → t.fld TELC.ROTSTAT 31 30 = 0) ∧
    (s.bit TELC.ROTCFG 31 = true → tb data 31 = true → RegsBut (fun a => a = TELC.ROTCFG) s t ∧ t.tel = s.tel) ∧
    (∀ n, n < 14 → (s.tpos n).host = none → t.unitOf n = s.unitOf n)) ∧
  (∀ init data, s.mustWait .tel TELC.base = false → tb data 31 = true → s.members [14, 15] ≠ [] →
    ∃ t, exec (.tellerRotcfgWrite init data) s = .next t ∧ Refused init TELC.ROTCFG .refused t ∧ t.tel = s.tel ∧
    t.rd TELC.ROTCFG = s.rd TELC.ROTCFG) ∧
  (∀ p q, Memory.wf s.mem = true → s.domRun .tel = true → s.bit TELC.ROTCFG 31 = true → s.fld TELC.ROTSTAT 31 30 = 0 → p < 14 → q = 14 ∨ q = 15 →
    s.served p = true → (s.tpos p).host = none → s.unitOf q ∈ s.tel.released → s.tel.chosen = some (p, q) →
    ∃ t, exec (.tellerRotationStart p q) s = .next t ∧ t.fld TELC.ROTSTAT 31 30 = 1 ∧ t.fld TELC.ROTSTAT 27 24 = p ∧
    t.fld TELC.ROTSTAT 19 16 = s.unitOf q ∧ t.bit (TLR.STAT p) 8 = true ∧
    (∀ k, k < 0x8000 → t.byte (0x30040000 + q * 0x8000 + k) = s.byte (0x30040000 + p * 0x8000 + k)) ∧
    t.tel.released = s.tel.released.erase (s.unitOf q) ∧ t.tel.chosen = none ∧ t.tel.pos = s.tel.pos ∧
    MemBut (fun b => 0x30040000 + q * 0x8000 ≤ b ∧ b < 0x30048000 + q * 0x8000) s t ∧
    RegsBut (fun a => a = TELC.ROTSTAT ∨ a = TLR.STAT p) s t ∧ t = { s with regs := t.regs, mem := t.mem, tel := t.tel }) ∧
  ((∀ i, i < 8 → s.instEn (s.fld TELC.ROTSTAT 27 24) i = false) → s.domRun .tel = true → s.fld TELC.ROTSTAT 31 30 = 1 →
    ∃ t, exec .tellerCopyEnd s = .next t ∧ t.fld TELC.ROTSTAT 31 30 = 3 ∧ t.fld TELC.ROTSTAT 6 0 = 64 ∧
    RegsBut (fun a => a = TELC.ROTSTAT) s t ∧ (∀ m, t.runAt m = s.runAt m) ∧ t = { s with regs := t.regs, tel := t.tel }) ∧
  (∀ i, s.domRun .tel = true → s.fld TELC.ROTSTAT 31 30 = 1 → i < 8 → s.instEn (s.fld TELC.ROTSTAT 27 24) i = true → nth 0 s.tel.runs i < 64 →
    ∃ t, exec .tellerCopyEnd s = .next t ∧ t.fld TELC.ROTSTAT 31 30 = 2 ∧
        t.fld TELC.ROTSTAT 6 0 = s.minRuns (s.fld TELC.ROTSTAT 27 24) ∧
    t.fld TELC.ROTSTAT 27 24 = s.fld TELC.ROTSTAT 27 24 ∧ t.fld TELC.ROTSTAT 19 16 = s.fld TELC.ROTSTAT 19 16 ∧
    RegsBut (fun a => a = TELC.ROTSTAT) s t ∧ t = { s with regs := t.regs }) ∧
  (∀ p, s.domRun .tel = true → s.fld TELC.ROTSTAT 31 30 = 2 → s.fld TELC.ROTSTAT 27 24 = p → ∃ t, exec .tellerShadowMismatch s = .next t ∧
    t.fld TELC.ROTSTAT 31 30 = 0 ∧ t.bit (TLR.STAT p) 8 = false ∧ t.unitOf p = s.unitOf p ∧ t.bit (TELC.base + 0x14) 3 = true ∧
    t.fld TELC.ROTCNT 15 8 = min (s.fld TELC.ROTCNT 15 8 + 1) 255 ∧ t.tel.freed = s.tel.freed ++ [s.fld TELC.ROTSTAT 19 16] ∧
    s.fld TELC.ROTSTAT 19 16 ∈ (t.tpos p).mism ∧ (∀ m, m ≠ p → t.tpos m = s.tpos m) ∧
    RegsBut (fun a => a ∈ [TELC.ROTSTAT, TLR.STAT p, TELC.ROTCNT, TELC.base + 0x14]) s t ∧
        t = { s with regs := t.regs, tel := t.tel }) ∧
  (∀ p u, s.domRun .tel = true → s.fld TELC.ROTSTAT 31 30 = 3 → s.fld TELC.ROTSTAT 27 24 = p → s.fld TELC.ROTSTAT 19 16 = u → p < 14 →
      s.unitFree p = true →
    ∃ t, exec .tellerHandover s = .next t ∧ t.unitOf p = u ∧ t.unitOf (s.spareOf u) = s.unitOf p ∧ t.fld TELC.ROTSTAT 31 30 = 0 ∧
    t.bit (TLR.STAT p) 8 = false ∧ t.fld TELC.ROTCNT 31 16 = min (s.fld TELC.ROTCNT 31 16 + 1) 65535 ∧
        t.bit (TELC.base + 0x14) 2 = true ∧
    t.tel.freed = s.tel.freed ++ [s.unitOf p] ∧ t.tel.pos = s.tel.pos ∧
    RegsBut (fun a => a ∈ [TELC.ROTSTAT, TLR.STAT p, TLR.STAT (s.spareOf u), TELC.ROTCNT, TELC.base + 0x14, TELC.CAPSTAT, HEALTH.SPARES,
      HEALTH.base + 0x14] ∨ ∃ g, g < 16 ∧ (s.tpos g).host = some p ∧ a = TLR.STAT g) s t ∧
    t = { s with regs := t.regs, tel := t.tel }) ∧
  (∀ p, s.fld TELC.ROTSTAT 27 24 = p → s.domRun .tel = false ∨ s.unitFree p = false → exec .tellerHandover s = .next s) ∧
  (s.domRun .tel = true → s.fld TELC.ROTSTAT 31 30 = 1 ∨ s.fld TELC.ROTSTAT 31 30 = 2 → ∃ t, exec .tellerRotationAbandon s = .next t ∧
    t.fld TELC.ROTSTAT 31 30 = 0 ∧ t.bit (TLR.STAT (s.fld TELC.ROTSTAT 27 24)) 8 = false ∧ t.bit (TELC.base + 0x14) 4 = true ∧
    t.fld TELC.ROTCNT 7 0 = min (s.fld TELC.ROTCNT 7 0 + 1) 255 ∧
    t.tel.released = s.tel.released ++ [s.fld TELC.ROTSTAT 19 16] ∧ t.tel.pos = s.tel.pos ∧ (∀ n, t.unitOf n = s.unitOf n) ∧
    RegsBut (fun a => a ∈ [TELC.ROTSTAT, TLR.STAT (s.fld TELC.ROTSTAT 27 24), TELC.ROTCNT, TELC.base + 0x14]) s t ∧
    t = { s with regs := t.regs, tel := t.tel }) ∧
  (∀ u p, s.posOfUnit u = some p → u < 16 → s.domRun .tel = true → s.bit TELC.CAPSTAT (16 + u) = false → p < 14 →
    s.fld TELC.ROTSTAT 31 30 = 0 → s.bit TELC.ROTCFG 31 = true → (s.tpos p).takeover = none → ∀ v rest, s.tel.released.erase u = v :: rest → v < 16 →
    ∃ t, exec (.tellerUnitError u) s = .next t ∧ t.unitOf p = v ∧ t.unitOf (s.spareOf v) = u ∧ t.runAt p = none ∧
    t.bit TELC.CAPSTAT (16 + u) = true ∧ t.bit HEALTH.RETIRED1 (16 + u) = true ∧ t.bit (TELC.base + 0x14) 5 = true ∧
    t.served p = true ∧ t = { s with regs := t.regs, tel := t.tel }) ∧
  (∀ u p, s.posOfUnit u = some p → u < 16 → s.domRun .tel = true → s.bit TELC.CAPSTAT (16 + u) = false → p < 14 → s.fld TELC.ROTSTAT 31 30 = 0 →
    s.bit TELC.ROTCFG 31 = false → (∀ q, q < 16 → (s.tpos q).host ≠ some p) → s.bit (TLR.base p + 0x40) 31 = false →
    ∃ t, exec (.tellerUnitError u) s = .next t ∧ t.served p = false ∧ t.bit (TLR.base p + 0x14) 24 = true ∧
    t.bit TELC.CAPSTAT 0 = true ∧ t.bit TELC.CAPSTAT (16 + u) = true ∧ t.bit (TELC.base + 0x14) 5 = true ∧
        t.bit (TELC.base + 0x14) 0 = true ∧
    (∀ i, i < 8 → s.instEn p i = true → t.bit (INSTSTAT p i) 28 = true) ∧
    (∀ g, g < 48 → s.bit (PWM.OWNER g) 31 = true → s.fld (PWM.OWNER g) 19 16 = p → s.instEn p (s.fld (PWM.OWNER g) 10 8) = true →
      t.bit (PWM.STAT g) 8 = true))

/-- When the unit has fetched the operation in an M slot, its predicate holds and the full form runs, the operation adds,
subtracts or sets the exact shifted product or 2^31 times the register at the named accumulator, or moves the rounded,
saturated accumulator to its register, clearing the accumulator with CLR, or clears it; the bundle then goes on or ends as
R283 says, its accumulators saturated to 72 bits once. A MAC in M0 and an MSU in M1 of one bundle on one accumulator leave the
accumulator plus and minus both shifted products, saturated once. Nothing else changes. (12_loop_instruction_set.md
(R281-R287); 12_loop_instruction_set.md (R288, R289)) -/
def Obligations.MultiplyAccumulateRunsInTheFullForm : Prop :=
  ∀ s : State, s.Shaped → ∀ (n : Nat) (r : Run), s.runAt n = some r → ∀ w : Word,
  (∀ m1, Executes n (mslot m1) 1 w r s → r.sc = false → ∃ t, exec (.opMac n m1 w) s = .next t ∧
    OpRan n (mslot m1) (r.addA (fldAcc w) (shiftI (r.VI (macX w) * r.VI (macY w)) (s.shiftEntry r (macS w)))) s t) ∧
  (∀ m1, Executes n (mslot m1) 2 w r s → r.sc = false → ∃ t, exec (.opMsu n m1 w) s = .next t ∧
    OpRan n (mslot m1) (r.addA (fldAcc w) (-shiftI (r.VI (macX w) * r.VI (macY w)) (s.shiftEntry r (macS w)))) s t) ∧
  (∀ m1, Executes n (mslot m1) 3 w r s → r.sc = false → ∃ t, exec (.opMul n m1 w) s = .next t ∧
    OpRan n (mslot m1) (r.putA (fldAcc w) (shiftI (r.VI (macX w) * r.VI (macY w)) (s.shiftEntry r (macS w)))) s t) ∧
  (∀ m1, Executes n (mslot m1) 4 w r s → r.sc = false → ∃ t, exec (.opAccld n m1 w) s = .next t ∧
    OpRan n (mslot m1) (r.putA (fldAcc w) (shiftI (r.VI (macX w) * 2147483648) (s.shiftEntry r (macS w)))) s t) ∧
  (∀ m1, Executes n (mslot m1) 5 w r s → r.sc = false → ∃ t, exec (.opMova n m1 w) s = .next t ∧
    (w.getLsbD 8 = false → OpRan n (mslot m1) (r.wroteV (fldD w) (toWord (satN 32 (rnd (r.A (fldAcc w)) (bitsOf w 14 9))))
      (satSets 32 (rnd (r.A (fldAcc w)) (bitsOf w 14 9)))) s t) ∧
    (w.getLsbD 8 = true → OpRan n (mslot m1) ((r.wroteV (fldD w) (toWord (satN 32 (rnd (r.A (fldAcc w)) (bitsOf w 14 9))))
      (satSets 32 (rnd (r.A (fldAcc w)) (bitsOf w 14 9)))).putA (fldAcc w) 0) s t)) ∧
  (∀ m1, Executes n (mslot m1) 6 w r s → ∃ t, exec (.opAccclr n m1 w) s = .next t ∧
    OpRan n (mslot m1) (r.putA (fldAcc w) 0) s t) ∧
  (∀ w0, Executes n 0 1 w0 r s → Executes n 1 2 w r s → r.sc = false → fldAcc w0 = fldAcc w → r.accW = [] → r.done = 12 →
    r.ctl = none → r.fixed = false → r.hold = none → r.frd = none → r.fence = false →
    ∃ t, exec (.opMac n false w0) s = .next t ∧ ∃ u, exec (.opMsu n true w) t = .next u ∧ ∃ r', u.runAt n = some r' ∧
    r'.A (fldAcc w) = satN 72 (r.A (fldAcc w) + shiftI (r.VI (macX w0) * r.VI (macY w0)) (s.shiftEntry r (macS w0)) -
      shiftI (r.VI (macX w) * r.VI (macY w)) (s.shiftEntry r (macS w))))

/-- When the unit has fetched the operation in an M slot and its predicate holds, NOP only takes its place in the bundle, and each
ALU operation writes its one register with the value of R288's table: exact sums modulo 2^32 or saturated, signed minimum,
maximum and clamp with the upper bound winning, bitwise logic, shifts (SHRA rounded, SHRL truncated), the rounded product of
MULQ, the sign-extended or upper-half immediate; a saturation that changes a value sets SAT at the bundle's end. The bundle
then goes on or ends as R283 says. Nothing else changes. (12_loop_instruction_set.md (R281-R286); 12_loop_instruction_set.md
(R288, R303)) -/
def Obligations.AluOperationsWriteOneRegister : Prop :=
  ∀ s : State, s.Shaped → ∀ (n : Nat) (r : Run), s.runAt n = some r → ∀ w : Word,
  (∀ slot, slot < 4 → Executes n slot 0 w r s → ∃ t, exec (.opNop n slot w) s = .next t ∧ OpRan n slot r s t) ∧
  (∀ m1, Executes n (mslot m1) 8 w r s → ∃ t, exec (.opMov n m1 w) s = .next t ∧
    OpRan n (mslot m1) (r.wroteV (fldD w) (r.V (fldX w)) false) s t) ∧
  (∀ m1, Executes n (mslot m1) 9 w r s → ∃ t, exec (.opAdd n m1 w) s = .next t ∧
    OpRan n (mslot m1) (r.wroteV (fldD w) (r.V (fldX w) + r.V (fldY w)) false) s t) ∧
  (∀ m1, Executes n (mslot m1) 10 w r s → ∃ t, exec (.opAdds n m1 w) s = .next t ∧
    OpRan n (mslot m1) (r.wroteV (fldD w) (toWord (satN 32 (r.VI (fldX w) + r.VI (fldY w)))) (satSets 32 (r.VI (fldX w) + r.VI (fldY w)))) s t) ∧
  (∀ m1, Executes n (mslot m1) 11 w r s → ∃ t, exec (.opSub n m1 w) s = .next t ∧
    OpRan n (mslot m1) (r.wroteV (fldD w) (r.V (fldX w) - r.V (fldY w)) false) s t) ∧
  (∀ m1, Executes n (mslot m1) 12 w r s → ∃ t, exec (.opSubs n m1 w) s = .next t ∧
    OpRan n (mslot m1) (r.wroteV (fldD w) (toWord (satN 32 (r.VI (fldX w) - r.VI (fldY w)))) (satSets 32 (r.VI (fldX w) - r.VI (fldY w)))) s t) ∧
  (∀ m1, Executes n (mslot m1) 13 w r s → ∃ t, exec (.opNeg n m1 w) s = .next t ∧
    OpRan n (mslot m1) (r.wroteV (fldD w) (toWord (satN 32 (-r.VI (fldX w)))) (satSets 32 (-r.VI (fldX w)))) s t) ∧
  (∀ m1, Executes n (mslot m1) 14 w r s → ∃ t, exec (.opAbs n m1 w) s = .next t ∧
    OpRan n (mslot m1) (r.wroteV (fldD w) (toWord (satN 32 (((r.VI (fldX w)).natAbs : Int)))) (satSets 32 (((r.VI (fldX w)).natAbs : Int)))) s t) ∧
  (∀ m1, Executes n (mslot m1) 15 w r s → ∃ t, exec (.opMin n m1 w) s = .next t ∧
    OpRan n (mslot m1) (r.wroteV (fldD w) (if (r.V (fldY w)).slt (r.V (fldX w)) then r.V (fldY w) else r.V (fldX w)) false) s t) ∧
  (∀ m1, Executes n (mslot m1) 16 w r s → ∃ t, exec (.opMax n m1 w) s = .next t ∧
    OpRan n (mslot m1) (r.wroteV (fldD w) (if (r.V (fldX w)).slt (r.V (fldY w)) then r.V (fldY w) else r.V (fldX w)) false) s t) ∧
  (∀ m1, Executes n (mslot m1) 17 w r s → ∃ t, exec (.opAnd n m1 w) s = .next t ∧
    OpRan n (mslot m1) (r.wroteV (fldD w) (r.V (fldX w) &&& r.V (fldY w)) false) s t) ∧
  (∀ m1, Executes n (mslot m1) 18 w r s → ∃ t, exec (.opOr n m1 w) s = .next t ∧
    OpRan n (mslot m1) (r.wroteV (fldD w) (r.V (fldX w) ||| r.V (fldY w)) false) s t) ∧
  (∀ m1, Executes n (mslot m1) 19 w r s → ∃ t, exec (.opXor n m1 w) s = .next t ∧
    OpRan n (mslot m1) (r.wroteV (fldD w) (r.V (fldX w) ^^^ r.V (fldY w)) false) s t) ∧
  (∀ m1, Executes n (mslot m1) 20 w r s → ∃ t, exec (.opShl n m1 w) s = .next t ∧
    OpRan n (mslot m1) (r.wroteV (fldD w) (r.V (fldX w) <<< bitsOf w 9 5) false) s t) ∧
  (∀ m1, Executes n (mslot m1) 21 w r s → ∃ t, exec (.opShra n m1 w) s = .next t ∧
    OpRan n (mslot m1) (r.wroteV (fldD w) (toWord (rnd (r.VI (fldX w)) (bitsOf w 9 5))) false) s t) ∧
  (∀ m1, Executes n (mslot m1) 22 w r s → ∃ t, exec (.opShrl n m1 w) s = .next t ∧
    OpRan n (mslot m1) (r.wroteV (fldD w) (r.V (fldX w) >>> bitsOf w 9 5) false) s t) ∧
  (∀ m1, Executes n (mslot m1) 23 w r s → ∃ t, exec (.opMulq n m1 w) s = .next t ∧
    OpRan n (mslot m1) (r.wroteV (fldD w) (toWord (satN 32 (rnd (r.VI (fldX w) * r.VI (fldY w)) 31))) (satSets 32 (rnd (r.VI (fldX w) * r.VI (fldY w)) 31))) s t) ∧
  (∀ m1, Executes n (mslot m1) 24 w r s → ∃ t, exec (.opClamp n m1 w) s = .next t ∧
    OpRan n (mslot m1) (r.wroteV (fldD w) (if (r.V (fldY w + 1)).slt (if (r.V (fldX w)).slt (r.V (fldY w)) then r.V (fldY w) else r.V (fldX w)) then r.V (fldY w + 1) else
      if (r.V (fldX w)).slt (r.V (fldY w)) then r.V (fldY w) else r.V (fldX w)) false) s t) ∧
  (∀ m1, Executes n (mslot m1) 25 w r s → ∃ t, exec (.opMovi n m1 w) s = .next t ∧
    OpRan n (mslot m1) (r.wroteV (fldV w) ((BitVec.ofNat 16 (bitsOf w 15 0)).signExtend 32) false) s t) ∧
  (∀ m1, Executes n (mslot m1) 26 w r s → ∃ t, exec (.opMovih n m1 w) s = .next t ∧
    OpRan n (mslot m1) (r.wroteV (fldV w) ((r.V (fldV w) &&& 0xFFFF) ||| (w <<< 16)) false) s t)

/-- When the unit has fetched the operation in M0, its predicate holds and the full form runs: BIQ writes the saturated output of
R290's section and both saturated states, the second and third from the saturated output; CLARKE, ICLARKE, PARK and IPARK
write the saturated, rounded sums of R291 and R292 with their constants and the interpolated sine and cosine of the angle;
every saturation that changes a value sets SAT, and the bundle is held by the fixed stall of R306. The sine table is symmetric
about a quarter turn. (12_loop_instruction_set.md (R290); 12_loop_instruction_set.md (R291); 12_loop_instruction_set.md (R292,
R306)) -/
def Obligations.BiquadAndTransformsStallTheirBundle : Prop :=
  ∀ s : State, s.Shaped → ∀ (n : Nat) (r : Run), s.runAt n = some r → ∀ w : Word,
  (Executes n 0 0x20 w r s → r.sc = false → ∀ y : Int,
    y = rnd (r.VI (fldY w) * r.VI (fldX w) + r.VI (fldZ w) * 1073741824) 30 → ∀ s1 : Int,
    s1 = rnd (r.VI (fldY w + 1) * r.VI (fldX w) - r.VI (fldY w + 3) * satN 32 y + r.VI (fldZ w + 1) * 1073741824) 30 → ∀ s2 : Int,
    s2 = rnd (r.VI (fldY w + 2) * r.VI (fldX w) - r.VI (fldY w + 4) * satN 32 y) 30 →
    ∃ t, exec (.opBiq n w) s = .next t ∧ OpRan n 0 { r with
      vW := r.vW ++ [(fldD w, toWord (satN 32 y)), (fldZ w, toWord (satN 32 s1)), (fldZ w + 1, toWord (satN 32 s2))],
      satW := r.satW || (satSets 32 y || satSets 32 s1 || satSets 32 s2), fixed := true } s t) ∧
  (Executes n 0 33 w r s → r.sc = false → ∃ t, exec (.opClarke n w) s = .next t ∧
    OpRan n 0 ({ r with
      vW := r.vW ++ [(fldD w, toWord (satN 32 (rnd (715827883 * (2 * r.VI (fldX w) - r.VI (fldX w + 1) - r.VI (fldX w + 2))) 31))), (fldD w + 1, toWord (satN 32 (rnd (1239850262 * (r.VI (fldX w + 1) - r.VI (fldX w + 2))) 31)))],
      satW := r.satW || satSets 32 (rnd (715827883 * (2 * r.VI (fldX w) - r.VI (fldX w + 1) - r.VI (fldX w + 2))) 31) ||
          satSets 32 (rnd (1239850262 * (r.VI (fldX w + 1) - r.VI (fldX w + 2))) 31), fixed := true }) s t) ∧
  (Executes n 0 34 w r s → r.sc = false → ∃ t, exec (.opIclarke n w) s = .next t ∧
    OpRan n 0 ({ r with
      vW := r.vW ++ [(fldD w, r.V (fldX w)), (fldD w + 1, toWord (satN 32 (rnd (1859775393 * r.VI (fldX w + 1) - r.VI (fldX w) * 1073741824) 31))),
      (fldD w + 2, toWord (satN 32 (rnd (-1859775393 * r.VI (fldX w + 1) - r.VI (fldX w) * 1073741824) 31)))],
      satW := r.satW || satSets 32 (rnd (1859775393 * r.VI (fldX w + 1) - r.VI (fldX w) * 1073741824) 31) ||
          satSets 32 (rnd (-1859775393 * r.VI (fldX w + 1) - r.VI (fldX w) * 1073741824) 31),
      fixed := true }) s t) ∧
  (Executes n 0 35 w r s → r.sc = false → ∃ t, exec (.opPark n w) s = .next t ∧
    OpRan n 0 ({ r with
      vW := r.vW ++ [(fldD w, toWord (satN 32 (rnd (r.VI (fldX w) * tellerSin (r.V (fldY w) + 0x40000000) + r.VI (fldX w + 1) * tellerSin (r.V (fldY w))) 31))), (fldD w + 1, toWord (satN 32 (rnd (r.VI (fldX w + 1) * tellerSin (r.V (fldY w) + 0x40000000) - r.VI (fldX w) * tellerSin (r.V (fldY w))) 31)))],
      satW := r.satW || satSets 32 (rnd (r.VI (fldX w) * tellerSin (r.V (fldY w) + 0x40000000) + r.VI (fldX w + 1) * tellerSin (r.V (fldY w))) 31) || satSets 32 (rnd (r.VI (fldX w + 1) * tellerSin (r.V (fldY w) + 0x40000000) - r.VI (fldX w) * tellerSin (r.V (fldY w))) 31), fixed := true }) s t) ∧
  (Executes n 0 36 w r s → r.sc = false → ∃ t, exec (.opIpark n w) s = .next t ∧
    OpRan n 0 ({ r with
      vW := r.vW ++ [(fldD w, toWord (satN 32 (rnd (r.VI (fldX w) * tellerSin (r.V (fldY w) + 0x40000000) - r.VI (fldX w + 1) * tellerSin (r.V (fldY w))) 31))), (fldD w + 1, toWord (satN 32 (rnd (r.VI (fldX w) * tellerSin (r.V (fldY w)) + r.VI (fldX w + 1) * tellerSin (r.V (fldY w) + 0x40000000)) 31)))],
      satW := r.satW || satSets 32 (rnd (r.VI (fldX w) * tellerSin (r.V (fldY w) + 0x40000000) - r.VI (fldX w + 1) * tellerSin (r.V (fldY w))) 31) || satSets 32 (rnd (r.VI (fldX w) * tellerSin (r.V (fldY w)) + r.VI (fldX w + 1) * tellerSin (r.V (fldY w) + 0x40000000)) 31), fixed := true }) s t) ∧
  (∀ f : Nat, bitsOf w 19 4 = f →
      tellerSin w = sineTable (bitsOf w 31 20) + rnd ((sineTable (bitsOf w 31 20 + 1) - sineTable (bitsOf w 31 20)) * f) 16) ∧
  (∀ k, k ≤ 1024 → sineTable (2048 - k) = sineTable k)

/-- When the unit has fetched the operation, its predicate holds and the small-change form runs, the operation acts on both signed
16-bit lanes as R294's table says: paired accumulators p and p+1 take the lo and hi lane's exact shifted products; QMOVA,
PACK, QADDS, QSUBS and the transforms write lanes rounded and saturated to 16 bits; UNPK writes the chosen lane times 2^16;
QBIQ is R290 per lane with Q2.14 coefficients; the operations of M0 hold the bundle by their fixed stall; every saturation
that changes a value sets SAT. Nothing else changes. (12_loop_instruction_set.md (R293); 12_loop_instruction_set.md (R294);
12_loop_instruction_set.md (R306)) -/
def Obligations.SmallChangeOperationsWorkOnLanes : Prop :=
  ∀ s : State, s.Shaped → ∀ (n : Nat) (r : Run), s.runAt n = some r → ∀ w : Word,
  (∀ m1, Executes n (mslot m1) 1 w r s → r.sc = true → ∃ t, exec (.opQmac n m1 w) s = .next t ∧
    OpRan n (mslot m1) ((r.addA (fldAcc w) (shiftI (laneLo (r.V (macX w)) * laneLo (r.V (macY w))) (s.shiftEntry r (macS w)))).addA (fldAcc w + 1)
      (shiftI (laneHi (r.V (macX w)) * laneHi (r.V (macY w))) (s.shiftEntry r (macS w)))) s t) ∧
  (∀ m1, Executes n (mslot m1) 2 w r s → r.sc = true → ∃ t, exec (.opQmsu n m1 w) s = .next t ∧
    OpRan n (mslot m1) ((r.addA (fldAcc w) (-shiftI (laneLo (r.V (macX w)) * laneLo (r.V (macY w))) (s.shiftEntry r (macS w)))).addA (fldAcc w + 1)
      (-shiftI (laneHi (r.V (macX w)) * laneHi (r.V (macY w))) (s.shiftEntry r (macS w)))) s t) ∧
  (∀ m1, Executes n (mslot m1) 3 w r s → r.sc = true → ∃ t, exec (.opQmul n m1 w) s = .next t ∧
    OpRan n (mslot m1) ((r.putA (fldAcc w) (shiftI (laneLo (r.V (macX w)) * laneLo (r.V (macY w))) (s.shiftEntry r (macS w)))).putA (fldAcc w + 1)
      (shiftI (laneHi (r.V (macX w)) * laneHi (r.V (macY w))) (s.shiftEntry r (macS w)))) s t) ∧
  (∀ m1, Executes n (mslot m1) 4 w r s → r.sc = true → ∃ t, exec (.opQaccld n m1 w) s = .next t ∧
    OpRan n (mslot m1) ((r.putA (fldAcc w) (shiftI (laneLo (r.V (macX w)) * 32768) (s.shiftEntry r (macS w)))).putA (fldAcc w + 1)
      (shiftI (laneHi (r.V (macX w)) * 32768) (s.shiftEntry r (macS w)))) s t) ∧
  (∀ m1, Executes n (mslot m1) 5 w r s → r.sc = true → ∃ t, exec (.opQmova n m1 w) s = .next t ∧
    (w.getLsbD 8 = false → OpRan n (mslot m1) ({ r with
      vW := r.vW ++ [(fldD w, ofLanes (satN 16 (rnd (r.A (fldAcc w)) (bitsOf w 14 9))) (satN 16 (rnd (r.A (fldAcc w + 1)) (bitsOf w 14 9))))],
      satW := r.satW || satSets 16 (rnd (r.A (fldAcc w)) (bitsOf w 14 9)) ||
          satSets 16 (rnd (r.A (fldAcc w + 1)) (bitsOf w 14 9)) }) s t) ∧
    (w.getLsbD 8 = true → OpRan n (mslot m1) ((({ r with
      vW := r.vW ++ [(fldD w, ofLanes (satN 16 (rnd (r.A (fldAcc w)) (bitsOf w 14 9))) (satN 16 (rnd (r.A (fldAcc w + 1)) (bitsOf w 14 9))))],
      satW := r.satW || satSets 16 (rnd (r.A (fldAcc w)) (bitsOf w 14 9)) ||
          satSets 16 (rnd (r.A (fldAcc w + 1)) (bitsOf w 14 9)) } : Run).putA (fldAcc w) 0).putA (fldAcc w + 1) 0) s t)) ∧
  (∀ m1, Executes n (mslot m1) 28 w r s → r.sc = true → ∃ t, exec (.opPack n m1 w) s = .next t ∧
    OpRan n (mslot m1) ({ r with
      vW := r.vW ++ [(fldD w, ofLanes (satN 16 (rnd (r.VI (fldX w)) 16)) (satN 16 (rnd (r.VI (fldY w)) 16)))],
      satW := r.satW || satSets 16 (rnd (r.VI (fldX w)) 16) || satSets 16 (rnd (r.VI (fldY w)) 16) }) s t) ∧
  (∀ m1, Executes n (mslot m1) 29 w r s → r.sc = true → ∃ t, exec (.opUnpk n m1 w) s = .next t ∧
    OpRan n (mslot m1) (r.wroteV (fldD w) (if w.getLsbD 5 then r.V (fldX w) &&& 0xFFFF0000 else r.V (fldX w) <<< 16) false) s t) ∧
  (∀ m1, Executes n (mslot m1) 30 w r s → r.sc = true → ∃ t, exec (.opQadds n m1 w) s = .next t ∧
    OpRan n (mslot m1) ({ r with
      vW := r.vW ++ [(fldD w, ofLanes (satN 16 (laneLo (r.V (fldX w)) + laneLo (r.V (fldY w)))) (satN 16 (laneHi (r.V (fldX w)) + laneHi (r.V (fldY w)))))],
      satW := r.satW || satSets 16 (laneLo (r.V (fldX w)) + laneLo (r.V (fldY w))) ||
          satSets 16 (laneHi (r.V (fldX w)) + laneHi (r.V (fldY w))) }) s t) ∧
  (∀ m1, Executes n (mslot m1) 31 w r s → r.sc = true → ∃ t, exec (.opQsubs n m1 w) s = .next t ∧
    OpRan n (mslot m1) ({ r with
      vW := r.vW ++ [(fldD w, ofLanes (satN 16 (laneLo (r.V (fldX w)) - laneLo (r.V (fldY w)))) (satN 16 (laneHi (r.V (fldX w)) - laneHi (r.V (fldY w)))))],
      satW := r.satW || satSets 16 (laneLo (r.V (fldX w)) - laneLo (r.V (fldY w))) ||
          satSets 16 (laneHi (r.V (fldX w)) - laneHi (r.V (fldY w))) }) s t) ∧
  (Executes n 0 0x20 w r s → r.sc = true →
      ∀ y0 : Int, y0 = rnd (laneLo (r.V (fldY w)) * laneLo (r.V (fldX w)) + laneLo (r.V (fldZ w)) * 16384) 14 → ∀ p0 : Int,
    p0 = rnd (laneHi (r.V (fldY w)) * laneLo (r.V (fldX w)) - laneHi (r.V (fldY w + 1)) * satN 16 y0 + laneLo (r.V (fldZ w + 1)) * 16384) 14 → ∀ q0 : Int,
    q0 = rnd (laneLo (r.V (fldY w + 1)) * laneLo (r.V (fldX w)) - laneLo (r.V (fldY w + 2)) * satN 16 y0) 14 → ∀ y1 : Int,
    y1 = rnd (laneLo (r.V (fldY w)) * laneHi (r.V (fldX w)) + laneHi (r.V (fldZ w)) * 16384) 14 → ∀ p1 : Int,
    p1 = rnd (laneHi (r.V (fldY w)) * laneHi (r.V (fldX w)) - laneHi (r.V (fldY w + 1)) * satN 16 y1 + laneHi (r.V (fldZ w + 1)) * 16384) 14 → ∀ q1 : Int,
    q1 = rnd (laneLo (r.V (fldY w + 1)) * laneHi (r.V (fldX w)) - laneLo (r.V (fldY w + 2)) * satN 16 y1) 14 →
    ∃ t, exec (.opQbiq n w) s = .next t ∧ OpRan n 0 { r with
      vW := r.vW ++ [(fldD w, ofLanes (satN 16 y0) (satN 16 y1)), (fldZ w, ofLanes (satN 16 p0) (satN 16 p1)),
        (fldZ w + 1, ofLanes (satN 16 q0) (satN 16 q1))],
      satW := r.satW || (satSets 16 y0 || satSets 16 p0 || satSets 16 q0) || (satSets 16 y1 || satSets 16 p1 || satSets 16 q1),
      fixed := true } s t) ∧
  (Executes n 0 33 w r s → r.sc = true → ∃ t, exec (.opQclarke n w) s = .next t ∧
    OpRan n 0 ({ r with
      vW := r.vW ++ [(fldD w, ofLanes (satN 16 (rnd (10923 * (2 * laneLo (r.V (fldX w)) - laneHi (r.V (fldX w)) - laneLo (r.V (fldX w + 1)))) 15)) (satN 16 (rnd (18919 * (laneHi (r.V (fldX w)) - laneLo (r.V (fldX w + 1)))) 15)))],
      satW := r.satW || satSets 16 (rnd (10923 * (2 * laneLo (r.V (fldX w)) - laneHi (r.V (fldX w)) - laneLo (r.V (fldX w + 1)))) 15) || satSets 16 (rnd (18919 * (laneHi (r.V (fldX w)) - laneLo (r.V (fldX w + 1)))) 15), fixed := true }) s t) ∧
  (Executes n 0 34 w r s → r.sc = true → ∃ t, exec (.opQiclarke n w) s = .next t ∧
    OpRan n 0 ({ r with
      vW := r.vW ++ [(fldD w, ofLanes (laneLo (r.V (fldX w))) (satN 16 (rnd (28378 * laneHi (r.V (fldX w)) - laneLo (r.V (fldX w)) * 16384) 15))),
      (fldD w + 1, ofLanes (satN 16 (rnd (-28378 * laneHi (r.V (fldX w)) - laneLo (r.V (fldX w)) * 16384) 15)) 0)],
      satW := r.satW || satSets 16 (rnd (28378 * laneHi (r.V (fldX w)) - laneLo (r.V (fldX w)) * 16384) 15) ||
          satSets 16 (rnd (-28378 * laneHi (r.V (fldX w)) - laneLo (r.V (fldX w)) * 16384) 15), fixed := true }) s t) ∧
  (Executes n 0 35 w r s → r.sc = true → ∃ t, exec (.opQpark n w) s = .next t ∧
    OpRan n 0 ({ r with
      vW := r.vW ++ [(fldD w, ofLanes (satN 16 (rnd (laneLo (r.V (fldX w)) * satN 16 (rnd (tellerSin (r.V (fldY w) + 0x40000000)) 16) + laneHi (r.V (fldX w)) * satN 16 (rnd (tellerSin (r.V (fldY w))) 16)) 15)) (satN 16 (rnd (laneHi (r.V (fldX w)) * satN 16 (rnd (tellerSin (r.V (fldY w) + 0x40000000)) 16) - laneLo (r.V (fldX w)) * satN 16 (rnd (tellerSin (r.V (fldY w))) 16)) 15)))],
      satW := r.satW || satSets 16 (rnd (laneLo (r.V (fldX w)) * satN 16 (rnd (tellerSin (r.V (fldY w) + 0x40000000)) 16) + laneHi (r.V (fldX w)) * satN 16 (rnd (tellerSin (r.V (fldY w))) 16)) 15) || satSets 16 (rnd (laneHi (r.V (fldX w)) * satN 16 (rnd (tellerSin (r.V (fldY w) + 0x40000000)) 16) - laneLo (r.V (fldX w)) * satN 16 (rnd (tellerSin (r.V (fldY w))) 16)) 15) || (satSets 16 (rnd (tellerSin (r.V (fldY w))) 16) || satSets 16 (rnd (tellerSin (r.V (fldY w) + 0x40000000)) 16)), fixed := true }) s t) ∧
  (Executes n 0 36 w r s → r.sc = true → ∃ t, exec (.opQipark n w) s = .next t ∧
    OpRan n 0 ({ r with
      vW := r.vW ++ [(fldD w, ofLanes (satN 16 (rnd (laneLo (r.V (fldX w)) * satN 16 (rnd (tellerSin (r.V (fldY w) + 0x40000000)) 16) - laneHi (r.V (fldX w)) * satN 16 (rnd (tellerSin (r.V (fldY w))) 16)) 15)) (satN 16 (rnd (laneLo (r.V (fldX w)) * satN 16 (rnd (tellerSin (r.V (fldY w))) 16) + laneHi (r.V (fldX w)) * satN 16 (rnd (tellerSin (r.V (fldY w) + 0x40000000)) 16)) 15)))],
      satW := r.satW || satSets 16 (rnd (laneLo (r.V (fldX w)) * satN 16 (rnd (tellerSin (r.V (fldY w) + 0x40000000)) 16) - laneHi (r.V (fldX w)) * satN 16 (rnd (tellerSin (r.V (fldY w))) 16)) 15) || satSets 16 (rnd (laneLo (r.V (fldX w)) * satN 16 (rnd (tellerSin (r.V (fldY w))) 16) + laneHi (r.V (fldX w)) * satN 16 (rnd (tellerSin (r.V (fldY w) + 0x40000000)) 16)) 15) || (satSets 16 (rnd (tellerSin (r.V (fldY w))) 16) || satSets 16 (rnd (tellerSin (r.V (fldY w) + 0x40000000)) 16)), fixed := true }) s t)

/-- When the unit has fetched the L operation and its predicate holds: a load takes the words at the area address off + LC[level]
× S (the deposit slot for LDDEP) into its registers; when the read finds an uncorrectable error the registers get 0 and the
instance's MEM_ERR bit, the memory-error flag and the count are set and the word stays bad; a store takes effect at the bundle's end,
when exactly its words are written there, and in the spare's copy while the position is rotated; LDIN gives the latched slot, its lo lane times 2^16, its lo lane in
the low half, or the arrival bits. The bundle then goes on or ends. Nothing else changes. (12_loop_instruction_set.md (R283, R296,
R297); 12_loop_instruction_set.md (R298); 11_teller_array.md (R257); 18_self_test_and_repair.md (R482, R483)) -/
def Obligations.StateMemoryInputsAndDepositsAreRead : Prop :=
  ∀ s : State, s.Shaped → ∀ (n : Nat) (r : Run), s.runAt n = some r → ∀ w : Word,
  (∀ us cycle, Executes n 2 1 w r s → s.health.bad = [] → ∃ t, exec (.opLdw n w us cycle none) s = .next t ∧
    OpRan n 2 { r with vW := r.vW ++ (List.range 1).map (fun i => (fldV w + i, s.memWord (areaWord s n r w + 4 * i))) } s t) ∧
  (∀ us cycle e, Executes n 2 1 w r s → s.health.bad = [] → memOf (areaWord s n r w) ≠ none → e.uncorr = true → r.inst < 8 →
    s.bit HEALTH.LOGBASE 0 = false → (areaWord s n r w) % 16 + 4 ≤ 16 →
    ∃ t s1, exec (.opLdw n w us cycle (some e)) s = .next t ∧ s1.bit (TLR.base n + 0x14) (16 + r.inst) = true ∧
    s1.bit (HEALTH.base + 0x14) 4 = true ∧ s1.health.bad = [(areaWord s n r w) / 16 * 16] ∧
    s1.fld HEALTH.MEMCNT 15 0 = min (s.fld HEALTH.MEMCNT 15 0 + 1) 65535 ∧
    s1 = { s with regs := s1.regs, health := s1.health, freeCtr := s1.freeCtr } ∧
    OpRan n 2 { r with vW := r.vW ++ (List.range 1).map (fun i => (fldV w + i, 0)) } s1 t) ∧
  (∀ us cycle, Executes n 2 3 w r s → s.health.bad = [] → ∃ t, exec (.opLdq n w us cycle none) s = .next t ∧
    OpRan n 2 { r with vW := r.vW ++ (List.range 4).map (fun i => (fldV w + i, s.memWord (areaWord s n r w + 4 * i))) } s t) ∧
  (∀ us cycle e, Executes n 2 3 w r s → s.health.bad = [] → memOf (areaWord s n r w) ≠ none → e.uncorr = true → r.inst < 8 →
    s.bit HEALTH.LOGBASE 0 = false → (areaWord s n r w) % 16 + 16 ≤ 16 →
    ∃ t s1, exec (.opLdq n w us cycle (some e)) s = .next t ∧ s1.bit (TLR.base n + 0x14) (16 + r.inst) = true ∧
    s1.bit (HEALTH.base + 0x14) 4 = true ∧ s1.health.bad = [(areaWord s n r w) / 16 * 16] ∧
    s1.fld HEALTH.MEMCNT 15 0 = min (s.fld HEALTH.MEMCNT 15 0 + 1) 65535 ∧
    s1 = { s with regs := s1.regs, health := s1.health, freeCtr := s1.freeCtr } ∧
    OpRan n 2 { r with vW := r.vW ++ (List.range 4).map (fun i => (fldV w + i, 0)) } s1 t) ∧
  (Executes n 2 2 w r s → ∃ t, exec (.opStw n w) s = .next t ∧
    OpRan n 2 { r with stW := r.stW ++ [(areaWord s n r w, leBytes 4 (r.V (fldV w)).toNat)] } s t) ∧
  (Executes n 2 4 w r s → ∃ t, exec (.opStq n w) s = .next t ∧
    OpRan n 2 { r with stW := r.stW ++ [(areaWord s n r w, leBytes 4 (r.V (fldV w)).toNat ++ leBytes 4 (r.V (fldV w + 1)).toNat ++
      leBytes 4 (r.V (fldV w + 2)).toNat ++ leBytes 4 (r.V (fldV w + 3)).toNat)] } s t) ∧
  (∀ a bs, r.stW = [(a, bs)] → 0x30040000 ≤ a → a + bs.length ≤ 0x300C0000 →
    (∀ k, k < bs.length → (s.stored r).byte (a + k) = nth 0 bs k) ∧
    MemBut (fun b => (a ≤ b ∧ b < a + bs.length) ∨ (s.fld TELC.ROTSTAT 31 30 ≠ 0 ∧ 0x300B0000 ≤ b)) s (s.stored r) ∧
    s.stored r = { s with mem := (s.stored r).mem, clerk0 := (s.stored r).clerk0, clerk1 := (s.stored r).clerk1,
                          health := (s.stored r).health }) ∧
  (Executes n 2 5 w r s → ∃ t, exec (.opLdin n w) s = .next t ∧ OpRan n 2 (r.wroteV (fldV w)
      (([nth 0 r.slots (bitsOf w 15 12), nth 0 r.slots (bitsOf w 15 12) <<< 16, nth 0 r.slots (bitsOf w 15 12) &&& 0xFFFF,
        Word.ofNat (r.arr % 65536)] : List Word).getD (bitsOf w 11 10) 0) false) s t) ∧
  (∀ us cycle, Executes n 2 6 w r s → s.health.bad = [] → ∃ t, exec (.opLddep n w us cycle none) s = .next t ∧
    OpRan n 2 { r with vW := r.vW ++ (List.range 4).map (fun i => (fldV w + i, s.memWord (s.depositAddr n r.inst (bitsOf w 15 14) + 4 * i))) } s t) ∧
  (∀ us cycle e, Executes n 2 6 w r s → s.health.bad = [] → memOf (s.depositAddr n r.inst (bitsOf w 15 14)) ≠ none →
      e.uncorr = true → r.inst < 8 →
    s.bit HEALTH.LOGBASE 0 = false → (s.depositAddr n r.inst (bitsOf w 15 14)) % 16 + 16 ≤ 16 →
    ∃ t s1, exec (.opLddep n w us cycle (some e)) s = .next t ∧ s1.bit (TLR.base n + 0x14) (16 + r.inst) = true ∧
    s1.bit (HEALTH.base + 0x14) 4 = true ∧ s1.health.bad = [(s.depositAddr n r.inst (bitsOf w 15 14)) / 16 * 16] ∧
    s1.fld HEALTH.MEMCNT 15 0 = min (s.fld HEALTH.MEMCNT 15 0 + 1) 65535 ∧
    s1 = { s with regs := s1.regs, health := s1.health, freeCtr := s1.freeCtr } ∧
    OpRan n 2 { r with vW := r.vW ++ (List.range 4).map (fun i => (fldV w + i, 0)) } s1 t)

/-- When the unit has fetched the L operation and its predicate holds: an output write or read whose target is accepted issues its
slip when a coin and a place at its port are free, and otherwise holds the bundle with it; one whose target is not accepted
issues nothing and sets FAB_ERR, a read giving 0; FENCE holds the bundle while a slip of the unit is outstanding; an admitted
PGSTEP moves its generator one step of R269 and returns x, a refused one returns x unchanged and sets FAB_ERR. When what held
a finished bundle has ended, its response is written, its slip issued (a PUSH at its slot's
address as it stands then), and the bundle ends. A profile step's speed never
exceeds VMAX. (12_loop_instruction_set.md (R299, R300); 12_loop_instruction_set.md (R301); 12_loop_instruction_set.md (R306);
11_teller_array.md (R266, R269, R270)) -/
def Obligations.UnitSlipsFencesAndProfileSteps : Prop :=
  ∀ s : State, s.Shaped → ∀ (n : Nat) (r : Run), s.runAt n = some r → ∀ w : Word,
  (∀ cycle, Executes n 2 8 w r s → UnitFree n (PWM.base (bitsOf w 15 10) + 0x40 + 4 * bitsOf w 9 8) s →
      ∃ t s1, exec (.opOut n w cycle) s = .next t ∧
    Issued { init := 32 + n, addr := PWM.base (bitsOf w 15 10) + 0x40 + 4 * bitsOf w 9 8, write := true, bytes := leBytes 4 (r.V (fldV w)).toNat, cycle := cycle, sub := r.inst, unit := some (s.unitOf n) } s s1 ∧ OpRan n 2 { r with hold := none, holdTo := none } s1 t) ∧
  (∀ cycle, Executes n 2 8 w r s → UnitHeld n (PWM.base (bitsOf w 15 10) + 0x40 + 4 * bitsOf w 9 8) s →
      ∃ t, exec (.opOut n w cycle) s = .next t ∧
    OpRan n 2
      { r with hold := some { init := 32 + n, addr := PWM.base (bitsOf w 15 10) + 0x40 + 4 * bitsOf w 9 8, write := true, bytes := leBytes 4 (r.V (fldV w)).toNat, cycle := cycle, sub := r.inst, unit := some (s.unitOf n) } } s t) ∧
  (∀ cycle, Executes n 2 9 w r s → s.instEn (bitsOf w 15 12) (bitsOf w 11 9) = true →
      UnitFree n (s.slotAddr (bitsOf w 15 12) (bitsOf w 11 9) (bitsOf w 8 5)) s → ∃ t s1, exec (.opPush n w cycle) s = .next t ∧
    Issued { init := 32 + n, addr := s.slotAddr (bitsOf w 15 12) (bitsOf w 11 9) (bitsOf w 8 5), write := true, bytes := leBytes 4 (r.V (fldV w)).toNat, cycle := cycle, sub := r.inst, unit := some (s.unitOf n) } s s1 ∧
    OpRan n 2 { r with hold := none, holdTo := none } s1 t) ∧
  (∀ cycle, Executes n 2 9 w r s → s.instEn (bitsOf w 15 12) (bitsOf w 11 9) = true →
      UnitHeld n (s.slotAddr (bitsOf w 15 12) (bitsOf w 11 9) (bitsOf w 8 5)) s → ∃ t, exec (.opPush n w cycle) s = .next t ∧
    OpRan n 2
      { r with hold := some { init := 32 + n, addr := s.slotAddr (bitsOf w 15 12) (bitsOf w 11 9) (bitsOf w 8 5), write := true, bytes := leBytes 4 (r.V (fldV w)).toNat, cycle := cycle, sub := r.inst, unit := some (s.unitOf n) }, holdTo := some (bitsOf w 15 12, bitsOf w 11 9, bitsOf w 8 5) } s t) ∧
  (∀ cycle, Executes n 2 9 w r s → r.inst < 8 → s.instEn (bitsOf w 15 12) (bitsOf w 11 9) = false →
      ∃ t s1, exec (.opPush n w cycle) s = .next t ∧
    s1.bit (TLR.base n + 0x14) (8 + r.inst) = true ∧ RegsBut (fun a => a = TLR.base n + 0x14) s s1 ∧ s1 = { s with regs := s1.regs } ∧
    OpRan n 2 { r with hold := none, holdTo := none } s1 t) ∧
  (∀ cycle, Executes n 2 10 w r s → fwrOk (r.V (fldVa w)).toNat = true → UnitFree n ((r.V (fldVa w)).toNat) s →
      ∃ t s1, exec (.opFwr n w cycle) s = .next t ∧
    Issued { init := 32 + n, addr := (r.V (fldVa w)).toNat, write := true, bytes := leBytes 4 (r.V (fldV w)).toNat, cycle := cycle, sub := r.inst, unit := some (s.unitOf n) } s s1 ∧ OpRan n 2 { r with hold := none, holdTo := none } s1 t) ∧
  (∀ cycle, Executes n 2 10 w r s → fwrOk (r.V (fldVa w)).toNat = true → UnitHeld n ((r.V (fldVa w)).toNat) s →
      ∃ t, exec (.opFwr n w cycle) s = .next t ∧
    OpRan n 2
      { r with hold := some { init := 32 + n, addr := (r.V (fldVa w)).toNat, write := true, bytes := leBytes 4 (r.V (fldV w)).toNat, cycle := cycle, sub := r.inst, unit := some (s.unitOf n) } } s t) ∧
  (∀ cycle, Executes n 2 10 w r s → r.inst < 8 → fwrOk (r.V (fldVa w)).toNat = false → ∃ t s1, exec (.opFwr n w cycle) s = .next t ∧
    s1.bit (TLR.base n + 0x14) (8 + r.inst) = true ∧ RegsBut (fun a => a = TLR.base n + 0x14) s s1 ∧ s1 = { s with regs := s1.regs } ∧
    OpRan n 2 (r) s1 t) ∧
  (∀ cycle, Executes n 2 11 w r s → UnitFree n (0x4001F040) s → ∃ t s1, exec (.opTrig n w cycle) s = .next t ∧
    Issued { init := 32 + n, addr := 0x4001F040, write := true, bytes := leBytes 4 (r.V (fldV w)).toNat, cycle := cycle, sub := r.inst, unit := some (s.unitOf n) } s s1 ∧ OpRan n 2 { r with hold := none, holdTo := none } s1 t) ∧
  (∀ cycle, Executes n 2 11 w r s → UnitHeld n (0x4001F040) s → ∃ t, exec (.opTrig n w cycle) s = .next t ∧
    OpRan n 2
      { r with hold := some { init := 32 + n, addr := 0x4001F040, write := true, bytes := leBytes 4 (r.V (fldV w)).toNat, cycle := cycle, sub := r.inst, unit := some (s.unitOf n) } } s t) ∧
  (∀ cycle, Executes n 2 12 w r s → frdOk (r.V (fldVa w)).toNat = true → UnitFree n (r.V (fldVa w)).toNat s →
      ∃ t s1, exec (.opFrd n w cycle) s = .next t ∧
    Issued { init := 32 + n, addr := (r.V (fldVa w)).toNat, write := false, len := 4, cycle := cycle, sub := r.inst, unit := some (s.unitOf n) } s s1 ∧
    OpRan n 2 { r with frd := some (fldV w), frdVal := none, frdTag := s.takeCoin (32 + n), hold := none, holdTo := none } s1 t) ∧
  (∀ cycle, Executes n 2 12 w r s → frdOk (r.V (fldVa w)).toNat = true → UnitHeld n (r.V (fldVa w)).toNat s →
      ∃ t, exec (.opFrd n w cycle) s = .next t ∧
    OpRan n 2 { r with frd := some (fldV w), frdVal := none, frdTag := none, hold := some { init := 32 + n, addr := (r.V (fldVa w)).toNat, write := false, len := 4, cycle := cycle, sub := r.inst, unit := some (s.unitOf n) } } s t) ∧
  (∀ cycle, Executes n 2 12 w r s → r.inst < 8 → frdOk (r.V (fldVa w)).toNat = false → ∃ t s1, exec (.opFrd n w cycle) s = .next t ∧
    s1.bit (TLR.base n + 0x14) (8 + r.inst) = true ∧ RegsBut (fun a => a = TLR.base n + 0x14) s s1 ∧ s1 = { s with regs := s1.regs } ∧
    OpRan n 2 (r.wroteV (fldV w) 0 false) s1 t) ∧
  (Executes n 2 14 w r s → ∃ t, exec (.opFence n w) s = .next t ∧
    OpRan n 2 { r with fence := s.fab.slips.any (fun p => p.unit == some (s.unitOf n)) } s t) ∧
  (Executes n 2 13 w r s → s.bit (PG.CFG (bitsOf w 10 6)) 31 = true → s.fld (PG.CFG (bitsOf w 10 6)) 19 16 = n →
    s.fld (PG.CFG (bitsOf w 10 6)) 10 8 = r.inst → s.ver TELC.base ≠ 1 ∨ bitsOf w 10 6 < 16 → ∀ k, k = bitsOf w 10 6 →
    ∃ t s1, exec (.opPgstep n w) s = .next t ∧
    (s1.rd (PG.X k), s1.rd (PG.X k + 4), s1.rd (PG.X k + 8)) = (fun o => (toWord o.1, toWord o.2.1, toWord o.2.2))
      (profileStep (s.fld (PG.CFG k + 4) 30 0) (s.fld (PG.CFG k + 8) 30 0) (s.fld (PG.CFG k + 12) 30 0) (s.rd (PG.X k)).toInt
        (s.rd (PG.X k + 4)).toInt (s.rd (PG.X k + 8)).toInt (r.VI (fldVa w))) ∧ s1.rd (PG.X k + 12) = r.V (fldVa w) ∧
    RegsBut (fun a => PG.X k ≤ a ∧ a < PG.X k + 16) s s1 ∧ s1 = { s with regs := s1.regs } ∧
    OpRan n 2 { r.wroteV (fldV w) (s1.rd (PG.X k)) false with fixed := true } s1 t) ∧
  (Executes n 2 13 w r s → r.inst < 8 → s.bit (PG.CFG (bitsOf w 10 6)) 31 = false → ∃ t s1, exec (.opPgstep n w) s = .next t ∧
    s1.bit (TLR.base n + 0x14) (8 + r.inst) = true ∧ s1 = { s with regs := s1.regs } ∧
    OpRan n 2 { r.wroteV (fldV w) (s.rd (PG.X (bitsOf w 10 6))) false with fixed := true } s1 t) ∧
  (∀ vmax amax jmax x v a rr, (profileStep vmax amax jmax x v a rr).2.1.natAbs ≤ vmax) ∧
  (∀ cycle e d, r.frd = some d → ∀ v, r.frdVal = some v → n < 16 → s.domRun .tel = true → r.done = 15 → r.hold = none →
    (r.fixed = true → e = true) → r.fence = false → r.ctl ≠ some .stop → ∃ r', exec (.bundleStallEnd n cycle e) s = .next ((s.stored r).setRun n r') ∧
    BundleEnded { r.wroteV d v false with frd := none, frdTag := none, frdVal := none, fixed := false } r') ∧
  (∀ cycle e, n < 16 → s.domRun .tel = true → r.done = 15 → r.hold = none → (r.fixed = true → e = true) → r.frd = none →
    s.outstanding n = false → r.ctl ≠ some .stop → ∃ r', exec (.bundleStallEnd n cycle e) s = .next ((s.stored r).setRun n r') ∧
    BundleEnded { r with fixed := false, fence := false } r') ∧
  (∀ cycle p, r.hold = some p → n < 16 → s.domRun .tel = true → r.done = 15 → r.holdTo = none → p.init = 32 + n →
    p.unit = some (s.unitOf n) → p.write = true → UnitFree n p.addr s → r.frd = none → r.fixed = false → r.fence = false →
    r.ctl ≠ some .stop → ∃ t s1, exec (.bundleStallEnd n cycle false) s = .next t ∧ Issued { p with cycle := cycle } s s1 ∧
    ∃ r', t = (s1.stored r).setRun n r' ∧ BundleEnded { r with hold := none } r') ∧
  (∀ cycle p, r.hold = some p → ∀ q i k, r.holdTo = some (q, i, k) → n < 16 → s.domRun .tel = true → r.done = 15 → p.init = 32 + n →
    p.bytes.length = 4 → s.instEn q i = true → UnitFree n (s.slotAddr q i k) s → r.frd = none → r.fixed = false → r.fence = false →
    r.ctl ≠ some .stop → ∃ t s1, exec (.bundleStallEnd n cycle false) s = .next t ∧
    Issued { init := 32 + n, addr := s.slotAddr q i k, write := true, bytes := p.bytes, cycle := cycle, sub := r.inst,
             unit := some (s.unitOf n) } s s1 ∧ ∃ r', t = (s1.stored r).setRun n r' ∧ BundleEnded { r with hold := none, holdTo := none } r')

/-- When the unit has fetched the C operation and its predicate holds: END ends the run after the bundle, BR and LOOP set where
the bundle's end goes, the comparisons, PSET, PLOG and PSAT write their predicate, as read in the bundle's first cycle. A
branch, an ALU operation or a store whose predicate is false does nothing but take its place in the bundle, and no
operation of a bundle with a word known to be uncorrectable, or of a stopped CLK_TEL, runs. Nothing else changes. (12_loop_instruction_set.md (R302, R303); 12_loop_instruction_set.md (R304, R305); 12_loop_instruction_set.md (R283)) -/
def Obligations.ControlAndPredicatesSteerTheBundle : Prop :=
  ∀ s : State, s.Shaped → ∀ (n : Nat) (r : Run), s.runAt n = some r → ∀ w : Word,
  (Executes n 3 1 w r s → ∃ t, exec (.opEnd n w) s = .next t ∧ OpRan n 3 ({ r with ctl := some .stop }) s t) ∧
  (Executes n 3 2 w r s → ∃ t, exec (.opBr n w) s = .next t ∧ OpRan n 3 ({ r with ctl := some (.br (bitsOf w 8 0)) }) s t) ∧
  (Executes n 3 3 w r s → ∃ t, exec (.opLoop n w) s = .next t ∧
      OpRan n 3 ({ r with ctl := some (.loop (bitsOf w 16 9 + 1) (bitsOf w 8 0)) }) s t) ∧
  (Executes n 3 4 w r s → ∃ t, exec (.opCmp n w) s = .next t ∧
      OpRan n 3 ({ r with pW := r.pW ++ [(bitsOf w 18 17, ccSpec (bitsOf w 21 19) (r.V (bitsOf w 16 12)) (r.V (bitsOf w 11 7)))] }) s t) ∧
  (Executes n 3 5 w r s → ∃ t, exec (.opCmpi n w) s = .next t ∧
      OpRan n 3 ({ r with pW := r.pW ++ [(bitsOf w 18 17, ccSpec (bitsOf w 21 19) (r.V (bitsOf w 16 12)) ((BitVec.ofNat 12 (bitsOf w 11 0)).signExtend 32))] }) s t) ∧
  (Executes n 3 6 w r s → ∃ t, exec (.opPset n w) s = .next t ∧
      OpRan n 3 ({ r with pW := r.pW ++ [(bitsOf w 18 17, w.getLsbD 16)] }) s t) ∧
  (Executes n 3 7 w r s → ∃ t, exec (.opPlog n w) s = .next t ∧
      OpRan n 3 ({ r with pW := r.pW ++ [(bitsOf w 19 18, match bitsOf w 21 20, nth false r.p (bitsOf w 17 16), nth false r.p (bitsOf w 15 14) with
      | 0, a, b => a && b
      | 1, a, b => a || b
      | 2, a, b => xor a b
      | _, a, b => a && !b)] }) s t) ∧
  (Executes n 3 8 w r s → ∃ t, exec (.opPsat n w) s = .next t ∧ OpRan n 3 ({ r with pW := r.pW ++ [(bitsOf w 18 17, r.sat)] }) s t) ∧
  (Skips n 3 2 w r s → ∃ t, exec (.opBr n w) s = .next t ∧ OpRan n 3 r s t) ∧
  (∀ m1, Skips n (mslot m1) 9 w r s → ∃ t, exec (.opAdd n m1 w) s = .next t ∧ OpRan n (mslot m1) r s t) ∧
  (Skips n 2 2 w r s → ∃ t, exec (.opStw n w) s = .next t ∧ OpRan n 2 r s t) ∧
  (s.domRun .tel = false ∨ s.bundleBad r = true →
    exec (.opEnd n w) s = .next s ∧ exec (.opAdd n false w) s = .next s ∧ exec (.opStw n w) s = .next s)

/-- From every state of the shape: a period start advances PCNT, regulates the bus as R319 says and writes each enabled account
the grant that R320 allocates it, with OVERLOAD, UNMET, CURTAIL, PREV and the sum; a removed account gets 0; with EN 0 the
engine stops. With a contingency request raised the period enters contingency, and with a valid table its grants are the
table's; after an accepted CLR it ends. Enabling starts the first period; a VBUS write makes the measurement fresh; account
enable and disable write their fields, an enabled account beginning with prev 0; FORCE raises a request unless contingency is
in force; CLR is taken, or refused while ISLAND or TRIP is raised, which
CONTSTAT shows as they stand; an account that is disabled at any time gets 0 in the next period. While CLK_FAB is stopped no period
starts. Only the engine, its page and its deposits change.
(13_settlement_and_mppt.md (R317, R319); 13_settlement_and_mppt.md (R320, R322, R323); 13_settlement_and_mppt.md (R326, R327);
13_settlement_and_mppt.md (R329)) -/
def Obligations.SettlementPeriodsAllocateTheBus : Prop :=
  ∀ s : State, s.Shaped →
  (s.domRun .fab = true → s.bit SETL.STAT 8 = true → s.en SETL.base = true → s.bit SETL.STAT 12 = false → s.setl.clr = false → s.contCauses = [] →
    ∃ t, exec .settlementPeriodStart s = .next t ∧ t.rd SETL.PCNT = s.rd SETL.PCNT + 1 ∧
    ∀ q, q = allocate (t.rd SETL.PBUS).toInt false false (s.acctsOn.map s.acct) →
    (∀ a ∈ q.1, t.rd (ACCT.PREF a.k) = toWord a.g ∧ nth 0 t.setl.prev a.k = a.g) ∧
    (∀ k, k < 16 → s.bit (ACCT.CFG k) 31 = false → s.setl.dropped.testBit k = true → t.rd (ACCT.PREF k) = 0 ∧ nth 0 t.setl.prev k = 0) ∧
    t.bit SETL.STAT 11 = decide (q.2 ≠ 0) ∧ t.bit SETL.STAT 10 = q.1.any Acct.moved ∧
    (∀ k, k < 16 → t.bit SETL.CURTAIL k = q.1.any (fun a => a.moved && a.k == k)) ∧
    t.rd (SETL.base + 0x78) = toWord (satN 32 (q.1.map Acct.g).sum) ∧ t.bit SETL.STAT 12 = false ∧ t.bit SETL.CONTSTAT 30 = true ∧
    (t.bit SETL.STAT 9 = true ↔ max (s.fld (SETL.base + 0x4C) 7 0) 1 ≤ s.setl.vbusAge) ∧
    (∀ e i : Int, e = (if t.bit SETL.STAT 9 then 0 else satN 32 ((s.rd SETL.VREF).toInt - (s.rd SETL.VBUS).toInt)) →
      i = (if t.bit SETL.STAT 9 || s.bit SETL.STAT 11 then (s.rd SETL.INTEG).toInt else
        clampI (-(s.fld (SETL.base + 0x58) 30 0 : Int)) (s.fld (SETL.base + 0x58) 30 0 : Int)
          ((s.rd SETL.INTEG).toInt + rnd ((s.rd (SETL.base + 0x54)).toNat * e) 31)) →
      t.rd SETL.INTEG = toWord i ∧ t.rd SETL.PBUS = toWord (satN 32 (rnd ((s.rd (SETL.base + 0x50)).toNat * e) 31 + i))) ∧
    (∀ d ∈ t.deps, d ∈ s.deps ∨ d.init = 48) ∧ RegsBut (inPage SETL.base) s t ∧
    t = { s with regs := t.regs, setl := t.setl, deps := t.deps, freeCtr := t.freeCtr }) ∧
  (s.domRun .fab = true → s.bit SETL.STAT 8 = true → s.en SETL.base = false → ∃ t, exec .settlementPeriodStart s = .next t ∧ t.bit SETL.STAT 8 = false ∧
    RegsBut (fun a => a = SETL.STAT) s t ∧ t = { s with regs := t.regs }) ∧
  (s.domRun .fab = true → s.bit SETL.STAT 8 = true → s.en SETL.base = true → s.bit SETL.STAT 12 = false → s.setl.clr = false → s.contCauses ≠ [] →
    ∃ t, exec .settlementPeriodStart s = .next t ∧ t.bit SETL.STAT 12 = true ∧ t.bit SETL.CONTSTAT 31 = true ∧
    t.bit (SETL.base + 0x14) 8 = true ∧ t.fld SETL.CONTSTAT 15 0 = min (s.fld SETL.CONTSTAT 15 0 + 1) 65535 ∧
    (s.contCauses = [1] → t.fld SETL.CONTSTAT 29 28 = 1) ∧ (s.contCauses = [2] → t.fld SETL.CONTSTAT 29 28 = 2) ∧
    (s.bit SETL.CONTSTAT 30 = true → ∀ k, k < 16 → s.bit (ACCT.CFG k) 31 = true →
      t.rd (ACCT.PREF k) = if s.setl.tabMask.testBit k then s.rd (ACCT.PCONT k) else 0) ∧
    RegsBut (inPage SETL.base) s t ∧ t = { s with regs := t.regs, setl := t.setl, deps := t.deps, freeCtr := t.freeCtr }) ∧
  (s.domRun .fab = true → s.bit SETL.STAT 8 = true → s.en SETL.base = true → s.bit SETL.STAT 12 = true → s.setl.clr = true → s.islandUp = false →
    s.tripUp = false → ∃ t, exec .settlementPeriodStart s = .next t ∧ t.bit SETL.STAT 12 = false ∧
    t.bit SETL.CONTSTAT 31 = false ∧ t.setl.force = false ∧ t.setl.clr = false ∧ t.bit (SETL.base + 0x14) 9 = true) ∧
  (∀ init, s.mustWait .fab SETL.base = false → s.en SETL.base = false → ∃ t, exec (.settlementEnable init) s = .next t ∧
    t.en SETL.base = true ∧ t.bit SETL.STAT 8 = true ∧ t.rd SETL.PCNT = 1 ∧ t.setl.vbusAge = 1 ∧ Accepted init (SETL.base + 0x0C) t ∧
    RegsBut (inPage SETL.base) s t ∧
    t = { s with regs := t.regs, setl := t.setl, deps := t.deps, freeCtr := t.freeCtr, bus := { s.bus with resp := t.bus.resp } }) ∧
  (∀ init data, s.mustWait .fab SETL.base = false → ∃ t, exec (.vbusWrite init data) s = .next t ∧ t.rd SETL.VBUS = data ∧
    t.setl.vbusAge = 0 ∧ Accepted init SETL.VBUS t ∧ RegsBut (fun a => a = SETL.VBUS) s t ∧
    t = { s with regs := t.regs, setl := { s.setl with vbusAge := 0 }, bus := { s.bus with resp := t.bus.resp } }) ∧
  (∀ init k data, k < 16 → s.mustWait .fab SETL.base = false → s.locked SETL.base = false → s.ver SETL.base ≠ 1 →
    ∃ t, exec (.accountEnable init k data) s = .next t ∧ t.bit (ACCT.CFG k) 31 = true ∧
    t.fld (ACCT.CFG k) 30 27 = bitsOf data 30 27 ∧ t.fld (ACCT.CFG k) 25 24 = bitsOf data 25 24 ∧
        t.fld (ACCT.CFG k) 22 20 = bitsOf data 22 20 ∧
    (s.bit (ACCT.CFG k) 31 = false → nth 0 t.setl.prev k = 0) ∧ (∀ j, j ≠ k → nth 0 t.setl.prev j = nth 0 s.setl.prev j) ∧
    Accepted init (ACCT.CFG k) t ∧ RegsBut (fun a => a = ACCT.CFG k) s t ∧
    (∀ j, t.setl.dropped.testBit j = (s.setl.dropped.testBit j && !(decide (j = k) && !s.bit (ACCT.CFG k) 31))) ∧
    t = { s with regs := t.regs, setl := { s.setl with prev := t.setl.prev, dropped := t.setl.dropped }, bus := { s.bus with resp := t.bus.resp } }) ∧
  (∀ init k data, k < 16 → s.mustWait .fab SETL.base = false → s.locked SETL.base = false → s.ver SETL.base ≠ 1 →
    ∃ t, exec (.accountDisable init k data) s = .next t ∧ t.bit (ACCT.CFG k) 31 = false ∧
    t.fld (ACCT.CFG k) 30 27 = bitsOf data 30 27 ∧ t.fld (ACCT.CFG k) 25 24 = bitsOf data 25 24 ∧
        t.fld (ACCT.CFG k) 22 20 = bitsOf data 22 20 ∧
    Accepted init (ACCT.CFG k) t ∧ RegsBut (fun a => a = ACCT.CFG k) s t ∧
    (∀ j, t.setl.dropped.testBit j = (s.setl.dropped.testBit j || (decide (j = k) && s.bit (ACCT.CFG k) 31))) ∧
    t = { s with regs := t.regs, setl := { s.setl with dropped := t.setl.dropped }, bus := { s.bus with resp := t.bus.resp } }) ∧
  (∀ init clr, s.mustWait .fab SETL.base = false → s.ver SETL.base ≠ 1 → ∃ t, exec (.contingencyForce init clr) s = .next t ∧
    t.setl = { s.setl with force := s.setl.force || !s.bit SETL.STAT 12 } ∧ Accepted init SETL.CONTCTL t ∧
    t = { s with setl := t.setl, bus := { s.bus with resp := t.bus.resp } }) ∧
  (∀ init, s.mustWait .fab SETL.base = false → s.islandUp = false → s.tripUp = false →
    ∃ t, exec (.contingencyClear init) s = .next t ∧ t.setl = { s.setl with clr := true } ∧ Accepted init SETL.CONTCTL t ∧
    t = { s with setl := t.setl, bus := { s.bus with resp := t.bus.resp } }) ∧
  (∀ init, s.mustWait .fab SETL.base = false → s.islandUp = true ∨ s.tripUp = true →
    ∃ t, exec (.contingencyClear init) s = .next t ∧ t.bit SETL.CONTSTAT 25 = true ∧ Refused init SETL.CONTCTL .refused t ∧
        t.setl = s.setl) ∧
  (∀ init sub tick, tb (s.regAccess init SETL.CONTSTAT 4 false 0 sub tick).bus.resp.data 27 = s.islandUp ∧
    tb (s.regAccess init SETL.CONTSTAT 4 false 0 sub tick).bus.resp.data 26 = s.tripUp) ∧
  (s.domRun .fab = false → exec .settlementPeriodStart s = .next s)

/-- For every bus power, mode and list of accounts whose static range holds 0 and whose ramp is not negative: after the allocation
the grants plus r are the bus power; every grant lies within the account's bounds, which lie within its static range; grid
accounts have grant 0 in contingency; balancing accounts are never marked moved; while r is positive every balancing account
stands at its upper bound, while r is negative at its lower bound; and no demand account below its base remains below it while
r is positive, none above it above while r is negative. (13_settlement_and_mppt.md (R320, R321); 13_settlement_and_mppt.md
(R315, R316)) -/
def Obligations.AllocationConservesPowerWithinItsBounds : Prop :=
  ∀ (pbus : Int) (cont first : Bool) (accts : List Acct),
  (∀ a ∈ accts, a.los ≤ 0 ∧ 0 ≤ a.his ∧ 0 ≤ a.ramp ∧ a.moved = false) →
    ((allocate pbus cont first accts).1.map Acct.g).sum + (allocate pbus cont first accts).2 = pbus ∧
    (allocate pbus cont first accts).1.map Acct.k = accts.map Acct.k ∧
    (∀ a ∈ (allocate pbus cont first accts).1, a.los ≤ a.lo ∧ a.lo ≤ a.g ∧ a.g ≤ a.hi ∧ a.hi ≤ a.his) ∧
    (∀ a ∈ (allocate pbus cont first accts).1, cont = true → a.grid = true → a.g = 0) ∧
    (∀ a ∈ (allocate pbus cont first accts).1, a.bal = true → a.moved = false) ∧
    (∀ a ∈ (allocate pbus cont first accts).1, a.prio < 8 → 0 < (allocate pbus cont first accts).2 →
      (a.bal = true → a.g = a.hi) ∧ (a.bal = false → a.base ≤ a.g)) ∧
    (∀ a ∈ (allocate pbus cont first accts).1, a.prio < 8 → (allocate pbus cont first accts).2 < 0 →
      (a.bal = true → a.g = a.lo) ∧ (a.bal = false → a.g ≤ a.base))

/-- From every state of the shape: enabling sets VREF to VMAX, clears the count and makes the channel due or starts its scan; a
sample joins the sums; a step without samples only counts, flags STALE and deposits; a tracking step moves VREF toward the
maximum as R334 says, records its point and PAVAIL; a curtailed step holds VREF, and the
first step after a hold only records its point, in a scan too; a scan step records the better point and
moves on, or ends the scan at the best; a due channel waits while another scans; every step queues its deposit. A deposit
whose target subscribes it is issued as one 16-byte slip when its port is free; otherwise it is skipped and flagged. While CLK_FAB is stopped no
step, scan timer or deposit acts.
(13_settlement_and_mppt.md (R332-R334); 13_settlement_and_mppt.md (R335, R336); 13_settlement_and_mppt.md (R337, R338, R340);
13_settlement_and_mppt.md (R324, R331)) -/
def Obligations.MpptTracksScansAndDeposits : Prop :=
  ∀ s : State, s.Shaped → (∀ k ∈ s.mp.due, k < 4) → ∀ m, m < 4 →
  (∀ init, s.mustWait .fab (MP.base m) = false → s.en (MP.base m) = false → ∃ t, exec (.mpptEnable init m) s = .next t ∧
    t.en (MP.base m) = true ∧ t.rd (MP.VREF m) = s.rd (MP.base m + 0x50) ∧ t.rd (MP.STEPCNT m) = 0 ∧
    (t.mpc m).n = 0 ∧ (t.mpc m).sumV = 0 ∧ (t.mpc m).sumI = 0 ∧ Accepted init (MP.base m + 0x0C) t ∧
    (s.mp.scanning = none → s.mp.due = [] → s.curtailed m = false → t.mp.scanning = some m ∧ t.mp.due = []) ∧
    (s.mp.scanning ≠ none → m ∉ s.mp.due → t.mp.scanning = s.mp.scanning ∧ t.mp.due = s.mp.due ++ [m]) ∧
    (∀ k, k ≠ m → (t.mpc k).sumV = (s.mpc k).sumV ∧ (t.mpc k).n = (s.mpc k).n) ∧
    RegsBut (fun a => ∃ k, k < 4 ∧ inPage (MP.base k) a) s t ∧
    t = { s with regs := t.regs, mp := t.mp, deps := t.deps, bus := { s.bus with resp := t.bus.resp } }) ∧
  (∀ init data, s.mustWait .fab (MP.base m) = false → s.en (MP.base m) = true → ∃ t, exec (.mpptSample init m data) s = .next t ∧
    t.rd (MP.base m + 0x44) = data ∧ Accepted init (MP.base m + 0x44) t ∧
    t.mpc m = { s.mpc m with sumV := (s.mpc m).sumV + (s.rd (MP.base m + 0x40)).toInt, sumI := (s.mpc m).sumI + data.toInt, n := (s.mpc m).n + 1 } ∧
    (∀ k, k ≠ m → t.mpc k = s.mpc k) ∧ RegsBut (fun a => a = MP.base m + 0x44) s t ∧
    t = { s with regs := t.regs, mp := { s.mp with ch := t.mp.ch }, bus := { s.bus with resp := t.bus.resp } }) ∧
  (∀ secs, s.domRun .fab = true → s.en (MP.base m) = true → s.mp.due = [] → (s.mpc m).n = 0 → ∃ t, exec (.mpptStep m secs) s = .next t ∧
    t.rd (MP.STEPCNT m) = s.rd (MP.STEPCNT m) + 1 ∧ t.rd (MP.VREF m) = s.rd (MP.VREF m) ∧ t.rd (MP.PAVAIL m) = s.rd (MP.PAVAIL m) ∧
    t.bit (MP.STAT m) 2 = true ∧ t.bit (MP.base m + 0x14) 2 = true ∧
    t.deps = s.deps ++ mkDeps 49 m (s.dests (MP.base m + 0x78) (MP.base m + 0x7C)) [t.rd (MP.VREF m), t.rd (MP.PAVAIL m), t.rd (MP.STEPCNT m),
      Word.ofNat (b2n (decide (t.mp.scanning = some m)) + 2 * b2n (t.mpc m).hold + 4 * b2n (decide (s.mpReg m 0x80 = s.mpVmin m)) +
        8 * b2n (decide (s.mpReg m 0x80 = s.mpVmax m)) + 16)] ∧
    RegsBut (inPage (MP.base m)) s t ∧ t = { s with regs := t.regs, mp := t.mp, deps := t.deps, freeCtr := t.freeCtr }) ∧
  (∀ secs, s.domRun .fab = true → s.en (MP.base m) = true → s.mp.due = [] → s.mp.scanning ≠ some m → s.curtailed m = false →
    (s.mpc m).hold = false → (s.mpc m).relock = false → 0 < (s.mpc m).n → tb (s.shown (MP.SCANCFG m)) 30 = false →
    ∀ v, v = meanOf (s.mpc m).sumV (s.mpc m).n → ∀ i, i = meanOf (s.mpc m).sumI (s.mpc m).n → ∀ p, p = rnd (v * i) 31 →
    ∀ dV, dV = v - (s.mpc m).vp → ∀ dI, dI = i - (s.mpc m).ip → dV ≠ 0 ∨ 0 ≤ s.mpReg m 0x60 →
    ∀ new, new = clampI (s.mpVmin m) (s.mpVmax m) (s.mpReg m 0x80 +
      if (dV.natAbs : Int) ≤ s.mpReg m 0x60 then (if (dI.natAbs : Int) ≤ s.mpReg m 0x64 then 0 else dI.sign) * s.mpReg m 0x54
      else (fun q : Int => (if (q.natAbs : Int) ≤ s.mpReg m 0x68 then 0 else q.sign) *
        clampI (s.mpReg m 0x54) (s.mpReg m 0x58) (rnd (s.mpReg m 0x5C * q.natAbs) 31))
        (satN 32 (Int.tdiv ((p - (s.mpc m).pp) * 2 ^ 31) dV))) →
    ∃ t, exec (.mpptStep m secs) s = .next t ∧ t.rd (MP.VREF m) = toWord new ∧
    (t.mpc m).vp = v ∧ (t.mpc m).ip = i ∧ (t.mpc m).pp = p ∧ (t.mpc m).n = 0 ∧ (t.mpc m).sumV = 0 ∧ (t.mpc m).sumI = 0 ∧
    (rnd (p * (s.rd (MP.base m + 0x74)).toNat) 31 < 2 ^ 31 →
      t.rd (MP.PAVAIL m) = toWord (max 0 (rnd (p * (s.rd (MP.base m + 0x74)).toNat) 31))) ∧
    (new ≠ s.mpReg m 0x80 → new = s.mpVmin m ∨ new = s.mpVmax m → t.bit (MP.base m + 0x14) 3 = true) ∧
    (∀ k, k ≠ m → t.mpc k = s.mpc k) ∧ RegsBut (inPage (MP.base m)) s t ∧
    t = { s with regs := t.regs, mp := t.mp, deps := t.deps, freeCtr := t.freeCtr }) ∧
  (∀ secs, s.domRun .fab = true → s.en (MP.base m) = true → s.mp.due = [] → s.curtailed m = true → 0 < (s.mpc m).n →
      ∃ t, exec (.mpptStep m secs) s = .next t ∧
    t.rd (MP.VREF m) = s.rd (MP.VREF m) ∧ (t.mpc m).hold = true ∧ (t.mpc m).n = 0 ∧ t.fld (MP.SCANSTAT m) 31 30 = 3 ∧
    RegsBut (inPage (MP.base m)) s t) ∧
  (∀ secs, s.domRun .fab = true → s.en (MP.base m) = true → s.mp.due = [] → s.mp.scanning = some m → s.curtailed m = false →
    (s.mpc m).hold = false → (s.mpc m).relock = false → 0 < (s.mpc m).n → ∀ v, v = meanOf (s.mpc m).sumV (s.mpc m).n →
    ∀ i, i = meanOf (s.mpc m).sumI (s.mpc m).n → ∀ p, p = rnd (v * i) 31 →
    dwellOf (s.rd (MP.SCANCFG m)) ≤ (s.mpc m).dwell + 1 → ∃ t, exec (.mpptStep m secs) s = .next t ∧ ∀ b,
    b = betterPoint (s.mpc m).best { j := s.fld (MP.SCANSTAT m) 21 16, v := v, i := i, p := p } →
    (s.fld (MP.SCANSTAT m) 21 16 + 1 < nptsOf (s.rd (MP.SCANCFG m)) → t.mp.scanning = some m ∧ (t.mpc m).best = some b ∧
      t.fld (MP.SCANSTAT m) 21 16 = s.fld (MP.SCANSTAT m) 21 16 + 1 ∧
      t.rd (MP.VREF m) = toWord (s.scanPoint m (s.fld (MP.SCANSTAT m) 21 16 + 1))) ∧
    (nptsOf (s.rd (MP.SCANCFG m)) ≤ s.fld (MP.SCANSTAT m) 21 16 + 1 → t.mp.scanning = none ∧
        t.rd (MP.VREF m) = toWord (s.scanPoint m b.j) ∧
      (t.mpc m).vp = b.v ∧ (t.mpc m).ip = b.i ∧ (t.mpc m).pp = b.p ∧ t.bit (MP.base m + 0x14) 4 = true)) ∧
  (∀ secs, s.domRun .fab = true → s.en (MP.base m) = true → s.mp.due = [] → s.curtailed m = false →
    (s.mpc m).hold = true ∨ (s.mpc m).relock = true → 0 < (s.mpc m).n → ∃ t, exec (.mpptStep m secs) s = .next t ∧
    (t.mpc m).vp = meanOf (s.mpc m).sumV (s.mpc m).n ∧ (t.mpc m).ip = meanOf (s.mpc m).sumI (s.mpc m).n ∧
    (t.mpc m).pp = rnd ((t.mpc m).vp * (t.mpc m).ip) 31 ∧ t.rd (MP.VREF m) = s.rd (MP.VREF m) ∧
    t.rd (MP.PAVAIL m) = s.rd (MP.PAVAIL m) ∧ t.mp.scanning = s.mp.scanning ∧ (t.mpc m).best = (s.mpc m).best ∧
    (t.mpc m).relock = false ∧ RegsBut (inPage (MP.base m)) s t) ∧
  (s.domRun .fab = true → s.en (MP.base m) = true → s.bit (MP.SCANCFG m) 31 = true → s.mp.scanning ≠ some m → m ∉ s.mp.due →
    ∃ t, exec (.scanTimerDue m) s = .next t ∧ (s.mp.scanning ≠ none → t.mp.due = s.mp.due ++ [m] ∧ t.bit (MP.STAT m) 11 = true) ∧
    (s.mp.scanning = none → s.mp.due = [] → s.curtailed m = false → t.mp.scanning = some m ∧ t.mp.due = [] ∧
      t.rd (MP.VREF m) = s.rd (MP.base m + 0x50) ∧ t.bit (MP.STAT m) 9 = true) ∧
    RegsBut (fun a => ∃ k, k < 4 ∧ inPage (MP.base k) a) s t ∧ t = { s with regs := t.regs, mp := t.mp, deps := t.deps }) ∧
  (∀ init, s.mustWait .fab (MP.base m) = false → s.ver (MP.base m) ≠ 1 → s.en (MP.base m) = true → m ∉ s.mp.due →
    ∃ t, exec (.scanRequest init m) s = .next t ∧ Accepted init (MP.base m + 0x90) t ∧
    (s.mp.scanning ≠ none → t.mp.due = s.mp.due ++ [m]) ∧
    (s.mp.scanning = none → s.mp.due = [] → s.curtailed m = false → t.mp.scanning = some m ∧
        t.rd (MP.VREF m) = s.rd (MP.base m + 0x50)) ∧
    RegsBut (fun a => ∃ k, k < 4 ∧ inPage (MP.base k) a) s t ∧
    t = { s with regs := t.regs, mp := t.mp, deps := t.deps, bus := { s.bus with resp := t.bus.resp } }) ∧
  (∀ init cycle d, s.deps.find? (fun d => d.init == init && s.depReady d) = some d → s.domRun .fab = true → (∀ q ∈ s.fab.stalled, q.init ≠ init) →
    s.instEn d.n d.i = true → s.bit (INST.SUB d.n d.i) (16 + d.d) = true → s.takeCoin init ≠ none →
    ∃ t, exec (.engineDeposit init cycle) s = .next t ∧
    Issued
      { init := init, addr := s.depositAddr d.n d.i d.d, write := true, cycle := cycle, sub := d.sub,
        bytes := d.words.flatMap (fun w => leBytes 4 w.toNat) }
      { s with deps := s.deps.erase d } t) ∧
  (∀ init cycle d, s.deps.find? (fun d => d.init == init && s.depReady d) = some d → s.domRun .fab = true →
    s.instEn d.n d.i = false ∨ s.bit (INST.SUB d.n d.i) (16 + d.d) = false → ∃ t, exec (.engineDeposit init cycle) s = .next t ∧
    t.deps = s.deps.erase d ∧ t.bit (depPage init d.sub + 0x10) 1 = true ∧
    RegsBut (fun a => a = depPage init d.sub + 0x10 ∨ a = depPage init d.sub + 0x14) s t ∧
    t = { s with regs := t.regs, deps := t.deps }) ∧
  (∀ secs init cycle, s.domRun .fab = false → exec (.mpptStep m secs) s = .next s ∧ exec (.scanTimerDue m) s = .next s ∧
    exec (.engineDeposit init cycle) s = .next s)

/-- From every state: a write to IC makes the six registers one fresh sample; enabling with scales set runs the first step, with a
zero scale it is refused; a step with a sample takes it, counts, holds the frequency while the voltage is below the lock
threshold, sets the zone from the ride-through voltage, TRIP and ISLAND and deposits its four words; one without counts as
stale, advances the angle and what the rules count in steps or time (stage timers, the excursion), holds its measures and deposits; accepted clears and tables take effect at the step's start. Fifty stale steps force
the references to no current; 25 steps of reversed sequence and the lock conditions set and clear SYNC; a fast dip is declared
and an excursion ends. Nothing of it happens
while CLK_FAB is stopped. Only the engine, its pages, its deposits and what the settlement engine sees of it change.
(14_grid_engine.md (R341, R342); 14_grid_engine.md (R345, R346, R348); 14_grid_engine.md (R353, R354); 14_grid_engine.md
(R356-R358, R366, R369)) -/
def Obligations.GridEngineStepsOnItsSamples : Prop :=
  ∀ s : State,
  (∀ init data, s.mustWait .fab GSYNC.base = false → ∃ t, exec (.gridSample init data) s = .next t ∧ t.rd GSYNC.IC = data ∧
    t.grid = { s.grid with smp := (List.range 6).map (fun k => t.rd (GSYNC.VA + 4 * k)), fresh := true } ∧ Accepted init GSYNC.IC t ∧
    RegsBut (fun a => a = GSYNC.IC) s t ∧ t = { s with regs := t.regs, grid := t.grid, bus := { s.bus with resp := t.bus.resp } }) ∧
  (∀ init age, s.mustWait .fab GSYNC.base = false → s.en GSYNC.base = false → s.fld GSYNC.SCALE 31 16 ≠ 0 →
      s.fld GSYNC.SCALE 15 0 ≠ 0 →
    s.fld GSYNC.NOM 31 16 ≠ 0 → s.fld GSYNC.NOM 15 0 ≠ 0 → ∃ t, exec (.gridEnable init age) s = .next t ∧ t.en GSYNC.base = true ∧
    t.bit GSYNC.STAT 8 = true ∧ t.bit GSYNC.STAT 9 = false ∧ t.rd GSYNC.STEPCNT = 1 ∧ t.grid.fresh = false ∧
    Accepted init (GSYNC.base + 0x0C) t ∧ GridFrame { s with bus := t.bus } t ∧ t.bus = { s.bus with resp := t.bus.resp }) ∧
  (∀ init age, s.mustWait .fab GSYNC.base = false → s.fld GSYNC.SCALE 31 16 = 0 ∨ s.fld GSYNC.NOM 15 0 = 0 →
    ∃ t, exec (.gridEnable init age) s = .next t ∧ Refused init (GSYNC.base + 0x0C) .refused t ∧ t.grid = s.grid ∧
    t.en GSYNC.base = s.en GSYNC.base) ∧
  (∀ age, s.domRun .fab = true → s.en GSYNC.base = true → s.grid.fresh = true → ∃ t, exec (.gridStep age) s = .next t ∧
    t.rd GSYNC.STEPCNT = s.rd GSYNC.STEPCNT + 1 ∧ t.grid.fresh = false ∧ t.grid.stale = 0 ∧ t.grid.age = age ∧
        t.grid.smp = s.grid.smp ∧
    t.bit GSYNC.STAT 11 = false ∧ t.bit GSYNC.STAT 10 = !fLe (pu (s.fld GSYNC.LOCKCFG 31 16)) (fDiv t.grid.vpos s.uBase) ∧
    (t.bit GSYNC.STAT 10 = true → t.grid.w = s.grid.w ∧ t.rd GSYNC.VSHIFT = 0) ∧
    t.fld GFRT.STAT 12 11 = (if t.tripped then 3 else t.zoneOf) ∧
    (2 ≤ t.fld GFRT.STAT 12 11 → RefsZero s t ∧ t.bit GISL.STAT 11 = false) ∧
    (∀ d ∈ t.deps, d ∈ s.deps ∨ (d.init = 50 ∧ d.words.length = 4 ∧ nth 0 d.words 1 = t.rd (GSYNC.base + 0x98) ∧
      nth 0 d.words 2 = t.rd (GSYNC.base + 0x9C) ∧ tb (nth 0 d.words 3) 4 = t.bit GFRT.STAT 10 ∧
          tb (nth 0 d.words 3) 5 = t.bit GISL.STAT 12)) ∧
    GridFrame s t) ∧
  (∀ age, s.domRun .fab = true → s.en GSYNC.base = true → s.grid.fresh = false → s.grid.apply = false → ∃ t, exec (.gridStep age) s = .next t ∧
    t.rd GSYNC.STEPCNT = s.rd GSYNC.STEPCNT + 1 ∧ t.grid.stale = s.grid.stale + 1 ∧
    t.rd GSYNC.THETA = s.rd GSYNC.THETA + turnsOf (s.free 0) s.grid.w stepT ∧
    (s.grid.clrTrip = true → s.bit GFRT.STAT 9 = false → t.tripUp = false) ∧ (s.grid.clrIsl = true → t.islandUp = false) ∧
    (s.grid.clrTrip = false → s.bit GFRT.STAT 9 = false → t.tripUp = s.tripUp) ∧ t.grid.clrTrip = false ∧ t.grid.clrIsl = false ∧
    t.rd GSYNC.FREQ = s.rd GSYNC.FREQ ∧ t.grid.w = s.grid.w ∧ t.grid.ufrt = s.grid.ufrt ∧
    (∀ a, a ∈ [GSYNC.base + 0x88, GSYNC.base + 0x8C, GFRT.base + 0x78] → t.rd a = s.rd a) ∧
    (∀ j, j < 16 → nth 0 t.grid.timers j =
      if s.stageOn j = true ∧ 8 ≤ j ∧ (s.bit GSYNC.STAT 10 = true ∨ s.bit GSYNC.STAT 11 = true) then nth 0 s.grid.timers j
      else if s.pickedUp j = true then nth 0 s.grid.timers j + 1 else 0) ∧
    (s.bit GFRT.STAT 9 = true → t.grid.exSteps = s.grid.exSteps + 1 ∧
      ((s.grid.exSteps + 1) / 50 < 2 ^ 32 → (t.rd (GFRT.base + 0x7C)).toNat = (s.grid.exSteps + 1) / 50)) ∧ GridFrame s t) ∧
  (∀ age, s.domRun .fab = true → s.en GSYNC.base = true → s.grid.apply = true → s.fld GTAB.TABSTAT 15 0 ≠ 65535 → ∃ t, exec (.gridStep age) s = .next t ∧
    (∀ k, k < 64 → t.rd (GTAB.base + 0x500 + 4 * k) = s.rd (GTAB.base + 0x100 + 4 * k)) ∧ t.rd (GTAB.base + 0x448) = s.rd GTAB.MODE ∧
    t.grid.apply = false ∧ t.bit GTAB.TABSTAT 31 = false ∧ t.fld GTAB.TABSTAT 15 0 = s.fld GTAB.TABSTAT 15 0 + 1 ∧ GridFrame s t) ∧
  (∀ age, s.en GSYNC.base = false → exec (.gridStep age) s = .next s) ∧
  (s.domRun .fab = true → s.en GSYNC.base = true → 50 ≤ s.grid.stale → s.bit GSYNC.STAT 11 = false → ∃ t, exec .gridInputLoss s = .next t ∧
    t.bit GSYNC.STAT 11 = true ∧ t.bit (GSYNC.base + 0x14) 2 = true ∧ t.bit GSYNC.STAT 9 = false ∧ t.ceased = true ∧ RefsZero s t ∧
    (s.bit GSYNC.STAT 9 = true → t.bit (GSYNC.base + 0x14) 0 = true) ∧ GridFrame s t) ∧
  (s.domRun .fab = true → s.en GSYNC.base = true → 25 ≤ s.grid.seq → s.bit GSYNC.STAT 12 = false → ∃ t, exec .sequenceError s = .next t ∧
    t.bit GSYNC.STAT 12 = true ∧ t.bit (GSYNC.base + 0x14) 1 = true ∧ t.bit GSYNC.STAT 9 = false ∧ t.grid.lock = 0 ∧ t.grid.rocofN = 0 ∧ t.grid.vsN = 0 ∧ t.grid.es = 0 ∧ GridFrame s t) ∧
  (s.domRun .fab = true → s.en GSYNC.base = true → s.bit GSYNC.STAT 9 = false → 0 < s.grid.lock → s.fld GSYNC.LOCKCFG 7 0 * 50 ≤ s.grid.lock →
    s.freqWindow = some true →
    ∃ t, exec .gridSyncSet s = .next t ∧ t.bit GSYNC.STAT 9 = true ∧ GridFrame s t) ∧
  (s.domRun .fab = true → s.en GSYNC.base = true → s.grid.dip = false → max (s.fld GFRT.CFG 15 8) 1 ≤ s.grid.dipN → s.en GFRT.base = true →
    ∃ t, exec .fastDipDetect s = .next t ∧ t.grid.dip = true ∧ 0 < t.fld GFRT.STAT 12 11 ∧ t.bit GFRT.STAT 9 = true ∧ GridFrame s t) ∧
  (s.domRun .fab = true → s.en GSYNC.base = true → s.bit GFRT.STAT 9 = true → s.fld GFRT.STAT 12 11 = 0 → s.fld (GFRT.base + 0x58) 15 0 * 50 ≤ s.grid.cont →
    ∃ t, exec .excursionEnd s = .next t ∧ t.bit GFRT.STAT 9 = false ∧ t.bit (GFRT.base + 0x14) 2 = true ∧
    RegsBut (fun a => a = GFRT.STAT ∨ a = GFRT.base + 0x14) s t ∧ t = { s with regs := t.regs }) ∧
  (s.domRun .fab = false → ∀ age, exec (.gridStep age) s = .next s ∧ exec .gridInputLoss s = .next s ∧ exec .sequenceError s = .next s ∧
    exec .gridSyncSet s = .next s ∧ exec .fastDipDetect s = .next s ∧ exec .excursionEnd s = .next s)

/-- From every state in which the engine runs: a stage whose clearing time has passed raises TRIP with cause 3, or ISLAND with
cause 4 where the stage says so; ROCOF and the vector shift, while SYNC is 1, and NCONF windows in a row with |Z_h| above ZTH raise
ISLAND with causes 2, 3 and 1;
each raises its interrupt, shows in the settlement engine, makes the zone trip and the references those of no current. A probe
window ends with its impedance registers, its count of high windows and its interrupt. A clear is taken when the enter-service
conditions have held, else refused and flagged; an APPLY is taken when the tables pass, else refused with the first failure.
Only the engine, its pages, its deposits and what the settlement engine sees change. (14_grid_engine.md (R360, R361);
14_grid_engine.md (R363, R364); 14_grid_engine.md (R365, R366); 14_grid_engine.md (R369)) -/
def Obligations.GridProtectionRaisesAndClearsItsFlags : Prop :=
  ∀ s : State,
  (∀ j, j < 16 → s.domRun .fab = true → s.en GSYNC.base = true → s.stageOn j = true → s.fld (stageAt j + 4) 19 0 * 50 < nth 0 s.grid.timers j →
    s.bit (stageAt j) 30 = true → s.bit GISL.STAT 12 = false → ∃ t, exec (.gridStageAct j) s = .next t ∧ IslandRaised 4 s t) ∧
  (∀ j, j < 16 → s.domRun .fab = true → s.en GSYNC.base = true → s.stageOn j = true → s.fld (stageAt j + 4) 19 0 * 50 < nth 0 s.grid.timers j →
    s.bit (stageAt j) 30 = false → s.bit GFRT.STAT 10 = false → ∃ t, exec (.gridStageAct j) s = .next t ∧
    t.bit GFRT.STAT 10 = true ∧ t.fld GFRT.STAT 7 5 = 3 ∧ t.bit (GFRT.base + 0x14) 0 = true ∧ t.tripUp = true ∧
    t.fld GFRT.STAT 12 11 = 3 ∧ RefsZero s t ∧ GridFrame s t) ∧
  (s.domRun .fab = true → s.en GSYNC.base = true → s.en GISL.base = true → s.bit GSYNC.STAT 9 = true → s.bit GISL.CFG 30 = true → 0 < s.grid.rocofN →
    s.fld (GISL.base + 0x44) 7 0 * 500 ≤ s.grid.rocofN → s.bit GISL.STAT 12 = false →
    ∃ t, exec .rocofIsland s = .next t ∧ IslandRaised 2 s t) ∧
  (s.domRun .fab = true → s.en GSYNC.base = true → s.en GISL.base = true → s.bit GSYNC.STAT 9 = true → s.bit GISL.CFG 29 = true → s.ver GISL.base ≠ 1 → 0 < s.grid.vsN →
    s.fld (GISL.base + 0x48) 7 0 ≤ s.grid.vsN → s.bit GISL.STAT 12 = false →
    ∃ t, exec .vectorShiftIsland s = .next t ∧ IslandRaised 3 s t) ∧
  (s.bit GSYNC.STAT 9 = false → exec .rocofIsland s = .next s ∧ exec .vectorShiftIsland s = .next s) ∧
  (s.domRun .fab = true → s.en GSYNC.base = true → 0 < s.grid.accN → s.probeSteps ≤ s.grid.accN →
    ∃ t, exec .probeWindowEnd s = .next t ∧ t.bit (GISL.base + 0x14) 1 = true ∧ (s.en GISL.base = false → t.grid.accN = 0) ∧
    GridFrame s t ∧
    ∀ z, z = negQuot (fMul (fDiv (nth 0 s.grid.acc 0) (fInt s.grid.accN)) s.vFs) (fMul (fDiv (nth 0 s.grid.acc 1) (fInt s.grid.accN)) s.vFs)
      (fMul (fDiv (nth 0 s.grid.acc 2) (fInt s.grid.accN)) s.iFs) (fMul (fDiv (nth 0 s.grid.acc 3) (fInt s.grid.accN)) s.iFs) →
    ∀ zm, zm = fMul (hypot z.1 z.2) (fInt 1000) →
    ∀ h, h = (if fLt (fInt (s.rd (GISL.base + 0x54)).toNat) zm then s.grid.high + 1 else 0) →
    t.rd (GISL.base + 0x58) = Word.ofNat (fToInt (s.free 18) zm 0 0 (2 ^ 32 - 1)).toNat ∧
    (s.en GISL.base = true → s.nConf ≤ h → t.grid.high = 0 ∧ (s.bit GISL.STAT 12 = false → IslandRaised 1 s t)) ∧
    (h < s.nConf ∨ s.en GISL.base = false → t.grid.high = h ∧ t.bit GISL.STAT 12 = s.bit GISL.STAT 12 ∧
      RegsBut (fun a => a ∈ [GISL.base + 0x14, GISL.base + 0x58, GISL.base + 0x5C]) s t)) ∧
  (∀ init, s.mustWait .fab GFRT.base = false → s.bit GSYNC.STAT 9 = false → ∃ t, exec (.tripFlagClear init) s = .next t ∧
    Refused init (GFRT.base + 0x74) .refused t ∧ t.grid = s.grid) ∧
  (∀ init, s.mustWait .fab GFRT.base = false → s.enterHeld = true → ∃ t, exec (.tripFlagClear init) s = .next t ∧
    t.grid = { s.grid with clrTrip := true } ∧ Accepted init (GFRT.base + 0x74) t ∧
    t = { s with grid := t.grid, bus := { s.bus with resp := t.bus.resp } }) ∧
  (∀ init, s.mustWait .fab GFRT.base = false → s.enterHeld = false → ∃ t, exec (.tripFlagClear init) s = .next t ∧
    Refused init (GFRT.base + 0x74) .refused t ∧ t.bit GFRT.STAT 0 = true ∧ t.bit (GFRT.base + 0x14) 3 = true ∧
    t.bit GFRT.STAT 10 = s.bit GFRT.STAT 10 ∧ t.grid = s.grid) ∧
  (∀ init, s.mustWait .fab GISL.base = false → s.enterHeld = true → ∃ t, exec (.islandFlagClear init) s = .next t ∧
    t.grid = { s.grid with clrIsl := true } ∧ Accepted init (GISL.base + 0x60) t ∧
    t = { s with grid := t.grid, bus := { s.bus with resp := t.bus.resp } }) ∧
  (∀ init, s.mustWait .fab GISL.base = false → s.enterHeld = false → ∃ t, exec (.islandFlagClear init) s = .next t ∧
    Refused init (GISL.base + 0x60) .refused t ∧ t.bit GISL.STAT 0 = true ∧ t.bit (GISL.base + 0x14) 2 = true ∧
    t.bit GISL.STAT 12 = s.bit GISL.STAT 12 ∧ t.grid = s.grid) ∧
  (∀ init, s.mustWait .fab GTAB.base = false → s.tableErr = 0 → ∃ t, exec (.tableApply init) s = .next t ∧
    t.grid = { s.grid with apply := true } ∧ t.bit GTAB.TABSTAT 31 = true ∧ Accepted init (GTAB.base + 0x40) t ∧
    RegsBut (fun a => a = GTAB.TABSTAT) s t ∧
        t = { s with regs := t.regs, grid := t.grid, bus := { s.bus with resp := t.bus.resp } }) ∧
  (∀ init, s.mustWait .fab GTAB.base = false → s.tableErr ≠ 0 → ∃ t, exec (.tableApply init) s = .next t ∧
    t.fld GTAB.TABSTAT 23 16 = s.tableErr ∧ Refused init (GTAB.base + 0x40) .refused t ∧ t.grid = s.grid)

/-- From every state of the shape: the modulator words of a sample pass every channel's filters and correction, and the samples that
leave them join the cycle's and the block's sums with v_H; an admitted inlet sample adds its rounded quantum to the register of its
direction and to no other; a channel that is off yields 0. A cycle ends only where the source's fundamental crosses zero upward, or
after its fixed length without a source; its end adds each admitted phase's and the total's active energy to the register of its
direction, times the cycle by its interpolated crossing and names the next source. A block's end publishes its means and starts anew,
before anything more is measured; a pulse goes low, rests and the next owed one starts; a commit and a brown-out leave the registers
in the newest copy, and a start takes them from the newest valid copy; a bad clock window suspends metrology, a third good one
resumes it. While Meloskern does not run or metrology is suspended, nothing is measured. Nothing outside Meloskern, Nightwatch and the
free values changes. The widths of the path and its opaque taps are DESIGN CHOICE (notes/assumptions/95.md).
(15_meloskern_measurement.md (R372, R373, R376-R378, R380); 15_meloskern_measurement.md (R381-R384); 15_meloskern_measurement.md
(R390, R392); 15_meloskern_measurement.md (R394, R395)) -/
def Obligations.MeterCountsEnergyExactlyAndKeepsIt : Prop :=
  ∀ s : State, s.Shaped →
  (∀ mods clip, s.melo.running = true → s.suspended = false → s.acDue = false → s.dcDue = false →
    ∃ t, exec (.metrologySample mods clip) s = .next t ∧
    t.melo.cycN = s.melo.cycN + 1 ∧ t.melo.blkN = s.melo.blkN + 1 ∧ t.melo.dcN = s.melo.dcN + 1 ∧
    (∀ c, c < 15 → t.chan c = (s.chan c).metrology (s.correction c) (nth [] mods c)) ∧
    (∀ x, x < 3 → nth {} t.melo.cyc x = (nth {} s.melo.cyc x).add (t.meterWord x 63) (t.hilbert x) (t.meterWord (3 + x) 63)
      (s.chScale x * s.chScale (3 + x))) ∧
    (∀ p, p < 4 → nth [] t.melo.hist p = (t.meterWord (11 + p) 0).natAbs :: (nth [] s.melo.hist p).take 63) ∧
    (∀ k, k < 24 → t.energy k = s.energy k) ∧
    (∀ p d, p < 4 → d < 2 → ∀ q, q = rdiv (s.inletPower p (t.meterWord (7 + p) 0) (t.meterWord (11 + p) 0)) (2880000000000000 * 2 ^ 30) →
      t.energy (24 + 2 * p + d) = s.energy (24 + 2 * p + d) +
        (if t.dcAdmits p && (d == b2n (decide (s.inletPower p (t.meterWord (7 + p) 0) (t.meterWord (11 + p) 0) < 0))) then q.natAbs else 0)) ∧
    t.melo.recs = s.melo.recs ∧ t = { s with melo := t.melo }) ∧
  (∀ c d, s.chanOn c = false → s.meterWord c d = 0) ∧
  (∀ mods clip, s.melo.running = true → s.suspended = false → ∃ t, exec (.metrologySample mods clip) s = .next t ∧
    exec (.metrologySample mods clip) s.endBlocks = .next t) ∧
  (∀ mods clip, s.melo.running = false ∨ s.suspended = true → exec (.metrologySample mods clip) s = .next s) ∧
  (∀ y0 y1, s.melo.running = true → s.suspended = false → s.acDue = false → s.dcDue = false → s.melo.cycN ≠ 0 →
    (s.melo.src = 3 ∧ s.melo.cycN = s.fixedLength) ∨ (s.melo.src ≠ 3 ∧ y0.toInt < 0 ∧ 0 ≤ y1.toInt) →
    ∃ t, exec (.acCycleEnd y0 y1) s = .next t ∧ t.melo.cycN = 0 ∧ t.melo.cyc = List.replicate 3 {} ∧
    t.melo.blkCyc = s.melo.blkCyc + 1 ∧ t.melo.src = s.cycleSource ∧ t.mfld 0x40C01004 31 30 = s.cycleSource ∧
    (s.melo.src ≠ 3 → t.melo.cycFrac = y0.toInt.natAbs * 2 ^ 20 / (y0.toInt.natAbs + y1.toInt.natAbs)) ∧
    (s.melo.src = 3 → t.melo.cycFrac = s.melo.cycFrac ∧ t.melo.fixK = (s.melo.fixK + 1) % 3) ∧
    (s.melo.cycFrac ≤ s.melo.cycN * 2 ^ 20 →
      t.melo.blkT = s.melo.blkT + (s.melo.cycN * 2 ^ 20 + t.melo.cycFrac - s.melo.cycFrac)) ∧
    (∀ x d, x < 3 → d < 2 → t.energy (6 * x + d) = s.energy (6 * x + d) +
      (if s.acAdmits x && (d == b2n (decide ((nth {} s.melo.cyc x).ep < 0))) then (nth {} s.melo.cyc x).ep.natAbs else 0)) ∧
    (∀ d, d < 2 → ∀ tot, tot = (((List.range 3).filter s.acAdmits).map (fun x => (nth ({} : AcSum) s.melo.cyc x).ep)).sum →
      t.energy (18 + d) = s.energy (18 + d) +
        (if (List.range 3).any s.acAdmits && (d == b2n (decide (tot < 0))) then tot.natAbs else 0)) ∧
    (∀ k, 24 ≤ k → k < 32 → t.energy k = s.energy k) ∧ t = { s with melo := t.melo }) ∧
  (∀ y0 y1, s.melo.src = 3 ∧ s.melo.cycN ≠ s.fixedLength ∨ s.melo.src ≠ 3 ∧ (0 ≤ y0.toInt ∨ y1.toInt < 0) →
    exec (.acCycleEnd y0 y1) s = .next s) ∧
  (∀ n, n < 5 → nth 0 s.melo.pulse n = 1 → ∃ t, exec (.pulseWidthEnd n) s = .next t ∧ nth 0 t.melo.pulse n = 2 ∧
    t.melo.owed = s.melo.owed ∧ (∀ m, m ≠ n → nth 0 t.melo.pulse m = nth 0 s.melo.pulse m) ∧
        t = { s with melo := { s.melo with pulse := t.melo.pulse } }) ∧
  (∀ n, n < 5 → nth 0 s.melo.pulse n = 2 → ∃ t, exec (.pulseWidthEnd n) s = .next t ∧
    (nth 0 t.melo.pulse n = 1 ↔ s.melo.running = true ∧ s.suspended = false ∧ s.mbit (MELO.PULSE n) 31 = true ∧
        nth 0 s.melo.owed n ≠ 0) ∧
    (nth 0 t.melo.pulse n = 1 → nth 0 t.melo.owed n + 1 = nth 0 s.melo.owed n) ∧ (nth 0 t.melo.pulse n ≠ 1 →
        nth 0 t.melo.pulse n = 0 ∧
      t.melo.owed = s.melo.owed) ∧ t = { s with melo := { s.melo with pulse := t.melo.pulse, owed := t.melo.owed } }) ∧
  (∀ temp, s.melo.running = true → s.suspended = false → (if s.mbit MELO.MCFG 0 then 12 else 10) ≤ s.melo.blkCyc →
      s.melo.blkN ≠ 0 →
    ∃ t, exec (.meterBlockEnd true temp) s = .next t ∧ t.melo.blkN = 0 ∧ t.melo.blkCyc = 0 ∧
        t.melo.blk = List.replicate 3 {} ∧
    (∀ x, x < 3 → t.mrd (MELO.AC x 2) = BitVec.ofInt 32
      (rdiv ((nth {} s.melo.blk x).vi * (s.chScale x * s.chScale (3 + x) : Nat)) (s.melo.blkN * 2 ^ 62 * 10 ^ 6))) ∧
    t.mrd (MELO.AC 3 2) = t.mrd (MELO.AC 0 2) + t.mrd (MELO.AC 1 2) + t.mrd (MELO.AC 2 2) ∧
    t.mrd 0x40C0100C = s.mrd 0x40C0100C + 1 ∧ t.mfld 0x40C01004 19 0 = s.blockFreq % 2 ^ 20 ∧ (∀ k, t.energy k = s.energy k) ∧ t = { s with melo := t.melo, freeCtr := t.freeCtr }) ∧
  (∀ temp, s.melo.running = true → s.suspended = false → 1600 ≤ s.melo.dcN → ∃ t,
    exec (.meterBlockEnd false temp) s = .next t ∧ t.melo.dcN = 0 ∧ t.melo.dc = List.replicate 4 {} ∧
    (∀ p, p < 4 → t.mrd (MELO.DC p 3) = BitVec.ofInt 32 (rdiv (nth {} s.melo.dc p).pv (s.melo.dcN * 2 ^ 62 * 10 ^ 14))) ∧
    (∀ k, t.energy k = s.energy k) ∧ t = { s with melo := t.melo }) ∧
  (∀ dt ok, s.melo.running = true → ∃ t, exec (.mramCommit dt ok) s = .next t ∧ t.melo.newest.1.legal = s.melo.legal ∧
    t.melo.newest.1.res = s.melo.res ∧ t.melo.newest.1.acc = s.melo.acc ∧ t.melo.newest.1.valid = ok ∧ t.melo.legal = s.melo.legal ∧
    (s.nw.alive = true → t.nw.rtc = s.nw.rtc + dt ∧ t.nw.rtcMram = t.nw.rtc) ∧ t = { s with melo := t.melo, nw := t.nw }) ∧
  (∀ dt vst ok, s.melo.running = true → ∃ t, exec (.meloskernBrownout dt vst ok) s = .next t ∧ t.melo.running = false ∧
      t.melo.bo = true ∧
    t.melo.newest.1.legal = t.melo.legal ∧ t.melo.newest.1.res = t.melo.res ∧ t.melo.newest.1.valid = ok ∧ t.melo.comm = false ∧
    t.melo.stage = [] ∧ t.melo.cmd = none ∧ t.melo.reply = none ∧ t.melo.pulse = List.replicate 5 0 ∧
    (s.suspended = true → t.melo.legal = s.melo.legal) ∧ (∀ x ∈ t.melo.sess, ∀ y, x = some y → y.closeAt ≠ none) ∧
    t.melo.recs = s.melo.recs ∧ t = { s with melo := t.melo, nw := t.nw }) ∧
  (∀ dt level, s.melo.running = false → ∃ t, exec (.meloskernStart dt level) s = .next t ∧ t.melo.running = true ∧ t.melo.bo = false ∧
    (s.melo.newest.1.valid = true → t.melo.legal = s.melo.newest.1.legal ∧ t.melo.res = s.melo.newest.1.res) ∧
    t.melo.sealOpen = level ∧ t.melo.untailed = [] ∧ t.nw.queue = [] ∧ t.nw.dark = [] ∧ t.melo.cycN = 0 ∧ t.melo.chans = List.replicate 15 {} ∧ t.suspended = false ∧
    t = { s with melo := t.melo, nw := t.nw, freeCtr := t.freeCtr }) ∧
  (∀ dt ratio mo no, s.melo.running = true → 2000 < ratio → s.suspended = false →
      ∃ t, exec (.clockRatioWindow dt ratio mo no) s = .next t ∧
    t.suspended = true ∧ t.melo.pulse = List.replicate 5 0 ∧ t.melo.owed = s.melo.owed ∧ t.melo.good = 0 ∧
        t.melo.legal = s.melo.legal ∧
    t = { s with melo := t.melo, nw := t.nw }) ∧
  (∀ dt ratio mo no, s.melo.running = true → ratio ≤ 2000 → s.suspended = true →
      ∃ t, exec (.clockRatioWindow dt ratio mo no) s = .next t ∧
    (s.melo.good = 2 → t.suspended = false ∧ t.melo.good = 0) ∧ (s.melo.good < 2 → t.suspended = true ∧
        t.melo.good = s.melo.good + 1) ∧
    t.mbit MELO.MSTAT 28 = decide (50000 < mo) ∧ t.mbit MELO.MSTAT 27 = decide (50000 < no) ∧ t.melo.legal = s.melo.legal ∧
    t = { s with melo := t.melo, nw := t.nw })

/-- From every state of the shape: a poll takes the latched command; one of another version than 1 is answered at once with status
0x02, an unknown opcode with 0x01; a command taken before is executed, at the latest, before the next poll; a poll with nothing to
take refreshes the mirror with the registers and the time, or is not answered; a time-out ends a run of VETO bits; the loss of the
control die closes every session; the doorbell latches the mailbox or is refused; a cancel withdraws the waiting command or is
refused; a stale mirror posts LOST; a posted reply reaches the buffer and clears PEND when its sequence matches. A command that
Meloskern holds, taken with VETO 0, is executed and answered with status 0: it opens or closes a session at the instant of its
taking, reads or exports records, sets the time, begins, writes, commits or aborts commissioning, or makes the key. A head's tail is
signed, and before any other record (the model's reading: notes/assumptions/107.md). Only Meloskern, Nightwatch and the ledger
window change, and the response. (05_register_pages.md (R147); 16_meloskern_ledger.md (R398-R401); 16_meloskern_ledger.md (R402, R403);
01_architecture.md (R34, R35); 16_meloskern_ledger.md (R405, R408, R409, R415-R418, R421-R425)) -/
def Obligations.LedgerLinkCarriesCommandsAndTheMirror : Prop :=
  ∀ s : State, s.Shaped →
  (∀ dt, s.melo.running = true → s.answers = true → s.bit LEDGER.DOOR 0 = true → s.ledger.taken = false →
    s.melo.cmd = none → s.melo.reply = none → bitsOf (nth 0 s.ledger.latch 0) 31 24 = 1 →
    meloOps.contains (bitsOf (nth 0 s.ledger.latch 0) 23 16) = true → ∃ t, exec (.ledgerPoll dt) s = .next t ∧
    t.ledger = { s.ledger with taken := true } ∧ t.melo.cmd = some s.ledger.latch ∧ t.melo.rest = some s.rst.veto ∧
    t.melo.cmdTime = t.nw.rtc ∧ t.melo.cmdLegal = s.melo.legal ∧
    RegsBut (fun _ => False) s t ∧ t = { s with ledger := t.ledger, melo := t.melo, nw := t.nw }) ∧
  (∀ dt, s.melo.running = true → s.answers = true → s.bit LEDGER.DOOR 0 = true → s.ledger.taken = false →
    s.melo.cmd = none → s.melo.reply = none →
    bitsOf (nth 0 s.ledger.latch 0) 31 24 ≠ 1 ∨ meloOps.contains (bitsOf (nth 0 s.ledger.latch 0) 23 16) = false →
    ∃ t, exec (.ledgerPoll dt) s = .next t ∧ t.ledger = { s.ledger with taken := true } ∧ t.melo.cmd = none ∧
    t.melo.reply = some ([putBits (nth 0 s.ledger.latch 0) 31 24 (if bitsOf (nth 0 s.ledger.latch 0) 31 24 = 1 then 1 else 2)], []) ∧
    t.melo.legal = s.melo.legal ∧ t = { s with regs := t.regs, ledger := t.ledger, melo := t.melo, nw := t.nw }) ∧
  (∀ dt, ∀ l, s.melo.cmd = some l → s.melo.running = true → meloOps.contains (bitsOf (nth 0 l 0) 23 16) = true →
    ∃ t, exec (.ledgerPoll dt) s = .next t ∧ t.melo.cmd = none ∧ t.melo.rest = none ∧ t.melo.reply ≠ none ∧ t.ledger = s.ledger) ∧
  (∀ dt, s.melo.running = true → s.melo.cmd = none → s.answers = true → s.bit LEDGER.DOOR 0 = false → s.melo.linkLost = false →
    s.rst.veto = false → ∃ t, exec (.ledgerPoll dt) s = .next t ∧ t.rd LEDGER.REFRESH = s.rd LEDGER.REFRESH + 1 ∧
    t.bit LEDGER.LW_IRQ 0 = true ∧ (∀ k, k < 32 → t.rd (0x40C01400 + 8 * k) = Word.ofNat (nth 0 s.melo.legal k)) ∧
    t.rd 0x40C0000C = Word.ofNat (t.nw.rtc / 65536) ∧ t.rd 0x40C00014 = Word.ofNat s.melo.nextSeq ∧ t.melo.vetoRun = 0 ∧
    RegsBut (fun a => 0x40C00000 ≤ a ∧ a < 0x40C10000) s t ∧ t = { s with regs := t.regs, melo := t.melo, nw := t.nw }) ∧
  (∀ dt, s.melo.running = true → s.answers = false → ∃ t, exec (.ledgerPoll dt) s = .next t ∧ t.melo.vetoRun = 0 ∧
    t.melo.legal = s.melo.legal ∧ (s.melo.cmd = none → t.melo.cmd = none ∧ t.melo.recs = s.melo.recs) ∧
    t = { s with melo := t.melo, nw := t.nw }) ∧
  (∀ dt, ∃ t, exec (.pollTimeout dt) s = .next t ∧ t.melo.vetoRun = 0 ∧ t.melo.legal = s.melo.legal ∧
    (s.melo.cmd = none → t.melo.recs = s.melo.recs ∧ t.regs = s.regs) ∧
    RegsBut (fun a => 0x40C00000 ≤ a ∧ a < 0x40C10000) s t ∧ t = { s with regs := t.regs, melo := t.melo, nw := t.nw }) ∧
  (∀ dt, s.melo.running = true → s.melo.linkLost = false → ∃ t, exec (.controlDieLoss dt) s = .next t ∧ t.melo.linkLost = true ∧
    (∀ p, p < 4 → nth none t.melo.sess p = none) ∧ t.melo.vetoRun = 0 ∧ t.melo.legal = s.melo.legal ∧
    RegsBut (fun a => 0x40C00000 ≤ a ∧ a < 0x40C10000) s t ∧ t = { s with regs := t.regs, melo := t.melo, nw := t.nw }) ∧
  (∀ init, s.mustWait .fab LEDGER.base = false → s.bit LEDGER.DOOR 0 = false → ∃ t, exec (.mailboxDoorbell init) s = .next t ∧
    t.ledger.latch = (List.range 16).map (fun i => s.rd (0x40C0F000 + 4 * i)) ∧ t.ledger.taken = false ∧ t.bit LEDGER.DOOR 0 = true ∧
    Accepted init LEDGER.DOOR t ∧ RegsBut (fun a => a = LEDGER.DOOR) s t ∧
    t = { s with regs := t.regs, ledger := t.ledger, bus := { s.bus with resp := t.bus.resp } }) ∧
  (∀ init, s.mustWait .fab LEDGER.base = false → s.bit LEDGER.DOOR 0 = true → ∃ t, exec (.mailboxDoorbell init) s = .next t ∧
    Refused init LEDGER.DOOR .refused t ∧ t.ledger = s.ledger) ∧
  (∀ init, s.mustWait .fab LEDGER.base = false → s.bit LEDGER.DOOR 0 = true → s.ledger.taken = false →
    ∃ t, exec (.mailboxCancel init false) s = .next t ∧ t.bit LEDGER.DOOR 0 = false ∧ t.bit LEDGER.LW_IRQ 1 = true ∧
    t.rd (LEDGER.RPL 0) = putBits (nth 0 s.ledger.latch 0) 31 24 0xFF ∧ Accepted init LEDGER.DOOR t ∧
    RegsBut (fun a => a ∈ [LEDGER.DOOR, LEDGER.LW_IRQ, LEDGER.RPL 0]) s t ∧
    t = { s with regs := t.regs, ledger := t.ledger, bus := { s.bus with resp := t.bus.resp } }) ∧
  (∀ init pend, s.mustWait .fab LEDGER.base = false → s.bit LEDGER.DOOR 0 = true → s.ledger.taken = true →
    ∃ t, exec (.mailboxCancel init pend) s = .next t ∧ Refused init LEDGER.DOOR .refused t ∧ t.ledger = s.ledger) ∧
  (s.answers = true → s.bit LEDGER.DOOR 0 = true → ∃ t, exec .mirrorStale s = .next t ∧ t.bit LEDGER.LW_IRQ 2 = true ∧
    t.bit LEDGER.DOOR 0 = false ∧ t.rd (LEDGER.RPL 0) = putBits (nth 0 s.ledger.latch 0) 31 24 0xFE ∧
    RegsBut (fun a => a ∈ [LEDGER.DOOR, LEDGER.LW_IRQ, LEDGER.RPL 0]) s t ∧ t = { s with regs := t.regs, ledger := t.ledger }) ∧
  (∀ ws recs, s.melo.reply = some (ws, recs) → s.answers = true → recs.length ≤ 16 → ∃ t, exec .replyPosted s = .next t ∧
    t.melo = { s.melo with reply := none } ∧ (∀ i, i < 64 → t.rd (LEDGER.RPL i) = nth 0 ws i) ∧ t.bit LEDGER.LW_IRQ 1 = true ∧
    (bitsOf (nth 0 ws 0) 15 0 = bitsOf (nth 0 s.ledger.latch 0) 15 0 → t.bit LEDGER.DOOR 0 = false) ∧
    (bitsOf (nth 0 ws 0) 15 0 ≠ bitsOf (nth 0 s.ledger.latch 0) 15 0 → t.bit LEDGER.DOOR 0 = s.bit LEDGER.DOOR 0) ∧
    RegsBut (fun a => 0x40C00000 ≤ a ∧ a < 0x40C10000) s t ∧ t = { s with regs := t.regs, melo := t.melo, ledger := t.ledger }) ∧
  (∀ l, LedgerCmd 0x01 l s → ∃ t, exec .mbxNop s = .next t ∧ LedgerDone l 0 [] [] s t ∧ MeloIdle s t) ∧
  (∀ l p, LedgerCmd 0x10 l s → (nth 0 (l.drop 1) 0).toNat = p → p < 4 → s.mrd (MELO.INOM (p + 1)) ≠ 0 →
      nth none s.melo.sess p = none →
    s.melo.comm = false → s.melo.key ≠ none → s.nw.timeValid = true → 1024 ≤ s.melo.usable → ∃ t, exec .sessionOpen s = .next t ∧ t.nw = s.nw ∧
    t.melo.recs = s.melo.recs ∧ (∀ q, q ≠ p → nth none t.melo.sess q = nth none s.melo.sess q) ∧
    ∃ x, nth none t.melo.sess p = some x ∧ x.topen = s.melo.cmdTime ∧ x.delStart = nth 0 s.melo.cmdLegal (24 + 2 * p) ∧
    x.recStart = nth 0 s.melo.cmdLegal (25 + 2 * p) ∧
    LedgerDone l 0 (wordsOf 3 (le96 x.delStart) ++ wordsOf 3 (le96 x.recStart) ++ [s.melo.cmdTime / 65536]) [] s t) ∧
  (∀ l p, LedgerCmd 0x11 l s → (nth 0 (l.drop 1) 0).toNat = p → p < 4 → nth none s.melo.sess p ≠ none →
    ∃ t, exec .sessionClose s = .next t ∧ nth none t.melo.sess p = none ∧ 0 < t.melo.nextSeq ∧
    t.melo.untailed = [t.melo.nextSeq - 1] ∧ (Store.find t.melo.recs ((t.melo.nextSeq - 1) % 65536)).isSome = true ∧
    (s.melo.dropI + s.melo.dropE = 0 → s.melo.untailed = [] → t.melo.nextSeq = s.melo.nextSeq + 1) ∧
    (∀ h, s.melo.untailed = [h] → (Store.find t.melo.recs ((h + 1) % 65536)).isSome = true ∧ h + 3 ≤ t.melo.nextSeq) ∧
    (∀ q, q ≠ p → nth none t.melo.sess q = nth none s.melo.sess q) ∧ LedgerDone l 0 [t.melo.nextSeq - 1] [] s t ∧ t.nw = s.nw) ∧
  (∀ l n, LedgerCmd 0x20 l s → (nth 0 (l.drop 1) 1).toNat = n → 1 ≤ n → n ≤ 16 → ∃ t, exec .ledgerRead s = .next t ∧
    ∀ rs, rs = (List.range n).map (fun i => s.melo.recordOf ((nth 0 (l.drop 1) 0).toNat + i)) →
    LedgerDone l 0 [(rs.filter Option.isSome).length] (rs.map (fun r => r.getD (List.replicate 128 0))) s t ∧ MeloIdle s t) ∧
  (∀ l, LedgerCmd 0x21 l s → ∀ last, (nth 0 (l.drop 1) 1).toNat = last → ∀ r, s.melo.recordOf last = some r →
    (nth 0 (l.drop 1) 0).toNat = s.melo.heldSeq → s.melo.heldSeq ≤ last → last < s.melo.nextSeq → r.head? ≠ some 1 → leNat (r.drop 0x7C) = (nth 0 (l.drop 1) 2).toNat →
    ∃ t, exec .ledgerExport s = .next t ∧ t.melo.heldSeq = last + 1 ∧ LedgerDone l 0 [last + 1] [] s t ∧ t.melo.recs = s.melo.recs) ∧
  (∀ l new, LedgerCmd 0x30 l s → new = (nth 0 (l.drop 1) 0).toNat * 65536 + (nth 0 (l.drop 1) 1).toNat % 65536 →
    s.nw.timeValid = false ∨ s.melo.comm = true → ∃ t, exec .timeSet s = .next t ∧ t.nw.rtc = new ∧ t.nw.timeValid = true ∧
    t.melo.setAge = some 0 ∧ t.melo.legal = s.melo.legal ∧ LedgerDone l 0 [] [] s t) ∧
  (∀ l, LedgerCmd 0x40 l s → s.melo.sealOpen = true → s.melo.comm = false → (∀ x ∈ s.melo.sess, x = none) →
      ∃ t, exec .commBegin s = .next t ∧
    t.melo.comm = true ∧ t.melo.stage = [] ∧ LedgerDone l 0 [] [] s t ∧ t.nw = s.nw) ∧
  (∀ l o, LedgerCmd 0x41 l s → s.melo.comm = true → (nth 0 (l.drop 1) 0).toNat = o → rwsOk o (nth 0 (l.drop 1) 1).toNat = true →
    (∀ e ∈ s.melo.stage, e.1 ≠ o) → s.melo.stage.length < 64 → ∃ t, exec .commWrite s = .next t ∧
    t.melo.stage = s.melo.stage ++ [(o, nth 0 (l.drop 1) 1)] ∧ LedgerDone l 0 [s.melo.stage.length + 1] [] s t) ∧
  (∀ l, LedgerCmd 0x42 l s → s.melo.comm = true → (nth 0 (l.drop 1) 0).toNat = s.melo.pubCrc → s.melo.sealcnt ≠ 65535 →
    (List.range 8).all s.orderOk = true → ∃ t, exec .commCommit s = .next t ∧ t.melo.comm = false ∧ t.melo.stage = [] ∧
    (∀ o v, s.melo.stage = [(o, v)] → t.mrd (LEDGER.base + o) = v ∧
      t.melo.sealcnt = s.melo.sealcnt + (if s.mrd (LEDGER.base + o) = v then 0 else 1)) ∧ LedgerDone l 0 [t.melo.sealcnt] [] s t) ∧
  (∀ l, LedgerCmd 0x43 l s → s.melo.comm = true → ∃ t, exec .commAbort s = .next t ∧ t.melo.comm = false ∧ t.melo.stage = [] ∧
    t.melo.sealcnt = s.melo.sealcnt ∧ LedgerDone l 0 [] [] s t) ∧
  (∀ l, LedgerCmd 0x44 l s → s.melo.comm = true → s.melo.key = none → ∃ t, exec .keygen s = .next t ∧
    t.melo.key = some (publicKey (scalarOf (Config.privateKey 0))) ∧ LedgerDone l 0 [] [] s t) ∧
  (∀ h rest, s.melo.running = true → s.melo.untailed = h :: rest → ∃ t, exec .sessionTailSign s = .next t ∧ t.melo.untailed = rest ∧
    t.melo.signs = s.melo.signs + 1 ∧ (Store.find t.melo.recs ((h + 1) % 65536)).isSome = true ∧
    t = { s with melo := { s.melo with recs := t.melo.recs, untailed := rest, signs := s.melo.signs + 1,
                                       nextSeq := max s.melo.nextSeq (h + 2) } })

/-- From every state of the shape: when the RTC reaches its end an interval closes at the boundary and the next begins from the
present registers; a change of the seal is taken and its closing ends commissioning; Nightwatch starts with its clock at 0,
the time invalid and CONTINUITY_LOST queued, and dies with its clock and queue; the boost sets its operating point, charging
stops at the limit, resumes 50 mV below it and leaves cold start at 1.9 V; the gauge follows VSTORE; two like samples of an
enabled loop take its condition and queue TAMPER; a transfer moves the oldest queued event into the ledger. Only Meloskern and
Nightwatch change. (16_meloskern_ledger.md (R414); 16_meloskern_ledger.md (R420, R424); 16_meloskern_ledger.md (R426, R427,
R429); 16_meloskern_ledger.md (R428, R430-R432)) -/
def Obligations.NightwatchAndTheSealKeepTheirEvents : Prop :=
  ∀ s : State, s.Shaped →
  (∀ dt now, now = (if s.nw.alive then s.nw.rtc + dt else s.nw.rtc) / 65536 → s.melo.running = true → s.melo.ivlEnd ≤ now →
    ∃ t, exec (.intervalBoundary dt) s = .next t ∧ t.melo.ivlStart = now / 900 * 900 ∧ t.melo.ivlEnd = now / 900 * 900 + 900 ∧
    t.melo.ivlBase = s.melo.legal ∧ t.melo.legal = s.melo.legal ∧
    t.melo.ivlQ = (if s.nw.timeValid then 0 else 8) ||| b2n s.suspended ∧
    (s.nw.timeValid = true → s.melo.dropI + s.melo.dropE = 0 → s.melo.usable ≠ 0 → s.melo.untailed = [] →
      t.melo.nextSeq = s.melo.nextSeq + 1 ∧ (Store.find t.melo.recs (s.melo.nextSeq % 65536)).isSome = true) ∧
    (s.nw.timeValid = false → t.melo.nextSeq = s.melo.nextSeq ∧ t.melo.recs = s.melo.recs) ∧
    t = { s with melo := t.melo, nw := t.nw }) ∧
  (∀ dt level, s.melo.running = true → s.melo.sealOpen ≠ level → ∃ t, exec (.sealChange dt level) s = .next t ∧
      t.melo.sealOpen = level ∧
    (level = false → t.melo.comm = false ∧ (s.melo.comm = true → t.melo.stage = [])) ∧ (level = true → t.melo.comm = s.melo.comm) ∧
    t.melo.legal = s.melo.legal ∧ t.melo.vals = s.melo.vals ∧ t = { s with melo := t.melo, nw := t.nw }) ∧
  (∀ dt level, s.melo.sealOpen = level → ∃ t, exec (.sealChange dt level) s = .next t ∧ t.melo.recs = s.melo.recs ∧
      t.melo.sealOpen = level) ∧
  (∀ dt, s.nw.alive = false → ∃ t, exec (.nightwatchStart dt) s = .next t ∧ t.nw.alive = true ∧ t.nw.rtc = 0 ∧
      t.nw.timeValid = false ∧
    t.nw.queue.map (fun e => e.code) = [0x50] ∧ t.mfld MELO.NWCNT 31 16 = min (s.mfld MELO.NWCNT 31 16 + 1) 65535 ∧
    t.nw.rtcMram = s.nw.rtcMram ∧ t = { s with melo := t.melo, nw := t.nw }) ∧
  (∀ dt, s.nw.alive = true → ∃ t, exec (.nightwatchDeath dt) s = .next t ∧ t.nw.alive = false ∧ t.nw.rtc = 0 ∧
      t.nw.timeValid = false ∧
    t.nw.queue = [] ∧ t.nw.dark = s.nw.dark ∧ t.nw.rtcMram = s.nw.rtcMram ∧ t = { s with melo := t.melo, nw := t.nw }) ∧
  (∀ voc, s.nw.boost = true → ∃ t, exec (.vocMeasure voc) s = .next t ∧ t.mfld MELO.NWHARV 31 16 = min voc 65535 ∧
    t.mfld MELO.NWHARV 15 0 = min ((voc * s.focv + 50) / 100) 65535 ∧ t = { s with melo := { s.melo with vals := t.melo.vals } }) ∧
  (∀ voc, s.nw.boost = false → exec (.vocMeasure voc) s = .next s) ∧
  (∀ vst, exec (.coldStartExit vst) s = .next { s with nw := { s.nw with boost := s.nw.boost || decide (1900 ≤ vst) } }) ∧
  (∀ vst, exec (.chargeLimitReached vst) s = .next { s with nw := { s.nw with atLimit := s.nw.atLimit || decide (s.chargeLimit ≤ vst) } }) ∧
  (∀ vst, exec (.chargeResume vst) s = .next { s with nw := { s.nw with atLimit := s.nw.atLimit && !decide (vst + 50 ≤ s.chargeLimit) } }) ∧
  (∀ dt vst, s.nw.alive = true → ∃ t, exec (.gaugeUpdate dt vst) s = .next t ∧ t.mrd MELO.NWGAUGE = Word.ofNat (s.gaugeAt vst) ∧
    t.mfld MELO.NWSTAT 15 0 = min vst 65535 ∧ t.mbit MELO.NWSTAT 28 = decide (s.gaugeAt vst < 60) ∧ t.nw.rtc = s.nw.rtc + dt ∧
    (s.melo.running = true → t.nw.queue = s.nw.queue) ∧
    (s.melo.running = false → 60 ≤ s.gaugeAt vst → t.nw.queue = []) ∧ t = { s with melo := t.melo, nw := t.nw }) ∧
  (∀ i dt vst pre post, s.nw.alive = true → i < 2 → s.mbit MELO.NWCFG (24 + i) = true →
    loopKind pre post = (nth ({} : Loop) s.nw.loops i).last → loopKind pre post ≠ (nth ({} : Loop) s.nw.loops i).cond →
    ∃ t, exec (.tamperSample i dt vst pre post) s = .next t ∧ (nth ({} : Loop) t.nw.loops i).cond = loopKind pre post ∧
    (s.melo.running = true → s.nw.lost = 0 → s.nw.queue.length < 16 → 
      t.nw.queue = s.nw.queue ++ [{ code := 0x40, data := leBytes 1 i ++ leBytes 1 (tamperKind (loopKind pre post)),
                                    time := s.nw.rtc + dt, valid := s.nw.timeValid }]) ∧
    t.melo.ivlQ.testBit 4 = true ∧ t = { s with melo := t.melo, nw := t.nw }) ∧
  (∀ i dt vst pre post, s.nw.alive = true → i < 2 → s.mbit MELO.NWCFG (24 + i) = true →
    loopKind pre post ≠ (nth ({} : Loop) s.nw.loops i).last → ∃ t, exec (.tamperSample i dt vst pre post) s = .next t ∧
    nth ({} : Loop) t.nw.loops i = { cond := (nth ({} : Loop) s.nw.loops i).cond, last := loopKind pre post } ∧
        t.nw.queue = s.nw.queue) ∧
  (∀ dt, ∀ e q, s.nw.queue = e :: q → s.melo.running = true → ∃ t, exec (.queueTransfer dt) s = .next t ∧ t.nw.queue = q ∧
    (s.melo.dropI + s.melo.dropE = 0 → s.melo.usable ≠ 0 → s.melo.untailed = [] → t.melo.nextSeq = s.melo.nextSeq + 1) ∧
    t.mfld MELO.NWSTAT 20 16 = q.length % 32 ∧
    t = { s with melo := t.melo, nw := t.nw })

/-- From every state: GATE_VETO is released when nothing asserts it and nothing else changes; a channel disagreement or a failed
clock check outside INIT and LOCKDOWN enters LOCKDOWN; the loss of a heartbeat that the control die does not drive, while monitoring
is armed, begins the Dusk state with DUSKCAUSE 0x101 and asserts GATE_VETO, and a driven heartbeat is never declared lost; a filtered
input reaches exactly the channel it changed in; a discrepancy, a claimed line and a named window line are latched, a discrepancy
(the model's reading: notes/assumptions/96.md) and a claimed line asserting GATE_VETO. Everything outside the safety unit, GATE_VETO
and the gate pages stands, but for the registers named. (17_safety_unit.md (R434, R436, R437); 17_safety_unit.md (R438, R439);
01_architecture.md (R30, R43); 04_clocks_and_crossings.md (R114)) -/
def Obligations.StopSourcesReachTheSafetyUnit : Prop :=
  ∀ s : State,
  (s.vetoWanted = false → ∃ t, exec .gateVetoRelease s = .next t ∧ t = { s with rst := { s.rst with veto := false } }) ∧
  (∀ at_, s.sup.st ≠ 0 → s.sup.st ≠ 6 → ∃ t, exec (.channelDisagreement at_) s = .next t ∧
    LockdownEntered t ∧ t.now = max s.now at_ ∧ SafetyFrame [SMBX.base + 0x14] s t) ∧
  (∀ at_, s.sup.st ≠ 0 → s.sup.st ≠ 6 → ∃ t, exec (.clockCheckFail at_) s = .next t ∧
    LockdownEntered t ∧ t.rst = { s.rst with veto := true, clockFail := true } ∧ t.now = max s.now at_ ∧
    RegsBut (fun a => gatePage a ∨ a = SMBX.base + 0x14) s t ∧
    t = { s with regs := t.regs, rst := t.rst, gate := t.gate, sup := t.sup, now := t.now }) ∧
  (∀ at_, s.rst.hbArmed = true → s.heartbeat = false → s.rst.dusk = false → ∃ t, exec (.heartbeatLoss at_) s = .next t ∧
    t.rd RSUP.DUSKCAUSE = 0x101 ∧ t.rst = { s.rst with dusk := true, veto := true } ∧ t.sup.duskPend = 0x20 ∧
    t.sup.st = s.sup.st ∧ t.now = max s.now at_ ∧ RegsBut (fun a => gatePage a ∨ a = RSUP.DUSKCAUSE) s t ∧
    t = { s with regs := t.regs, rst := t.rst, gate := t.gate, sup := t.sup, now := t.now }) ∧
  (∀ at_, s.rst.hbArmed = false ∨ s.heartbeat = true → exec (.heartbeatLoss at_) s = .next s) ∧
  (∀ at_ input level, input < 7 → ∃ t, exec (.safetyInputChange at_ input false level) s = .next t ∧
    t.sup.inSp = setBitN s.sup.inSp input level ∧ t.sup.inCur = s.sup.inCur ∧ t.sup.k = s.sup.k ∧ t.sup.st = s.sup.st ∧
    t = { s with sup := t.sup, now := max s.now at_ }) ∧
  (∀ at_ input level, input < 7 → ∃ t, exec (.safetyInputChange at_ input true level) s = .next t ∧
    t.sup.inCur = setBitN s.sup.inCur input level ∧ t.sup.inSp = s.sup.inSp ∧ t.sup.st = s.sup.st ∧
    (t.curfewDemand.1 = true → t.rst.veto = true) ∧ t.now = max s.now at_ ∧ SafetyFrame [] s t) ∧
  (∀ at_ f, f < 3 → s.parB (1 + f) 31 = true →
    (fnDemand (s.par (1 + f)) s.sup.inSp f).1 ≠ (fnDemand (s.par (1 + f)) s.sup.inSp f).2 →
    ∃ t, exec (.inputDiscrepancy at_ f) s = .next t ∧ t.sup.disc = s.sup.disc ||| 2 ^ f ∧ t.sup.st = s.sup.st ∧
    t.rst.veto = true ∧ t.now = max s.now at_ ∧ SafetyFrame [] s t) ∧
  (∀ at_ n, n < 8 → s.parB (49 + n) 31 = true → s.parB (49 + n) 23 = true → s.line (48 + n) = true →
    ∃ t, exec (.claimedComparatorStop at_ n) s = .next t ∧ t.sup.pcSp = s.sup.pcSp ||| 2 ^ n ∧
    t.sup.pcCur = s.sup.pcCur ||| 2 ^ n ∧ t.rst.veto = true ∧ (∀ m, (t.kAt m).hg = true → 12 ≤ m) ∧ t.now = max s.now at_ ∧
    SafetyFrame [] s t) ∧
  (∀ n, s.wcNamed n = true → s.line n = true → ∃ t, exec (.wcLineStop n) s = .next t ∧
    t = { s with sup := { s.sup with wc := s.sup.wc ||| 2 ^ n } })

/-- From every state: a converter round stores its 33 codes and their maxima, and a second bad reference check running enters
LOCKDOWN; a counting press opens the presence window and, with no cause left, ends the MANUAL latches; the window ends; a
status transfer takes the trip flags and ends staleness, a timeout while GATE_VETO is released marks them stale; INIT, once the
power-on stretch has ended with VIN_PS and VDD_PS in range, ends in LOCKDOWN where the self-test fails, in READY with the newer
valid stored set, and in UNCONFIRMED without one; before that, and outside INIT, it does not end.
(17_safety_unit.md (R440, R441); 17_safety_unit.md (R442, R458); 17_safety_unit.md (R449); 17_safety_unit.md (R435, R437,
R456, R457); 03_supplies_reset_dawn.md (R109)) -/
def Obligations.SafetyProcessorRoundsPressesAndReports : Prop :=
  ∀ s : State,
  (∀ at_ codes, ∃ t, exec (.safetyConversionRound at_ codes) s = .next t ∧
    (∀ i, i < 33 → nth 0 t.sup.code i = nth 0 codes i % 4096 ∧
      nth 0 t.sup.runMax i = max (nth 0 s.sup.runMax i) (nth 0 codes i % 4096)) ∧
    t.sup.round = true ∧ t.now = max s.now at_ ∧
    (s.sup.refBad = false ∨ t.sup.refBad = false → t = { s with sup := t.sup, now := t.now } ∧ t.sup.k = s.sup.k ∧
        t.sup.st = s.sup.st) ∧
    (s.sup.refBad = true → t.sup.refBad = true → s.sup.st ≠ 0 → s.sup.st ≠ 6 → LockdownEntered t ∧
        SafetyFrame [SMBX.base + 0x14] s t)) ∧
  (∀ a b, pressOk a = true → pressOk b = true → s.causePersists = true →
    ∃ t, exec (.safetyResetPress a b) s = .next t ∧ t = { s with sup := { s.sup with present := true } }) ∧
  (∀ a b, pressOk a = true → pressOk b = true → s.causePersists = false →
    ∃ t, exec (.safetyResetPress a b) s = .next t ∧ t.sup.present = true ∧ t.sup.man = 0 ∧ (∀ c ∈ t.sup.conns, c.man = false) ∧
    (∀ n, n < 12 → (s.kAt n).st = 4 → s.mirOpen n = true → (t.kAt n).st = 0) ∧ SafetyFrame [] s t) ∧
  (∀ a b, (pressOk a && pressOk b) = false → exec (.safetyResetPress a b) s = .next s) ∧
  (exec .presenceWindowEnd s = .next { s with sup := { s.sup with present := false } }) ∧
  (s.rst.dawn ≠ .held → s.domRun .fab = true → s.domRun .ps = true →
    exec .gridStatusTransfer s = .next { s with sup := { s.sup with gridUp := s.tripped, gridStale := false } }) ∧
  (s.rst.veto = false → exec .gridStatusTimeout s = .next { s with sup := { s.sup with gridStale := true } }) ∧
  (∀ bad, s.sup.st = 0 → s.rst.stretch ≠ some .powerOn → s.bit RSUP.SUPSTAT 0 = true → s.bit RSUP.SUPSTAT 1 = true → 
    ∃ t, exec (.safetyInitComplete false bad) s = .next t ∧
    t.sup.st = 6 ∧ t.sup.cause = 0x30 ∧ t.rst.veto = true ∧ SafetyFrame [SMBX.base + 0x14] s t) ∧
  (∀ bad, s.sup.st = 0 → s.rst.stretch ≠ some .powerOn → s.bit RSUP.SUPSTAT 0 = true → s.bit RSUP.SUPSTAT 1 = true → 
    s.sup.copies = [] → ∃ t, exec (.safetyInitComplete true bad) s = .next t ∧
    t.sup.st = 1 ∧ t.sup.params = s.sup.params ∧ t.rst.veto = true ∧ SafetyFrame [SMBX.base + 0x14] s t) ∧
  (∀ pass bad, s.sup.st ≠ 0 ∨ s.rst.stretch = some .powerOn ∨ s.bit RSUP.SUPSTAT 0 = false ∨ s.bit RSUP.SUPSTAT 1 = false →
    exec (.safetyInitComplete pass bad) s = .next s) ∧
  (∀ ws rest, s.sup.copies = ws :: rest → ∀ bad, s.sup.st = 0 → s.rst.stretch ≠ some .powerOn → s.bit RSUP.SUPSTAT 0 = true → s.bit RSUP.SUPSTAT 1 = true → 
    bad.testBit 0 = false → paramBad ws = none →
    ∃ t, exec (.safetyInitComplete true bad) s = .next t ∧
    t.sup.st = 2 ∧ t.sup.params = ws ∧ t.sup.copies = s.sup.copies ∧ t.sup.cand = none ∧ t.rst.veto = true ∧
    (∀ n, n < 8 → t.bit (PCMP.base + 0x60) n = tb (nth 0 ws (49 + n)) 31) ∧
    t = { s with regs := t.regs, cmp := t.cmp, rst := t.rst, gate := t.gate, sup := t.sup })

/-- From every state: a coil-current, mirror or test-pulse check that fails puts its channel into fault with the code of R446/R447
and both switches off, a test pulse that passes only marks the pulse; a channel without a weld check counts as open TMIRROR after its
opening (the model's reading: notes/assumptions/103.md); an opening deadline opens its channel; the backstop turns Kn_HG off in the
Dusk state; a lock's movement ends in the position it reached or in a fault. A safety cycle latches its inputs; in INIT it does
nothing else; a disagreement enters LOCKDOWN; with every readback right, a stop demand takes READY or RUN to STOP, opens every demanded
channel and withdraws its request for Kn_HG, and without one STOP returns to READY. (17_safety_unit.md (R436, R443, R445-R448);
17_safety_unit.md (R450, R453)) -/
def Obligations.ContactorsAndLocksFollowTheirChecks : Prop :=
  ∀ s : State,
  (∀ n, n < 12 → n < s.sup.k.length → (s.kAt n).st = 1 → (s.kAt n).lg = true → (s.kAt n).seen = false →
    ∃ t, exec (.coilCurrentTimeout n) s = .next t ∧ FaultTaken n 3 s t) ∧
  (∀ n, n < 12 → n < s.sup.k.length → s.kMirror n = true → (s.kAt n).st = 1 → (s.kAt n).lg = true → s.mirOpen n = true →
    ∃ t, exec (.mirrorTimeout n) s = .next t ∧ FaultTaken n 8 s t) ∧
  (∀ n, n < 12 → n < s.sup.k.length → s.kMirror n = true → (s.kAt n).st = 3 → s.mirOpen n = false →
    ∃ t, exec (.mirrorTimeout n) s = .next t ∧ FaultTaken n 2 s t) ∧
  (∀ n, n < 12 → n < s.sup.k.length → s.kMirror n = false → (s.kAt n).st = 3 → s.mirOpen n = false →
    ∃ t, exec (.mirrorTimeout n) s = .next t ∧ (t.kAt n).st = 0 ∧ (t.kAt n).fault = (s.kAt n).fault ∧
    (∀ m, m ≠ n → (t.kAt m).st = (s.kAt m).st ∧ (t.kAt m).lg = (s.kAt m).lg) ∧ SafetyFrame [] s t) ∧
  (∀ n code hg, n < 12 → n < s.sup.k.length → (s.kAt n).st = 2 → (s.kAt n).test = 0 →
    codeAtLeast code (s.parF (6 + 2 * n) 23 16 * 10) = true →
    exec (.contactorTestPulse n code hg) s = .next (s.updK n (fun k => { k with test := if hg then 2 else 1 }))) ∧
  (∀ n code hg, n < 12 → n < s.sup.k.length → (s.kAt n).st = 2 → (s.kAt n).test = 0 →
    codeAtLeast code (s.parF (6 + 2 * n) 23 16 * 10) = false →
    ∃ t, exec (.contactorTestPulse n code hg) s = .next t ∧ FaultTaken n (if hg then 4 else 5) s t) ∧
  (∀ n code, n < 12 → (s.kAt n).test ≠ 0 → codeAtLeast code (s.parF (6 + 2 * n) 15 8) = false →
    exec (.testPulseEnd n code) s = .next (s.updK n (fun k => { k with test := 0 }))) ∧
  (∀ n code, n < 12 → n < s.sup.k.length → (s.kAt n).test ≠ 0 → codeAtLeast code (s.parF (6 + 2 * n) 15 8) = true →
    ∃ t, exec (.testPulseEnd n code) s = .next t ∧ FaultTaken n (if (s.kAt n).test = 2 then 4 else 5) s t) ∧
  (∀ n, n < s.sup.k.length → (s.kAt n).dl = true → (s.kAt n).st = 1 ∨ (s.kAt n).st = 2 → ∃ t, exec (.openingDeadline n) s = .next t ∧
    (t.kAt n).st = 3 ∧ (t.kAt n).lg = false ∧ (t.kAt n).hgReq = (s.kAt n).hgReq ∧ (∀ m, m ≠ n → t.kAt m = s.kAt m) ∧
    t = { s with sup := { s.sup with k := t.sup.k } }) ∧
  (∀ n, n < s.sup.k.length → s.sup.st = 5 → ∃ t, exec (.curfewBackstop n) s = .next t ∧
    t.kAt n = { s.kAt n with bstop := true, hg := false } ∧ (∀ m, m ≠ n → t.kAt m = s.kAt m) ∧
    t = { s with sup := { s.sup with k := t.sup.k } }) ∧
  (∀ p code fb, p < 4 → p < s.sup.locks.length → (s.lockAt p).st = 3 → ∃ t, exec (.lockMoveEnd p code fb) s = .next t ∧
    (fb = ((s.lockAt p).dir == 1) → (t.lockAt p).st = (if (s.lockAt p).dir = 1 then 1 else 2) ∧ (t.lockAt p).stall = false) ∧
    (fb ≠ ((s.lockAt p).dir == 1) → (t.lockAt p).st = 4) ∧ (t.lockAt p).dir = 0 ∧ (∀ q, q ≠ p → t.lockAt q = s.lockAt q) ∧
    t.bit (SMBX.base + 0x14) 6 = true ∧ RegsBut (fun a => a = SMBX.base + 0x14) s t ∧
    t = { s with regs := t.regs, sup := { s.sup with locks := t.sup.locks } }) ∧
  (∀ at_ kmir lkfb hgRb lgRb fault,
    let s0 := (s.atTime at_).updSup (fun u => { u.rollCodes with kmir := kmir, lkfb := lkfb, hgRb := hgRb, lgRb := lgRb })
    (s.sup.st = 0 → exec (.safetyCycle at_ kmir lkfb hgRb lgRb fault) s = .next s0) ∧
    (s.sup.st ≠ 0 → s.sup.st ≠ 6 → fault = true → ∃ t, exec (.safetyCycle at_ kmir lkfb hgRb lgRb fault) s = .next t ∧
      LockdownEntered t ∧ t.sup.kmir = kmir ∧ SafetyFrame [SMBX.base + 0x14] s t) ∧
    (s.sup.st = 2 ∨ s.sup.st = 3 → fault = false → (List.range 12).foldl State.readbackK s0 = s0 → s.sup.duskPend = 0 →
      (∃ d ∈ s0.demands, d.stops = true) → ∃ t, exec (.safetyCycle at_ kmir lkfb hgRb lgRb fault) s = .next t ∧
      t.sup.st = 4 ∧ t.rst.veto = true ∧ t.sup.kmir = kmir ∧ t.sup.lkfb = lkfb ∧
      (∀ d ∈ s0.demands, ∀ n, n < 12 → d.mask.testBit n = true → (t.kAt n).st ≠ 1 ∧ (t.kAt n).st ≠ 2 ∧
        (d.stops = true → (t.kAt n).hgReq = false)) ∧
      SafetyFrame smbxReplyRegs s t) ∧
    (s.sup.st = 4 → fault = false → (List.range 12).foldl State.readbackK s0 = s0 → s.sup.duskPend = 0 →
      (∀ d ∈ s0.demands, d.stops = false) → ∃ t, exec (.safetyCycle at_ kmir lkfb hgRb lgRb fault) s = .next t ∧
      t.sup.st = 2 ∧ t.sup.kmir = kmir ∧ t.sup.lkfb = lkfb ∧ SafetyFrame smbxReplyRegs s t))

/-- In a state where the safety processor holds the command and no Dusk state lasts: VETO_RELEASE under the conditions of R111
enters RUN, releases GATE_VETO and arms heartbeat monitoring; HALT returns RUN to READY with cause 0x19 and orders an opening
of every closed channel; CLOSE of channels that no test refuses asks Curfew for each; OPEN orders the opening of the named
closed channels; LOCK and UNLOCK start the movement; PARAM_BEGIN, WRITE, CHECK, CONFIRM and ABORT act on the candidate as R458
says; READ_PARAM answers the word. The reply carries the command's TAG and opcode with status 0. Only the safety unit,
GATE_VETO, the gate pages and the registers named change. (17_safety_unit.md (R463); 17_safety_unit.md (R445, R448);
17_safety_unit.md (R450, R451); 17_safety_unit.md (R455-R458); 03_supplies_reset_dawn.md (R111)) -/
def Obligations.SafetyMailboxCommandsAnswerAndAct : Prop :=
  ∀ s : State,
  (∀ at_ us, SmbxTaken 0x10 s → s.sup.st = 2 → s.sup.cand = none → s.sup.dem % 2 ^ 25 = 0 → s.curfewDemand.1 = false →
    s.allOpen = true → s.heartbeat = true → 100 ≤ us → s.rst.clockFail = false →
    ∃ t, exec (.sfVetoRelease at_ us) s = .next t ∧ t.sup.st = 3 ∧ t.rst.veto = false ∧
    t.rst.hbArmed = true ∧ t.fld RSUP.DUSKCAUSE 1 0 = 0 ∧ t.bit SYS.VERSEL 0 = false ∧ SmbxReplied 0 0 s t ∧
    RegsBut (fun a => a ∈ [RSUP.DUSKCAUSE, SYS.VERSEL] ++ smbxReplyRegs) s t ∧
    t = { s with regs := t.regs, rst := { s.rst with vetoHold := false, hbArmed := true, veto := false }, sup := t.sup, now := t.now }) ∧
  (∀ at_, SmbxTaken 0x11 s → s.sup.st = 3 → ∃ t, exec (.sfHalt at_) s = .next t ∧ t.sup.st = 2 ∧ t.sup.cause = 0x19 ∧
    t.rst.veto = true ∧ (∀ n, n < 12 → (s.kAt n).st = 1 ∨ (s.kAt n).st = 2 → (t.kAt n).dl = true ∧ (t.kAt n).st = (s.kAt n).st) ∧
    SmbxReplied 0 0 s t ∧ SafetyFrame smbxReplyRegs s t) ∧
  (∀ m, bitsOf s.sup.latch.1 15 0 = m → SmbxTaken 0x20 s → s.sup.st = 3 → s.badMask m = false →
    (∀ n ∈ maskChans m, s.closeJudge n = 0) → ∃ t, exec .sfClose s = .next t ∧
    (∀ n ∈ maskChans m, n < s.sup.k.length → (s.kAt n).st = 0 ∨ (s.kAt n).st = 3 →
      (t.kAt n).st = 1 ∧ (t.kAt n).hgReq = true ∧ (t.kAt n).lg = false) ∧
    SmbxReplied 0 (Word.ofNat m) s t ∧ SafetyFrame smbxReplyRegs s t) ∧
  (∀ m, bitsOf s.sup.latch.1 15 0 = m → SmbxTaken 0x21 s →  s.badMask m = false → ∃ t, exec .sfOpen s = .next t ∧
    (∀ n, (t.kAt n).st = (s.kAt n).st) ∧ (∀ n ∈ maskChans m, (s.kAt n).st = 1 ∨ (s.kAt n).st = 2 → (t.kAt n).dl = true) ∧
    SmbxReplied 0 0 s t ∧ SafetyFrame smbxReplyRegs s t) ∧
  (∀ p, bitsOf s.sup.latch.1 15 0 = p → SmbxTaken 0x30 s →  p < 4 → p < s.sup.locks.length → s.parB (29 + p) 31 = true →
    s.vlockGood = true → (s.lockAt p).st ≠ 3 → ∃ t, exec .sfLock s = .next t ∧ (t.lockAt p).st = 3 ∧ (t.lockAt p).dir = 1 ∧
    (∀ q, q ≠ p → t.lockAt q = s.lockAt q) ∧ SmbxReplied 0 0 s t ∧ SafetyFrame smbxReplyRegs s t) ∧
  (∀ p, bitsOf s.sup.latch.1 15 0 = p → SmbxTaken 0x31 s →  p < 4 → p < s.sup.locks.length → s.parB (29 + p) 31 = true →
    s.vlockGood = true → (s.lockAt p).st ≠ 3 → s.portHeld p = false → s.portClosed p = false →
    ∃ t, exec .sfUnlock s = .next t ∧ (t.lockAt p).st = 3 ∧ (t.lockAt p).dir = 2 ∧
    (∀ q, q ≠ p → t.lockAt q = s.lockAt q) ∧ SmbxReplied 0 0 s t ∧ SafetyFrame smbxReplyRegs s t) ∧
  (SmbxTaken 0x40 s → s.sup.st = 1 → s.sup.cand = none → ∃ t, exec .sfParamBegin s = .next t ∧
    t.sup.cand = some s.sup.params ∧ t.sup.params = s.sup.params ∧ SmbxReplied 0 0 s t ∧ SafetyFrame smbxReplyRegs s t) ∧
  (∀ ws, s.sup.cand = some ws → ∀ i, bitsOf s.sup.latch.1 15 0 = i → SmbxTaken 0x41 s → i ≤ 78 → ∃ t, exec .sfParamWrite s = .next t ∧
    t.sup.cand = some (upd ws i (fun _ => s.sup.latch.2)) ∧ t.sup.checked = false ∧ t.sup.params = s.sup.params ∧
    SmbxReplied 0 0 s t ∧ SafetyFrame smbxReplyRegs s t) ∧
  (∀ ws, s.sup.cand = some ws → SmbxTaken 0x42 s → paramBad ws = none → ∃ t, exec .sfParamCheck s = .next t ∧
    t.sup.checked = true ∧ t.sup.pcand = paramCheck ws ∧ t.sup.params = s.sup.params ∧ SmbxReplied 0 (paramCheck ws) s t ∧
    SafetyFrame smbxReplyRegs s t) ∧
  (∀ ws, s.sup.cand = some ws → SmbxTaken 0x43 s → s.sup.st = 1 ∨ s.sup.st = 2 → s.sup.checked = true →
    s.sup.latch.2 = s.sup.pcand → s.sup.present = true → ∃ t, exec .sfParamConfirm s = .next t ∧
    t.sup.params = ws ∧ t.sup.copies = ws :: s.sup.copies.take 1 ∧ t.sup.cand = none ∧ t.sup.st = 2 ∧ SmbxReplied 0 0 s t ∧
    t = { s with regs := t.regs, cmp := t.cmp, rst := t.rst, gate := t.gate, sup := t.sup }) ∧
  (SmbxTaken 0x44 s → s.sup.cand ≠ none → ∃ t, exec .sfParamAbort s = .next t ∧ t.sup.cand = none ∧ t.sup.params = s.sup.params ∧
    SmbxReplied 0 0 s t ∧ SafetyFrame smbxReplyRegs s t) ∧
  (∀ i, bitsOf s.sup.latch.1 15 0 = i → SmbxTaken 0x50 s →  i ≤ 79 → ∃ t, exec .sfReadParam s = .next t ∧ t.sup.params = s.sup.params ∧
    SmbxReplied 0 (if i = 79 then paramCheck s.sup.params else s.par i) s t ∧ SafetyFrame smbxReplyRegs s t)

/-- From every state: a relayed frame is taken with its connection and bytes, or refused while one waits; evaluating a frame on an
enabled connection accepts the expected SEQ in UP, ignores a repeat of the last, faults on any other (cause 2) and on a failed
check (cause 1); a time-out in UP is a fault with cause 3; a sent frame appears packed in TXF with TXSTAT.READY, its
connection and length, OVF when the last was not taken, and TXSEQ advances. (17_safety_unit.md (R459-R462); 17_safety_unit.md
(R464)) -/
def Obligations.SafetyFramesAreCheckedAndSent : Prop :=
  ∀ s : State,
  (∀ init data, s.mustWait .ps SMBX.base = false → s.sup.rx = none →
    ∃ t, exec (.safetyFrameRelay init data) s = .next t ∧
    t.sup.rx = some (bitsOf data 9 8, s.packed (SMBX.base + 0x1C4) (min (bitsOf data 5 0) 44)) ∧ Accepted init (SMBX.base + 0x1C0) t ∧
    t = { s with sup := { s.sup with rx := t.sup.rx }, bus := { s.bus with resp := t.bus.resp } }) ∧
  (∀ init data, s.mustWait .ps SMBX.base = false → s.sup.rx ≠ none →
    ∃ t, exec (.safetyFrameRelay init data) s = .next t ∧ Refused init (SMBX.base + 0x1C0) .refused t ∧ t.sup = s.sup) ∧
  (∀ c bs, s.sup.rx = some (c, bs) → s.parB (60 + 2 * c) 31 = true → s.frameOk c bs = true → c < s.sup.conns.length →
    (nth {} s.sup.conns c).up = true → (nth {} s.sup.conns c).exp = some (beNat ((bs.drop 2).take 2)) →
    ∃ t, exec .safetyFrameReceive s = .next t ∧ t.sup.rx = none ∧
    (nth {} t.sup.conns c).up = true ∧ (nth {} t.sup.conns c).last = beNat ((bs.drop 2).take 2) ∧
    (nth {} t.sup.conns c).exp = some ((beNat ((bs.drop 2).take 2) + 1) % 65536) ∧
    (∀ d, d ≠ c → nth {} t.sup.conns d = nth {} s.sup.conns d) ∧
    t = { s with sup := { s.sup with rx := none, conns := t.sup.conns } }) ∧
  (∀ c bs, s.sup.rx = some (c, bs) → s.parB (60 + 2 * c) 31 = true → c < s.sup.conns.length →
    (s.frameOk c bs = false ∨ ((nth {} s.sup.conns c).up = true ∧
      (nth {} s.sup.conns c).exp ≠ some (beNat ((bs.drop 2).take 2)) ∧ (nth {} s.sup.conns c).last ≠ beNat ((bs.drop 2).take 2))) →
    ∃ t, exec .safetyFrameReceive s = .next t ∧ t.sup.rx = none ∧
    ConnFaulted c (if s.frameOk c bs then 2 else 1) s t) ∧
  (∀ c, c < 4 → c < s.sup.conns.length → s.parB (60 + 2 * c) 31 = true → (nth {} s.sup.conns c).up = true →
    ∃ t, exec (.connectionTimeout c) s = .next t ∧ ConnFaulted c 3 s t) ∧
  (∀ c, c < 4 → c < s.sup.conns.length → s.parB (60 + 2 * c) 31 = true → s.parB (60 + 2 * c) 30 = true → s.sup.st ≠ 0 →
    ∃ t, exec (.safetyFrameSend c) s = .next t ∧
    (∀ i, i < 11 → t.rd (SMBX.base + 0x200 + 4 * i) = Word.ofNat (leNat (((s.sendFrame c).drop (4 * i)).take 4))) ∧
    t.bit (SMBX.base + 0x1F0) 31 = true ∧ t.fld (SMBX.base + 0x1F0) 9 8 = c ∧ t.fld (SMBX.base + 0x1F0) 5 0 = (s.sendFrame c).length ∧
    t.bit (SMBX.base + 0x1F0) 30 = (s.bit (SMBX.base + 0x1F0) 31 || s.bit (SMBX.base + 0x1F0) 30) ∧
    t.bit (SMBX.base + 0x14) 4 = true ∧ (nth {} t.sup.conns c).txSeq = ((nth {} s.sup.conns c).txSeq + 1) % 65536 ∧
    RegsBut (fun a => a = SMBX.base + 0x14 ∨ (SMBX.base + 0x1F0 ≤ a ∧ a < SMBX.base + 0x22C)) s t ∧
    t = { s with regs := t.regs, sup := { s.sup with conns := t.sup.conns } })

/-- From every state: the write of HEALTH.CTRL sets EN and RUN; a schedule chooses the next rotation of the enabled pool once its
interval has passed, the served position that has served longest and hosts and is hosted by none, and chooses nothing while the
controller is off or nothing is due; a slice starts for a unit that waits, with its deadline, while no other runs, and
a late one starts again; a slice that passes is counted and its unit goes back to its pool; the first failure is counted and
the slice repeats; a second one retires the unit; a deadline makes the slice late, counts it, raises its flag and writes its
log record as a TEST slip. All while CLK_FAB runs. Only what each names changes. The interval counts from the last choice (the model's
reading: notes/assumptions/105.md). (18_self_test_and_repair.md (R466, R468); 18_self_test_and_repair.md
(R469, R471, R472); 18_self_test_and_repair.md (R474, R484)) -/
def Obligations.SelfTestSlicesRunPassAndRetire : Prop :=
  ∀ s : State,
  (∀ init data, s.mustWait .fab HEALTH.base = false → ∃ t, exec (.healthEnable init data) s = .next t ∧ t.en HEALTH.base = tb data 0 ∧
    t.bit HEALTH.STAT 8 = tb data 0 ∧ Accepted init (HEALTH.base + 0x0C) t ∧
    RegsBut (fun a => a = HEALTH.base + 0x0C ∨ a = HEALTH.STAT) s t ∧
        t = { s with regs := t.regs, bus := { s.bus with resp := t.bus.resp } }) ∧
  (∀ at_, s.domRun .fab = true → s.en HEALTH.base = true → s.telDue at_ = true → ∀ p q, s.telChoice = some (p, q) →
    exec (.rotationSchedule true at_) s = .next { s with tel := { s.tel with chosen := some (p, q), rotTime := some at_ } } ∧
    s.served p = true ∧ p ∈ s.tel.order ∧ (s.tpos p).host = none ∧ (∀ r, r < 16 → (s.tpos r).host ≠ some p) ∧
    notAbandoned s.tel.rots p = true ∧ (∀ u, s.tel.released.head? = some u → q = s.spareOf u) ∧ s.tel.released ≠ []) ∧
  (∀ at_, s.domRun .fab = true → s.en HEALTH.base = true → s.convDue at_ = true → ∀ q p, s.convChoice = some (q, p) →
    exec (.rotationSchedule false at_) s = .next { s with conv := { s.conv with chosen := some (q, p), rotTime := some at_ } } ∧
    s.en (CV.base p) = true ∧ p ∈ s.conv.order ∧ notAbandoned s.conv.rots p = true ∧
    (∀ u, s.conv.released.head? = some u → q = s.sparePos u) ∧ s.conv.released ≠ []) ∧
  (∀ at_, s.en HEALTH.base = false ∨ s.telDue at_ = false ∨ s.telChoice = none → exec (.rotationSchedule true at_) s = .next s) ∧
  (∀ at_, s.en HEALTH.base = false ∨ s.convDue at_ = false ∨ s.convChoice = none → exec (.rotationSchedule false at_) s = .next s) ∧
  (∀ at_, (s.telDue at_ = true ↔ s.bit HEALTH.ENABLES 0 = true ∧ s.bit TELC.ROTCFG 31 = true ∧ s.fld TELC.ROTSTAT 31 30 = 0 ∧
      ∀ p, s.tel.rotTime = some p → p + max (s.fld HEALTH.SCHED 15 8) 1 * 1600000 ≤ at_) ∧
    (s.convDue at_ = true ↔ s.bit HEALTH.ENABLES 1 = true ∧ s.bit ADCC.ROTCFG 31 = true ∧ s.fld ADCC.ROTSTAT 31 30 = 0 ∧
      ∀ p, s.conv.rotTime = some p → p + max (s.fld HEALTH.SCHED 23 16) 1 * 16000000 ≤ at_)) ∧
  (∀ at_ kind target, s.domRun .fab = true → s.health.slice = none → s.en HEALTH.base = true → s.waitsForTest kind target = true →
    ∃ t, exec (.sliceStart at_ kind target) s = .next t ∧
    t.health.slice = some { kind := kind, target := target, again := false, deadline := at_ + sliceBudget kind, late := false } ∧
    t.bit HEALTH.STAT 9 = true ∧ RegsBut (fun a => a = HEALTH.STAT) s t ∧
    t = { s with regs := t.regs, now := max s.now at_, health := { s.health with slice := t.health.slice } }) ∧
  (∀ x, s.health.slice = some x → ∀ at_, s.domRun .fab = true → x.late = true → ∃ t, exec (.sliceStart at_ x.kind x.target) s = .next t ∧
    t.health.slice = some { x with late := false, deadline := at_ + sliceBudget x.kind } ∧ RegsBut (fun a => a = HEALTH.STAT) s t ∧
    t = { s with regs := t.regs, now := max s.now at_, health := { s.health with slice := t.health.slice } }) ∧
  (∀ x, s.health.slice = some x → ∀ at_ us cycle points, s.domRun .fab = true → x.late = false → x.kind < 3 → s.waitsForTest x.kind x.target = true →
    (x.kind = 1 → s.badPoint points = none) → ∃ t, exec (.sliceEnd at_ us cycle none points) s = .next t ∧ t.health.slice = none ∧
    t.bit HEALTH.STAT 9 = false ∧ t.fld HEALTH.SLICECNT 31 16 = min (s.fld HEALTH.SLICECNT 31 16 + 1) 65535 ∧
    (s.bit HEALTH.LOGBASE 0 = true → t.fld HEALTH.LOGIDX 15 0 = (s.fld HEALTH.LOGIDX 15 0 + 1) % ringSize (s.rd HEALTH.LOGBASE)) ∧
    (x.kind = 1 → t.conv.freed = s.conv.freed.erase x.target ∧ t.conv.released = s.conv.released ++ [x.target] ∧
      RegsBut (fun a => inPage HEALTH.base a ∨ inPage FAB.base a) s t ∧
      t = { s with regs := t.regs, fab := t.fab, conv := t.conv, health := t.health, now := t.now, freeCtr := t.freeCtr }) ∧
    (x.kind = 2 → (t.checker (x.target / 9)).freed = (s.checker (x.target / 9)).freed.erase (x.target % 9) ∧
      (t.checker (x.target / 9)).spare = some (x.target % 9) ∧
          (t.checker (x.target / 9)).serving = (s.checker (x.target / 9)).serving ∧
      RegsBut (fun a => inPage HEALTH.base a ∨ inPage FAB.base a) s t ∧
      t = { s with regs := t.regs, fab := t.fab, health := t.health, now := t.now, freeCtr := t.freeCtr }) ∧
    (x.kind = 0 → (∀ p, p < 14 → s.bit TELC.CAPSTAT (16 + s.unitOf p) = false ∧ x.target ∉ (s.tpos p).mism ∧
        (s.tpos p).takeover ≠ some x.target) →
      t.tel = { s.tel with freed := s.tel.freed.erase x.target, released := s.tel.released ++ [x.target] })) ∧
  (∀ x, s.health.slice = some x → ∀ at_ us cycle w points, s.domRun .fab = true → x.late = false → x.kind < 3 → s.waitsForTest x.kind x.target = true →
    x.again = false → ∃ t, exec (.sliceEnd at_ us cycle (some w) points) s = .next t ∧
    t.health.slice = some { x with again := true, deadline := at_ + sliceBudget x.kind } ∧
    t.fld HEALTH.SLICECNT 15 8 = min (s.fld HEALTH.SLICECNT 15 8 + 1) 255 ∧
        RegsBut (fun a => a = HEALTH.STAT ∨ a = HEALTH.SLICECNT) s t ∧
    t = { s with regs := t.regs, now := max s.now at_, health := { s.health with slice := t.health.slice } }) ∧
  (∀ x, s.health.slice = some x → ∀ at_ us cycle w points, s.domRun .fab = true → x.late = false → s.waitsForTest x.kind x.target = true → x.again = true →
    (x.kind = 0 → x.target < 16 → ∃ t, exec (.sliceEnd at_ us cycle (some w) points) s = .next t ∧ t.health.slice = none ∧
      t.bit HEALTH.RETIRED1 (16 + x.target) = true ∧ t.bit TELC.CAPSTAT (16 + x.target) = true) ∧
    (x.kind = 1 → x.target < 26 → ∃ t, exec (.sliceEnd at_ us cycle (some w) points) s = .next t ∧ t.health.slice = none ∧
      t.bit HEALTH.RETIRED0 x.target = true ∧ t.bit (HEALTH.base + 0x14) 0 = true ∧ t.conv.freed = s.conv.freed.erase x.target ∧
      t.conv.released = s.conv.released.erase x.target ∧ t.fld HEALTH.SPARES 31 24 = s.fld HEALTH.SPARES 31 24 - 1 ∧
      (s.fld HEALTH.SPARES 31 24 = 1 → t.bit (HEALTH.base + 0x14) 1 = true) ∧
      RegsBut (fun a => inPage HEALTH.base a ∨ inPage FAB.base a) s t ∧
      t = { s with regs := t.regs, fab := t.fab, conv := t.conv, health := t.health, now := t.now, freeCtr := t.freeCtr }) ∧
    (x.kind = 2 → x.target < 18 → ∃ t, exec (.sliceEnd at_ us cycle (some w) points) s = .next t ∧ t.health.slice = none ∧
      t.bit HEALTH.RETIRED2 (16 * (x.target / 9) + x.target % 9) = true ∧ t.bit (HEALTH.base + 0x14) 0 = true ∧
      (t.checker (x.target / 9)).freed = (s.checker (x.target / 9)).freed.erase (x.target % 9) ∧
      RegsBut (fun a => inPage HEALTH.base a ∨ inPage FAB.base a) s t ∧
      t = { s with regs := t.regs, fab := t.fab, health := t.health, now := t.now, freeCtr := t.freeCtr })) ∧
  (∀ x, s.health.slice = some x → ∀ us cycle, s.domRun .fab = true → x.late = false → ∃ t, exec (.sliceDeadline us cycle) s = .next t ∧
    t.health.slice = (if x.kind = 3 then none else some { x with late := true }) ∧ t.bit (HEALTH.base + 0x14) 2 = true ∧
    t.fld HEALTH.SLICECNT 7 0 = min (s.fld HEALTH.SLICECNT 7 0 + 1) 255 ∧
    (s.bit HEALTH.LOGBASE 0 = true → s.takeCoin 96 ≠ none → (∀ q ∈ s.fab.stalled, q.init ≠ 96) →
      ∃ q, t.fab.slips.getLast? = some q ∧ t.fab.slips = s.fab.slips ++ [q] ∧ q.init = 96 ∧ q.write = true ∧ q.bytes.length = 16 ∧
      q.addr = s.fld HEALTH.LOGBASE 31 12 * 4096 + 16 * s.fld HEALTH.LOGIDX 15 0 ∧ leNat (q.bytes.take 4) = us % 2 ^ 32 ∧
      leNat ((q.bytes.drop 4).take 4) = x.kind % 16 * 2 ^ 28 + x.target % 256 * 2 ^ 20 + 3 * 2 ^ 16 +
        (Config.recordBase + s.health.records) % 65536) ∧
    RegsBut (fun a => inPage HEALTH.base a ∨ inPage FAB.base a) s t ∧
    t = { s with regs := t.regs, fab := t.fab, health := t.health, freeCtr := t.freeCtr })

/-- From every state: a scheduled check, once its interval has passed, takes the next selected comparator that is on and not claimed,
marks it and holds its line; its end counts a pass, or a failure with its CMPFAIL bit and flag; a checker rotation that is due sets the
spare slice beside the slice that has served longest, and the take-over gives it that slice's group, or sends the spare to its test
after a mismatch; the scrub, when GAP has passed and a coin is free, reads the next word and moves on, past the last memory to the
first with the pass counted; a correctable error is counted and captured and memory stands, an uncorrectable one also marks its word.
While the scrub is off, not due or without a coin it reads nothing. Intervals count from the last start (the model's reading:
notes/assumptions/105.md). (18_self_test_and_repair.md (R476); 18_self_test_and_repair.md (R477); 18_self_test_and_repair.md
(R480, R482, R483)) -/
def Obligations.ChecksOfComparatorsClerksAndMemoryGoOn : Prop :=
  ∀ s : State,
  (∀ n, s.nextCmp = some n → ∀ at_ us cycle, n < s.cmp.length → s.domRun .fab = true → pastDue s.health.cmpTime s.cmpGap at_ = true → s.en HEALTH.base = true → s.bit HEALTH.ENABLES 3 = true →
    s.health.slice = none → s.mustWait .ps (cmpPage n) = false → s.bit (cmpPage n + 0x5C) 31 = false →
    ∃ t, exec (.comparatorCheckSchedule at_ us cycle) s = .next t ∧ (t.cmpAt n).check = true ∧ t.bit (cmpPage n + 0x5C) 31 = true ∧
    t.health.cmpLast = n ∧ t.health.cmpTime = some at_ ∧ t.health.slice = some { kind := 3, target := n, deadline := at_ + 320000 } ∧ t.bit HEALTH.STAT 9 = true ∧
    (∀ m, m ≠ n → t.cmpAt m = s.cmpAt m) ∧ RegsBut (fun a => inPage (cmpPage n) a ∨ a = HEALTH.STAT) s t ∧
    t = { s with regs := t.regs, cmp := t.cmp, sup := { s.sup with wc := t.sup.wc, pcCur := t.sup.pcCur }, health := t.health, now := t.now,
                 bus := { s.bus with resp := t.bus.resp } }) ∧
  (∀ x, s.health.slice = some x → ∀ at_ us cycle sig points, s.domRun .fab = true → x.late = false → x.kind = 3 → x.target < 56 →
    s.bit (cmpPage x.target + 0x5C) 31 = false → ∃ t, exec (.sliceEnd at_ us cycle sig points) s = .next t ∧ t.health.slice = none ∧
    (s.bit (cmpPage x.target + 0x5C) 30 = false → t.fld HEALTH.SLICECNT 31 16 = min (s.fld HEALTH.SLICECNT 31 16 + 1) 65535) ∧
    (s.bit (cmpPage x.target + 0x5C) 30 = true → t.bit (HEALTH.CMPFAIL (x.target / 32)) (x.target % 32) = true ∧
      t.bit (HEALTH.base + 0x14) 3 = true ∧ t.fld HEALTH.SLICECNT 15 8 = min (s.fld HEALTH.SLICECNT 15 8 + 1) 255) ∧
    RegsBut (fun a => inPage HEALTH.base a ∨ inPage FAB.base a) s t ∧
    t = { s with regs := t.regs, fab := t.fab, health := t.health, now := t.now, freeCtr := t.freeCtr }) ∧
  (∀ c at_, c < 2 → s.domRun .fab = true → s.en HEALTH.base = true → s.bit HEALTH.ENABLES 2 = true → (s.checker c).spare ≠ none →
    (s.checker c).parallel = false → s.rst.coreMask.testBit c = false → pastDue (nth none s.health.chkTime c) s.clkGap at_ = true →
    ∃ t, exec (.checkerRotation c at_) s = .next t ∧
    t.checker c = { s.checker c with parallel := true } ∧ t.checker (1 - c) = s.checker (1 - c) ∧
    t = { s with health := { s.health with chk0 := t.health.chk0, chk1 := t.health.chk1,
                                           chkTime := upd s.health.chkTime c (fun _ => some at_) } }) ∧
  (∀ c at_, pastDue (nth none s.health.chkTime c) s.clkGap at_ = false → exec (.checkerRotation c at_) s = .next s) ∧
  (∀ c b, (s.checker c).parallel = false → exec (.checkerTakeover c b) s = .next s) ∧
  (∀ c, c < 2 → ∀ k, (s.checker c).spare = some k → ∀ x rest, (s.checker c).serving = x :: rest → s.domRun .fab = true →
    (s.checker c).parallel = true → s.rst.coreMask.testBit c = false → (∃ t, exec (.checkerTakeover c false) s = .next t ∧
      t.checker c = { serving := rest ++ [(k, x.2)], spare := none, freed := (s.checker c).freed ++ [x.1], parallel := false } ∧
      t.checker (1 - c) = s.checker (1 - c) ∧
          t = { s with health := { s.health with chk0 := t.health.chk0, chk1 := t.health.chk1 } }) ∧
    ∃ t, exec (.checkerTakeover c true) s = .next t ∧
      t.checker c = { serving := (s.checker c).serving, spare := none, freed := (s.checker c).freed ++ [k], parallel := false } ∧
      t.checker (1 - c) = s.checker (1 - c) ∧
          t = { s with health := { s.health with chk0 := t.health.chk0, chk1 := t.health.chk1 } }) ∧
  (∀ us cycle, s.bit HEALTH.ENABLES 4 = true → s.domRun .fab = true → s.scrubDue cycle = true → s.coinStall 97 = false → 
    s.scrubAddr / 16 * 16 ∉ s.health.bad →
      ∃ t, exec (.scrubRead us cycle none) s = .next t ∧
    (16 * (s.health.scrubWord + 1) < (memRange s.health.scrubMem).2 → t.health.scrubMem = s.health.scrubMem ∧
      t.health.scrubWord = s.health.scrubWord + 1) ∧
    ((memRange s.health.scrubMem).2 ≤ 16 * (s.health.scrubWord + 1) → s.health.scrubMem < 0x45 →
      t.health.scrubMem = s.health.scrubMem + 1 ∧ t.health.scrubWord = 0) ∧
    ((memRange s.health.scrubMem).2 ≤ 16 * (s.health.scrubWord + 1) → s.health.scrubMem = 0x45 → t.health.scrubMem = 0 ∧
      t.health.scrubWord = 0 ∧ t.fld HEALTH.MEMCFG 31 16 = (s.fld HEALTH.MEMCFG 31 16 + 1) % 65536) ∧
    RegsBut (fun a => a = HEALTH.MEMCFG) s t ∧
    t = { s with regs := t.regs, health := { s.health with scrubMem := t.health.scrubMem, scrubWord := t.health.scrubWord,
                                                           scrubTime := some cycle } }) ∧
  (∀ us cycle e, s.bit HEALTH.ENABLES 4 = true → s.domRun .fab = true → s.scrubDue cycle = true → s.coinStall 97 = false → 
    s.scrubAddr / 16 * 16 ∉ s.health.bad →
    ∃ t, exec (.scrubRead us cycle (some e)) s = .next t ∧ t.bit (HEALTH.base + 0x14) 4 = true ∧ t.bit HEALTH.MEMERR 31 = true ∧
    (e.uncorr = false → t.fld HEALTH.MEMCNT 31 16 = min (s.fld HEALTH.MEMCNT 31 16 + 1) 65535 ∧ t.health.bad = s.health.bad) ∧
    (e.uncorr = true → t.fld HEALTH.MEMCNT 15 0 = min (s.fld HEALTH.MEMCNT 15 0 + 1) 65535 ∧
      t.health.bad = s.health.bad ++ [s.scrubAddr / 16 * 16]) ∧
    (s.bit HEALTH.MEMERR 31 = false → t.rd HEALTH.MEMADDR = Word.ofNat s.scrubAddr ∧ t.bit HEALTH.MEMERR 30 = e.uncorr ∧
      t.fld HEALTH.MEMERR 23 16 = s.health.scrubMem % 256) ∧
    (s.bit HEALTH.MEMERR 31 = true → t.rd HEALTH.MEMERR = s.rd HEALTH.MEMERR ∧ t.rd HEALTH.MEMADDR = s.rd HEALTH.MEMADDR) ∧
    RegsBut (fun a => inPage HEALTH.base a ∨ inPage FAB.base a) s t ∧
    t = { s with regs := t.regs, fab := t.fab, health := t.health, freeCtr := t.freeCtr }) ∧
  (∀ us cycle ecc, s.bit HEALTH.ENABLES 4 = false ∨ s.scrubDue cycle = false ∨ s.coinStall 97 = true → exec (.scrubRead us cycle ecc) s = .next s)

/-- From every state of the shape and for every lane: enabling starts ALIGN with the running disparity negative; disabling ends in OFF
and retraining in LOST or ALIGN, from RUN with a loss of reports; alignment leads to OFFER; in a slot the lane sends its frame with its
check value as 50 symbols of the line code, in RUN with the next SEQ, and what a receiver decodes of a frame's symbols are its bytes;
the third identical OFFER in a row selects the highest common version, or fails without one; the acknowledgement of that version enters
RUN; a frame that is not clean and in form is counted and refused; a code error is counted, and the fourth within 64 symbols in RUN is a
loss; the report timer's end is a loss; a training time-out leads to LOST and a retry from it to ALIGN, each when its count has passed.
Other lanes and other half-bridges stand. The code's tables are those of the standard that R488 names (PRESUMED:
notes/assumptions/97.md); the timers count from the latest instant known (the model's reading: notes/assumptions/72.md).
(19_oxernal_link.md (R488, R489, R491); 19_oxernal_link.md (R497-R499); 19_oxernal_link.md (R501, R503)) -/
def Obligations.OxernalLanesTrainRunAndLoseTheLink : Prop :=
  (∀ (pos : Bool) (bs : List Byte), decodeFrame (frameSymbols pos bs).1 = some bs) ∧
  (∀ typ len (frame : List Symbol) (bs : List Byte), acceptFrame typ len frame = some bs ↔ decodeFrame frame = some bs ∧ OxFrameOk bs typ len) ∧
  ∀ (s : State) (n : Nat), s.Shaped → n < 8 →
  (∀ init, s.mustWait .ox (OX.base n) = false → s.oxState n = 0 → ∃ t, exec (.oxLaneEnable init n) s = .next t ∧
    t.en (OX.base n) = true ∧ t.oxState n = 1 ∧ t.lane n = { s.lane n with timer := s.now, disparity := false } ∧
    Accepted init (OX.base n + 0x0C) t ∧ OxWriteFrame n s t ∧ t.gate = s.gate) ∧
  (∀ init, s.mustWait .ox (OX.base n) = false → ∃ t, exec (.oxLaneDisable init n) s = .next t ∧
    t.en (OX.base n) = false ∧ t.oxState n = 0 ∧ (s.oxState n = 4 → OxLost n s t) ∧ (s.oxState n ≠ 4 → t.gate = s.gate) ∧
    Accepted init (OX.base n + 0x0C) t ∧ OxWriteFrame n s t ∧ t.ox = s.ox) ∧
  (∀ init, s.mustWait .ox (OX.base n) = false → ∃ t, exec (.oxRetrain init n) s = .next t ∧ t.en (OX.base n) = true ∧
    (s.oxState n = 4 → t.oxState n = 5 ∧ OxLost n s t) ∧ (s.oxState n ∈ [1, 2, 3] → t.oxState n = 5 ∧ t.gate = s.gate) ∧
    (s.oxState n = 5 → s.bit (OX.CFG n) 31 = false → t.oxState n = 1) ∧ (s.oxState n = 6 → t.oxState n = 6 ∧ t.ox = s.ox) ∧
    (s.oxState n = 0 → t.oxState n = 1) ∧ (s.oxState n ∈ [1, 2, 3, 4, 5] → t.lane n = { s.lane n with timer := s.now }) ∧
    Accepted init (OX.base n + 0x0C) t ∧ OxWriteFrame n s t) ∧
  (s.domRun .ox = true → s.oxState n = 1 → ∃ t, exec (.oxAlignDone n) s = .next t ∧ t.oxState n = 2 ∧
    t.lane n = { s.lane n with offer := [], same := 0 } ∧ OxFrame n s t ∧ t.gate = s.gate) ∧
  (s.oxListens n = true → ∃ t, exec (.oxSlot n) s = .next t ∧ (t.lane n).tx = s.oxFrame n ∧ crc16Ok (t.lane n).tx = true ∧
    byteAt (t.lane n).tx 0 = (if s.oxState n = 2 then 0x81 else if s.oxState n = 3 then 0x82 else 0x90) ∧
    (t.lane n).symbols = (slotSymbols (s.lane n).disparity (s.oxFrame n)).1 ∧ (t.lane n).symbols.length = 50 ∧
    decodeFrame ((t.lane n).symbols.take ((t.lane n).tx.length + 2)) = some (t.lane n).tx ∧
    (t.lane n).slots = (s.lane n).slots + 1 ∧ (s.en (OX.base n) = true → t.oxLine n = (t.lane n).symbols) ∧
    (s.oxState n = 4 → (t.lane n).txSeq = ((s.lane n).txSeq + 1) % 256 ∧ byteAt (t.lane n).tx 1 = (s.lane n).txSeq % 256 ∧
      byteAt (t.lane n).tx 2 = s.fld (OX.LINKSTAT n) 15 8) ∧
    (∀ m, m ≠ n → t.lane m = s.lane m) ∧ t = { s with ox := t.ox }) ∧
  (s.oxListens n = false → exec (.oxSlot n) s = .next s) ∧
  (∀ frame, ∀ bytes, acceptFrame 0x01 10 frame = some bytes → s.oxListens n = true → s.oxState n = 2 →
    ∀ k, k = (if (s.lane n).offer = bytes ∧ 0 < (s.lane n).same then (s.lane n).same + 1 else 1) →
    ∃ t, exec (.offerReceive n frame) s = .next t ∧ t.fld (OX.LINKSTAT n) 17 16 = byteAt bytes 1 % 4 ∧
    t.rd (OX.SATID n) = Word.ofNat (be16 bytes 2 * 65536 + be16 bytes 4) ∧ t.rd (OX.SATREV n) = Word.ofNat (be16 bytes 6) ∧
    (t.lane n).offer = bytes ∧ (t.lane n).same = k ∧ (k ≠ 3 → t.oxState n = 2 ∧ t.gate = s.gate) ∧
    (k = 3 → s.oxOffer n &&& byteAt bytes 1 % 4 = 0 → t.oxState n = 6 ∧ t.bit (OX.STAT n) 3 = true ∧
        t.bit (OX.base n + 0x14) 3 = true ∧
      OxUnreported n t) ∧
    (k = 3 → s.oxOffer n &&& byteAt bytes 1 % 4 ≠ 0 → t.oxState n = 3 ∧ t.gate = s.gate ∧
      (t.lane n).sel = if (s.oxOffer n &&& byteAt bytes 1 % 4).testBit 1 then 2 else 1) ∧ OxFrame n s t) ∧
  (∀ frame, ∀ bytes, acceptFrame 0x02 4 frame = some bytes → ∀ at_, s.oxListens n = true → s.oxState n = 3 →
    byteAt bytes 1 = (s.lane n).sel →
    ∃ t, exec (.selectAckReceive n frame at_) s = .next t ∧ t.oxState n = 4 ∧ t.bit (OX.base n + 0x14) 1 = true ∧
    t.fld (OX.LINKSTAT n) 25 24 = (s.lane n).sel % 4 ∧
    t.lane n = { s.lane n with rxSeq := none, errs := [], timer := max s.now at_ } ∧ OxUnreported n t ∧
    OxFrame n (s.atTime at_) t) ∧
  (∀ frame at_, s.oxListens n = true →
    (acceptFrame 0x01 10 frame = none → ∃ t, exec (.offerReceive n frame) s = .next t ∧ OxRefused n s t) ∧
    (acceptFrame 0x02 4 frame = none → ∃ t, exec (.selectAckReceive n frame at_) s = .next t ∧ OxRefused n s t) ∧
    (s.oxAccepts n frame = none → ∃ t, exec (.reportReceive n frame at_) s = .next t ∧ OxRefused n s t)) ∧
  (∀ symbol, s.domRun .ox = true → s.oxState n ≠ 0 →
    ∀ es, es = (s.lane n).errs.filter (fun e => decide (symbol < e + 64)) ++ [symbol] →
    ∃ t, exec (.oxCodeError n symbol) s = .next t ∧ t.fld (OX.ERRCNT n) 15 0 = min (s.fld (OX.ERRCNT n) 15 0 + 1) 65535 ∧
    t.bit (OX.STAT n) 1 = true ∧ t.bit (OX.base n + 0x14) 0 = true ∧
    (s.oxState n = 4 → (t.lane n).errs = es ∧ (4 ≤ es.length → t.oxState n = 5 ∧ OxLost n s t) ∧ (es.length < 4 → t.oxState n = 4)) ∧
    (s.oxState n ≠ 4 → t.oxState n = s.oxState n ∧ t.ox = s.ox) ∧ OxFrame n s t) ∧
  (∀ at_, s.domRun .pwm = true → s.oxState n = 4 → (s.lane n).timer + 32000 * max (s.fld (OX.CFG n) 23 16) 2 ≤ at_ →
    ∃ t, exec (.reportLoss n at_) s = .next t ∧ t.oxState n = 5 ∧ OxLost n s t ∧ t.lane n = { s.lane n with timer := max s.now at_ } ∧
    OxFrame n (s.atTime at_) t) ∧
  (∀ at_, s.oxState n ≠ 4 ∨ at_ < (s.lane n).timer + 32000 * max (s.fld (OX.CFG n) 23 16) 2 → exec (.reportLoss n at_) s = .next s) ∧
  (∀ at_, s.domRun .ox = true → 1 ≤ s.oxState n → s.oxState n ≤ 3 → (s.lane n).timer + 160000 * max (s.fld (OX.CFG n) 7 0) 1 ≤ at_ →
    ∃ t, exec (.trainTimeout n at_) s = .next t ∧ t.oxState n = 5 ∧ t.bit (OX.STAT n) 4 = true ∧
    t.bit (OX.base n + 0x14) 4 = true ∧ t.lane n = { s.lane n with timer := max s.now at_ } ∧ OxFrame n (s.atTime at_) t ∧ t.gate = s.gate) ∧
  (∀ at_, s.domRun .ox = true → s.oxState n = 5 → s.bit (OX.CFG n) 31 = true →
    (s.lane n).timer + 160000 * max (s.fld (OX.CFG n) 15 8) 2 ≤ at_ → ∃ t, exec (.oxRetry n at_) s = .next t ∧ t.oxState n = 1 ∧
    t.lane n = { s.lane n with timer := max s.now at_ } ∧ OxFrame n (s.atTime at_) t ∧ t.gate = s.gate) ∧
  (∀ at_, at_ < (s.lane n).timer + 160000 → exec (.trainTimeout n at_) s = .next s ∧ exec (.oxRetry n at_) s = .next s)

/-- From every state of the shape and for every lane: in RUN a report in form with a new SEQ shows its SEQ, temperature, driver
status and supplies, counts the reports that are missing before it, and gives the six half-bridges their supplies, a low one
as undervoltage, while CLK_PWM runs; the reply of the outstanding command in it completes that command; a repeat changes nothing. A
satellite command written in RUN while none is outstanding goes out under a TAG other than the last one, and is refused outside RUN; 16
slots without a reply end it with the time-out bit, fewer do not. Other lanes and other half-bridges stand. That the words are lost to
the gate units while CLK_PWM stands is the model's reading (notes/assumptions/72.md). (19_oxernal_link.md (R489, R492, R493,
R500, R503); 19_oxernal_link.md (R494, R495); 09_bridge_protection.md (R237)) -/
def Obligations.OxernalReportsAndSatelliteCommandsPass : Prop :=
  ∀ (s : State) (n : Nat), s.Shaped → n < 8 →
  (∀ frame, ∀ bytes, s.oxAccepts n frame = some bytes → ∀ at_, s.oxListens n = true → s.oxState n = 4 →
    (s.lane n).rxSeq ≠ some (byteAt bytes 1) → ∃ t, exec (.reportReceive n frame at_) s = .next t ∧
    t.fld (OX.LINKSTAT n) 15 8 = byteAt bytes 1 ∧ t.rd (OX.TEMP n) = Word.ofNat (be16 bytes 38) ∧
        (t.lane n).rxSeq = some (byteAt bytes 1) ∧
    t.fld (OX.LINKCNT n) 15 0 = min (s.fld (OX.LINKCNT n) 15 0 + (byteAt bytes 1 + 255 - (s.lane n).rxSeq.getD 255) % 256) 65535 ∧
    ((s.lane n).sel = 2 → t.rd (OX.STREAMVAL n) = Word.ofNat (be16 bytes 40 * 65536 + be16 bytes 42)) ∧
    (∀ i, i < 6 → t.fld (OX.DRVSTAT n i) 7 0 = byteAt bytes (32 + i) ∧
      t.fld (OX.DRVSTAT n i) 15 8 = s.fld (OX.DRVSTAT n i) 15 8 ||| byteAt bytes (32 + i) ∧
      (s.domRun .pwm = true →
        t.rd (UVRPT (6 * n + i)) = Word.ofNat (2 ^ 31 + supplyOf (be16 bytes (8 + 4 * i)) * 65536 + supplyOf (be16 bytes (10 + 4 * i))) ∧
        (supplyOf (be16 bytes (8 + 4 * i)) < s.fld (GATE.UVCFG ((6 * n + i) / 4)) 9 0 ∨
          supplyOf (be16 bytes (10 + 4 * i)) < s.fld (GATE.UVCFG ((6 * n + i) / 4)) 9 0 → (t.hb (6 * n + i)).uv = true))) ∧
    (s.domRun .pwm = false → t.gate = s.gate) ∧ (t.lane n).timer = max s.now at_ ∧
    ((byteAt bytes 2).testBit 3 = true → (s.lane n).cmd ≠ none → byteAt bytes 4 = (s.lane n).tag →
      t.rd (OX.SARESP n) = Word.ofNat (2 ^ 31 + byteAt bytes 5 * 65536 + be16 bytes 6) ∧ t.bit (OX.SACMD n) 30 = false ∧
      t.bit (OX.base n + 0x14) 5 = true ∧ (t.lane n).cmd = none) ∧
    ((byteAt bytes 2).testBit 3 = false ∨ (s.lane n).cmd = none ∨ byteAt bytes 4 ≠ (s.lane n).tag →
      t.rd (OX.SARESP n) = s.rd (OX.SARESP n) ∧ (t.lane n).cmd = (s.lane n).cmd) ∧
    t.oxState n = 4 ∧ OxFrame n (s.atTime at_) t) ∧
  (∀ frame, ∀ bytes, s.oxAccepts n frame = some bytes → ∀ at_, s.oxListens n = true → s.oxState n = 4 →
    (s.lane n).rxSeq = some (byteAt bytes 1) → exec (.reportReceive n frame at_) s = .next s) ∧
  (∀ frame bs, s.oxAccepts n frame = some bs ↔ decodeFrame frame = some bs ∧ ((s.lane n).sel = 2 → OxFrameOk bs 0x20 46) ∧
    ((s.lane n).sel ≠ 2 → OxFrameOk bs 0x10 42)) ∧
  (∀ init reg, s.mustWait .ox (OX.base n) = false → s.ver (OX.base n) = 2 → s.bit (OX.SACMD n) 30 = false → s.oxState n = 4 →
    (∃ t, exec (.satRead init n reg) s = .next t ∧ SatIssued 1 init n reg s t) ∧
    (∃ t, exec (.satWrite init n reg) s = .next t ∧ SatIssued 2 init n reg s t) ∧
    ((s.lane n).sel = 2 → ∃ t, exec (.satSelftest init n reg) s = .next t ∧ SatIssued 3 init n reg s t) ∧
    ((s.lane n).sel = 2 → ∃ t, exec (.satStream init n reg) s = .next t ∧ SatIssued 4 init n reg s t)) ∧
  (∀ init reg, s.mustWait .ox (OX.base n) = false → s.oxState n ≠ 4 ∨ s.bit (OX.SACMD n) 30 = true →
    (∃ t, exec (.satRead init n reg) s = .next t ∧ Refused init (OX.SACMD n) .refused t ∧ t.ox = s.ox ∧
      t.rd (OX.SACMD n) = s.rd (OX.SACMD n)) ∧
    (∃ t, exec (.satWrite init n reg) s = .next t ∧ Refused init (OX.SACMD n) .refused t ∧ t.ox = s.ox ∧
      t.rd (OX.SACMD n) = s.rd (OX.SACMD n)) ∧
    (∃ t, exec (.satSelftest init n reg) s = .next t ∧ Refused init (OX.SACMD n) .refused t ∧ t.ox = s.ox ∧
      t.rd (OX.SACMD n) = s.rd (OX.SACMD n)) ∧
    (∃ t, exec (.satStream init n reg) s = .next t ∧ Refused init (OX.SACMD n) .refused t ∧ t.ox = s.ox ∧
      t.rd (OX.SACMD n) = s.rd (OX.SACMD n))) ∧
  ((s.lane n).cmd ≠ none → 16 ≤ (s.lane n).slots → ∃ t, exec (.satCommandTimeout n) s = .next t ∧ t.bit (OX.SARESP n) 30 = true ∧
      t.bit (OX.SACMD n) 30 = false ∧
    t.bit (OX.base n + 0x14) 5 = true ∧ t.lane n = { s.lane n with cmd := none } ∧ OxFrame n s t ∧ t.gate = s.gate) ∧
  ((s.lane n).cmd = none ∨ (s.lane n).slots < 16 → exec (.satCommandTimeout n) s = .next s)

/-- From every state of the shape and for each MAC: a frame beyond MAXLEN or 9,022 bytes, or with a wrong check sequence, is counted
alone; a PAUSE frame is counted and holds the transmitter; one that the filters do not pass leaves nothing; an accepted one enters the
receive buffer, or is dropped whole and counted, and goes through one filled descriptor into memory byte for byte once the DMA has a
coin; a filled transmit frame is sent whole and counted, not while a pause holds or no coin is free; a link change, a pause frame, a
restart of auto-negotiation and a counter clear do what they name; a PTP step moves the time; an edge on PPS_IN is stamped; PPS_OUT
rises at a second and falls after its width; the target is flagged once reached; a pop removes the oldest timestamp. Nothing else
changes. The pause quantum (PRESUMED) and the tolerance of the second are the model's (notes/assumptions/74.md, 109.md).
(20_host_and_vehicle_interfaces.md (R512); 20_host_and_vehicle_interfaces.md (R514); 20_host_and_vehicle_interfaces.md (R529)) -/
def Obligations.EthernetMovesFramesAndKeepsTheTime : Prop :=
  ∀ (s : State) (m : Nat), s.Shaped → m < 2 →
  (∀ at_ frame ptp err, s.en (ETH.base m) = true → s.bit (ETH.MACCFG m) 30 = true → s.domRun .eth = true →
    (min (s.fld (ETH.MACCFG m) 13 0) 9022 < frame.length → ∃ t, exec (.ethFrameReceive m at_ frame ptp err) s = .next t ∧
      t.rd (ETH.CNT m 3) = Word.ofNat (min ((s.rd (ETH.CNT m 3)).toNat + 1) (2 ^ 32 - 1)) ∧ RegsBut (fun a => a = ETH.CNT m 3) s t ∧
      t = { s with regs := t.regs, now := max s.now at_ }) ∧
    (frame.length ≤ s.ethMax m → fcsOk frame = false → ∃ t, exec (.ethFrameReceive m at_ frame ptp err) s = .next t ∧
      t.rd (ETH.CNT m 1) = Word.ofNat (min ((s.rd (ETH.CNT m 1)).toNat + 1) (2 ^ 32 - 1)) ∧ RegsBut (fun a => a = ETH.CNT m 1) s t ∧
      t = { s with regs := t.regs, now := max s.now at_ }) ∧
    (frame.length ≤ s.ethMax m → fcsOk frame = true → s.bit (ETH.MACCFG m) 26 = true → isPause frame = true →
      ∃ t, exec (.ethFrameReceive m at_ frame ptp err) s = .next t ∧
      t.rd (ETH.CNT m 6) = Word.ofNat (min ((s.rd (ETH.CNT m 6)).toNat + 1) (2 ^ 32 - 1)) ∧
      t.mac m = { s.mac m with pausedTo := max s.now at_ + 8192 * ((frame.getD 16 0).toNat * 256 + (frame.getD 17 0).toNat) } ∧
      (∀ k, k ≠ m → t.mac k = s.mac k) ∧ RegsBut (fun a => a = ETH.CNT m 6) s t ∧
      t = { s with regs := t.regs, eth := t.eth, now := max s.now at_ }) ∧
    (frame.length ≤ s.ethMax m → fcsOk frame = true → isPause frame = false → s.ethPasses m frame = false →
      exec (.ethFrameReceive m at_ frame ptp err) s = .next (s.atTime at_)) ∧
    (frame.length ≤ s.ethMax m → fcsOk frame = true → isPause frame = false → s.ethPasses m frame = true →
      tb (s.shown (ETH.SECCFG m)) 31 = false → s.bit (ETH.MACCFG m) 27 = false → s.coinStall (81 + m) = true →
      ∃ t, exec (.ethFrameReceive m at_ frame ptp err) s = .next t ∧
      (∀ used, used = ((s.mac m).rxq.map (fun x => x.bytes.length)).foldl (· + ·) 0 →
        (used + frame.length ≤ 16384 → ∃ f, (t.mac m).rxq.getLast? = some f ∧ (t.mac m).rxq = (s.mac m).rxq ++ [f] ∧
          f.bytes = (if Config.ethStoresFcs then frame else frame.take (frame.length - 4)) ∧ f.tag = none ∧ f.ts.isSome = ptp.isSome) ∧
        (16384 < used + (frame.length - 4) → (t.mac m).rxq = (s.mac m).rxq ∧ t.bit (ETH.base m + 0x14) 2 = true ∧
          t.rd (ETH.CNT m 2) = Word.ofNat (min ((s.rd (ETH.CNT m 2)).toNat + 1) (2 ^ 32 - 1)))) ∧
      (ptp = none → (t.mac m).fifo = (s.mac m).fifo) ∧
      (ptp ≠ none → (s.mac m).fifo.length < 16 → t.bit (ETH.base m + 0x14) 8 = true ∧
        t.rd (ETH.TSSTAT m) = Word.ofNat ((s.mac m).fifo.length + 1) ∧
        ∃ e, (t.mac m).fifo.getLast? = some e ∧ (t.mac m).fifo = (s.mac m).fifo ++ [e] ∧ e.tx = false) ∧
      (∀ k, k ≠ m → t.mac k = s.mac k) ∧ RegsBut (inPage (ETH.base m)) s t ∧
      t = { s with regs := t.regs, eth := t.eth, now := max s.now at_ }) ∧
    (∀ d, d = s.descAddr (ETH.RXRING m) (s.fld (ETH.RXRING m + 8) 11 0) → ∀ a, a = (s.memWord d).toNat →
      frame.length ≤ s.ethMax m → fcsOk frame = true → isPause frame = false → s.ethPasses m frame = true →
      tb (s.shown (ETH.SECCFG m)) 31 = false → s.bit (ETH.MACCFG m) 27 = false → ptp = none → s.coinStall (81 + m) = false →
      (s.mac m).rxq = [] → frame.length ≤ max (s.fld (ETH.RXBUFSZ m) 13 0) 64 →
      s.ringReady (ETH.RXRING m) 1 = true → s.dmaOk a frame.length = true → a + frame.length ≤ d ∨ d + 16 ≤ a →
      ∃ t, exec (.ethFrameReceive m at_ frame ptp err) s = .next t ∧
      (∀ b, b = (if Config.ethStoresFcs then frame else frame.take (frame.length - 4)) →
        t.getBytes a b.length = b ∧ t.memWord (d + 4) = Word.ofNat (3 * 2 ^ 29 + b.length)) ∧
      t.fld (ETH.RXRING m + 8) 11 0 = s.ringNext (ETH.RXRING m) (s.fld (ETH.RXRING m + 8) 11 0) % 4096 ∧
      t.rd (ETH.CNT m 0) = Word.ofNat (min ((s.rd (ETH.CNT m 0)).toNat + 1) (2 ^ 32 - 1)) ∧ t.bit (ETH.base m + 0x14) 0 = true ∧
      t.eth = s.eth ∧ MemBut (fun x => (a ≤ x ∧ x < a + frame.length) ∨ (d + 4 ≤ x ∧ x < d + 8)) s t ∧
      RegsBut (inPage (ETH.base m)) s t ∧
      t = { s with regs := t.regs, mem := t.mem, clerk0 := t.clerk0, clerk1 := t.clerk1, health := t.health, now := max s.now at_ })) ∧
  (∀ at_ ptp err, s.en (ETH.base m) = true → s.bit (ETH.MACCFG m) 31 = true → s.domRun .eth = true →
    (s.txCount m = none → exec (.ethFrameTransmit m at_ ptp err) s = .next (s.atTime at_)) ∧
    (max s.now at_ < (s.mac m).pausedTo ∨ s.coinStall (81 + m) = true → exec (.ethFrameTransmit m at_ ptp err) s = .next (s.atTime at_)) ∧
    (∀ n, s.txCount m = some n → ∀ ds, ds = (List.range n).map (fun i => s.descAddr (ETH.TXRING m) (s.ringAt (ETH.TXRING m) i)) →
      ptp = none → (s.mac m).pausedTo ≤ max s.now at_ → s.coinStall (81 + m) = false →
      (∀ d ∈ ds, s.dmaOk (s.memWord d).toNat (bitsOf (s.memWord (d + 4)) 13 0) = true) → tb (s.shown (ETH.SECCFG m)) 31 = false →
      ∃ t, exec (.ethFrameTransmit m at_ ptp err) s = .next t ∧ (t.mac m).sent = (ds.map s.txPiece).flatten ∧
      t.rd (ETH.CNT m 4) = Word.ofNat (min ((s.rd (ETH.CNT m 4)).toNat + 1) (2 ^ 32 - 1)) ∧ t.bit (ETH.base m + 0x14) 1 = true ∧
      t.fld (ETH.TXRING m + 8) 11 0 = s.ringAt (ETH.TXRING m) n % 4096 ∧ (t.mac m).rxq = (s.mac m).rxq ∧
      (t.mac m).fifo = (s.mac m).fifo ∧
      (∀ d, ds = [d] → t.memWord (d + 4) = s.memWord (d + 4) &&& 0x7FFFFFFF) ∧ MemBut (fun x => ∃ d ∈ ds, d + 4 ≤ x ∧ x < d + 8) s t ∧
      RegsBut (inPage (ETH.base m)) s t ∧
      t = { s with regs := t.regs, mem := t.mem, clerk0 := t.clerk0, clerk1 := t.clerk1, health := t.health, eth := t.eth,
                   freeCtr := t.freeCtr, now := max s.now at_ })) ∧
  (∀ link done partner, s.domRun .eth = true → s.en (ETH.base m) = true → ∃ t, exec (.linkChange m link done partner) s = .next t ∧
    t.bit (ETH.ANSTAT m) 31 = link ∧ t.bit (ETH.ANSTAT m) 30 = (done && s.bit (ETH.ANCTL m) 31) ∧
    t.fld (ETH.ANSTAT m) 15 0 = partner % 65536 ∧
    (s.bit (ETH.ANSTAT m) 31 ≠ link → t.bit (ETH.base m + 0x14) 3 = true) ∧
    RegsBut (fun a => a = ETH.ANSTAT m ∨ a = ETH.base m + 0x14) s t ∧ t = { s with regs := t.regs }) ∧
  (∀ init, s.mustWait .eth (ETH.base m) = false → ∃ t, exec (.ethCounterClear init m) s = .next t ∧ (∀ k, k < 8 →
      t.rd (ETH.CNT m k) = 0) ∧
    Accepted init (ETH.CNTCLR m) t ∧ RegsBut (fun a => ETH.CNT m 0 ≤ a ∧ a ≤ ETH.CNT m 7) s t ∧
    t = { s with regs := t.regs, bus := { s.bus with resp := t.bus.resp } }) ∧
  (∀ init data, s.mustWait .eth (ETH.base m) = false → s.en (ETH.base m) = true → s.bit (ETH.MACCFG m) 31 = true →
    ∃ t, exec (.ethPauseSend init m data) s = .next t ∧ (t.mac m).sent = s.pauseFrame m (bitsOf data 15 0) ∧
    t.rd (ETH.CNT m 5) = Word.ofNat (min ((s.rd (ETH.CNT m 5)).toNat + 1) (2 ^ 32 - 1)) ∧ Accepted init (ETH.PAUSE m) t ∧
    RegsBut (fun a => a = ETH.PAUSE m ∨ a = ETH.CNT m 5) s t ∧
        t = { s with regs := t.regs, eth := t.eth, bus := { s.bus with resp := t.bus.resp } }) ∧
  (∀ init data, s.mustWait .eth (ETH.base m) = false → tb data 31 = true → ∃ t, exec (.anRestart init m data) s = .next t ∧
    t.bit (ETH.ANSTAT m) 30 = false ∧ t.bit (ETH.ANCTL m) 31 = true ∧ Accepted init (ETH.ANCTL m) t ∧
    RegsBut (fun a => a = ETH.ANCTL m ∨ a = ETH.ANSTAT m) s t ∧
        t = { s with regs := t.regs, bus := { s.bus with resp := t.bus.resp } }) ∧
  (∀ init at_, s.mustWait .eth (ETH.base m) = false → ∃ t, exec (.ptpStep init m at_) s = .next t ∧ t.ptp.since = max s.now at_ ∧
    t.ptp.time = ptpPlus (s.atTime at_).ptpNow ((s.rd PTP.STEPSEC).toInt * 1000000000 + toSigned 31 (s.rd PTP.STEPNS).toNat) ∧
    Accepted init (ETH.base m + 0x318) t ∧
        t = { s with ptp := t.ptp, now := max s.now at_, bus := { s.bus with resp := t.bus.resp } }) ∧
  (∀ at_ err, s.domRun .eth = true → ∀ x, x = ptpPlus (s.atTime at_).ptpNow (clampI (-8) 8 err) →
    ∃ t, exec (.ppsInEdge at_ err) s = .next t ∧
    t.rd PTP.PPSIN_SEC = Word.ofNat (ptpSec x) ∧ t.rd PTP.PPSIN_NS = Word.ofNat (ptpNs x) ∧ t.bit (ETH.base m + 0x14) 9 = true ∧
    RegsBut (fun a => a ∈ [PTP.PPSIN_SEC, PTP.PPSIN_NS, ETH.base 0 + 0x14, ETH.base 1 + 0x14]) s t ∧
    t = { s with regs := t.regs, now := max s.now at_ }) ∧
  (∀ at_, s.domRun .eth = true → s.bit PTP.PPSCFG 31 = true → nearSecond (ptpNs (s.atTime at_).ptpNow) = true →
    exec (.ppsOutSecond at_) s = .next { s with
      now := max s.now at_, balls := { s.balls with ppsOut := true }, ptp := { s.ptp with rise := max s.now at_ } }) ∧
  (∀ at_, s.domRun .eth = true → s.ptp.rise + 16000000 * max (s.fld PTP.PPSCFG 7 0) 1 ≤ at_ →
    exec (.ppsOutFall at_) s = .next { s with now := max s.now at_, balls := { s.balls with ppsOut := false } }) ∧
  (∀ at_, s.bit PTP.PPSCFG 31 = false ∨ nearSecond (ptpNs (s.atTime at_).ptpNow) = false →
    exec (.ppsOutSecond at_) s = .next (s.atTime at_)) ∧
  (∀ at_, at_ < s.ptp.rise + 16000000 * max (s.fld PTP.PPSCFG 7 0) 1 → exec (.ppsOutFall at_) s = .next (s.atTime at_)) ∧
  (∀ at_, s.domRun .eth = true → ∀ x, x = (s.atTime at_).ptpNow → ∃ t, exec (.ptpTargetReached at_) s = .next t ∧
    ((s.rd PTP.TARGET_SEC).toNat * 1000000000 + s.fld PTP.TARGET_NS 29 0 ≤ ptpSec x % 2 ^ 32 * 1000000000 + ptpNs x →
      t.bit (ETH.base m + 0x14) 10 = true ∧ RegsBut (fun a => a = ETH.base 0 + 0x14 ∨ a = ETH.base 1 + 0x14) s t) ∧
    (ptpSec x % 2 ^ 32 * 1000000000 + ptpNs x < (s.rd PTP.TARGET_SEC).toNat * 1000000000 + s.fld PTP.TARGET_NS 29 0 →
        t.regs = s.regs) ∧
    t = { s with regs := t.regs, now := max s.now at_ }) ∧
  (∀ init, ∀ e q, (s.mac m).fifo = e :: q → s.mustWait .eth (ETH.base m) = false → ∃ t, exec (.timestampPop init m) s = .next t ∧
    (t.mac m).fifo = q ∧ t.bus.resp = { init := init, addr := ETH.TS_NS m, cause := 0, data := s.rd (ETH.TS_NS m) } ∧
    t.rd (ETH.TSSTAT m) = Word.ofNat q.length ∧ (∀ k, k ≠ m → t.mac k = s.mac k) ∧
    RegsBut (fun a => a ∈ [ETH.TSSTAT m, ETH.TS_SEQ m, ETH.TS_SEC m, ETH.TS_NS m]) s t ∧
    t = { s with regs := t.regs, eth := t.eth, bus := { s.bus with resp := t.bus.resp } })

/-- From every state of the shape and for each controller: a received frame goes through the lowest filter that passes it into its
receive buffer in memory, which shows NEW, and OVR if it was new already, while the shared DMA holds no other frame and has a coin; it
waits behind the earlier ones while there is none; one that no filter passes, and an FD frame without FD_EN, leaves memory alone; a
request marks its buffer; a sent frame clears the request, marks the buffer sent and raises its flag, and under LOOP is received too;
bus-off stops the controller, with recovery at once under AUTOREC; a write of RECOVER starts the recovery, and its end gives error-active
with both counters 0. A controller that is off, or that hears no bus under LOOP, receives nothing. That waiting frames are unbounded, and
LOOP's silence, are the model's reading (notes/assumptions/75.md). (20_host_and_vehicle_interfaces.md (R515);
20_host_and_vehicle_interfaces.md (R529); 06_clearing_fabric.md (R159)) -/
def Obligations.CanControllersSendReceiveAndRecover : Prop :=
  ∀ (s : State) (m : Nat), s.Shaped → m < 4 →
  (∀ frame, ∀ k, s.canMatch m frame = some k → ∀ time tec rec_, s.canOn m = true → s.bit (CAN.MODE m) 4 = false →
    (frame.fdf = true → s.bit (CAN.MODE m) 1 = true) → (∀ j, j < 4 → (s.canCtl j).held = []) → s.coinStall 83 = false →
    s.fld (CAN.MBCTL m k) 31 30 = 1 → s.mbOk m k = true → ∃ t, exec (.canFrameReceive m frame time tec rec_) s = .next t ∧
    t.getBytes (s.mbAddr m k) (8 + (if frame.rtr then [] else frame.data.take (dlcBytes frame.fdf frame.dlc)).length) =
      canHead frame time ++ (if frame.rtr then [] else frame.data.take (dlcBytes frame.fdf frame.dlc)) ∧
    t.bit (CAN.MBCTL m k) 28 = true ∧ t.bit (CAN.base m + 0x14) 0 = true ∧
    (s.bit (CAN.MBCTL m k) 28 = true → t.bit (CAN.MBCTL m k) 27 = true ∧ t.bit (CAN.base m + 0x14) 4 = true) ∧
    t.fld (CAN.ERRSTAT m) 31 30 = canErrState tec rec_ ∧
    MemBut (fun x => s.mbAddr m k ≤ x ∧ x < s.mbAddr m k + 80) s t ∧
    RegsBut (fun a => a ∈ [CAN.MBCTL m k, CAN.ERRSTAT m, CAN.base m + 0x14]) s t ∧
    t = { s with regs := t.regs, mem := t.mem, clerk0 := t.clerk0, clerk1 := t.clerk1, health := t.health, canDma := m }) ∧
  (∀ frame time tec rec_, s.canOn m = true → s.bit (CAN.MODE m) 4 = false →
    (s.canMatch m frame = none ∧ (∀ j, j < 4 → (s.canCtl j).held = []) ∧ s.coinStall 83 = false) ∨
      (frame.fdf = true ∧ s.bit (CAN.MODE m) 1 = false) →
    ∃ t, exec (.canFrameReceive m frame time tec rec_) s = .next t ∧ t.fld (CAN.ERRSTAT m) 31 30 = canErrState tec rec_ ∧
    t.fld (CAN.ERRSTAT m) 8 0 = min tec 511 ∧ t.fld (CAN.ERRSTAT m) 23 16 = min rec_ 255 ∧
    (s.fld (CAN.ERRSTAT m) 31 30 ≠ canErrState tec rec_ → t.bit (CAN.base m + 0x14) 2 = true) ∧
    RegsBut (fun a => a ∈ [CAN.ERRSTAT m, CAN.base m + 0x14]) s t ∧ t = { s with regs := t.regs, canDma := t.canDma }) ∧
  (∀ frame time tec rec_, s.canOn m = true → s.bit (CAN.MODE m) 4 = false → (frame.fdf = true → s.bit (CAN.MODE m) 1 = true) →
    s.coinStall 83 = true → ∃ t, exec (.canFrameReceive m frame time tec rec_) s = .next t ∧
    t.canCtl m = { s.canCtl m with held := (s.canCtl m).held ++ [(frame, time)] } ∧ (∀ j, j ≠ m → t.canCtl j = s.canCtl j) ∧
    RegsBut (fun a => a ∈ [CAN.ERRSTAT m, CAN.base m + 0x14]) s t ∧ t = { s with regs := t.regs, can := t.can }) ∧
  (∀ frame time tec rec_, s.canOn m = false ∨ s.bit (CAN.MODE m) 4 = true → exec (.canFrameReceive m frame time tec rec_) s = .next s) ∧
  (∀ init k, s.mustWait .can (CAN.base m) = false → k < 64 → ∃ t, exec (.canTxRequest init m k) s = .next t ∧
      t.bit (CAN.MBCTL m k) 29 = true ∧
    t.fld (CAN.MBCTL m k) 31 30 = s.fld (CAN.MBCTL m k) 31 30 ∧ Accepted init (CAN.MBCTL m k) t ∧
        RegsBut (fun a => a = CAN.MBCTL m k) s t ∧
    t = { s with regs := t.regs, bus := { s.bus with resp := t.bus.resp } }) ∧
  (∀ k time tec rec_, s.canOn m = true → k < 64 → s.bit (CAN.MODE m) 3 = false → s.bit (CAN.MODE m) 4 = false →
      s.fld (CAN.MBCTL m k) 31 30 = 2 →
    s.bit (CAN.MBCTL m k) 29 = true → s.mbOk m k = true → ∃ t, exec (.canFrameSent m k time tec rec_) s = .next t ∧
    (t.canCtl m).sent = s.getBytes (s.mbAddr m k) 80 ∧ t.bit (CAN.MBCTL m k) 29 = false ∧ t.bit (CAN.MBCTL m k) 28 = true ∧
    t.bit (CAN.base m + 0x14) 1 = true ∧ (∀ j, j ≠ m → t.canCtl j = s.canCtl j) ∧
    RegsBut (fun a => a ∈ [CAN.MBCTL m k, CAN.ERRSTAT m, CAN.base m + 0x14]) s t ∧ t = { s with regs := t.regs, can := t.can }) ∧
  (∀ k time tec rec_, s.canOn m = true → k < 64 → s.bit (CAN.MODE m) 3 = false → s.bit (CAN.MODE m) 4 = true →
    s.fld (CAN.MBCTL m k) 31 30 = 2 → s.bit (CAN.MBCTL m k) 29 = true → s.mbOk m k = true → s.coinStall 83 = true →
    ∃ t, exec (.canFrameSent m k time tec rec_) s = .next t ∧ (t.canCtl m).sent = s.getBytes (s.mbAddr m k) 80 ∧
    (t.canCtl m).held = (s.canCtl m).held ++ [(canFrameOf (s.getBytes (s.mbAddr m k) 80), time)] ∧
    t.bit (CAN.MBCTL m k) 29 = false ∧ t.bit (CAN.MBCTL m k) 28 = true ∧ t.bit (CAN.base m + 0x14) 1 = true ∧
    (∀ j, j ≠ m → t.canCtl j = s.canCtl j) ∧
    RegsBut (fun a => a ∈ [CAN.MBCTL m k, CAN.ERRSTAT m, CAN.base m + 0x14]) s t ∧ t = { s with regs := t.regs, can := t.can }) ∧
  (∀ tec rec_, s.canOn m = true → ∃ t, exec (.canBusOff m tec rec_) s = .next t ∧ t.fld (CAN.ERRSTAT m) 31 30 = 3 ∧
      t.canOn m = false ∧
    t.bit (CAN.base m + 0x14) 3 = true ∧ t.canCtl m = { s.canCtl m with recovering := s.bit (CAN.MODE m) 5 } ∧
    (∀ j, j ≠ m → t.canCtl j = s.canCtl j) ∧ RegsBut (fun a => a ∈ [CAN.ERRSTAT m, CAN.base m + 0x14]) s t ∧
    t = { s with regs := t.regs, can := t.can }) ∧
  (∀ init, s.mustWait .can (CAN.base m) = false → s.fld (CAN.ERRSTAT m) 31 30 = 3 → ∃ t, exec (.canRecover init m) s = .next t ∧
    t.canCtl m = { s.canCtl m with recovering := true } ∧ (∀ j, j ≠ m → t.canCtl j = s.canCtl j) ∧ Accepted init (CAN.MODE m) t ∧
    RegsBut (fun _ => False) s t ∧ t = { s with regs := t.regs, can := t.can, bus := { s.bus with resp := t.bus.resp } }) ∧
  (s.fld (CAN.ERRSTAT m) 31 30 = 3 → (s.canCtl m).recovering = true → s.en (CAN.base m) = true → s.domRun .can = true →
    s.bit (CAN.MODE m) 0 = false → ∃ t, exec (.busOffRecoveryEnd m) s = .next t ∧
      t.rd (CAN.ERRSTAT m) = 0 ∧
    (t.canCtl m).recovering = false ∧ t.bit (CAN.base m + 0x14) 2 = true ∧ (∀ j, j ≠ m → t.canCtl j = s.canCtl j) ∧
    RegsBut (fun a => a ∈ [CAN.ERRSTAT m, CAN.base m + 0x14]) s t ∧ t = { s with regs := t.regs, can := t.can })

/-- From every state: an indirect command starts on its chip select while none runs, and starts none while one does; its end shows
the status and the bytes read and leaves the flash bytes it changed, on that chip select alone; a polling command whose status does
not match goes on, and ends at its limit with TMO; initialisation unmaps LPDDR4X until its end maps the size of both channels or
shows the failure; retraining shows both refresh rates; a lost PHY lock is flagged; OUTSET and OUTCLR set and clear the output bits,
DIR takes the pins, and an edge shows its level and sets its bit where EDGE selects it. None of them happens while its clock stands.
A ball of a fused class shows nothing without its bank's supply, then the class in its latch (the shipped one with the blown bits
set) until its block takes it by an enable or by DIR; both balls of a half-bridge are low while GATE_VETO is asserted. Nothing else
changes. (20_host_and_vehicle_interfaces.md (R516); 20_host_and_vehicle_interfaces.md (R517); 20_host_and_vehicle_interfaces.md
(R518, R529); 02_balls_and_signals.md (R47, R48, R50); 03_supplies_reset_dawn.md (R99, R101)) -/
def Obligations.FlashMemoryAndPinsFollowTheirCommands : Prop :=
  ∀ s : State,
  (∀ init data, s.mustWait .xspi XSPI.base = false → s.xspi = none → ∃ t, exec (.xspiIndirectCmd init data) s = .next t ∧
    t.xspi = some (bitsOf data 28 28) ∧ t.bit XSPI.ICMD 30 = true ∧ t.fld XSPI.ICMD 28 24 = bitsOf data 28 24 ∧
    t.fld XSPI.ICMD 15 8 = bitsOf data 15 8 ∧ t.fld XSPI.ISTAT 31 30 = 0 ∧ Accepted init XSPI.ICMD t ∧
    RegsBut (fun a => a = XSPI.ICMD ∨ a = XSPI.ISTAT) s t ∧
        t = { s with regs := t.regs, xspi := t.xspi, bus := { s.bus with resp := t.bus.resp } }) ∧
  (∀ init data, s.mustWait .xspi XSPI.base = false → s.xspi ≠ none → ∃ t, exec (.xspiIndirectCmd init data) s = .next t ∧
    t.xspi = s.xspi ∧ t.rd XSPI.ICMD = s.rd XSPI.ICMD ∧ (Accepted init XSPI.ICMD t ∨ Refused init XSPI.ICMD .refused t)) ∧
  (∀ status rdata flash cs, s.xspi = some cs → s.pollOver status = true → s.domRun .xspi = true → ∃ t, exec (.xspiCommandDone status rdata flash) s = .next t ∧ t.xspi = none ∧
    t.bit XSPI.ICMD 30 = false ∧ t.rd XSPI.ISTAT = Word.ofNat (2 ^ 31 + status % 256) ∧ t.bit (XSPI.base + 0x14) 0 = true ∧
    (s.bit XSPI.ICMD 26 = true → s.bit XSPI.ICMD 25 = false → ∀ i, i < rdata.length → i < min (s.fld XSPI.ILEN 8 0) 256 →
      t.fld (XSPI.IDATA (i / 4)) (8 * (i % 4) + 7) (8 * (i % 4)) = (rdata.getD i 0).toNat) ∧
    (∀ f, flash.getLast? = some f → f.off / 0x8000000 = cs → t.byte (0x60000000 + f.off) = f.val) ∧
    MemBut (fun x => ∃ f ∈ flash, f.off / 0x8000000 = cs ∧ x = 0x60000000 + f.off) s t ∧ RegsBut (inPage XSPI.base) s t ∧
    t = { s with regs := t.regs, mem := t.mem, xspi := none }) ∧
  (∀ status rdata flash, s.bit XSPI.ICMD 24 = true → status % 256 &&& s.fld XSPI.POLLCFG 23 16 ≠ s.fld XSPI.POLLCFG 15 8 →
    exec (.xspiCommandDone status rdata flash) s = .next s) ∧
  (∀ status, s.xspi ≠ none → s.domRun .xspi = true → s.bit XSPI.ICMD 24 = true → s.rd XSPI.POLLTMO ≠ 0 → ∃ t, exec (.xspiPollTimeout status) s = .next t ∧
    t.xspi = none ∧ t.bit XSPI.ICMD 30 = false ∧ t.bit XSPI.ISTAT 30 = true ∧ t.fld XSPI.ISTAT 7 0 = status % 256 ∧
    t.bit (XSPI.base + 0x14) 1 = true ∧ RegsBut (inPage XSPI.base) s t ∧
        t = { s with regs := t.regs, xspi := none, freeCtr := s.freeCtr + 1 }) ∧
  (∀ init, s.mustWait .fab DDRPHY.base = false → ∃ t, exec (.ddrInitGo init) s = .next t ∧ t.ddrGo = true ∧
      t.rd DDRPHY.INITSTAT = 0x01000000 ∧
    t.ddrMapped = 0 ∧ Accepted init DDRPHY.INIT t ∧ RegsBut (fun a => a = DDRPHY.INITSTAT) s t ∧
    t = { s with regs := t.regs, ddrGo := true, bus := { s.bus with resp := t.bus.resp } }) ∧
  (∀ stage lane eyes, s.ddrGo = true → s.fld DDRPHY.INITSTAT 31 30 = 0 → s.domRun .fab = true → (∃ t, exec (.ddrInitDone true stage lane eyes) s = .next t ∧
      t.ddrMapped = s.ddrMiB * 2 ^ 20 ∧ t.bit (DDRPHY.base + 0x14) 0 = true ∧
      (∀ k, k < 8 → t.rd (DDRPHY.base + 0x50 + 4 * k) = Word.ofNat (eyes.getD k 0 % 65536)) ∧
      RegsBut (inPage DDRPHY.base) s t ∧ t = { s with regs := t.regs, freeCtr := s.freeCtr + 2 }) ∧
    ∃ t, exec (.ddrInitDone false stage lane eyes) s = .next t ∧ t.ddrMapped = 0 ∧ t.bit (DDRPHY.base + 0x14) 1 = true ∧
      t.bit DDRPHY.INITSTAT 30 = true ∧ t.fld DDRPHY.INITSTAT 27 24 = stage % 16 ∧ t.fld DDRPHY.INITSTAT 23 16 = lane % 256 ∧
      RegsBut (inPage DDRPHY.base) s t ∧ t = { s with regs := t.regs }) ∧
  (∀ refA refB, s.bit (DDRPHY.base + 0x70) 31 = true → s.bit DDRPHY.INITSTAT 31 = true → s.domRun .ddr = true →
    ∃ t, exec (.ddrRetrain refA refB) s = .next t ∧ t.rd (DDRC.base + 0x58) = Word.ofNat (refB % 256 * 256 + refA % 256) ∧
    t.bit (DDRC.base + 0x14) 2 = true ∧ RegsBut (fun a => a = DDRC.base + 0x58 ∨ a = DDRC.base + 0x14) s t ∧
    t = { s with regs := t.regs, freeCtr := s.freeCtr + 1 }) ∧
  (s.domRun .fab = true → ∃ t, exec .phyPllUnlock s = .next t ∧ t.bit (DDRPHY.base + 0x14) 2 = true ∧ RegsBut (fun a => a = DDRPHY.base + 0x14) s t ∧
    t = { s with regs := t.regs }) ∧
  (∀ init data, s.mustWait .fab GPIO.base = false → ∃ t, exec (.gpioOutset init data) s = .next t ∧
      t.rd GPIO.OUT = s.rd GPIO.OUT ||| data ∧
    Accepted init GPIO.OUTSET t ∧ RegsBut (fun a => a = GPIO.OUT) s t ∧
        t = { s with regs := t.regs, bus := { s.bus with resp := t.bus.resp } }) ∧
  (∀ init data, s.mustWait .fab GPIO.base = false → ∃ t, exec (.gpioOutclr init data) s = .next t ∧
      t.rd GPIO.OUT = s.rd GPIO.OUT &&& ~~~data ∧
    Accepted init GPIO.OUTCLR t ∧ RegsBut (fun a => a = GPIO.OUT) s t ∧
        t = { s with regs := t.regs, bus := { s.bus with resp := t.bus.resp } }) ∧
  (∀ init data, s.mustWait .fab GPIO.base = false → ∃ t, exec (.gpioDirWrite init data) s = .next t ∧ t.rd GPIO.DIR = data ∧
    t.balls = { s.balls with gpioTaken := true } ∧ Accepted init GPIO.DIR t ∧ RegsBut (fun a => a = GPIO.DIR) s t ∧
    t = { s with regs := t.regs, balls := t.balls, bus := { s.bus with resp := t.bus.resp } }) ∧
  (∀ n level, n < 32 → s.bit GPIO.IN n ≠ level → s.domRun .fab = true → ∃ t, exec (.gpioPinEdge n level) s = .next t ∧ t.bit GPIO.IN n = level ∧
    (∀ k, k < 32 → k ≠ n → t.bit GPIO.IN k = s.bit GPIO.IN k) ∧
    t.bit (GPIO.base + 0x14) n = (s.bit (GPIO.base + 0x14) n ||
        s.bit (GPIO.base + 0x80 + 4 * (n / 16)) (2 * (n % 16) + (if level then 0 else 1))) ∧
    RegsBut (fun a => a = GPIO.IN ∨ a = GPIO.base + 0x14) s t ∧ t = { s with regs := t.regs }) ∧
  (s.domRun .fab = false → (∀ n level, exec (.gpioPinEdge n level) s = .next s) ∧ exec .phyPllUnlock s = .next s ∧
    ∀ ok stage lane eyes, exec (.ddrInitDone ok stage lane eyes) s = .next s) ∧
  (s.domRun .xspi = false → (∀ status, exec (.xspiPollTimeout status) s = .next s) ∧
    ∀ status rdata flash, exec (.xspiCommandDone status rdata flash) s = .next s) ∧
  (∀ r c b, ballRun r c = some b →
    (s.bankGood b.bank = false → s.ballState r c = some .undriven) ∧
    (s.bankGood b.bank = true → s.balls.taken.contains (b.owner c) = true → b.page ≠ GPIO.base → s.ballState r c = some .taken) ∧
    (s.bankGood b.bank = true → s.balls.taken = [] → s.balls.gpioTaken = false → s.balls.xspiReset = false →
      s.ballState r c = (s.ballClass r c).map .reset) ∧
    s.ballClass r c = some (BallClass.ofBits (b.cls.bits |||
      ((Store.find (if 7 ≤ b.bank then nth [] s.fuses.latched (b.bank - 7) else s.fuses.latchedPs) (ballWord r c)).getD 0).toNat >>>
        ballBit r c))) ∧
  (∀ n, s.rst.veto = true → s.hbBalls n = none ∨ s.hbBalls n = some (false, false))

/-- From every state of the shape and for each port: a push enters the transmit FIFO, and a full UART FIFO refuses it; a pop
answers what RXDATA shows and removes the oldest entry; a received character enters the receive FIFO with its error flags, or
is lost to a full one and flagged; a sent character leaves the transmit FIFO, and the level flags follow the thresholds; an SPI frame
shifts the oldest frame out and the received one in, or loses that to a full FIFO; CSEN's chip selects are asserted while frames wait
and, with HOLD, between them. FIFOSTAT and RXDATA follow. Nothing is shifted while the port is off or CLK_FAB stands. Only the port
and its page change. (20_host_and_vehicle_interfaces.md (R518); 20_host_and_vehicle_interfaces.md (R529)) -/
def Obligations.SerialPortsQueueAndShift : Prop :=
  ∀ (s : State) (m : Nat), s.Shaped → m < 2 →
  (∀ init data, s.mustWait .fab (UART.base m) = false → (s.uartAt m).tx.length < 32 →
      ∃ t, exec (.uartTxPush init m data) s = .next t ∧
    t.uartAt m = { s.uartAt m with tx := (s.uartAt m).tx ++ [data % 256] } ∧
    t.rd (UART.FIFOSTAT m) = Word.ofNat ((s.uartAt m).rx.length * 65536 + (s.uartAt m).tx.length + 1) ∧
        Accepted init (UART.TXDATA m) t ∧
    (∀ k, k ≠ m → t.uartAt k = s.uartAt k) ∧ RegsBut (inPage (UART.base m)) s t ∧
    t = { s with regs := t.regs, uart := t.uart, bus := { s.bus with resp := t.bus.resp } }) ∧
  (∀ init data, s.mustWait .fab (UART.base m) = false → 32 ≤ (s.uartAt m).tx.length →
      ∃ t, exec (.uartTxPush init m data) s = .next t ∧
    Refused init (UART.TXDATA m) .refused t ∧ t.uart = s.uart) ∧
  (∀ v q, (s.uartAt m).rx = v :: q → ∀ init, s.mustWait .fab (UART.base m) = false → ∃ t, exec (.uartRxPop init m) s = .next t ∧
    t.uartAt m = { s.uartAt m with rx := q } ∧
        t.bus.resp = { init := init, addr := UART.RXDATA m, cause := 0, data := s.rd (UART.RXDATA m) } ∧
    t.rd (UART.RXDATA m) = q.headD 0 ∧ (∀ k, k ≠ m → t.uartAt k = s.uartAt k) ∧ RegsBut (inPage (UART.base m)) s t ∧
    t = { s with regs := t.regs, uart := t.uart, bus := { s.bus with resp := t.bus.resp } }) ∧
  (∀ data perr ferr brk, s.en (UART.base m) = true → s.domRun .fab = true → (s.uartAt m).rx.length < 32 →
      ∃ t, exec (.uartByteReceive m data perr ferr brk) s = .next t ∧
    (∃ v, (t.uartAt m).rx.getLast? = some v ∧ t.uartAt m = { s.uartAt m with rx := (s.uartAt m).rx ++ [v] } ∧ tb v 31 = true ∧
      tb v 8 = perr ∧ tb v 9 = ferr ∧ tb v 10 = brk ∧ bitsOf v 7 0 = data % 2 ^ (5 + s.fld (UART.base m + 0x44) 1 0) ∧
      t.rd (UART.RXDATA m) = (s.uartAt m).rx.headD v) ∧
    t.rd (UART.FIFOSTAT m) = Word.ofNat (((s.uartAt m).rx.length + 1) * 65536 + (s.uartAt m).tx.length) ∧
    (s.fld (UART.FIFOTHR m) 21 16 ≤ (s.uartAt m).rx.length + 1 → t.bit (UART.base m + 0x14) 0 = true) ∧ (perr = true → t.bit (UART.base m + 0x14) 3 = true) ∧
    (ferr = true → t.bit (UART.base m + 0x14) 4 = true) ∧ (brk = true → t.bit (UART.base m + 0x14) 5 = true) ∧
    (∀ k, k ≠ m → t.uartAt k = s.uartAt k) ∧ RegsBut (inPage (UART.base m)) s t ∧ t = { s with regs := t.regs, uart := t.uart }) ∧
  (∀ data perr ferr brk, s.en (UART.base m) = true → s.domRun .fab = true → 32 ≤ (s.uartAt m).rx.length →
      ∃ t, exec (.uartByteReceive m data perr ferr brk) s = .next t ∧
    t.bit (UART.base m + 0x14) 2 = true ∧ RegsBut (fun a => a = UART.base m + 0x14) s t ∧ t = { s with regs := t.regs }) ∧
  (∀ b q, (s.uartAt m).tx = b :: q → s.en (UART.base m) = true → s.domRun .fab = true → ∃ t, exec (.uartByteSent m) s = .next t ∧
    t.uartAt m = { s.uartAt m with tx := q, sent := b } ∧
        t.rd (UART.FIFOSTAT m) = Word.ofNat ((s.uartAt m).rx.length * 65536 + q.length) ∧
    (q.length ≤ s.fld (UART.FIFOTHR m) 5 0 → t.bit (UART.base m + 0x14) 1 = true) ∧
    (∀ k, k ≠ m → t.uartAt k = s.uartAt k) ∧ RegsBut (inPage (UART.base m)) s t ∧ t = { s with regs := t.regs, uart := t.uart }) ∧
  (∀ init data, s.mustWait .fab (SPI.base m) = false → (s.spiAt m).tx.length < 32 → ∃ t, exec (.spiTxPush init m data) s = .next t ∧
    t.spiAt m = { s.spiAt m with
      tx := (s.spiAt m).tx ++ [data.toNat % 2 ^ s.spiBits m]
      sel := if s.en (SPI.base m) then s.fld (SPI.CSCTL m) 1 0 else 0 } ∧ Accepted init (SPI.TXDATA m) t ∧
    t.fld (SPI.FIFOSTAT m) 5 0 = (s.spiAt m).tx.length + 1 ∧ (∀ k, k ≠ m → t.spiAt k = s.spiAt k) ∧
        RegsBut (inPage (SPI.base m)) s t ∧
    t = { s with regs := t.regs, spi := t.spi, bus := { s.bus with resp := t.bus.resp } }) ∧
  (∀ init data, s.mustWait .fab (SPI.base m) = false → 32 ≤ (s.spiAt m).tx.length → ∃ t, exec (.spiTxPush init m data) s = .next t ∧
    t.spi = s.spi ∧ (Accepted init (SPI.TXDATA m) t ∨ Refused init (SPI.TXDATA m) .refused t)) ∧
  (∀ b q, (s.spiAt m).tx = b :: q → ∀ data, s.en (SPI.base m) = true → s.domRun .fab = true → ∃ t, exec (.spiFrameDone m data) s = .next t ∧
    (t.spiAt m).tx = q ∧ (t.spiAt m).sent = b ∧
    (t.spiAt m).sel = (if q ≠ [] then s.fld (SPI.CSCTL m) 1 0 else if s.bit (SPI.CSCTL m) 2 then (s.spiAt m).sel else 0) ∧ t.bit (SPI.base m + 0x14) 0 = true ∧
    ((s.spiAt m).rx.length < 32 → (t.spiAt m).rx = (s.spiAt m).rx ++ [Word.ofNat (data.toNat % 2 ^ s.spiBits m)] ∧
      t.bit (SPI.base m + 0x14) 2 = true) ∧
    (32 ≤ (s.spiAt m).rx.length → (t.spiAt m).rx = (s.spiAt m).rx ∧ t.bit (SPI.base m + 0x14) 1 = true) ∧
    (∀ k, k ≠ m → t.spiAt k = s.spiAt k) ∧ RegsBut (inPage (SPI.base m)) s t ∧ t = { s with regs := t.regs, spi := t.spi }) ∧
  (∀ v q, (s.spiAt m).rx = v :: q → ∀ init, s.mustWait .fab (SPI.base m) = false → ∃ t, exec (.spiRxPop init m) s = .next t ∧
    t.spiAt m = { s.spiAt m with rx := q, sel := (t.spiAt m).sel } ∧
        t.bus.resp = { init := init, addr := SPI.RXDATA m, cause := 0, data := s.rd (SPI.RXDATA m) } ∧
    t.rd (SPI.RXDATA m) = q.headD 0 ∧ (∀ k, k ≠ m → t.spiAt k = s.spiAt k) ∧ RegsBut (inPage (SPI.base m)) s t ∧
    t = { s with regs := t.regs, spi := t.spi, bus := { s.bus with resp := t.bus.resp } }) ∧
  (s.en (UART.base m) = false ∨ s.domRun .fab = false → exec (.uartByteSent m) s = .next s ∧
    ∀ data perr ferr brk, exec (.uartByteReceive m data perr ferr brk) s = .next s) ∧
  (s.en (SPI.base m) = false ∨ s.domRun .fab = false → ∀ data, exec (.spiFrameDone m data) s = .next s)

/-- From every state of the shape: a pilot period's end counts it, shows whether the high phase gave a value and the mean of its
samples from SETTLE to 2 µs before its end, takes the raw state from the measured voltages, takes it over after DEB equal periods
with its flag and the trips that ACTCFG asks for, and takes the last DUTY written in time; the ball falls at the duty's end. A
recorder row that is due advances WRROW and issues its slips to its place in the ring, or is dropped whole and counted; the trigger
row records its number; the last row of POST ends in DONE; an enabled trigger in ARMED starts POST and later ones are counted;
SWTRIG and ARM act in their states. A unit that is off, or whose clock stands, does nothing. (20_host_and_vehicle_interfaces.md
(R519-R521); 20_host_and_vehicle_interfaces.md (R522, R523); 20_host_and_vehicle_interfaces.md (R525, R527, R528)) -/
def Obligations.PilotsMeasureAndTheRecorderTakesRows : Prop :=
  ∀ s : State, s.Shaped →
  (∀ n late cp pp, n < 4 → s.bit (CP.STAT n) 0 = true → s.domRun .fab = true → ∀ s1, s1 = s.cpMeasure n cp pp →
    ∀ raw, raw = (if s1.cpDiode n then 6 else s1.cpRow n) →
    ∀ same, same = (if 0 < (s.cp n).same ∧ raw = s.fld (CP.STAT n) 14 12 then (s.cp n).same + 1 else 1) →
    ∃ t, exec (.pilotPeriodEnd n late cp pp) s = .next t ∧ t.rd (CP.PCNT n) = s.rd (CP.PCNT n) + 1 ∧
    t.bit (CP.STAT n) 3 = decide ((s.cp n).duty < s.cpSettle n + 4 ∨ cp.length ≤ s.cpSettle n) ∧ t.bit (CP.STAT n) 2 = s1.cpDiode n ∧
    (t.bit (CP.STAT n) 3 = false → ∃ up, t.rd (CP.VHIGH n) =
      BitVec.ofInt 32 (s.cpMean n ((cp.take ((s.cp n).duty - 1)).drop (s.cpSettle n)) up)) ∧
    (t.bit (CP.STAT n) 3 = true → t.rd (CP.VHIGH n) = s.rd (CP.VHIGH n)) ∧
    (((s.fld (CP.THR n 0) 15 0 : Nat) : Int) ≤ (t.rd (CP.VHIGH n)).toInt →
        (t.rd (CP.VHIGH n)).toInt ≤ ((s.fld (CP.THR n 0) 31 16 : Nat) : Int) → raw = 0) ∧
    t.fld (CP.STAT n) 14 12 = raw ∧ (t.cp n).same = min same 15 ∧
    (max (bitsOf (s.shown (CP.MEASCFG n)) 11 8) 1 ≤ same → t.fld (CP.STAT n) 18 16 = raw) ∧
    (max (bitsOf (s.shown (CP.MEASCFG n)) 11 8) 1 ≤ same → raw ≠ s.fld (CP.STAT n) 18 16 → t.bit (CP.base n + 0x14) 0 = true ∧
      (tb (s.shown (CP.ACTCFG n)) 31 = true → tb (s.shown (CP.ACTCFG n)) (24 + raw) = true → t.bit (CP.base n + 0x14) 2 = true ∧
        (s.domRun .pwm = true → ∀ g, g < 48 → tb (s.shown (CP.ACTCFG n)) (g / 4) = true → t.bit (PWM.STAT g) 8 = true))) ∧
    (same < max (bitsOf (s.shown (CP.MEASCFG n)) 11 8) 1 ∨ raw = s.fld (CP.STAT n) 18 16 →
      t.fld (CP.STAT n) 18 16 = s.fld (CP.STAT n) 18 16 ∧ RegsBut (inPage (CP.base n)) s t ∧
      t = { s with regs := t.regs, pilot := t.pilot, balls := { s.balls with cpOut := t.balls.cpOut }, freeCtr := s.freeCtr + 3 }) ∧
    (∀ d, ((s.cp n).writes.take ((s.cp n).writes.length - late)).getLast? = some d → (t.cp n).duty = d) ∧
    (late ≤ (s.cp n).writes.length → (t.cp n).writes.length = late) ∧
    ((s.cp n).writes = [] → (t.cp n).duty = (s.cp n).duty) ∧ t.balls.cpOut.testBit n = decide ((t.cp n).duty ≠ 0) ∧
    (∀ k, k ≠ n → t.cp k = s.cp k)) ∧
  (∀ n, s.bit (CP.STAT n) 0 = false ∨ s.domRun .fab = false → (∀ late cp pp, exec (.pilotPeriodEnd n late cp pp) s = .next s) ∧
    exec (.pilotDutyEnd n) s = .next s) ∧
  (∀ n, n < 4 → s.bit (CP.STAT n) 0 = true → s.domRun .fab = true → (s.cp n).duty < 1000 → ∃ t, exec (.pilotDutyEnd n) s = .next t ∧
      t.balls.cpOut.testBit n = false ∧
    (∀ k, k ≠ n → t.balls.cpOut.testBit k = s.balls.cpOut.testBit k) ∧
        t = { s with balls := { s.balls with cpOut := t.balls.cpOut } }) ∧
  (∀ held, held = (s.fab.stalled.filter (fun p => p.init == 80)).length → ∀ at_ cycle, s.en REC.base = true →
    s.domRun .fab = true → s.recState = 1 → s.recorder.waits = false → s.recDue at_ = true → ∃ t, exec (.recorderRow at_ cycle) s = .next t ∧
    t.rd REC.WRROW = s.rd REC.WRROW + 1 ∧ t.recState = 1 ∧
    (8192 < 16 * held + s.recRowSize → t.recorder.written = s.recorder.written ∧ t.bit REC.STAT 0 = true ∧
        t.bit (REC.base + 0x14) 2 = true ∧
      t.rd REC.DROPCNT = Word.ofNat (min ((s.rd REC.DROPCNT).toNat + 1) (2 ^ 32 - 1)) ∧ t.fab = s.fab) ∧
    (16 * held + s.recRowSize ≤ 8192 → t.recorder.written = s.recorder.written + 1 ∧
      (t.fab.slips ++ t.fab.stalled).length = (s.fab.slips ++ s.fab.stalled).length + s.recRowSize / 16) ∧
    t.recorder.last = some at_ ∧
    (held = 0 → s.recRowSize = 16 → (∃ c, s.takeCoin 80 = some c) → ∃ q, t.fab.slips.getLast? = some q ∧
      t.fab.slips = s.fab.slips ++ [q] ∧ q.init = 80 ∧ q.write = true ∧
      q.addr = s.fld REC.RINGBASE 31 16 * 65536 + (s.rd REC.WRROW).toNat % max s.recRows 1 * 16 ∧ q.bytes = s.recBytes.take 16) ∧
    RegsBut (fun a => inPage REC.base a ∨ inPage FAB.base a) s t ∧
    t = { s with regs := t.regs, fab := t.fab, recorder := t.recorder, freeCtr := s.freeCtr + 64, now := max s.now at_ }) ∧
  (∀ at_ cycle, s.en REC.base = true → s.domRun .fab = true → s.recState = 2 → s.recorder.waits = true → s.recDue at_ = true → ∃ t, exec (.recorderRow at_ cycle) s = .next t ∧
    t.rd REC.TRIGROW = s.rd REC.WRROW ∧ t.rd REC.PREVALID = Word.ofNat (min s.recorder.written (s.recRows - s.recPost - 1)) ∧
    t.recorder.waits = false ∧ t.recorder.left = s.recPost ∧ t.rd REC.WRROW = s.rd REC.WRROW + 1 ∧
        t.recState = (if s.recPost = 0 then 3 else 2)) ∧
  (∀ at_ cycle, s.en REC.base = true → s.domRun .fab = true → s.recState = 2 → s.recorder.waits = false → s.recorder.left = 1 →
    s.recDue at_ = true →
    ∃ t, exec (.recorderRow at_ cycle) s = .next t ∧ t.recState = 3 ∧ t.bit (REC.base + 0x14) 1 = true ∧
        t.rd REC.WRROW = s.rd REC.WRROW + 1) ∧
  (∀ at_ cycle, s.en REC.base = false ∨ s.domRun .fab = false ∨ s.recDue at_ = false →
    exec (.recorderRow at_ cycle) s = .next (s.atTime at_)) ∧
  (∀ t0, s.recorder.last = some t0 → ∀ at_, s.fld REC.CFG 9 0 < 1000 →
    (s.recDue at_ = true ↔ t0 + (s.fld REC.CFG 9 0 + 1) * 16000 ≤ at_)) ∧
  (∀ events lines, s.domRun .fab = false → exec (.recorderTrigger events lines) s = .next s) ∧
  (s.domRun .fab = true → ∀ events lines, ∀ e, e = ((events &&& 0b1011110) + b2n (s.recLines lines) * 32) &&& s.fld REC.TRIGSRC 6 0 →
    (e = 0 → exec (.recorderTrigger events lines) s = .next s) ∧
    (e ≠ 0 → s.recState = 1 → ∃ t, exec (.recorderTrigger events lines) s = .next t ∧ t.recState = 2 ∧ t.fld REC.TRIGCAUSE 6 0 = e ∧
      t.bit (REC.base + 0x14) 0 = true ∧ t.recorder = { s.recorder with waits := true } ∧
      RegsBut (fun a => a ∈ [REC.STAT, REC.TRIGCAUSE, REC.base + 0x14]) s t ∧ t = { s with regs := t.regs, recorder := t.recorder }) ∧
    (e ≠ 0 → 2 ≤ s.recState → ∃ t, exec (.recorderTrigger events lines) s = .next t ∧
      t.fld REC.TRIGCAUSE 31 24 = min (s.fld REC.TRIGCAUSE 31 24 + 1) 255 ∧ RegsBut (fun a => a = REC.TRIGCAUSE) s t ∧
          t = { s with regs := t.regs })) ∧
  (∀ init, s.mustWait .fab REC.base = false → s.bit REC.TRIGSRC 0 = true → s.recState = 1 →
      ∃ t, exec (.recorderSwtrig init) s = .next t ∧
    t.recState = 2 ∧ t.fld REC.TRIGCAUSE 6 0 = 1 ∧ t.recorder = { s.recorder with waits := true } ∧ Accepted init REC.TRIGCTL t ∧
    RegsBut (fun a => a ∈ [REC.STAT, REC.TRIGCAUSE, REC.base + 0x14]) s t ∧
    t = { s with regs := t.regs, recorder := t.recorder, bus := { s.bus with resp := t.bus.resp } }) ∧
  (∀ init, s.mustWait .fab REC.base = false → ∃ t, exec (.recorderArm init) s = .next t ∧
      t.recState = (if s.recState = 3 then 1 else s.recState) ∧
    Accepted init REC.TRIGCTL t ∧ RegsBut (fun a => a = REC.STAT) s t ∧
        t = { s with regs := t.regs, bus := { s.bus with resp := t.bus.resp } })

/-- From every state outside internal scan each boundary-scan instruction selects its code and register and nothing else; IDCODE
reads 0x109605CB; SYSRST enters a system reset with cause 0x13 and CORERST a core reset with 0x28, and both are BYPASS in
RETIRED; INTSCAN in OPEN clears every key and reads back, and shows an error elsewhere; leaving internal scan resets the
system; DTMCS and DMI answer only where debug is open and are BYPASS elsewhere (the model's choice, see NOTES.md); a DMI write
halts or resumes the selected hart, sets data0, runs a register access on a halted hart, or issues a system bus write. The
rest stands. (20_host_and_vehicle_interfaces.md (R509, R510); 20_host_and_vehicle_interfaces.md (R511);
18_self_test_and_repair.md (R478); 03_supplies_reset_dawn.md (R89)) -/
def Obligations.JtagSelectsResetsScansAndDebugs : Prop :=
  ∀ s : State,
  (s.jtag.intscan = false →
    (∀ bits, exec (.jtagExtest bits) s = .next { s with jtag := { s.jtag with ir := 0x00, dr := 0, error := false, boundary := bits } }) ∧
    (∀ pins bits, exec (.jtagSamplePreload pins bits) s =
      .next { s with jtag := { s.jtag with ir := 0x01, dr := pins, error := false, boundary := bits } }) ∧
    exec .jtagIdcode s = .next { s with jtag := { s.jtag with ir := 0x02, dr := 0x109605CB, error := false } } ∧
    exec .jtagClamp s = .next { s with jtag := { s.jtag with ir := 0x03, dr := 0, error := false } } ∧
    exec .jtagHighz s = .next { s with jtag := { s.jtag with ir := 0x04, dr := 0, error := false } } ∧
    (∀ u, u = { s with jtag := { s.jtag with ir := 0x1F, dr := 0, error := false } } → exec .jtagBypass s = .next u ∧
      (s.lifecycle = 7 → exec .jtagSysrst s = .next u ∧ exec .jtagCorerst s = .next u) ∧
      (s.debugOpen = false → exec .jtagDtmcs s = .next u ∧ ∀ op a d c, exec (.jtagDmi op a d c) s = .next u)) ∧
    (s.debugOpen = true → ∃ t, exec .jtagDtmcs s = .next t ∧ t.jtag.ir = 0x10 ∧ t.jtag.dr % 16 = 1 ∧
      t = { s with jtag := { s.jtag with ir := 0x10, dr := t.jtag.dr, error := false }, freeCtr := s.freeCtr + 1 })) ∧
  (s.jtag.intscan = false → s.noReset → s.lifecycle ≠ 7 →
    (∃ t, exec .jtagSysrst s = .next t ∧ SystemResetEntered 0x13 s t ∧ t.jtag.ir = 0x18) ∧
    (∃ t, exec .jtagCorerst s = .next t ∧
      CoreResetEntered 0x28 { s with jtag := { s.jtag with ir := 0x19, dr := 0, error := false } } t)) ∧
  (∀ clean, s.lifecycle = 1 → ∃ t, exec (.jtagIntscan clean) s = .next t ∧ (∀ m, (t.mac m).keys = []) ∧
      (∀ m, (t.mac m).rxq = (s.mac m).rxq) ∧
    t = { s with eth := t.eth, jtag := { s.jtag with ir := 0x1C, dr := 0, bootKeys := false, error := !clean, intscan := clean } }) ∧
  (∀ clean, s.lifecycle ≠ 1 → s.jtag.intscan = false →
    exec (.jtagIntscan clean) s = .next { s with jtag := { s.jtag with ir := 0x1C, dr := 0, error := true } }) ∧
  (s.jtag.intscan = true → s.noReset → ∃ t, exec .intscanExit s = .next t ∧ SystemResetEntered 0x13 s t) ∧
  (s.jtag.intscan = true → s.noReset → ∃ t, exec .jtagIdcode s = .next t ∧ SystemResetEntered 0x13 s t ∧ t.jtag.ir = 0x02) ∧
  (s.jtag.intscan = false → exec .intscanExit s = .next s) ∧
  (∀ data c h, s.jtag.intscan = false → s.debugOpen = true → h < 2 → (s.clerk h).held = false → tb data 0 = true →
      bitsOf data 25 16 = h →
    (tb data 31 = true → ∃ t, exec (.jtagDmi 2 0x10 data c) s = .next t ∧ t.clerk h = { s.clerk h with halted := true } ∧
      t.clerk (1 - h) = s.clerk (1 - h) ∧ t.jtag.active = true ∧ t.jtag.hart = h ∧
      t = { s with clerk0 := t.clerk0, clerk1 := t.clerk1, jtag := t.jtag }) ∧
    (tb data 31 = false → tb data 30 = true → (s.clerk h).halted = true → ∃ t, exec (.jtagDmi 2 0x10 data c) s = .next t ∧
      t.clerk h = { s.clerk h with halted := false } ∧ t.clerk (1 - h) = s.clerk (1 - h) ∧ t.jtag.resumeack.testBit h = true ∧
      t = { s with clerk0 := t.clerk0, clerk1 := t.clerk1, jtag := t.jtag })) ∧
  (∀ data c, s.jtag.intscan = false → s.debugOpen = true → s.jtag.active = true →
    exec (.jtagDmi 2 0x04 data c) s = .next { s with jtag := { s.jtag with ir := 0x11, dr := 0, error := false, data0 := data } } ∧
    exec (.jtagDmi 1 0x04 data c) s = .next { s with jtag := { s.jtag with ir := 0x11, dr := s.jtag.data0.toNat, error := false } } ∧
    (s.jtag.hart < 2 → (s.clerk s.jtag.hart).held = false → (s.clerk s.jtag.hart).halted = true → s.jtag.cmderr = 0 →
      ∃ t, exec (.jtagDmi 2 0x17 0x002207C2 c) s = .next t ∧ t.jtag.data0 = (s.clerk s.jtag.hart).mckpt ∧
        t = { s with jtag := { s.jtag with ir := 0x11, dr := 0, error := false, data0 := t.jtag.data0 }, freeCtr := s.freeCtr + 1 }) ∧
    (s.sbBusy = false → s.jtag.sberror = 0 → s.jtag.sbbusyerr = false → s.jtag.sbaccess = 2 → s.jtag.sbaddr.toNat % 4 = 0 →
      (∃ k, s.takeCoin 66 = some k) → ∃ t, exec (.jtagDmi 2 0x3C data c) s = .next t ∧
        (∃ q, t.fab.slips.getLast? = some q ∧ t.fab.slips = s.fab.slips ++ [q] ∧ q.init = 66 ∧
          q.addr = s.jtag.sbaddr.toNat ∧ q.write = true ∧ q.bytes = leBytes 4 data.toNat) ∧ RegsBut (inPage FAB.base) s t ∧
        t = { s with regs := t.regs, fab := t.fab, jtag := t.jtag }))

/-- For every initiator, every address of the ledger window outside its mailbox region, and every length and datum, while the
window answers: the write completes, with an error response, and Meloskern, Nightwatch, the mailbox buffer and every register
of the window stand. (01_architecture.md (R36)) -/
def Obligations.LedgerWindowTakesOnlyTheMailbox : Prop :=
  ∀ (s : State) (init addr len sub tick : Nat) (data : Word), inLedger addr = true → addr < 0x40C0F000 ∨ 0x40C0F100 ≤ addr →
    s.mustWait .fab 0 = false → ∃ t, exec (.registerWrite init addr len data sub tick) s = .next t ∧
    t.bus.resp.init = init ∧ t.bus.resp.addr = addr ∧ t.bus.resp.cause ≠ 0 ∧
    t.melo = s.melo ∧ t.nw = s.nw ∧ t.ledger = s.ledger ∧ (∀ a, inLedger a = true → t.rd a = s.rd a)

/-- For every generator whose trip is latched, while its page answers: a write of 0 to CTRL.EN keeps the latch; enabling a
disabled one keeps it too, with both outputs low, and so does every period start; a soft reset of an unlocked page clears it;
a CLR write to TRIPCTL clears it on a locked page when the trip input is inactive and FORCE is not written. (08_edge_pwm.md
(R221)) -/
def Obligations.TripLatchOutlivesDisableButNotSoftReset : Prop :=
  ∀ (s : State) (init n tick : Nat), n < 48 → n < s.pwm.length → s.mustWait .pwm (PWM.base n) = false → s.bit (PWM.STAT n) 8 = true →
  (∃ t, exec (.pwmDisable init n tick) s = .next t ∧ t.en (PWM.base n) = false ∧ t.bit (PWM.STAT n) 8 = true) ∧
  (s.en (PWM.base n) = false → ∃ t, exec (.pwmEnable init n tick) s = .next t ∧ t.en (PWM.base n) = true ∧
    t.bit (PWM.STAT n) 8 = true ∧ (t.gen n).outA = false ∧ (t.gen n).outB = false) ∧
  (∃ t, exec (.pwmPeriodStart n) s = .next t ∧ t.bit (PWM.STAT n) 8 = true) ∧
  (∀ data, s.locked (PWM.base n) = false → tb data 0 = false → ∃ t, exec (.pageSoftReset init (PWM.base n) data) s = .next t ∧
    t.bit (PWM.STAT n) 8 = false ∧ Accepted init (PWM.base n + 0x0C) t) ∧
  (∀ data, s.locked (PWM.base n) = true → tb data 1 = false → s.bit (PWM.TRIPSTAT n) 31 = false →
    ∃ t, exec (.tripClear init n data tick) s = .next t ∧ t.bit (PWM.STAT n) 8 = false ∧ t.locked (PWM.base n) = true ∧
    Accepted init (PWM.TRIPCTL n) t)

/-- While the SYS page answers, the key write is accepted in OPEN, and in SECURED with STAT.DBG_OPEN at 1: the key is held and,
with its enable set, INT_SYS_testen is asserted. In every other case the write has an error response and the key stands as it
was. Every system reset leaves the key dropped. (05_register_pages.md (R150)) -/
def Obligations.TestKeyIsTakenInOpenOrOpenedDebug : Prop :=
  ∀ (s : State) (init : Nat),
  (s.mustWait .fab SYS.base = false → s.lifecycle = 1 ∨ (s.lifecycle = 3 ∧ s.bit SYS.STAT 10 = true) →
    ∃ t, exec (.testKeyTake init) s = .next t ∧ t.bit SYS.STAT 9 = true ∧ t.bit SYS.IRQ_RAW 1 = true ∧ Accepted init SYS.TESTEN t ∧
    (s.bit (SYS.base + 0x18) 1 = true → t.sourceLevel 2 = true)) ∧
  (s.mustWait .fab SYS.base = false → ¬ (s.lifecycle = 1 ∨ (s.lifecycle = 3 ∧ s.bit SYS.STAT 10 = true)) →
    ∃ t, exec (.testKeyTake init) s = .next t ∧ t.bit SYS.STAT 9 = s.bit SYS.STAT 9 ∧ Refused init SYS.TESTEN .refused t) ∧
  (∀ c, s.noReset → causeLevel c = some .system → ∃ t, exec (.resetCauseArrive [c]) s = .next t ∧ t.bit SYS.STAT 9 = false)

/-- From every state whose memory and register lists are in canonical form (addresses strictly rising, no entry equal to what an
unlisted address reads as), every command that answers a next state leaves both in canonical form: whatever the command, equal
memories and equal register files stay equal data. The form is the model's; what it holds is the spec's. (05_register_pages.md
(R136, R137); 00_scope.md (R10, R12)) -/
def Obligations.EveryStepKeepsTheCanonicalForms : Prop :=
  ∀ s t : State, Memory.wf s.mem = true → Regs.wf s.regs = true → step s = .next t → Memory.wf t.mem = true ∧ Regs.wf t.regs = true

/-- From every state of the shape (each list that stands for a fixed number of like things has that many entries, waiting live
writes name live registers, Meloskern's values and staged changes lie in its window), every command that answers a next state
leaves a state of the shape. (01_architecture.md; 08_edge_pwm.md (R197); 11_teller_array.md (R256, R259);
15_meloskern_measurement.md (R376); 17_safety_unit.md (R443, R459)) -/
def Obligations.EveryStepKeepsTheShapeOfTheState : Prop :=
  ∀ s t : State, s.Shaped → step s = .next t → t.Shaped
end

