-- ==== Sys2Proof/Laws/Store.lean ====
section
/-!
SUPPORT. What the sparse stores of registers and memory do: a read after a write gives the value written, a write leaves every
other key alone, and every operation keeps the canonical form.
-/
namespace Sys2Proof.Machine

variable {α : Type}

theorem Store.find_cons (b a : Nat) (w : α) (l : List (Nat × α)) :
    Store.find ((b, w) :: l) a = if b = a then some w else Store.find l a := rfl

theorem Store.erase_cons (b a : Nat) (w : α) (l : List (Nat × α)) :
    Store.erase ((b, w) :: l) a = if b = a then Store.erase l a else (b, w) :: Store.erase l a := by
  by_cases h : b = a <;> simp [Store.erase, h]

theorem Store.find_erase_self (l : List (Nat × α)) (a : Nat) : Store.find (Store.erase l a) a = none := by
  induction l with
  | nil => rfl
  | cons p t ih =>
    obtain ⟨b, w⟩ := p
    rw [Store.erase_cons]
    split
    · exact ih
    · rename_i h; rw [Store.find_cons, if_neg h]; exact ih

theorem Store.find_erase_ne (l : List (Nat × α)) {a c : Nat} (h : c ≠ a) :
    Store.find (Store.erase l a) c = Store.find l c := by
  induction l with
  | nil => rfl
  | cons p t ih =>
    obtain ⟨b, w⟩ := p
    rw [Store.erase_cons]
    split
    · rename_i hb; rw [Store.find_cons, if_neg (by omega)]; exact ih
    · rw [Store.find_cons, Store.find_cons, ih]

theorem Store.find_insert_self (l : List (Nat × α)) (a : Nat) (v : α) (h : Store.find l a = none) :
    Store.find (Store.insert l a v) a = some v := by
  induction l with
  | nil => simp [Store.insert, Store.find]
  | cons p t ih =>
    obtain ⟨b, w⟩ := p
    rw [Store.find_cons] at h
    split at h
    · cases h
    · rename_i hb
      unfold Store.insert
      split
      · simp [Store.find]
      · rw [Store.find_cons, if_neg hb]; exact ih h

theorem Store.find_insert_ne (l : List (Nat × α)) {a c : Nat} (v : α) (h : c ≠ a) :
    Store.find (Store.insert l a v) c = Store.find l c := by
  induction l with
  | nil => simp [Store.insert, Store.find, Ne.symm h]
  | cons p t ih =>
    obtain ⟨b, w⟩ := p
    unfold Store.insert
    split
    · rw [Store.find_cons, if_neg (Ne.symm h)]
    · rw [Store.find_cons, Store.find_cons, ih]

/-- A read after a write to the same key gives the value written. -/
@[simp] theorem Store.find_put_self [DecidableEq α] (d : α) (l : List (Nat × α)) (a : Nat) (v : α) :
    (Store.find (Store.put d l a v) a).getD d = v := by
  unfold Store.put
  split
  · rename_i h; rw [Store.find_erase_self, h]; rfl
  · rw [Store.find_insert_self _ _ _ (Store.find_erase_self l a)]; rfl

/-- A write leaves every other key alone. -/
theorem Store.find_put_ne [DecidableEq α] (d : α) (l : List (Nat × α)) {a c : Nat} (v : α) (h : c ≠ a) :
    Store.find (Store.put d l a v) c = Store.find l c := by
  unfold Store.put
  split
  · exact Store.find_erase_ne l h
  · rw [Store.find_insert_ne _ _ h, Store.find_erase_ne l h]

/-- Dropping entries by their key leaves every kept key alone. -/
theorem Store.find_filter (l : List (Nat × α)) (p : Nat → Bool) (a : Nat) :
    Store.find (l.filter (fun q => p q.1)) a = if p a then Store.find l a else none := by
  induction l with
  | nil => simp [Store.find]
  | cons q t ih =>
    obtain ⟨b, w⟩ := q
    by_cases hb : b = a
    · subst hb
      by_cases hp : p b <;> simp_all [Store.find]
    · by_cases hp : p b <;> simp_all [Store.find]

theorem Store.find_dropRange (l : List (Nat × α)) (lo hi a : Nat) :
    Store.find (Store.dropRange l lo hi) a = if a < lo ∨ hi < a then Store.find l a else none := by
  have h := Store.find_filter l (fun k => decide (k < lo) || decide (hi < k)) a
  simpa [Store.dropRange] using h

/-! ### The canonical form -/

theorem Store.wf_cons [DecidableEq α] (d : Nat → α) (a : Nat) (v : α) (l : List (Nat × α)) :
    Store.wf d ((a, v) :: l) = true ↔ v ≠ d a ∧ (∀ p ∈ l, a < p.1) ∧ Store.wf d l = true := by
  simp [Store.wf, and_assoc]

/-- Dropping entries keeps the canonical form. -/
theorem Store.wf_filter [DecidableEq α] (d : Nat → α) (l : List (Nat × α)) (p : Nat × α → Bool) (h : Store.wf d l = true) :
    Store.wf d (l.filter p) = true := by
  induction l with
  | nil => rfl
  | cons q t ih =>
    obtain ⟨a, v⟩ := q
    rw [Store.wf_cons] at h
    rw [List.filter_cons]
    split
    · rw [Store.wf_cons]
      exact ⟨h.1, fun q hq => h.2.1 q (List.mem_filter.1 hq).1, ih h.2.2⟩
    · exact ih h.2.2

theorem Store.wf_erase [DecidableEq α] (d : Nat → α) (l : List (Nat × α)) (a : Nat) (h : Store.wf d l = true) :
    Store.wf d (Store.erase l a) = true := Store.wf_filter d l _ h

theorem Store.wf_dropRange [DecidableEq α] (d : Nat → α) (l : List (Nat × α)) (lo hi : Nat) (h : Store.wf d l = true) :
    Store.wf d (Store.dropRange l lo hi) = true := Store.wf_filter d l _ h

theorem Store.mem_insert (l : List (Nat × α)) (a : Nat) (v : α) (p : Nat × α) (h : p ∈ Store.insert l a v) :
    p = (a, v) ∨ p ∈ l := by
  induction l with
  | nil => simpa [Store.insert] using h
  | cons q t ih =>
    unfold Store.insert at h
    split at h
    · simpa using h
    · rcases List.mem_cons.1 h with h | h
      · exact Or.inr (by simp [h])
      · rcases ih h with h | h
        · exact Or.inl h
        · exact Or.inr (List.mem_cons_of_mem _ h)

theorem Store.wf_insert [DecidableEq α] (d : Nat → α) (l : List (Nat × α)) (a : Nat) (v : α) (hv : v ≠ d a)
    (ha : ∀ p ∈ l, p.1 ≠ a) (h : Store.wf d l = true) : Store.wf d (Store.insert l a v) = true := by
  induction l with
  | nil => simp [Store.insert, Store.wf, hv]
  | cons q t ih =>
    obtain ⟨b, w⟩ := q
    have hb : b ≠ a := ha _ (List.mem_cons_self ..)
    have ht := (Store.wf_cons d b w t).1 h
    unfold Store.insert
    split
    · rename_i hlt
      refine (Store.wf_cons d a v _).2 ⟨hv, ?_, h⟩
      intro p hp
      rcases List.mem_cons.1 hp with rfl | hp
      · exact hlt
      · exact Nat.lt_trans hlt (ht.2.1 p hp)
    · refine (Store.wf_cons d b w _).2 ⟨ht.1, ?_, ih (fun p hp => ha p (List.mem_cons_of_mem _ hp)) ht.2.2⟩
      intro p hp
      rcases Store.mem_insert t a v p hp with rfl | hp
      · change b < a; omega
      · exact ht.2.1 p hp

/-- A write keeps the canonical form. -/
theorem Store.wf_put [DecidableEq α] (d : Nat → α) (l : List (Nat × α)) (a : Nat) (v : α) (h : Store.wf d l = true) :
    Store.wf d (Store.put (d a) l a v) = true := by
  unfold Store.put
  split
  · exact Store.wf_erase d l a h
  · rename_i hv
    refine Store.wf_insert d _ a v hv ?_ (Store.wf_erase d l a h)
    intro p hp
    have := (List.mem_filter.1 hp).2
    simpa using this

end Sys2Proof.Machine
end

