-- ==== Sys2Proof/Laws/State.lean ====
section
/-!
SUPPORT. The small lemmas of the state: what each basic update of a register, a byte, the time, the free-value counter or the
last response leaves alone (one lemma for each field), what it writes, and that it keeps the canonical forms.
-/
namespace Sys2Proof.Machine

/-! ### One lemma per field per update -/

@[simp] theorem State.wr_pending (s : State) (a : Nat) (v : Word) : (s.wr a v).pending = s.pending := rfl
@[simp] theorem State.wr_mem (s : State) (a : Nat) (v : Word) : (s.wr a v).mem = s.mem := rfl
@[simp] theorem State.wr_freeCtr (s : State) (a : Nat) (v : Word) : (s.wr a v).freeCtr = s.freeCtr := rfl
@[simp] theorem State.wr_rst (s : State) (a : Nat) (v : Word) : (s.wr a v).rst = s.rst := rfl
@[simp] theorem State.wr_fuses (s : State) (a : Nat) (v : Word) : (s.wr a v).fuses = s.fuses := rfl
@[simp] theorem State.wr_balls (s : State) (a : Nat) (v : Word) : (s.wr a v).balls = s.balls := rfl
@[simp] theorem State.wr_clk (s : State) (a : Nat) (v : Word) : (s.wr a v).clk = s.clk := rfl
@[simp] theorem State.wr_clerk0 (s : State) (a : Nat) (v : Word) : (s.wr a v).clerk0 = s.clerk0 := rfl
@[simp] theorem State.wr_clerk1 (s : State) (a : Nat) (v : Word) : (s.wr a v).clerk1 = s.clerk1 := rfl
@[simp] theorem State.wr_bus (s : State) (a : Nat) (v : Word) : (s.wr a v).bus = s.bus := rfl
@[simp] theorem State.wr_claimed (s : State) (a : Nat) (v : Word) : (s.wr a v).claimed = s.claimed := rfl
@[simp] theorem State.wr_fab (s : State) (a : Nat) (v : Word) : (s.wr a v).fab = s.fab := rfl
@[simp] theorem State.wr_conv (s : State) (a : Nat) (v : Word) : (s.wr a v).conv = s.conv := rfl
@[simp] theorem State.wr_now (s : State) (a : Nat) (v : Word) : (s.wr a v).now = s.now := rfl
@[simp] theorem State.wr_pwm (s : State) (a : Nat) (v : Word) : (s.wr a v).pwm = s.pwm := rfl
@[simp] theorem State.wr_gate (s : State) (a : Nat) (v : Word) : (s.wr a v).gate = s.gate := rfl
@[simp] theorem State.wr_extSync (s : State) (a : Nat) (v : Word) : (s.wr a v).extSync = s.extSync := rfl
@[simp] theorem State.wr_aux (s : State) (a : Nat) (v : Word) : (s.wr a v).aux = s.aux := rfl
@[simp] theorem State.wr_cmp (s : State) (a : Nat) (v : Word) : (s.wr a v).cmp = s.cmp := rfl
@[simp] theorem State.wr_tel (s : State) (a : Nat) (v : Word) : (s.wr a v).tel = s.tel := rfl
@[simp] theorem State.wr_deps (s : State) (a : Nat) (v : Word) : (s.wr a v).deps = s.deps := rfl
@[simp] theorem State.wr_setl (s : State) (a : Nat) (v : Word) : (s.wr a v).setl = s.setl := rfl
@[simp] theorem State.wr_mp (s : State) (a : Nat) (v : Word) : (s.wr a v).mp = s.mp := rfl
@[simp] theorem State.wr_grid (s : State) (a : Nat) (v : Word) : (s.wr a v).grid = s.grid := rfl
@[simp] theorem State.wr_melo (s : State) (a : Nat) (v : Word) : (s.wr a v).melo = s.melo := rfl
@[simp] theorem State.wr_nw (s : State) (a : Nat) (v : Word) : (s.wr a v).nw = s.nw := rfl
@[simp] theorem State.wr_ledger (s : State) (a : Nat) (v : Word) : (s.wr a v).ledger = s.ledger := rfl
@[simp] theorem State.wr_sup (s : State) (a : Nat) (v : Word) : (s.wr a v).sup = s.sup := rfl
@[simp] theorem State.wr_health (s : State) (a : Nat) (v : Word) : (s.wr a v).health = s.health := rfl
@[simp] theorem State.wr_ox (s : State) (a : Nat) (v : Word) : (s.wr a v).ox = s.ox := rfl
@[simp] theorem State.wr_ptp (s : State) (a : Nat) (v : Word) : (s.wr a v).ptp = s.ptp := rfl
@[simp] theorem State.wr_eth (s : State) (a : Nat) (v : Word) : (s.wr a v).eth = s.eth := rfl
@[simp] theorem State.wr_can (s : State) (a : Nat) (v : Word) : (s.wr a v).can = s.can := rfl
@[simp] theorem State.wr_xspi (s : State) (a : Nat) (v : Word) : (s.wr a v).xspi = s.xspi := rfl
@[simp] theorem State.wr_canDma (s : State) (a : Nat) (v : Word) : (s.wr a v).canDma = s.canDma := rfl
@[simp] theorem State.wr_ddrGo (s : State) (a : Nat) (v : Word) : (s.wr a v).ddrGo = s.ddrGo := rfl
@[simp] theorem State.wr_uart (s : State) (a : Nat) (v : Word) : (s.wr a v).uart = s.uart := rfl
@[simp] theorem State.wr_spi (s : State) (a : Nat) (v : Word) : (s.wr a v).spi = s.spi := rfl
@[simp] theorem State.wr_pilot (s : State) (a : Nat) (v : Word) : (s.wr a v).pilot = s.pilot := rfl
@[simp] theorem State.wr_recorder (s : State) (a : Nat) (v : Word) : (s.wr a v).recorder = s.recorder := rfl
@[simp] theorem State.wr_jtag (s : State) (a : Nat) (v : Word) : (s.wr a v).jtag = s.jtag := rfl

@[simp] theorem State.setFld_pending (s : State) (a hi lo v : Nat) : (s.setFld a hi lo v).pending = s.pending := rfl
@[simp] theorem State.setFld_mem (s : State) (a hi lo v : Nat) : (s.setFld a hi lo v).mem = s.mem := rfl
@[simp] theorem State.setFld_freeCtr (s : State) (a hi lo v : Nat) : (s.setFld a hi lo v).freeCtr = s.freeCtr := rfl
@[simp] theorem State.setFld_rst (s : State) (a hi lo v : Nat) : (s.setFld a hi lo v).rst = s.rst := rfl
@[simp] theorem State.setFld_fuses (s : State) (a hi lo v : Nat) : (s.setFld a hi lo v).fuses = s.fuses := rfl
@[simp] theorem State.setFld_balls (s : State) (a hi lo v : Nat) : (s.setFld a hi lo v).balls = s.balls := rfl
@[simp] theorem State.setFld_clk (s : State) (a hi lo v : Nat) : (s.setFld a hi lo v).clk = s.clk := rfl
@[simp] theorem State.setFld_clerk0 (s : State) (a hi lo v : Nat) : (s.setFld a hi lo v).clerk0 = s.clerk0 := rfl
@[simp] theorem State.setFld_clerk1 (s : State) (a hi lo v : Nat) : (s.setFld a hi lo v).clerk1 = s.clerk1 := rfl
@[simp] theorem State.setFld_bus (s : State) (a hi lo v : Nat) : (s.setFld a hi lo v).bus = s.bus := rfl
@[simp] theorem State.setFld_claimed (s : State) (a hi lo v : Nat) : (s.setFld a hi lo v).claimed = s.claimed := rfl
@[simp] theorem State.setFld_fab (s : State) (a hi lo v : Nat) : (s.setFld a hi lo v).fab = s.fab := rfl
@[simp] theorem State.setFld_conv (s : State) (a hi lo v : Nat) : (s.setFld a hi lo v).conv = s.conv := rfl
@[simp] theorem State.setFld_now (s : State) (a hi lo v : Nat) : (s.setFld a hi lo v).now = s.now := rfl
@[simp] theorem State.setFld_pwm (s : State) (a hi lo v : Nat) : (s.setFld a hi lo v).pwm = s.pwm := rfl
@[simp] theorem State.setFld_gate (s : State) (a hi lo v : Nat) : (s.setFld a hi lo v).gate = s.gate := rfl
@[simp] theorem State.setFld_extSync (s : State) (a hi lo v : Nat) : (s.setFld a hi lo v).extSync = s.extSync := rfl
@[simp] theorem State.setFld_aux (s : State) (a hi lo v : Nat) : (s.setFld a hi lo v).aux = s.aux := rfl
@[simp] theorem State.setFld_cmp (s : State) (a hi lo v : Nat) : (s.setFld a hi lo v).cmp = s.cmp := rfl
@[simp] theorem State.setFld_tel (s : State) (a hi lo v : Nat) : (s.setFld a hi lo v).tel = s.tel := rfl
@[simp] theorem State.setFld_deps (s : State) (a hi lo v : Nat) : (s.setFld a hi lo v).deps = s.deps := rfl
@[simp] theorem State.setFld_setl (s : State) (a hi lo v : Nat) : (s.setFld a hi lo v).setl = s.setl := rfl
@[simp] theorem State.setFld_mp (s : State) (a hi lo v : Nat) : (s.setFld a hi lo v).mp = s.mp := rfl
@[simp] theorem State.setFld_grid (s : State) (a hi lo v : Nat) : (s.setFld a hi lo v).grid = s.grid := rfl
@[simp] theorem State.setFld_melo (s : State) (a hi lo v : Nat) : (s.setFld a hi lo v).melo = s.melo := rfl
@[simp] theorem State.setFld_nw (s : State) (a hi lo v : Nat) : (s.setFld a hi lo v).nw = s.nw := rfl
@[simp] theorem State.setFld_ledger (s : State) (a hi lo v : Nat) : (s.setFld a hi lo v).ledger = s.ledger := rfl
@[simp] theorem State.setFld_sup (s : State) (a hi lo v : Nat) : (s.setFld a hi lo v).sup = s.sup := rfl
@[simp] theorem State.setFld_health (s : State) (a hi lo v : Nat) : (s.setFld a hi lo v).health = s.health := rfl
@[simp] theorem State.setFld_ox (s : State) (a hi lo v : Nat) : (s.setFld a hi lo v).ox = s.ox := rfl
@[simp] theorem State.setFld_ptp (s : State) (a hi lo v : Nat) : (s.setFld a hi lo v).ptp = s.ptp := rfl
@[simp] theorem State.setFld_eth (s : State) (a hi lo v : Nat) : (s.setFld a hi lo v).eth = s.eth := rfl
@[simp] theorem State.setFld_can (s : State) (a hi lo v : Nat) : (s.setFld a hi lo v).can = s.can := rfl
@[simp] theorem State.setFld_xspi (s : State) (a hi lo v : Nat) : (s.setFld a hi lo v).xspi = s.xspi := rfl
@[simp] theorem State.setFld_canDma (s : State) (a hi lo v : Nat) : (s.setFld a hi lo v).canDma = s.canDma := rfl
@[simp] theorem State.setFld_ddrGo (s : State) (a hi lo v : Nat) : (s.setFld a hi lo v).ddrGo = s.ddrGo := rfl
@[simp] theorem State.setFld_uart (s : State) (a hi lo v : Nat) : (s.setFld a hi lo v).uart = s.uart := rfl
@[simp] theorem State.setFld_spi (s : State) (a hi lo v : Nat) : (s.setFld a hi lo v).spi = s.spi := rfl
@[simp] theorem State.setFld_pilot (s : State) (a hi lo v : Nat) : (s.setFld a hi lo v).pilot = s.pilot := rfl
@[simp] theorem State.setFld_recorder (s : State) (a hi lo v : Nat) : (s.setFld a hi lo v).recorder = s.recorder := rfl
@[simp] theorem State.setFld_jtag (s : State) (a hi lo v : Nat) : (s.setFld a hi lo v).jtag = s.jtag := rfl

@[simp] theorem State.setBit_pending (s : State) (a i : Nat) (b : Bool) : (s.setBit a i b).pending = s.pending := rfl
@[simp] theorem State.setBit_mem (s : State) (a i : Nat) (b : Bool) : (s.setBit a i b).mem = s.mem := rfl
@[simp] theorem State.setBit_freeCtr (s : State) (a i : Nat) (b : Bool) : (s.setBit a i b).freeCtr = s.freeCtr := rfl
@[simp] theorem State.setBit_rst (s : State) (a i : Nat) (b : Bool) : (s.setBit a i b).rst = s.rst := rfl
@[simp] theorem State.setBit_fuses (s : State) (a i : Nat) (b : Bool) : (s.setBit a i b).fuses = s.fuses := rfl
@[simp] theorem State.setBit_balls (s : State) (a i : Nat) (b : Bool) : (s.setBit a i b).balls = s.balls := rfl
@[simp] theorem State.setBit_clk (s : State) (a i : Nat) (b : Bool) : (s.setBit a i b).clk = s.clk := rfl
@[simp] theorem State.setBit_clerk0 (s : State) (a i : Nat) (b : Bool) : (s.setBit a i b).clerk0 = s.clerk0 := rfl
@[simp] theorem State.setBit_clerk1 (s : State) (a i : Nat) (b : Bool) : (s.setBit a i b).clerk1 = s.clerk1 := rfl
@[simp] theorem State.setBit_bus (s : State) (a i : Nat) (b : Bool) : (s.setBit a i b).bus = s.bus := rfl
@[simp] theorem State.setBit_claimed (s : State) (a i : Nat) (b : Bool) : (s.setBit a i b).claimed = s.claimed := rfl
@[simp] theorem State.setBit_fab (s : State) (a i : Nat) (b : Bool) : (s.setBit a i b).fab = s.fab := rfl
@[simp] theorem State.setBit_conv (s : State) (a i : Nat) (b : Bool) : (s.setBit a i b).conv = s.conv := rfl
@[simp] theorem State.setBit_now (s : State) (a i : Nat) (b : Bool) : (s.setBit a i b).now = s.now := rfl
@[simp] theorem State.setBit_pwm (s : State) (a i : Nat) (b : Bool) : (s.setBit a i b).pwm = s.pwm := rfl
@[simp] theorem State.setBit_gate (s : State) (a i : Nat) (b : Bool) : (s.setBit a i b).gate = s.gate := rfl
@[simp] theorem State.setBit_extSync (s : State) (a i : Nat) (b : Bool) : (s.setBit a i b).extSync = s.extSync := rfl
@[simp] theorem State.setBit_aux (s : State) (a i : Nat) (b : Bool) : (s.setBit a i b).aux = s.aux := rfl
@[simp] theorem State.setBit_cmp (s : State) (a i : Nat) (b : Bool) : (s.setBit a i b).cmp = s.cmp := rfl
@[simp] theorem State.setBit_tel (s : State) (a i : Nat) (b : Bool) : (s.setBit a i b).tel = s.tel := rfl
@[simp] theorem State.setBit_deps (s : State) (a i : Nat) (b : Bool) : (s.setBit a i b).deps = s.deps := rfl
@[simp] theorem State.setBit_setl (s : State) (a i : Nat) (b : Bool) : (s.setBit a i b).setl = s.setl := rfl
@[simp] theorem State.setBit_mp (s : State) (a i : Nat) (b : Bool) : (s.setBit a i b).mp = s.mp := rfl
@[simp] theorem State.setBit_grid (s : State) (a i : Nat) (b : Bool) : (s.setBit a i b).grid = s.grid := rfl
@[simp] theorem State.setBit_melo (s : State) (a i : Nat) (b : Bool) : (s.setBit a i b).melo = s.melo := rfl
@[simp] theorem State.setBit_nw (s : State) (a i : Nat) (b : Bool) : (s.setBit a i b).nw = s.nw := rfl
@[simp] theorem State.setBit_ledger (s : State) (a i : Nat) (b : Bool) : (s.setBit a i b).ledger = s.ledger := rfl
@[simp] theorem State.setBit_sup (s : State) (a i : Nat) (b : Bool) : (s.setBit a i b).sup = s.sup := rfl
@[simp] theorem State.setBit_health (s : State) (a i : Nat) (b : Bool) : (s.setBit a i b).health = s.health := rfl
@[simp] theorem State.setBit_ox (s : State) (a i : Nat) (b : Bool) : (s.setBit a i b).ox = s.ox := rfl
@[simp] theorem State.setBit_ptp (s : State) (a i : Nat) (b : Bool) : (s.setBit a i b).ptp = s.ptp := rfl
@[simp] theorem State.setBit_eth (s : State) (a i : Nat) (b : Bool) : (s.setBit a i b).eth = s.eth := rfl
@[simp] theorem State.setBit_can (s : State) (a i : Nat) (b : Bool) : (s.setBit a i b).can = s.can := rfl
@[simp] theorem State.setBit_xspi (s : State) (a i : Nat) (b : Bool) : (s.setBit a i b).xspi = s.xspi := rfl
@[simp] theorem State.setBit_canDma (s : State) (a i : Nat) (b : Bool) : (s.setBit a i b).canDma = s.canDma := rfl
@[simp] theorem State.setBit_ddrGo (s : State) (a i : Nat) (b : Bool) : (s.setBit a i b).ddrGo = s.ddrGo := rfl
@[simp] theorem State.setBit_uart (s : State) (a i : Nat) (b : Bool) : (s.setBit a i b).uart = s.uart := rfl
@[simp] theorem State.setBit_spi (s : State) (a i : Nat) (b : Bool) : (s.setBit a i b).spi = s.spi := rfl
@[simp] theorem State.setBit_pilot (s : State) (a i : Nat) (b : Bool) : (s.setBit a i b).pilot = s.pilot := rfl
@[simp] theorem State.setBit_recorder (s : State) (a i : Nat) (b : Bool) : (s.setBit a i b).recorder = s.recorder := rfl
@[simp] theorem State.setBit_jtag (s : State) (a i : Nat) (b : Bool) : (s.setBit a i b).jtag = s.jtag := rfl

@[simp] theorem State.orBits_pending (s : State) (a m : Nat) : (s.orBits a m).pending = s.pending := rfl
@[simp] theorem State.orBits_mem (s : State) (a m : Nat) : (s.orBits a m).mem = s.mem := rfl
@[simp] theorem State.orBits_freeCtr (s : State) (a m : Nat) : (s.orBits a m).freeCtr = s.freeCtr := rfl
@[simp] theorem State.orBits_rst (s : State) (a m : Nat) : (s.orBits a m).rst = s.rst := rfl
@[simp] theorem State.orBits_fuses (s : State) (a m : Nat) : (s.orBits a m).fuses = s.fuses := rfl
@[simp] theorem State.orBits_balls (s : State) (a m : Nat) : (s.orBits a m).balls = s.balls := rfl
@[simp] theorem State.orBits_clk (s : State) (a m : Nat) : (s.orBits a m).clk = s.clk := rfl
@[simp] theorem State.orBits_clerk0 (s : State) (a m : Nat) : (s.orBits a m).clerk0 = s.clerk0 := rfl
@[simp] theorem State.orBits_clerk1 (s : State) (a m : Nat) : (s.orBits a m).clerk1 = s.clerk1 := rfl
@[simp] theorem State.orBits_bus (s : State) (a m : Nat) : (s.orBits a m).bus = s.bus := rfl
@[simp] theorem State.orBits_claimed (s : State) (a m : Nat) : (s.orBits a m).claimed = s.claimed := rfl
@[simp] theorem State.orBits_fab (s : State) (a m : Nat) : (s.orBits a m).fab = s.fab := rfl
@[simp] theorem State.orBits_conv (s : State) (a m : Nat) : (s.orBits a m).conv = s.conv := rfl
@[simp] theorem State.orBits_now (s : State) (a m : Nat) : (s.orBits a m).now = s.now := rfl
@[simp] theorem State.orBits_pwm (s : State) (a m : Nat) : (s.orBits a m).pwm = s.pwm := rfl
@[simp] theorem State.orBits_gate (s : State) (a m : Nat) : (s.orBits a m).gate = s.gate := rfl
@[simp] theorem State.orBits_extSync (s : State) (a m : Nat) : (s.orBits a m).extSync = s.extSync := rfl
@[simp] theorem State.orBits_aux (s : State) (a m : Nat) : (s.orBits a m).aux = s.aux := rfl
@[simp] theorem State.orBits_cmp (s : State) (a m : Nat) : (s.orBits a m).cmp = s.cmp := rfl
@[simp] theorem State.orBits_tel (s : State) (a m : Nat) : (s.orBits a m).tel = s.tel := rfl
@[simp] theorem State.orBits_deps (s : State) (a m : Nat) : (s.orBits a m).deps = s.deps := rfl
@[simp] theorem State.orBits_setl (s : State) (a m : Nat) : (s.orBits a m).setl = s.setl := rfl
@[simp] theorem State.orBits_mp (s : State) (a m : Nat) : (s.orBits a m).mp = s.mp := rfl
@[simp] theorem State.orBits_grid (s : State) (a m : Nat) : (s.orBits a m).grid = s.grid := rfl
@[simp] theorem State.orBits_melo (s : State) (a m : Nat) : (s.orBits a m).melo = s.melo := rfl
@[simp] theorem State.orBits_nw (s : State) (a m : Nat) : (s.orBits a m).nw = s.nw := rfl
@[simp] theorem State.orBits_ledger (s : State) (a m : Nat) : (s.orBits a m).ledger = s.ledger := rfl
@[simp] theorem State.orBits_sup (s : State) (a m : Nat) : (s.orBits a m).sup = s.sup := rfl
@[simp] theorem State.orBits_health (s : State) (a m : Nat) : (s.orBits a m).health = s.health := rfl
@[simp] theorem State.orBits_ox (s : State) (a m : Nat) : (s.orBits a m).ox = s.ox := rfl
@[simp] theorem State.orBits_ptp (s : State) (a m : Nat) : (s.orBits a m).ptp = s.ptp := rfl
@[simp] theorem State.orBits_eth (s : State) (a m : Nat) : (s.orBits a m).eth = s.eth := rfl
@[simp] theorem State.orBits_can (s : State) (a m : Nat) : (s.orBits a m).can = s.can := rfl
@[simp] theorem State.orBits_xspi (s : State) (a m : Nat) : (s.orBits a m).xspi = s.xspi := rfl
@[simp] theorem State.orBits_canDma (s : State) (a m : Nat) : (s.orBits a m).canDma = s.canDma := rfl
@[simp] theorem State.orBits_ddrGo (s : State) (a m : Nat) : (s.orBits a m).ddrGo = s.ddrGo := rfl
@[simp] theorem State.orBits_uart (s : State) (a m : Nat) : (s.orBits a m).uart = s.uart := rfl
@[simp] theorem State.orBits_spi (s : State) (a m : Nat) : (s.orBits a m).spi = s.spi := rfl
@[simp] theorem State.orBits_pilot (s : State) (a m : Nat) : (s.orBits a m).pilot = s.pilot := rfl
@[simp] theorem State.orBits_recorder (s : State) (a m : Nat) : (s.orBits a m).recorder = s.recorder := rfl
@[simp] theorem State.orBits_jtag (s : State) (a m : Nat) : (s.orBits a m).jtag = s.jtag := rfl

@[simp] theorem State.count_pending (s : State) (a hi lo n : Nat) : (s.count a hi lo n).pending = s.pending := rfl
@[simp] theorem State.count_mem (s : State) (a hi lo n : Nat) : (s.count a hi lo n).mem = s.mem := rfl
@[simp] theorem State.count_freeCtr (s : State) (a hi lo n : Nat) : (s.count a hi lo n).freeCtr = s.freeCtr := rfl
@[simp] theorem State.count_rst (s : State) (a hi lo n : Nat) : (s.count a hi lo n).rst = s.rst := rfl
@[simp] theorem State.count_fuses (s : State) (a hi lo n : Nat) : (s.count a hi lo n).fuses = s.fuses := rfl
@[simp] theorem State.count_balls (s : State) (a hi lo n : Nat) : (s.count a hi lo n).balls = s.balls := rfl
@[simp] theorem State.count_clk (s : State) (a hi lo n : Nat) : (s.count a hi lo n).clk = s.clk := rfl
@[simp] theorem State.count_clerk0 (s : State) (a hi lo n : Nat) : (s.count a hi lo n).clerk0 = s.clerk0 := rfl
@[simp] theorem State.count_clerk1 (s : State) (a hi lo n : Nat) : (s.count a hi lo n).clerk1 = s.clerk1 := rfl
@[simp] theorem State.count_bus (s : State) (a hi lo n : Nat) : (s.count a hi lo n).bus = s.bus := rfl
@[simp] theorem State.count_claimed (s : State) (a hi lo n : Nat) : (s.count a hi lo n).claimed = s.claimed := rfl
@[simp] theorem State.count_fab (s : State) (a hi lo n : Nat) : (s.count a hi lo n).fab = s.fab := rfl
@[simp] theorem State.count_conv (s : State) (a hi lo n : Nat) : (s.count a hi lo n).conv = s.conv := rfl
@[simp] theorem State.count_now (s : State) (a hi lo n : Nat) : (s.count a hi lo n).now = s.now := rfl
@[simp] theorem State.count_pwm (s : State) (a hi lo n : Nat) : (s.count a hi lo n).pwm = s.pwm := rfl
@[simp] theorem State.count_gate (s : State) (a hi lo n : Nat) : (s.count a hi lo n).gate = s.gate := rfl
@[simp] theorem State.count_extSync (s : State) (a hi lo n : Nat) : (s.count a hi lo n).extSync = s.extSync := rfl
@[simp] theorem State.count_aux (s : State) (a hi lo n : Nat) : (s.count a hi lo n).aux = s.aux := rfl
@[simp] theorem State.count_cmp (s : State) (a hi lo n : Nat) : (s.count a hi lo n).cmp = s.cmp := rfl
@[simp] theorem State.count_tel (s : State) (a hi lo n : Nat) : (s.count a hi lo n).tel = s.tel := rfl
@[simp] theorem State.count_deps (s : State) (a hi lo n : Nat) : (s.count a hi lo n).deps = s.deps := rfl
@[simp] theorem State.count_setl (s : State) (a hi lo n : Nat) : (s.count a hi lo n).setl = s.setl := rfl
@[simp] theorem State.count_mp (s : State) (a hi lo n : Nat) : (s.count a hi lo n).mp = s.mp := rfl
@[simp] theorem State.count_grid (s : State) (a hi lo n : Nat) : (s.count a hi lo n).grid = s.grid := rfl
@[simp] theorem State.count_melo (s : State) (a hi lo n : Nat) : (s.count a hi lo n).melo = s.melo := rfl
@[simp] theorem State.count_nw (s : State) (a hi lo n : Nat) : (s.count a hi lo n).nw = s.nw := rfl
@[simp] theorem State.count_ledger (s : State) (a hi lo n : Nat) : (s.count a hi lo n).ledger = s.ledger := rfl
@[simp] theorem State.count_sup (s : State) (a hi lo n : Nat) : (s.count a hi lo n).sup = s.sup := rfl
@[simp] theorem State.count_health (s : State) (a hi lo n : Nat) : (s.count a hi lo n).health = s.health := rfl
@[simp] theorem State.count_ox (s : State) (a hi lo n : Nat) : (s.count a hi lo n).ox = s.ox := rfl
@[simp] theorem State.count_ptp (s : State) (a hi lo n : Nat) : (s.count a hi lo n).ptp = s.ptp := rfl
@[simp] theorem State.count_eth (s : State) (a hi lo n : Nat) : (s.count a hi lo n).eth = s.eth := rfl
@[simp] theorem State.count_can (s : State) (a hi lo n : Nat) : (s.count a hi lo n).can = s.can := rfl
@[simp] theorem State.count_xspi (s : State) (a hi lo n : Nat) : (s.count a hi lo n).xspi = s.xspi := rfl
@[simp] theorem State.count_canDma (s : State) (a hi lo n : Nat) : (s.count a hi lo n).canDma = s.canDma := rfl
@[simp] theorem State.count_ddrGo (s : State) (a hi lo n : Nat) : (s.count a hi lo n).ddrGo = s.ddrGo := rfl
@[simp] theorem State.count_uart (s : State) (a hi lo n : Nat) : (s.count a hi lo n).uart = s.uart := rfl
@[simp] theorem State.count_spi (s : State) (a hi lo n : Nat) : (s.count a hi lo n).spi = s.spi := rfl
@[simp] theorem State.count_pilot (s : State) (a hi lo n : Nat) : (s.count a hi lo n).pilot = s.pilot := rfl
@[simp] theorem State.count_recorder (s : State) (a hi lo n : Nat) : (s.count a hi lo n).recorder = s.recorder := rfl
@[simp] theorem State.count_jtag (s : State) (a hi lo n : Nat) : (s.count a hi lo n).jtag = s.jtag := rfl

@[simp] theorem State.irq_pending (s : State) (base i : Nat) : (s.irq base i).pending = s.pending := rfl
@[simp] theorem State.irq_mem (s : State) (base i : Nat) : (s.irq base i).mem = s.mem := rfl
@[simp] theorem State.irq_freeCtr (s : State) (base i : Nat) : (s.irq base i).freeCtr = s.freeCtr := rfl
@[simp] theorem State.irq_rst (s : State) (base i : Nat) : (s.irq base i).rst = s.rst := rfl
@[simp] theorem State.irq_fuses (s : State) (base i : Nat) : (s.irq base i).fuses = s.fuses := rfl
@[simp] theorem State.irq_balls (s : State) (base i : Nat) : (s.irq base i).balls = s.balls := rfl
@[simp] theorem State.irq_clk (s : State) (base i : Nat) : (s.irq base i).clk = s.clk := rfl
@[simp] theorem State.irq_clerk0 (s : State) (base i : Nat) : (s.irq base i).clerk0 = s.clerk0 := rfl
@[simp] theorem State.irq_clerk1 (s : State) (base i : Nat) : (s.irq base i).clerk1 = s.clerk1 := rfl
@[simp] theorem State.irq_bus (s : State) (base i : Nat) : (s.irq base i).bus = s.bus := rfl
@[simp] theorem State.irq_claimed (s : State) (base i : Nat) : (s.irq base i).claimed = s.claimed := rfl
@[simp] theorem State.irq_fab (s : State) (base i : Nat) : (s.irq base i).fab = s.fab := rfl
@[simp] theorem State.irq_conv (s : State) (base i : Nat) : (s.irq base i).conv = s.conv := rfl
@[simp] theorem State.irq_now (s : State) (base i : Nat) : (s.irq base i).now = s.now := rfl
@[simp] theorem State.irq_pwm (s : State) (base i : Nat) : (s.irq base i).pwm = s.pwm := rfl
@[simp] theorem State.irq_gate (s : State) (base i : Nat) : (s.irq base i).gate = s.gate := rfl
@[simp] theorem State.irq_extSync (s : State) (base i : Nat) : (s.irq base i).extSync = s.extSync := rfl
@[simp] theorem State.irq_aux (s : State) (base i : Nat) : (s.irq base i).aux = s.aux := rfl
@[simp] theorem State.irq_cmp (s : State) (base i : Nat) : (s.irq base i).cmp = s.cmp := rfl
@[simp] theorem State.irq_tel (s : State) (base i : Nat) : (s.irq base i).tel = s.tel := rfl
@[simp] theorem State.irq_deps (s : State) (base i : Nat) : (s.irq base i).deps = s.deps := rfl
@[simp] theorem State.irq_setl (s : State) (base i : Nat) : (s.irq base i).setl = s.setl := rfl
@[simp] theorem State.irq_mp (s : State) (base i : Nat) : (s.irq base i).mp = s.mp := rfl
@[simp] theorem State.irq_grid (s : State) (base i : Nat) : (s.irq base i).grid = s.grid := rfl
@[simp] theorem State.irq_melo (s : State) (base i : Nat) : (s.irq base i).melo = s.melo := rfl
@[simp] theorem State.irq_nw (s : State) (base i : Nat) : (s.irq base i).nw = s.nw := rfl
@[simp] theorem State.irq_ledger (s : State) (base i : Nat) : (s.irq base i).ledger = s.ledger := rfl
@[simp] theorem State.irq_sup (s : State) (base i : Nat) : (s.irq base i).sup = s.sup := rfl
@[simp] theorem State.irq_health (s : State) (base i : Nat) : (s.irq base i).health = s.health := rfl
@[simp] theorem State.irq_ox (s : State) (base i : Nat) : (s.irq base i).ox = s.ox := rfl
@[simp] theorem State.irq_ptp (s : State) (base i : Nat) : (s.irq base i).ptp = s.ptp := rfl
@[simp] theorem State.irq_eth (s : State) (base i : Nat) : (s.irq base i).eth = s.eth := rfl
@[simp] theorem State.irq_can (s : State) (base i : Nat) : (s.irq base i).can = s.can := rfl
@[simp] theorem State.irq_xspi (s : State) (base i : Nat) : (s.irq base i).xspi = s.xspi := rfl
@[simp] theorem State.irq_canDma (s : State) (base i : Nat) : (s.irq base i).canDma = s.canDma := rfl
@[simp] theorem State.irq_ddrGo (s : State) (base i : Nat) : (s.irq base i).ddrGo = s.ddrGo := rfl
@[simp] theorem State.irq_uart (s : State) (base i : Nat) : (s.irq base i).uart = s.uart := rfl
@[simp] theorem State.irq_spi (s : State) (base i : Nat) : (s.irq base i).spi = s.spi := rfl
@[simp] theorem State.irq_pilot (s : State) (base i : Nat) : (s.irq base i).pilot = s.pilot := rfl
@[simp] theorem State.irq_recorder (s : State) (base i : Nat) : (s.irq base i).recorder = s.recorder := rfl
@[simp] theorem State.irq_jtag (s : State) (base i : Nat) : (s.irq base i).jtag = s.jtag := rfl

@[simp] theorem State.dropRegs_pending (s : State) (lo hi : Nat) : (s.dropRegs lo hi).pending = s.pending := rfl
@[simp] theorem State.dropRegs_mem (s : State) (lo hi : Nat) : (s.dropRegs lo hi).mem = s.mem := rfl
@[simp] theorem State.dropRegs_freeCtr (s : State) (lo hi : Nat) : (s.dropRegs lo hi).freeCtr = s.freeCtr := rfl
@[simp] theorem State.dropRegs_rst (s : State) (lo hi : Nat) : (s.dropRegs lo hi).rst = s.rst := rfl
@[simp] theorem State.dropRegs_fuses (s : State) (lo hi : Nat) : (s.dropRegs lo hi).fuses = s.fuses := rfl
@[simp] theorem State.dropRegs_balls (s : State) (lo hi : Nat) : (s.dropRegs lo hi).balls = s.balls := rfl
@[simp] theorem State.dropRegs_clk (s : State) (lo hi : Nat) : (s.dropRegs lo hi).clk = s.clk := rfl
@[simp] theorem State.dropRegs_clerk0 (s : State) (lo hi : Nat) : (s.dropRegs lo hi).clerk0 = s.clerk0 := rfl
@[simp] theorem State.dropRegs_clerk1 (s : State) (lo hi : Nat) : (s.dropRegs lo hi).clerk1 = s.clerk1 := rfl
@[simp] theorem State.dropRegs_bus (s : State) (lo hi : Nat) : (s.dropRegs lo hi).bus = s.bus := rfl
@[simp] theorem State.dropRegs_claimed (s : State) (lo hi : Nat) : (s.dropRegs lo hi).claimed = s.claimed := rfl
@[simp] theorem State.dropRegs_fab (s : State) (lo hi : Nat) : (s.dropRegs lo hi).fab = s.fab := rfl
@[simp] theorem State.dropRegs_conv (s : State) (lo hi : Nat) : (s.dropRegs lo hi).conv = s.conv := rfl
@[simp] theorem State.dropRegs_now (s : State) (lo hi : Nat) : (s.dropRegs lo hi).now = s.now := rfl
@[simp] theorem State.dropRegs_pwm (s : State) (lo hi : Nat) : (s.dropRegs lo hi).pwm = s.pwm := rfl
@[simp] theorem State.dropRegs_gate (s : State) (lo hi : Nat) : (s.dropRegs lo hi).gate = s.gate := rfl
@[simp] theorem State.dropRegs_extSync (s : State) (lo hi : Nat) : (s.dropRegs lo hi).extSync = s.extSync := rfl
@[simp] theorem State.dropRegs_aux (s : State) (lo hi : Nat) : (s.dropRegs lo hi).aux = s.aux := rfl
@[simp] theorem State.dropRegs_cmp (s : State) (lo hi : Nat) : (s.dropRegs lo hi).cmp = s.cmp := rfl
@[simp] theorem State.dropRegs_tel (s : State) (lo hi : Nat) : (s.dropRegs lo hi).tel = s.tel := rfl
@[simp] theorem State.dropRegs_deps (s : State) (lo hi : Nat) : (s.dropRegs lo hi).deps = s.deps := rfl
@[simp] theorem State.dropRegs_setl (s : State) (lo hi : Nat) : (s.dropRegs lo hi).setl = s.setl := rfl
@[simp] theorem State.dropRegs_mp (s : State) (lo hi : Nat) : (s.dropRegs lo hi).mp = s.mp := rfl
@[simp] theorem State.dropRegs_grid (s : State) (lo hi : Nat) : (s.dropRegs lo hi).grid = s.grid := rfl
@[simp] theorem State.dropRegs_melo (s : State) (lo hi : Nat) : (s.dropRegs lo hi).melo = s.melo := rfl
@[simp] theorem State.dropRegs_nw (s : State) (lo hi : Nat) : (s.dropRegs lo hi).nw = s.nw := rfl
@[simp] theorem State.dropRegs_ledger (s : State) (lo hi : Nat) : (s.dropRegs lo hi).ledger = s.ledger := rfl
@[simp] theorem State.dropRegs_sup (s : State) (lo hi : Nat) : (s.dropRegs lo hi).sup = s.sup := rfl
@[simp] theorem State.dropRegs_health (s : State) (lo hi : Nat) : (s.dropRegs lo hi).health = s.health := rfl
@[simp] theorem State.dropRegs_ox (s : State) (lo hi : Nat) : (s.dropRegs lo hi).ox = s.ox := rfl
@[simp] theorem State.dropRegs_ptp (s : State) (lo hi : Nat) : (s.dropRegs lo hi).ptp = s.ptp := rfl
@[simp] theorem State.dropRegs_eth (s : State) (lo hi : Nat) : (s.dropRegs lo hi).eth = s.eth := rfl
@[simp] theorem State.dropRegs_can (s : State) (lo hi : Nat) : (s.dropRegs lo hi).can = s.can := rfl
@[simp] theorem State.dropRegs_xspi (s : State) (lo hi : Nat) : (s.dropRegs lo hi).xspi = s.xspi := rfl
@[simp] theorem State.dropRegs_canDma (s : State) (lo hi : Nat) : (s.dropRegs lo hi).canDma = s.canDma := rfl
@[simp] theorem State.dropRegs_ddrGo (s : State) (lo hi : Nat) : (s.dropRegs lo hi).ddrGo = s.ddrGo := rfl
@[simp] theorem State.dropRegs_uart (s : State) (lo hi : Nat) : (s.dropRegs lo hi).uart = s.uart := rfl
@[simp] theorem State.dropRegs_spi (s : State) (lo hi : Nat) : (s.dropRegs lo hi).spi = s.spi := rfl
@[simp] theorem State.dropRegs_pilot (s : State) (lo hi : Nat) : (s.dropRegs lo hi).pilot = s.pilot := rfl
@[simp] theorem State.dropRegs_recorder (s : State) (lo hi : Nat) : (s.dropRegs lo hi).recorder = s.recorder := rfl
@[simp] theorem State.dropRegs_jtag (s : State) (lo hi : Nat) : (s.dropRegs lo hi).jtag = s.jtag := rfl

@[simp] theorem State.setByte_pending (s : State) (a : Nat) (v : Byte) : (s.setByte a v).pending = s.pending := rfl
@[simp] theorem State.setByte_regs (s : State) (a : Nat) (v : Byte) : (s.setByte a v).regs = s.regs := rfl
@[simp] theorem State.setByte_freeCtr (s : State) (a : Nat) (v : Byte) : (s.setByte a v).freeCtr = s.freeCtr := rfl
@[simp] theorem State.setByte_rst (s : State) (a : Nat) (v : Byte) : (s.setByte a v).rst = s.rst := rfl
@[simp] theorem State.setByte_fuses (s : State) (a : Nat) (v : Byte) : (s.setByte a v).fuses = s.fuses := rfl
@[simp] theorem State.setByte_balls (s : State) (a : Nat) (v : Byte) : (s.setByte a v).balls = s.balls := rfl
@[simp] theorem State.setByte_clk (s : State) (a : Nat) (v : Byte) : (s.setByte a v).clk = s.clk := rfl
@[simp] theorem State.setByte_clerk0 (s : State) (a : Nat) (v : Byte) : (s.setByte a v).clerk0 = s.clerk0 := rfl
@[simp] theorem State.setByte_clerk1 (s : State) (a : Nat) (v : Byte) : (s.setByte a v).clerk1 = s.clerk1 := rfl
@[simp] theorem State.setByte_bus (s : State) (a : Nat) (v : Byte) : (s.setByte a v).bus = s.bus := rfl
@[simp] theorem State.setByte_claimed (s : State) (a : Nat) (v : Byte) : (s.setByte a v).claimed = s.claimed := rfl
@[simp] theorem State.setByte_fab (s : State) (a : Nat) (v : Byte) : (s.setByte a v).fab = s.fab := rfl
@[simp] theorem State.setByte_conv (s : State) (a : Nat) (v : Byte) : (s.setByte a v).conv = s.conv := rfl
@[simp] theorem State.setByte_now (s : State) (a : Nat) (v : Byte) : (s.setByte a v).now = s.now := rfl
@[simp] theorem State.setByte_pwm (s : State) (a : Nat) (v : Byte) : (s.setByte a v).pwm = s.pwm := rfl
@[simp] theorem State.setByte_gate (s : State) (a : Nat) (v : Byte) : (s.setByte a v).gate = s.gate := rfl
@[simp] theorem State.setByte_extSync (s : State) (a : Nat) (v : Byte) : (s.setByte a v).extSync = s.extSync := rfl
@[simp] theorem State.setByte_aux (s : State) (a : Nat) (v : Byte) : (s.setByte a v).aux = s.aux := rfl
@[simp] theorem State.setByte_cmp (s : State) (a : Nat) (v : Byte) : (s.setByte a v).cmp = s.cmp := rfl
@[simp] theorem State.setByte_tel (s : State) (a : Nat) (v : Byte) : (s.setByte a v).tel = s.tel := rfl
@[simp] theorem State.setByte_deps (s : State) (a : Nat) (v : Byte) : (s.setByte a v).deps = s.deps := rfl
@[simp] theorem State.setByte_setl (s : State) (a : Nat) (v : Byte) : (s.setByte a v).setl = s.setl := rfl
@[simp] theorem State.setByte_mp (s : State) (a : Nat) (v : Byte) : (s.setByte a v).mp = s.mp := rfl
@[simp] theorem State.setByte_grid (s : State) (a : Nat) (v : Byte) : (s.setByte a v).grid = s.grid := rfl
@[simp] theorem State.setByte_melo (s : State) (a : Nat) (v : Byte) : (s.setByte a v).melo = s.melo := rfl
@[simp] theorem State.setByte_nw (s : State) (a : Nat) (v : Byte) : (s.setByte a v).nw = s.nw := rfl
@[simp] theorem State.setByte_ledger (s : State) (a : Nat) (v : Byte) : (s.setByte a v).ledger = s.ledger := rfl
@[simp] theorem State.setByte_sup (s : State) (a : Nat) (v : Byte) : (s.setByte a v).sup = s.sup := rfl
@[simp] theorem State.setByte_health (s : State) (a : Nat) (v : Byte) : (s.setByte a v).health = s.health := rfl
@[simp] theorem State.setByte_ox (s : State) (a : Nat) (v : Byte) : (s.setByte a v).ox = s.ox := rfl
@[simp] theorem State.setByte_ptp (s : State) (a : Nat) (v : Byte) : (s.setByte a v).ptp = s.ptp := rfl
@[simp] theorem State.setByte_eth (s : State) (a : Nat) (v : Byte) : (s.setByte a v).eth = s.eth := rfl
@[simp] theorem State.setByte_can (s : State) (a : Nat) (v : Byte) : (s.setByte a v).can = s.can := rfl
@[simp] theorem State.setByte_xspi (s : State) (a : Nat) (v : Byte) : (s.setByte a v).xspi = s.xspi := rfl
@[simp] theorem State.setByte_canDma (s : State) (a : Nat) (v : Byte) : (s.setByte a v).canDma = s.canDma := rfl
@[simp] theorem State.setByte_ddrGo (s : State) (a : Nat) (v : Byte) : (s.setByte a v).ddrGo = s.ddrGo := rfl
@[simp] theorem State.setByte_uart (s : State) (a : Nat) (v : Byte) : (s.setByte a v).uart = s.uart := rfl
@[simp] theorem State.setByte_spi (s : State) (a : Nat) (v : Byte) : (s.setByte a v).spi = s.spi := rfl
@[simp] theorem State.setByte_pilot (s : State) (a : Nat) (v : Byte) : (s.setByte a v).pilot = s.pilot := rfl
@[simp] theorem State.setByte_recorder (s : State) (a : Nat) (v : Byte) : (s.setByte a v).recorder = s.recorder := rfl
@[simp] theorem State.setByte_jtag (s : State) (a : Nat) (v : Byte) : (s.setByte a v).jtag = s.jtag := rfl

@[simp] theorem State.atTime_pending (s : State) (n : Nat) : (s.atTime n).pending = s.pending := rfl
@[simp] theorem State.atTime_regs (s : State) (n : Nat) : (s.atTime n).regs = s.regs := rfl
@[simp] theorem State.atTime_mem (s : State) (n : Nat) : (s.atTime n).mem = s.mem := rfl
@[simp] theorem State.atTime_freeCtr (s : State) (n : Nat) : (s.atTime n).freeCtr = s.freeCtr := rfl
@[simp] theorem State.atTime_rst (s : State) (n : Nat) : (s.atTime n).rst = s.rst := rfl
@[simp] theorem State.atTime_fuses (s : State) (n : Nat) : (s.atTime n).fuses = s.fuses := rfl
@[simp] theorem State.atTime_balls (s : State) (n : Nat) : (s.atTime n).balls = s.balls := rfl
@[simp] theorem State.atTime_clk (s : State) (n : Nat) : (s.atTime n).clk = s.clk := rfl
@[simp] theorem State.atTime_clerk0 (s : State) (n : Nat) : (s.atTime n).clerk0 = s.clerk0 := rfl
@[simp] theorem State.atTime_clerk1 (s : State) (n : Nat) : (s.atTime n).clerk1 = s.clerk1 := rfl
@[simp] theorem State.atTime_bus (s : State) (n : Nat) : (s.atTime n).bus = s.bus := rfl
@[simp] theorem State.atTime_claimed (s : State) (n : Nat) : (s.atTime n).claimed = s.claimed := rfl
@[simp] theorem State.atTime_fab (s : State) (n : Nat) : (s.atTime n).fab = s.fab := rfl
@[simp] theorem State.atTime_conv (s : State) (n : Nat) : (s.atTime n).conv = s.conv := rfl
@[simp] theorem State.atTime_pwm (s : State) (n : Nat) : (s.atTime n).pwm = s.pwm := rfl
@[simp] theorem State.atTime_gate (s : State) (n : Nat) : (s.atTime n).gate = s.gate := rfl
@[simp] theorem State.atTime_extSync (s : State) (n : Nat) : (s.atTime n).extSync = s.extSync := rfl
@[simp] theorem State.atTime_aux (s : State) (n : Nat) : (s.atTime n).aux = s.aux := rfl
@[simp] theorem State.atTime_cmp (s : State) (n : Nat) : (s.atTime n).cmp = s.cmp := rfl
@[simp] theorem State.atTime_tel (s : State) (n : Nat) : (s.atTime n).tel = s.tel := rfl
@[simp] theorem State.atTime_deps (s : State) (n : Nat) : (s.atTime n).deps = s.deps := rfl
@[simp] theorem State.atTime_setl (s : State) (n : Nat) : (s.atTime n).setl = s.setl := rfl
@[simp] theorem State.atTime_mp (s : State) (n : Nat) : (s.atTime n).mp = s.mp := rfl
@[simp] theorem State.atTime_grid (s : State) (n : Nat) : (s.atTime n).grid = s.grid := rfl
@[simp] theorem State.atTime_melo (s : State) (n : Nat) : (s.atTime n).melo = s.melo := rfl
@[simp] theorem State.atTime_nw (s : State) (n : Nat) : (s.atTime n).nw = s.nw := rfl
@[simp] theorem State.atTime_ledger (s : State) (n : Nat) : (s.atTime n).ledger = s.ledger := rfl
@[simp] theorem State.atTime_sup (s : State) (n : Nat) : (s.atTime n).sup = s.sup := rfl
@[simp] theorem State.atTime_health (s : State) (n : Nat) : (s.atTime n).health = s.health := rfl
@[simp] theorem State.atTime_ox (s : State) (n : Nat) : (s.atTime n).ox = s.ox := rfl
@[simp] theorem State.atTime_ptp (s : State) (n : Nat) : (s.atTime n).ptp = s.ptp := rfl
@[simp] theorem State.atTime_eth (s : State) (n : Nat) : (s.atTime n).eth = s.eth := rfl
@[simp] theorem State.atTime_can (s : State) (n : Nat) : (s.atTime n).can = s.can := rfl
@[simp] theorem State.atTime_xspi (s : State) (n : Nat) : (s.atTime n).xspi = s.xspi := rfl
@[simp] theorem State.atTime_canDma (s : State) (n : Nat) : (s.atTime n).canDma = s.canDma := rfl
@[simp] theorem State.atTime_ddrGo (s : State) (n : Nat) : (s.atTime n).ddrGo = s.ddrGo := rfl
@[simp] theorem State.atTime_uart (s : State) (n : Nat) : (s.atTime n).uart = s.uart := rfl
@[simp] theorem State.atTime_spi (s : State) (n : Nat) : (s.atTime n).spi = s.spi := rfl
@[simp] theorem State.atTime_pilot (s : State) (n : Nat) : (s.atTime n).pilot = s.pilot := rfl
@[simp] theorem State.atTime_recorder (s : State) (n : Nat) : (s.atTime n).recorder = s.recorder := rfl
@[simp] theorem State.atTime_jtag (s : State) (n : Nat) : (s.atTime n).jtag = s.jtag := rfl

@[simp] theorem State.bumpFree_pending (s : State) : (s.bumpFree).pending = s.pending := rfl
@[simp] theorem State.bumpFree_regs (s : State) : (s.bumpFree).regs = s.regs := rfl
@[simp] theorem State.bumpFree_mem (s : State) : (s.bumpFree).mem = s.mem := rfl
@[simp] theorem State.bumpFree_rst (s : State) : (s.bumpFree).rst = s.rst := rfl
@[simp] theorem State.bumpFree_fuses (s : State) : (s.bumpFree).fuses = s.fuses := rfl
@[simp] theorem State.bumpFree_balls (s : State) : (s.bumpFree).balls = s.balls := rfl
@[simp] theorem State.bumpFree_clk (s : State) : (s.bumpFree).clk = s.clk := rfl
@[simp] theorem State.bumpFree_clerk0 (s : State) : (s.bumpFree).clerk0 = s.clerk0 := rfl
@[simp] theorem State.bumpFree_clerk1 (s : State) : (s.bumpFree).clerk1 = s.clerk1 := rfl
@[simp] theorem State.bumpFree_bus (s : State) : (s.bumpFree).bus = s.bus := rfl
@[simp] theorem State.bumpFree_claimed (s : State) : (s.bumpFree).claimed = s.claimed := rfl
@[simp] theorem State.bumpFree_fab (s : State) : (s.bumpFree).fab = s.fab := rfl
@[simp] theorem State.bumpFree_conv (s : State) : (s.bumpFree).conv = s.conv := rfl
@[simp] theorem State.bumpFree_now (s : State) : (s.bumpFree).now = s.now := rfl
@[simp] theorem State.bumpFree_pwm (s : State) : (s.bumpFree).pwm = s.pwm := rfl
@[simp] theorem State.bumpFree_gate (s : State) : (s.bumpFree).gate = s.gate := rfl
@[simp] theorem State.bumpFree_extSync (s : State) : (s.bumpFree).extSync = s.extSync := rfl
@[simp] theorem State.bumpFree_aux (s : State) : (s.bumpFree).aux = s.aux := rfl
@[simp] theorem State.bumpFree_cmp (s : State) : (s.bumpFree).cmp = s.cmp := rfl
@[simp] theorem State.bumpFree_tel (s : State) : (s.bumpFree).tel = s.tel := rfl
@[simp] theorem State.bumpFree_deps (s : State) : (s.bumpFree).deps = s.deps := rfl
@[simp] theorem State.bumpFree_setl (s : State) : (s.bumpFree).setl = s.setl := rfl
@[simp] theorem State.bumpFree_mp (s : State) : (s.bumpFree).mp = s.mp := rfl
@[simp] theorem State.bumpFree_grid (s : State) : (s.bumpFree).grid = s.grid := rfl
@[simp] theorem State.bumpFree_melo (s : State) : (s.bumpFree).melo = s.melo := rfl
@[simp] theorem State.bumpFree_nw (s : State) : (s.bumpFree).nw = s.nw := rfl
@[simp] theorem State.bumpFree_ledger (s : State) : (s.bumpFree).ledger = s.ledger := rfl
@[simp] theorem State.bumpFree_sup (s : State) : (s.bumpFree).sup = s.sup := rfl
@[simp] theorem State.bumpFree_health (s : State) : (s.bumpFree).health = s.health := rfl
@[simp] theorem State.bumpFree_ox (s : State) : (s.bumpFree).ox = s.ox := rfl
@[simp] theorem State.bumpFree_ptp (s : State) : (s.bumpFree).ptp = s.ptp := rfl
@[simp] theorem State.bumpFree_eth (s : State) : (s.bumpFree).eth = s.eth := rfl
@[simp] theorem State.bumpFree_can (s : State) : (s.bumpFree).can = s.can := rfl
@[simp] theorem State.bumpFree_xspi (s : State) : (s.bumpFree).xspi = s.xspi := rfl
@[simp] theorem State.bumpFree_canDma (s : State) : (s.bumpFree).canDma = s.canDma := rfl
@[simp] theorem State.bumpFree_ddrGo (s : State) : (s.bumpFree).ddrGo = s.ddrGo := rfl
@[simp] theorem State.bumpFree_uart (s : State) : (s.bumpFree).uart = s.uart := rfl
@[simp] theorem State.bumpFree_spi (s : State) : (s.bumpFree).spi = s.spi := rfl
@[simp] theorem State.bumpFree_pilot (s : State) : (s.bumpFree).pilot = s.pilot := rfl
@[simp] theorem State.bumpFree_recorder (s : State) : (s.bumpFree).recorder = s.recorder := rfl
@[simp] theorem State.bumpFree_jtag (s : State) : (s.bumpFree).jtag = s.jtag := rfl

@[simp] theorem State.respond_pending (s : State) (init a : Nat) (data : Word) : (s.respond init a data).pending = s.pending := rfl
@[simp] theorem State.respond_regs (s : State) (init a : Nat) (data : Word) : (s.respond init a data).regs = s.regs := rfl
@[simp] theorem State.respond_mem (s : State) (init a : Nat) (data : Word) : (s.respond init a data).mem = s.mem := rfl
@[simp] theorem State.respond_freeCtr (s : State) (init a : Nat) (data : Word) : (s.respond init a data).freeCtr = s.freeCtr := rfl
@[simp] theorem State.respond_rst (s : State) (init a : Nat) (data : Word) : (s.respond init a data).rst = s.rst := rfl
@[simp] theorem State.respond_fuses (s : State) (init a : Nat) (data : Word) : (s.respond init a data).fuses = s.fuses := rfl
@[simp] theorem State.respond_balls (s : State) (init a : Nat) (data : Word) : (s.respond init a data).balls = s.balls := rfl
@[simp] theorem State.respond_clk (s : State) (init a : Nat) (data : Word) : (s.respond init a data).clk = s.clk := rfl
@[simp] theorem State.respond_clerk0 (s : State) (init a : Nat) (data : Word) : (s.respond init a data).clerk0 = s.clerk0 := rfl
@[simp] theorem State.respond_clerk1 (s : State) (init a : Nat) (data : Word) : (s.respond init a data).clerk1 = s.clerk1 := rfl
@[simp] theorem State.respond_claimed (s : State) (init a : Nat) (data : Word) : (s.respond init a data).claimed = s.claimed := rfl
@[simp] theorem State.respond_fab (s : State) (init a : Nat) (data : Word) : (s.respond init a data).fab = s.fab := rfl
@[simp] theorem State.respond_conv (s : State) (init a : Nat) (data : Word) : (s.respond init a data).conv = s.conv := rfl
@[simp] theorem State.respond_now (s : State) (init a : Nat) (data : Word) : (s.respond init a data).now = s.now := rfl
@[simp] theorem State.respond_pwm (s : State) (init a : Nat) (data : Word) : (s.respond init a data).pwm = s.pwm := rfl
@[simp] theorem State.respond_gate (s : State) (init a : Nat) (data : Word) : (s.respond init a data).gate = s.gate := rfl
@[simp] theorem State.respond_extSync (s : State) (init a : Nat) (data : Word) : (s.respond init a data).extSync = s.extSync := rfl
@[simp] theorem State.respond_aux (s : State) (init a : Nat) (data : Word) : (s.respond init a data).aux = s.aux := rfl
@[simp] theorem State.respond_cmp (s : State) (init a : Nat) (data : Word) : (s.respond init a data).cmp = s.cmp := rfl
@[simp] theorem State.respond_tel (s : State) (init a : Nat) (data : Word) : (s.respond init a data).tel = s.tel := rfl
@[simp] theorem State.respond_deps (s : State) (init a : Nat) (data : Word) : (s.respond init a data).deps = s.deps := rfl
@[simp] theorem State.respond_setl (s : State) (init a : Nat) (data : Word) : (s.respond init a data).setl = s.setl := rfl
@[simp] theorem State.respond_mp (s : State) (init a : Nat) (data : Word) : (s.respond init a data).mp = s.mp := rfl
@[simp] theorem State.respond_grid (s : State) (init a : Nat) (data : Word) : (s.respond init a data).grid = s.grid := rfl
@[simp] theorem State.respond_melo (s : State) (init a : Nat) (data : Word) : (s.respond init a data).melo = s.melo := rfl
@[simp] theorem State.respond_nw (s : State) (init a : Nat) (data : Word) : (s.respond init a data).nw = s.nw := rfl
@[simp] theorem State.respond_ledger (s : State) (init a : Nat) (data : Word) : (s.respond init a data).ledger = s.ledger := rfl
@[simp] theorem State.respond_sup (s : State) (init a : Nat) (data : Word) : (s.respond init a data).sup = s.sup := rfl
@[simp] theorem State.respond_health (s : State) (init a : Nat) (data : Word) : (s.respond init a data).health = s.health := rfl
@[simp] theorem State.respond_ox (s : State) (init a : Nat) (data : Word) : (s.respond init a data).ox = s.ox := rfl
@[simp] theorem State.respond_ptp (s : State) (init a : Nat) (data : Word) : (s.respond init a data).ptp = s.ptp := rfl
@[simp] theorem State.respond_eth (s : State) (init a : Nat) (data : Word) : (s.respond init a data).eth = s.eth := rfl
@[simp] theorem State.respond_can (s : State) (init a : Nat) (data : Word) : (s.respond init a data).can = s.can := rfl
@[simp] theorem State.respond_xspi (s : State) (init a : Nat) (data : Word) : (s.respond init a data).xspi = s.xspi := rfl
@[simp] theorem State.respond_canDma (s : State) (init a : Nat) (data : Word) : (s.respond init a data).canDma = s.canDma := rfl
@[simp] theorem State.respond_ddrGo (s : State) (init a : Nat) (data : Word) : (s.respond init a data).ddrGo = s.ddrGo := rfl
@[simp] theorem State.respond_uart (s : State) (init a : Nat) (data : Word) : (s.respond init a data).uart = s.uart := rfl
@[simp] theorem State.respond_spi (s : State) (init a : Nat) (data : Word) : (s.respond init a data).spi = s.spi := rfl
@[simp] theorem State.respond_pilot (s : State) (init a : Nat) (data : Word) : (s.respond init a data).pilot = s.pilot := rfl
@[simp] theorem State.respond_recorder (s : State) (init a : Nat) (data : Word) : (s.respond init a data).recorder = s.recorder := rfl
@[simp] theorem State.respond_jtag (s : State) (init a : Nat) (data : Word) : (s.respond init a data).jtag = s.jtag := rfl

/-! ### Registers: a read after a write, and the frame of a write -/

@[simp] theorem State.rd_wr_self (s : State) (a : Nat) (v : Word) : (s.wr a v).rd a = v := Store.find_put_self ..

theorem State.rd_wr_ne (s : State) {a b : Nat} (v : Word) (h : b ≠ a) : (s.wr a v).rd b = s.rd b := by
  simp [State.rd, State.wr, Store.find_put_ne _ _ _ h]

theorem State.rd_wr (s : State) (a b : Nat) (v : Word) : (s.wr a v).rd b = if b = a then v else s.rd b := by
  by_cases h : b = a
  · subst h; simp
  · simp [h, State.rd_wr_ne s v h]

theorem State.rd_setFld (s : State) (a hi lo v b : Nat) :
    (s.setFld a hi lo v).rd b = if b = a then putBits (s.rd a) hi lo v else s.rd b := State.rd_wr ..

theorem State.rd_setBit (s : State) (a i : Nat) (x : Bool) (b : Nat) :
    (s.setBit a i x).rd b = if b = a then putBits (s.rd a) i i (b2n x) else s.rd b := State.rd_wr ..

theorem State.rd_orBits (s : State) (a m b : Nat) :
    (s.orBits a m).rd b = if b = a then s.rd a ||| Word.ofNat m else s.rd b := State.rd_wr ..

theorem State.rd_irq (s : State) (p i b : Nat) :
    (s.irq p i).rd b = if b = p + 0x14 then putBits (s.rd (p + 0x14)) i i 1 else s.rd b := State.rd_wr ..

theorem State.rd_count (s : State) (a hi lo n b : Nat) : (s.count a hi lo n).rd b =
    if b = a then putBits (s.rd a) hi lo (min (s.fld a hi lo + n) (2 ^ (hi + 1 - lo) - 1)) else s.rd b := State.rd_wr ..

@[simp] theorem State.rd_setByte (s : State) (a : Nat) (v : Byte) (b : Nat) : (s.setByte a v).rd b = s.rd b := rfl
@[simp] theorem State.rd_atTime (s : State) (n b : Nat) : (s.atTime n).rd b = s.rd b := rfl
@[simp] theorem State.rd_bumpFree (s : State) (b : Nat) : (s.bumpFree).rd b = s.rd b := rfl
@[simp] theorem State.rd_respond (s : State) (init a : Nat) (data : Word) (b : Nat) : (s.respond init a data).rd b = s.rd b := rfl

/-- A register of a dropped range is back at its reset value; every other register stands. -/
theorem State.rd_dropRegs (s : State) (lo hi b : Nat) :
    (s.dropRegs lo hi).rd b = if b < lo ∨ hi < b then s.rd b else resetOf b := by
  unfold State.rd State.dropRegs
  rw [Store.find_dropRange]
  split <;> rfl

/-! ### Memory -/

@[simp] theorem State.byte_setByte_self (s : State) (a : Nat) (v : Byte) : (s.setByte a v).byte a = v := Store.find_put_self ..

theorem State.byte_setByte_ne (s : State) {a b : Nat} (v : Byte) (h : b ≠ a) : (s.setByte a v).byte b = s.byte b := by
  simp [State.byte, State.setByte, Store.find_put_ne _ _ _ h]

@[simp] theorem State.setBytes_regs (s : State) (a : Nat) (l : List Byte) : (s.setBytes a l).regs = s.regs := by
  induction l generalizing s a with
  | nil => rfl
  | cons b t ih => rw [State.setBytes, ih]; rfl

/-- Writing bytes leaves every field but the memory alone. -/
theorem State.setBytes_frame (s : State) (a : Nat) (l : List Byte) : s.setBytes a l = { s with mem := (s.setBytes a l).mem } := by
  induction l generalizing s a with
  | nil => rfl
  | cons b t ih => rw [State.setBytes, ih]; rfl

/-- Bytes outside the written range stand. -/
theorem State.byte_setBytes_ne (s : State) (a : Nat) (l : List Byte) (b : Nat) (h : b < a ∨ a + l.length ≤ b) :
    (s.setBytes a l).byte b = s.byte b := by
  induction l generalizing s a with
  | nil => rfl
  | cons x t ih =>
    simp only [List.length_cons] at h
    rw [State.setBytes, ih _ _ (by omega), State.byte_setByte_ne _ _ (by omega)]

/-- Byte `i` of a written range is byte `i` of the data. -/
theorem State.byte_setBytes (s : State) (a : Nat) (l : List Byte) (i : Nat) (h : i < l.length) :
    (s.setBytes a l).byte (a + i) = l[i] := by
  induction l generalizing s a i with
  | nil => simp at h
  | cons x t ih =>
    rw [State.setBytes]
    cases i with
    | zero => rw [State.byte_setBytes_ne _ _ _ _ (by omega)]; simp
    | succ j =>
      have := ih (s.setByte a x) (a + 1) j (by simpa using h)
      rw [Nat.add_assoc, Nat.add_comm 1 j] at this
      simpa using this

/-! ### The canonical forms -/

/-- Memory and the register file are in canonical form. -/
def State.canonical (s : State) : Bool := Memory.wf s.mem && Regs.wf s.regs

theorem State.canonical_iff (s : State) : s.canonical = true ↔ Memory.wf s.mem = true ∧ Regs.wf s.regs = true := by
  simp [State.canonical]

/-- Only memory and the register file count. -/
theorem State.canonical_congr {s t : State} (hm : t.mem = s.mem) (hr : t.regs = s.regs) : t.canonical = s.canonical := by
  simp [State.canonical, hm, hr]

theorem State.canonical_reset : State.reset.canonical = true := rfl

theorem State.canonical_wr {s : State} (h : s.canonical = true) (a : Nat) (v : Word) : (s.wr a v).canonical = true := by
  rw [State.canonical_iff] at *
  exact ⟨h.1, Store.wf_put resetOf s.regs a v h.2⟩

theorem State.canonical_setFld {s : State} (h : s.canonical = true) (a hi lo v : Nat) : (s.setFld a hi lo v).canonical = true :=
  State.canonical_wr h ..

theorem State.canonical_setBit {s : State} (h : s.canonical = true) (a i : Nat) (b : Bool) : (s.setBit a i b).canonical = true :=
  State.canonical_wr h ..

theorem State.canonical_orBits {s : State} (h : s.canonical = true) (a m : Nat) : (s.orBits a m).canonical = true :=
  State.canonical_wr h ..

theorem State.canonical_count {s : State} (h : s.canonical = true) (a hi lo n : Nat) : (s.count a hi lo n).canonical = true :=
  State.canonical_wr h ..

theorem State.canonical_irq {s : State} (h : s.canonical = true) (p i : Nat) : (s.irq p i).canonical = true :=
  State.canonical_wr h ..

theorem State.canonical_dropRegs {s : State} (h : s.canonical = true) (lo hi : Nat) : (s.dropRegs lo hi).canonical = true := by
  rw [State.canonical_iff] at *
  exact ⟨h.1, Store.wf_dropRange resetOf s.regs lo hi h.2⟩

theorem State.canonical_setByte {s : State} (h : s.canonical = true) (a : Nat) (v : Byte) : (s.setByte a v).canonical = true := by
  rw [State.canonical_iff] at *
  exact ⟨Store.wf_put memDefault s.mem a v h.1, h.2⟩

theorem State.canonical_setBytes {s : State} (h : s.canonical = true) (a : Nat) (l : List Byte) :
    (s.setBytes a l).canonical = true := by
  induction l generalizing s a with
  | nil => exact h
  | cons b t ih => exact ih (State.canonical_setByte h a b) (a + 1)

theorem State.canonical_setMemWord {s : State} (h : s.canonical = true) (a : Nat) (v : Word) : (s.setMemWord a v).canonical = true :=
  State.canonical_setBytes h ..

theorem State.canonical_memStore {s : State} (h : s.canonical = true) (init a : Nat) (l : List Byte) :
    (s.memStore init a l).canonical = true := State.canonical_setBytes (a := a) (l := l) h

theorem State.canonical_putError {s : State} (h : s.canonical = true) (init a : Nat) (c : Cause) (w : Bool) :
    (s.putError init a c w).canonical = true := by
  unfold State.putError
  exact State.canonical_wr (State.canonical_wr h ..) ..

theorem State.canonical_captureError {s : State} (h : s.canonical = true) (init a : Nat) (c : Cause) (w : Bool) :
    (s.captureError init a c w).canonical = true := by
  unfold State.captureError
  split
  · split
    · split
      · exact State.canonical_putError h ..
      · exact h
    · exact State.canonical_setBit h ..
  · have h1 := State.canonical_irq (State.canonical_putError h init a c w) SYS.base 0
    rw [State.canonical_iff] at h1 ⊢
    exact h1

theorem State.canonical_fabCount {s : State} (h : s.canonical = true) (a hi lo : Nat) : (s.fabCount a hi lo).canonical = true := by
  unfold State.fabCount
  split
  · exact h
  · exact State.canonical_count h ..

theorem State.canonical_initiatorReact {s : State} (h : s.canonical = true) (init a sub : Nat) (w : Bool) :
    (s.initiatorReact init a sub w).canonical = true := by
  unfold State.initiatorReact
  repeat' split
  all_goals first
    | apply State.canonical_irq
    | skip
  all_goals first
    | apply State.canonical_setBit
    | skip
  all_goals assumption

theorem State.canonical_errorResp {s : State} (h : s.canonical = true) (init a : Nat) (c : Cause) (w : Bool) (sub : Nat) :
    (s.errorResp init a c w sub).canonical = true := by
  have h2 : (((s.captureError init a c w).irq FAB.base 0).fabCount FAB.ERRCNT 31 0).canonical = true :=
    State.canonical_fabCount (State.canonical_irq (State.canonical_captureError h ..) ..) ..
  unfold State.errorResp
  dsimp only
  split
  · exact h2
  · exact State.canonical_initiatorReact h2 ..

/-! ### Accesses -/

/-- An access either runs at its page or joins the accesses that wait. -/
theorem State.access_cases (s : State) (dom : Dom) (base : Nat) (acc : Access) (k : State → State) :
    (s.mustWait dom base = false ∧ s.access dom base acc k = k s) ∨
    (s.mustWait dom base = true ∧ s.access dom base acc k = { s with bus := { s.bus with waiting := s.bus.waiting ++ [acc] } }) := by
  unfold State.access
  cases h : s.mustWait dom base <;> simp

theorem State.writeAt_now {s : State} {dom : Dom} {base : Nat} (h : s.mustWait dom base = false) (init a : Nat) (data : Word)
    (k : State → State) (tick sub : Nat) : s.writeAt dom base init a data k tick sub = k s := by
  simp [State.writeAt, State.access, h]

theorem State.readAt_now {s : State} {dom : Dom} {base : Nat} (h : s.mustWait dom base = false) (init a : Nat) (k : State → State) :
    s.readAt dom base init a k = k s := by
  simp [State.readAt, State.access, h]

theorem State.access_waits {s : State} {dom : Dom} {base : Nat} (h : s.mustWait dom base = true) (acc : Access) (k : State → State) :
    s.access dom base acc k = { s with bus := { s.bus with waiting := s.bus.waiting ++ [acc] } } := by
  simp [State.access, h]

/-- An access keeps the canonical forms where its meaning at the page does: one that waits changes neither store. -/
theorem State.canonical_access {s : State} (h : s.canonical = true) (dom : Dom) (base : Nat) (acc : Access) {k : State → State}
    (hk : s.canonical = true → (k s).canonical = true) : (s.access dom base acc k).canonical = true := by
  obtain ⟨-, e⟩ | ⟨-, e⟩ := s.access_cases dom base acc k
  · rw [e]; exact hk h
  · rw [e]; exact h

/-! ### Stopped clocks -/

/-- A block with a clock acts while the clock runs, and otherwise stands as it is. -/
theorem State.clocked_cases (s : State) (d : Dom) (f : State → State) :
    (s.domRun d = true ∧ s.clocked d f = f s) ∨ (s.domRun d = false ∧ s.clocked d f = s) := by
  unfold State.clocked
  cases h : s.domRun d <;> simp

theorem State.clocked_run {s : State} {d : Dom} (h : s.domRun d = true) (f : State → State) : s.clocked d f = f s := by
  simp [State.clocked, h]

theorem State.clocked_stop {s : State} {d : Dom} (h : s.domRun d = false) (f : State → State) : s.clocked d f = s := by
  simp [State.clocked, h]

theorem State.canonical_clocked {s : State} (h : s.canonical = true) (d : Dom) {f : State → State}
    (hf : s.canonical = true → (f s).canonical = true) : (s.clocked d f).canonical = true := by
  obtain ⟨-, e⟩ | ⟨-, e⟩ := s.clocked_cases d f
  · rw [e]; exact hf h
  · rw [e]; exact h

end Sys2Proof.Machine
end

