-- ==== Sys2Proof/WellFormed.lean ====
section
/-!
DEFINITION. Which commands name something that exists: an initiator of R158, a page, unit, channel, coin or half-bridge that
the part has. A meaning is total; a command that is not well-formed changes nothing it names, or names the instance its
number wraps to.
-/
namespace Sys2Proof

/-- The number has an initiator (R158). -/
def isInitiator (n : Nat) : Bool :=
  decide (n < 26) || (decide (32 ≤ n) && decide (n ≤ 50)) || (decide (64 ≤ n) && decide (n ≤ 67)) ||
  (decide (80 ≤ n) && decide (n ≤ 83)) || n == 96 || n == 97

/-- Every number of the command is in its range. -/
def Instr.wf (i : Instr) : Bool :=
  match i with
  | .powerOnReset => true
  | .supplyMonitorFall rail => decide (rail < 18)
  | .supplyMonitorGood rail => decide (rail < 18)
  | .resetCauseArrive _ => true
  | .resetStretchEnd => true
  | .rstNRequest _ _ _ => true
  | .lockstepMismatch h => decide (h < 2)
  | .coreResetRestart h => decide (h < 2)
  | .rstreqCoreReset init _ => isInitiator init
  | .rstreqSystemReset init => isInitiator init
  | .wdogKick init => isInitiator init
  | .watchdogExpiry _ => true
  | .safetyInitComplete _ _ => true
  | .controlDieRelease straps _ => decide (straps < 8)
  | .dawnSelfTestEnd _ _ _ _ _ _ _ _ => true
  | .xspiResetRelease => true
  | .bootImageAttemptEnd _ _ => true
  | .adpllRefcfgWrite init pll _ => isInitiator init && decide (pll < 2)
  | .adpllFcwWrite init pll _ => isInitiator init && decide (pll < 2)
  | .adpllSoftReset init pll _ => isInitiator init && decide (pll < 2)
  | .adpllLockDeclare pll _ _ _ _ => decide (pll < 2)
  | .adpllLockLoss pll _ => decide (pll < 2)
  | .referenceLoss pll => decide (pll < 2)
  | .graceExpiry => true
  | .adpllOutputCfgWrite init pll k _ => isInitiator init && decide (pll < 2) && decide (k < 8)
  | .icalUpdate group _ _ _ => decide (group < 6)
  | .clockMonitorWindow => true
  | .clockCheckFail _ => true
  | .stoppedDomainRestart _ => true
  | .heartbeatLoss _ => true
  | .autoRestart => true
  | .registerWrite init addr _ _ _ _ => isInitiator init && decide (addr < 0x100000000)
  | .fabricErrorResponse init addr _ _ _ => isInitiator init && decide (addr < 0x100000000)
  | .pageLock init base => isInitiator init && decide (base < 0x100000000)
  | .pageUnlock init base => isInitiator init && decide (base < 0x100000000)
  | .pageSoftReset init base _ => isInitiator init && decide (base < 0x100000000)
  | .softResetComplete base => decide (base < 0x100000000)
  | .ifverSelect init base _ => isInitiator init && decide (base < 0x100000000)
  | .testKeyTake init => isInitiator init
  | .testKeyDrop init _ => isInitiator init
  | .verselClose init => isInitiator init
  | .debugOpen init => isInitiator init
  | .debugClose init _ => isInitiator init
  | .intcClaim init ctx => isInitiator init && decide (ctx < 2)
  | .intcComplete init ctx _ => isInitiator init && decide (ctx < 2)
  | .slipIssue init addr _ bytes _ _ _ sub _ _ _ => isInitiator init && decide (addr < 0x100000000) && decide (bytes.length ≤ 16) && decide (sub < 16)
  | .slipGrant port _ _ _ _ _ _ => decide (port < 43)
  | .slipComplete coin _ => decide (coin < 512)
  | .slipAged coin _ => decide (coin < 512)
  | .slipUrgent coin _ => decide (coin < 512)
  | .perturbCoinReturn coin _ => decide (coin < 512)
  | .watchSelect init _ => isInitiator init
  | .triggerGroupFire _ _ => true
  | .adcTrigEdge j _ => decide (j < 8)
  | .swtrigWrite init _ _ => isInitiator init
  | .triggerGroupCfgWrite init k _ => isInitiator init && decide (k < 32)
  | .conversionEnd n _ _ => decide (n < 26)
  | .resultPush n _ => decide (n < 26)
  | .resultRead init n => isInitiator init && decide (n < 26)
  | .entryWrite init n k _ _ => isInitiator init && decide (n < 26) && decide (k < 16)
  | .converterDisable init n => isInitiator init && decide (n < 26)
  | .converterRotcfgWrite init _ => isInitiator init
  | .converterShadowStart spare p => decide (spare < 26) && decide (p < 24)
  | .converterHandover => true
  | .converterShadowAbandon => true
  | .pwmEnable init n _ => isInitiator init && decide (n < 48)
  | .pwmDisable init n _ => isInitiator init && decide (n < 48)
  | .pwmStart init k _ _ => isInitiator init && decide (k < 2)
  | .pwmPeriodStart n => decide (n < 48)
  | .followerReachPer n => decide (n < 48)
  | .pwmCompareMatch n k => decide (n < 48) && decide (k < 3)
  | .deadTimeExpiry n => decide (n < 48)
  | .syncReceive n _ => decide (n < 48)
  | .syncInEdge _ _ => true
  | .syncOutPulseEnd => true
  | .liveCompareWrite init sub n k _ _ => isInitiator init && decide (sub < 8) && decide (n < 48) && decide (k < 4)
  | .shadowWrite init n k _ => isInitiator init && decide (n < 48) && decide (k < 6)
  | .pwmCommit init _ _ => isInitiator init
  | .tripCfgWrite init n _ tripIn _ => isInitiator init && decide (n < 48) && decide (tripIn < 256)
  | .tripInputActive n _ tripIn => decide (n < 48) && decide (tripIn < 256)
  | .tripInputInactive n _ tripIn => decide (n < 48) && decide (tripIn < 256)
  | .tripForce init n _ _ => isInitiator init && decide (n < 48)
  | .pwmcForce init k _ _ => isInitiator init && decide (k < 2)
  | .tripClear init n _ _ => isInitiator init && decide (n < 48)
  | .gateVetoAssert _ => true
  | .gateVetoRelease => true
  | .gateGroupEnable init g _ => isInitiator init && decide (g < 12)
  | .gateGroupDisable init g _ => isInitiator init && decide (g < 12)
  | .shutdownPhase2 g _ => decide (g < 12)
  | .shutdownPhase3 g _ => decide (g < 12)
  | .hbEnable init n _ => isInitiator init && decide (n < 48)
  | .hbDisable init n _ => isInitiator init && decide (n < 48)
  | .interlockExpiry n _ => decide (n < 48)
  | .bothOnCommand n _ => decide (n < 48)
  | .faultBallAssert n _ _ => decide (n < 48)
  | .overcurrentAssert n _ => decide (n < 48)
  | .blankingWindowEnd n _ => decide (n < 48)
  | .retryWaitEnd n _ => decide (n < 48)
  | .tryResetTimer n => decide (n < 48)
  | .auxEnable init => isInitiator init
  | .auxPrechargeEnd n => decide (n < 3)
  | .auxPeriodStart => true
  | .auxDutyMatch n => decide (n < 3)
  | .hallCodeChange h => decide (h < 8)
  | .bootstrapUv n => decide (n < 3)
  | .auxOvercurrent => true
  | .auxOcClear init _ => isInitiator init
  | .comparatorCrossing n _ _ => decide (n < 56)
  | .comparatorEnable init n _ _ => isInitiator init && decide (n < 56)
  | .firstDecisionEnd n _ => decide (n < 56)
  | .thresholdWrite init n _ _ => isInitiator init && decide (n < 56)
  | .comparatorCheckStart init _ _ => isInitiator init
  | .comparatorCheckEnd _ _ _ => true
  | .pushArrival n _ => decide (n < 16)
  | .kickWrite init n _ _ => isInitiator init && decide (n < 16)
  | .instanceStart n _ _ => decide (n < 16)
  | .bundleStallEnd n _ _ => decide (n < 16)
  | .instanceEnable init n i _ => isInitiator init && decide (n < 16) && decide (i < 8)
  | .instanceDisable init n i _ => isInitiator init && decide (n < 16) && decide (i < 8)
  | .libraryWrite init addr bytes => isInitiator init && decide (addr < 0x100000000) && decide (bytes.length ≤ 16)
  | .pgXWrite init k _ => isInitiator init && decide (k < 32)
  | .tellerRotcfgWrite init _ => isInitiator init
  | .tellerRotationStart p q => decide (p < 14) && decide (q < 16)
  | .tellerCopyEnd => true
  | .tellerShadowMismatch => true
  | .tellerHandover => true
  | .tellerRotationAbandon => true
  | .tellerUnitError u => decide (u < 16)
  | .opNop n slot _ => decide (n < 16) && decide (slot < 4)
  | .opMac n _ _ => decide (n < 16)
  | .opMsu n _ _ => decide (n < 16)
  | .opMul n _ _ => decide (n < 16)
  | .opAccld n _ _ => decide (n < 16)
  | .opMova n _ _ => decide (n < 16)
  | .opAccclr n _ _ => decide (n < 16)
  | .opMov n _ _ => decide (n < 16)
  | .opAdd n _ _ => decide (n < 16)
  | .opAdds n _ _ => decide (n < 16)
  | .opSub n _ _ => decide (n < 16)
  | .opSubs n _ _ => decide (n < 16)
  | .opNeg n _ _ => decide (n < 16)
  | .opAbs n _ _ => decide (n < 16)
  | .opMin n _ _ => decide (n < 16)
  | .opMax n _ _ => decide (n < 16)
  | .opAnd n _ _ => decide (n < 16)
  | .opOr n _ _ => decide (n < 16)
  | .opXor n _ _ => decide (n < 16)
  | .opShl n _ _ => decide (n < 16)
  | .opShra n _ _ => decide (n < 16)
  | .opShrl n _ _ => decide (n < 16)
  | .opMulq n _ _ => decide (n < 16)
  | .opClamp n _ _ => decide (n < 16)
  | .opMovi n _ _ => decide (n < 16)
  | .opMovih n _ _ => decide (n < 16)
  | .opBiq n _ => decide (n < 16)
  | .opClarke n _ => decide (n < 16)
  | .opIclarke n _ => decide (n < 16)
  | .opPark n _ => decide (n < 16)
  | .opIpark n _ => decide (n < 16)
  | .opQmac n _ _ => decide (n < 16)
  | .opQmsu n _ _ => decide (n < 16)
  | .opQmul n _ _ => decide (n < 16)
  | .opQaccld n _ _ => decide (n < 16)
  | .opQmova n _ _ => decide (n < 16)
  | .opPack n _ _ => decide (n < 16)
  | .opUnpk n _ _ => decide (n < 16)
  | .opQadds n _ _ => decide (n < 16)
  | .opQsubs n _ _ => decide (n < 16)
  | .opQbiq n _ => decide (n < 16)
  | .opQclarke n _ => decide (n < 16)
  | .opQiclarke n _ => decide (n < 16)
  | .opQpark n _ => decide (n < 16)
  | .opQipark n _ => decide (n < 16)
  | .opLdw n _ _ _ _ => decide (n < 16)
  | .opStw n _ => decide (n < 16)
  | .opLdq n _ _ _ _ => decide (n < 16)
  | .opStq n _ => decide (n < 16)
  | .opLdin n _ => decide (n < 16)
  | .opLddep n _ _ _ _ => decide (n < 16)
  | .opOut n _ _ => decide (n < 16)
  | .opPush n _ _ => decide (n < 16)
  | .opFwr n _ _ => decide (n < 16)
  | .opTrig n _ _ => decide (n < 16)
  | .opFrd n _ _ => decide (n < 16)
  | .opPgstep n _ => decide (n < 16)
  | .opFence n _ => decide (n < 16)
  | .opEnd n _ => decide (n < 16)
  | .opBr n _ => decide (n < 16)
  | .opLoop n _ => decide (n < 16)
  | .opCmp n _ => decide (n < 16)
  | .opCmpi n _ => decide (n < 16)
  | .opPset n _ => decide (n < 16)
  | .opPlog n _ => decide (n < 16)
  | .opPsat n _ => decide (n < 16)
  | .settlementEnable init => isInitiator init
  | .settlementPeriodStart => true
  | .engineDeposit init _ => isInitiator init
  | .vbusWrite init _ => isInitiator init
  | .accountEnable init k _ => isInitiator init && decide (k < 16)
  | .accountDisable init k _ => isInitiator init && decide (k < 16)
  | .contingencyForce init _ => isInitiator init
  | .contingencyClear init => isInitiator init
  | .mpptEnable init m => isInitiator init && decide (m < 4)
  | .mpptSample init m _ => isInitiator init && decide (m < 4)
  | .mpptStep m _ => decide (m < 4)
  | .scanTimerDue m => decide (m < 4)
  | .scanRequest init m => isInitiator init && decide (m < 4)
  | .gridEnable init _ => isInitiator init
  | .gridSample init _ => isInitiator init
  | .gridStep _ => true
  | .gridInputLoss => true
  | .sequenceError => true
  | .gridSyncSet => true
  | .fastDipDetect => true
  | .excursionEnd => true
  | .gridStageAct j => decide (j < 16)
  | .rocofIsland => true
  | .vectorShiftIsland => true
  | .probeWindowEnd => true
  | .tripFlagClear init => isInitiator init
  | .islandFlagClear init => isInitiator init
  | .tableApply init => isInitiator init
  | .gridStatusTransfer => true
  | .gridStatusTimeout => true
  | .metrologySample _ _ => true
  | .pulseWidthEnd n => decide (n < 5)
  | .acCycleEnd _ _ => true
  | .meterBlockEnd _ _ => true
  | .meloskernBrownout _ _ _ => true
  | .meloskernStart _ _ => true
  | .mramCommit _ _ => true
  | .clockRatioWindow _ _ _ _ => true
  | .ledgerPoll _ => true
  | .pollTimeout _ => true
  | .controlDieLoss _ => true
  | .mailboxDoorbell init => isInitiator init
  | .mailboxCancel init _ => isInitiator init
  | .mirrorStale => true
  | .replyPosted => true
  | .mbxNop => true
  | .sessionOpen => true
  | .sessionClose => true
  | .ledgerRead => true
  | .ledgerExport => true
  | .timeSet => true
  | .commBegin => true
  | .commWrite => true
  | .commCommit => true
  | .commAbort => true
  | .keygen => true
  | .sessionTailSign => true
  | .intervalBoundary _ => true
  | .sealChange _ _ => true
  | .nightwatchStart _ => true
  | .nightwatchDeath _ => true
  | .vocMeasure _ => true
  | .chargeLimitReached _ => true
  | .gaugeUpdate _ _ => true
  | .tamperSample loop _ _ _ _ => decide (loop < 2)
  | .queueTransfer _ => true
  | .safetyCycle _ _ _ _ _ _ => true
  | .channelDisagreement _ => true
  | .safetyInputChange _ _ _ _ => true
  | .inputDiscrepancy _ _ => true
  | .claimedComparatorStop _ n => decide (n < 8)
  | .wcLineStop n => decide (n < 48)
  | .safetyConversionRound _ _ => true
  | .safetyResetPress _ _ => true
  | .presenceWindowEnd => true
  | .coilCurrentTimeout n => decide (n < 12)
  | .mirrorTimeout n => decide (n < 12)
  | .contactorTestPulse n _ _ => decide (n < 12)
  | .testPulseEnd n _ => decide (n < 12)
  | .openingDeadline n => decide (n < 12)
  | .curfewBackstop n => decide (n < 12)
  | .lockMoveEnd p _ _ => decide (p < 4)
  | .connectionTimeout c => decide (c < 4)
  | .safetyFrameSend c => decide (c < 4)
  | .safetyFrameRelay init _ => isInitiator init
  | .safetyFrameReceive => true
  | .sfVetoRelease _ _ => true
  | .sfHalt _ => true
  | .sfClose => true
  | .sfOpen => true
  | .sfLock => true
  | .sfUnlock => true
  | .sfParamBegin => true
  | .sfParamWrite => true
  | .sfParamCheck => true
  | .sfParamConfirm => true
  | .sfParamAbort => true
  | .sfReadParam => true
  | .healthEnable init _ => isInitiator init
  | .rotationSchedule _ _ => true
  | .sliceStart _ kind _ => decide (kind < 3)
  | .sliceEnd _ _ _ _ _ => true
  | .sliceDeadline _ _ => true
  | .comparatorCheckSchedule _ _ _ => true
  | .checkerRotation c _ => decide (c < 2)
  | .checkerTakeover c _ => decide (c < 2)
  | .scrubRead _ _ _ => true
  | .jtagExtest _ => true
  | .jtagSamplePreload _ _ => true
  | .jtagIdcode => true
  | .jtagClamp => true
  | .jtagHighz => true
  | .jtagDtmcs => true
  | .jtagDmi op addr _ _ => decide (op < 4) && decide (addr < 128)
  | .jtagSysrst => true
  | .jtagCorerst => true
  | .jtagIntscan _ => true
  | .jtagBypass => true
  | .intscanExit => true
  | .machineTimerMatch h _ => decide (h < 2)
  | .oxLaneEnable init n => isInitiator init && decide (n < 8)
  | .oxLaneDisable init n => isInitiator init && decide (n < 8)
  | .oxRetrain init n => isInitiator init && decide (n < 8)
  | .oxAlignDone n => decide (n < 8)
  | .oxSlot n => decide (n < 8)
  | .offerReceive n _ => decide (n < 8)
  | .selectAckReceive n _ _ => decide (n < 8)
  | .reportReceive n _ _ => decide (n < 8)
  | .oxCodeError n _ => decide (n < 8)
  | .reportLoss n _ => decide (n < 8)
  | .trainTimeout n _ => decide (n < 8)
  | .oxRetry n _ => decide (n < 8)
  | .satRead init n _ => isInitiator init && decide (n < 8)
  | .satWrite init n _ => isInitiator init && decide (n < 8)
  | .satSelftest init n _ => isInitiator init && decide (n < 8)
  | .satStream init n _ => isInitiator init && decide (n < 8)
  | .satCommandTimeout n => decide (n < 8)
  | .ethFrameReceive m _ _ _ _ => decide (m < 2)
  | .ethFrameTransmit m _ _ _ => decide (m < 2)
  | .ptpStep init m _ => isInitiator init && decide (m < 2)
  | .ppsInEdge _ _ => true
  | .ppsOutSecond _ => true
  | .ptpTargetReached _ => true
  | .timestampPop init m => isInitiator init && decide (m < 2)
  | .ethCounterClear init m => isInitiator init && decide (m < 2)
  | .ethPauseSend init m _ => isInitiator init && decide (m < 2)
  | .anRestart init m _ => isInitiator init && decide (m < 2)
  | .canFrameReceive m _ _ _ _ => decide (m < 4)
  | .canTxRequest init m k => isInitiator init && decide (m < 4) && decide (k < 64)
  | .canFrameSent m k _ _ _ => decide (m < 4) && decide (k < 64)
  | .canBusOff m _ _ => decide (m < 4)
  | .canRecover init m => isInitiator init && decide (m < 4)
  | .xspiIndirectCmd init _ => isInitiator init
  | .xspiCommandDone _ _ _ => true
  | .xspiPollTimeout _ => true
  | .ddrInitGo init => isInitiator init
  | .ddrInitDone _ _ _ _ => true
  | .ddrRetrain _ _ => true
  | .uartTxPush init m _ => isInitiator init && decide (m < 2)
  | .uartRxPop init m => isInitiator init && decide (m < 2)
  | .uartByteReceive m _ _ _ _ => decide (m < 2)
  | .spiTxPush init m _ => isInitiator init && decide (m < 2)
  | .spiFrameDone m _ => decide (m < 2)
  | .spiRxPop init m => isInitiator init && decide (m < 2)
  | .gpioOutset init _ => isInitiator init
  | .gpioOutclr init _ => isInitiator init
  | .gpioDirWrite init _ => isInitiator init
  | .gpioPinEdge n _ => decide (n < 32)
  | .pilotPeriodEnd n _ _ _ => decide (n < 4)
  | .recorderRow _ _ => true
  | .recorderTrigger _ _ => true
  | .recorderSwtrig init => isInitiator init
  | .recorderArm init => isInitiator init
  | .coldStartExit _ => true
  | .chargeResume _ => true
  | .referenceReturn pll => decide (pll < 2)
  | .fuseBlow word _ => decide (word < 256)
  | .bootstrapRecover n => decide (n < 3)
  | .linkChange m _ _ _ => decide (m < 2)
  | .busOffRecoveryEnd m => decide (m < 4)
  | .ppsOutFall _ => true
  | .pilotDutyEnd n => decide (n < 4)
  | .uartByteSent m => decide (m < 2)
  | .phyPllUnlock => true

end Sys2Proof
end

