-- ==== Sys2Proof/Tests/Slice0.lean ====
section
/-!
SUPPORT. The author's own tests: a term that each well-formedness check refuses, small results the manual works out, and for
every statement with hypotheses a state and operands that meet them.
-/
namespace Sys2Proof.Tests
set_option Elab.async false
open Sys2Proof Sys2Proof.Machine

/-! ### States to test on -/

/-- A frame of zeros. -/
def canZero : CanFrame := { ide := false, rtr := false, fdf := false, id := 0, brs := false, esi := false, dlc := 0, data := [] }

/-- Dawn has ended: every clock runs, no reset is in progress, both clerks run, GATE_VETO is released. -/
def live : State :=
  { ({} : State) with
    regs := [(ADPLLA + 0x50, 0x80000000), (ADPLLB + 0x50, 0x80000000), (0x400A800C, 1), (RSUP.SUPSTAT, 0x3FFFF)]
    rst := { stretch := none, rstnLow := false, veto := false, vetoHold := false, dawn := .running, wdRun := true }
    clerk0 := { held := false }
    clerk1 := { held := false } }

/-- The same with the pages at `l` enabled. -/
def liveOn (l : List Nat) : State := l.foldl (fun s b => s.setBit (b + 0x0C) 0 true) live

theorem live_clocks : [Dom.ref, .fab, .tel, .adc, .xspi, .ox, .eth, .can, .ps, .pwm, .ddr].all (fun d => live.domRun d) = true := by
  decide +kernel

theorem live_canonical : Memory.wf live.mem = true ∧ Regs.wf live.regs = true := by decide +kernel

/-! ### Well-formedness

Each term below breaks one check: an initiator that R158 does not give, or the first number beyond a range. -/

/-- Broken checks, part 0. -/
theorem test_wf_refuses_0 : ([
  .supplyMonitorFall 18, .supplyMonitorGood 18, .lockstepMismatch 2, .coreResetRestart 2, .rstreqCoreReset 98 0,
  .rstreqSystemReset 98, .wdogKick 98, .controlDieRelease 8 false, .adpllRefcfgWrite 98 0 0, .adpllRefcfgWrite 0 2 0,
  .adpllFcwWrite 98 0 0, .adpllFcwWrite 0 2 0, .adpllSoftReset 98 0 0, .adpllSoftReset 0 2 0, .adpllLockDeclare 2 [] [] 0 0,
  .adpllLockLoss 2 [], .referenceLoss 2, .adpllOutputCfgWrite 98 0 0 0, .adpllOutputCfgWrite 0 2 0 0,
  .adpllOutputCfgWrite 0 0 8 0, .icalUpdate 6 0 0 0, .registerWrite 98 0 0 0 0 0, .registerWrite 0 0x100000000 0 0 0 0,
  .fabricErrorResponse 98 0 0 0 false, .fabricErrorResponse 0 0x100000000 0 0 false, .pageLock 98 0, .pageLock 0 0x100000000,
  .pageUnlock 98 0, .pageUnlock 0 0x100000000, .pageSoftReset 98 0 0, .pageSoftReset 0 0x100000000 0,
  .softResetComplete 0x100000000, .ifverSelect 98 0 0, .ifverSelect 0 0x100000000 0, .testKeyTake 98, .testKeyDrop 98 0,
  .verselClose 98, .debugOpen 98, .debugClose 98 0, .intcClaim 98 0, .intcClaim 0 2, .intcComplete 98 0 0,
  .intcComplete 0 2 0, .slipIssue 98 0 false [] [] 0 0 0 0 .plain none,
  .slipIssue 0 0x100000000 false [] [] 0 0 0 0 .plain none,
  .slipIssue 0 0 false (List.replicate 17 0) [] 0 0 0 0 .plain none, .slipIssue 0 0 false [] [] 0 0 16 0 .plain none,
  .slipGrant 43 0 0 0 0 0 none] : List Instr).all (fun i => !i.wf) = true := by decide +kernel

/-- Broken checks, part 1. -/
theorem test_wf_refuses_1 : ([
  .slipComplete 512 0, .slipAged 512 0, .slipUrgent 512 0, .perturbCoinReturn 512 0, .watchSelect 98 0, .adcTrigEdge 8 false,
  .swtrigWrite 98 0 0, .triggerGroupCfgWrite 98 0 0, .triggerGroupCfgWrite 0 32 0, .conversionEnd 26 0 0, .resultPush 26 0,
  .resultRead 98 0, .resultRead 0 26, .entryWrite 98 0 0 false 0, .entryWrite 0 26 0 false 0, .entryWrite 0 0 16 false 0,
  .converterDisable 98 0, .converterDisable 0 26, .converterRotcfgWrite 98 0, .converterShadowStart 26 0,
  .converterShadowStart 0 24, .pwmEnable 98 0 0, .pwmEnable 0 48 0, .pwmDisable 98 0 0, .pwmDisable 0 48 0,
  .pwmStart 98 0 0 0, .pwmStart 0 2 0 0, .pwmPeriodStart 48, .followerReachPer 48, .pwmCompareMatch 48 0,
  .pwmCompareMatch 0 3, .deadTimeExpiry 48, .syncReceive 48 0, .liveCompareWrite 98 0 0 0 0 0, .liveCompareWrite 0 8 0 0 0 0,
  .liveCompareWrite 0 0 48 0 0 0, .liveCompareWrite 0 0 0 4 0 0, .shadowWrite 98 0 0 0, .shadowWrite 0 48 0 0,
  .shadowWrite 0 0 6 0, .pwmCommit 98 0 0, .tripCfgWrite 98 0 0 0 0, .tripCfgWrite 0 48 0 0 0, .tripCfgWrite 0 0 0 256 0,
  .tripInputActive 48 0 0, .tripInputActive 0 0 256, .tripInputInactive 48 0 0, .tripInputInactive 0 0 256] : List Instr).all (fun i => !i.wf) = true := by decide +kernel

/-- Broken checks, part 2. -/
theorem test_wf_refuses_2 : ([
  .tripForce 98 0 0 0, .tripForce 0 48 0 0, .pwmcForce 98 0 0 0, .pwmcForce 0 2 0 0, .tripClear 98 0 0 0,
  .tripClear 0 48 0 0, .gateGroupEnable 98 0 0, .gateGroupEnable 0 12 0, .gateGroupDisable 98 0 0, .gateGroupDisable 0 12 0,
  .shutdownPhase2 12 0, .shutdownPhase3 12 0, .hbEnable 98 0 0, .hbEnable 0 48 0, .hbDisable 98 0 0, .hbDisable 0 48 0,
  .interlockExpiry 48 0, .bothOnCommand 48 0, .faultBallAssert 48 0 false, .overcurrentAssert 48 0, .blankingWindowEnd 48 0,
  .retryWaitEnd 48 0, .tryResetTimer 48, .auxEnable 98, .auxPrechargeEnd 3, .auxDutyMatch 3, .hallCodeChange 8,
  .bootstrapUv 3, .auxOcClear 98 false, .comparatorCrossing 56 0 false, .comparatorEnable 98 0 0 0,
  .comparatorEnable 0 56 0 0, .firstDecisionEnd 56 0, .thresholdWrite 98 0 0 0, .thresholdWrite 0 56 0 0,
  .comparatorCheckStart 98 false 0, .pushArrival 16 0, .kickWrite 98 0 0 0, .kickWrite 0 16 0 0, .instanceStart 16 0 0,
  .bundleStallEnd 16 0 false, .instanceEnable 98 0 0 0, .instanceEnable 0 16 0 0, .instanceEnable 0 0 8 0,
  .instanceDisable 98 0 0 0, .instanceDisable 0 16 0 0, .instanceDisable 0 0 8 0, .libraryWrite 98 0 []] : List Instr).all (fun i => !i.wf) = true := by decide +kernel

/-- Broken checks, part 3. -/
theorem test_wf_refuses_3 : ([
  .libraryWrite 0 0x100000000 [], .libraryWrite 0 0 (List.replicate 17 0), .pgXWrite 98 0 0, .pgXWrite 0 32 0,
  .tellerRotcfgWrite 98 0, .tellerRotationStart 14 0, .tellerRotationStart 0 16, .tellerUnitError 16, .opNop 16 0 0,
  .opNop 0 4 0, .opMac 16 false 0, .opMsu 16 false 0, .opMul 16 false 0, .opAccld 16 false 0, .opMova 16 false 0,
  .opAccclr 16 false 0, .opMov 16 false 0, .opAdd 16 false 0, .opAdds 16 false 0, .opSub 16 false 0, .opSubs 16 false 0,
  .opNeg 16 false 0, .opAbs 16 false 0, .opMin 16 false 0, .opMax 16 false 0, .opAnd 16 false 0, .opOr 16 false 0,
  .opXor 16 false 0, .opShl 16 false 0, .opShra 16 false 0, .opShrl 16 false 0, .opMulq 16 false 0, .opClamp 16 false 0,
  .opMovi 16 false 0, .opMovih 16 false 0, .opBiq 16 0, .opClarke 16 0, .opIclarke 16 0, .opPark 16 0, .opIpark 16 0,
  .opQmac 16 false 0, .opQmsu 16 false 0, .opQmul 16 false 0, .opQaccld 16 false 0, .opQmova 16 false 0, .opPack 16 false 0,
  .opUnpk 16 false 0, .opQadds 16 false 0] : List Instr).all (fun i => !i.wf) = true := by decide +kernel

/-- Broken checks, part 4. -/
theorem test_wf_refuses_4 : ([
  .opQsubs 16 false 0, .opQbiq 16 0, .opQclarke 16 0, .opQiclarke 16 0, .opQpark 16 0, .opQipark 16 0, .opLdw 16 0 0 0 none,
  .opStw 16 0, .opLdq 16 0 0 0 none, .opStq 16 0, .opLdin 16 0, .opLddep 16 0 0 0 none, .opOut 16 0 0, .opPush 16 0 0,
  .opFwr 16 0 0, .opTrig 16 0 0, .opFrd 16 0 0, .opPgstep 16 0, .opFence 16 0, .opEnd 16 0, .opBr 16 0, .opLoop 16 0,
  .opCmp 16 0, .opCmpi 16 0, .opPset 16 0, .opPlog 16 0, .opPsat 16 0, .settlementEnable 98, .engineDeposit 98 0,
  .vbusWrite 98 0, .accountEnable 98 0 0, .accountEnable 0 16 0, .accountDisable 98 0 0, .accountDisable 0 16 0,
  .contingencyForce 98 false, .contingencyClear 98, .mpptEnable 98 0, .mpptEnable 0 4, .mpptSample 98 0 0, .mpptSample 0 4 0,
  .mpptStep 4 0, .scanTimerDue 4, .scanRequest 98 0, .scanRequest 0 4, .gridEnable 98 0, .gridSample 98 0, .gridStageAct 16,
  .tripFlagClear 98] : List Instr).all (fun i => !i.wf) = true := by decide +kernel

/-- Broken checks, part 5. -/
theorem test_wf_refuses_5 : ([
  .islandFlagClear 98, .tableApply 98, .pulseWidthEnd 5, .mailboxDoorbell 98, .mailboxCancel 98 false,
  .tamperSample 2 0 0 false false, .claimedComparatorStop 0 8, .wcLineStop 48, .coilCurrentTimeout 12, .mirrorTimeout 12,
  .contactorTestPulse 12 0 false, .testPulseEnd 12 0, .openingDeadline 12, .curfewBackstop 12, .lockMoveEnd 4 0 false,
  .connectionTimeout 4, .safetyFrameSend 4, .safetyFrameRelay 98 0, .healthEnable 98 0, .sliceStart 0 3 0,
  .checkerRotation 2 0, .checkerTakeover 2 false, .jtagDmi 4 0 0 0, .jtagDmi 0 128 0 0, .machineTimerMatch 2 0,
  .oxLaneEnable 98 0, .oxLaneEnable 0 8, .oxLaneDisable 98 0, .oxLaneDisable 0 8, .oxRetrain 98 0, .oxRetrain 0 8,
  .oxAlignDone 8, .oxSlot 8, .offerReceive 8 [], .selectAckReceive 8 [] 0, .reportReceive 8 [] 0, .oxCodeError 8 0,
  .reportLoss 8 0, .trainTimeout 8 0, .oxRetry 8 0, .satRead 98 0 0, .satRead 0 8 0, .satWrite 98 0 0, .satWrite 0 8 0,
  .satSelftest 98 0 0, .satSelftest 0 8 0, .satStream 98 0 0, .satStream 0 8 0] : List Instr).all (fun i => !i.wf) = true := by decide +kernel

/-- Broken checks, part 6. -/
theorem test_wf_refuses_6 : ([
  .satCommandTimeout 8, .ethFrameReceive 2 0 [] none 0, .ethFrameTransmit 2 0 none 0, .ptpStep 98 0 0, .ptpStep 0 2 0,
  .timestampPop 98 0, .timestampPop 0 2, .ethCounterClear 98 0, .ethCounterClear 0 2, .ethPauseSend 98 0 0,
  .ethPauseSend 0 2 0, .anRestart 98 0 0, .anRestart 0 2 0, .canFrameReceive 4 canZero 0 0 0, .canTxRequest 98 0 0,
  .canTxRequest 0 4 0, .canTxRequest 0 0 64, .canFrameSent 4 0 0 0 0, .canFrameSent 0 64 0 0 0, .canBusOff 4 0 0,
  .canRecover 98 0, .canRecover 0 4, .xspiIndirectCmd 98 0, .ddrInitGo 98, .uartTxPush 98 0 0, .uartTxPush 0 2 0,
  .uartRxPop 98 0, .uartRxPop 0 2, .uartByteReceive 2 0 false false false, .spiTxPush 98 0 0, .spiTxPush 0 2 0,
  .spiFrameDone 2 0, .spiRxPop 98 0, .spiRxPop 0 2, .gpioOutset 98 0, .gpioOutclr 98 0, .gpioDirWrite 98 0,
  .gpioPinEdge 32 false, .pilotPeriodEnd 4 0 [] [], .recorderSwtrig 98, .recorderArm 98, .referenceReturn 2, .fuseBlow 256 0,
  .bootstrapRecover 3, .linkChange 2 false false 0, .busOffRecoveryEnd 4, .pilotDutyEnd 4, .uartByteSent 2] : List Instr).all (fun i => !i.wf) = true := by decide +kernel

/-- The same commands on unit 0, sent by CV0, pass (one of each family). -/
theorem test_wf_accepts_unit_zero :
    ([.supplyMonitorFall 17, .adpllFcwWrite 97 1 0, .pageLock 81 0xFFFFFFFF, .slipGrant 42 0 0 0 0 0 none, .conversionEnd 25 0 0,
      .liveCompareWrite 50 7 47 3 0 0, .gateGroupEnable 64 11 0, .opNop 15 3 0, .gridStageAct 15, .sfClose] : List Instr).all Instr.wf = true := by decide +kernel
/-! ### The hypotheses of the statements: chapters 3 and 4 -/

/-- A system reset has been stretched to its end; the control die is still held. -/
def held : State := { live with rst := { live.rst with dawn := .held }, sup := { live.sup with st := 1 } }

/-- In step 7, from UART, before any image. -/
def booting : State := { live with rst := { live.rst with dawn := .boot, straps := 3 }, balls := { xspiReset := true } }

/-- The Dusk state with what an automatic restart asks for. -/
def duskDue : State :=
  { live with
    rst := { live.rst with dusk := true, veto := true }
    sup := { live.sup with st := 5, kmir := 0xFFF, params := 0x01000000 :: 0 :: 0 :: 0 :: 0x80000000 :: List.replicate 74 0 } }

/-- An unsigned image of 16 bytes of 0 for system SRAM: its header, with `hash` over the payload. -/
def header (hash : List Byte) : List Byte :=
  leBytes 4 0x36394C4B ++ leBytes 2 1 ++ [0xFF, 0] ++ leBytes 4 0 ++ leBytes 4 0x20000000 ++ leBytes 4 0x20000000 ++ leBytes 4 16 ++
  leBytes 8 0 ++ hash ++ List.replicate 64 0 ++ List.replicate 64 0 ++ List.replicate 64 0

theorem wit_ResetCausesEnterTheirLevel : live.noReset ∧ causeLevel 0x10 = some .system ∧ causeLevel 0x14 = some .system ∧
    causeLevel 0x20 = some .core ∧ causeLevel 0x28 = some .core ∧ live.rst.rstnLow = false ∧ live.mustWait .ps RSUP.base = false ∧
    (live.clerk 0).held = false ∧ (live.clerk 1).held = false ∧ live.rst.wdRun = true ∧ live.rst.hbArmed = false ∧
    live.bit RSUP.SUPSTAT 4 = true ∧ live.bit RSUP.SUPSTAT 8 = true := by
  simp only [State.noReset]; decide +kernel

theorem wit_ResetCausesEnterTheirLevel_stands : live.causeStands 0x10 = true ∧ live.causeStands 0x20 = true ∧
    live.bit RSUP.SUPSTAT 1 = true ∧ live.bit RSUP.SUPSTAT 9 = true ∧ live.bit RSUP.SUPSTAT 10 = true := by decide +kernel

theorem wit_ResetCausesEnterTheirLevel_restart : duskDue.noReset ∧ duskDue.rst.dusk = true ∧ duskDue.autoRestartDue = true := by
  simp only [State.noReset]; decide +kernel

theorem wit_ResetsEndAndWatchdogAndMonitorsAct :
    (∀ r ∈ [3, 11, 12, 13], live.bit RSUP.SUPSTAT r = true) ∧ ({} : State).rst.stretch = some .powerOn ∧
    ({ live with rst := { live.rst with stretch := some .core } } : State).rst.stretch = some .core ∧
    (live.setBit (RSUP.VMON 3) 31 true).bit (RSUP.VMON (17 - 14)) 31 = true ∧
    ({ live with rst := { live.rst with coreMask := 3 } } : State).rst.coreMask.testBit 1 = true ∧ live.rst.dawn = .running ∧
    live.mustWait .ps RSUP.base = false ∧ ({ live with rst := { live.rst with hbArmed := true } } : State).rst.hbArmed = true := by
  decide +kernel

/-- A power-on stretch at its end: with every rail good, with the lowest rails only, and with the board holding RST_N. -/
def stretching (regs : List (Nat × Word)) (held : Bool) : State :=
  { live with regs := regs, rst := { live.rst with stretch := some .powerOn, rstnLow := true, dawn := .held, rstnHeld := held } }

theorem wit_ResetsEndAndWatchdogAndMonitorsAct_stretch : (stretching live.regs false).railsGood = true ∧
    (stretching live.regs false).rst.stretch = some .powerOn ∧ (stretching live.regs false).rst.rstnHeld = false ∧
    (stretching [(RSUP.SUPSTAT, 3)] false).railsGood = false ∧ (stretching [(RSUP.SUPSTAT, 3)] false).bit RSUP.SUPSTAT 0 = true ∧
    (stretching [(RSUP.SUPSTAT, 3)] false).bit RSUP.SUPSTAT 1 = true ∧ (stretching live.regs true).rst.rstnHeld = true ∧
    live.bit RSUP.SUPSTAT 2 = true ∧ (live.setBit RSUP.SUPSTAT 2 false).bit RSUP.SUPSTAT 2 = false := by
  decide +kernel

theorem wit_DawnStepsBootAndFuses : held.rst.dawn = .held ∧ held.rst.stretch = none ∧ held.sup.st ≠ 0 ∧ held.railsGood = true ∧
    held.rst.testHeld = false ∧ live.rst.dawn ≠ .held ∧ live.rst.dawn ≠ .locking ∧ live.lifecycle = 1 ∧
    ({ live with rst := { live.rst with dawn := .memTest } } : State).rst.straps < 4 ∧ live.someKey = false ∧
    bitsOf (live.fuseArray 4 ||| (2 &&& live.fuseAllowed 4)) 2 0 = 3 ∧ live.fuseArray 4 ||| (2 &&& live.fuseAllowed 4) ≠ live.fuseArray 4 := by
  decide +kernel

theorem wit_DawnStepsBootAndFuses_image : booting.rst.dawn = .boot ∧ booting.rst.straps = 3 ∧ booting.rst.firstFail < 256 ∧
    (header (sha256 (List.replicate 16 0))).length = 256 ∧ booting.headerCode (header (sha256 (List.replicate 16 0))) = 0 ∧
    hdrField (header (sha256 (List.replicate 16 0))) 0x14 4 = 16 ∧
    sha256 ((List.replicate 16 0).take 16) = hdrBytes (header (sha256 (List.replicate 16 0))) 0x20 32 := by
  decide +kernel

theorem wit_DawnStepsBootAndFuses_badImage : booting.balls.xspiReset = true ∧ booting.rst.attempt = 0 ∧
    (List.replicate 256 (0 : Byte)).length = 256 ∧ booting.headerCode (List.replicate 256 0) = 0x10 ∧
    ({ booting with rst := { booting.rst with straps := 0 } } : State).rst.straps ≠ 3 := by
  decide +kernel

/-- The same image in the boot flash's window, which the boot ROM then reads instead of what is sent (R69). -/
def bootFlash : State := { live with rst := { live.rst with dawn := .boot, straps := 2 }, balls := { xspiReset := true } }

theorem wit_DawnStepsBootAndFuses_flash : bootFlash.rst.dawn = .boot ∧ bootFlash.balls.xspiReset = true ∧ bootFlash.rst.straps ≠ 3 ∧
    bootFlash.rst.attempt = 0 ∧ (bootFlash.imageHeader []).length = 256 ∧ bootFlash.headerCode (bootFlash.imageHeader []) ≠ 0 ∧
    booting.imageHeader (header (sha256 (List.replicate 16 0))) = header (sha256 (List.replicate 16 0)) ∧
    16 ≤ (booting.imagePayload (List.replicate 16 0) 16).length := by decide +kernel

theorem wit_AdpllWritesRestartAcquisition : live.mustWait .ref (adpllPage 0) = false ∧ live.mustWait .ref (adpllPage 1) = false ∧
    restartRefused State.reset 0 = false ∧ restartRefused live 1 = false ∧ bitsOf (2 : Word) 1 0 ≠ 3 ∧ State.reset.rst.veto = true ∧
    dcoOk (bitsOf (2 : Word) 1 0) (State.reset.fld (ADPLLA + 0x44) 28 0) = true ∧
    outsOk State.reset (bitsOf (2 : Word) 1 0) (State.reset.fld (ADPLLA + 0x44) 28 0) = true ∧
    dcoOk (State.reset.fld (ADPLLA + 0x40) 1 0) (bitsOf (0x05000000 : Word) 28 0) = true ∧
    outsOk State.reset (State.reset.fld (ADPLLA + 0x40) 1 0) (bitsOf (0x05000000 : Word) 28 0) = true ∧
    State.reset.mustWait .ref (adpllPage 0) = false ∧ live.locked (adpllPage 1) = false ∧ restartRefused live 0 = true ∧
    2 ≤ bitsOf (0x80000500 : Word) 15 8 ∧ live.fld (ADPLLA + 0x64) 15 0 = bitsOf (0x80000500 : Word) 15 0 ∧ tb (0x80000500 : Word) 31 = true ∧
    outOk (live.fld (ADPLLA + 0x40) 1 0) (live.fld (ADPLLA + 0x44) 28 0) 1 (bitsOf (0x80000500 : Word) 15 8) = true ∧
    bitsOf (0x80000100 : Word) 15 8 < 2 := by
  decide +kernel

theorem wit_AdpllWritesRestartAcquisition_refused : bitsOf (3 : Word) 1 0 = 3 ∧ live.rst.veto = false ∧ anyPwmOn live = false ∧
    anyPwmOn (liveOn [PWM.base 3]) = true ∧ (liveOn [PWM.base 3]).mustWait .ref (adpllPage 1) = false ∧ tb (0x500 : Word) 31 = false ∧
    outsOk live (bitsOf (0 : Word) 1 0) (live.fld (ADPLLA + 0x44) 28 0) = false ∨ dcoOk (bitsOf (0 : Word) 1 0) (live.fld (ADPLLA + 0x44) 28 0) = false := by
  decide +kernel

/-- Both ADPLLs acquire after the fuse load. -/
def locking : State := { (live.wr (ADPLLA + 0x50) 0x40000000).wr (ADPLLB + 0x50) 0x40000000 with rst := { live.rst with dawn := .locking } }

theorem wit_AdpllLockHoldAndGraceFollowTheReference : locking.rst.dawn = .locking ∧ locking.bit (adpllPage 0 + 0x50) 31 = false ∧
    locking.bit (adpllPage 1 + 0x50) 28 = false ∧ locking.bit (ADPLLB + 0x50) 30 = true ∧ live.bit (adpllPage 0 + 0x50) 31 = true ∧
    live.bit (adpllPage 1 + 0x50) 31 = true ∧ ({ live with clk := { grace := true } } : State).clk.grace = true ∧
    live.clk.trims.length = 6 ∧ live.bit (ADPLLB + 0x80) 31 = true ∧ (live.setBit (ADPLLB + 0x84) 31 true).bit (ADPLLB + 0x84) 31 = true := by
  decide +kernel

/-- Errors that meet the lock condition, and that lose it (R120). -/
def steady : List Int := List.replicate 5000 0
def astray : List Int := List.replicate 4096 0 ++ List.replicate 4 (-5000)

theorem wit_AdpllLockHoldAndGraceFollowTheReference_window : lockMet locking 0 steady = true ∧ lockMet locking 0 astray = false ∧
    unlockMet live 1 astray = true ∧ unlockMet live 1 steady = false ∧ locking.bit (adpllPage 0 + 0x50) 28 = false ∧
    (live.setBit (adpllPage 1 + 0x50) 28 true).bit (adpllPage 1 + 0x50) 28 = true := by decide +kernel

/-! ### Chapters 5 to 7 -/

/-- A soft reset of PWMC is under way and an access to it waits. -/
def resetting : State :=
  { live with bus := { softRst := [PWMC.base], waiting := [{ init := 64, addr := PWMC.base + 0x18, data := 5 }] } }

/-- The CLK_PWM output is off. -/
def pwmStopped : State := live.setBit (ADPLLB + 0x60) 31 false

/-- The outputs of ADPLL-A are stopped: CLK_FAB and every clock that hangs on it stand. -/
def fabStopped : State := live.setBit (ADPLLA + 0x50) 30 true

theorem fabStopped_clocks : [Dom.fab, .tel, .adc, .xspi, .ox, .eth, .can].all (fun d => !fabStopped.domRun d) = true := by decide +kernel

/-- A source of the SYS page is pending and clerk 0 may claim it. -/
def pendingIrq : State :=
  ((((live.setBit SYS.IRQ_RAW 0 true).setBit (SYS.base + 0x18) 0 true).setBit (INTC.base + 0x80) 1 true).wr (INTC.base + 0x404) 3)

theorem wit_RegisterWritesObeyTheirPage : pageBase GPIO.base = GPIO.base ∧ GPIO.base ≠ 0 ∧ (waitKey GPIO.base).1 = .fab ∧
    live.mustWait .fab GPIO.base = false ∧ live.mustWait .fab FAB.base = false ∧ findPage (GPIO.base + 0xFFE) ≠ none ∧
    findPage 0x500 = none ∧ inLedger 0x500 = false ∧ live.mustWait (waitKey 0x500).1 (waitKey 0x500).2 = false ∧
    inLedger 0x40C0EFFC = true ∧ inLedger 0x40C0F100 = true ∧ live.mustWait .fab 0 = false ∧
    pwmStopped.mustWait (waitKey (PWMC.base + 0x48)).1 (waitKey (PWMC.base + 0x48)).2 = true ∧
    live.mustWait (waitKey PWMC.base).1 PWMC.base = false ∧ live.locked PWMC.base = false ∧
    live.mustWait (waitKey SMBX.base).1 SMBX.base = false := by
  decide +kernel

theorem wit_RegisterWritesObeyTheirPage_waiting : resetting.bus.softRst = [PWMC.base] ∧ resetting.bus.waiting.length = 1 ∧
    (∀ x ∈ resetting.bus.waiting, x.addr = PWMC.base + 0x18 ∧ x.write = true ∧ x.bytes = []) ∧ resetting.domRun (waitKey PWMC.base).1 = true ∧
    pwmStopped.domRun (domOf .pwm) = false ∧ live.domRun (domOf .pwm) = true ∧ live.bus.softRst = [] := by
  decide +kernel

/-- An access to GPIO waits that may now be served. -/
def waiting : State := { live with bus := { waiting := [{ init := 64, addr := GPIO.base + 0x18, data := 5 }] } }

theorem wit_RegisterWritesObeyTheirPage_restart : waiting.domRun (domOf .fab) = true ∧ waiting.bus.softRst = [] ∧
    waiting.bus.waiting.length = 1 ∧ (∀ x ∈ waiting.bus.waiting, x.addr = GPIO.base + 0x18 ∧ x.write = true ∧ x.bytes = []) ∧
    waiting.domRun (waitKey GPIO.base).1 = true ∧ pageBase GPIO.base = GPIO.base ∧ GPIO.base ≠ 0 ∧ live.bus.cycle = none := by
  decide +kernel

theorem wit_LocksVersionsAndKeysGuardThePages : pageBase SETL.base = SETL.base ∧ live.mustWait (waitKey SETL.base).1 SETL.base = false ∧
    live.locked SETL.base = false ∧ live.en SETL.base = false ∧ (liveOn [SETL.base]).en SETL.base = true ∧
    live.mustWait .fab SYS.base = false ∧ live.ver SYS.base ≠ 1 ∧ live.lifecycle = 1 ∧
    ({ live with fuses := { live.fuses with shadow := [(4, 2)] } } : State).lifecycle = 3 ∧
    ({ live with fuses := { live.fuses with shadow := [(4, 6)] } } : State).lifecycle = 7 := by
  decide +kernel

theorem wit_ErrorsAreCapturedAndInterruptsClaimed : live.bus.quiet = none ∧ live.mustWait .fab INTC.base = false ∧
    pendingIrq.claimable 0 = 1 ∧ live.claimable 1 = 0 ∧ pendingIrq.intEnabled 0 1 = true ∧ pendingIrq.intEnabled 1 1 = false ∧
    (∃ p ∈ ({ pendingIrq with claimed := [(1, 0)] } : State).claimed, p.1 = 1) := by
  decide +kernel

/-- A write of 4 bytes and a read of 4 bytes wait at system SRAM; a granted converter write and a withheld coin. -/
def slips : State :=
  { live with fab := { live.fab with
      slips := [{ coin := 320, init := 80, addr := 0x20000000, write := true, bytes := [1, 2, 3, 4], cycle := 10 },
        { coin := 256, init := 64, addr := 0x20000010, write := false, len := 4, cycle := 12 },
        { coin := 416, init := 96, addr := 0x20000020, write := false, len := 16, cycle := 14, deadline := some 500000 },
        { coin := 12, init := 3, addr := 0x30040000, write := true, bytes := [0, 0, 0, 0], cycle := 5, applied := true, late := true }]
      withheld := [(321, 64)] } }

/-- Only the read of the sampler's initiator waits at system SRAM. -/
def oneRead : State :=
  { live with fab := { live.fab with slips := [{ coin := 416, init := 96, addr := 0x20000020, write := false, len := 16, cycle := 14 }] } }

/-- Only the write of the safety sampler waits there. -/
def oneWrite : State :=
  { live with fab := { live.fab with slips := [{ coin := 320, init := 80, addr := 0x20000000, write := true, bytes := [1, 2, 3, 4], cycle := 10 }] } }

/-- Converter 3 has used its four coins. -/
def noCoin : State :=
  { live with fab := { live.fab with
      slips := [12, 13, 14, 15].map (fun c => { coin := c, init := 3, addr := 0x30040000, write := true, bytes := [0, 0, 0, 0], cycle := 5 }) } }

theorem wit_SlipsTakeCoinsAreGrantedAndReturnThem : initClass 64 = some .host ∧ slipSizeOk 0x2000000C 4 = true ∧
    slipSizeOk 0x2000000D 4 = false ∧ ownTcm 64 0x2000000C = false ∧ live.fab.stalled = [] ∧ live.takeCoin 64 = some 256 ∧
    noCoin.takeCoin 3 = none ∧ atomicOk 0x30000000 = false ∧ ownTcm 64 0x10000004 = true ∧ slipSizeOk 0x10000004 4 = true ∧
    0x10000004 % 4 = 0 ∧ pwmStopped.grantee 35 0 (pwmStopped.slipBlocked 1) = none ∧ slips.domRun .fab = true ∧ portOf 0x20000000 = 17 ∧
    (slips.grantee 17 20 (slips.slipBlocked 1)).isSome = true ∧ (slips.slipOf 12).isSome = true ∧ slips.fab.stalled = [] ∧
    (321, 64) ∈ slips.fab.withheld ∧ (∀ m ∈ slips.eth, m.rxq = []) ∧ (∀ c ∈ slips.can, c.held = []) ∧
    (live.setBit (ADPLLA + 0x50) 30 true).domRun .fab = false := by
  decide +kernel

theorem wit_SlipsTakeCoinsAreGrantedAndReturnThem_ports :
    (∃ p, oneWrite.grantee 17 20 (oneWrite.slipBlocked 21) = some p ∧ p.kind = .plain ∧ p.write = true ∧ p.init ≠ 64 ∧ p.init ≠ 65) ∧
    (∃ p, oneRead.grantee 17 20 (oneRead.slipBlocked 21) = some p ∧ p.kind = .plain ∧ p.write = false ∧ p.init = 96 ∧
      ∀ b ∈ oneRead.health.bad, b ≠ p.addr / 16 * 16 ∧ b ≠ (p.addr + p.len - 1) / 16 * 16) ∧
    (∃ p, slips.slipOf 12 = some p ∧ p.applied = true ∧ p.onWay = false ∧ p.cause = 0 ∧ p.init < 26) :=
  ⟨⟨_, rfl, by decide⟩, ⟨_, rfl, by decide⟩, ⟨_, rfl, by decide⟩⟩

theorem wit_SlipsAgeTurnUrgentAndAreWatched : slips.domRun .fab = true ∧
    (∃ p, slips.slipOf 256 = some p ∧ initClass p.init = some .host ∧ p.applied = false ∧ p.aged = false ∧
      slips.ageLimit .host < min (5000 - p.cycle) 4095 ∧ min (12 - p.cycle) 4095 ≤ slips.ageLimit .host) ∧
    (∃ p, slips.slipOf 12 = some p ∧ initClass p.init = some .loop) ∧
    (∃ p, slips.slipOf 416 = some p ∧ p.deadline = some 500000 ∧ initClass p.init = some .test ∧ p.applied = false ∧ p.urgent = false ∧
      500000 ≤ 450000 + 16000 * slips.urgMargin ∧ 0 + 16000 * slips.urgMargin < 500000) ∧
    slips.mustWait .fab FAB.base = false ∧ slips.ver FAB.base = 2 :=
  ⟨by decide +kernel, ⟨_, rfl, by decide +kernel⟩, ⟨_, rfl, by decide +kernel⟩, ⟨_, rfl, by decide +kernel⟩, by decide +kernel⟩

/-- Converter 2 converts entry 4, entry 9 follows; a result waits at converter 5; an event is on its way. -/
def converting : State :=
  let s := liveOn [ADCC.base, CV.base 2, CV.base 5, CV.base 0]
  let s1 := ((((s.wr (CV.ENTRY_A 2 4) 0x80000006).wr (CV.ENTRY_A 2 9) 0x80000007).wr (CV.ENTRY_A 0 15) 0x80000000).setBit (CV.RESULT 5) 31 true)
  let s2 := (s1.wr (ADCC.TG_CFG 0) 0xC0000405).wr ADCC.EXTTRIG 0xFF
  { s2 with conv := { s2.conv with
      sent := [{ code := 5 }, { code := 193 }]
      pos := (s2.conv.pos.set 2 { cur := some 4, fieldsA := 0x80000006, groups := 1 }).set 5 { dest := some (1, 2, 3) } } }

/-- The same with a conversion at position 4 whose result is to be discarded. -/
def discarding : State := converting.updPos 4 (fun p => { p with cur := some 2, groups := 1, discard := true })

theorem wit_TriggersStartRunsAndResultsLand : converting.domRun .adc = true ∧ converting.en ADCC.base = true ∧ live.en ADCC.base = false ∧
    converting.fld ADCC.ROTSTAT 31 30 ≠ 2 ∧ converting.conv.sent.filter (fun e => [5].contains e.code) = [{ code := 5 }] ∧
    converting.en (CV.base 0) = true ∧ (converting.cpos 0).cur = none ∧ converting.nextEntry 0 1 0 = some 15 ∧
    converting.bit ADCC.EXTTRIG (2 * 3 + 1) = true ∧ (∀ e ∈ converting.conv.sent, e.code ≠ 192 + 3) ∧
    (∃ e ∈ converting.conv.sent, e.code = 192 + 1) ∧ converting.bit ADCC.EXTTRIG (2 * 1) = true ∧ live.bit ADCC.EXTTRIG 0 = false ∧
    live.mustWait .adc ADCC.base = false ∧ live.locked ADCC.base = false ∧ live.ver ADCC.base = 2 ∧ bitsOf (0xC3 : Word) 7 0 < 196 ∧
    196 ≤ bitsOf (0xC4 : Word) 7 0 ∧ (live.setFld (ADCC.base + 8) 3 0 1).ver ADCC.base = 1 ∧
    (live.setFld (ADCC.base + 8) 3 0 1).mustWait .adc ADCC.base = false ∧ converting.conv.pos.length = 26 ∧
    (converting.cpos 2).cur = some 4 ∧ (converting.cpos 2).discard = false ∧ converting.nextEntry 2 1 5 = some 9 ∧
    converting.nextEntry 2 1 10 = none ∧ (discarding.cpos 4).cur = some 2 ∧ (discarding.cpos 4).discard = true ∧ (discarding.cpos 4).pend = none ∧
    (converting.cpos 5).dest = some (1, 2, 3) ∧ converting.bit (CV.RESULT 5) 31 = true ∧ converting.en (CV.base 5) = true ∧
    converting.domRun .fab = true ∧ converting.fab.stalled = [] ∧ converting.takeCoin 5 = some 20 ∧
    converting.mustWait .adc (CV.base 25) = false ∧ (live.setBit (ADPLLA + 0x50) 30 true).domRun .adc = false := by
  decide +kernel

/-- Spare unit 24 may shadow position 0; the same with its shadow under way, and passed. -/
def rotating : State :=
  let s := liveOn [ADCC.base, CV.base 0]
  { s with conv := { s.conv with released := [24], chosen := some (24, 0) } }
def shadowing : State := rotating.wr ADCC.ROTSTAT 0x40180000
def passed : State := rotating.wr ADCC.ROTSTAT 0x80180000

theorem wit_ConvertersAreConfiguredAndRotated : live.mustWait .adc (CV.base 23) = false ∧ live.locked (CV.base 23) = false ∧
    live.ver (CV.base 23) = 2 ∧ inselOk 23 71 = true ∧ inselOk 23 72 = true ∧ inselOk 23 68 = false ∧ inselOk 25 0x4C = true ∧
    live.conv.pos.length = 26 ∧ rotating.domRun .adc = true ∧ passed.mustWait .adc ADCC.base = false ∧ passed.locked ADCC.base = false ∧
    passed.ver ADCC.base = 2 ∧ live.en (CV.base 24) = false ∧ (liveOn [CV.base 25]).en (CV.base 25) = true ∧ live.fld ADCC.ROTSTAT 31 30 = 0 ∧
    rotating.bit ADCC.ROTCFG 31 = true ∧ rotating.en (CV.base 0) = true ∧ rotating.fld (CV.STAT 24) 24 20 ∈ rotating.conv.released ∧
    rotating.conv.chosen = some (24, 0) ∧ shadowing.fld ADCC.ROTSTAT 31 30 = 1 ∧ passed.fld ADCC.ROTSTAT 31 30 = 2 ∧
    passed.fld ADCC.ROTSTAT 28 24 = 0 ∧ passed.fld ADCC.ROTSTAT 20 16 = 24 ∧ (passed.cpos 0).cur = none := by
  decide +kernel

/-! ### Chapter 8: the generators -/

/-- Generator 5 runs freely since instant 1,000 with its compares ahead, owned by T5.0; 6 and 7 follow, 7 runs. -/
def pwmOn : State :=
  let s := (((((liveOn [PWMC.base, PWM.base 5, PWM.base 6, PWM.base 7]).wr (PWM.CFG 5) 0).wr (PWM.CFG 6) 8).wr (PWM.CFG 7) 8).wr (PWM.OWNER 5) 0x80050000)
  let s1 := (((s.wr (PWM.LIVE 5 0) 100).wr (PWM.LIVE 5 1) 3000).wr (PWM.LIVE 5 3) 4095).wr (PWM.LIVE 6 2) 64
  let s2 := ((s1.wr (PWM.STAT 5) 0x800).wr (PWM.STAT 7) 0x800).wr (PWM.TRIPCFG 5) 0x40000000
  (s2.updGen 5 (fun g => { g with t0 := 1000, dtA := some 1200 })).updGen 7 (fun g => { g with t0 := 1000, dtB := some 1300 })

/-- The same with a start of generator 7 ahead, two of generator 6, and edges of generator 5 fired. -/
def pwmStarts : State :=
  ((pwmOn.updGen 7 (fun g => { g with starts := [{ at_ := 6000 }] })).updGen 6 (fun g => { g with starts := [{ at_ := 6000 }, { at_ := 7000 }] })).updGen 5
    (fun g => { g with firedOn := true })

/-- The page of generator 5 is enabled, the generator does not run. -/
def pwmIdle : State := (liveOn [PWMC.base, PWM.base 5]).wr (PWM.OWNER 5) 0x80050000

theorem wit_GeneratorsEnableStartAndBeginPeriods : live.pwm.length = 48 ∧ pwmOn.pwm.length = 48 ∧
    live.mustWait .pwm (PWM.base 47) = false ∧ live.en (PWM.base 47) = false ∧ pwmOn.mustWait .pwm (PWM.base 5) = false ∧
    pwmOn.en (PWM.base 5) = true ∧ live.mustWait .pwm PWMC.base = false ∧ live.en PWMC.base = false ∧ pwmIdle.en PWMC.base = true ∧
    pwmIdle.mustWait .pwm PWMC.base = false ∧ tb (0x20 : Word) (5 % 32) = true ∧ pwmIdle.en (PWM.base 5) = true ∧
    pwmIdle.follower 5 = false ∧ pwmIdle.pwmRun 5 = false ∧ (pwmIdle.gen 5).starts = [] ∧ pwmOn.nextStart 5 = some { at_ := 5096 } ∧ pwmOn.domRun .pwm = true ∧
    (∀ q ∈ (pwmOn.gen 5).after, q.1 < 4) ∧ pwmOn.nextStart 6 = none ∧ pwmOn.follower 7 = true ∧ pwmOn.en (PWM.base 7) = true ∧
    pwmOn.pwmRun 7 = true ∧ pwmOn.bit (PWM.STAT 7) 10 = false ∧ (pwmOn.gen 7).starts = [] ∧ (pwmStarts.gen 7).starts = [{ at_ := 6000 }] := by
  decide +kernel

theorem wit_CompareEdgesDeadTimesAndSyncs : pwmOn.pwmRun 5 = true ∧ pwmOn.bit (PWM.STAT 5) 10 = false ∧
    (∀ k ∈ [0, 1, 3], (pwmOn.gen 5).fired k = false ∧ pwmOn.live 5 k < pwmOn.pwmPer 5) ∧ pwmOn.pwmPer 5 = 4096 ∧ pwmOn.live 5 3 = 4095 ∧
    pwmOn.live 5 1 ≠ pwmOn.live 5 0 ∧ (pwmOn.gen 5).firedOff = false ∧ pwmOn.now ≤ (pwmOn.gen 5).t0 + pwmOn.live 5 0 ∧
    (pwmStarts.gen 5).fired 0 = true ∧ (pwmOn.gen 5).dtA = some 1200 ∧ (pwmOn.gen 7).dtA = none ∧ (pwmOn.gen 7).dtB = some 1300 ∧
    pwmOn.en (PWM.base 6) = true ∧ pwmOn.follower 6 = true ∧ pwmOn.syncAt 6 5096 = some 4968 ∧ (pwmOn.gen 6).gotSync ≠ some 5096 ∧
    (pwmOn.gen 6).starts.length < 2 ∧ pwmStarts.syncAt 6 5096 = some 4968 ∧ pwmOn.syncAt 6 5095 = none ∧ pwmOn.domRun .pwm = true ∧
    2 ≤ (pwmStarts.gen 6).starts.length ∧ true = !live.bit PWMC.SYNCIO 0 ∧ pwmStopped.domRun .pwm = false := by
  decide +kernel

/-- Generator 5 is in commit group 0, unarmed; its shadow PER is written. -/
theorem wit_LiveShadowAndCommitWritesTakeEffect : live.isOwner 5 37 0 = false ∧ pwmIdle.isOwner 5 37 0 = true ∧
    pwmIdle.mustWait .pwm (PWM.base 5) = false ∧ (pwmIdle.atTime 7).transferNow 5 = false ∧ pwmIdle.pwmRun 5 = false ∧
    liveMax (pwmIdle.pwmPer 5) 0 = 4096 ∧ liveMax (pwmIdle.pwmPer 5) 2 = 4095 ∧ pwmOn.isOwner 5 37 0 = true ∧
    (pwmOn.atTime 1100).transferNow 5 = false ∧ pwmOn.en (PWM.base 5) = true ∧ pwmOn.pwmRun 5 = true ∧ pwmOn.bit (PWM.STAT 5) 10 = false ∧
    (pwmOn.gen 5).fired 0 = false ∧ max pwmOn.now 1100 - (pwmOn.gen 5).t0 ≤ pwmOn.live 5 0 ∧ (99 : Word).toNat < max pwmOn.now 1100 - (pwmOn.gen 5).t0 ∧
    tb (pwmOn.pwmCfg 5) 8 = false ∧ live.locked (PWM.base 5) = false ∧ live.mustWait .pwm PWMC.base = false ∧
    pwmIdle.en PWMC.base = true ∧ tb (commitMask pwmIdle 1) (pwmIdle.fld (PWM.CFG 5) 19 16) = true ∧ pwmIdle.bit (PWM.STAT 5) 9 = false ∧
    pwmIdle.en (PWM.base 4) = false ∧ pwmIdle.mustWait .pwm PWMC.base = false := by
  decide +kernel

/-- Generator 5 is tripped; in the second its input is still active. -/
def tripped : State := (pwmOn.setBit (PWM.STAT 5) 8 true)
def trippedActive : State := tripped.setBit (PWM.TRIPSTAT 5) 31 true

/-- Generator 5 listens to a trip ball; it has tripped on the edge at which its clear arrives. -/
def pwmTrips : State := pwmOn.wr (PWM.TRIPCFG 5) 0x40000080
def tripSame : State := tripped.updGen 5 (fun g => { g with tripAt := some 156 })

theorem wit_TripsTurnOutputsOffUntilCleared : pwmOn.domRun .pwm = true ∧ (pwmTrips.seeTripIn 1).tripRaw 5 = true ∧ (pwmTrips.seeTripIn 0).tripRaw 5 = false ∧
    pwmTrips.bit (PWM.TRIPSTAT 5) 31 = false ∧ (tripped.gen 5).tripAt ≠ some (max tripped.now 5000 / 32) ∧
    (tripSame.gen 5).tripAt = some (max tripSame.now 5000 / 32) ∧ tripSame.bit (PWM.STAT 5) 8 = true ∧ pwmStopped.domRun .pwm = false ∧ pwmOn.bit (PWM.TRIPSTAT 5) 31 = false ∧
    pwmOn.mustWait .pwm (PWM.base 5) = false ∧ tb (2 : Word) 0 = false ∧ tb (1 : Word) 1 = false ∧ pwmOn.mustWait .pwm PWMC.base = false ∧
    pwmOn.ver PWMC.base = 2 ∧ pwmOn.en PWMC.base = true ∧ tb (0x20 : Word) (5 % 32) = true ∧ 5 / 32 = 0 ∧ live.ver PWMC.base = 2 ∧
    live.en PWMC.base = false ∧ live.mustWait .pwm PWMC.base = false ∧
    tripped.bit (PWM.STAT 5) 8 = true ∧ tripped.bit (PWM.TRIPSTAT 5) 31 = false ∧ trippedActive.bit (PWM.STAT 5) 8 = true ∧
    trippedActive.bit (PWM.TRIPSTAT 5) 31 = true ∧ live.locked (PWM.base 5) = false ∧ live.ver (PWM.base 5) = 2 ∧
    tripReserved (bitsOf (143 : Word) 7 0) = false ∧ tripReserved (bitsOf (144 : Word) 7 0) = true ∧ tripReserved (bitsOf (0x3700 : Word) 15 8) = false := by
  decide +kernel

/-! ### Chapters 9 and 10: gate unit, auxiliary drivers, comparators -/

/-- Group 1 drives; half-bridge 5 runs with its fault ball and overcurrent line enabled and asserted, GB low since instant 10. -/
def bridgeRun : State :=
  let s := ((((liveOn [GATE.base 1]).wr (GATE.STAT 1) 0x100).wr (HBCFG 5) 0xC0000000).wr (HBCTL 5) 1).wr (HBSTAT 5) 0x10000000
  (s.updHb 5 (fun h => { h with cmdA := true, needA := false, fellB := some 10, flt := true })).updCmp 0 (fun c => { c with line := true })

/-- Half-bridge 5 waits for its retry with its causes gone. -/
def bridgeWait : State := ((bridgeRun.wr (HBSTAT 5) 0x20000000).wr (HBCFG 5) 0).updHb 5 (fun h => { h with faultAt := some 0 })

/-- Half-bridge 5 is locked out, disabled, and its fault ball still asserted; the veto stands. -/
def bridgeLocked : State :=
  let s := ((bridgeRun.wr (HBCTL 5) 0).wr (HBSTAT 5) 0).updHb 5 (fun h => { h with locked := true })
  { s with rst := { s.rst with veto := true } }

/-- Group 1 is in phase 1, and in phase 3, of a shutdown. -/
def bridgeShut1 : State := bridgeRun.wr (GATE.STAT 1) 0x300
def bridgeShut3 : State := bridgeRun.wr (GATE.STAT 1) 0x200

/-- Half-bridge 5 before its fault ball falls; with an edge's blanking window open; waiting with the line still 1 since its fault. -/
def bridgeClean : State := bridgeRun.updHb 5 (fun h => { h with flt := false })
def bridgeBlank : State := bridgeRun.updHb 5 (fun h => { h with blankOpen := true })
def bridgeHeld : State := bridgeWait.updHb 5 (fun h => { h with ocHeld := true })

/-- Generator 5 drives its half-bridge directly, B high and A about to go high. -/
def bridgeDirect : State := { ((pwmOn.wr (PWM.CFG 5) 1).updGen 5 (fun g => { g with outB := true })).wr (GATE.GCFG 1) 0 with now := 100 }

theorem wit_GateUnitTakesFaultsAndRetries : bridgeRun.gate.length = 48 ∧ bridgeRun.pulseEnable 5 = false ∧ (bridgeRun.hb 5).cmdA = true ∧
    (bridgeRun.hb 5).cmdB = false ∧ (bridgeRun.hb 5).shoot = false ∧ bridgeRun.gateOk 5 false = true ∧ (bridgeRun.hb 5).needA = false ∧
    (bridgeRun.hb 5).ballA = false ∧ (bridgeRun.hb 5).ballB = false ∧ (bridgeRun.hb 5).fellB = some 10 ∧ bridgeRun.bit (HBCFG 5) 28 = false ∧
    bridgeRun.bit (HBCFG 5) 31 = true ∧ (bridgeRun.hb 5).blankEnd ≤ bridgeRun.now ∧ bridgeRun.hbState 5 = 1 ∧
    tb (bridgeRun.shown (GATE.GCFG (5 / 4))) 31 = false ∧ bridgeRun.bit (HBCFG 5) 30 = true ∧
    bridgeRun.line (bridgeRun.fld (HBCFG 5) 27 22) = true ∧ (bridgeRun.hb 5).flt = true ∧ bridgeWait.hbState 5 = 2 ∧
    bridgeWait.srcActive 5 = false := by
  decide +kernel

theorem wit_GateUnitTakesFaultsAndRetries_events : bridgeRun.domRun .pwm = true ∧ bridgeClean.bit (HBCFG 5) 31 = true ∧
    (bridgeClean.hb 5).flt = false ∧ (bridgeClean.hb 5).blankEnd ≤ bridgeClean.now ∧ bridgeClean.hbState 5 = 1 ∧
    tb (bridgeClean.shown (GATE.GCFG (5 / 4))) 31 = false ∧ (bridgeBlank.hb 5).blankOpen = true ∧ (bridgeBlank.hb 5).flt = true ∧
    (bridgeBlank.hb 5).blankEnd ≤ bridgeBlank.now ∧ bridgeBlank.hbState 5 = 1 ∧ bridgeHeld.hbState 5 = 2 ∧ (bridgeHeld.hb 5).ocHeld = true ∧
    pwmStopped.domRun .pwm = false := by decide +kernel

theorem wit_GateUnitTakesFaultsAndRetries_direct : bridgeDirect.domRun .pwm = true ∧ bridgeDirect.pwmRun 5 = true ∧
    bridgeDirect.bit (PWM.STAT 5) 10 = false ∧ tb (bridgeDirect.pwmCfg 5) 0 = true ∧ bridgeDirect.pwmForced 5 = false ∧
    (bridgeDirect.gen 5).w = false ∧ (bridgeDirect.gen 5).outA = false ∧ (bridgeDirect.gen 5).outB = true ∧ (bridgeDirect.gen 5).fired 0 = false ∧
    (bridgeDirect.gen 5).firedOff = false ∧ bridgeDirect.live 5 1 ≠ bridgeDirect.live 5 0 ∧ bridgeDirect.live 5 0 < bridgeDirect.pwmPer 5 ∧
    bridgeDirect.now ≤ (bridgeDirect.gen 5).t0 + bridgeDirect.live 5 0 ∧ bridgeDirect.pulseEnable 5 = false ∧ (bridgeDirect.hb 5).shoot = false ∧
    bridgeDirect.pwm.length = 48 ∧ bridgeDirect.gate.length = 48 := by decide +kernel

theorem wit_HalfBridgesAndGroupsEnableAndShutDown : live.gate.length = 48 ∧ bridgeShut1.domRun .pwm = true ∧ bridgeShut3.domRun .pwm = true ∧ live.mustWait .pwm (GATE.base (47 / 4)) = false ∧
    live.bit (HBCTL 47) 0 = false ∧ (live.hb 47).locked = false ∧ bridgeLocked.mustWait .pwm (GATE.base (5 / 4)) = false ∧
    bridgeLocked.bit (HBCTL 5) 0 = false ∧ (bridgeLocked.hb 5).locked = true ∧ bridgeLocked.srcActive 5 = true ∧
    bridgeRun.bit (HBCTL 5) 0 = true ∧ bridgeRun.mustWait .pwm (GATE.base (5 / 4)) = false ∧ live.rst.veto = false ∧
    live.groupBusy 11 = false ∧ live.mustWait .pwm (GATE.base 11) = false ∧ bridgeLocked.rst.veto = true ∧
    bridgeRun.bit (GATE.STAT 1) 8 = true ∧ bridgeRun.bit (GATE.STAT 1) 9 = false ∧ bridgeRun.bit (GATE.STAT 1) 10 = false ∧
    bridgeRun.mustWait .pwm (GATE.base 1) = false ∧ bitsOf (bridgeRun.shown (GATE.SDCFG 1)) 31 16 = 0 ∧
    bitsOf ((bridgeRun.wr (GATE.SDCFG 1) 0x10000).shown (GATE.SDCFG 1)) 31 16 ≠ 0 ∧
    bridgeShut1.bit (GATE.STAT 1) 9 = true ∧ bridgeShut1.bit (GATE.STAT 1) 8 = true ∧ bridgeShut1.bit (GATE.STAT 1) 10 = false ∧
    bridgeShut3.bit (GATE.STAT 1) 9 = true ∧ bridgeShut3.bit (GATE.STAT 1) 8 = false := by
  decide +kernel

/-- The auxiliary drivers are enabled with their overcurrent comparator on, duties below the period. -/
def auxOn : State := (liveOn [AUX.base]).wr OCCFG 0x80000000

theorem wit_AuxiliaryDriversFollowTheirEvents : live.mustWait .ps AUX.base = false ∧ live.en AUX.base = false ∧
    (live.setBit RSUP.SUPSTAT 2 false).bit RSUP.SUPSTAT 2 = false ∧ auxOn.en AUX.base = true ∧
    (∀ n, n < 3 → nth 0 auxOn.aux.duty n < auxOn.aux.per) ∧ (∀ n, n < 3 → auxOn.bit AXSTAT (27 + n) = false) ∧ auxOn.bit OCCFG 31 = true := by
  decide +kernel

/-- WC47 and PC7 are on and decided; WC0's first decision runs; PC0 is under check. -/
def compOn : State :=
  let s := ((((liveOn [WCMP.base, PCMP.base]).wr (cmpCfgAddr 47) 0x80000000).wr (cmpCfgAddr 55) 0x80000000).wr (PCMP.base + 0x5C) 0x80000000)
  (((s.updCmp 47 (fun c => { c with cfg := 0x80000000 })).updCmp 55 (fun c => { c with cfg := 0x80000000 })).updCmp 0
    (fun c => { c with cfg := 0x80000000, first := true })).updCmp 48 (fun c => { c with check := true })

theorem wit_ComparatorsDecideHoldAndCheck : compOn.cmp.length = 56 ∧ (∀ n ∈ [47, 55], (compOn.cmpAt n).check = false ∧
    (compOn.cmpAt n).first = false ∧ compOn.cmpOn n = true ∧ compOn.claimedPc n = false) ∧ compOn.cmpOn 1 = false ∧ (compOn.cmpAt 1).check = false ∧
    (compOn.cmpAt 48).check = true ∧ (compOn.cmpAt 0).first = true ∧ compOn.cmpOn 0 = true ∧ (compOn.cmpAt 0).check = false ∧
    (∀ n ∈ [0, 47, 48, 55], live.mustWait .ps (cmpPage n) = false ∧ live.locked (cmpPage n) = false ∧ live.ver (cmpPage n) = 2 ∧
      live.claimedPc n = false ∧ (live.cmpAt n).check = false ∧ tb (live.cmpAt n).cfg 31 = false) ∧
    bitsOf (0x0101 : Word) 5 0 ≤ bitsOf (0x0101 : Word) 13 8 ∧ compOn.mustWait .ps (cmpPage 47) = false ∧ compOn.mustWait .ps (cmpPage 1) = false ∧ bitsOf (1 : Word) 5 0 = 1 ∧ bitsOf (47 : Word) 5 0 = 47 ∧
    compOn.bit (cmpPage 47 + 0x5C) 31 = false ∧ compOn.bit (cmpPage 48 + 0x5C) 31 = true ∧ compOn.checked (decide (48 ≤ 48)) = 48 := by
  decide +kernel

/-! ### Chapter 11: the teller array -/

/-- The shape of a state as a computation. -/
def shapedB (s : State) : Bool :=
  decide (s.conv.pos.length = 26 ∧ s.pwm.length = 48 ∧ s.gate.length = 48 ∧ s.cmp.length = 56 ∧ s.clk.trims.length = 6 ∧
    s.clk.trimUsed.length = 48) &&
  (decide (s.tel.pos.length = 16) && s.tel.pos.all (fun p => decide (p.inst.length = 8) && (match p.run with
      | some r => decide (r.v.length = 32 ∧ r.acc.length = 4 ∧ r.p.length = 4 ∧ r.slots.length = 16)
      | none => true)) &&
    decide (s.tel.runs.length = 8 ∧ s.setl.prev.length = 16 ∧ s.mp.ch.length = 4)) &&
  decide (s.sup.k.length = 12 ∧ s.sup.locks.length = 4 ∧ s.sup.conns.length = 4) &&
  decide (s.ox.length = 8 ∧ s.eth.length = 2 ∧ s.can.length = 4 ∧ s.uart.length = 2 ∧ s.spi.length = 2 ∧ s.pilot.length = 4) &&
  decide (∀ g ∈ s.pwm, ∀ q ∈ g.after, q.1 < 4) &&
  decide (s.melo.legal.length = 32 ∧ s.melo.res.length = 32 ∧ s.melo.acc.length = 5 ∧ s.melo.owed.length = 5 ∧ s.melo.pulse.length = 5 ∧
    s.melo.hist.length = 4 ∧ s.melo.dc.length = 4 ∧ s.melo.seg.length = 8 ∧ s.melo.sess.length = 4 ∧ s.melo.copies.length = 2 ∧
    (∀ c ∈ s.melo.copies, c.legal.length = 32 ∧ c.res.length = 32 ∧ c.acc.length = 5) ∧ s.nw.loops.length = 2) &&
  decide (s.melo.cyc.length = 3 ∧ s.melo.blk.length = 3 ∧ s.melo.chans.length = 15 ∧ s.melo.ivlBase.length = 32 ∧
    s.melo.cmdLegal.length = 32 ∧ s.grid.timers.length = 16 ∧ s.health.chkTime.length = 2 ∧ s.jtag.tselect.length = 2 ∧
    s.jtag.tdata1.length = 8 ∧ s.jtag.tdata2.length = 8) &&
  decide ((∀ q ∈ s.melo.vals, 0x40C01000 ≤ q.1 ∧ q.1 < 0x40C03000) ∧ s.melo.stage.length ≤ 64 ∧
    (∀ q ∈ s.melo.stage, 0x1000 ≤ q.1 ∧ q.1 < 0x3000))

theorem shaped_of_shapedB {s : State} (h : shapedB s = true) : s.Shaped := by
  simp only [shapedB, Bool.and_eq_true, decide_eq_true_eq, List.all_eq_true] at h
  obtain ⟨⟨⟨⟨⟨⟨⟨h1, ⟨h2, h3⟩, h4⟩, h5⟩, h6⟩, h7⟩, h8⟩, h9⟩, h10⟩ := h
  refine ⟨h1, ⟨h2, fun p hp => ⟨(h3 p hp).1, fun r hr => ?_⟩, h4⟩, h5, h6, h7, h8, h9, h10⟩
  have := (h3 p hp).2
  rw [hr] at this
  exact of_decide_eq_true this

theorem live_shaped : live.Shaped := shaped_of_shapedB (by decide +kernel)

/-- The library holds at bundle 0 an image whose program is one END; T3.2 is set up for it. -/
def tellers0 : State :=
  let s := (liveOn [TLR.base 3, TELC.base]).setBytes 0x30000000
    ([0x54, 0x45, 0x4C, 0x50, 1, 0, 1, 0, 0, 0, 0, 0, 0xB9, 0x71, 0x7A, 0x6D] ++ List.replicate 64 0 ++ [0, 0, 0x40, 0])
  (((s.wr (INST.AREA 3 2) 0x00080000).wr (INST.SUB 3 2) 1).wr (INST.DL 3 2) 1000).wr (INST.MIV 3 2) 1000

/-- T3.2 is enabled; a push to its slot 0 is on its way. -/
def tellers1 : State :=
  let s := tellers0.wr (INST.CFG 3 2) 0x80000000
  { s with tel := { s.tel with arriving := [{ coin := 0, addr := s.slotAddr 3 2 0, data := 5 }] } }

/-- T3.2 is ready. -/
def tellers2 : State := tellers1.updInst 3 2 (fun x => { x with ready := true, arr := 1 })

theorem wit_PushesReadyAndStartInstances : tellers0.Shaped ∧ tellers1.Shaped ∧ tellers2.Shaped :=
  ⟨shaped_of_shapedB (by decide +kernel), shaped_of_shapedB (by decide +kernel), shaped_of_shapedB (by decide +kernel)⟩

theorem wit_PushesReadyAndStartInstances_runs : tellers1.domRun .tel = true ∧ tellers2.domRun .tel = true ∧
    tellers1.tel.arriving.find? (fun p => tsmOf p.addr == 3) = some { coin := 0, addr := tellers1.slotAddr 3 2 0, data := 5 } ∧
    tellers1.slotAt 3 (tellers1.slotAddr 3 2 0) = some (2, 0) ∧ tellers1.mustWait .tel (TLR.base 3) = false ∧ tellers1.ver (TLR.base 3) ≠ 1 ∧
    tellers2.unitIdle 3 = true ∧ tellers2.chosen 3 = some (3, 2) ∧ tellers2.health.bad = [] ∧ tellers1.instEn 3 2 = true ∧
    bitsOf (tellers1.rd (INST.CFG 3 2)) 26 24 = bitsOf (0 : Word) 26 24 ∧ bitsOf (tellers1.rd (INST.CFG 3 2)) 13 0 = bitsOf (0 : Word) 13 0 := by
  decide +kernel

theorem wit_PushesReadyAndStartInstances_enable : tellers0.mustWait .tel (TLR.base 3) = false ∧ tellers0.locked (TLR.base 3) = false ∧
    tellers0.instEn 3 2 = false ∧ (tellers0.tryEnable 3 2 0x80000000).2 = none ∧ (live.tryEnable 15 7 0x83003FFF).2 = some (1, 15, 7) ∧
    live.instEn 15 7 = false ∧ live.locked (TLR.base 15) = false ∧ live.mustWait .tel (TLR.base 15) = false := by
  decide +kernel

theorem wit_PushesReadyAndStartInstances_library : slipSizeOk libBase 4 = true ∧ slipSizeOk (libBase + 0x3FFF0) 16 = true ∧
    live.mustWait .tel libBase = false ∧ live.imageTouched libBase 4 = false ∧ tellers1.mustWait .tel libBase = false ∧
    tellers1.imageTouched libBase 4 = true ∧ live.mustWait .tel TELC.base = false ∧ live.bit (PG.CFG 31) 31 = false ∧ live.ver TELC.base ≠ 1 := by
  decide +kernel

/-- Rotation is on and unit 14 released; it may shadow position 3; the shadow copies, runs, has passed. -/
def telRot : State :=
  let s := (tellers1.wr TELC.ROTCFG 0x80000000)
  { s with tel := { s.tel with released := [14, 15], chosen := some (3, 14) } }
def telCopy : State := telRot.wr TELC.ROTSTAT 0x430E0000
def telShadow : State := telRot.wr TELC.ROTSTAT 0x830E0000
def telPassed : State := telRot.wr TELC.ROTSTAT 0xC30E0000
/-- T14.0 is enabled and rotation off. -/
def telFull : State := (tellers0.wr (INST.CFG 14 0) 0x80000000).wr TELC.ROTCFG 0

theorem wit_TellerUnitsAreRotatedAndReplaced : telRot.Shaped ∧ telCopy.Shaped ∧ telShadow.Shaped ∧ telPassed.Shaped ∧ telFull.Shaped :=
  ⟨shaped_of_shapedB (by decide +kernel), shaped_of_shapedB (by decide +kernel), shaped_of_shapedB (by decide +kernel),
    shaped_of_shapedB (by decide +kernel), shaped_of_shapedB (by decide +kernel)⟩

theorem wit_TellerUnitsAreRotatedAndReplaced_rotation : live.mustWait .tel TELC.base = false ∧ live.locked TELC.base = false ∧
    live.members [14, 15] = [] ∧ telFull.members [14, 15] ≠ [] ∧ telFull.mustWait .tel TELC.base = false ∧ Memory.wf telRot.mem = true ∧
    telRot.bit TELC.ROTCFG 31 = true ∧ telRot.fld TELC.ROTSTAT 31 30 = 0 ∧ telRot.served 3 = true ∧ (telRot.tpos 3).host = none ∧
    telRot.unitOf 14 ∈ telRot.tel.released ∧ telRot.tel.chosen = some (3, 14) ∧ telCopy.fld TELC.ROTSTAT 31 30 = 1 ∧
    telCopy.instEn (telCopy.fld TELC.ROTSTAT 27 24) 2 = true ∧ nth 0 telCopy.tel.runs 2 < 64 ∧ telShadow.fld TELC.ROTSTAT 31 30 = 2 ∧
    telShadow.fld TELC.ROTSTAT 27 24 = 3 ∧ telPassed.fld TELC.ROTSTAT 31 30 = 3 ∧ telPassed.fld TELC.ROTSTAT 27 24 = 3 ∧
    telPassed.fld TELC.ROTSTAT 19 16 = 14 ∧ telPassed.runAt 3 = none := by
  decide +kernel

/-- No instance of the shadowed position is enabled; its unit is busy at the hand-over. -/
def telCopyIdle : State := telCopy.wr (INST.CFG 3 2) 0
def telPassedBusy : State := telPassed.updInst 3 2 (fun x => { x with ready := true }) |>.setRun 3 { inst := 2, sc := false, base := 5 }

theorem wit_TellerUnitsAreRotatedAndReplaced_clocked : telCopyIdle.Shaped ∧ telPassedBusy.Shaped ∧
    (telRot.domRun .tel = true ∧ telCopy.domRun .tel = true ∧ telShadow.domRun .tel = true ∧ telPassed.domRun .tel = true ∧
      (∀ i, i < 8 → telCopyIdle.instEn (telCopyIdle.fld TELC.ROTSTAT 27 24) i = false) ∧ telCopyIdle.fld TELC.ROTSTAT 31 30 = 1 ∧
      telPassed.unitFree 3 = true ∧ telPassedBusy.fld TELC.ROTSTAT 27 24 = 3 ∧ telPassedBusy.unitFree 3 = false ∧
      (telRot.tpos 3).takeover = none ∧ telFull.domRun .tel = true) :=
  ⟨shaped_of_shapedB (by decide +kernel), shaped_of_shapedB (by decide +kernel), by decide +kernel⟩

theorem wit_TellerUnitsAreRotatedAndReplaced_errors : telRot.bit TELC.CAPSTAT (16 + 3) = false ∧ telRot.posOfUnit 3 = some 3 ∧
    telRot.tel.released.erase 3 = [14, 15] ∧ telFull.fld TELC.ROTSTAT 31 30 = 0 ∧ telFull.bit TELC.ROTCFG 31 = false ∧
    telFull.bit TELC.CAPSTAT (16 + 13) = false ∧ telFull.posOfUnit 13 = some 13 ∧ (∀ q, q < 16 → (telFull.tpos q).host ≠ some 13) ∧
    telFull.bit (TLR.base 13 + 0x40) 31 = false := by
  decide +kernel

/-! ### Chapter 12: the loop instruction set -/

/-- A run of T3.0 at its first bundle, with V1 = 0x20000000. -/
def runOf (sc : Bool) (done : Nat) : Run := { inst := 0, sc := sc, base := 5, done := done, v := [0, 0x20000000] ++ List.replicate 30 0 }

/-- Position 3 has fetched syllable `w` in slot `slot` of run `r`. -/
def fetched (slot : Nat) (w : Word) (r : Run) : State := (live.setBytes (libBase + 80 + 4 * (3 - slot)) (leBytes 4 w.toNat)).setRun 3 r

theorem wit_Executes_full : ∀ q ∈ ([(0, List.range 37), (1, List.range 27), (2, List.range 15), (3, List.range 9)] : List (Nat × List Nat)),
    ∀ opc ∈ q.2, Executes 3 q.1 opc (Word.ofNat (opc * 2 ^ 22)) (runOf false 0) (fetched q.1 (Word.ofNat (opc * 2 ^ 22)) (runOf false 0)) := by
  simp only [Executes]
  decide +kernel

theorem wit_Executes_small : ∀ q ∈ ([(0, List.range 37), (1, List.range 32)] : List (Nat × List Nat)),
    ∀ opc ∈ q.2, Executes 3 q.1 opc (Word.ofNat (opc * 2 ^ 22)) (runOf true 0) (fetched q.1 (Word.ofNat (opc * 2 ^ 22)) (runOf true 0)) := by
  simp only [Executes]
  decide +kernel

theorem wit_MultiplyAccumulateRunsInTheFullForm : (fetched 0 0x00400000 (runOf false 0)).Shaped ∧ (runOf false 0).sc = false ∧
    (runOf false 12).accW = [] ∧ (runOf false 12).ctl = none ∧ (runOf false 12).fixed = false ∧ (runOf false 12).hold = none ∧
    (runOf false 12).frd = none ∧ (runOf false 12).fence = false ∧ fldAcc 0x00400000 = fldAcc 0x00800000 :=
  ⟨shaped_of_shapedB (by decide +kernel), by decide +kernel⟩

/-- MAC in M0 and MSU in M1 of one bundle. -/
def macMsu : State := (fetched 0 0x00400000 (runOf false 12)).setBytes (libBase + 80 + 8) (leBytes 4 0x00800000)

theorem wit_MultiplyAccumulateRunsInTheFullForm_both : Executes 3 0 1 0x00400000 (runOf false 12) macMsu ∧
    Executes 3 1 2 0x00800000 (runOf false 12) macMsu := by
  simp only [Executes]
  decide +kernel

theorem wit_MultiplyAccumulateRunsInTheFullForm_runs : ∃ t u, exec (.opMac 3 false 0x00400000) macMsu = .next t ∧
    exec (.opMsu 3 true 0x00800000) t = .next u := by
  have h1 : ∀ n m1 w s, ∃ t, exec (.opMac n m1 w) s = .next t := fun n m1 w s => ⟨_, rfl⟩
  have h2 : ∀ n m1 w s, ∃ t, exec (.opMsu n m1 w) s = .next t := fun n m1 w s => ⟨_, rfl⟩
  obtain ⟨t, ht⟩ := h1 3 false 0x00400000 macMsu
  obtain ⟨u, hu⟩ := h2 3 true 0x00800000 t
  exact ⟨t, u, ht, hu⟩

theorem wit_AluOperationsWriteOneRegister : (fetched 3 0 (runOf false 0)).Shaped := shaped_of_shapedB (by decide +kernel)

theorem wit_BiquadAndTransformsStallTheirBundle : (fetched 0 0x08000000 (runOf false 0)).Shaped ∧ bitsOf (0xFFFFF : Word) 19 4 = 65535 :=
  ⟨shaped_of_shapedB (by decide +kernel), by decide⟩

theorem wit_SmallChangeOperationsWorkOnLanes : (fetched 0 0x08000000 (runOf true 0)).Shaped ∧ (runOf true 0).sc = true :=
  ⟨shaped_of_shapedB (by decide +kernel), rfl⟩

theorem wit_StateMemoryInputsAndDepositsAreRead : (fetched 2 0x00400000 (runOf false 0)).Shaped :=
  shaped_of_shapedB (by decide +kernel)

theorem wit_StateMemoryInputsAndDepositsAreRead_area : (fetched 2 0x00400000 (runOf false 0)).health.bad = [] ∧
    areaWord (fetched 2 0x00400000 (runOf false 0)) 3 (runOf false 0) 0x00400000 = 0x30058000 ∧
    areaWord (fetched 2 0x00C00000 (runOf false 0)) 3 (runOf false 0) 0x00C00000 = 0x30058000 ∧
    (fetched 2 0x01800000 (runOf false 0)).depositAddr 3 0 3 = 0x30058070 ∧ (fetched 2 0x00400000 (runOf false 0)).bit HEALTH.LOGBASE 0 = false := by
  decide +kernel

theorem wit_StateMemoryInputsAndDepositsAreRead_memory : memOf 0x30058000 ≠ none ∧ memOf 0x30058070 ≠ none ∧ 0x30058000 % 16 + 16 ≤ 16 ∧
    0x30058070 % 16 + 16 ≤ 16 ∧ (⟨71, true⟩ : EccError).uncorr = true := by
  decide +kernel

/-- The unit of position 3 has used up its places and its coins. -/
def unitHeld : State :=
  let s := fetched 2 0x02000000 (runOf false 0)
  { s with fab := { s.fab with slips := (List.range 24).map (fun c => { coin := 128 + c, init := 35, unit := some (s.unitOf 3), addr := 0x40020040, write := true }) } }

/-- T3.0 is enabled and admitted to profile generator 0. -/
def profiled : State := ((fetched 2 0x03400000 (runOf false 0)).wr (INST.CFG 3 0) 0x80000000).wr (PG.CFG 0) 0x80030000

theorem wit_UnitSlipsFencesAndProfileSteps : (fetched 2 0x02000000 (runOf false 0)).Shaped ∧ profiled.Shaped ∧
    profiled.bit (PG.CFG 0) 31 = true ∧ profiled.fld (PG.CFG 0) 19 16 = 3 ∧ profiled.fld (PG.CFG 0) 10 8 = 0 ∧ profiled.ver TELC.base ≠ 1 ∧
    (fetched 2 0x03400000 (runOf false 0)).bit (PG.CFG 0) 31 = false ∧ profiled.instEn 3 0 = true ∧
    (fetched 2 0x02400000 (runOf false 0)).instEn 0 0 = false ∧ fwrOk ((runOf false 0).V 1).toNat = true ∧ fwrOk ((runOf false 0).V 0).toNat = false ∧
    frdOk ((runOf false 0).V 1).toNat = true ∧ frdOk ((runOf false 0).V 0).toNat = false :=
  ⟨shaped_of_shapedB (by decide +kernel), shaped_of_shapedB (by decide +kernel), by decide +kernel⟩

theorem wit_UnitSlipsFencesAndProfileSteps_free : UnitFree 3 0x40020040 (fetched 2 0x02000000 (runOf false 0)) ∧ UnitHeld 3 0x40020040 unitHeld :=
  ⟨⟨by decide +kernel, ⟨128, by decide +kernel⟩, by decide +kernel⟩, Or.inl (by decide +kernel)⟩

/-- Position 3's bundle is done but for an FRD's response, a fence, or a write that waited. -/
def stalled (r : Run) : State := (fetched 0 0 r).setRun 3 { r with done := 15 }

/-- Write slips that wait: an OUT's, and a PUSH's to T3.2's slot 0. -/
def heldOut : Run := { runOf false 0 with hold := some { init := 35, addr := 0x40020040, write := true, bytes := [1, 2, 3, 4], unit := some 3 } }
def heldPush : Run := { heldOut with holdTo := some (3, 2, 0) }

theorem wit_UnitSlipsFencesAndProfileSteps_stalls : (stalled (runOf false 0)).outstanding 3 = false ∧ (stalled (runOf false 0)).domRun .tel = true ∧
    (stalled { runOf false 0 with frd := some 4, frdVal := some 9 }).runAt 3 = some { runOf false 15 with frd := some 4, frdVal := some 9 } ∧
    (stalled { runOf false 0 with fence := true }).runAt 3 = some { runOf false 15 with fence := true } ∧
    (stalled heldOut).runAt 3 = some { heldOut with done := 15 } ∧ (stalled heldOut).unitOf 3 = 3 ∧
    ((stalled heldPush).wr (INST.CFG 3 2) 0x80000000).runAt 3 = some { heldPush with done := 15 } ∧
    ((stalled heldPush).wr (INST.CFG 3 2) 0x80000000).instEn 3 2 = true := by
  decide +kernel

theorem wit_UnitSlipsFencesAndProfileSteps_issues : UnitFree 3 0x40020040 (stalled heldOut) ∧
    UnitFree 3 (((stalled heldPush).wr (INST.CFG 3 2) 0x80000000).slotAddr 3 2 0) ((stalled heldPush).wr (INST.CFG 3 2) 0x80000000) :=
  ⟨⟨by decide +kernel, ⟨128, by decide +kernel⟩, by decide +kernel⟩, ⟨by decide +kernel, ⟨128, by decide +kernel⟩, by decide +kernel⟩⟩

theorem wit_ControlAndPredicatesSteerTheBundle : (fetched 3 0x00800000 (runOf false 0)).Shaped ∧
    (∀ q ∈ ([(3, 2, 0xA0800000), (0, 9, 0xA2400000), (1, 9, 0xA2400000), (2, 2, 0xA0800000)] : List (Nat × Nat × Word)),
      Skips 3 q.1 q.2.1 q.2.2 (runOf false 0) (fetched q.1 q.2.2 (runOf false 0))) ∧ fabStopped.domRun .tel = false ∧
    ({ fetched 3 0 (runOf false 0) with health := { live.health with bad := [libBase + 80] } } : State).bundleBad (runOf false 0) = true := by
  refine ⟨shaped_of_shapedB (by decide +kernel), ?_, by decide +kernel⟩
  simp only [Skips]
  decide +kernel

/-! ### Chapters 13 and 14: the engines -/

/-- The settlement engine runs with account 0 enabled and a deposit of it formed for T3.2's slot D0. -/
def settling : State :=
  let s := ((((((liveOn [SETL.base]).wr SETL.STAT 0x100).wr (ACCT.CFG 0) 0x80000000).wr SETL.CONTSTAT 0x40000000).wr (INST.CFG 3 2) 0x80000000).wr
    (INST.SUB 3 2) 0x10000)
  { s with deps := [{ init := 48, n := 3, i := 2, d := 0, words := [1, 2, 3, 4] }], setl := { s.setl with dropped := 2, tabMask := 1 } }

/-- The same with TRIP raised; with an accepted CLR in contingency; switched off. -/
def contingent : State := settling.setBit GFRT.STAT 10 true
def clearing : State :=
  let s := settling.wr SETL.STAT 0x1100
  { s with setl := { s.setl with clr := true } }
def settlingOff : State := settling.setBit (SETL.base + 0x0C) 0 false

theorem wit_SettlementPeriodsAllocateTheBus : settling.Shaped ∧ contingent.Shaped ∧ clearing.Shaped ∧ settlingOff.Shaped :=
  ⟨shaped_of_shapedB (by decide +kernel), shaped_of_shapedB (by decide +kernel), shaped_of_shapedB (by decide +kernel),
    shaped_of_shapedB (by decide +kernel)⟩

theorem wit_SettlementPeriodsAllocateTheBus_periods : settling.bit SETL.STAT 8 = true ∧ settling.en SETL.base = true ∧
    settling.bit SETL.STAT 12 = false ∧ settling.setl.clr = false ∧ settling.contCauses = [] ∧ settling.domRun .fab = true ∧
    fabStopped.domRun .fab = false ∧ settlingOff.bit SETL.STAT 8 = true ∧ settlingOff.en SETL.base = false ∧
    contingent.bit SETL.STAT 8 = true ∧ contingent.en SETL.base = true ∧ contingent.bit SETL.STAT 12 = false ∧ contingent.setl.clr = false ∧
    contingent.contCauses = [2] ∧ contingent.bit SETL.CONTSTAT 30 = true ∧ contingent.bit (ACCT.CFG 0) 31 = true ∧
    clearing.bit SETL.STAT 8 = true ∧ clearing.en SETL.base = true ∧ clearing.bit SETL.STAT 12 = true ∧ clearing.setl.clr = true ∧
    clearing.islandUp = false ∧ clearing.tripUp = false := by
  decide +kernel

theorem wit_SettlementPeriodsAllocateTheBus_writes : live.mustWait .fab SETL.base = false ∧ live.en SETL.base = false ∧
    live.locked SETL.base = false ∧ live.ver SETL.base ≠ 1 ∧ live.islandUp = false ∧ live.tripUp = false ∧
    contingent.mustWait .fab SETL.base = false ∧ contingent.tripUp = true := by
  decide +kernel

/-- A balancing account, and a demand account of the highest priority that asks for its whole range. -/
def accts : List Acct :=
  [{ k := 0, bal := true, grid := true, prio := 0, his := 100, los := -100, ramp := 10, prev := 0, dem := 0, fix := none },
   { k := 15, bal := false, grid := false, prio := 7, his := 50, los := 0, ramp := 50, prev := 0, dem := 50, fix := none }]

theorem wit_AllocationConservesPowerWithinItsBounds : (∀ a ∈ accts, a.los ≤ 0 ∧ 0 ≤ a.his ∧ 0 ≤ a.ramp ∧ a.moved = false) ∧
    (∀ a ∈ (allocate 1000 true false accts).1, a.prio < 8) ∧ 0 < (allocate 1000 true false accts).2 ∧ (allocate (-1000) true false accts).2 < 0 := by
  decide +kernel

/-- Channel 0 is enabled and tracks with a sample summed; channel 1 scans its last point, channel 2 is enabled without a sample. -/
def tracking : State :=
  let s := liveOn [MP.base 0, MP.base 2]
  { s with mp := { s.mp with ch := upd s.mp.ch 0 (fun c => { c with n := 1, sumV := 1000, sumI := 2000 }) } }
def scanningTo (j : Nat) : State :=
  let s := (liveOn [MP.base 0, MP.base 1]).wr (MP.SCANSTAT 1) (Word.ofNat (j * 65536))
  { s with mp := { s.mp with ch := upd s.mp.ch 1 (fun c => { c with n := 1, sumV := 1000, sumI := 2000, dwell := 15 }), scanning := some 1 } }

/-- Account 0 is linked to channel 0, whose PAVAIL is above its grant. -/
def curtailed : State := (tracking.wr (ACCT.CFG 0) 0x88000000).wr (MP.PAVAIL 0) 6400

theorem wit_MpptTracksScansAndDeposits : tracking.Shaped ∧ (scanningTo 0).Shaped ∧ curtailed.Shaped ∧ settling.Shaped :=
  ⟨shaped_of_shapedB (by decide +kernel), shaped_of_shapedB (by decide +kernel), shaped_of_shapedB (by decide +kernel),
    shaped_of_shapedB (by decide +kernel)⟩

theorem wit_MpptTracksScansAndDeposits_steps : tracking.domRun .fab = true ∧ curtailed.domRun .fab = true ∧
    fabStopped.domRun .fab = false ∧ live.mustWait .fab (MP.base 3) = false ∧ live.en (MP.base 3) = false ∧ live.mp.scanning = none ∧
    live.mp.due = [] ∧ (scanningTo 0).mp.scanning ≠ none ∧ (scanningTo 0).en (MP.base 3) = false ∧ (scanningTo 0).mp.due = [] ∧
    tracking.mustWait .fab (MP.base 0) = false ∧
    tracking.en (MP.base 0) = true ∧ tracking.en (MP.base 2) = true ∧ tracking.mp.due = [] ∧ (tracking.mpc 2).n = 0 ∧
    tracking.mp.scanning ≠ some 0 ∧ tracking.curtailed 0 = false ∧ (tracking.mpc 0).hold = false ∧ (tracking.mpc 0).relock = false ∧
    0 < (tracking.mpc 0).n ∧ tb ((tracking.wr (MP.SCANCFG 0) 0x800F2804).shown (MP.SCANCFG 0)) 30 = false ∧ 0 ≤ tracking.mpReg 0 0x60 ∧
    curtailed.curtailed 0 = true ∧ curtailed.en (MP.base 0) = true ∧ 0 < (curtailed.mpc 0).n ∧ curtailed.mp.due = [] := by
  decide +kernel

theorem wit_MpptTracksScansAndDeposits_scans : (scanningTo 0).en (MP.base 1) = true ∧ (scanningTo 0).mp.due = [] ∧
    (scanningTo 0).mp.scanning = some 1 ∧ (scanningTo 0).curtailed 1 = false ∧ 0 < ((scanningTo 0).mpc 1).n ∧
    dwellOf ((scanningTo 0).rd (MP.SCANCFG 1)) ≤ ((scanningTo 0).mpc 1).dwell + 1 ∧ nptsOf ((scanningTo 39).rd (MP.SCANCFG 1)) = 40 ∧
    (scanningTo 39).fld (MP.SCANSTAT 1) 21 16 = 39 ∧ (scanningTo 38).fld (MP.SCANSTAT 1) 21 16 = 38 ∧ tracking.bit (MP.SCANCFG 0) 31 = true ∧
    tracking.mp.scanning = none ∧ (scanningTo 0).bit (MP.SCANCFG 0) 31 = true ∧ (scanningTo 0).mp.scanning ≠ some 0 ∧
    (scanningTo 0).en (MP.base 0) = true ∧ tracking.ver (MP.base 0) ≠ 1 ∧ (scanningTo 0).mustWait .fab (MP.base 0) = false := by
  decide +kernel

/-- Channel 0 takes its first step after a hold, or after a restart of its scan. -/
def relocking : State := { tracking with mp := { tracking.mp with ch := upd tracking.mp.ch 0 (fun c => { c with relock := true }) } }
def tracked : State := tracking.wr (MP.SCANCFG 0) 0

theorem wit_MpptTracksScansAndDeposits_relock : relocking.Shaped ∧ tracked.Shaped ∧ (relocking.en (MP.base 0) = true ∧ relocking.mp.due = [] ∧
    relocking.curtailed 0 = false ∧ (relocking.mpc 0).relock = true ∧ 0 < (relocking.mpc 0).n ∧ ((scanningTo 0).mpc 1).hold = false ∧
    ((scanningTo 0).mpc 1).relock = false ∧ (scanningTo 0).domRun .fab = true ∧ tb (tracked.shown (MP.SCANCFG 0)) 30 = false ∧
    tracked.en (MP.base 0) = true ∧ tracked.curtailed 0 = false ∧ (tracked.mpc 0).hold = false ∧ (tracked.mpc 0).relock = false ∧
    0 < (tracked.mpc 0).n ∧ 0 ≤ tracked.mpReg 0 0x60) :=
  ⟨shaped_of_shapedB (by decide +kernel), shaped_of_shapedB (by decide +kernel), by decide +kernel⟩

theorem wit_MpptTracksScansAndDeposits_deposits : settling.deps.find? (fun d => d.init == 48 && settling.depReady d) =
    some { init := 48, n := 3, i := 2, d := 0, words := [1, 2, 3, 4] } ∧ settling.domRun .fab = true ∧ (∀ q ∈ settling.fab.stalled, q.init ≠ 48) ∧ settling.instEn 3 2 = true ∧
    settling.bit (INST.SUB 3 2) (16 + 0) = true ∧ settling.takeCoin 48 ≠ none ∧ (settling.wr (INST.CFG 3 2) 0).instEn 3 2 = false := by
  decide +kernel

/-- The grid engine runs with scales set and a fresh sample; every count has come to what acts. -/
def gridOn : State :=
  let s := (((liveOn [GSYNC.base, GFRT.base, GISL.base]).wr GSYNC.SCALE 0x02BC0190).wr GSYNC.NOM 0x00E60032).wr GISL.CFG 0x60000000
  let s1 := (((s.wr (stageAt 0) 0x80000000).wr (stageAt 15) 0xC0000000).wr (stageAt 0 + 4) 1).wr (stageAt 15 + 4) 0xFFFFF
  { s1 with grid := { s1.grid with
      fresh := true, apply := true, stale := 50, seq := 25, lock := 100000, dipN := 255, cont := 10000000,
      timers := List.replicate 15 51 ++ [52428751], rocofN := 1000000, vsN := 255, accN := 1000000, es := 16000000 } }

/-- The same without a sample, without a table to take; in an excursion; with a shadow table that fails. -/
def gridStale : State := { gridOn with grid := { gridOn.grid with fresh := false, apply := false } }
def gridExcursion : State := gridOn.setBit GFRT.STAT 9 true
def gridBadTable : State := live.wr (GTAB.base + 0x100) 0xFFFFFFFF

/-- The same with SYNC set; with a whole window of a steady frequency; with the enter-service count complete; with a shadow table whose
thresholds are in range. -/
def gridSynced : State := gridOn.setBit GSYNC.STAT 9 true
def gridSteady : State :=
  { ((gridOn.wr GSYNC.LOCKCFG 0x00000A01).wr GSYNC.FREQ 50000) with grid := { gridOn.grid with fSteps := List.replicate 60 50001 } }
def gridService : State :=
  { ((((gridOn.setBit GSYNC.STAT 9 true).wr GSYNC.FREQ 50000).wr (GFRT.base + 0x68) 0xFFFF0000).wr (GFRT.base + 0x6C) 0x7FFF8000) with
    grid := { gridOn.grid with ufrt := fInt 1 } }
def gridTable : State := (List.range 8).foldl (fun t j => t.wr (GTAB.base + 0x180 + 8 * (8 + j)) 50000) gridOn

theorem wit_GridEngineStepsOnItsSamples : gridOn.domRun .fab = true ∧ gridSteady.bit GSYNC.STAT 9 = false ∧
    0 < gridSteady.grid.lock ∧ gridSteady.fld GSYNC.LOCKCFG 7 0 * 50 ≤ gridSteady.grid.lock ∧ gridSteady.en GSYNC.base = true ∧
    gridSteady.freqWindow = some true ∧ fabStopped.domRun .fab = false ∧ live.mustWait .fab GSYNC.base = false ∧ live.fld GSYNC.SCALE 31 16 = 0 ∧
    gridOn.en GSYNC.base = true ∧ gridOn.grid.fresh = true ∧ gridStale.en GSYNC.base = true ∧ gridStale.grid.fresh = false ∧
    gridStale.grid.apply = false ∧ gridOn.grid.apply = true ∧ gridOn.fld GTAB.TABSTAT 15 0 ≠ 65535 ∧ live.en GSYNC.base = false ∧
    50 ≤ gridOn.grid.stale ∧ gridOn.bit GSYNC.STAT 11 = false ∧ 25 ≤ gridOn.grid.seq ∧ gridOn.bit GSYNC.STAT 12 = false ∧
    gridOn.bit GSYNC.STAT 9 = false ∧ 0 < gridOn.grid.lock ∧ gridOn.fld GSYNC.LOCKCFG 7 0 * 50 ≤ gridOn.grid.lock ∧ gridOn.grid.dip = false ∧
    max (gridOn.fld GFRT.CFG 15 8) 1 ≤ gridOn.grid.dipN ∧ gridOn.en GFRT.base = true ∧ gridExcursion.en GSYNC.base = true ∧
    gridExcursion.bit GFRT.STAT 9 = true ∧ gridExcursion.fld GFRT.STAT 12 11 = 0 ∧
    gridExcursion.fld (GFRT.base + 0x58) 15 0 * 50 ≤ gridExcursion.grid.cont := by
  decide +kernel

theorem wit_GridEngineStepsOnItsSamples_enable : let s := gridOn.setBit (GSYNC.base + 0x0C) 0 false
    s.mustWait .fab GSYNC.base = false ∧ s.en GSYNC.base = false ∧ s.fld GSYNC.SCALE 31 16 ≠ 0 ∧ s.fld GSYNC.SCALE 15 0 ≠ 0 ∧
    s.fld GSYNC.NOM 31 16 ≠ 0 ∧ s.fld GSYNC.NOM 15 0 ≠ 0 := by
  decide +kernel

theorem wit_GridProtectionRaisesAndClearsItsFlags : gridOn.stageOn 0 = true ∧ gridOn.stageOn 15 = true ∧
    gridOn.fld (stageAt 0 + 4) 19 0 * 50 < nth 0 gridOn.grid.timers 0 ∧ gridOn.fld (stageAt 15 + 4) 19 0 * 50 < nth 0 gridOn.grid.timers 15 ∧ gridOn.bit (stageAt 0) 30 = false ∧ gridOn.bit (stageAt 15) 30 = true ∧
    gridOn.bit GISL.STAT 12 = false ∧ gridOn.bit GFRT.STAT 10 = false ∧ gridOn.en GISL.base = true ∧ gridOn.bit GISL.CFG 30 = true ∧
    gridOn.bit GISL.CFG 29 = true ∧ gridOn.ver GISL.base ≠ 1 ∧ 0 < gridOn.grid.rocofN ∧ gridOn.fld (GISL.base + 0x44) 7 0 * 500 ≤ gridOn.grid.rocofN ∧
    0 < gridOn.grid.vsN ∧ gridOn.fld (GISL.base + 0x48) 7 0 ≤ gridOn.grid.vsN ∧ 0 < gridOn.grid.accN ∧ gridOn.probeSteps ≤ gridOn.grid.accN ∧
    gridOn.mustWait .fab GFRT.base = false ∧ gridOn.mustWait .fab GISL.base = false ∧ gridService.enterHeld = true ∧
    gridService.mustWait .fab GFRT.base = false ∧ gridService.mustWait .fab GISL.base = false ∧ gridSynced.bit GSYNC.STAT 9 = true ∧
    gridSynced.en GSYNC.base = true ∧ gridSynced.en GISL.base = true ∧ gridSynced.domRun .fab = true ∧ live.bit GSYNC.STAT 9 = false ∧ live.enterHeld = false ∧
    live.mustWait .fab GFRT.base = false ∧ live.mustWait .fab GISL.base = false ∧ live.mustWait .fab GTAB.base = false ∧ gridTable.tableErr = 0 ∧
    gridTable.mustWait .fab GTAB.base = false ∧
    gridBadTable.tableErr ≠ 0 ∧ gridBadTable.mustWait .fab GTAB.base = false := by
  decide +kernel

/-! ### Chapters 15 and 16: Meloskern, the ledger, Nightwatch -/

/-- Meloskern runs; a cycle and both blocks have come to their ends; pulse 0 is high, pulse 1 in its low time with more owed. -/
def metering : State :=
  { live with melo := { live.melo with
      running := true, blkCyc := 12, blkN := 8000, dcN := 1600, pulse := [1, 2, 2, 0, 0], owed := [0, 3, 0, 0, 0] } }

/-- The same with metrology suspended after `g` good windows. -/
def suspended (g : Nat) : State :=
  let s := metering.mset MELO.MSTAT 30 30 1
  { s with melo := { s.melo with good := g } }

theorem wit_MeterCountsEnergyExactlyAndKeepsIt : metering.Shaped ∧ live.Shaped ∧ (suspended 2).Shaped ∧ (suspended 0).Shaped :=
  ⟨shaped_of_shapedB (by decide +kernel), live_shaped, shaped_of_shapedB (by decide +kernel), shaped_of_shapedB (by decide +kernel)⟩

theorem wit_MeterCountsEnergyExactlyAndKeepsIt_runs : metering.melo.running = true ∧ metering.suspended = false ∧ live.melo.running = false ∧
    nth 0 metering.melo.pulse 0 = 1 ∧ nth 0 metering.melo.pulse 1 = 2 ∧ (if metering.mbit MELO.MCFG 0 then 12 else 10) ≤ metering.melo.blkCyc ∧
    metering.melo.blkN ≠ 0 ∧ 1600 ≤ metering.melo.dcN ∧ live.melo.newest.1.valid = true ∧ (suspended 2).melo.running = true ∧
    (suspended 2).suspended = true ∧ (suspended 2).melo.good = 2 ∧ (suspended 1).melo.good < 2 ∧ (suspended 1).suspended = true := by
  decide +kernel

/-- The metrology filters hold full windows and three cycles of the block are over; the cycle in progress has 160 or 150 samples. -/
def mtr : State :=
  { metering with melo := { metering.melo with
      blkCyc := 3, dcN := 100, cycN := 160, src := 3,
      chans := List.replicate 15 { m8 := List.replicate 127 1000000, c64 := List.replicate 100 5000 } } }
def mtrSrc : State := { mtr with melo := { mtr.melo with cycN := 150, src := 1 } }

theorem wit_MeterCountsEnergyExactlyAndKeepsIt_cycles : mtr.Shaped ∧ mtrSrc.Shaped :=
  ⟨shaped_of_shapedB (by decide +kernel), shaped_of_shapedB (by decide +kernel)⟩

theorem wit_MeterCountsEnergyExactlyAndKeepsIt_ends : mtr.melo.running = true ∧ mtr.suspended = false ∧ mtr.acDue = false ∧ mtr.dcDue = false ∧
    mtr.chanOn 0 = false ∧ mtr.melo.cycN ≠ 0 ∧ (mtr.melo.src = 3 ∧ mtr.melo.cycN = mtr.fixedLength) ∧ mtrSrc.acDue = false ∧ mtrSrc.dcDue = false ∧
    mtrSrc.melo.src ≠ 3 ∧ (-1 : Word).toInt < 0 ∧ 0 ≤ (0 : Word).toInt := by
  decide +kernel

/-- A NOP waits in the latched mailbox; the same taken; Meloskern's reply to it waits. -/
def rung : State :=
  let s := metering.wr LEDGER.DOOR 1
  { s with ledger := { latch := [0x01010007] ++ List.replicate 15 0, taken := false } }
def rungTaken : State := { rung with ledger := { rung.ledger with taken := true } }
def replied : State := { rungTaken with melo := { rungTaken.melo with reply := some ([0x00010007], []) } }
def repliedOther : State := { rungTaken with melo := { rungTaken.melo with reply := some ([0x00010008], []) } }

theorem wit_LedgerLinkCarriesCommandsAndTheMirror : rung.Shaped ∧ rungTaken.Shaped ∧ replied.Shaped :=
  ⟨shaped_of_shapedB (by decide +kernel), shaped_of_shapedB (by decide +kernel), shaped_of_shapedB (by decide +kernel)⟩

theorem wit_LedgerLinkCarriesCommandsAndTheMirror_link : rung.melo.running = true ∧ rung.melo.rest = none ∧ rung.answers = true ∧
    rung.bit LEDGER.DOOR 0 = true ∧ rung.ledger.taken = false ∧ rung.melo.cmd = none ∧ rung.melo.reply = none ∧
    bitsOf (nth 0 rung.ledger.latch 0) 31 24 = 1 ∧ meloOps.contains (bitsOf (nth 0 rung.ledger.latch 0) 23 16) = true ∧
    metering.bit LEDGER.DOOR 0 = false ∧ metering.melo.linkLost = false ∧ metering.rst.veto = false ∧ metering.melo.rest = none ∧
    metering.answers = true ∧ ({ metering with rst := { metering.rst with dawn := .held } } : State).answers = false ∧
    live.mustWait .fab LEDGER.base = false ∧ live.bit LEDGER.DOOR 0 = false ∧ rung.mustWait .fab LEDGER.base = false ∧
    rungTaken.bit LEDGER.DOOR 0 = true ∧ rungTaken.ledger.taken = true ∧ rungTaken.mustWait .fab LEDGER.base = false ∧
    replied.melo.reply = some ([0x00010007], []) ∧ replied.answers = true ∧ ([] : List (List Byte)).length ≤ 16 ∧
    bitsOf (nth 0 ([0x00010007] : List Word) 0) 15 0 = bitsOf (nth 0 replied.ledger.latch 0) 15 0 ∧
    bitsOf (nth 0 ([0x00010008] : List Word) 0) 15 0 ≠ bitsOf (nth 0 repliedOther.ledger.latch 0) 15 0 := by
  decide +kernel

/-- Mailboxes that name version 2, and an opcode that is none. -/
theorem wit_LedgerLinkCarriesCommandsAndTheMirror_refuses : bitsOf (0x02010007 : Word) 31 24 ≠ 1 ∧ rung.bit LEDGER.DOOR 0 = true ∧
    meloOps.contains (bitsOf (0x01090007 : Word) 23 16) = false := by
  decide +kernel

/-- Meloskern holds command `l`, its seal open, its key made, inlet 0 declared, time valid; record 0 is held. -/
def ledgerHolds (l : List Word) : State :=
  let s := metering.mwr (MELO.INOM 1) 100
  { s with
    melo := { s.melo with cmd := some l, rest := some false, sealOpen := true, key := some (1, 2), nextSeq := 1, recs := [(0, List.replicate 128 0)] }
    nw := { s.nw with alive := true, timeValid := true } }
/-- The same in commissioning with one parameter staged; and with no key. -/
def ledgerComm (l : List Word) : State :=
  let s := ledgerHolds l
  { s with melo := { s.melo with comm := true, stage := [(0x2044, 1000)] } }
def ledgerKeyless (l : List Word) : State :=
  let s := ledgerComm l
  { s with melo := { s.melo with key := none } }
/-- The same with session 3 open and two heads without a tail. -/
def ledgerSession (l : List Word) : State :=
  let s := ledgerHolds l
  { s with melo := { s.melo with
      sess := [none, none, none, some { id := [], cref := [], topen := 0, delStart := 0, recStart := 0 }], untailed := [4, 9] } }

theorem wit_LedgerCmd : LedgerCmd 0x01 [0x01010000] (ledgerHolds [0x01010000]) ∧ LedgerCmd 0x10 [0x01100000, 0] (ledgerHolds [0x01100000, 0]) ∧
    LedgerCmd 0x11 [0x01110000, 3] (ledgerSession [0x01110000, 3]) ∧ LedgerCmd 0x20 [0x01200000, 0, 16] (ledgerHolds [0x01200000, 0, 16]) ∧
    LedgerCmd 0x21 [0x01210000] (ledgerHolds [0x01210000]) ∧ LedgerCmd 0x30 [0x01300000, 1] (ledgerComm [0x01300000, 1]) ∧
    LedgerCmd 0x40 [0x01400000] (ledgerHolds [0x01400000]) ∧ LedgerCmd 0x41 [0x01410000, 0x2040, 0] (ledgerComm [0x01410000, 0x2040, 0]) ∧
    LedgerCmd 0x42 [0x01420000] (ledgerComm [0x01420000]) ∧ LedgerCmd 0x43 [0x01430000] (ledgerComm [0x01430000]) ∧
    LedgerCmd 0x44 [0x01440000] (ledgerKeyless [0x01440000]) := by
  refine ⟨?_, ?_, ?_, ?_, ?_, ?_, ?_, ?_, ?_, ?_, ?_⟩ <;> simp only [LedgerCmd] <;> decide +kernel

theorem wit_LedgerLinkCarriesCommandsAndTheMirror_commands : (ledgerHolds [0x01100000, 0]).mrd (MELO.INOM (0 + 1)) ≠ 0 ∧
    nth none (ledgerHolds [0x01100000, 0]).melo.sess 0 = none ∧ (ledgerHolds [0x01100000, 0]).melo.comm = false ∧
    (ledgerHolds [0x01100000, 0]).melo.key ≠ none ∧ (ledgerHolds [0x01100000, 0]).nw.timeValid = true ∧
    1024 ≤ (ledgerHolds [0x01100000, 0]).melo.usable ∧ nth none (ledgerSession [0x01110000, 3]).melo.sess 3 ≠ none ∧
    (ledgerSession [0x01110000, 3]).melo.dropI + (ledgerSession [0x01110000, 3]).melo.dropE = 0 ∧ (ledgerHolds [0x01210000]).melo.heldSeq = 0 ∧
    (ledgerHolds [0x01210000]).melo.heldSeq ≤ 0 ∧ 0 < (ledgerHolds [0x01210000]).melo.nextSeq ∧
    (ledgerHolds [0x01210000]).melo.recordOf 0 = some (List.replicate 128 0) ∧ (List.replicate 128 (0 : Byte)).head? ≠ some 1 ∧
    leNat ((List.replicate 128 (0 : Byte)).drop 0x7C) = 0 ∧ (ledgerComm [0x01300000, 1]).melo.comm = true ∧
    (ledgerHolds [0x01100000, 0]).melo.running = true ∧ meloOps.contains (bitsOf (0x01100000 : Word) 23 16) = true ∧
    (ledgerHolds [0x01400000]).melo.sealOpen = true ∧ (ledgerHolds [0x01400000]).melo.sess.all Option.isNone = true := by
  decide +kernel

theorem wit_LedgerLinkCarriesCommandsAndTheMirror_commissioning : rwsOk 0x2040 0 = true ∧
    (ledgerComm [0x01410000, 0x2040, 0]).melo.stage.all (fun e => e.1 != 0x2040) = true ∧
    (ledgerComm [0x01410000, 0x2040, 0]).melo.stage.length < 64 ∧ (ledgerComm [0x01420000]).melo.comm = true ∧
    (ledgerComm [0x01420000]).melo.pubCrc = 0 ∧ (ledgerComm [0x01420000]).melo.sealcnt ≠ 65535 ∧
    (List.range 8).all (ledgerComm [0x01420000]).orderOk = true ∧ (ledgerComm [0x01420000]).melo.stage = [(0x2044, 1000)] ∧
    (ledgerKeyless [0x01440000]).melo.key = none ∧ (ledgerSession []).melo.untailed = [4, 9] ∧ (ledgerSession []).melo.running = true := by
  decide +kernel

theorem wit_LedgerLinkCarriesCommandsAndTheMirror_shapes : (ledgerHolds []).Shaped ∧ (ledgerComm []).Shaped ∧ (ledgerKeyless []).Shaped ∧
    (ledgerSession []).Shaped :=
  ⟨shaped_of_shapedB (by decide +kernel), shaped_of_shapedB (by decide +kernel), shaped_of_shapedB (by decide +kernel),
    shaped_of_shapedB (by decide +kernel)⟩

/-- Nightwatch lives with its loops enabled and one event queued; the boost runs; the running interval ends at second 0. -/
def watching : State :=
  let s := metering.mset MELO.NWCFG 25 24 3
  { s with
    nw := { s.nw with alive := true, timeValid := true, boost := true, rtc := 900 * 65536, queue := [{ code := 0x40, time := 0, valid := true }] } }
/-- The same with Meloskern stopped; with the time invalid; with loop 1 having read open once. -/
def watchingDark : State := { watching with melo := { watching.melo with running := false } }
def watchingLost : State := { watching with nw := { watching.nw with timeValid := false } }
def watchingOpen : State := { watching with nw := { watching.nw with loops := [{}, { cond := 0, last := 1 }], queue := [] } }

theorem wit_NightwatchAndTheSealKeepTheirEvents : watching.Shaped ∧ watchingDark.Shaped ∧ watchingLost.Shaped ∧ watchingOpen.Shaped :=
  ⟨shaped_of_shapedB (by decide +kernel), shaped_of_shapedB (by decide +kernel), shaped_of_shapedB (by decide +kernel),
    shaped_of_shapedB (by decide +kernel)⟩

theorem wit_NightwatchAndTheSealKeepTheirEvents_events : 900 = (if watching.nw.alive then watching.nw.rtc + 0 else watching.nw.rtc) / 65536 ∧
    watching.melo.running = true ∧ watching.melo.ivlEnd ≤ 900 ∧ watching.nw.timeValid = true ∧ watching.melo.dropI + watching.melo.dropE = 0 ∧
    watching.melo.usable ≠ 0 ∧ watchingLost.nw.timeValid = false ∧ watching.melo.sealOpen ≠ true ∧ watching.melo.sealOpen = false ∧
    (ledgerComm []).melo.sealOpen ≠ false ∧ (ledgerComm []).melo.comm = true ∧ live.nw.alive = false ∧ watching.nw.alive = true ∧
    watching.nw.boost = true ∧ live.nw.boost = false ∧ watchingDark.melo.running = false ∧ 60 ≤ watchingDark.gaugeAt 2700 ∧
    watching.mbit MELO.NWCFG 24 = true ∧ watching.mbit MELO.NWCFG 25 = true ∧
    loopKind false false = (nth ({} : Loop) watchingOpen.nw.loops 1).last ∧ loopKind false false ≠ (nth ({} : Loop) watchingOpen.nw.loops 1).cond ∧
    watchingOpen.nw.lost = 0 ∧ watchingOpen.nw.queue.length < 16 ∧ watchingOpen.mbit MELO.NWCFG 25 = true ∧
    loopKind true true ≠ (nth ({} : Loop) watching.nw.loops 0).last ∧ watching.nw.queue = [{ code := 0x40, time := 0, valid := true }] := by
  decide +kernel

/-! ### Chapter 17: the safety unit -/

/-- The safety unit in state `st` with parameter words `ps`. -/
def safe (st : Nat) (ps : List (Nat × Word)) : State :=
  { live with sup := { live.sup with st := st, params := ps.foldl (fun l p => upd l p.1 (fun _ => p.2)) shippedParams } }

/-- PC7 is claimed and enabled, WC0 and WC47 are named, all their lines are at 1; ESTOP's channels disagree. -/
def safeLines : State :=
  let s := safe 3 [(1, 0xC1010000), (56, 0x80810000), (57, 1), (58, 0x01008000)]
  { s with cmp := ((upd s.cmp 55 (fun c => { c with line := true })).set 0 { line := true }).set 47 { line := true } }

theorem wit_StopSourcesReachTheSafetyUnit : (safe 3 []).vetoWanted = false ∧ (safe 3 []).sup.st ≠ 0 ∧ (safe 3 []).sup.st ≠ 6 ∧
    ({ live with rst := { live.rst with hbArmed := true, hbStopped := true } } : State).heartbeat = false ∧ live.heartbeat = true ∧
    live.rst.hbArmed = false ∧ live.rst.dusk = false ∧ safeLines.parB (1 + 0) 31 = true ∧
    (fnDemand (safeLines.par (1 + 0)) safeLines.sup.inSp 0).1 ≠ (fnDemand (safeLines.par (1 + 0)) safeLines.sup.inSp 0).2 ∧
    safeLines.parB (49 + 7) 31 = true ∧ safeLines.parB (49 + 7) 23 = true ∧ safeLines.line (48 + 7) = true ∧ safeLines.wcNamed 0 = true ∧
    safeLines.line 0 = true ∧ safeLines.wcNamed 47 = true ∧ safeLines.line 47 = true ∧ safeLines.curfewDemand.1 = true := by
  decide +kernel

/-- A valid parameter set: ESTOP enabled. -/
def validSet : List Word := (shippedParams.set 1 0x81010000).set 4 0x00010101

/-- In INIT the newer stored copy is valid; a reference check has failed once. -/
def safeInit : State := { live with sup := { live.sup with st := 0, copies := [validSet] } }
def safeRefBad : State := { live with sup := { live.sup with st := 3, refBad := true } }

theorem wit_SafetyProcessorRoundsPressesAndReports : safeRefBad.sup.refBad = true ∧ safeRefBad.sup.st ≠ 0 ∧ safeRefBad.sup.st ≠ 6 ∧
    live.sup.refBad = false ∧ pressOk 300 = true ∧ pressOk 3000 = true ∧ pressOk 299 = false ∧ pressOk 3001 = false ∧
    safeLines.causePersists = true ∧ (safe 2 []).causePersists = false ∧ live.rst.dawn ≠ .held ∧ live.domRun .fab = true ∧
    live.domRun .ps = true ∧ live.rst.veto = false ∧ safeInit.sup.st = 0 ∧ live.rst.stretch ≠ some .powerOn ∧
    live.bit RSUP.SUPSTAT 0 = true ∧ live.bit RSUP.SUPSTAT 1 = true ∧ safeInit.bit RSUP.SUPSTAT 1 = true ∧ live.sup.st = 0 ∧ live.sup.copies = [] ∧
    safeInit.sup.copies = [validSet] ∧ (2 : Nat).testBit 0 = false ∧ paramBad validSet = none ∧ (∃ c ∈ [2027], 20 < 2048 - c) := by
  decide +kernel

/-- Channel 0 has a weld check and closes with Kn_LG on; channel 11 is closed; channel 1 opens; lock 3 moves. -/
def coils : State :=
  let s := safe 5 [(5, 0xC0000000), (7, 0xC0000000), (28, 0x01010100)]
  { s with sup := { s.sup with
      kmir := 1, k := ((s.sup.k.set 0 { st := 1, lg := true }).set 1 { st := 3 }).set 11 { st := 2, dl := true },
      locks := s.sup.locks.set 3 { st := 3, dir := 1 } } }
/-- The same with a test pulse of K11_HG. -/
def coilsTest : State := coils.updK 11 (fun k => { k with test := 2 })

/-- The same with no mirror contact fitted for channel 1. -/
def coilsBlind : State := coils.updSup (fun u => { u with params := upd u.params 7 (fun _ => 0x80000000) })

theorem wit_ContactorsAndLocksFollowTheirChecks : coils.sup.k.length = 12 ∧ (coils.kAt 0).st = 1 ∧ (coils.kAt 0).lg = true ∧ (coils.kAt 0).seen = false ∧
    coils.kMirror 0 = true ∧ coils.mirOpen 0 = true ∧ coils.kMirror 1 = true ∧ (coils.kAt 1).st = 3 ∧ coils.mirOpen 1 = false ∧
    (coils.kAt 11).st = 2 ∧ (coils.kAt 11).test = 0 ∧ codeAtLeast 4095 (coils.parF (6 + 2 * 11) 23 16 * 10) = true ∧
    codeAtLeast 0 (coils.parF (6 + 2 * 11) 23 16 * 10) = false ∧ (coilsTest.kAt 11).test ≠ 0 ∧
    codeAtLeast 0 (coilsTest.parF (6 + 2 * 11) 15 8) = false ∧ codeAtLeast 4095 (coilsTest.parF (6 + 2 * 11) 15 8) = true ∧
    coilsBlind.kMirror 1 = false ∧ (coilsBlind.kAt 1).st = 3 ∧ coilsBlind.mirOpen 1 = false ∧ 1 < coilsBlind.sup.k.length ∧
    (coils.kAt 11).dl = true ∧ coils.sup.st = 5 ∧ coils.sup.locks.length = 4 ∧ (coils.lockAt 3).st = 3 := by
  decide +kernel

/-- VDRV is low: the safety processor demands a stop. -/
def vdrvLow : State := (safe 3 []).wr RSUP.SUPSTAT 0x3FFFB

theorem wit_ContactorsAndLocksFollowTheirChecks_cycle : (safe 0 []).sup.st = 0 ∧ (safe 2 []).sup.st ≠ 6 ∧ vdrvLow.sup.st = 3 ∧
    vdrvLow.sup.duskPend = 0 ∧
    (∃ d ∈ ((vdrvLow.atTime 5).updSup (fun u => { u.rollCodes with kmir := 0xFFF, lkfb := 0, hgRb := 0, lgRb := 0 })).demands, d.stops = true) ∧
    (safe 4 []).sup.st = 4 ∧ (safe 4 []).sup.duskPend = 0 ∧
    (∀ d ∈ (((safe 4 []).atTime 5).updSup (fun u => { u.rollCodes with kmir := 0xFFF, lkfb := 0, hgRb := 0, lgRb := 0 })).demands, d.stops = false) := by
  decide +kernel

theorem wit_ContactorsAndLocksFollowTheirChecks_readback : ∀ s ∈ [vdrvLow, safe 4 []],
    (List.range 12).foldl State.readbackK ((s.atTime 5).updSup (fun u => { u.rollCodes with kmir := 0xFFF, lkfb := 0, hgRb := 0, lgRb := 0 })) =
      (s.atTime 5).updSup (fun u => { u.rollCodes with kmir := 0xFFF, lkfb := 0, hgRb := 0, lgRb := 0 }) := by
  decide +kernel

/-- The safety processor, in state `st`, holds command `cmd` with argument `arg`; channel 0 and lock 3 are enabled; `cand` is open. -/
def smbx (st : Nat) (cmd arg : Word) (cand : Option (List Word)) : State :=
  let s := (safe st [(5, 0x80000000), (32, 0x80400401)]).setBit (SMBX.base + 0x10) 8 true
  { s with sup := { s.sup with latch := (cmd, arg), taken := true, cand := cand, checked := true, pcand := 7, present := true } }
def smbxClosed : State := (smbx 3 0x21000001 0 none).updK 0 (fun k => { k with st := 2 })

theorem wit_SmbxTaken : SmbxTaken 0x10 (smbx 2 0x10000000 0 none) ∧ SmbxTaken 0x11 (smbx 3 0x11000000 0 none) ∧
    SmbxTaken 0x20 (smbx 3 0x20000001 0 none) ∧ SmbxTaken 0x21 smbxClosed ∧ SmbxTaken 0x30 (smbx 2 0x30000003 0 none) ∧
    SmbxTaken 0x31 (smbx 2 0x31000003 0 none) ∧ SmbxTaken 0x40 (smbx 1 0x40000000 0 none) ∧ SmbxTaken 0x41 (smbx 1 0x4100004E 0 (some validSet)) ∧
    SmbxTaken 0x42 (smbx 1 0x42000000 0 (some validSet)) ∧ SmbxTaken 0x43 (smbx 1 0x43000000 7 (some validSet)) ∧
    SmbxTaken 0x44 (smbx 1 0x44000000 0 (some validSet)) ∧ SmbxTaken 0x50 (smbx 1 0x5000004F 0 none) := by
  refine ⟨?_, ?_, ?_, ?_, ?_, ?_, ?_, ?_, ?_, ?_, ?_, ?_⟩ <;> simp only [SmbxTaken] <;> decide +kernel

theorem wit_SafetyMailboxCommandsAnswerAndAct : (smbx 2 0x10000000 0 none).sup.cand = none ∧ (smbx 2 0x10000000 0 none).sup.dem % 2 ^ 25 = 0 ∧
    (smbx 2 0x10000000 0 none).curfewDemand.1 = false ∧ (smbx 2 0x10000000 0 none).allOpen = true ∧ (smbx 2 0x10000000 0 none).heartbeat = true ∧
    (smbx 2 0x10000000 0 none).rst.clockFail = false ∧ bitsOf (smbx 3 0x20000001 0 none).sup.latch.1 15 0 = 1 ∧
    (smbx 3 0x20000001 0 none).badMask 1 = false ∧ (smbx 3 0x20000001 0 none).closeJudge 0 = 0 ∧ maskChans 1 = [0] ∧
    ((smbx 3 0x20000001 0 none).kAt 0).st = 0 ∧ smbxClosed.badMask 1 = false ∧ (smbxClosed.kAt 0).st = 2 := by
  decide +kernel

theorem wit_SafetyMailboxCommandsAnswerAndAct_locks : bitsOf (smbx 2 0x30000003 0 none).sup.latch.1 15 0 = 3 ∧
    (smbx 2 0x30000003 0 none).parB (29 + 3) 31 = true ∧ (smbx 2 0x30000003 0 none).vlockGood = true ∧
    ((smbx 2 0x30000003 0 none).lockAt 3).st ≠ 3 ∧ (smbx 2 0x31000003 0 none).portHeld 3 = false ∧ (smbx 2 0x31000003 0 none).portClosed 3 = false ∧
    bitsOf (smbx 1 0x4100004E 0 (some validSet)).sup.latch.1 15 0 = 78 ∧ (smbx 1 0x43000000 7 (some validSet)).sup.checked = true ∧
    (smbx 1 0x43000000 7 (some validSet)).sup.latch.2 = (smbx 1 0x43000000 7 (some validSet)).sup.pcand ∧
    (smbx 1 0x43000000 7 (some validSet)).sup.present = true ∧ bitsOf (smbx 1 0x5000004F 0 none).sup.latch.1 15 0 = 79 := by
  decide +kernel

/-- Connection 0 is enabled both ways and UP, expecting SEQ 5; frame `bs` waits. -/
def relayed (bs : List Byte) : State :=
  let s := safe 2 [(59, 1), (60, 0xC000000A)]
  { s with sup := { s.sup with rx := some (0, bs), conns := s.sup.conns.set 0 { up := true, exp := some 5, last := 4 } } }
/-- A frame with SEQ 5 in form. -/
def frame5 : List Byte := [1, 0, 0, 5, 0, 10] ++ beBytes 4 0x3493a9e6

theorem wit_SafetyFramesAreCheckedAndSent : live.mustWait .ps SMBX.base = false ∧ live.sup.rx = none ∧ (relayed []).mustWait .ps SMBX.base = false ∧
    (relayed []).sup.rx = some (0, []) ∧ (relayed []).parB (60 + 2 * 0) 31 = true ∧ (relayed []).frameOk 0 [] = false ∧
    (relayed []).sup.conns.length = 4 ∧ (relayed []).parB (60 + 2 * 0) 30 = true ∧ (relayed []).sup.st ≠ 0 := by
  decide +kernel

theorem wit_SafetyFramesAreCheckedAndSent_frame : (relayed frame5).frameOk 0 frame5 = true := by
  decide +kernel

theorem wit_SafetyFramesAreCheckedAndSent_seq : (nth {} (relayed frame5).sup.conns 0).up = true ∧
    (nth {} (relayed frame5).sup.conns 0).exp = some (beNat ((frame5.drop 2).take 2)) ∧
    (nth {} (relayed frame5).sup.conns 0).exp ≠ some 6 ∧ (nth {} (relayed frame5).sup.conns 0).last ≠ 6 := by
  decide +kernel

/-! ### Chapters 18 and 19: self-test and the Oxernal link -/

/-- The self-test controller runs with every job on and its log; rotations are on, a spare of each pool released. -/
def health : State :=
  let s := ((((liveOn [HEALTH.base, CV.base 0, WCMP.base]).wr HEALTH.ENABLES 0x1F).wr TELC.ROTCFG 0x80000000).wr ADCC.ROTCFG 0x80000000).wr
    HEALTH.LOGBASE 0x20000001
  let s1 := ((s.wr (HEALTH.CMPSEL 0) 1).wr (cmpCfgAddr 0) 0x80000000).updCmp 0 (fun c => { c with cfg := 0x80000000 })
  { s1 with
    tel := { s1.tel with released := [15], freed := [14] }, conv := { s1.conv with released := [25], freed := [24] },
    health := { s1.health with chk1 := { s1.health.chk1 with freed := [8], parallel := false } } }

/-- Slice `x` runs. -/
def slicing (x : Slice) : State := { health with health := { health.health with slice := some x } }

theorem wit_SelfTestSlicesRunPassAndRetire : health.mustWait .fab HEALTH.base = false ∧ health.en HEALTH.base = true ∧
    health.domRun .fab = true ∧ health.telDue 5 = true ∧ health.convDue 5 = true ∧
    health.bit HEALTH.ENABLES 0 = true ∧ health.bit HEALTH.ENABLES 1 = true ∧ health.bit TELC.ROTCFG 31 = true ∧
    health.fld TELC.ROTSTAT 31 30 = 0 ∧ health.bit ADCC.ROTCFG 31 = true ∧ health.fld ADCC.ROTSTAT 31 30 = 0 ∧
    health.telChoice = some (0, 15) ∧ health.convChoice = some (25, 0) ∧ live.en HEALTH.base = false ∧ health.health.slice = none ∧
    health.waitsForTest 0 14 = true ∧ health.waitsForTest 1 24 = true ∧ health.waitsForTest 2 17 = true := by
  decide +kernel

theorem wit_SelfTestSlicesRunPassAndRetire_slices : (slicing { kind := 1, target := 24, late := true }).health.slice =
      some { kind := 1, target := 24, late := true } ∧ (slicing { kind := 1, target := 24 }).waitsForTest 1 24 = true ∧
    (slicing { kind := 1, target := 24 }).badPoint [] = none ∧ (slicing { kind := 2, target := 17 }).waitsForTest 2 17 = true ∧
    (slicing { kind := 0, target := 14 }).waitsForTest 0 14 = true ∧
    (∀ p, p < 14 → (slicing { kind := 0, target := 14 }).bit TELC.CAPSTAT (16 + (slicing { kind := 0, target := 14 }).unitOf p) = false ∧
      14 ∉ ((slicing { kind := 0, target := 14 }).tpos p).mism ∧ ((slicing { kind := 0, target := 14 }).tpos p).takeover ≠ some 14) ∧
    (slicing { kind := 1, target := 24, again := true }).health.slice = some { kind := 1, target := 24, again := true } ∧
    (slicing { kind := 1, target := 24 }).bit HEALTH.LOGBASE 0 = true ∧ (slicing { kind := 1, target := 24 }).takeCoin 96 ≠ none ∧
    (∀ q ∈ (slicing { kind := 1, target := 24 }).fab.stalled, q.init ≠ 96) := by
  decide +kernel

/-- Second attempts of a unit's, a converter's and a memory's slices; and a unit's that is late. -/
theorem wit_SelfTestSlicesRunPassAndRetire_again : ∀ x ∈ [({ kind := 0, target := 14, again := true } : Slice),
      { kind := 1, target := 24, again := true }, { kind := 2, target := 17, again := true }],
    (slicing x).health.slice = some x ∧ (slicing x).domRun .fab = true ∧ (slicing x).waitsForTest x.kind x.target = true := by
  decide +kernel

/-- A check slice of WC0 whose check has ended, passed or failed; clerk 0's spare checks in parallel; the scrub is at its end. -/
def cmpSlice : State := slicing { kind := 3, target := 0 }
def cmpSliceFailed : State := cmpSlice.setBit (WCMP.base + 0x5C) 30 true
def parallel : State := { health with health := { health.health with chk0 := { health.health.chk0 with parallel := true } } }
def scrubAt (m w : Nat) : State := { health with health := { health.health with scrubMem := m, scrubWord := w } }

theorem wit_ChecksOfComparatorsClerksAndMemoryGoOn : health.cmp.length = 56 ∧ health.nextCmp = some 0 ∧ health.domRun .fab = true ∧
    pastDue health.health.cmpTime health.cmpGap 0 = true ∧ pastDue (nth none health.health.chkTime 0) health.clkGap 0 = true ∧
    pastDue (some 7) health.clkGap 8 = false ∧ cmpSlice.domRun .fab = true ∧ cmpSlice.health.slice = some { kind := 3, target := 0 } ∧
    parallel.domRun .fab = true ∧ health.en HEALTH.base = true ∧
    health.bit HEALTH.ENABLES 3 = true ∧ health.health.slice = none ∧ health.mustWait .ps (cmpPage 0) = false ∧
    health.bit (cmpPage 0 + 0x5C) 31 = false ∧ cmpSlice.bit (cmpPage 0 + 0x5C) 31 = false ∧ cmpSlice.bit (cmpPage 0 + 0x5C) 30 = false ∧
    cmpSliceFailed.bit (cmpPage 0 + 0x5C) 31 = false ∧ cmpSliceFailed.bit (cmpPage 0 + 0x5C) 30 = true ∧
    health.bit HEALTH.ENABLES 2 = true ∧ (health.checker 0).spare = some 8 ∧ (health.checker 0).parallel = false ∧
    health.rst.coreMask.testBit 0 = false ∧ (parallel.checker 0).parallel = true ∧ (parallel.checker 0).spare = some 8 ∧
    (parallel.checker 0).serving.head? = some (0, 0) ∧ parallel.rst.coreMask.testBit 0 = false := by
  decide +kernel

theorem wit_ChecksOfComparatorsClerksAndMemoryGoOn_scrub : health.bit HEALTH.ENABLES 4 = true ∧ health.health.bad = [] ∧ health.scrubDue 0 = true ∧ health.coinStall 97 = false ∧
    16 * ((scrubAt 0 0).health.scrubWord + 1) < (memRange (scrubAt 0 0).health.scrubMem).2 ∧
    (memRange (scrubAt 0x44 0xFFF).health.scrubMem).2 ≤ 16 * ((scrubAt 0x44 0xFFF).health.scrubWord + 1) ∧
    (memRange (scrubAt 0x45 0xFFF).health.scrubMem).2 ≤ 16 * ((scrubAt 0x45 0xFFF).health.scrubWord + 1) ∧
    (live.wr HEALTH.ENABLES 0).bit HEALTH.ENABLES 4 = false ∧ health.bit HEALTH.MEMERR 31 = false ∧ (health.setBit HEALTH.MEMERR 31 true).bit HEALTH.MEMERR 31 = true := by
  decide +kernel

/-- Lane 7 is enabled and in state `st`, its selected version `v`, a satellite command outstanding with TAG 7. -/
def lane (st v : Nat) : State :=
  ((liveOn [OX.base 7]).wr (OX.STAT 7) (Word.ofNat (st * 256))).updLane 7 (fun x => { x with sel := v, tag := 7 })
def laneCmd : State := (lane 4 1).updLane 7 (fun x => { x with cmd := some (1, 0, 0) })
/-- Lane 7 has seen `offerOf 3` twice; it has seen three code errors; it has seen report 9. -/
def offerOf (v : Byte) : List Byte := withCrc16 [1, v, 0, 1, 0, 2, 0, 3]
def laneOffered (v : Byte) : State := (lane 2 0).updLane 7 (fun x => { x with offer := offerOf v, same := 2 })
def laneErrs : State := (lane 4 1).updLane 7 (fun x => { x with errs := [1, 2, 64], rxSeq := some 9 })
/-- A version-1 report with SEQ 9 that carries the reply of TAG 7. -/
def report9 : List Byte := withCrc16 ([0x10, 9, 8, 0, 7, 0, 0, 1] ++ List.replicate 32 0)
def report2 : List Byte := withCrc16 ([0x20, 9, 0, 0, 0, 0, 0, 0] ++ List.replicate 36 0)

/-- No lane hears anything while CLK_OX stands; a timer whose time has passed; 16 slots went by without a reply. -/
def lane16 : State := laneCmd.updLane 7 (fun x => { x with slots := 16 })
/-- A frame's ten-bit symbols as a satellite sends them. -/
def symbols (bs : List Byte) : List Symbol := (frameSymbols false bs).1

theorem wit_OxernalLanesTrainRunAndLoseTheLink : (lane 0 0).Shaped ∧ (laneOffered 3).Shaped ∧ laneErrs.Shaped ∧ laneCmd.Shaped :=
  ⟨shaped_of_shapedB (by decide +kernel), shaped_of_shapedB (by decide +kernel), shaped_of_shapedB (by decide +kernel),
    shaped_of_shapedB (by decide +kernel)⟩

theorem wit_OxernalLanesTrainRunAndLoseTheLink_states : live.mustWait .ox (OX.base 7) = false ∧ live.oxState 7 = 0 ∧
    (lane 4 1).mustWait .ox (OX.base 7) = false ∧ (lane 4 1).oxState 7 = 4 ∧ (lane 5 0).oxState 7 = 5 ∧ (lane 5 0).bit (OX.CFG 7) 31 = true ∧
    ((lane 5 0).wr (OX.CFG 7) 0).bit (OX.CFG 7) 31 = false ∧ (lane 6 0).oxState 7 = 6 ∧ (lane 1 0).oxState 7 = 1 ∧ (lane 1 0).domRun .ox = true ∧
    (lane 2 0).oxListens 7 = true ∧ (lane 4 1).oxListens 7 = true ∧ (lane 5 0).oxListens 7 = false ∧ (lane 3 1).oxListens 7 = true ∧
    (laneOffered 3).oxOffer 7 &&& byteAt (offerOf 3) 1 % 4 ≠ 0 ∧ (laneOffered 0).oxOffer 7 &&& byteAt (offerOf 0) 1 % 4 = 0 ∧
    (laneOffered 3).oxState 7 = 2 ∧ ((laneOffered 3).lane 7).offer = offerOf 3 ∧ 0 < ((laneOffered 3).lane 7).same ∧
    (laneErrs.lane 7).errs.filter (fun e => decide (64 < e + 64)) ++ [64] = [1, 2, 64, 64] ∧
    ((lane 4 1).lane 7).errs = [] ∧
    (lane 4 1).domRun .pwm = true ∧ ((lane 4 1).lane 7).timer + 32000 * max ((lane 4 1).fld (OX.CFG 7) 23 16) 2 ≤ 100000000 ∧
    ((lane 1 0).lane 7).timer + 160000 * max ((lane 1 0).fld (OX.CFG 7) 7 0) 1 ≤ 100000000 ∧
    ((lane 5 0).lane 7).timer + 160000 * max ((lane 5 0).fld (OX.CFG 7) 15 8) 2 ≤ 100000000 ∧ 0 < ((lane 1 0).lane 7).timer + 160000 := by
  decide +kernel

theorem wit_OxernalFrames : (byteAt (offerOf 3) 0 = 0x01 ∧ (offerOf 3).length = 10 ∧ crc16Ok (offerOf 3) = true) ∧
    (byteAt (withCrc16 [2, 1]) 0 = 0x02 ∧ (withCrc16 [2, 1]).length = 4 ∧ crc16Ok (withCrc16 [2, 1]) = true ∧
      byteAt (withCrc16 [2, 1]) 1 = ((lane 3 1).lane 7).sel) ∧
    (byteAt report9 0 = 0x10 ∧ report9.length = 42 ∧ crc16Ok report9 = true) ∧ (byteAt report2 0 = 0x20 ∧ report2.length = 46 ∧ crc16Ok report2 = true) := by
  decide +kernel

theorem wit_OxernalFrames_symbols : acceptFrame 0x01 10 (symbols (offerOf 3)) = some (offerOf 3) ∧ acceptFrame 0x01 10 [] = none ∧
    acceptFrame 0x02 4 (symbols (withCrc16 [2, 1])) = some (withCrc16 [2, 1]) ∧ laneCmd.oxAccepts 7 (symbols report9) = some report9 ∧
    laneErrs.oxAccepts 7 (symbols report9) = some report9 ∧ laneErrs.oxListens 7 = true ∧ laneErrs.oxState 7 = 4 ∧
    (lane 4 2).oxAccepts 7 (symbols report2) = some report2 ∧ laneCmd.oxAccepts 7 (symbols report2) = none ∧ 16 ≤ (lane16.lane 7).slots ∧
    (lane16.lane 7).cmd ≠ none ∧ (laneCmd.lane 7).slots < 16 := by
  decide +kernel

theorem wit_OxernalReportsAndSatelliteCommandsPass : laneCmd.oxListens 7 = true ∧ laneCmd.oxState 7 = 4 ∧ (laneCmd.lane 7).sel ≠ 2 ∧
    (laneCmd.lane 7).rxSeq ≠ some (byteAt report9 1) ∧ (byteAt report9 2).testBit 3 = true ∧ (laneCmd.lane 7).cmd ≠ none ∧
    byteAt report9 4 = (laneCmd.lane 7).tag ∧ (laneErrs.lane 7).rxSeq = some (byteAt report9 1) := by
  decide +kernel

theorem wit_OxernalReportsAndSatelliteCommandsPass_commands : ((lane 4 2).lane 7).sel = 2 ∧ (byteAt report2 2).testBit 3 = false ∧ (lane 4 2).mustWait .ox (OX.base 7) = false ∧ (lane 4 2).ver (OX.base 7) = 2 ∧
    (lane 4 2).bit (OX.SACMD 7) 30 = false ∧ (lane 4 2).oxState 7 = 4 ∧ (lane 3 1).oxState 7 ≠ 4 ∧ ((lane 4 2).lane 7).cmd = none ∧
    supplyOf (be16 report9 8) < (lane 4 1).fld (GATE.UVCFG ((6 * 7 + 0) / 4)) 9 0 := by
  decide +kernel

/-! ### Chapter 20: host and vehicle interfaces -/

/-- 64 bytes that end with their check sequence, addressed to 02:00:00:00:00:01. -/
def withFcs (bs : List Byte) : List Byte := bs ++ leBytes 4 (crc32eth bs)
def frame64 : List Byte := withFcs ([2, 0, 0, 0, 0, 1] ++ List.replicate 54 0)
def pause64 : List Byte := withFcs ([1, 0x80, 0xC2, 0, 0, 1, 0, 0, 0, 0, 0, 0, 0x88, 8, 0, 1] ++ List.replicate 44 0)

/-- MAC 1 receives and sends with MACCFG `c`; both its rings have four descriptors, the first one filled by firmware. -/
def macWith (c : Nat) : State :=
  let s := (((liveOn [ETH.base 1, ETH.base 0]).wr (ETH.MACCFG 1) (Word.ofNat c)).wr (ETH.RXBUFSZ 1) 0x80)
  let r := ((s.wr (ETH.RXRING 1) 0x20001000).wr (ETH.RXRING 1 + 4) 4).wr (ETH.RXRING 1 + 12) 3
  let t := ((r.wr (ETH.TXRING 1) 0x20001100).wr (ETH.TXRING 1 + 4) 4).wr (ETH.TXRING 1 + 12) 3
  (((t.setMemWord 0x20001000 0x20002000).setMemWord 0x20001004 0x80000000).setMemWord 0x20001100 0x20003000).setMemWord 0x20001104 0xA0000040
def mac1 : State := macWith 0xE40005EE
def macFilters : State := macWith 0xC00005EE
def macFull : State := mac1.updMac 1 (fun x => { x with rxq := [{ bytes := List.replicate 16380 0 }] })
def macNoRing : State := (mac1.wr (ETH.TXRING 1 + 12) 0).wr PTP.PPSCFG 0x80000000
def macStamp : State := mac1.updMac 1 (fun x => { x with fifo := [{ tx := true, seq := 1, sec := 2, ns := 3 }] })

/-- All reserve coins and its own are in use by initiator 82; a PAUSE is in force; PWM pulse of PPS_OUT high since 5. -/
def noCoins (s : State) (init : Nat) : State :=
  { s with fab := { slips := (List.range 600).map (fun c => { coin := c, init := init, addr := 0x20000000, write := true }) } }
def macPaused : State := mac1.updMac 1 (fun x => { x with pausedTo := 100000000 })

theorem wit_EthernetMovesFramesAndKeepsTheTime : mac1.Shaped ∧ macFilters.Shaped ∧ macFull.Shaped ∧ macNoRing.Shaped ∧ macStamp.Shaped :=
  ⟨shaped_of_shapedB (by decide +kernel), shaped_of_shapedB (by decide +kernel), shaped_of_shapedB (by decide +kernel),
    shaped_of_shapedB (by decide +kernel), shaped_of_shapedB (by decide +kernel)⟩

theorem wit_EthernetMovesFramesAndKeepsTheTime_frames : mac1.en (ETH.base 1) = true ∧ mac1.bit (ETH.MACCFG 1) 30 = true ∧
    mac1.bit (ETH.MACCFG 1) 31 = true ∧ mac1.domRun .eth = true ∧ mac1.fld (ETH.MACCFG 1) 13 0 < 1519 ∧ frame64.length = 64 ∧
    frame64.length ≤ mac1.fld (ETH.MACCFG 1) 13 0 ∧ frame64.length ≤ mac1.ethMax 1 ∧ 9022 < 9023 ∧ fcsOk frame64 = true ∧ fcsOk (frame64.take 63 ++ [0]) = false ∧ fcsOk pause64 = true ∧
    isPause pause64 = true ∧ mac1.bit (ETH.MACCFG 1) 26 = true ∧ isPause frame64 = false ∧ macFilters.ethPasses 1 frame64 = false ∧
    macFilters.bit (ETH.MACCFG 1) 30 = true ∧ macFilters.en (ETH.base 1) = true := by
  decide +kernel

theorem wit_EthernetMovesFramesAndKeepsTheTime_stored : mac1.ethPasses 1 frame64 = true ∧ tb (mac1.shown (ETH.SECCFG 1)) 31 = false ∧
    mac1.bit (ETH.MACCFG 1) 27 = false ∧ 0 + frame64.length ≤ 16384 ∧
    16384 < ((macFull.mac 1).rxq.map (fun x => x.bytes.length)).foldl (· + ·) 0 + (frame64.length - 4) ∧ (mac1.mac 1).fifo.length < 16 ∧
    mac1.descAddr (ETH.RXRING 1) (mac1.fld (ETH.RXRING 1 + 8) 11 0) = 0x20001000 ∧ (mac1.memWord 0x20001000).toNat = 0x20002000 ∧
    mac1.coinStall (81 + 1) = false ∧ (noCoins mac1 82).coinStall (81 + 1) = true ∧
    (0x20002000 + frame64.length ≤ 0x20001000 ∨ 0x20001000 + 16 ≤ 0x20002000) ∧ (mac1.mac 1).rxq = [] ∧ frame64.length ≤ max (mac1.fld (ETH.RXBUFSZ 1) 13 0) 64 ∧ mac1.ringReady (ETH.RXRING 1) 1 = true ∧
    mac1.dmaOk 0x20002000 frame64.length = true := by
  decide +kernel

theorem wit_EthernetMovesFramesAndKeepsTheTime_sent : macNoRing.txCount 1 = none ∧ mac1.txCount 1 = some 1 ∧
    mac1.descAddr (ETH.TXRING 1) (mac1.ringAt (ETH.TXRING 1) 0) = 0x20001100 ∧
    mac1.dmaOk (mac1.memWord 0x20001100).toNat (bitsOf (mac1.memWord 0x20001104) 13 0) = true ∧ mac1.mustWait .eth (ETH.base 1) = false ∧
    tb (0x40000000 : Word) 31 = false ∧ tb (0xC0000000 : Word) 31 = true ∧ macNoRing.bit PTP.PPSCFG 31 = true ∧
    max macPaused.now 5 < (macPaused.mac 1).pausedTo ∧ (mac1.mac 1).pausedTo ≤ max mac1.now 5 ∧ macNoRing.domRun .eth = true ∧
    nearSecond (ptpNs (macNoRing.atTime 0).ptpNow) = true ∧ nearSecond (ptpNs (macNoRing.atTime 160000).ptpNow) = false ∧
    macNoRing.ptp.rise + 16000000 * max (macNoRing.fld PTP.PPSCFG 7 0) 1 ≤ 100000000 ∧ (macStamp.mac 1).fifo ≠ [] ∧ macStamp.mustWait .eth (ETH.base 1) = false := by
  decide +kernel

/-- CAN controller 2 is on; filter 0 sends standard identifiers to buffer 5, which receives, new already; buffer 9 sends. -/
def can2 : State :=
  let s := (((((liveOn [CAN.base 2]).wr (CAN.MODE 2) 0).wr (CAN.MBBASE 2) 0x20004000).wr (CAN.SFILT 2 0) 0x8A000000).wr (CAN.MBCTL 2 5) 0x50000000)
  s.wr (CAN.MBCTL 2 9) 0xA0000000
def canIde : CanFrame := { canZero with ide := true }
def canFd : CanFrame := { canZero with fdf := true }
def canOff : State := (can2.wr (CAN.ERRSTAT 2) 0xC0000000).updCan 2 (fun x => { x with recovering := true })

/-- No coin is left to the controllers; the bus loops; controller 1 holds a frame for its message memory. -/
def canStall : State := noCoins can2 83
def canLoop : State := can2.setBit (CAN.MODE 2) 4 true
def canHeld : State := can2.updCan 1 (fun x => { x with held := [(canZero, 5)] })

theorem wit_CanControllersSendReceiveAndRecover : can2.Shaped ∧ canOff.Shaped :=
  ⟨shaped_of_shapedB (by decide +kernel), shaped_of_shapedB (by decide +kernel)⟩

theorem wit_CanControllersSendReceiveAndRecover_states : can2.canOn 2 = true ∧ canZero.fdf = false ∧ can2.canMatch 2 canZero = some 5 ∧
    can2.fld (CAN.MBCTL 2 5) 31 30 = 1 ∧ can2.mbOk 2 5 = true ∧ can2.bit (CAN.MBCTL 2 5) 28 = true ∧
    can2.canMatch 2 canIde = none ∧ (∀ j, j < 4 → (can2.canCtl j).held = []) ∧ can2.coinStall 83 = false ∧ canStall.coinStall 83 = true ∧
    canStall.canOn 2 = true ∧ canStall.bit (CAN.MODE 2) 4 = false ∧ canLoop.bit (CAN.MODE 2) 4 = true ∧
    (canHeld.canCtl 1).held = [(canZero, 5)] ∧ (noCoins canLoop 83).coinStall 83 = true ∧ canOff.en (CAN.base 2) = true ∧
    canOff.domRun .can = true ∧ canOff.bit (CAN.MODE 2) 0 = false ∧ canFd.fdf = true ∧ can2.bit (CAN.MODE 2) 1 = false ∧
    can2.fld (CAN.ERRSTAT 2) 31 30 ≠ canErrState 96 0 ∧ canOff.canOn 2 = false ∧ can2.mustWait .can (CAN.base 2) = false ∧
    can2.bit (CAN.MODE 2) 3 = false ∧ can2.bit (CAN.MODE 2) 4 = false ∧ can2.fld (CAN.MBCTL 2 9) 31 30 = 2 ∧
    can2.bit (CAN.MBCTL 2 9) 29 = true ∧ can2.mbOk 2 9 = true ∧ canOff.mustWait .can (CAN.base 2) = false ∧
    canOff.fld (CAN.ERRSTAT 2) 31 30 = 3 ∧ (canOff.canCtl 2).recovering = true := by
  decide +kernel

/-- An indirect command, a polling one with a limit, runs; LPDDR4X is being initialised, or is with its retraining on. -/
def flashRuns : State := (((liveOn [XSPI.base]).wr XSPI.ICMD 0x44000000).wr (XSPI.base + 0x58) 4)
def flashCmd : State := { flashRuns with xspi := some 0 }
def flashPoll : State := ({ flashRuns with xspi := some 0 } : State).wr XSPI.ICMD 0x41000000 |>.wr XSPI.POLLTMO 100
def ddrInits : State := { (liveOn [DDRC.base, DDRPHY.base]).wr DDRPHY.INITSTAT 0x01000000 with ddrGo := true }
def ddrRuns : State := ((liveOn [DDRC.base, DDRPHY.base]).wr DDRPHY.INITSTAT 0x80000000).wr (DDRPHY.base + 0x70) 0x80000000

theorem wit_FlashMemoryAndPinsFollowTheirCommands : live.mustWait .xspi XSPI.base = false ∧ live.xspi = none ∧
    flashCmd.mustWait .xspi XSPI.base = false ∧ flashCmd.xspi ≠ none ∧ flashCmd.bit XSPI.ICMD 26 = true ∧ flashCmd.bit XSPI.ICMD 25 = false ∧
    0 < min (flashCmd.fld XSPI.ILEN 8 0) 256 ∧ flashCmd.xspi = some 0 ∧ flashCmd.pollOver 0 = true ∧ flashCmd.domRun .xspi = true ∧
    ((0 : Nat) % 256 &&& (flashPoll.wr XSPI.POLLCFG 0x00FF0100).fld XSPI.POLLCFG 23 16) ≠ (flashPoll.wr XSPI.POLLCFG 0x00FF0100).fld XSPI.POLLCFG 15 8 ∧
    flashPoll.domRun .xspi = true ∧ ddrInits.domRun .fab = true ∧ fabStopped.domRun .fab = false ∧ fabStopped.domRun .xspi = false ∧
    flashPoll.xspi ≠ none ∧ flashPoll.bit XSPI.ICMD 24 = true ∧ flashPoll.rd XSPI.POLLTMO ≠ 0 ∧
    live.mustWait .fab DDRPHY.base = false ∧ ddrInits.ddrGo = true ∧ ddrInits.fld DDRPHY.INITSTAT 31 30 = 0 ∧
    ddrRuns.bit (DDRPHY.base + 0x70) 31 = true ∧ ddrRuns.bit DDRPHY.INITSTAT 31 = true ∧ ddrRuns.domRun .ddr = true ∧
    live.mustWait .fab GPIO.base = false ∧ live.bit GPIO.IN 31 ≠ true := by
  decide +kernel

/-- Ball D3 of the gate bank in three states: its bank lost, its bank good with nothing taken, its block having taken it. -/
theorem wit_FlashMemoryAndPinsFollowTheirCommands_balls : ∃ b, ballRun 3 3 = some b ∧
    (live.wr RSUP.SUPSTAT 0).bankGood b.bank = false ∧ live.bankGood b.bank = true ∧ live.balls.taken = [] ∧ live.balls.gpioTaken = false ∧
    live.balls.xspiReset = false ∧ ({ live with rst := { live.rst with veto := true } } : State).rst.veto = true ∧ b.page ≠ GPIO.base ∧
    ({ live with balls := { live.balls with taken := [b.owner 3] } } : State).balls.taken.contains (b.owner 3) = true := by
  exact ⟨_, rfl, by decide +kernel⟩

/-- UART 1 and SPI 0 hold `k` entries in each FIFO. -/
def serial (k : Nat) : State :=
  ((liveOn [UART.base 1, SPI.base 0]).updUart 1 (fun x => { x with tx := List.replicate k 0x55, rx := List.replicate k 0x80000055 })).updSpi 0
    (fun x => { x with tx := List.replicate k 0x55, rx := List.replicate k 0x55 })

theorem wit_SerialPortsQueueAndShift : (serial 1).Shaped ∧ (serial 31).Shaped ∧ (serial 32).Shaped :=
  ⟨shaped_of_shapedB (by decide +kernel), shaped_of_shapedB (by decide +kernel), shaped_of_shapedB (by decide +kernel)⟩

theorem wit_SerialPortsQueueAndShift_states : (serial 31).mustWait .fab (UART.base 1) = false ∧ ((serial 31).uartAt 1).tx.length < 32 ∧
    (serial 32).mustWait .fab (UART.base 1) = false ∧ 32 ≤ ((serial 32).uartAt 1).tx.length ∧ (serial 1).mustWait .fab (UART.base 1) = false ∧
    ((serial 1).uartAt 1).rx = (0x80000055 : Word) :: [] ∧ (serial 31).domRun .fab = true ∧ live.en (UART.base 1) = false ∧ live.en (SPI.base 0) = false ∧
    (serial 31).en (UART.base 1) = true ∧ ((serial 31).uartAt 1).rx.length < 32 ∧
    (serial 32).en (UART.base 1) = true ∧ 32 ≤ ((serial 32).uartAt 1).rx.length ∧ ((serial 1).uartAt 1).tx = 0x55 :: [] ∧
    (serial 1).en (UART.base 1) = true ∧ (serial 31).mustWait .fab (SPI.base 0) = false ∧ ((serial 31).spiAt 0).tx.length < 32 ∧
    (serial 32).mustWait .fab (SPI.base 0) = false ∧ 32 ≤ ((serial 32).spiAt 0).tx.length ∧ (serial 1).en (SPI.base 0) = true ∧
    ((serial 1).spiAt 0).tx = 0x55 :: [] ∧ ((serial 1).spiAt 0).rx = (0x55 : Word) :: [] ∧ ((serial 1).spiAt 0).rx.length < 32 ∧
    32 ≤ ((serial 32).spiAt 0).rx.length ∧ (serial 32).en (SPI.base 0) = true ∧ ((serial 32).spiAt 0).tx ≠ [] ∧
    (serial 1).mustWait .fab (SPI.base 0) = false := by
  decide +kernel

/-- Pilot unit 1 runs: its measured high voltage lies in no threshold, so its raw state is INVALID; every state trips. -/
def pilot1 : State :=
  ((((live.wr (CP.STAT 1) 1).wr (CP.VHIGH 1) 20000).wr (CP.ACTCFG 1) 0xFF000FFF).wr (CP.MEASCFG 1) 0x10A).updCp 1
    (fun x => { x with duty := 999, writes := [3, 7] })
/-- The same with a high voltage that lies in threshold 0. -/
def pilotA : State := pilot1.wr (CP.THR 1 0) (Word.ofNat (21000 * 65536 + 4000))
def pilotDeb : State := pilot1.wr (CP.MEASCFG 1) 0x30A

theorem wit_PilotsMeasureAndTheRecorderTakesRows : pilot1.Shaped ∧ pilotA.Shaped ∧ pilotDeb.Shaped :=
  ⟨shaped_of_shapedB (by decide +kernel), shaped_of_shapedB (by decide +kernel), shaped_of_shapedB (by decide +kernel)⟩

theorem wit_PilotsMeasureAndTheRecorderTakesRows_pilots : pilot1.bit (CP.STAT 1) 0 = true ∧ pilot1.domRun .fab = true ∧
    (pilot1.cpMeasure 1 [] []).cpDiode 1 = false ∧ (pilot1.cpMeasure 1 [] []).cpRow 1 = 6 ∧
    max (bitsOf (pilot1.shown (CP.MEASCFG 1)) 11 8) 1 ≤ 1 ∧ 6 ≠ pilot1.fld (CP.STAT 1) 18 16 ∧ tb (pilot1.shown (CP.ACTCFG 1)) 31 = true ∧
    tb (pilot1.shown (CP.ACTCFG 1)) (24 + 6) = true ∧ tb (pilot1.shown (CP.ACTCFG 1)) (47 / 4) = true ∧
    1 < max (bitsOf (pilotDeb.shown (CP.MEASCFG 1)) 11 8) 1 ∧ (pilot1.cp 1).writes = [3] ++ [7] ∧ (pilotA.cp 2).writes = [] ∧
    live.bit (CP.STAT 1) 0 = false ∧ (pilot1.cp 1).duty < 1000 ∧
    ((pilotA.fld (CP.THR 1 0) 15 0 : Nat) : Int) ≤ ((pilotA.cpMeasure 1 [] []).rd (CP.VHIGH 1)).toInt ∧
    ((pilotA.cpMeasure 1 [] []).rd (CP.VHIGH 1)).toInt ≤ ((pilotA.fld (CP.THR 1 0) 31 16 : Nat) : Int) := by
  decide +kernel

/-- The recorder is enabled in state `st`, with 64 KiB of rows of 16 bytes, POST `post`, every trigger source on. -/
def recOn (st post : Nat) (waits : Bool) (left : Nat) : State :=
  { (((((liveOn [REC.base]).setFld REC.STAT 9 8 st).wr REC.RINGBASE 0x20010000).wr REC.RINGSIZE 1).wr REC.POST (Word.ofNat post)).wr
      REC.TRIGSRC 0x7F with recorder := { waits := waits, left := left } }
/-- 512 of its slips wait for coins. -/
def recFull : State :=
  let s := recOn 1 4 false 0
  { s with fab := { s.fab with stalled := List.replicate 512 { init := 80, addr := 0x20010000, write := true, bytes := [], len := 16, cycle := 0 } } }

theorem wit_PilotsMeasureAndTheRecorderTakesRows_shaped : (recOn 1 4 false 0).Shaped ∧ (recOn 2 4 true 0).Shaped ∧ (recOn 2 4 false 1).Shaped ∧
    recFull.Shaped :=
  ⟨shaped_of_shapedB (by decide +kernel), shaped_of_shapedB (by decide +kernel), shaped_of_shapedB (by decide +kernel),
    shaped_of_shapedB (by decide +kernel)⟩

theorem wit_PilotsMeasureAndTheRecorderTakesRows_recorder : (recOn 1 4 false 0).domRun .fab = true ∧
    (recOn 1 4 false 0).recDue 0 = true ∧ (recOn 2 4 true 0).recDue 0 = true ∧ (recOn 2 4 false 1).recDue 0 = true ∧
    ({ recOn 1 4 false 0 with recorder := { last := some 16000 } } : State).recDue 16001 = false ∧ (recOn 1 4 false 0).fld REC.CFG 9 0 < 1000 ∧
    (recOn 1 4 false 0).en REC.base = true ∧ (recOn 1 4 false 0).recState = 1 ∧
    (recOn 1 4 false 0).recorder.waits = false ∧ (recOn 1 4 false 0).recRowSize = 16 ∧ (recOn 1 4 false 0).takeCoin 80 ≠ none ∧
    (recFull.fab.stalled.filter (fun p => p.init == 80)).length = 512 ∧ 8192 < 16 * 512 + recFull.recRowSize ∧
    recFull.en REC.base = true ∧ recFull.recState = 1 ∧ recFull.recorder.waits = false ∧
    (recOn 2 4 true 0).recState = 2 ∧ (recOn 2 4 true 0).recorder.waits = true ∧ (recOn 2 0 true 0).recPost = 0 ∧
    (recOn 2 4 false 1).recState = 2 ∧ (recOn 2 4 false 1).recorder.waits = false ∧ (recOn 2 4 false 1).recorder.left = 1 ∧
    live.en REC.base = false ∧ ((2 &&& 0b1011110) + b2n (live.recLines []) * 32) &&& live.fld REC.TRIGSRC 6 0 = 0 ∧
    ((2 &&& 0b1011110) + b2n ((recOn 1 4 false 0).recLines []) * 32) &&& (recOn 1 4 false 0).fld REC.TRIGSRC 6 0 = 2 ∧
    2 ≤ (recOn 3 4 false 0).recState ∧ ((2 &&& 0b1011110) + b2n ((recOn 3 4 false 0).recLines []) * 32) &&& (recOn 3 4 false 0).fld REC.TRIGSRC 6 0 = 2 ∧
    (recOn 1 4 false 0).mustWait .fab REC.base = false ∧ (recOn 1 4 false 0).bit REC.TRIGSRC 0 = true := by
  decide +kernel

/-- Internal scan shifts; clerk 1 is halted and selected; the chip is SECURED, or RETIRED. -/
def scans : State := { live with jtag := { live.jtag with intscan := true } }
def haltedClerk : State := ({ live with jtag := { live.jtag with active := true, hart := 1 } } : State).updClerk 1 (fun c => { c with halted := true })
def lifecycleOf (w : Word) : State := { live with fuses := { live.fuses with shadow := [(4, w)] } }

theorem wit_JtagSelectsResetsScansAndDebugs : live.jtag.intscan = false ∧ (lifecycleOf 6).lifecycle = 7 ∧ (lifecycleOf 6).jtag.intscan = false ∧
    (lifecycleOf 2).debugOpen = false ∧ live.debugOpen = true ∧ live.lifecycle = 1 ∧ (lifecycleOf 2).lifecycle = 3 ∧
    (lifecycleOf 2).jtag.intscan = false ∧ scans.jtag.intscan = true ∧ live.rst.stretch = none ∧ scans.rst.stretch = none ∧
    live.rst.dawn ≠ .held ∧ scans.rst.dawn ≠ .held ∧ (live.clerk 1).held = false ∧ tb (0x80010001 : Word) 0 = true ∧
    bitsOf (0x80010001 : Word) 25 16 = 1 ∧ tb (0x80010001 : Word) 31 = true ∧ tb (0x40010001 : Word) 31 = false ∧
    tb (0x40010001 : Word) 30 = true ∧ bitsOf (0x40010001 : Word) 25 16 = 1 ∧ (haltedClerk.clerk 1).halted = true ∧
    (haltedClerk.clerk 1).held = false ∧ haltedClerk.debugOpen = true ∧ haltedClerk.jtag.intscan = false := by
  decide +kernel

theorem wit_JtagSelectsResetsScansAndDebugs_bus : haltedClerk.jtag.active = true ∧ haltedClerk.jtag.hart < 2 ∧
    (haltedClerk.clerk haltedClerk.jtag.hart).held = false ∧ (haltedClerk.clerk haltedClerk.jtag.hart).halted = true ∧
    haltedClerk.jtag.cmderr = 0 ∧ haltedClerk.sbBusy = false ∧ haltedClerk.jtag.sberror = 0 ∧ haltedClerk.jtag.sbbusyerr = false ∧
    haltedClerk.jtag.sbaccess = 2 ∧ haltedClerk.jtag.sbaddr.toNat % 4 = 0 ∧ haltedClerk.takeCoin 66 ≠ none := by
  decide +kernel

/-! ### The ledger window, trips, the test key, invariants -/

theorem wit_LedgerWindowTakesOnlyTheMailbox : inLedger 0x40C00000 = true ∧ inLedger 0x40C0EFFF = true ∧ inLedger 0x40C0F100 = true ∧
    inLedger 0x40C0FFFF = true ∧ (0x40C0EFFF < 0x40C0F000 ∨ 0x40C0F100 ≤ 0x40C0EFFF) ∧ (0x40C0F100 < 0x40C0F000 ∨ 0x40C0F100 ≤ 0x40C0F100) ∧
    live.mustWait .fab 0 = false := by
  decide +kernel

/-- Generator 47 runs gen47, its page locked or not; the same disabled. -/
def gen47 : State := (liveOn [PWM.base 47]).setBit (PWM.STAT 47) 8 true
def gen47Locked : State := gen47.setBit (PWM.base 47 + 0x10) 30 true
def gen47Off : State := live.setBit (PWM.STAT 47) 8 true

theorem wit_TripLatchOutlivesDisableButNotSoftReset : 47 < gen47.pwm.length ∧ gen47.mustWait .pwm (PWM.base 47) = false ∧
    gen47.bit (PWM.STAT 47) 8 = true ∧ gen47Off.bit (PWM.STAT 47) 8 = true ∧ gen47Off.en (PWM.base 47) = false ∧
    gen47Off.mustWait .pwm (PWM.base 47) = false ∧ gen47.locked (PWM.base 47) = false ∧ tb (2 : Word) 0 = false ∧
    gen47Locked.mustWait .pwm (PWM.base 47) = false ∧ gen47Locked.bit (PWM.STAT 47) 8 = true ∧
    gen47Locked.locked (PWM.base 47) = true ∧ tb (1 : Word) 1 = false ∧ gen47Locked.bit (PWM.TRIPSTAT 47) 31 = false := by
  decide +kernel

def debugOpened : State := (lifecycleOf 2).setBit SYS.STAT 10 true

theorem wit_TestKeyIsTakenInOpenOrOpenedDebug : live.mustWait .fab SYS.base = false ∧ live.lifecycle = 1 ∧ debugOpened.lifecycle = 3 ∧
    debugOpened.bit SYS.STAT 10 = true ∧ debugOpened.mustWait .fab SYS.base = false ∧ (lifecycleOf 2).lifecycle = 3 ∧
    (lifecycleOf 2).bit SYS.STAT 10 = false ∧ (lifecycleOf 2).mustWait .fab SYS.base = false ∧
    (live.setBit (SYS.base + 0x18) 1 true).bit (SYS.base + 0x18) 1 = true ∧ live.rst.stretch = none ∧ live.rst.dawn ≠ .held ∧
    causeLevel 0x13 = some .system := by
  decide +kernel

theorem wit_EveryStepKeepsTheCanonicalForms : Memory.wf live.mem = true ∧ Regs.wf live.regs = true ∧ ∃ t, step live = .next t :=
  ⟨live_canonical.1, live_canonical.2, live, rfl⟩

theorem wit_EveryStepKeepsTheCanonicalForms_command :
    ∃ t, step { live with pending := [.ppsOutFall 0] } = .next t ∧ t.pending = [] := ⟨_, rfl, rfl⟩

theorem wit_EveryStepKeepsTheShapeOfTheState : live.Shaped ∧ ∃ t, step live = .next t := ⟨live_shaped, live, rfl⟩

end Sys2Proof.Tests
end

section
/-!
The state after the power-on reset (R12, R86, R87, R92): an unlisted register and an unlisted byte read their reset values, and
every list of like things has its length, with nothing under way in its entries.
-/
namespace Sys2Proof.Machine

/-! ### Registers and memory: reset lists nothing -/

@[simp] theorem State.rd_reset (a : Nat) : State.reset.rd a = resetOf a := rfl

@[simp] theorem State.byte_reset (a : Nat) : State.reset.byte a = 0 := rfl

theorem Regs.wf_reset : Regs.wf State.reset.regs = true := rfl

theorem Memory.wf_reset : Memory.wf State.reset.mem = true := rfl

/-! ### The shape: reset's lists are copies of an idle entry -/

/-- Every service position has its eight instances, and none of them runs (R256). -/
theorem State.reset_telPos : ∀ p ∈ State.reset.tel.pos, p.inst.length = 8 ∧ p.run = none := by
  intro p hp
  obtain rfl : p = {} := List.eq_of_mem_replicate hp
  exact ⟨rfl, rfl⟩

/-- No live write waits at a generator (R197). -/
theorem State.reset_pwm_after : ∀ g ∈ State.reset.pwm, g.after = [] := by
  intro g hg
  obtain rfl : g = {} := List.eq_of_mem_replicate hg
  rfl

/-- Both copies of the meter's counters have every register and accumulator. -/
theorem State.reset_meterCopies :
    ∀ c ∈ State.reset.melo.copies, c.legal.length = 32 ∧ c.res.length = 32 ∧ c.acc.length = 5 := by
  intro c hc
  obtain rfl : c = {} := List.eq_of_mem_replicate (n := 2) hc
  decide

theorem State.reset_shaped : State.reset.Shaped := by
  refine ⟨by decide, ⟨rfl, fun p hp => ?telPos, by decide⟩, by decide, by decide, fun g hg => ?pwm, ?melo, by decide, ?vals⟩
  case telPos =>
    obtain ⟨hinst, hrun⟩ := State.reset_telPos p hp
    simp [hinst, hrun]
  case pwm => simp [State.reset_pwm_after g hg]
  case melo => exact ⟨rfl, rfl, rfl, rfl, rfl, rfl, rfl, rfl, rfl, rfl, State.reset_meterCopies, rfl⟩
  case vals => exact ⟨List.forall_mem_nil _, Nat.zero_le _, List.forall_mem_nil _⟩

/-- Settles O2: reset lists no register and no byte, its control fields are the defaults of R86, R87 and R92, and its lists have
their lengths. -/
theorem resetLeavesTheSpecsValues : Obligations.ResetLeavesTheSpecsValues := by
  unfold Obligations.ResetLeavesTheSpecsValues
  exact ⟨rfl, State.rd_reset, State.byte_reset, rfl, rfl, rfl, rfl, rfl, rfl, rfl, rfl, rfl, State.rd_reset _,
    Memory.wf_reset, Regs.wf_reset, State.reset_shaped⟩

end Sys2Proof.Machine
end

section
/-!
What an error response changes (R148, R173), and the ledger window outside its mailbox (R36): whatever the initiator, a refusal
writes only error registers of pages below the Oxernal lanes, the bus's own state and the clerks' pending faults.
-/
namespace Sys2Proof.Machine

/-! ### The frame of an error response -/

/-- `t` differs from `s` at most as an error response can make it differ: in registers below the Oxernal pages, in the bus and in
the clerks. -/
structure State.ErrorFrame (s t : State) : Prop where
  fields : ∃ regs bus clerk0 clerk1, t = { s with regs := regs, bus := bus, clerk0 := clerk0, clerk1 := clerk1 }
  regs : ∀ a, 0x400B0000 ≤ a → t.rd a = s.rd a

namespace State.ErrorFrame

theorem refl (s : State) : s.ErrorFrame s := ⟨⟨_, _, _, _, rfl⟩, fun _ _ => rfl⟩

theorem trans {s t u : State} (hst : s.ErrorFrame t) (htu : t.ErrorFrame u) : s.ErrorFrame u := by
  refine ⟨?_, fun a ha => (htu.regs a ha).trans (hst.regs a ha)⟩
  obtain ⟨_, _, _, _, rfl⟩ := hst.fields
  obtain ⟨_, _, _, _, rfl⟩ := htu.fields
  exact ⟨_, _, _, _, rfl⟩

theorem melo {s t : State} (h : s.ErrorFrame t) : t.melo = s.melo := by
  obtain ⟨_, _, _, _, rfl⟩ := h.fields; rfl

theorem nw {s t : State} (h : s.ErrorFrame t) : t.nw = s.nw := by
  obtain ⟨_, _, _, _, rfl⟩ := h.fields; rfl

theorem ledger {s t : State} (h : s.ErrorFrame t) : t.ledger = s.ledger := by
  obtain ⟨_, _, _, _, rfl⟩ := h.fields; rfl

theorem wr {s t : State} (h : s.ErrorFrame t) {a : Nat} (ha : a < 0x400B0000) (v : Word) : s.ErrorFrame (t.wr a v) :=
  h.trans ⟨⟨_, _, _, _, rfl⟩, fun _ hb => State.rd_wr_ne t v (by omega)⟩

theorem setBit {s t : State} (h : s.ErrorFrame t) {a : Nat} (ha : a < 0x400B0000) (i : Nat) (b : Bool) :
    s.ErrorFrame (t.setBit a i b) := h.wr ha _

theorem irq {s t : State} (h : s.ErrorFrame t) {base : Nat} (hb : base + 0x14 < 0x400B0000) (i : Nat) :
    s.ErrorFrame (t.irq base i) := h.wr hb _

theorem withBus {s t : State} (h : s.ErrorFrame t) (b : Bus) : s.ErrorFrame { t with bus := b } :=
  h.trans ⟨⟨_, _, _, _, rfl⟩, fun _ _ => rfl⟩

theorem putError {s t : State} (h : s.ErrorFrame t) (init a : Nat) (c : Cause) (w : Bool) : s.ErrorFrame (t.putError init a c w) :=
  (h.wr (by decide) _).wr (by decide) _

theorem captureError {s t : State} (h : s.ErrorFrame t) (init a : Nat) (c : Cause) (w : Bool) :
    s.ErrorFrame (t.captureError init a c w) := by
  unfold State.captureError
  split
  case isTrue =>
    split
    case isTrue =>
      split
      · exact h.putError ..
      · exact h
    case isFalse => exact h.setBit (by decide) ..
  case isFalse => exact ((h.putError ..).irq (by decide) _).withBus _

theorem fabCount {s t : State} (h : s.ErrorFrame t) {a : Nat} (ha : a < 0x400B0000) (hi lo : Nat) :
    s.ErrorFrame (t.fabCount a hi lo) := by
  unfold State.fabCount
  split
  · exact h
  · exact h.wr ha _

theorem initiatorReact {s t : State} (h : s.ErrorFrame t) (init a sub : Nat) (w : Bool) :
    s.ErrorFrame (t.initiatorReact init a sub w) := by
  have hfault (c0 c1 : Clerk) : s.ErrorFrame { t with clerk0 := c0, clerk1 := c1 } :=
    h.trans ⟨⟨_, _, _, _, rfl⟩, fun _ _ => rfl⟩
  fun_cases State.initiatorReact
  case case1 hconv =>
    have hpage : CV.base init + 0x14 < 0x400B0000 := by simp only [CV.base]; omega
    exact (h.setBit (by omega) ..).irq hpage _
  case case2 htlr => exact h.irq (by simp only [TLR.base]; omega) _
  case case3 => exact (h.setBit (by decide) ..).irq (by decide) _
  case case4 =>
    have hpage : MP.base (sub % 4) + 0x14 < 0x400B0000 := by simp only [MP.base]; omega
    exact (h.setBit (by omega) ..).irq hpage _
  case case5 => exact (h.setBit (by decide) ..).irq (by decide) _
  case case6 => exact hfault ..
  case case7 => exact hfault ..
  case case8 heth => exact h.irq (by simp only [ETH.base]; omega) _
  case case9 => exact h.irq (by simp only [CAN.base]; omega) _
  case case10 => exact h

theorem errorResp {s t : State} (h : s.ErrorFrame t) (init a : Nat) (c : Cause) (w : Bool) (sub : Nat) :
    s.ErrorFrame (t.errorResp init a c w sub) := by
  have hflag := ((h.captureError init a c w).irq (base := FAB.base) (by decide) 0).fabCount (a := FAB.ERRCNT) (by decide) 31 0
  unfold State.errorResp
  refine withBus ?_ _
  split
  · exact hflag
  · exact hflag.initiatorReact ..

/-- An access whose meaning keeps to the frame keeps to it with its initiator's reaction too. -/
theorem withReaction {s t : State} (h : s.ErrorFrame t) {f : State → State} (hf : ∀ u, s.ErrorFrame u → s.ErrorFrame (f u))
    (init a sub : Nat) (w dead : Bool) : s.ErrorFrame (t.withReaction init a sub w f dead) := by
  have hdone := (hf _ (h.withBus { t.bus with quiet := some init, resp := { init := init, addr := a } })).withBus
  unfold State.withReaction
  dsimp only
  split
  · exact hdone _
  · exact (hdone _).initiatorReact ..

end State.ErrorFrame

/-! ### The response -/

theorem Cause.code_ne_zero (c : Cause) : c.code ≠ 0 := by cases c <;> decide

/-- A refusal answers the initiator, at its address, with a cause. -/
theorem Refused.resp_fields {init a : Nat} {c : Cause} {t : State} (h : Refused init a c t) :
    t.bus.resp.init = init ∧ t.bus.resp.addr = a ∧ t.bus.resp.cause ≠ 0 := by
  unfold Refused at h
  rw [h]
  exact ⟨rfl, rfl, c.code_ne_zero⟩

@[simp] theorem State.errorResp_resp (s : State) (init a : Nat) (c : Cause) (w : Bool) (sub : Nat) :
    (s.errorResp init a c w sub).bus.resp = { init := init, addr := a, cause := c.code, data := 0 } := rfl

@[simp] theorem State.initiatorReact_bus (s : State) (init a sub : Nat) (w : Bool) :
    (s.initiatorReact init a sub w).bus = s.bus := by
  unfold State.initiatorReact
  repeat' split
  all_goals rfl

/-- An initiator's reaction leaves the response as the access has given it. -/
theorem State.withReaction_resp (s : State) (init a sub : Nat) (w : Bool) (f : State → State) (dead : Bool) :
    (s.withReaction init a sub w f dead).bus.resp =
      (f { s with bus := { s.bus with quiet := some init, resp := { init := init, addr := a } } }).bus.resp := by
  unfold State.withReaction
  dsimp only
  split
  · rfl
  · rw [State.initiatorReact_bus]

/-! ### The ledger window -/

theorem inLedger_iff (a : Nat) : inLedger a = true ↔ 0x40C00000 ≤ a ∧ a < 0x40C10000 := by simp [inLedger]

theorem findPageIn_eq_none {a : Nat} {l : List PageRow} (h : ∀ p ∈ l, p.base + p.cnt * p.size ≤ a) : findPageIn a l = none := by
  induction l with
  | nil => rfl
  | cons p t ih =>
    obtain ⟨hp, ht⟩ := List.forall_mem_cons.1 h
    rw [findPageIn, if_neg (by omega), ih ht]

/-- Every page of R138 ends below the ledger window. -/
theorem pageTable_below_ledger : ∀ p ∈ pageTable, p.base + p.cnt * p.size ≤ 0x40C00000 := by decide

theorem findPage_of_inLedger {a : Nat} (h : inLedger a = true) : findPage a = none :=
  findPageIn_eq_none fun p hp => (pageTable_below_ledger p hp).trans ((inLedger_iff a).1 h).1

/-- An access to the ledger window waits for CLK_FAB alone (R134, R140). -/
theorem waitKey_of_inLedger {a : Nat} (h : inLedger a = true) : waitKey a = (.fab, 0) := by
  have hlo := ((inLedger_iff a).1 h).1
  rw [waitKey, if_neg (by simp only [SYS.CLKSTAT]; omega), findPage_of_inLedger h]
  exact if_neg (by omega)

/-- A write of any size to the ledger window outside the mailbox is an error response (R36, R137), of one cause in every state. -/
theorem regAccess_ledger_outside_mailbox {a : Nat} (h : inLedger a = true) (hout : a < 0x40C0F000 ∨ 0x40C0F100 ≤ a)
    (init len : Nat) (data : Word) (sub tick : Nat) :
    ∃ c k, ∀ s : State, s.regAccess init a len true data sub tick = s.errorResp init a c true k := by
  have hpage := findPage_of_inLedger h
  by_cases hsize : len = 4 ∧ a % 4 = 0
  · exact ⟨.ledger, 0, fun s => by simp [State.regAccess, hpage, h, hsize, State.ledgerWrite, hout]⟩
  · exact ⟨.size, sub, fun s => by simp [State.regAccess, hpage, h, hsize]⟩

/-! ### A refused REGISTER_WRITE -/

theorem exec_registerWrite_now {s : State} {a : Nat} (h : s.mustWait (waitKey a).1 (waitKey a).2 = false) (init len : Nat)
    (data : Word) (sub tick : Nat) : exec (.registerWrite init a len data sub tick) s =
      .next (s.withReaction init a sub true (fun u => u.regAccess init a len true data sub tick)) := by
  change execRegisterWrite init a len data sub tick s = _
  simp [execRegisterWrite, State.access, h]

/-- A write that its page answers with an error response leaves all but what an error response writes. -/
theorem exec_registerWrite_refused {s : State} {init a len sub tick k : Nat} {data : Word} {c : Cause}
    (hlive : s.mustWait (waitKey a).1 (waitKey a).2 = false)
    (herr : ∀ u : State, u.regAccess init a len true data sub tick = u.errorResp init a c true k) :
    ∃ t, exec (.registerWrite init a len data sub tick) s = .next t ∧ Refused init a c t ∧ s.ErrorFrame t := by
  refine ⟨_, exec_registerWrite_now hlive .., ?_, ?_⟩
  · rw [Refused, State.withReaction_resp, herr, State.errorResp_resp]
  · exact (State.ErrorFrame.refl s).withReaction (fun u hu => herr u ▸ hu.errorResp init a c true k) init a sub true false

/-- Settles O56: such a write is an error response and its initiator's reaction, whose frame leaves Meloskern, Nightwatch, the
mailbox buffer and the window's registers alone. -/
theorem ledgerWindowTakesOnlyTheMailbox : Obligations.LedgerWindowTakesOnlyTheMailbox := by
  unfold Obligations.LedgerWindowTakesOnlyTheMailbox
  intro s init addr len sub tick data hin hout hlive
  obtain ⟨c, k, herr⟩ := regAccess_ledger_outside_mailbox hin hout init len data sub tick
  obtain ⟨t, hexec, hrefused, hframe⟩ := exec_registerWrite_refused (s := s) (by rwa [waitKey_of_inLedger hin]) herr
  obtain ⟨hinit, haddr, hcause⟩ := hrefused.resp_fields
  have hwindow (a : Nat) (ha : inLedger a = true) : t.rd a = s.rd a :=
    hframe.regs a (by have := (inLedger_iff a).1 ha; omega)
  exact ⟨t, hexec, hinit, haddr, hcause, hframe.melo, hframe.nw, hframe.ledger, hwindow⟩

end Sys2Proof.Machine
end

section
/-!
Bits and fields of registers: what a bit reads after a write of one bit, and the frame of a command that writes registers alone.
-/
namespace Sys2Proof.Machine

/-! ### Bits of a word -/

/-- A bit of a word in which bit `i` has been set to `b`. -/
theorem tb_putBits_bit (w : Word) {i : Nat} (hi : i < 32) (b : Bool) (j : Nat) :
    tb (putBits w i i (b2n b)) j = if j = i then b else tb w j := by
  have hmask (k : Nat) : (Word.ofNat (1 <<< i)).getLsbD k = decide (k = i) := by
    simp only [BitVec.getLsbD_ofNat, Nat.shiftLeft_eq, Nat.one_mul, Nat.testBit_two_pow]
    grind
  have hval (k : Nat) : (Word.ofNat ((b2n b % 2) <<< i)).getLsbD k = (b && decide (k = i)) := by
    cases b
    · simp [b2n]
    · simpa [b2n] using hmask k
  have hone : i + 1 - i = 1 := by omega
  unfold tb putBits maskOf
  rw [hone]
  simp only [Nat.reducePow, Nat.reduceSub, BitVec.getLsbD_or, BitVec.getLsbD_and, BitVec.getLsbD_not, hmask, hval]
  by_cases hj : j = i
  · simp [hj]
  · by_cases hw : j < 32
    · simp [hj, hw]
    · simp [hj, BitVec.getLsbD_of_ge w j (by omega)]

/-- A field of a number taken as a word. -/
theorem bitsOf_ofNat (n hi lo : Nat) : bitsOf (Word.ofNat n) hi lo = n % 2 ^ 32 / 2 ^ lo % 2 ^ (hi + 1 - lo) := by
  rw [bitsOf, BitVec.toNat_ofNat, Nat.shiftRight_eq_div_pow]

/-! ### Bits of a register -/

theorem State.rd_congr {s t : State} (h : t.regs = s.regs) (a : Nat) : t.rd a = s.rd a := by
  rw [State.rd, h, State.rd]

theorem State.bit_setBit_self (s : State) (a : Nat) {i : Nat} (hi : i < 32) (b : Bool) (j : Nat) :
    (s.setBit a i b).bit a j = if j = i then b else s.bit a j := by
  rw [State.bit, State.rd_setBit, if_pos rfl, tb_putBits_bit _ hi, State.bit]

theorem State.bit_setBit_ne (s : State) {a c : Nat} (h : c ≠ a) (i : Nat) (b : Bool) (j : Nat) :
    (s.setBit a i b).bit c j = s.bit c j := by
  rw [State.bit, State.rd_setBit, if_neg h, State.bit]

theorem State.bit_congr {s t : State} {a : Nat} (h : t.rd a = s.rd a) (i : Nat) : t.bit a i = s.bit a i :=
  congrArg (tb · i) h

theorem State.fld_congr {s t : State} {a : Nat} (h : t.rd a = s.rd a) (hi lo : Nat) : t.fld a hi lo = s.fld a hi lo :=
  congrArg (bitsOf · hi lo) h

/-! ### The frame of register writes -/

theorem RegsBut.refl (P : Nat → Prop) (s : State) : RegsBut P s s := fun _ _ => rfl

theorem RegsBut.trans {P : Nat → Prop} {s t u : State} (hst : RegsBut P s t) (htu : RegsBut P t u) : RegsBut P s u :=
  fun a ha => (htu a ha).trans (hst a ha)

theorem RegsBut.mono {P Q : Nat → Prop} {s t : State} (h : RegsBut P s t) (hPQ : ∀ a, P a → Q a) : RegsBut Q s t :=
  fun a ha => h a (fun hp => ha (hPQ a hp))

/-- A write of a register of `P` keeps every register outside `P`. -/
theorem RegsBut.wr {P : Nat → Prop} {s t : State} (h : RegsBut P s t) {a : Nat} (ha : P a) (v : Word) : RegsBut P s (t.wr a v) :=
  h.trans fun _ hb => State.rd_wr_ne t v (fun heq => hb (heq ▸ ha))

end Sys2Proof.Machine
end

section
/-!
What the gate unit's own operations change (R222-R239): half-bridges and registers of the gate unit's pages, and nothing else.
-/
namespace Sys2Proof.Machine

/-- `t` differs from `s` at most in the half-bridges and in registers of the gate unit's pages. -/
structure State.GateOnly (s t : State) : Prop where
  fields : ∃ regs gate, t = { s with regs := regs, gate := gate }
  regs : RegsBut gatePage s t

/-! ### Addresses -/

theorem gatePage_base {g off : Nat} (hg : g < 12) (hoff : off < 0x1000) : gatePage (GATE.base g + off) := by
  simp only [gatePage, GATE.base]
  omega

theorem gatePage_HBSTAT {n : Nat} (hn : n < 48) : gatePage (HBSTAT n) := by
  rw [HBSTAT, Nat.add_assoc]
  exact gatePage_base (by omega) (by omega)

namespace State.GateOnly

theorem refl (s : State) : s.GateOnly s := ⟨⟨_, _, rfl⟩, RegsBut.refl _ _⟩

theorem trans {s t u : State} (hst : s.GateOnly t) (htu : t.GateOnly u) : s.GateOnly u := by
  refine ⟨?_, hst.regs.trans htu.regs⟩
  obtain ⟨_, _, rfl⟩ := hst.fields
  obtain ⟨_, _, rfl⟩ := htu.fields
  exact ⟨_, _, rfl⟩

/-! ### Basic updates -/

section
variable {s t : State} (h : s.GateOnly t)
include h

theorem wr {a : Nat} (ha : gatePage a) (v : Word) : s.GateOnly (t.wr a v) :=
  h.trans ⟨⟨_, _, rfl⟩, (RegsBut.refl _ t).wr ha v⟩

theorem setBit {a : Nat} (ha : gatePage a) (i : Nat) (b : Bool) : s.GateOnly (t.setBit a i b) := h.wr ha _

theorem setFld {a : Nat} (ha : gatePage a) (hi lo v : Nat) : s.GateOnly (t.setFld a hi lo v) := h.wr ha _

theorem count {a : Nat} (ha : gatePage a) (hi lo n : Nat) : s.GateOnly (t.count a hi lo n) := h.wr ha _

theorem irq {g : Nat} (hg : g < 12) (i : Nat) : s.GateOnly (t.irq (GATE.base g) i) := h.wr (gatePage_base hg (by decide)) _

theorem updHb (n : Nat) (f : GateHb → GateHb) : s.GateOnly (t.updHb n f) := h.trans ⟨⟨_, _, rfl⟩, fun _ _ => rfl⟩

theorem ite {u : State} (hu : s.GateOnly u) (c : Prop) [Decidable c] : s.GateOnly (if c then t else u) := by
  split
  · exact h
  · exact hu

/-! ### Evaluation, enable and shutdown (R222-R236) -/

theorem hbEval (n : Nat) (a b : Bool) : s.GateOnly (t.hbEval n a b) := h.updHb ..

theorem hbRefresh (n : Nat) : s.GateOnly (t.hbRefresh n) := h.updHb ..

theorem groupRefresh (g : Nat) : s.GateOnly (t.groupRefresh g) :=
  (((h.hbRefresh _).hbRefresh _).hbRefresh _).hbRefresh _

theorem enableHb (n : Nat) : s.GateOnly (t.enableHb n) := (h.updHb ..).hbRefresh _

theorem unveto (n : Nat) : s.GateOnly (t.unveto n) := h.updHb ..

theorem groupEnable {g : Nat} (hg : g < 12) : s.GateOnly (t.groupEnable g) := by
  have hon := ((((h.setBit (gatePage_base (off := 0x10) hg (by decide)) 8 true).unveto (4 * g)).unveto (4 * g + 1)).unveto
    (4 * g + 2)).unveto (4 * g + 3)
  exact (((hon.enableHb _).enableHb _).enableHb _).enableHb _

theorem shutPhase3 {g : Nat} (hg : g < 12) : s.GateOnly (t.shutPhase3 g) := by
  have hend := (h.setBit (gatePage_base (off := 0x10) hg (by decide)) 9 false).irq hg 20
  exact ((hend.setBit (gatePage_base hg (by decide)) ..).groupEnable hg).ite hend _

theorem shutPhase2 {g : Nat} (hg : g < 12) : s.GateOnly (t.shutPhase2 g) := by
  have hlow := (h.setBit (gatePage_base (off := 0x10) hg (by decide)) 8 false).groupRefresh g
  exact (hlow.shutPhase3 hg).ite hlow _

theorem shutPhase1 {g : Nat} (hg : g < 12) : s.GateOnly (t.shutPhase1 g) := by
  have hlow := (h.setBit (gatePage_base (off := 0x10) hg (by decide)) 9 true).groupRefresh g
  exact (hlow.shutPhase2 hg).ite hlow _

theorem vetoHb (n : Nat) : s.GateOnly (t.vetoHb n) := h.updHb ..

theorem vetoGroup {g : Nat} (hg : g < 12) : s.GateOnly (t.vetoGroup g) := by
  have hveto := (((h.vetoHb (4 * g)).vetoHb (4 * g + 1)).vetoHb (4 * g + 2)).vetoHb (4 * g + 3)
  have hoff := (hveto.setBit (gatePage_base (off := 0x0C) hg (by decide)) 0 false).setBit
    (gatePage_base (off := 0x10) hg (by decide)) 10 false
  exact ((hoff.shutPhase1 hg).ite hoff _).groupRefresh g

/-! ### Faults, lock-out and commands (R222-R233) -/

theorem lockOut {n : Nat} (hn : n < 48) : s.GateOnly (t.lockOut n) :=
  ((h.setFld (gatePage_HBSTAT hn) ..).irq (by omega) _).updHb ..

theorem escalateOne {n : Nat} (hn : n < 48) : s.GateOnly (t.escalateOne n) :=
  (((h.lockOut hn).setFld (gatePage_HBSTAT hn) ..).updHb ..).ite ((h.updHb ..).ite h _) _

theorem escalate {g : Nat} (hg : g < 12) : s.GateOnly (t.escalate g) := by
  have hall := (((h.escalateOne (n := 4 * g) (by omega)).escalateOne (n := 4 * g + 1) (by omega)).escalateOne
    (n := 4 * g + 2) (by omega)).escalateOne (n := 4 * g + 3) (by omega)
  exact ((hall.setBit (gatePage_base (off := 0x10) hg (by decide)) ..).irq hg _).groupRefresh g

theorem takeFault {n : Nat} (hn : n < 48) (cause aff : Nat) : s.GateOnly (t.takeFault n cause aff) := by
  have hg : n / 4 < 12 := by omega
  have hpage := gatePage_HBSTAT hn
  refine h.ite (hbRefresh (ite (escalate ?held hg) ?held _) n) _
  have hshown (cause both try_ : Nat) := ((((h.count hpage 7 0 1).setFld hpage 18 16 cause).setFld hpage 23 22 both).setFld
    hpage 21 19 try_).irq hg (n % 4)
  exact (((hshown ..).setFld hpage ..).ite ((hshown ..).lockOut hn) _).updHb ..

theorem enterRun {n : Nat} (hn : n < 48) : s.GateOnly (t.enterRun n) :=
  ((h.setFld (gatePage_HBSTAT hn) ..).setFld (gatePage_HBSTAT hn) ..).updHb ..

theorem release {n : Nat} (hn : n < 48) : s.GateOnly (t.release n) := by
  have hfree := (h.updHb n (fun x => { x with locked := false, esc := false })).setFld (gatePage_HBSTAT hn) 21 19 0
  exact (hfree.ite (hfree.setBit (gatePage_base (by omega) (by decide)) ..) _).enterRun hn

theorem releaseRefused {n : Nat} (hn : n < 48) : s.GateOnly (t.releaseRefused n) :=
  (h.setBit (gatePage_base (by omega) (by decide)) ..).irq (by omega) _

theorem releaseByB {n : Nat} (hn : n < 48) (b : Bool) : s.GateOnly (t.releaseByB n b) :=
  ((h.releaseRefused hn).ite (h.release hn) _).ite h _

theorem bothOn {n : Nat} (hn : n < 48) : s.GateOnly (t.bothOn n) := by
  have hg : n / 4 < 12 := by omega
  have hcount := ((((h.updHb n (fun x => { x with shoot := true })).hbEval n true true).setBit
    (gatePage_base (off := 0x10) hg (by decide)) 0 true).irq hg (12 + n % 4)).count (gatePage_base (off := 0x50) hg (by decide)) 31 0 1
  exact (hcount.takeFault hn ..).ite hcount _

theorem hbCommand {n : Nat} (hn : n < 48) (a b : Bool) : s.GateOnly (t.hbCommand n a b) :=
  (h.bothOn hn).ite (h.hbEval ..) _

theorem gateDrive {n : Nat} (hn : n < 48) (a b : Bool) : s.GateOnly (t.gateDrive n a b) := (h.releaseByB hn b).hbCommand hn a b

end
end State.GateOnly

end Sys2Proof.Machine
end

section
/-!
What GATE_VETO and the safety unit's own state changes touch (R31, R43, R45, R88, R434-R436, R453): the contactors and the state of
the safety unit, GATE_VETO, the gate unit that sees it, and registers of a given set.
-/
namespace Sys2Proof.Machine

/-! ### GATE_VETO -/

/-- The veto's assertion is its level, and what the gate unit does when it sees it (R236). -/
theorem State.assertVeto_gateOnly (s : State) : ({ s with rst := { s.rst with veto := true } } : State).GateOnly s.assertVeto :=
  List.foldlRecOn _ _ (State.GateOnly.refl _) fun _ ht _ hg => ht.vetoGroup (List.mem_range.1 hg)

theorem State.assertVeto_veto (s : State) : s.assertVeto.rst.veto = true := by
  obtain ⟨_, _, heq⟩ := s.assertVeto_gateOnly.fields
  rw [heq]

/-! ### The frame -/

/-- `t` differs from `s` at most in registers of `P`, in the half-bridges, in GATE_VETO, and in the safety unit's contactors and
state. -/
structure State.SafetyOnly (P : Nat → Prop) (s t : State) : Prop where
  fields : ∃ regs gate veto k st, t = { s with
    regs := regs, gate := gate, rst := { s.rst with veto := veto }, sup := { s.sup with k := k, st := st } }
  regs : RegsBut P s t

namespace State.SafetyOnly

theorem refl (P : Nat → Prop) (s : State) : s.SafetyOnly P s := ⟨⟨_, _, _, _, _, rfl⟩, RegsBut.refl _ _⟩

section
variable {P : Nat → Prop} {s t : State} (h : s.SafetyOnly P t)
include h

theorem trans {u : State} (hu : t.SafetyOnly P u) : s.SafetyOnly P u := by
  refine ⟨?_, h.regs.trans hu.regs⟩
  obtain ⟨_, _, _, _, _, rfl⟩ := h.fields
  obtain ⟨_, _, _, _, _, rfl⟩ := hu.fields
  exact ⟨_, _, _, _, _, rfl⟩

theorem wr {a : Nat} (ha : P a) (v : Word) : s.SafetyOnly P (t.wr a v) :=
  h.trans ⟨⟨_, _, _, _, _, rfl⟩, (RegsBut.refl _ t).wr ha v⟩

theorem updK (n : Nat) (f : Contactor → Contactor) : s.SafetyOnly P (t.updK n f) :=
  h.trans ⟨⟨_, _, _, _, _, rfl⟩, fun _ _ => rfl⟩

theorem assertVeto (hgate : ∀ a, gatePage a → P a) : s.SafetyOnly P t.assertVeto := by
  have hveto := t.assertVeto_gateOnly
  obtain ⟨_, _, heq⟩ := hveto.fields
  exact h.trans ⟨⟨_, _, _, _, _, heq⟩, hveto.regs.mono hgate⟩

/-- Entering a state is at most the state and IRQ_RAW.STATE (R435). -/
theorem enterSt (hirq : P (SMBX.base + 0x14)) (st : Nat) : s.SafetyOnly P (t.enterSt st) := by
  unfold State.enterSt
  split
  · exact h
  · exact (h.trans (u := t.updSup (fun u => { u with st := st })) ⟨⟨_, _, _, _, _, rfl⟩, fun _ _ => rfl⟩).wr hirq _

/-- An ordered opening touches contactors alone (R448). -/
theorem orderedOpen (mask : Nat) : s.SafetyOnly P (t.orderedOpen mask) := by
  refine List.foldlRecOn _ _ h fun u hu n _ => ?_
  split
  · exact hu.updK ..
  · exact hu

/-- The safety unit's part of a system reset that starts while GATE_VETO is released (R88). -/
theorem resetOpening (hirq : P (SMBX.base + 0x14)) : s.SafetyOnly P t.resetOpening := by
  unfold State.resetOpening
  split
  · exact (h.orderedOpen _).enterSt hirq _
  · exact h

end
end State.SafetyOnly

/-! ### The outputs follow the state (R32, R436) -/

/-- Curfew's switches are the contactors' alone. -/
theorem State.curfewSwitches_eq (s : State) (l : List Nat) :
    ∃ k, l.foldl State.curfewSwitch s = { s with sup := { s.sup with k := k } } :=
  List.foldlRecOn (motive := fun t : State => ∃ k, t = { s with sup := { s.sup with k := k } }) _ _ ⟨_, rfl⟩ (by
    rintro _ ⟨k, rfl⟩ n _
    exact ⟨_, rfl⟩)

theorem State.SafetyOnly.settleSafety {P : Nat → Prop} {s t : State} (h : s.SafetyOnly P t) (hgate : ∀ a, gatePage a → P a) :
    s.SafetyOnly P t.settleSafety := by
  obtain ⟨k, hk⟩ := t.curfewSwitches_eq (List.range 12)
  have hswitch : s.SafetyOnly P { t with sup := { t.sup with k := k } } := h.trans ⟨⟨_, _, _, _, _, rfl⟩, fun _ _ => rfl⟩
  unfold State.settleSafety
  rw [hk]
  dsimp only
  split
  · split
    · exact hswitch
    · exact hswitch.assertVeto hgate
  · exact hswitch.trans ⟨⟨_, _, _, _, _, rfl⟩, fun _ _ => rfl⟩

/-- GATE_VETO is asserted while the reset controller holds it or the Dusk state lasts (R436). -/
theorem State.settleSafety_veto {s : State} (h : s.rst.vetoHold = true ∨ s.rst.dusk = true) : s.settleSafety.rst.veto = true := by
  obtain ⟨k, hk⟩ := s.curfewSwitches_eq (List.range 12)
  have hwanted : State.vetoWanted { s with sup := { s.sup with k := k } } = true := by
    rcases h with h | h <;> simp [State.vetoWanted, h]
  unfold State.settleSafety
  rw [hk]
  dsimp only
  rw [if_pos hwanted]
  split
  case isTrue hveto => exact hveto
  case isFalse => exact State.assertVeto_veto _

/-! ### The Dusk state begins and ends (R43, R45, R435, R453) -/

/-- The Dusk bit and the Dusk message that is pending. -/
def State.markDusk (s : State) (dusk : Bool) (pend : Nat) : State :=
  { s with rst := { s.rst with dusk := dusk }, sup := { s.sup with duskPend := pend } }

/-- Beside the Dusk bit and the pending message, the end of the Dusk state touches the safety unit's frame alone. -/
theorem State.endDusk_safetyOnly {P : Nat → Prop} (s : State) (hgate : ∀ a, gatePage a → P a) (hcause : P RSUP.DUSKCAUSE)
    (hirq : P (SMBX.base + 0x14)) : (s.markDusk false 0).SafetyOnly P s.endDusk := by
  have hclear := (State.SafetyOnly.refl P (s.markDusk false 0)).wr hcause (putBits (s.rd RSUP.DUSKCAUSE) 8 8 0)
  have hsup := hclear.trans (u := State.updSup _ (fun u => { u with k := u.k.map (fun k =>
    if k.st = 0 then { k with hgReq := false, bstop := false } else { k with bstop := false }) }))
    ⟨⟨_, _, _, _, _, rfl⟩, fun _ _ => rfl⟩
  unfold State.endDusk
  refine State.SafetyOnly.settleSafety ?_ hgate
  dsimp only
  split
  · exact hsup.enterSt hirq 2
  · exact hsup

theorem State.endDusk_dusk (s : State) : s.endDusk.rst.dusk = false := by
  obtain ⟨_, _, _, _, _, heq⟩ := (s.endDusk_safetyOnly (P := fun _ => True) (fun _ _ => trivial) trivial trivial).fields
  rw [heq]
  rfl

theorem State.enterSt_rst (s : State) (st : Nat) : (s.enterSt st).rst = s.rst := by
  unfold State.enterSt
  split <;> rfl

/-- The end of the Dusk state does not release a veto that the reset controller holds. -/
theorem State.endDusk_veto {s : State} (h : s.rst.vetoHold = true) : s.endDusk.rst.veto = true := by
  unfold State.endDusk
  refine State.settleSafety_veto (.inl ?_)
  dsimp only
  split
  · rw [State.enterSt_rst]
    exact h
  · exact h

/-- Outside the Dusk state an expiry or a heartbeat loss touches DUSKCAUSE and the safety unit's frame, beside the Dusk bit and the
pending message. -/
theorem State.enterDusk_safetyOnly {s : State} (h : s.rst.dusk = false) (code : Nat) :
    (s.markDusk true (0x1F + code)).SafetyOnly (fun a => gatePage a ∨ a = RSUP.DUSKCAUSE) (s.enterDusk code) := by
  rw [State.enterDusk, if_neg (by simp [h])]
  exact ((State.SafetyOnly.refl _ (s.markDusk true (0x1F + code))).wr (.inr rfl) (Word.ofNat (0x100 + code))).settleSafety
    fun _ => .inl

/-- It records its code. -/
theorem State.enterDusk_cause {s : State} (h : s.rst.dusk = false) (code : Nat) :
    (s.enterDusk code).rd RSUP.DUSKCAUSE = Word.ofNat (0x100 + code) := by
  rw [State.enterDusk, if_neg (by simp [h])]
  exact (((State.SafetyOnly.refl gatePage _).settleSafety fun _ => id).regs RSUP.DUSKCAUSE (by simp [gatePage, RSUP.DUSKCAUSE])).trans
    (State.rd_wr_self ..)

/-- It asserts GATE_VETO. -/
theorem State.enterDusk_veto {s : State} (h : s.rst.dusk = false) (code : Nat) : (s.enterDusk code).rst.veto = true := by
  rw [State.enterDusk, if_neg (by simp [h])]
  exact State.settleSafety_veto (.inr rfl)

end Sys2Proof.Machine
end

section
/-!
The arrival of a reset cause (R86-R92): what a power-on reset, a system reset and a core reset leave, when each is entered from a
state with no reset in progress.
-/
namespace Sys2Proof.Machine

/-! ### The record of a reset (R89, R91, R92) -/

/-- A reset of level `l` by cause `c` is recorded and stretched, RST_N low. -/
def State.recordReset (s : State) (l : RLevel) (c : Nat) (testHeld : Bool) : State :=
  let t := s.wr RSUP.RSTCAUSE (Word.ofNat (l.code * 256 + c))
  { t with rst := { t.rst with stretch := some l, rstnLow := true, testHeld := testHeld } }

theorem State.rd_recordReset (s : State) (l : RLevel) (c : Nat) (test : Bool) (a : Nat) : (s.recordReset l c test).rd a =
    if a = RSUP.RSTCAUSE then Word.ofNat (l.code * 256 + c) else s.rd a := State.rd_wr s ..

theorem bestCause_singleton {c : Nat} {l : RLevel} (h : causeLevel c = some l) : bestCause [c] = some (l, c) := by
  simp [bestCause, h]

theorem State.resetRank_of_noReset {s : State} (h : s.noReset) : s.resetRank = 0 := by
  obtain ⟨hstretch, hdawn⟩ := h
  simp [State.resetRank, hstretch, hdawn]

/-- With no reset in progress a cause brings its level's reset, recorded with its code. -/
theorem State.resetArrive_of_noReset {s : State} (h : s.noReset) {c : Nat} {l : RLevel} (hl : causeLevel c = some l) :
    ∃ test, s.resetArrive [c] = (s.enterLevel l [c]).recordReset l c test := by
  have hrank := State.resetRank_of_noReset h
  have haccepted : s.acceptedCauses [c] = [c] := by
    cases l <;> simp [State.acceptedCauses, hl, hrank]
  simp only [State.resetArrive, haccepted, bestCause_singleton hl, hrank, h.1, Nat.zero_le, if_true]
  exact ⟨_, rfl⟩

/-- A power-on reset is entered and recorded whatever is in progress (R91). -/
theorem State.resetArrive_powerOn (s : State) : s.resetArrive [1] = s.powerOnReset.recordReset .powerOn 1 false := by
  have haccepted : s.acceptedCauses [1] = [1] := rfl
  have hrank : s.resetRank ≤ RLevel.powerOn.rank := by
    unfold State.resetRank
    split
    next l _ => cases l <;> simp [RLevel.rank]; split <;> simp
    next => split <;> simp [RLevel.rank]
  have htop (m : RLevel) : ¬ RLevel.powerOn.rank < m.rank := by cases m <;> simp [RLevel.rank]
  simp only [State.resetArrive, haccepted, bestCause_singleton (c := 1) (l := .powerOn) rfl, hrank, if_true]
  cases hstretch : s.rst.stretch <;> simp [htop, State.enterLevel, State.recordReset]

/-! ### The control die's part (R86) -/

/-- Registers of RSUP that the loss of the control die keeps as they are: all but WDOG_CFG (R86). -/
def keptByDie (a : Nat) : Prop := inPage RSUP.base a ∧ a ≠ RSUP.WDOG_CFG

theorem State.rd_dieReset (s : State) {a : Nat} (h : keptByDie a) : s.dieReset.rd a = s.rd a := by
  obtain ⟨⟨hlo, hhi⟩, hcfg⟩ := h
  have hlive : a ≠ SYS.STAT ∧ a ≠ AUX.base + 0x5C ∧ a ≠ GPIO.base + 0x50 := by
    simp only [RSUP.base, SYS.STAT, AUX.base, GPIO.base] at *
    omega
  obtain ⟨hstat, haux, hgpio⟩ := hlive
  have hfilter := Store.find_filter s.regs (fun k =>
    0x40800000 ≤ k && k < 0x40880000 && !(AUX.base ≤ k && k < AUX.base + 0x1000) && k != RSUP.WDOG_CFG) a
  rw [if_pos (by simp only [RSUP.base, AUX.base, RSUP.WDOG_CFG] at *; simp; omega)] at hfilter
  simp only [State.rd, State.dieReset, keptRegs, List.foldl_cons, List.foldl_nil]
  rw [Store.find_put_ne _ _ _ hgpio, Store.find_put_ne _ _ _ haux, Store.find_put_ne _ _ _ hstat, hfilter]

/-- The memory of the control die is lost; external memory stands. -/
theorem State.byte_dieReset (s : State) (a : Nat) :
    s.dieReset.byte a = if 0x60000000 ≤ a then s.byte a else memDefault a := by
  have hfilter := Store.find_filter s.mem (fun k => 0x60000000 ≤ k) a
  simp only [State.byte, State.dieReset, extMem]
  rw [hfilter]
  by_cases h : 0x60000000 ≤ a <;> simp [h]

/-- The power-on or system reset finds GATE_VETO asserted, or asserts it. -/
theorem State.vetoed_gateOnly (s : State) :
    ({ s with rst := { s.rst with veto := true } } : State).GateOnly (if s.rst.veto then s else s.assertVeto) := by
  split
  case isTrue hveto =>
    rw [← hveto]
    exact State.GateOnly.refl s
  case isFalse => exact s.assertVeto_gateOnly

/-! ### A power-on reset (R86, R87) -/

/-- A power-on reset has been entered from `s`. -/
structure PowerOnEntered (s t : State) : Prop where
  cause : t.rd RSUP.RSTCAUSE = 0x101
  regs : ∀ a, a ≠ RSUP.RSTCAUSE → t.rd a = resetOf a
  rst : t.rst.stretch = some .powerOn ∧ t.rst.rstnLow = true ∧ t.rst.veto = true ∧ t.rst.hbArmed = false ∧ t.rst.dusk = false ∧
    t.rst.dawn = .held
  lost : t.clerk0 = {} ∧ t.clerk1 = {} ∧ t.fab = {} ∧ t.bus = {} ∧ t.tel = {} ∧ t.conv = {}
  byte : ∀ a, t.byte a = if 0x60000000 ≤ a then s.byte a else memDefault a
  balls : ∀ n, BallsLow n t
  kept : t.melo = s.melo ∧ t.nw = s.nw ∧ t.sup = { copies := s.sup.copies } ∧ t.fuses.blown = s.fuses.blown ∧ t.pending = s.pending

/-- Both balls of every half-bridge are low after the reset (R50). -/
theorem ballsLow_of_gate {t : State} {l : List GateHb} {now : Nat} (h : t.gate = l.map (fun x => x.afterReset now)) (n : Nat) :
    BallsLow n t := by
  unfold BallsLow State.hb nth
  rw [h, List.getD_eq_getElem?_getD, List.getElem?_map]
  cases l[n]? <;> exact ⟨rfl, rfl⟩

theorem State.powerOnEntered (s : State) : PowerOnEntered s (s.resetArrive [1]) := by
  have hregs (a : Nat) : s.powerOnReset.rd a = resetOf a := rfl
  obtain ⟨regs, gate, heq⟩ := s.vetoed_gateOnly.fields
  rw [s.resetArrive_powerOn]
  constructor
  case cause => rw [State.rd_recordReset, if_pos rfl]; rfl
  case regs => exact fun a ha => by rw [State.rd_recordReset, if_neg ha, hregs]
  all_goals unfold State.powerOnReset; rw [heq]
  case rst => exact ⟨rfl, rfl, rfl, rfl, rfl, rfl⟩
  case lost => exact ⟨rfl, rfl, rfl, rfl, rfl, rfl⟩
  case byte => exact fun a => State.byte_dieReset _ a
  case balls => exact fun n => ballsLow_of_gate rfl n
  case kept => exact ⟨rfl, rfl, rfl, rfl, rfl⟩

theorem exec_powerOnReset (s : State) : exec .powerOnReset s = .next (s.resetArrive [1]) := rfl

/-- Settles O3: whatever is in progress the cause 0x01 is accepted, recorded, and enters the power-on reset. -/
theorem powerOnResetKeepsOnlyMeterAndStore : Obligations.PowerOnResetKeepsOnlyMeterAndStore := by
  unfold Obligations.PowerOnResetKeepsOnlyMeterAndStore
  intro s
  obtain ⟨hcause, hregs, ⟨hstretch, hrstn, hveto, harmed, hdusk, hdawn⟩, ⟨hc0, hc1, hfab, hbus, htel, hconv⟩, hbyte, hballs, hkept⟩ :=
    s.powerOnEntered
  refine ⟨_, exec_powerOnReset s, hcause, hregs, hstretch, hrstn, hveto, harmed, hdusk, hdawn, hc0, hc1, hfab, hbus, htel, hconv,
    fun a ha => ?low, fun a ha => ?high, hballs, hkept⟩
  case low => rw [hbyte, if_neg (by omega)]
  case high => rw [hbyte, if_pos ha]

end Sys2Proof.Machine
end

section
/-!
A system reset and a core reset entered with no reset in progress (R84, R86-R93, R96, R454): what each leaves, and each source's
way to it.
-/
namespace Sys2Proof.Machine

/-! ### A system reset (R86-R88) -/

/-- `t` is `s` after a system reset: the control die holds nothing of before, GATE_VETO is held, and the power-side die's registers,
the meter and external memory stand. -/
structure DieLost (s t : State) : Prop where
  rst : t.rst.veto = true ∧ t.rst.vetoHold = true ∧ t.rst.hbArmed = false ∧ t.rst.wdRun = false ∧ t.rst.dawn = .held
  lost : t.clerk0 = {} ∧ t.clerk1 = {} ∧ t.fab = {} ∧ t.bus = {}
  byte : ∀ a, t.byte a = if 0x60000000 ≤ a then s.byte a else memDefault a
  kept : t.melo = s.melo ∧ t.nw = s.nw ∧ t.cmp = s.cmp ∧ t.fuses = s.fuses ∧ t.sup.params = s.sup.params ∧
    t.sup.copies = s.sup.copies ∧ t.pending = s.pending
  supply : ∀ a ∈ [RSUP.SUPSTAT, RSUP.SUPFLAG], t.rd a = s.rd a

/-- The registers, beside the control die's, that a system reset writes. -/
def resetTouches (a : Nat) : Prop :=
  gatePage a ∨ a ∈ [SMBX.base + 0x14, RSUP.DUSKCAUSE, RSUP.base + 0x10, RSUP.base + 0x14, SYS.STAT, RSUP.RSTCAUSE]

theorem not_resetTouches_supply : ∀ a ∈ [RSUP.SUPSTAT, RSUP.SUPFLAG], ¬ resetTouches a := by
  simp [resetTouches, gatePage, RSUP.SUPSTAT, RSUP.SUPFLAG, RSUP.base, SMBX.base]

namespace DieLost

section
variable {s t : State} (h : DieLost s t)
include h

/-- A register that a system reset may write. -/
theorem wr {a : Nat} (ha : resetTouches a) (v : Word) : DieLost s (t.wr a v) where
  rst := h.rst
  lost := h.lost
  byte := h.byte
  kept := h.kept
  supply b hb := by
    have hne : b ≠ a := by
      rintro rfl
      exact not_resetTouches_supply b hb ha
    rw [State.rd_wr_ne _ _ hne, h.supply b hb]

theorem setBit {a : Nat} (ha : resetTouches a) (i : Nat) (b : Bool) : DieLost s (t.setBit a i b) := h.wr ha _

theorem ite {u : State} (hu : DieLost s u) (c : Prop) [Decidable c] : DieLost s (if c then t else u) := by
  split
  · exact h
  · exact hu

theorem debugLost : DieLost s t.debugLost :=
  (⟨h.rst, h.lost, h.byte, h.kept, h.supply⟩ : DieLost s { t with jtag := {} }).wr (.inr (by decide)) _

theorem endDusk : DieLost s t.endDusk := by
  have hend := t.endDusk_safetyOnly (P := resetTouches) (fun _ => .inl) (.inr (by decide)) (.inr (by decide))
  obtain ⟨-, hhold, harmed, hwd, hdawn⟩ := h.rst
  have hveto := State.endDusk_veto hhold
  have hsupply : ∀ a ∈ [RSUP.SUPSTAT, RSUP.SUPFLAG], t.endDusk.rd a = s.rd a := fun a ha =>
    (hend.regs a (not_resetTouches_supply a ha)).trans (h.supply a ha)
  obtain ⟨regs, gate, veto, k, st, heq⟩ := hend.fields
  rw [heq] at hveto hsupply ⊢
  exact ⟨⟨hveto, hhold, harmed, hwd, hdawn⟩, h.lost, h.byte, h.kept, hsupply⟩

theorem recordReset (l : RLevel) (c : Nat) (test : Bool) : DieLost s (t.recordReset l c test) := by
  obtain ⟨hrst, hlost, hbyte, hkept, hsupply⟩ := h.wr (a := RSUP.RSTCAUSE) (.inr (by decide)) (Word.ofNat (l.code * 256 + c))
  exact ⟨hrst, hlost, hbyte, hkept, hsupply⟩

end
end DieLost

/-- Monitoring is disarmed, the watchdog stopped, the veto held, and the Dawn sequence back at its start (R86, R87). -/
def State.holdDie (s : State) : State :=
  { s with rst := { s.rst with
    vetoHold := true, hbArmed := false, hbStopped := false, wdRun := false, wdLimit := 2000, dawn := .held, entry := 0,
    coreMask := 0, attempt := 0, firstFail := 0 } }

/-- From what the safety unit's ordered opening leaves, the control die goes to reset. -/
theorem State.SafetyOnly.dieLost {s u : State} (h : s.SafetyOnly resetTouches u) :
    DieLost s (if u.holdDie.rst.veto then u.holdDie else u.holdDie.assertVeto).dieReset := by
  have hveto := u.holdDie.vetoed_gateOnly
  have hsupply : ∀ a ∈ [RSUP.SUPSTAT, RSUP.SUPFLAG],
      (if u.holdDie.rst.veto then u.holdDie else u.holdDie.assertVeto).dieReset.rd a = s.rd a := by
    intro a ha
    have hkept : keptByDie a := by
      simp only [List.mem_cons, List.not_mem_nil, or_false] at ha
      rcases ha with rfl | rfl <;> exact ⟨⟨by decide, by decide⟩, by decide⟩
    have htouch := not_resetTouches_supply a ha
    exact (State.rd_dieReset _ hkept).trans ((hveto.regs a fun hg => htouch (.inl hg)).trans (h.regs a htouch))
  obtain ⟨_, _, heq⟩ := hveto.fields
  rw [heq] at hsupply ⊢
  obtain ⟨_, _, _, _, _, rfl⟩ := h.fields
  exact ⟨⟨rfl, rfl, rfl, rfl, rfl⟩, ⟨rfl, rfl, rfl, rfl⟩, fun a => State.byte_dieReset _ a, ⟨rfl, rfl, rfl, rfl, rfl, rfl, rfl⟩,
    hsupply⟩

theorem State.systemReset_dieLost (s : State) (endsDusk debugLoss : Bool) : DieLost s (s.systemReset endsDusk debugLoss) := by
  have hopen : s.SafetyOnly resetTouches (if s.rst.veto then s else s.resetOpening) := by
    split
    · exact .refl _ s
    · exact (State.SafetyOnly.refl _ s).resetOpening (.inr (by decide))
  have hheader := (hopen.dieLost.setBit (a := RSUP.base + 0x10) (.inr (by decide)) 8 false).setBit (a := RSUP.base + 0x14)
    (.inr (by decide)) 1 false
  have hdebug := hheader.debugLost.ite hheader (debugLoss = true)
  exact hdebug.endDusk.ite hdebug _

/-- A reset that ends the Dusk state where it lasts leaves none. -/
theorem State.endDuskIf_dusk (u : State) : (if true = true ∧ u.rst.dusk = true then u.endDusk else u).rst.dusk = false := by
  split
  case isTrue => exact u.endDusk_dusk
  case isFalse h => simpa using h

theorem State.systemReset_dusk (s : State) (debugLoss : Bool) : (s.systemReset true debugLoss).rst.dusk = false :=
  State.endDuskIf_dusk _

/-- With no reset in progress a system-level cause loses the control die. -/
theorem State.resetArrive_dieLost {s : State} (hno : s.noReset) {c : Nat} (hc : causeLevel c = some .system) :
    DieLost s (s.resetArrive [c]) := by
  obtain ⟨test, heq⟩ := State.resetArrive_of_noReset hno hc
  rw [heq]
  exact (s.systemReset_dieLost _ _).recordReset _ _ _

/-- With no reset in progress a system-level cause enters a system reset with its code. -/
theorem State.resetArrive_system {s : State} (hno : s.noReset) {c : Nat} (hc : causeLevel c = some .system) :
    SystemResetEntered c s (s.resetArrive [c]) := by
  obtain ⟨⟨hveto, -, harmed, hwd, hdawn⟩, ⟨hc0, hc1, hfab, hbus⟩, hbyte, ⟨hmelo, hnw, hcmp, hfuses, hparams, hcopies, hpending⟩, -⟩ :=
    State.resetArrive_dieLost hno hc
  obtain ⟨test, heq⟩ := State.resetArrive_of_noReset hno hc
  have hcause : (s.resetArrive [c]).rd RSUP.RSTCAUSE = Word.ofNat (0x200 + c) := by rw [heq, State.rd_recordReset, if_pos rfl]; rfl
  have hstretch : (s.resetArrive [c]).rst.stretch = some .system := by rw [heq]; rfl
  have hrstn : (s.resetArrive [c]).rst.rstnLow = true := by rw [heq]; rfl
  refine ⟨hcause, hstretch, hrstn, hveto, harmed, hwd, hdawn, hc0, hc1, hfab, hbus, fun a ha => ?low, fun a ha => ?high,
    hmelo, hnw, hcmp, hfuses, hparams, hcopies, hpending⟩
  case low => rw [hbyte, if_neg (by omega)]
  case high => rw [hbyte, if_pos ha]

/-! ### A core reset (R89, R90, R508) -/

theorem State.clerk_updClerk (s : State) {h k : Nat} (hh : h < 2) (hk : k < 2) (f : Clerk → Clerk) :
    (s.updClerk h f).clerk k = if k = h then f (s.clerk k) else s.clerk k := by
  obtain rfl | rfl : h = 0 ∨ h = 1 := by omega
  all_goals obtain rfl | rfl : k = 0 ∨ k = 1 := by omega
  all_goals rfl

/-- From `s` the clerks of `mask` have been taken by a core reset of cause `c`: they are held, their reservations lost, and their
responses discarded; the other clerk and everything else stand. -/
structure HartsTaken (c mask : Nat) (s t : State) : Prop where
  taken : ∀ h, h < 2 → mask.testBit h = true →
    (t.clerk h).held = true ∧ (t.clerk h).resv = none ∧ (t.clerk h).rstCause = c ∧ t.rst.coreMask.testBit h = true
  other : ∀ h, h < 2 → mask.testBit h = false → t.clerk h = s.clerk h
  fields : ∃ coreMask clerk0 clerk1 fab health waiting, t = { s with
    rst := { s.rst with coreMask := coreMask }, clerk0 := clerk0, clerk1 := clerk1, fab := fab, health := health,
    bus := { s.bus with waiting := waiting } }

theorem HartsTaken.refl (c : Nat) (s : State) : HartsTaken c 0 s s :=
  ⟨by simp, fun _ _ _ => rfl, ⟨_, _, _, _, _, _, rfl⟩⟩

theorem State.coreResetHart_clerk (s : State) {h k : Nat} (hh : h < 2) (hk : k < 2) (c : Nat) : (s.coreResetHart h c).clerk k =
    if k = h then (s.clerk k).coreReset c (s.rst.coreMask.testBit h) else s.clerk k := State.clerk_updClerk s hh hk _

/-- One more clerk is taken. -/
theorem HartsTaken.coreResetHart {c mask : Nat} {s t : State} (ht : HartsTaken c mask s t) {h : Nat} (hh : h < 2) :
    HartsTaken c (mask ||| 2 ^ h) s (t.coreResetHart h c) := by
  have hbit (k : Nat) : (t.coreResetHart h c).rst.coreMask.testBit k = (t.rst.coreMask.testBit k || decide (h = k)) := by
    rw [← Nat.testBit_two_pow, ← Nat.testBit_or]
    obtain rfl | rfl : h = 0 ∨ h = 1 := by omega
    all_goals rfl
  constructor
  case taken =>
    intro k hk hmask
    rw [t.coreResetHart_clerk hh hk, hbit]
    by_cases heq : k = h
    · simp [heq, Clerk.coreReset]
    · rw [Nat.testBit_or, Nat.testBit_two_pow] at hmask
      simpa [heq, Ne.symm heq] using ht.taken k hk (by simpa [Ne.symm heq] using hmask)
  case other =>
    intro k hk hmask
    rw [Nat.testBit_or, Nat.testBit_two_pow] at hmask
    obtain ⟨hmask, hne⟩ : mask.testBit k = false ∧ h ≠ k := by simpa using hmask
    rw [t.coreResetHart_clerk hh hk, if_neg (Ne.symm hne), ht.other k hk hmask]
  case fields =>
    obtain ⟨_, _, _, _, _, _, rfl⟩ := ht.fields
    obtain rfl | rfl : h = 0 ∨ h = 1 := by omega
    all_goals exact ⟨_, _, _, _, _, _, rfl⟩

theorem causeHarts_cases (c : Nat) : causeHarts c = 1 ∨ causeHarts c = 2 ∨ causeHarts c = 3 := by
  unfold causeHarts
  grind

theorem State.coreReset_hartsTaken (s : State) (c : Nat) : HartsTaken c (causeHarts c) s (s.coreReset c) := by
  have hnone := HartsTaken.refl c s
  unfold State.coreReset
  rcases causeHarts_cases c with h | h | h <;> rw [h]
  · exact hnone.coreResetHart (h := 0) (by decide)
  · exact hnone.coreResetHart (h := 1) (by decide)
  · exact (hnone.coreResetHart (h := 0) (by decide)).coreResetHart (h := 1) (by decide)

/-- A recorded core reset has changed its record, and what the clerks taken have. -/
theorem HartsTaken.recordReset_frame {c mask : Nat} {s u : State} (h : HartsTaken c mask s u) (l : RLevel) (test : Bool) :
    RegsBut (fun a => a = RSUP.RSTCAUSE) s (u.recordReset l c test) ∧ u.recordReset l c test = { s with
      regs := (u.recordReset l c test).regs, rst := (u.recordReset l c test).rst, clerk0 := (u.recordReset l c test).clerk0,
      clerk1 := (u.recordReset l c test).clerk1, fab := (u.recordReset l c test).fab, health := (u.recordReset l c test).health,
      bus := { s.bus with waiting := (u.recordReset l c test).bus.waiting } } := by
  obtain ⟨_, _, _, _, _, _, rfl⟩ := h.fields
  refine ⟨fun a ha => ?_, rfl⟩
  rw [State.rd_recordReset, if_neg ha]
  rfl

/-- With no reset in progress a core-level cause enters a core reset of the clerks that it names. -/
theorem State.resetArrive_core {s : State} (hno : s.noReset) {c : Nat} (hc : causeLevel c = some .core) :
    CoreResetEntered c s (s.resetArrive [c]) := by
  obtain ⟨test, heq⟩ := State.resetArrive_of_noReset hno hc
  have htaken := s.coreReset_hartsTaken c
  rw [heq]
  refine ⟨?cause, rfl, rfl, htaken.taken, htaken.other, htaken.recordReset_frame .core test⟩
  rw [State.rd_recordReset, if_pos rfl]
  rfl

end Sys2Proof.Machine
end

section
/-!
The sources of resets (R84, R88-R93, R96, R454): each reaches its level with its code, from every state with no reset in progress.
-/
namespace Sys2Proof.Machine

/-! ### Supply monitors (R84, R85) -/

/-- The rail's GOOD bit is cleared and its flag set, and the latches of a bank that has lost its supply are lost (R85, R101). -/
def State.railLow (s : State) (rail : Nat) : State :=
  ((s.setBit RSUP.SUPSTAT rail false).setBit RSUP.SUPFLAG rail true).bankLost rail

theorem State.railLow_eq (s : State) (rail : Nat) : ∃ fuses, s.railLow rail =
    { (s.setBit RSUP.SUPSTAT rail false).setBit RSUP.SUPFLAG rail true with fuses := fuses } := by
  unfold State.railLow State.bankLost
  split <;> exact ⟨_, rfl⟩

theorem State.railLow_rst (s : State) (rail : Nat) : (s.railLow rail).rst = s.rst := by
  obtain ⟨_, heq⟩ := s.railLow_eq rail
  rw [heq]
  rfl

theorem State.railLow_noReset {s : State} (hno : s.noReset) (rail : Nat) : (s.railLow rail).noReset := by
  unfold State.noReset
  rw [s.railLow_rst]
  exact hno

theorem State.railLow_kept (s : State) (rail : Nat) :
    (s.railLow rail).melo = s.melo ∧ (s.railLow rail).nw = s.nw ∧ (s.railLow rail).sup = s.sup := by
  obtain ⟨_, heq⟩ := s.railLow_eq rail
  rw [heq]
  exact ⟨rfl, rfl, rfl⟩

theorem State.railLow_rd (s : State) (rail a : Nat) :
    (s.railLow rail).rd a = ((s.setBit RSUP.SUPSTAT rail false).setBit RSUP.SUPFLAG rail true).rd a := by
  obtain ⟨_, heq⟩ := s.railLow_eq rail
  rw [heq]
  rfl

theorem State.railLow_supstat (s : State) {rail : Nat} (hr : rail < 32) : (s.railLow rail).bit RSUP.SUPSTAT rail = false := by
  rw [State.bit_congr (s.railLow_rd rail _), State.bit_setBit_ne _ (by decide), State.bit_setBit_self _ _ hr, if_pos rfl]

theorem State.railLow_supflag (s : State) {rail : Nat} (hr : rail < 32) : (s.railLow rail).bit RSUP.SUPFLAG rail = true := by
  rw [State.bit_congr (s.railLow_rd rail _), State.bit_setBit_self _ _ hr, if_pos rfl]

/-- A monitored rail that falls is shown low and reacted to. -/
theorem exec_supplyMonitorFall {s : State} {rail : Nat} (hr : rail < 14) (hgood : s.bit RSUP.SUPSTAT rail = true) :
    exec (.supplyMonitorFall rail) s = .next ((s.railLow rail).railReaction rail) := by
  change execSupplyMonitorFall rail s = _
  rw [execSupplyMonitorFall, if_neg (by omega), if_neg (by omega), if_neg (by simp [hgood])]
  rfl

/-- The monitor of a rail of the control die enters a system reset; the rail is shown low, and the meter goes on. -/
theorem supplyMonitorFall_system {s : State} (hno : s.noReset) {rail c : Nat} (hr : rail < 14) (hgood : s.bit RSUP.SUPSTAT rail = true)
    (hreact : (s.railLow rail).railReaction rail = (s.railLow rail).resetArrive [c]) (hc : causeLevel c = some .system) :
    ∃ t, exec (.supplyMonitorFall rail) s = .next t ∧
      t.rd RSUP.RSTCAUSE = Word.ofNat (0x200 + c) ∧ t.rst.stretch = some .system ∧ t.rst.veto = true ∧ t.rst.dawn = .held ∧
      t.bit RSUP.SUPSTAT rail = false ∧ t.bit RSUP.SUPFLAG rail = true ∧ t.melo = s.melo ∧ t.nw = s.nw := by
  have hnoLow := State.railLow_noReset hno rail
  have hlost := State.resetArrive_dieLost hnoLow hc
  obtain ⟨hcause, hstretch, -⟩ := State.resetArrive_system hnoLow hc
  obtain ⟨⟨hveto, -, -, -, hdawn⟩, -, -, ⟨hmelo, hnw, -⟩, hsupply⟩ := hlost
  obtain ⟨hmeloLow, hnwLow, -⟩ := s.railLow_kept rail
  have hstat := s.railLow_supstat (rail := rail) (by omega)
  have hflag := s.railLow_supflag (rail := rail) (by omega)
  refine ⟨_, exec_supplyMonitorFall hr hgood, ?_⟩
  rw [hreact]
  exact ⟨hcause, hstretch, hveto, hdawn, (State.bit_congr (hsupply _ (by decide)) _).trans hstat,
    (State.bit_congr (hsupply _ (by decide)) _).trans hflag, hmelo.trans hmeloLow, hnw.trans hnwLow⟩

/-! ### The other sources -/

theorem exec_resetCauseArrive_one {s : State} {c : Nat} (h : s.causeStands c = true) :
    exec (.resetCauseArrive [c]) s = .next (s.resetArrive [c]) := by
  change Host.Outcome.next (s.resetArrive ([c].filter s.causeStands)) = _
  rw [List.filter_cons, if_pos h, List.filter_nil]

/-- The board holds RST_N no longer than the request says (R93). -/
def State.rstnHeldBy (s : State) (holds : Bool) : State := { s with rst := { s.rst with rstnHeld := s.rst.rstnHeld && holds } }

/-- A request of 1 µs or more is taken, and the board may go on holding the ball (R93, R94). -/
theorem exec_rstNRequest_taken {s : State} {low us : Nat} (hlow : s.rst.rstnLow = false) (hns : 1000 ≤ low) (hus : 10 ≤ us) (holds : Bool) :
    exec (.rstNRequest low us holds) s = .next { (s.rstnHeldBy holds).resetArrive [0x10] with
      rst := { ((s.rstnHeldBy holds).resetArrive [0x10]).rst with rstnHeld := holds } } := by
  change execRstNRequest low us holds s = _
  simp only [execRstNRequest]
  rw [if_neg (by simp [hlow]; omega), if_pos hns]
  rfl

theorem exec_rstreqSystemReset_now {s : State} (h : s.mustWait .ps RSUP.base = false) (init : Nat) :
    exec (.rstreqSystemReset init) s = .next ((s.respond init RSUP.RSTREQ 0).resetArrive [0x12]) := by
  change Host.Outcome.next (s.writeAt .ps RSUP.base init RSUP.RSTREQ 0xB0A70010 (rstreqWrite init 0xB0A70010)) = _
  rw [State.writeAt_now h]
  rfl

/-- A core key names its clerks and so its cause (R89). -/
theorem exec_rstreqCoreReset_now {s : State} (h : s.mustWait .ps RSUP.base = false) (init : Nat) {k : Nat} (hk : 1 ≤ k) (hk3 : k ≤ 3) :
    exec (.rstreqCoreReset init k) s = .next ((s.respond init RSUP.RSTREQ 0).resetArrive [0x1F + k]) := by
  change execRstreqCoreReset init k s = _
  simp only [execRstreqCoreReset]
  rw [State.writeAt_now h, if_pos ⟨hk, hk3⟩]
  obtain rfl | rfl | rfl : k = 1 ∨ k = 2 ∨ k = 3 := by omega
  all_goals rfl

/-- Any other key is refused (R89). -/
theorem exec_rstreqCoreReset_refused {s : State} (h : s.mustWait .ps RSUP.base = false) (init : Nat) {k : Nat} (hk : k = 0 ∨ 3 < k) :
    exec (.rstreqCoreReset init k) s = .next (s.errorResp init RSUP.RSTREQ .refused true) := by
  change execRstreqCoreReset init k s = _
  simp only [execRstreqCoreReset]
  rw [State.writeAt_now h, if_neg (by omega)]
  rfl

theorem exec_lockstepMismatch_running {s : State} {h : Nat} (hh : h < 2) (hrun : (s.clerk h).held = false) :
    exec (.lockstepMismatch h) s = .next (s.resetArrive [0x24 + h]) := by
  change execLockstepMismatch h s = _
  rw [execLockstepMismatch, if_pos (by simp [hh, hrun])]

/-- The watchdog's count has stopped, at the instant of its expiry. -/
def State.watchdogOut (s : State) (at_ : Nat) : State :=
  { s.atTime at_ with rst := { s.rst with wdRun := false } }

theorem exec_watchdogExpiry {s : State} (hrun : s.rst.wdRun = true) (at_ : Nat) : exec (.watchdogExpiry at_) s =
    .next (if s.rst.hbArmed then (s.watchdogOut at_).enterDusk 2 else (s.watchdogOut at_).resetArrive [0x11]) := by
  change execWatchdogExpiry at_ s = _
  have hrun' : (s.atTime at_).rst.wdRun = true := hrun
  simp only [execWatchdogExpiry, if_pos hrun']
  rfl

theorem exec_autoRestart_due {s : State} (hdusk : s.rst.dusk = true) (hdue : s.autoRestartDue = true) :
    exec .autoRestart s = .next (s.resetArrive [0x14]) := by
  change execAutoRestart s = _
  rw [execAutoRestart, if_pos ⟨hdusk, hdue⟩]

/-- An automatic restart ends the Dusk state (R45, R454). -/
theorem State.resetArrive_autoRestart_dusk {s : State} (hno : s.noReset) : (s.resetArrive [0x14]).rst.dusk = false := by
  obtain ⟨test, heq⟩ := State.resetArrive_of_noReset hno (c := 0x14) (l := .system) (by decide)
  rw [heq]
  exact s.systemReset_dusk false

/-- An error response leaves the reset controller alone. -/
theorem State.errorResp_rst (s : State) (init a : Nat) (c : Cause) (w : Bool) (sub : Nat) :
    (s.errorResp init a c w sub).rst = s.rst := by
  obtain ⟨_, _, _, _, heq⟩ := ((State.ErrorFrame.refl s).errorResp init a c w sub).fields
  rw [heq]

/-- Settles O4: each source reaches the arrival of its own cause, and with no reset in progress the cause enters its level. -/
theorem resetCausesEnterTheirLevel : Obligations.ResetCausesEnterTheirLevel := by
  unfold Obligations.ResetCausesEnterTheirLevel
  intro s hno
  refine ⟨?system, ?core, ?rstn, ?rstreqSystem, ?rstreqCore, ?rstreqRefused, ?lockstep, ?watchdog, ?restart, ?powerRail, ?coreRail,
    ?rail⟩
  case system => exact fun c hc hstands => ⟨_, exec_resetCauseArrive_one hstands, State.resetArrive_system hno hc⟩
  case core => exact fun c hc hstands => ⟨_, exec_resetCauseArrive_one hstands, State.resetArrive_core hno hc⟩
  case rstn =>
    intro low us holds hlow hns hus
    have hentered := State.resetArrive_system (s := s.rstnHeldBy holds) (c := 0x10) hno (by decide)
    exact ⟨_, exec_rstNRequest_taken hlow hns hus holds, hentered, rfl⟩
  case rstreqSystem =>
    intro init hnow
    exact ⟨_, exec_rstreqSystemReset_now hnow init, State.resetArrive_system (s := s.respond init RSUP.RSTREQ 0) hno (by decide)⟩
  case rstreqCore =>
    intro init k hnow hk hk3
    refine ⟨_, exec_rstreqCoreReset_now hnow init hk hk3, State.resetArrive_core (s := s.respond init RSUP.RSTREQ 0) hno ?_⟩
    obtain rfl | rfl | rfl : k = 1 ∨ k = 2 ∨ k = 3 := by omega
    all_goals rfl
  case rstreqRefused =>
    intro init k hnow hk
    exact ⟨_, exec_rstreqCoreReset_refused hnow init hk, State.errorResp_resp .., State.errorResp_rst ..⟩
  case lockstep =>
    intro h hh hrun
    refine ⟨_, exec_lockstepMismatch_running hh hrun, State.resetArrive_core hno ?_⟩
    obtain rfl | rfl : h = 0 ∨ h = 1 := by omega
    all_goals rfl
  case watchdog =>
    intro at_ hrun harmed
    rw [exec_watchdogExpiry hrun, if_neg (by simp [harmed])]
    exact ⟨_, rfl, State.resetArrive_system (s := s.watchdogOut at_) hno (by decide)⟩
  case restart =>
    exact fun hdusk hdue => ⟨_, exec_autoRestart_due hdusk hdue, State.resetArrive_system hno (by decide),
      State.resetArrive_autoRestart_dusk hno⟩
  case powerRail =>
    intro rail hr hgood
    have hreact : (s.railLow rail).railReaction rail = (s.railLow rail).resetArrive [1] := by
      rw [State.railReaction, if_pos hr]
    obtain ⟨hcause, hregs, ⟨hstretch, -, hveto, -, -, hdawn⟩, -, -, -, hmelo, hnw, hsup, -⟩ := (s.railLow rail).powerOnEntered
    obtain ⟨hmeloLow, hnwLow, hsupLow⟩ := s.railLow_kept rail
    refine ⟨_, exec_supplyMonitorFall (by omega) hgood, ?_⟩
    rw [hreact]
    exact ⟨hcause, hregs, hstretch, hveto, hdawn, hmelo.trans hmeloLow, hnw.trans hnwLow, by rw [hsup, hsupLow]⟩
  case coreRail =>
    intro rail hr hgood
    refine supplyMonitorFall_system hno (by omega) hgood (c := 7) ?_ (by decide)
    obtain rfl | rfl := hr <;> rfl
  case rail =>
    intro rail hlo hhi hgood
    refine supplyMonitorFall_system hno (by omega) hgood (c := rail - 2) ?_ ?_
    · rw [State.railReaction, if_neg (by omega), if_neg (by omega), if_neg (by omega), if_pos hhi]
    · rw [causeLevel, if_neg (by omega), if_pos (by omega)]

end Sys2Proof.Machine
end

section
/-!
Monitors that only report, the end of a stretch, core restarts, watchdog kicks and an expiry that begins the Dusk state (R43, R44,
R84, R85, R92, R93, R96, R507, R508).
-/
namespace Sys2Proof.Machine

/-! ### Monitors that only report (R84, R85) -/

/-- A rail that supplies no bank with fused balls leaves the latches alone (R101). -/
theorem State.railLow_noBank (s : State) {rail : Nat} (h : rail < 7 ∨ 10 < rail) :
    s.railLow rail = (s.setBit RSUP.SUPSTAT rail false).setBit RSUP.SUPFLAG rail true := by
  rw [State.railLow, State.bankLost, if_neg (by omega)]

/-- A rail that has fallen, and RSUP's interrupt. -/
def State.railReported (s : State) (rail : Nat) : State :=
  ((s.setBit RSUP.SUPSTAT rail false).setBit RSUP.SUPFLAG rail true).irq RSUP.base 0

theorem State.railReported_bits (s : State) {rail : Nat} (hr : rail < 32) : (s.railReported rail).bit RSUP.SUPSTAT rail = false ∧
    (s.railReported rail).bit RSUP.SUPFLAG rail = true ∧ (s.railReported rail).bit (RSUP.base + 0x14) 0 = true := by
  unfold State.railReported State.irq
  refine ⟨?_, ?_, ?_⟩
  · rw [State.bit_setBit_ne _ (by decide), State.bit_setBit_ne _ (by decide), State.bit_setBit_self _ _ hr, if_pos rfl]
  · rw [State.bit_setBit_ne _ (by decide), State.bit_setBit_self _ _ hr, if_pos rfl]
  · rw [State.bit_setBit_self _ _ (by decide), if_pos rfl]

theorem State.railReported_regs (s : State) (rail : Nat) :
    RegsBut (fun a => a ∈ [RSUP.SUPSTAT, RSUP.SUPFLAG, RSUP.base + 0x14]) s (s.railReported rail) :=
  (((RegsBut.refl _ s).wr (by simp) _).wr (by simp) _).wr (by simp) _

theorem exec_supplyMonitorFall_reports {s : State} {rail : Nat} (hr : rail ∈ [3, 11, 12, 13]) (hgood : s.bit RSUP.SUPSTAT rail = true) :
    exec (.supplyMonitorFall rail) s = .next (s.railReported rail) := by
  simp only [List.mem_cons, List.not_mem_nil, or_false] at hr
  rw [exec_supplyMonitorFall (by omega) hgood, s.railLow_noBank (by omega), State.railReaction, if_neg (by omega), if_neg (by omega),
    if_pos hr, State.railReported]

/-- VDRV's monitor also shows the auxiliary drivers' undervoltage (R84, R243). -/
theorem exec_supplyMonitorFall_vdrv {s : State} (hgood : s.bit RSUP.SUPSTAT 2 = true) :
    exec (.supplyMonitorFall 2) s = .next ((s.railReported 2).auxVdrv true) := by
  rw [exec_supplyMonitorFall (by decide) hgood, s.railLow_noBank (by decide)]
  rfl

/-- The drivers' undervoltage is shown, at its beginning with their interrupt. -/
theorem State.auxVdrv_low (s : State) : (s.auxVdrv true).bit AXSTAT 30 = true ∧
    RegsBut (fun a => a = AXSTAT ∨ a = AUX.base + 0x14) s (s.auxVdrv true) ∧
    s.auxVdrv true = { s with regs := (s.auxVdrv true).regs } := by
  unfold State.auxVdrv
  rw [if_pos rfl]
  split
  case isTrue hlow => exact ⟨hlow, RegsBut.refl _ s, rfl⟩
  case isFalse =>
    refine ⟨?_, ((RegsBut.refl _ s).wr (.inl rfl) _).wr (.inr rfl) _, rfl⟩
    rw [State.irq, State.bit_setBit_ne _ (by decide), State.bit_setBit_self _ _ (by decide), if_pos rfl]

theorem exec_supplyMonitorGood {s : State} {rail : Nat} (h : rail < 14 ∨ (rail < 18 ∧ s.bit (RSUP.VMON (rail - 14)) 31 = true)) :
    exec (.supplyMonitorGood rail) s = .next (if rail = 2 ∧ s.bit RSUP.SUPSTAT 2 = false then
      (s.setBit RSUP.SUPSTAT rail true).auxVdrv false else s.setBit RSUP.SUPSTAT rail true) := by
  change execSupplyMonitorGood rail s = _
  have hmonitored : ¬ (14 ≤ rail ∧ (!s.bit (RSUP.VMON (rail - 14)) 31) = true) := by
    rintro ⟨hlo, hoff⟩
    rcases h with h | ⟨-, hon⟩
    · omega
    · simp [hon] at hoff
  rw [execSupplyMonitorGood, if_neg (by omega), if_neg hmonitored]
  simp only [Bool.not_eq_eq_eq_not, Bool.not_true]

/-! ### The end of a stretch (R92, R93, R109) -/

theorem exec_resetStretchEnd_held {s : State} (h : s.rst.rstnHeld = true) : exec .resetStretchEnd s = .next s := by
  change execResetStretchEnd s = _
  unfold execResetStretchEnd
  split <;> simp [h]

theorem exec_resetStretchEnd_free {s : State} {l : RLevel} (hl : s.rst.stretch = some l) (h : s.rst.rstnHeld = false) :
    exec .resetStretchEnd s = .next (
      if l = .core ∨ s.railsGood = true then { s with rst := { s.rst with stretch := none, rstnLow := false } }
      else if l = .powerOn ∧ s.bit RSUP.SUPSTAT 0 = true ∧ s.bit RSUP.SUPSTAT 1 = true then
        { s with rst := { s.rst with stretch := some .system } }
      else s) := by
  change execResetStretchEnd s = _
  simp only [execResetStretchEnd, hl, h]
  rfl

/-! ### Core restarts (R507, R508) -/

theorem testBit_setBitN_false (v i : Nat) : (setBitN v i false).testBit i = false := by
  unfold setBitN
  rw [if_neg (by decide), Nat.and_two_pow]
  cases h : v.testBit i
  · simpa using h
  · have hle := Nat.ge_two_pow_of_testBit h
    have hflip := Nat.testBit_two_pow_add_eq (v - 2 ^ i) i
    rw [Nat.add_sub_of_le hle, h] at hflip
    simpa using hflip

/-- A clerk whose core reset is over leaves the reset's mask and gives up the sources its context has claimed. -/
def State.coreReleased (s : State) (h : Nat) : State :=
  { s with claimed := s.claimed.filter (fun p => p.2 != h), rst := { s.rst with coreMask := setBitN s.rst.coreMask h false } }

theorem exec_coreResetRestart_running {s : State} {h : Nat} (hh : h < 2) (hmask : s.rst.coreMask.testBit h = true)
    (hstretch : s.rst.stretch = none) (hdawn : s.rst.dawn = .running) :
    exec (.coreResetRestart h) s = .next ((s.coreReleased h).updClerk h (fun c => c.restart s.rst.entry)) := by
  change execCoreResetRestart h s = _
  rw [execCoreResetRestart, if_pos ⟨hh, hmask, hstretch⟩, if_pos hdawn]
  rfl

/-! ### The watchdog (R43, R96) -/

theorem exec_wdogKick_now {s : State} (h : s.mustWait .ps RSUP.base = false) (hdawn : s.rst.dawn ≠ .held) (init : Nat) :
    exec (.wdogKick init) s = .next (s.wdKick.respond init RSUP.WDOG_KICK 0) := by
  change Host.Outcome.next (s.writeAt .ps RSUP.base init RSUP.WDOG_KICK 0xA5A55A5A (wdogKickWrite init 0xA5A55A5A)) = _
  rw [State.writeAt_now h, wdogKickWrite, if_pos ⟨rfl, hdawn⟩]

/-- An expiry while monitoring is armed begins the Dusk state with code 2 (R43, R96). -/
theorem watchdogExpiry_armed {s : State} (hrun : s.rst.wdRun = true) (harmed : s.rst.hbArmed = true) (hdusk : s.rst.dusk = false)
    (at_ : Nat) : ∃ t, exec (.watchdogExpiry at_) s = .next t ∧
      t.rd RSUP.DUSKCAUSE = 0x102 ∧ t.rst = { s.rst with wdRun := false, dusk := true, veto := true } ∧ t.sup.duskPend = 0x21 ∧
      t.now = max s.now at_ ∧ RegsBut (fun a => gatePage a ∨ a = RSUP.DUSKCAUSE) s t ∧
      t = { s with regs := t.regs, rst := t.rst, gate := t.gate, sup := t.sup, now := t.now } := by
  have hduskOut : (s.watchdogOut at_).rst.dusk = false := hdusk
  have hcause := State.enterDusk_cause hduskOut 2
  have hveto := State.enterDusk_veto hduskOut 2
  have hframe := State.enterDusk_safetyOnly hduskOut 2
  refine ⟨(s.watchdogOut at_).enterDusk 2, by rw [exec_watchdogExpiry hrun, if_pos harmed], hcause, ?_⟩
  have hregs := hframe.regs
  obtain ⟨_, _, _, _, _, heq⟩ := hframe.fields
  rw [heq] at hveto hregs ⊢
  cases hveto
  exact ⟨rfl, rfl, rfl, hregs, rfl⟩

/-- Settles O5: each clause is its command's own equation, with the frame of what it writes. -/
theorem resetsEndAndWatchdogAndMonitorsAct : Obligations.ResetsEndAndWatchdogAndMonitorsAct := by
  unfold Obligations.ResetsEndAndWatchdogAndMonitorsAct
  intro s
  refine ⟨?reports, ?good, ?vdrvGood, ?vdrvFall, ?stretchEnd, ?psStretchEnd, fun hheld => exec_resetStretchEnd_held hheld, ?restart,
    ?kick, fun at_ hrun harmed hdusk => watchdogExpiry_armed hrun harmed hdusk at_⟩
  case reports =>
    intro rail hr hgood
    have hlt : rail < 32 := by
      simp only [List.mem_cons, List.not_mem_nil, or_false] at hr
      omega
    obtain ⟨hstat, hflag, hirq⟩ := s.railReported_bits hlt
    exact ⟨_, exec_supplyMonitorFall_reports hr hgood, hstat, hflag, hirq, s.railReported_regs rail, rfl⟩
  case good =>
    intro rail h2 hmonitored
    refine ⟨s.setBit RSUP.SUPSTAT rail true, ?_, ?_, (RegsBut.refl (· = RSUP.SUPSTAT) s).wr rfl _, rfl⟩
    · rw [exec_supplyMonitorGood hmonitored, if_neg (by simp [h2])]
    · rw [State.bit_setBit_self _ _ (by omega), if_pos rfl]
  case vdrvGood =>
    intro hlow
    refine ⟨(s.setBit RSUP.SUPSTAT 2 true).auxVdrv false, ?_, ?_, ?_, ((RegsBut.refl _ s).wr (.inl rfl) _).wr (.inr rfl) _, rfl⟩
    · rw [exec_supplyMonitorGood (.inl (by decide)), if_pos ⟨rfl, hlow⟩]
    · change ((s.setBit RSUP.SUPSTAT 2 true).setBit AXSTAT 30 false).bit RSUP.SUPSTAT 2 = true
      rw [State.bit_setBit_ne _ (by decide), State.bit_setBit_self _ _ (by decide), if_pos rfl]
    · change ((s.setBit RSUP.SUPSTAT 2 true).setBit AXSTAT 30 false).bit AXSTAT 30 = false
      rw [State.bit_setBit_self _ _ (by decide), if_pos rfl]
  case vdrvFall =>
    intro hgood
    obtain ⟨hstat, hflag, hirq⟩ := s.railReported_bits (rail := 2) (by decide)
    obtain ⟨hlow, hregs, hfields⟩ := (s.railReported 2).auxVdrv_low
    have hkeep {a : Nat} (ha : ¬ (a = AXSTAT ∨ a = AUX.base + 0x14)) (i : Nat) := State.bit_congr (hregs a ha) i
    refine ⟨_, exec_supplyMonitorFall_vdrv hgood, ?_, ?_, ?_, hlow, ?_, hfields⟩
    · rw [hkeep (by decide), hstat]
    · rw [hkeep (by decide), hflag]
    · rw [hkeep (by decide), hirq]
    · exact ((s.railReported_regs 2).mono (by simp)).trans (hregs.mono (by simp))
  case stretchEnd =>
    intro l hl hfree hend
    rw [exec_resetStretchEnd_free hl hfree, if_pos hend]
  case psStretchEnd =>
    intro hl hfree hrails h0 h1
    rw [exec_resetStretchEnd_free hl hfree, if_neg (by simp [hrails]), if_pos ⟨rfl, h0, h1⟩]
  case restart =>
    intro h hh hmask hstretch hdawn
    have hexec := exec_coreResetRestart_running hh hmask hstretch hdawn
    have hbit := testBit_setBitN_false s.rst.coreMask h
    have hclaimed : ∀ p ∈ (s.coreReleased h).claimed, p.2 ≠ h := by simp [State.coreReleased]
    obtain rfl | rfl : h = 0 ∨ h = 1 := by omega
    all_goals exact ⟨_, hexec, rfl, rfl, rfl, rfl, rfl, rfl, hbit, hclaimed, rfl⟩
  case kick =>
    intro init hnow hdawn
    exact ⟨_, exec_wdogKick_now hnow hdawn init, rfl, rfl, rfl⟩

end Sys2Proof.Machine
end

section
/-!
What the start-up sweep changes (R467): registers, the outputs of tripped generators, and the bookkeeping of the converters, the
teller array and the self-test controller. Beside the converters' own retirements it leaves HEALTH.RETIRED0 alone.
-/
namespace Sys2Proof.Machine

/-- `t` differs from `s` at most in registers of `P`, in generators and half-bridges, and in the bookkeeping of the units that the
sweep retires. -/
structure State.SweepOnly (P : Nat → Prop) (s t : State) : Prop where
  fields : ∃ regs gate pwm tel conv health, t = { s with
    regs := regs, gate := gate, pwm := pwm, tel := tel, conv := conv, health := health }
  regs : RegsBut P s t

/-- Every register but the record of retired converter units. -/
abbrev notRetired0 (a : Nat) : Prop := a ≠ HEALTH.RETIRED0

/-- The status of teller instances 0-7 stands apart from it, at any position. -/
theorem notRetired0_INSTSTAT {n i : Nat} (hi : i < 8) : notRetired0 (INSTSTAT n i) := by
  simp only [notRetired0, INSTSTAT, TLR.base, HEALTH.RETIRED0]
  omega

/-- So do the registers of bounds, generators, positions and converters. -/
theorem notRetired0_BOUND (n i : Nat) : notRetired0 (INST.BOUND n i) := by
  simp only [notRetired0, INST.BOUND, TLR.base, HEALTH.RETIRED0]
  omega

theorem notRetired0_PWM (n : Nat) {off : Nat} (h : off ∈ [0x10, 0x14, 0xA0]) : notRetired0 (PWM.base n + off) := by
  simp only [notRetired0, PWM.base, HEALTH.RETIRED0, List.mem_cons, List.not_mem_nil, or_false] at *
  omega

theorem notRetired0_TLR (n : Nat) {off : Nat} (h : off ∈ [0x10, 0x14]) : notRetired0 (TLR.base n + off) := by
  simp only [notRetired0, TLR.base, HEALTH.RETIRED0, List.mem_cons, List.not_mem_nil, or_false] at *
  omega

theorem notRetired0_CV (n : Nat) : notRetired0 (CV.STAT n) := by
  simp only [notRetired0, CV.STAT, CV.base, HEALTH.RETIRED0]
  omega

theorem notRetired0_gatePage (a : Nat) (h : gatePage a) : notRetired0 a := by
  simp only [gatePage, notRetired0, HEALTH.RETIRED0] at *
  omega

/-- The members of some positions are among the eight of each. -/
theorem State.members_lt (s : State) {ps : List Nat} : ∀ m ∈ s.members ps, m.2 < 8 := by
  intro m h
  simp only [State.members, List.mem_flatMap, List.mem_map, List.mem_filter, List.mem_range] at h
  obtain ⟨p, -, i, ⟨hi, -⟩, rfl⟩ := h
  exact hi

namespace State.SweepOnly

theorem refl (P : Nat → Prop) (s : State) : s.SweepOnly P s := ⟨⟨_, _, _, _, _, _, rfl⟩, RegsBut.refl _ _⟩

section
variable {P : Nat → Prop} {s t : State} (h : s.SweepOnly P t)
include h

theorem trans {u : State} (hu : t.SweepOnly P u) : s.SweepOnly P u := by
  refine ⟨?_, h.regs.trans hu.regs⟩
  obtain ⟨_, _, _, _, _, _, rfl⟩ := h.fields
  obtain ⟨_, _, _, _, _, _, rfl⟩ := hu.fields
  exact ⟨_, _, _, _, _, _, rfl⟩

theorem mono {Q : Nat → Prop} (hPQ : ∀ a, P a → Q a) : s.SweepOnly Q t := ⟨h.fields, h.regs.mono hPQ⟩

theorem wr {a : Nat} (ha : P a) (v : Word) : s.SweepOnly P (t.wr a v) :=
  h.trans ⟨⟨_, _, _, _, _, _, rfl⟩, (RegsBut.refl _ t).wr ha v⟩

theorem setBit {a : Nat} (ha : P a) (i : Nat) (b : Bool) : s.SweepOnly P (t.setBit a i b) := h.wr ha _

theorem setFld {a : Nat} (ha : P a) (hi lo v : Nat) : s.SweepOnly P (t.setFld a hi lo v) := h.wr ha _

theorem irq {base : Nat} (hb : P (base + 0x14)) (i : Nat) : s.SweepOnly P (t.irq base i) := h.wr hb _

theorem count {a : Nat} (ha : P a) (hi lo n : Nat) : s.SweepOnly P (t.count a hi lo n) := h.wr ha _

theorem updGen (n : Nat) (f : PwmGen → PwmGen) : s.SweepOnly P (t.updGen n f) :=
  h.trans ⟨⟨_, _, _, _, _, _, rfl⟩, fun _ _ => rfl⟩

theorem updTel (f : TelArr → TelArr) : s.SweepOnly P (t.updTel f) := h.trans ⟨⟨_, _, _, _, _, _, rfl⟩, fun _ _ => rfl⟩

theorem updTpos (n : Nat) (f : TelPos → TelPos) : s.SweepOnly P (t.updTpos n f) := h.updTel fun x => { x with pos := upd x.pos n f }

theorem updChecker (c : Nat) (f : Checker → Checker) : s.SweepOnly P (t.updChecker c f) :=
  h.trans ⟨⟨_, _, _, _, _, _, rfl⟩, fun _ _ => rfl⟩

theorem withConv (c : Convs) : s.SweepOnly P { t with conv := c } := h.trans ⟨⟨_, _, _, _, _, _, rfl⟩, fun _ _ => rfl⟩

theorem gateOnly (hgate : ∀ a, gatePage a → P a) {u : State} (hu : t.GateOnly u) : s.SweepOnly P u := by
  obtain ⟨_, _, heq⟩ := hu.fields
  exact h.trans ⟨⟨_, _, _, _, _, _, heq⟩, hu.regs.mono hgate⟩

theorem ite {u : State} (hu : s.SweepOnly P u) (c : Prop) [Decidable c] : s.SweepOnly P (if c then t else u) := by
  split
  · exact h
  · exact hu

/-- A walk over a list keeps to the frame when each step does. -/
theorem foldl {α : Type} {l : List α} {f : State → α → State}
    (hf : ∀ u x, x ∈ l → s.SweepOnly P u → s.SweepOnly P (f u x)) : s.SweepOnly P (l.foldl f t) :=
  List.foldlRecOn _ _ h fun u hu x hx => hf u x hx hu

theorem setSpares (hspares : P HEALTH.SPARES) (hirq : P (HEALTH.base + 0x14)) (hi lo n : Nat) : s.SweepOnly P (t.setSpares hi lo n) :=
  ((h.setFld hspares hi lo n).irq hirq 1).ite (h.setFld hspares hi lo n) _

end

/-! ### Trips and fallbacks (R218, R276-R279) -/

section
variable {s t : State} (h : s.SweepOnly notRetired0 t)
include h

theorem gateRemovePulse (n : Nat) (b : Bool) : s.SweepOnly notRetired0 (t.gateRemovePulse n b) :=
  h.gateOnly notRetired0_gatePage ((State.GateOnly.refl t).updHb ..)

theorem pwmOut {n : Nat} (hn : n < 48) (a b : Bool) : s.SweepOnly notRetired0 (t.pwmOut n a b) := by
  refine h.ite (gateOnly (updGen (ite (gateRemovePulse ?first n true) ?first _) n _) notRetired0_gatePage
    ((State.GateOnly.refl _).gateDrive hn a b)) _
  exact (h.gateRemovePulse n false).ite h _

theorem trip {n : Nat} (hn : n < 48) (cause : Nat) : s.SweepOnly notRetired0 (t.trip n cause) :=
  (((((h.setBit (notRetired0_PWM n (by decide)) 8 true).irq (notRetired0_PWM n (by decide)) 7).setFld
    (notRetired0_PWM n (by decide)) 29 28 cause).count (notRetired0_PWM n (by decide)) 15 0 1).updGen n _).pwmOut hn _ _

theorem tripOwned (p : Nat) : s.SweepOnly notRetired0 (t.tripOwned p) :=
  h.foldl fun _ _ hg hu => (hu.trip (List.mem_range.1 hg) 2).ite hu _

/-- A status bit of some instances, each of its own value. -/
theorem members {l : List (Nat × Nat)} (hl : ∀ m ∈ l, m.2 < 8) (i : Nat) (b : Nat × Nat → Bool) :
    s.SweepOnly notRetired0 (l.foldl (fun u m => u.setBit (INSTSTAT m.1 m.2) i (b m)) t) :=
  h.foldl fun _ m hm hu => hu.setBit (notRetired0_INSTSTAT (n := m.1) (hl m hm)) ..

theorem capacityFault (p : Nat) : s.SweepOnly notRetired0 (t.capacityFault p) := by
  have hshown := (h.setBit (notRetired0_TLR p (off := 0x10) (by decide)) 12 true).irq (notRetired0_TLR p (by decide)) 24
  have hmembers := hshown.members (((t.setBit (TLR.STAT p) 12 true).irq (TLR.base p) 24).members_lt (ps := [p])) 28 (fun _ => true)
  exact ((hmembers.tripOwned p).setBit (by decide) 0 true).irq (by decide) 0

theorem pair (p q : Nat) (on : Bool) : s.SweepOnly notRetired0 (t.pair p q on) :=
  ((((h.setFld (notRetired0_TLR p (by decide)) ..).ite h _).updTpos p _).setBit (notRetired0_TLR p (by decide)) 10 on).setBit
    (notRetired0_TLR q (by decide)) 9 on

theorem boundsRefresh (ps : List Nat) : s.SweepOnly notRetired0 (t.boundsRefresh ps) :=
  h.foldl fun _ m _ hu => hu.setFld (notRetired0_BOUND m.1 m.2) ..

theorem fallback (p : Nat) : s.SweepOnly notRetired0 (t.fallback p) := by
  have hpair := h.pair p (t.fld (TLR.base p + 0x40) 3 0) true
  unfold State.fallback
  dsimp only
  split
  · split
    · exact (hpair.members (State.members_lt _) 29 (fun _ => false)).boundsRefresh _
    · split
      · exact (((hpair.members (State.members_lt _) 29 _).setBit (by decide) 1 true).irq (by decide) 1).boundsRefresh _
      · exact (hpair.pair p _ false).capacityFault p
  · exact h.capacityFault p

theorem unserve (p : Nat) : s.SweepOnly notRetired0 (t.unserve p) := by
  have hp (u : State) (q : Nat) (b : Bool) (hu : s.SweepOnly notRetired0 u) :=
    hu.setBit (notRetired0_TLR q (off := 0x10) (by decide)) 12 b
  refine foldl (foldl (foldl (hp t p true h) ?pairs) ?guests) ?served
  case pairs => exact fun u q _ hu => hu.pair q p false
  case guests => exact fun u q _ hu => hp u q true hu
  case served => exact fun u q _ hu => (hp u q false hu).fallback q

/-! ### The sweep's parts (R467) -/

theorem spareRefresh : s.SweepOnly notRetired0 t.spareRefresh := (h.setFld (by decide) ..).setSpares (by decide) (by decide) ..

theorem markTeller (u : Nat) : s.SweepOnly notRetired0 (t.markTeller u) :=
  ((h.setBit (by decide) ..).setBit (by decide) ..).irq (by decide) _

theorem retireChecker (c k : Nat) : s.SweepOnly notRetired0 (t.retireChecker c k) :=
  (((h.updChecker c _).setBit (by decide) ..).irq (by decide) _).setSpares (by decide) (by decide) ..

theorem sweepTel (fail : List Nat) : s.SweepOnly notRetired0 (t.sweepTel fail) := by
  refine spareRefresh (updTel (foldl (foldl (foldl h ?marks) ?swaps) ?unserved) _)
  case marks => exact fun u x _ hu => (hu.markTeller x).setBit (by decide) ..
  case swaps =>
    exact fun u q _ hu => (hu.setFld (notRetired0_TLR q.1 (by decide)) ..).setFld (notRetired0_TLR q.2 (by decide)) ..
  case unserved => exact fun u p _ hu => hu.unserve p

theorem sweepChk (fail : List Nat) : s.SweepOnly notRetired0 (t.sweepChk fail) := by
  refine h.foldl fun u c _ hu => ?_
  have hretired := hu.foldl (l := (List.range 9).filter (fun k => fail.contains (9 * c + k)))
    (f := fun v k => (v.retireChecker c k).setBit HEALTH.STAT 10 true) fun v k _ hv => (hv.retireChecker c k).setBit (by decide) ..
  exact ((hretired.updChecker c _).setBit (by decide) ..).ite (hretired.updChecker c _) _

end
end State.SweepOnly

end Sys2Proof.Machine
end

section
/-!
The Dawn sequence (R98-R109, R467, R480): the control die's release, the end of the start-up test, the boot ROM's image checks; the
fuse programmer and the clerks' timer (R507).
-/
namespace Sys2Proof.Machine

/-! ### Converter units that the sweep retires (R467) -/

/-- One converter unit that fails the sweep: flagged, recorded as retired, and gone from the spares. -/
def State.sweepRetire (s : State) (u : Nat) : State :=
  (s.sweepFlag.setBit HEALTH.RETIRED0 u true).setSpares 31 24 (s.fld HEALTH.SPARES 31 24 - 1)

theorem State.sweepRetire_sweepOnly (s : State) (u : Nat) : s.SweepOnly (fun _ => True) (s.sweepRetire u) :=
  ((((SweepOnly.refl _ s).setBit trivial 10 true).irq trivial 0).setBit trivial u true).setSpares trivial trivial _ _ _

theorem State.sweepRetire_bit (s : State) {u : Nat} (hu : u < 26) (v : Nat) :
    (s.sweepRetire u).bit HEALTH.RETIRED0 v = if v = u then true else s.bit HEALTH.RETIRED0 v := by
  have hspares := ((SweepOnly.refl notRetired0 (s.sweepFlag.setBit HEALTH.RETIRED0 u true)).setSpares (by decide) (by decide)
    31 24 (s.fld HEALTH.SPARES 31 24 - 1)).regs HEALTH.RETIRED0 (by simp [notRetired0])
  have hflag := (((SweepOnly.refl notRetired0 s).setBit (a := HEALTH.STAT) (by decide) 10 true).irq (base := HEALTH.base) (by decide)
    0).regs HEALTH.RETIRED0 (by simp [notRetired0])
  rw [sweepRetire, State.bit_congr hspares, State.bit_setBit_self _ _ (by omega), sweepFlag, State.bit_congr hflag]

/-- Every unit of the list is retired. -/
theorem State.foldl_sweepRetire_bit (s : State) {l : List Nat} (hl : ∀ u ∈ l, u < 26) :
    ∀ v, (l.foldl State.sweepRetire s).bit HEALTH.RETIRED0 v = (decide (v ∈ l) || s.bit HEALTH.RETIRED0 v) := by
  induction l generalizing s with
  | nil => simp
  | cons u l ih =>
    intro v
    obtain ⟨hu, hl⟩ := List.forall_mem_cons.1 hl
    rw [List.foldl_cons, ih _ hl, s.sweepRetire_bit hu]
    by_cases hv : v = u <;> simp [hv]

/-- After the retirements the replacements touch units' fields, and the pool of spares is formed anew. -/
theorem State.sweepConv_sweepOnly (s : State) (fail : List Nat) :
    (((List.range 26).filter (fun u => fail.contains u)).foldl State.sweepRetire s).SweepOnly notRetired0 (s.sweepConv fail) := by
  refine SweepOnly.withConv (SweepOnly.foldl (.refl _ _) fun u q _ hu => ?_) _
  exact (hu.setFld (notRetired0_CV q.1) ..).setFld (notRetired0_CV q.2) ..

/-! ### The end of the start-up test (R467, R480, R108) -/

/-- What the end of step 6 leaves before the boot ROM starts: the sweep's retirements, and what it counts and shows. -/
def State.swept (s : State) (tel conv chk : List Nat) (retried rows cols minLeft : Nat) : State :=
  let s1 := ((s.sweepConv conv).sweepTel tel).sweepChk chk
  let fails := ((List.range 16).filter tel.contains).length + ((List.range 26).filter conv.contains).length +
    ((List.range 18).filter chk.contains).length
  let s2 := s1.count HEALTH.SLICECNT 15 8 (fails + retried)
  s2.wr (HEALTH.base + 0xA0) (Word.ofNat (rows % 256 * 2 ^ 24 + cols % 256 * 2 ^ 16 + s.hardEntries * 2 ^ 8 + minLeft % 256))

theorem exec_dawnSelfTestEnd_repaired {s : State} (h : s.rst.dawn = .memTest) (tel conv chk : List Nat) (r a b c : Nat) :
    exec (.dawnSelfTestEnd tel conv chk r a b c true) s = .next (s.swept tel conv chk r a b c).bootStart := by
  change execDawnSelfTestEnd tel conv chk r a b c true s = _
  rw [execDawnSelfTestEnd, if_pos h]
  rfl

theorem exec_dawnSelfTestEnd_unrepaired {s : State} (h : s.rst.dawn = .memTest) (tel conv chk : List Nat) (r a b c : Nat) :
    exec (.dawnSelfTestEnd tel conv chk r a b c false) s = .next ((s.swept tel conv chk r a b c).bootStop 0x23) := by
  change execDawnSelfTestEnd tel conv chk r a b c false s = _
  rw [execDawnSelfTestEnd, if_pos h]
  rfl

section
variable (s : State) (tel conv chk : List Nat) (r a b c : Nat)

theorem State.swept_retired : (((List.range 26).filter (fun u => conv.contains u)).foldl State.sweepRetire s).SweepOnly notRetired0
    (s.swept tel conv chk r a b c) :=
  ((((s.sweepConv_sweepOnly conv).sweepTel tel).sweepChk chk).count (by decide) 15 8 _).wr (by decide) _

theorem State.swept_sweepOnly : s.SweepOnly (fun _ => True) (s.swept tel conv chk r a b c) :=
  (SweepOnly.foldl (.refl _ s) fun u x _ hu => hu.trans (u.sweepRetire_sweepOnly x)).trans
    ((s.swept_retired tel conv chk r a b c).mono fun _ _ => trivial)

/-- Every converter unit that fails for good is recorded as retired. -/
theorem State.swept_bit {u : Nat} (hu : u ∈ conv) (hlt : u < 26) : (s.swept tel conv chk r a b c).bit HEALTH.RETIRED0 u = true := by
  rw [State.bit_congr ((s.swept_retired tel conv chk r a b c).regs HEALTH.RETIRED0 (by simp [notRetired0])),
    s.foldl_sweepRetire_bit (by simp; tauto)]
  simp [hu, hlt]

end

/-! ### BOOTSTAT (R103) -/

/-- The highest byte of a word with the fields of BOOTSTAT. -/
theorem bitsOf_bootStat {code sec straps first : Nat} (hcode : code < 256) (hsec : sec ≤ 1) (hstraps : straps < 8) (hfirst : first < 256)
    (slot ver : Nat) : bitsOf (Word.ofNat (code * 2 ^ 24 + slot % 4 * 2 ^ 20 + sec * 2 ^ 19 + straps * 2 ^ 16 + min ver 63 * 2 ^ 8 +
      first)) 31 24 = code := by
  rw [bitsOf_ofNat]
  omega

/-- The code of a record stands in its highest byte, above every other part. -/
theorem State.bootStat_code (s : State) {code first : Nat} (hcode : code < 256) (hstraps : s.rst.straps < 8) (hfirst : first < 256)
    (keySlot secVer : Nat) (secondary : Bool) : (s.bootStat code keySlot secVer first secondary).fld RSUP.BOOTSTAT 31 24 = code :=
  (congrArg (bitsOf · 31 24) (State.rd_wr_self ..)).trans
    (bitsOf_bootStat hcode (by cases secondary <;> decide) hstraps hfirst keySlot secVer)

theorem State.bootStat_mem (s : State) (code keySlot secVer first : Nat) (secondary : Bool) :
    (s.bootStat code keySlot secVer first secondary).mem = s.mem := s.wr_mem _ _

theorem State.bootStat_clerk0 (s : State) (code keySlot secVer first : Nat) (secondary : Bool) :
    (s.bootStat code keySlot secVer first secondary).clerk0 = s.clerk0 := s.wr_clerk0 _ _

/-! ### The start and the stop of the boot ROM (R97, R103, R108) -/

/-- The reset controller takes the state `r`. -/
def State.withRst (s : State) (r : ResetCtl) : State := { s with rst := r }

theorem State.withRst_regs (s : State) (r : ResetCtl) : (s.withRst r).regs = s.regs := rfl

theorem State.withRst_mem (s : State) (r : ResetCtl) : (s.withRst r).mem = s.mem := rfl

theorem State.withRst_clerk0 (s : State) (r : ResetCtl) : (s.withRst r).clerk0 = s.clerk0 := rfl

theorem State.withRst_wdKick (s : State) (r : ResetCtl) : { s.wdKick with rst := r } = s.withRst r := rfl

theorem State.bootStop_eq (s : State) (code : Nat) : s.bootStop code =
    (s.bootStat code 0 0 0 false).withRst { (s.bootStat code 0 0 0 false).rst with dawn := .stopped } := rfl

theorem State.bootStop_code (s : State) {code : Nat} (hcode : code < 256) (hstraps : s.rst.straps < 8) :
    (s.bootStop code).fld RSUP.BOOTSTAT 31 24 = code := by
  rw [State.bootStop_eq, State.fld_congr (State.rd_congr (State.withRst_regs _ _) _)]
  exact s.bootStat_code hcode hstraps (by decide) 0 0 false

theorem State.bootStop_mem (s : State) (code : Nat) : (s.bootStop code).mem = s.mem := by
  rw [State.bootStop_eq, State.withRst_mem, State.bootStat_mem]

section
variable {s : State} (hlife : s.lifecycle = 1 ∨ s.lifecycle = 3) (hstraps : s.rst.straps < 4)
include hlife hstraps

/-- In OPEN and SECURED the boot ROM starts from a strapped boot source. -/
theorem State.bootStart_boots : s.bootStart =
    (s.bootStat 1 0 0 0 false).withRst { (s.bootStat 1 0 0 0 false).wdKick.rst with dawn := .boot } := by
  rw [State.bootStart, if_neg (by omega), if_neg (by omega), State.withRst_wdKick]

theorem State.bootStart_code : s.bootStart.fld RSUP.BOOTSTAT 31 24 = 1 := by
  rw [State.bootStart_boots hlife hstraps, State.fld_congr (State.rd_congr (State.withRst_regs _ _) _)]
  exact s.bootStat_code (by decide) (by omega) (by decide) 0 0 false

theorem State.bootStart_rd {a : Nat} (ha : a ≠ RSUP.BOOTSTAT) : s.bootStart.rd a = s.rd a := by
  rw [State.bootStart_boots hlife hstraps, State.rd_congr (State.withRst_regs _ _)]
  exact State.rd_wr_ne s _ ha

theorem State.bootStart_rst : s.bootStart.rst.dawn = .boot ∧ s.bootStart.rst.wdRun = true := by
  rw [State.bootStart_boots hlife hstraps]
  exact ⟨rfl, rfl⟩

theorem State.bootStart_mem : s.bootStart.mem = s.mem := by
  rw [State.bootStart_boots hlife hstraps, State.withRst_mem, State.bootStat_mem]

theorem State.bootStart_clerk0 : s.bootStart.clerk0 = s.clerk0 := by
  rw [State.bootStart_boots hlife hstraps, State.withRst_clerk0, State.bootStat_clerk0]

end

/-! ### Image checks (R102-R107) -/

theorem State.imagePayload_length_le (s : State) (sent : List Byte) (n : Nat) : (s.imagePayload sent n).length ≤ n := by
  unfold State.imagePayload
  split
  · exact List.length_take_le ..
  · simp [State.getBytes]

theorem State.memStore_rst (s : State) (init a : Nat) (l : List Byte) : (s.memStore init a l).rst = s.rst := by
  change (s.setBytes a l).rst = s.rst
  rw [s.setBytes_frame a l]

theorem State.memStore_regs (s : State) (init a : Nat) (l : List Byte) : (s.memStore init a l).regs = s.regs := s.setBytes_regs a l

/-- The store writes its bytes as they are (R482 and R506 concern other state). -/
theorem State.memStore_byte (s : State) (init a : Nat) (l : List Byte) (b : Nat) :
    (s.memStore init a l).byte b = (s.setBytes a l).byte b := rfl

/-- The boot ROM has kept the key type of an image (R510). -/
def State.imageKeyed (s : State) (sent : List Byte) : State :=
  { s with jtag := { s.jtag with bootKeys := s.jtag.bootKeys || hdrField (s.imageHeader sent) 6 1 != 0xFF } }

/-- It has stored the payload, too (R104, R105). -/
def State.imageStored (s : State) (sent payload : List Byte) : State :=
  (s.imageKeyed sent).memStore 67 (hdrField (s.imageHeader sent) 0xC 4) (s.imagePayload payload (hdrField (s.imageHeader sent) 0x14 4))

theorem State.imageStored_rst (s : State) (sent payload : List Byte) : (s.imageStored sent payload).rst = s.rst :=
  State.memStore_rst ..

theorem State.imageStored_rd (s : State) (sent payload : List Byte) (a : Nat) : (s.imageStored sent payload).rd a = s.rd a :=
  State.rd_congr (s := s) (State.memStore_regs (s.imageKeyed sent) ..) a

/-- An image whose header and payload pass every check is stored and accepted. -/
theorem exec_bootImageAttemptEnd_accepts {s : State} {sent payload : List Byte} (hboot : s.rst.dawn = .boot)
    (hlen : (s.imageHeader sent).length = 256) (hsource : s.rst.straps = 3 ∨ s.balls.xspiReset = true)
    (hcode : s.headerCode (s.imageHeader sent) = 0)
    (hall : hdrField (s.imageHeader sent) 0x14 4 ≤ (s.imagePayload payload (hdrField (s.imageHeader sent) 0x14 4)).length)
    (hhash : sha256 (s.imagePayload payload (hdrField (s.imageHeader sent) 0x14 4)) = hdrBytes (s.imageHeader sent) 0x20 32) :
    exec (.bootImageAttemptEnd sent payload) s = .next ((s.imageStored sent payload).bootAccept (s.imageHeader sent)) := by
  change execBootImageAttemptEnd sent payload s = _
  simp only [execBootImageAttemptEnd]
  rw [if_pos ⟨hboot, hlen, hsource⟩, if_neg (by simp [hcode]), if_neg (by omega), if_pos hhash]
  rfl

/-- An image whose header fails a check is not stored (R105). -/
theorem exec_bootImageAttemptEnd_fails {s : State} {sent payload : List Byte} (hboot : s.rst.dawn = .boot)
    (hlen : (s.imageHeader sent).length = 256) (hsource : s.rst.straps = 3 ∨ s.balls.xspiReset = true)
    (hcode : s.headerCode (s.imageHeader sent) ≠ 0) :
    exec (.bootImageAttemptEnd sent payload) s = .next (s.bootFail (s.headerCode (s.imageHeader sent))) := by
  change execBootImageAttemptEnd sent payload s = _
  simp only [execBootImageAttemptEnd]
  rw [if_pos ⟨hboot, hlen, hsource⟩, if_pos hcode]

/-- Both clerks have been started by `f`, and the Dawn sequence is over. -/
def State.launched (s : State) (f : Nat → Clerk → Clerk) (entry : Word) : State :=
  let t := ((s.updClerk 0 (f 0)).updClerk 1 (f 1)).bumpFrees 2
  { t with rst := { t.rst with dawn := .running, entry := entry } }

theorem State.launched_regs (s : State) (f : Nat → Clerk → Clerk) (entry : Word) : (s.launched f entry).regs = s.regs := rfl

theorem State.launched_mem (s : State) (f : Nat → Clerk → Clerk) (entry : Word) : (s.launched f entry).mem = s.mem := rfl

/-- How an accepted image starts a clerk that is not in core reset. -/
def State.startAt (s : State) (entry : Word) (m : Nat) (c : Clerk) : Clerk :=
  if s.rst.coreMask.testBit m then c else { c with held := false, pc := entry, a0 := s.free m }

theorem State.wdKick_regs (s : State) : s.wdKick.regs = s.regs := rfl

theorem State.wdKick_mem (s : State) : s.wdKick.mem = s.mem := rfl

theorem State.bootAccept_eq (s : State) (h : List Byte) : s.bootAccept h = State.launched (State.wdKick (s.bootStat 2
    (if hdrField h 6 1 = 0xFF then 0 else hdrField h 6 1) (hdrField h 8 4) s.rst.firstFail (decide (s.rst.attempt = 1))))
    (s.startAt (Word.ofNat (hdrField h 0x10 4))) (Word.ofNat (hdrField h 0x10 4)) := rfl

/-- The record of an accepted image is its only register. -/
theorem State.bootAccept_regs (s : State) (h : List Byte) : (s.bootAccept h).regs = (s.bootStat 2
    (if hdrField h 6 1 = 0xFF then 0 else hdrField h 6 1) (hdrField h 8 4) s.rst.firstFail (decide (s.rst.attempt = 1))).regs := by
  rw [State.bootAccept_eq, State.launched_regs, State.wdKick_regs]

theorem State.bootAccept_byte (s : State) (h : List Byte) (a : Nat) : (s.bootAccept h).byte a = s.byte a := by
  rw [State.byte, State.bootAccept_eq, State.launched_mem, State.wdKick_mem, State.bootStat_mem, State.byte]

/-- Each clerk starts at ENTRY but one in core reset (R106). -/
theorem State.bootAccept_clerk (s : State) (h : List Byte) {i : Nat} (hi : i < 2) (hmask : s.rst.coreMask.testBit i = false) :
    (s.bootAccept h).clerk i = { s.clerk i with held := false, pc := Word.ofNat (hdrField h 0x10 4), a0 := s.free i } := by
  obtain rfl | rfl : i = 0 ∨ i = 1 := by omega
  · change (if s.rst.coreMask.testBit 0 then s.clerk0 else _) = _
    rw [hmask]
    rfl
  · change (if s.rst.coreMask.testBit 1 then s.clerk1 else _) = _
    rw [hmask]
    rfl

theorem State.bootAccept_code (s : State) (h : List Byte) (hstraps : s.rst.straps < 8) (hfirst : s.rst.firstFail < 256) :
    (s.bootAccept h).fld RSUP.BOOTSTAT 31 24 = 2 :=
  (State.fld_congr (State.rd_congr (s.bootAccept_regs h) _) 31 24).trans (s.bootStat_code (by decide) hstraps hfirst ..)

theorem State.bootAccept_rd (s : State) (h : List Byte) {a : Nat} (ha : a ≠ RSUP.BOOTSTAT) : (s.bootAccept h).rd a = s.rd a :=
  (State.rd_congr (s.bootAccept_regs h) a).trans (State.rd_wr_ne s _ ha)

/-! ### The fuse programmer (R98, R100, R102) -/

theorem exec_fuseBlow {s : State} {w : Nat} {bits : Word} (h : ¬ (w = 4 ∧
    bitsOf (s.fuseArray 4 ||| (bits &&& s.fuseAllowed 4)) 2 0 = 3 ∧
    s.fuseArray 4 ||| (bits &&& s.fuseAllowed 4) ≠ s.fuseArray 4 ∧ s.someKey = false)) :
    exec (.fuseBlow w bits) s = .next { s with fuses := { s.fuses with
      blown := Store.put 0 s.fuses.blown w ((Store.find s.fuses.blown w).getD 0 ||| (bits &&& s.fuseAllowed w)) } } := by
  change execFuseBlow w bits s = _
  simp only [execFuseBlow]
  rw [if_neg]
  rintro ⟨rfl, hcode, hnew, hkey⟩
  exact h ⟨rfl, hcode, hnew, by simpa using hkey⟩

/-- A change to SECURED without a usable key blows nothing (R102). -/
theorem exec_fuseBlow_refused {s : State} {bits : Word} (hcode : bitsOf (s.fuseArray 4 ||| (bits &&& s.fuseAllowed 4)) 2 0 = 3)
    (hnew : s.fuseArray 4 ||| (bits &&& s.fuseAllowed 4) ≠ s.fuseArray 4) (hkey : s.someKey = false) :
    exec (.fuseBlow 4 bits) s = .next s := by
  change execFuseBlow 4 bits s = _
  simp only [execFuseBlow]
  rw [if_pos ⟨trivial, hcode, hnew, by simp [hkey]⟩]

/-- Settles O6: each clause is its command's own equation, with the frame of what it writes. -/
theorem dawnStepsBootAndFuses : Obligations.DawnStepsBootAndFuses := by
  unfold Obligations.DawnStepsBootAndFuses
  intro s
  refine ⟨?release, ?noOscillator, ?xspi, ?unrepaired, ?testPassed, ?accepted, ?secondary, ?blown, ?blowRefused, ?timer⟩
  case release =>
    intro straps hheld hstretch hinit hrails htest
    refine ⟨{ s.fuseLoad with
      rst := { s.fuseLoad.rst with dawn := .locking, straps := straps % 8, wdRun := true, wdLimit := 2000 } }, ?_, rfl, rfl, rfl, rfl⟩
    change execControlDieRelease straps true s = _
    rw [execControlDieRelease, if_pos ⟨rfl, hheld, hstretch, hinit, hrails, by simp [htest]⟩]
  case noOscillator =>
    intro straps
    change execControlDieRelease straps false s = _
    rw [execControlDieRelease, if_neg (by simp)]
  case xspi =>
    intro hheld hlocking
    change execXspiResetRelease s = _
    rw [execXspiResetRelease, if_neg (by simp [hheld, hlocking])]
  case unrepaired =>
    intro tel conv chk r a b c htest hstraps
    obtain ⟨_, _, _, _, _, _, heq⟩ := (s.swept_sweepOnly tel conv chk r a b c).fields
    refine ⟨_, exec_dawnSelfTestEnd_unrepaired htest tel conv chk r a b c, rfl, ?_, ?_⟩
    · exact State.bootStop_code _ (by decide) (by rw [heq]; exact hstraps)
    · rw [State.bootStop_mem, heq]
  case testPassed =>
    intro tel conv chk r a b c htest hlife hstraps
    obtain ⟨_, _, _, _, _, _, heq⟩ := (s.swept_sweepOnly tel conv chk r a b c).fields
    have hlifeSwept : (s.swept tel conv chk r a b c).lifecycle = s.lifecycle := by rw [heq]; rfl
    have hrst : (s.swept tel conv chk r a b c).rst = s.rst := by rw [heq]
    have hmem : (s.swept tel conv chk r a b c).mem = s.mem := by rw [heq]
    have hclerk : (s.swept tel conv chk r a b c).clerk0 = s.clerk0 := by rw [heq]
    rw [← hlifeSwept] at hlife
    rw [← hrst] at hstraps
    obtain ⟨hdawn, hwd⟩ := State.bootStart_rst hlife hstraps
    refine ⟨_, exec_dawnSelfTestEnd_repaired htest tel conv chk r a b c, hdawn, State.bootStart_code hlife hstraps, hwd,
      fun u hu hlt => ?_, (State.bootStart_mem hlife hstraps).trans hmem, (State.bootStart_clerk0 hlife hstraps).trans hclerk⟩
    rw [State.bit_congr (State.bootStart_rd hlife hstraps (by decide)), s.swept_bit tel conv chk r a b c hu hlt]
  case accepted =>
    rintro sent pl h rfl n rfl hboot hlen hsource hcode hstraps hfirst hall hhash
    have hlength : (s.imagePayload pl (hdrField (s.imageHeader sent) 0x14 4)).length = hdrField (s.imageHeader sent) 0x14 4 :=
      Nat.le_antisymm (s.imagePayload_length_le ..) hall
    have hrst := s.imageStored_rst sent pl
    have hbyte (a : Nat) : ((s.imageStored sent pl).bootAccept (s.imageHeader sent)).byte a =
        ((s.imageKeyed sent).setBytes (hdrField (s.imageHeader sent) 0xC 4)
          (s.imagePayload pl (hdrField (s.imageHeader sent) 0x14 4))).byte a :=
      (State.bootAccept_byte ..).trans (State.memStore_byte ..)
    refine ⟨_, exec_bootImageAttemptEnd_accepts hboot hlen hsource hcode hall hhash, rfl, rfl,
      State.bootAccept_code _ _ (hrst.symm ▸ hstraps) (hrst.symm ▸ hfirst), fun i hi hmask => ?clerk, fun i hi => ?inside,
      fun a ha => ?outside, fun a ha => ?reg⟩
    case clerk =>
      rw [State.bootAccept_clerk _ _ hi (hrst.symm ▸ hmask)]
      exact ⟨rfl, rfl⟩
    case inside =>
      rw [hbyte, State.byte_setBytes _ _ _ i (by omega), List.getElem?_eq_getElem (by omega)]
    case outside =>
      rw [hbyte, State.byte_setBytes_ne _ _ _ _ (by omega)]
      rfl
    case reg => rw [State.bootAccept_rd _ _ ha, State.imageStored_rd]
  case secondary =>
    intro sent pl hboot hlen hxspi hstraps hattempt hcode
    refine ⟨_, exec_bootImageAttemptEnd_fails hboot hlen (.inr hxspi) hcode, ?_⟩
    rw [State.bootFail, if_pos ⟨hattempt, hstraps⟩, if_pos hattempt]
    rfl
  case blown =>
    intro w bits hallowed
    refine ⟨_, exec_fuseBlow hallowed, ?_, fun v hv => ?_, fun v => rfl, rfl⟩
    · rw [State.fuseArray, Store.find_put_self, State.fuseArray, BitVec.or_assoc]
    · rw [State.fuseArray, Store.find_put_ne _ _ _ hv, State.fuseArray]
  case blowRefused => exact fun bits hcode hnew hkey => exec_fuseBlow_refused hcode hnew hkey
  case timer =>
    intro h time hh
    obtain rfl | rfl : h = 0 ∨ h = 1 := by omega
    all_goals exact ⟨_, rfl, rfl, rfl, rfl, rfl⟩

end Sys2Proof.Machine
end

section
/-!
Fields of registers: what a bit and a field read after a write of bits `[hi:lo]`.
-/
namespace Sys2Proof.Machine

/-! ### Fields of a word -/

/-- A bit of a word in which bits `[hi:lo]` have been set to `v`. -/
theorem tb_putBits (w : Word) {hi : Nat} (hhi : hi < 32) (lo v j : Nat) :
    tb (putBits w hi lo v) j = if lo ≤ j ∧ j ≤ hi then v.testBit (j - lo) else tb w j := by
  unfold tb putBits maskOf
  simp only [BitVec.getLsbD_or, BitVec.getLsbD_and, BitVec.getLsbD_not, BitVec.getLsbD_ofNat, Nat.testBit_shiftLeft,
    Nat.testBit_two_pow_sub_one, Nat.testBit_mod_two_pow]
  have hwidth : lo ≤ j → (j - lo < hi + 1 - lo ↔ j ≤ hi) := by omega
  by_cases hlo : lo ≤ j
  · by_cases hin : j ≤ hi
    · simp [hlo, hin, hwidth hlo, show j < 32 by omega]
    · simpa [hlo, hin, hwidth hlo] using BitVec.lt_of_getLsbD
  · simpa [hlo] using BitVec.lt_of_getLsbD

/-- A bit of a field. -/
theorem testBit_bitsOf (w : Word) (hi lo i : Nat) : (bitsOf w hi lo).testBit i = (decide (i < hi + 1 - lo) && tb w (lo + i)) := by
  rw [bitsOf, Nat.testBit_mod_two_pow, Nat.testBit_shiftRight, tb, BitVec.getLsbD]

theorem bitsOf_lt (w : Word) (hi lo : Nat) : bitsOf w hi lo < 2 ^ (hi + 1 - lo) := Nat.mod_lt _ (Nat.two_pow_pos _)

/-- A field reads what was written to it. -/
theorem bitsOf_putBits_self (w : Word) {hi : Nat} (hhi : hi < 32) (lo v : Nat) :
    bitsOf (putBits w hi lo v) hi lo = v % 2 ^ (hi + 1 - lo) := by
  refine Nat.eq_of_testBit_eq fun i => ?_
  rw [testBit_bitsOf, Nat.testBit_mod_two_pow, tb_putBits w hhi]
  by_cases hi' : i < hi + 1 - lo
  · rw [if_pos (by omega), Nat.add_sub_cancel_left]
  · simp [hi']

/-- A write of another field leaves a field alone. -/
theorem bitsOf_putBits_disjoint (w : Word) {hi hi' lo lo' : Nat} (hhi : hi < 32) (h : hi' < lo ∨ hi < lo') (v : Nat) :
    bitsOf (putBits w hi lo v) hi' lo' = bitsOf w hi' lo' := by
  refine Nat.eq_of_testBit_eq fun i => ?_
  rw [testBit_bitsOf, testBit_bitsOf, tb_putBits w hhi]
  by_cases hi' : i < hi' + 1 - lo'
  · rw [if_neg (by omega)]
  · simp [hi']

/-- A one-bit field is its bit. -/
theorem bitsOf_bit (w : Word) (i : Nat) : bitsOf w i i = b2n (tb w i) := by
  refine Nat.eq_of_testBit_eq fun j => ?_
  have hone : i + 1 - i = 1 := by omega
  rw [testBit_bitsOf, hone]
  cases j with
  | zero => cases h : tb w i <;> simp [b2n]
  | succ j => cases h : tb w i <;> simp [b2n, Nat.testBit_succ]

/-! ### Fields of a register -/

theorem State.bit_setBit (s : State) (a : Nat) {i : Nat} (hi : i < 32) (b : Bool) (c j : Nat) :
    (s.setBit a i b).bit c j = if c = a ∧ j = i then b else s.bit c j := by
  by_cases hc : c = a
  · subst hc
    simp [State.bit_setBit_self _ _ hi]
  · simp [hc, State.bit_setBit_ne]

theorem State.bit_setFld (s : State) (a : Nat) {hi : Nat} (hhi : hi < 32) (lo v c j : Nat) :
    (s.setFld a hi lo v).bit c j = if c = a ∧ lo ≤ j ∧ j ≤ hi then v.testBit (j - lo) else s.bit c j := by
  rw [State.bit, State.rd_setFld]
  by_cases hc : c = a
  · subst hc
    simp [tb_putBits _ hhi, State.bit]
  · simp [hc, State.bit]

theorem State.fld_setFld_self (s : State) (a : Nat) {hi : Nat} (hhi : hi < 32) (lo v : Nat) :
    (s.setFld a hi lo v).fld a hi lo = v % 2 ^ (hi + 1 - lo) := by
  rw [State.fld, State.rd_setFld, if_pos rfl, bitsOf_putBits_self _ hhi]

theorem State.fld_lt (s : State) (a hi lo : Nat) : s.fld a hi lo < 2 ^ (hi + 1 - lo) := bitsOf_lt ..

theorem State.fld_setFld_disjoint (s : State) (a : Nat) {hi hi' lo lo' : Nat} (hhi : hi < 32) (h : hi' < lo ∨ hi < lo') (v c : Nat) :
    (s.setFld a hi lo v).fld c hi' lo' = s.fld c hi' lo' := by
  rw [State.fld, State.rd_setFld]
  by_cases hc : c = a
  · rw [if_pos hc, bitsOf_putBits_disjoint _ hhi h, hc, State.fld]
  · rw [if_neg hc, State.fld]

end Sys2Proof.Machine
end

section
/-!
Registers that an error response writes (R148, R173), and what of the state beside the registers it leaves alone.
-/
namespace Sys2Proof.Machine

/-! ### The frame of updates -/

section
variable {P : Nat → Prop} {s t : State} (h : RegsBut P s t)
include h

theorem RegsBut.setBit {a : Nat} (ha : P a) (i : Nat) (b : Bool) : RegsBut P s (t.setBit a i b) := h.wr ha _

theorem RegsBut.setFld {a : Nat} (ha : P a) (hi lo v : Nat) : RegsBut P s (t.setFld a hi lo v) := h.wr ha _

theorem RegsBut.irq {base : Nat} (ha : P (base + 0x14)) (i : Nat) : RegsBut P s (t.irq base i) := h.wr ha _

theorem RegsBut.withBus (b : Bus) : RegsBut P s { t with bus := b } := h

theorem RegsBut.withClerks (c0 c1 : Clerk) : RegsBut P s { t with clerk0 := c0, clerk1 := c1 } := h

end

/-! ### Error responses -/

/-- A register of SYS, or of FAB and the pages above it: an error response writes no register of the pages between. -/
def errorReg (a : Nat) : Prop := a < 0x40001000 ∨ 0x40004000 ≤ a

section
variable {s t : State} (h : RegsBut errorReg s t) (init a : Nat)
include h

theorem RegsBut.putError (c : Cause) (w : Bool) : RegsBut errorReg s (t.putError init a c w) :=
  (h.wr (.inl (by decide)) _).wr (.inl (by decide)) _

theorem RegsBut.captureError (c : Cause) (w : Bool) : RegsBut errorReg s (t.captureError init a c w) := by
  have hput := h.putError init a c w
  unfold State.captureError
  split
  case isTrue =>
    split
    case isTrue =>
      split
      · exact hput
      · exact h
    case isFalse => exact h.setBit (.inl (by decide)) 30 true
  case isFalse => exact (hput.irq (.inl (by decide)) 0).withBus _

theorem RegsBut.initiatorReact (sub : Nat) (w : Bool) : RegsBut errorReg s (t.initiatorReact init a sub w) := by
  have hcv : errorReg (CV.base init + 0x14) ∧ errorReg (CV.base init + 0x10) := by simp only [errorReg, CV.base]; omega
  have hmp : errorReg (MP.base (sub % 4) + 0x14) ∧ errorReg (MP.base (sub % 4) + 0x10) := by simp only [errorReg, MP.base]; omega
  fun_cases State.initiatorReact
  case case1 => exact (h.setBit hcv.2 3 true).irq hcv.1 3
  case case2 => exact h.irq (by simp only [errorReg, TLR.base]; omega) _
  case case3 => exact (h.setBit (.inr (by decide)) 0 true).irq (.inr (by decide)) 3
  case case4 => exact (h.setBit hmp.2 0 true).irq hmp.1 0
  case case5 => exact (h.setBit (.inr (by decide)) 0 true).irq (.inr (by decide)) 3
  case case6 => exact h.withClerks _ t.clerk1
  case case7 => exact h.withClerks t.clerk0 _
  case case8 => exact h.irq (by simp only [errorReg, ETH.base]; omega) 6
  case case9 => exact h.irq (by simp only [errorReg, CAN.base]; omega) 5
  case case10 => exact h

theorem RegsBut.fabCount {b : Nat} (hb : errorReg b) (hi lo : Nat) : RegsBut errorReg s (t.fabCount b hi lo) := by
  unfold State.fabCount
  split
  · exact h
  · exact h.wr hb _

theorem RegsBut.errorResp (c : Cause) (w : Bool) (sub : Nat) : RegsBut errorReg s (t.errorResp init a c w sub) := by
  have hcount := ((h.captureError init a c w).irq (base := FAB.base) (.inr (by decide)) 0).fabCount (b := FAB.ERRCNT)
    (.inr (by decide)) 31 0
  unfold State.errorResp
  refine RegsBut.withBus ?_ _
  split
  · exact hcount
  · exact hcount.initiatorReact init a sub w

end

section
variable (s : State) (init a : Nat) (c : Cause) (w : Bool) (sub : Nat)

theorem State.putError_bus : (s.putError init a c w).bus = s.bus := by
  rw [State.putError, State.wr_bus, State.wr_bus]

theorem State.captureError_softRst : (s.captureError init a c w).bus.softRst = s.bus.softRst := by
  unfold State.captureError
  split
  case isTrue =>
    split
    case isTrue =>
      split
      · rw [State.putError_bus]
      · rfl
    case isFalse => rw [State.setBit_bus]
  case isFalse =>
    dsimp only
    rw [State.irq_bus, State.putError_bus]

theorem State.fabCount_bus (b hi lo : Nat) : (s.fabCount b hi lo).bus = s.bus := by
  unfold State.fabCount
  split
  · rfl
  · exact s.count_bus b hi lo 1

/-- An error response ends no soft reset and starts none. -/
theorem State.errorResp_softRst : (s.errorResp init a c w sub).bus.softRst = s.bus.softRst := by
  unfold State.errorResp
  dsimp only
  split
  · rw [State.fabCount_bus, State.irq_bus, State.captureError_softRst]
  · rw [State.initiatorReact_bus, State.fabCount_bus, State.irq_bus, State.captureError_softRst]

theorem State.errorResp_clk : (s.errorResp init a c w sub).clk = s.clk := by
  obtain ⟨_, _, _, _, heq⟩ := ((State.ErrorFrame.refl s).errorResp init a c w sub).fields
  rw [heq]

theorem State.refused_errorResp : Refused init a c (s.errorResp init a c w sub) := s.errorResp_resp init a c w sub

end

theorem State.accepted_respond (s : State) (init a : Nat) : Accepted init a (s.respond init a 0) := rfl

end Sys2Proof.Machine
end

section
/-!
The writes that restart an ADPLL's acquisition, and those of its outputs (R116-R119, R123, R124, R142).
-/
namespace Sys2Proof.Machine

/-! ### What a response leaves of the registers -/

section
variable (s : State) (init a : Nat) (data : Word)

theorem State.fld_respond (b hi lo : Nat) : (s.respond init a data).fld b hi lo = s.fld b hi lo := rfl

theorem State.bit_respond (b i : Nat) : (s.respond init a data).bit b i = s.bit b i := rfl

end

/-! ### The frame -/

/-- `t` differs from `s` at most in registers of `P`, in the clocks, and in the PTP clock's bookkeeping. -/
structure State.ClockOnly (P : Nat → Prop) (s t : State) : Prop where
  fields : ∃ regs clk ptp, t = { s with regs := regs, clk := clk, ptp := ptp }
  regs : RegsBut P s t

namespace State.ClockOnly

theorem refl (P : Nat → Prop) (s : State) : s.ClockOnly P s := ⟨⟨_, _, _, rfl⟩, RegsBut.refl _ _⟩

section
variable {P : Nat → Prop} {s t : State} (h : s.ClockOnly P t)
include h

theorem trans {u : State} (hu : t.ClockOnly P u) : s.ClockOnly P u := by
  refine ⟨?_, h.regs.trans hu.regs⟩
  obtain ⟨_, _, _, rfl⟩ := h.fields
  obtain ⟨_, _, _, rfl⟩ := hu.fields
  exact ⟨_, _, _, rfl⟩

theorem wr {a : Nat} (ha : P a) (v : Word) : s.ClockOnly P (t.wr a v) :=
  h.trans ⟨⟨_, _, _, rfl⟩, (RegsBut.refl _ t).wr ha v⟩

theorem setBit {a : Nat} (ha : P a) (i : Nat) (b : Bool) : s.ClockOnly P (t.setBit a i b) := h.wr ha _

theorem setFld {a : Nat} (ha : P a) (hi lo v : Nat) : s.ClockOnly P (t.setFld a hi lo v) := h.wr ha _

theorem dropRegs {lo hi : Nat} (hP : ∀ a, lo ≤ a → a ≤ hi → P a) : s.ClockOnly P (t.dropRegs lo hi) := by
  refine h.trans ⟨⟨_, _, _, rfl⟩, fun a ha => ?_⟩
  rw [State.rd_dropRegs, if_pos]
  by_contra hin
  exact ha (hP a (by omega) (by omega))

theorem withClk (c : Clocks) : s.ClockOnly P { t with clk := c } := h.trans ⟨⟨_, _, _, rfl⟩, fun _ _ => rfl⟩

theorem ptpSync : s.ClockOnly P t.ptpSync := h.trans ⟨⟨_, _, _, rfl⟩, fun _ _ => rfl⟩

end
end State.ClockOnly

/-! ### Addresses -/

theorem adpllPage_zero : adpllPage 0 = ADPLLA := rfl

theorem adpllPage_one : adpllPage 1 = ADPLLB := rfl

theorem adpllPage_of_ne_zero {pll : Nat} (h : pll ≠ 0) : adpllPage pll = ADPLLB := if_neg h

/-- A register of an ADPLL page is none that an error response writes. -/
theorem not_errorReg_adpll (pll : Nat) {off : Nat} (hoff : off < 0x1000) : ¬ errorReg (adpllPage pll + off) := by
  simp only [errorReg, adpllPage, ADPLLA, ADPLLB]
  split <;> omega

/-- A refused write of an ADPLL's register leaves the registers of both pages alone. -/
theorem State.rd_errorResp_adpll (s : State) (init a : Nat) (c : Cause) (w : Bool) (sub pll : Nat) {off : Nat} (hoff : off < 0x1000) :
    (s.errorResp init a c w sub).rd (adpllPage pll + off) = s.rd (adpllPage pll + off) :=
  (RegsBut.refl errorReg s).errorResp init a c w sub _ (not_errorReg_adpll pll hoff)

/-! ### Acquisition starts over (R118, R121, R122) -/

/-- The registers that show it: LOCKSTAT, and ICALSTAT of ADPLL-B. -/
def acqReg (pll a : Nat) : Prop := a = adpllPage pll + 0x50 ∨ (pll ≠ 0 ∧ a = ADPLLB + 0x84)

theorem restartAcq_clockOnly (s : State) (pll : Nat) : s.ClockOnly (acqReg pll) (restartAcq s pll) := by
  have hshown := (((State.ClockOnly.refl (acqReg pll) s).ptpSync.setBit (.inl rfl) 31 false).setBit (.inl rfl) 30 true).setBit
    (.inl rfl) 29 (s.ptpSync.bit (adpllPage pll + 0x50) 28)
  unfold restartAcq
  dsimp only
  split
  case isTrue => exact hshown.withClk _
  case isFalse hpll => exact hshown.setBit (.inr ⟨hpll, rfl⟩) 31 false

/-- The bits of LOCKSTAT that a restart sets. -/
def State.acqShown (s : State) (a : Nat) : State := ((s.setBit a 31 false).setBit a 30 true).setBit a 29 (s.bit a 28)

theorem State.acqShown_bit (s : State) (a i : Nat) : (s.acqShown a).bit a i =
    if i = 29 then s.bit a 28 else if i = 30 then true else if i = 31 then false else s.bit a i := by
  simp [acqShown, State.bit_setBit]

theorem restartAcq_zero_regs (s : State) : (restartAcq s 0).regs = (s.ptpSync.acqShown (ADPLLA + 0x50)).regs := rfl

theorem restartAcq_of_ne_zero (s : State) {pll : Nat} (h : pll ≠ 0) :
    restartAcq s pll = (s.ptpSync.acqShown (ADPLLB + 0x50)).setBit (ADPLLB + 0x84) 31 false := by
  rw [restartAcq, if_neg h, adpllPage_of_ne_zero h]
  rfl

/-- LOCKSTAT after a restart: no lock, acquisition, and hold while the reference is lost. -/
theorem restartAcq_lockstat (s : State) (pll i : Nat) : (restartAcq s pll).bit (adpllPage pll + 0x50) i =
    if i = 29 then s.bit (adpllPage pll + 0x50) 28 else if i = 30 then true else if i = 31 then false
    else s.bit (adpllPage pll + 0x50) i := by
  by_cases h : pll = 0
  · subst h
    rw [State.bit_congr (State.rd_congr (restartAcq_zero_regs s) _)]
    exact s.ptpSync.acqShown_bit (ADPLLA + 0x50) i
  · rw [restartAcq_of_ne_zero s h, adpllPage_of_ne_zero h, State.bit_setBit_ne _ (by decide)]
    exact s.ptpSync.acqShown_bit (ADPLLB + 0x50) i

/-- A stopped ADPLL-A stops every clock that hangs on it (R118). -/
theorem domRun_of_acq_A {t : State} (h : t.bit (adpllPage 0 + 0x50) 30 = true) :
    ∀ d ∈ [Dom.fab, .tel, .adc, .xspi, .ox, .eth, .can, .ps], t.domRun d = false := by
  rw [adpllPage_zero] at h
  simp [State.domRun, h]

theorem domRun_of_acq_B {t : State} (h : t.bit (adpllPage 1 + 0x50) 30 = true) : t.domRun .pwm = false := by
  rw [adpllPage_one] at h
  simp [State.domRun, h]

/-- Acquisition of ADPLL-B makes its calibration invalid (R125). -/
theorem restartAcq_icalstat (s : State) {pll : Nat} (h : pll ≠ 0) : (restartAcq s pll).bit (ADPLLB + 0x84) 31 = false := by
  rw [restartAcq_of_ne_zero s h, State.bit_setBit_self _ _ (by decide), if_pos rfl]

theorem restartAcq_acqRestarted (s : State) (pll : Nat) : AcqRestarted pll s (restartAcq s pll) := by
  have hbit := restartAcq_lockstat s pll
  refine ⟨hbit 31, hbit 30, hbit 29, hbit 28, ?outputsA, ?outputB⟩
  case outputsA =>
    rintro rfl
    exact ⟨rfl, domRun_of_acq_A (hbit 30)⟩
  case outputB =>
    rintro rfl
    exact domRun_of_acq_B (hbit 30)

/-- What came before the restart does not matter but for the reference. -/
theorem AcqRestarted.of_lost {pll : Nat} {s u t : State} (h : AcqRestarted pll u t)
    (hlost : u.bit (adpllPage pll + 0x50) 28 = s.bit (adpllPage pll + 0x50) 28) : AcqRestarted pll s t := by
  unfold AcqRestarted at *
  rwa [← hlost]

theorem AcqRestarted.respond {pll : Nat} {s t : State} (h : AcqRestarted pll s t) (init a : Nat) (data : Word) :
    AcqRestarted pll s (t.respond init a data) := h

theorem not_acqReg {pll off : Nat} (hlock : off ≠ 0x50) (hcal : off ≠ 0x84) : ¬ acqReg pll (adpllPage pll + off) := by
  rintro (h | ⟨hpll, h⟩)
  · omega
  · rw [adpllPage_of_ne_zero hpll] at h
    omega

theorem restartAcq_rd (s : State) {pll off : Nat} (hlock : off ≠ 0x50) (hcal : off ≠ 0x84) :
    (restartAcq s pll).rd (adpllPage pll + off) = s.rd (adpllPage pll + off) :=
  (restartAcq_clockOnly s pll).regs _ (not_acqReg hlock hcal)

/-! ### REFCFG and FCW (R116-R119) -/

/-- The registers of an ADPLL that a change of its frequency writes. -/
def freqReg (pll a : Nat) : Prop := a ∈ [adpllPage pll + 0x40, adpllPage pll + 0x44, adpllPage pll + 0x50, adpllPage pll + 0x84]

theorem freqReg_of_acqReg {pll a : Nat} (h : acqReg pll a) : freqReg pll a := by
  obtain rfl | ⟨hpll, rfl⟩ := h
  · simp [freqReg]
  · simp [freqReg, adpllPage_of_ne_zero hpll]

/-- A change of the frequency restarts acquisition within the ADPLL's frame. -/
theorem State.ClockOnly.restart_adpllFrame {pll : Nat} {s t : State} (h : s.ClockOnly (freqReg pll) t) (init a : Nat) :
    AdpllFrame pll s ((restartAcq t pll).respond init a 0) := by
  have hrestart := h.trans ⟨(restartAcq_clockOnly t pll).fields, (restartAcq_clockOnly t pll).regs.mono fun _ => freqReg_of_acqReg⟩
  refine ⟨hrestart.regs, ?_⟩
  obtain ⟨_, _, _, heq⟩ := hrestart.fields
  rw [heq]
  rfl

/-- REFMODE takes the value `mode`, and with it FCW of ADPLL-B its own (R117). -/
def State.setMode (s : State) (pll mode : Nat) : State :=
  if pll = 0 then s.setFld (adpllPage pll + 0x40) 1 0 mode
  else (s.setFld (adpllPage pll + 0x40) 1 0 mode).wr (ADPLLB + 0x44) (fcwOfMode mode)

theorem State.setMode_clockOnly (s : State) (pll mode : Nat) : s.ClockOnly (freqReg pll) (s.setMode pll mode) := by
  have hmode := (State.ClockOnly.refl (freqReg pll) s).setFld (a := adpllPage pll + 0x40) (by simp [freqReg]) 1 0 mode
  unfold State.setMode
  split
  case isTrue => exact hmode
  case isFalse hpll => exact hmode.wr (by simp [freqReg, adpllPage_of_ne_zero hpll]) _

theorem State.setMode_rd (s : State) (pll mode : Nat) {off : Nat} (hoff : off ≠ 0x44) :
    (s.setMode pll mode).rd (adpllPage pll + off) = (s.setFld (adpllPage pll + 0x40) 1 0 mode).rd (adpllPage pll + off) := by
  unfold State.setMode
  split
  case isTrue => rfl
  case isFalse hpll => rw [State.rd_wr_ne _ _ (by rw [adpllPage_of_ne_zero hpll]; omega)]

theorem State.setMode_lost (s : State) (pll mode : Nat) :
    (s.setMode pll mode).bit (adpllPage pll + 0x50) 28 = s.bit (adpllPage pll + 0x50) 28 := by
  rw [State.bit_congr (s.setMode_rd pll mode (by decide)), State.setFld, State.bit_congr (State.rd_wr_ne _ _ (by omega))]

/-- REFMODE stands through the restart that its change brings. -/
theorem restartAcq_setMode_mode (s : State) (pll : Nat) (data : Word) :
    (restartAcq (s.setMode pll (bitsOf data 1 0)) pll).fld (adpllPage pll + 0x40) 1 0 = bitsOf data 1 0 := by
  rw [State.fld_congr (restartAcq_rd _ (by decide) (by decide)), State.fld_congr (s.setMode_rd pll _ (by decide)),
    State.fld_setFld_self _ _ (by decide), Nat.mod_eq_of_lt (bitsOf_lt data 1 0)]

theorem restartAcq_setMode_fcw (s : State) (mode : Nat) :
    (restartAcq (s.setMode 1 mode) 1).rd (ADPLLB + 0x44) = fcwOfMode mode :=
  (restartAcq_rd (s.setMode 1 mode) (pll := 1) (off := 0x44) (by decide) (by decide)).trans (State.rd_wr_self ..)

theorem refcfgWrite_accepted {s : State} {pll : Nat} {data : Word} (hmode : bitsOf data 1 0 ≠ 3) (hfree : restartRefused s pll = false)
    (hfreq : pll = 0 → dcoOk (bitsOf data 1 0) (s.fld (ADPLLA + 0x44) 28 0) = true ∧
      outsOk s (bitsOf data 1 0) (s.fld (ADPLLA + 0x44) 28 0) = true) (init : Nat) :
    refcfgWrite s init pll data = (restartAcq (s.setMode pll (bitsOf data 1 0)) pll).respond init (adpllPage pll + 0x40) 0 := by
  simp only [refcfgWrite, State.setMode]
  rw [if_neg (by simp [hmode, hfree])]
  split
  case isTrue hpll =>
    obtain ⟨hdco, houts⟩ := hfreq hpll
    rw [if_pos (by rw [hdco, houts]; rfl)]
  case isFalse => rfl

theorem refcfgWrite_refused {s : State} {pll : Nat} {data : Word} (h : bitsOf data 1 0 = 3 ∨ restartRefused s pll = true ∨ (pll = 0 ∧
    (dcoOk (bitsOf data 1 0) (s.fld (ADPLLA + 0x44) 28 0) && outsOk s (bitsOf data 1 0) (s.fld (ADPLLA + 0x44) 28 0)) = false))
    (init : Nat) : refcfgWrite s init pll data = s.errorResp init (adpllPage pll + 0x40) .refused true := by
  simp only [refcfgWrite]
  split
  case isTrue => rfl
  case isFalse hnot =>
    obtain ⟨hmode, hfree⟩ := not_or.1 hnot
    obtain ⟨hpll, hfreq⟩ := (h.resolve_left hmode).resolve_left hfree
    rw [if_pos hpll, hfreq, if_neg (by decide)]

/-- FCW stands through the restart that its change brings. -/
theorem restartAcq_fcw (s : State) (data : Word) :
    (restartAcq (s.setFld (ADPLLA + 0x44) 28 0 (bitsOf data 28 0)) 0).fld (ADPLLA + 0x44) 28 0 = bitsOf data 28 0 := by
  rw [← adpllPage_zero, State.fld_congr (restartAcq_rd _ (by decide) (by decide)), State.fld_setFld_self _ _ (by decide),
    Nat.mod_eq_of_lt (bitsOf_lt data 28 0)]

theorem fcwWrite_accepted {s : State} {data : Word} (hveto : s.rst.veto = true)
    (hdco : dcoOk (s.fld (ADPLLA + 0x40) 1 0) (bitsOf data 28 0) = true)
    (houts : outsOk s (s.fld (ADPLLA + 0x40) 1 0) (bitsOf data 28 0) = true) (init : Nat) :
    fcwWrite s init 0 data = (restartAcq (s.setFld (ADPLLA + 0x44) 28 0 (bitsOf data 28 0)) 0).respond init (ADPLLA + 0x44) 0 := by
  simp only [fcwWrite]
  rw [if_neg (by decide), if_neg (by simp [restartRefused, hveto]), if_pos (by rw [hdco, houts]; rfl), adpllPage_zero]

theorem fcwWrite_refused {s : State} {data : Word} (h : s.rst.veto = false ∨ (dcoOk (s.fld (ADPLLA + 0x40) 1 0) (bitsOf data 28 0) &&
    outsOk s (s.fld (ADPLLA + 0x40) 1 0) (bitsOf data 28 0)) = false) (init : Nat) :
    fcwWrite s init 0 data = s.errorResp init (ADPLLA + 0x44) .refused true := by
  simp only [fcwWrite]
  rw [if_neg (by decide)]
  split
  case isTrue => rfl
  case isFalse hfree =>
    have hfreq := h.resolve_left (by simpa [restartRefused] using hfree)
    rw [hfreq, if_neg (by decide), adpllPage_zero]

/-! ### A soft reset (R118, R142) -/

/-- The page's registers are back at reset, but for the reference detector's live bit; so are the trims of ADPLL-B. -/
def State.adpllCleared (s : State) (pll : Nat) : State :=
  let b := adpllPage pll
  let t := (((s.dropRegs (b + 0x40) (b + 0xFFF)).wr (b + 0x10) 0).wr (b + 0x14) 0).setBit (b + 0x50) 28 (s.bit (b + 0x50) 28)
  if pll = 0 then t else { t with clk := { t.clk with trims := List.replicate 6 0 } }

theorem inPage_add (b : Nat) {off : Nat} (h : off < 0x1000) : inPage b (b + off) := ⟨by omega, by omega⟩

theorem State.adpllCleared_clockOnly (s : State) (pll : Nat) : s.ClockOnly (inPage (adpllPage pll)) (s.adpllCleared pll) := by
  have hdrop := (State.ClockOnly.refl (inPage (adpllPage pll)) s).dropRegs (lo := adpllPage pll + 0x40) (hi := adpllPage pll + 0xFFF)
    fun a hlo hhi => ⟨by omega, by omega⟩
  have hclear := ((hdrop.wr (inPage_add _ (off := 0x10) (by decide)) 0).wr (inPage_add _ (off := 0x14) (by decide)) 0).setBit
    (inPage_add _ (off := 0x50) (by decide)) 28 (s.bit (adpllPage pll + 0x50) 28)
  unfold State.adpllCleared
  dsimp only
  split
  · exact hclear
  · exact hclear.withClk _

/-- The registers of the page, whichever ADPLL it is. -/
theorem State.adpllCleared_rd (s : State) (pll a : Nat) : (s.adpllCleared pll).rd a =
    ((((s.dropRegs (adpllPage pll + 0x40) (adpllPage pll + 0xFFF)).wr (adpllPage pll + 0x10) 0).wr (adpllPage pll + 0x14) 0).setBit
      (adpllPage pll + 0x50) 28 (s.bit (adpllPage pll + 0x50) 28)).rd a := by
  unfold State.adpllCleared
  dsimp only
  split
  · rfl
  · rfl

theorem State.adpllCleared_rd_reset (s : State) (pll : Nat) {off : Nat} (hlo : 0x40 ≤ off) (hhi : off < 0x1000) (hlock : off ≠ 0x50) :
    (s.adpllCleared pll).rd (adpllPage pll + off) = resetOf (adpllPage pll + off) := by
  rw [State.adpllCleared_rd, State.rd_setBit, if_neg (by omega), State.rd_wr_ne _ _ (by omega), State.rd_wr_ne _ _ (by omega),
    State.rd_dropRegs, if_neg (by omega)]

theorem State.adpllCleared_rd_irq (s : State) (pll : Nat) : (s.adpllCleared pll).rd (adpllPage pll + 0x14) = 0 := by
  rw [State.adpllCleared_rd, State.rd_setBit, if_neg (by omega), State.rd_wr_self]

theorem State.adpllCleared_lost (s : State) (pll : Nat) :
    (s.adpllCleared pll).bit (adpllPage pll + 0x50) 28 = s.bit (adpllPage pll + 0x50) 28 := by
  rw [State.bit_congr (s.adpllCleared_rd pll _), State.bit_setBit_self _ _ (by decide), if_pos rfl]

/-- The restart that follows keeps to the page, too. -/
theorem State.restartAcq_cleared_clockOnly (s : State) (pll : Nat) :
    s.ClockOnly (inPage (adpllPage pll)) (restartAcq (s.adpllCleared pll) pll) := by
  have hrestart := restartAcq_clockOnly (s.adpllCleared pll) pll
  refine (s.adpllCleared_clockOnly pll).trans ⟨hrestart.fields, hrestart.regs.mono fun a ha => ?_⟩
  obtain rfl | ⟨hpll, rfl⟩ := ha
  · exact inPage_add _ (by decide)
  · rw [adpllPage_of_ne_zero hpll]
    exact inPage_add _ (by decide)

theorem restartAcq_cleared_rd (s : State) (pll : Nat) {off : Nat} (hlo : 0x40 ≤ off) (hhi : off < 0x1000) (hlock : off ≠ 0x50)
    (hcal : off ≠ 0x84) : (restartAcq (s.adpllCleared pll) pll).rd (adpllPage pll + off) = resetOf (adpllPage pll + off) :=
  (restartAcq_rd _ hlock hcal).trans (s.adpllCleared_rd_reset pll hlo hhi hlock)

/-- The soft reset of the page at `b` is under way. -/
def State.resetting (s : State) (b : Nat) : State := { s with bus := { s.bus with softRst := s.bus.softRst ++ [b] } }

theorem AcqRestarted.resetting {pll : Nat} {s t : State} (h : AcqRestarted pll s t) (b : Nat) : AcqRestarted pll s (t.resetting b) := h

theorem adpllSoftRst_accepted {s : State} {pll : Nat} (h : restartRefused s pll = false) (init : Nat) : adpllSoftRst s init pll =
    ((restartAcq (s.adpllCleared pll) pll).resetting (adpllPage pll)).respond init (adpllPage pll + 0x0C) 0 := by
  simp only [adpllSoftRst]
  rw [if_neg (by simp [h])]
  rfl

theorem adpllSoftRst_refused {s : State} {pll : Nat} (h : restartRefused s pll = true) (init : Nat) :
    adpllSoftRst s init pll = s.errorResp init (adpllPage pll + 0x0C) .refused true := by
  rw [adpllSoftRst, if_pos h]

/-! ### The outputs (R116, R119, R123, R124) -/

/-- OUTk_CFG with the enable, divider and delay of a write. -/
def outWord (old data : Word) : Word := putBits (putBits old 31 31 (bitsOf data 31 31)) 15 0 (bitsOf data 15 0)

theorem tb_outWord (old data : Word) : tb (outWord old data) 31 = tb data 31 := by
  rw [outWord, tb_putBits _ (by decide), if_neg (by decide), bitsOf_bit, tb_putBits_bit _ (by decide), if_pos rfl]

theorem bitsOf_outWord (old data : Word) : bitsOf (outWord old data) 15 0 = bitsOf data 15 0 := by
  rw [outWord, bitsOf_putBits_self _ (by decide), Nat.mod_eq_of_lt (bitsOf_lt data 15 0)]

/-- A write to OUTk_CFG of ADPLL-A, its refusals in their order. -/
theorem outCfgWrite_A (s : State) {k : Nat} (hk : k < 8) (init : Nat) (data : Word) : outCfgWrite s init 0 k data =
    if bitsOf data 15 8 < 2 ∨ (k = 1 ∧ !tb data 31) then s.errorResp init (ADPLLA + 0x60 + 4 * k) .refused true
    else if s.bit (ADPLLA + 0x60 + 4 * k) 31 ∧ s.fld (ADPLLA + 0x60 + 4 * k) 15 0 ≠ bitsOf data 15 0 then
      s.errorResp init (ADPLLA + 0x60 + 4 * k) .refused true
    else if tb data 31 && !outOk (s.fld (ADPLLA + 0x40) 1 0) (s.fld (ADPLLA + 0x44) 28 0) k (bitsOf data 15 8) then
      s.errorResp init (ADPLLA + 0x60 + 4 * k) .refused true
    else (s.ptpSync.wr (ADPLLA + 0x60 + 4 * k) (outWord (s.rd (ADPLLA + 0x60 + 4 * k)) data)).respond init (ADPLLA + 0x60 + 4 * k) 0 :=
  if_neg (Nat.not_le.2 hk)

theorem outCfgWrite_accepted_A {s : State} {k : Nat} {data : Word} (hk : k < 8) (hdiv : 2 ≤ bitsOf data 15 8)
    (hfab : k = 1 → tb data 31 = true)
    (hsame : s.bit (ADPLLA + 0x60 + 4 * k) 31 = false ∨ s.fld (ADPLLA + 0x60 + 4 * k) 15 0 = bitsOf data 15 0)
    (hmax : tb data 31 = true → outOk (s.fld (ADPLLA + 0x40) 1 0) (s.fld (ADPLLA + 0x44) 28 0) k (bitsOf data 15 8) = true)
    (init : Nat) : outCfgWrite s init 0 k data =
      (s.ptpSync.wr (ADPLLA + 0x60 + 4 * k) (outWord (s.rd (ADPLLA + 0x60 + 4 * k)) data)).respond init (ADPLLA + 0x60 + 4 * k) 0 := by
  have hallowed : ¬ (bitsOf data 15 8 < 2 ∨ (k = 1 ∧ (!tb data 31) = true)) := by
    rintro (hlt | ⟨h1, hoff⟩)
    · omega
    · simp [hfab h1] at hoff
  have hstands : ¬ (s.bit (ADPLLA + 0x60 + 4 * k) 31 = true ∧ s.fld (ADPLLA + 0x60 + 4 * k) 15 0 ≠ bitsOf data 15 0) := by
    rintro ⟨hon, hne⟩
    exact hsame.elim (by simp [hon]) hne
  have hslow : ¬ (tb data 31 &&
      !outOk (s.fld (ADPLLA + 0x40) 1 0) (s.fld (ADPLLA + 0x44) 28 0) k (bitsOf data 15 8)) = true := by
    cases hon : tb data 31 <;> simp [hmax, hon]
  rw [outCfgWrite_A s hk, if_neg hallowed, if_neg hstands, if_neg hslow]

theorem outCfgWrite_refused_A {s : State} {k : Nat} {data : Word} (hk : k < 8) (h : bitsOf data 15 8 < 2 ∨ (k = 1 ∧ tb data 31 = false) ∨
    (s.bit (ADPLLA + 0x60 + 4 * k) 31 = true ∧ s.fld (ADPLLA + 0x60 + 4 * k) 15 0 ≠ bitsOf data 15 0)) (init : Nat) :
    outCfgWrite s init 0 k data = s.errorResp init (ADPLLA + 0x60 + 4 * k) .refused true := by
  rw [outCfgWrite_A s hk]
  split
  case isTrue => rfl
  case isFalse hnot =>
    obtain ⟨hdiv, hfab⟩ := not_or.1 hnot
    exact if_pos ((h.resolve_left hdiv).resolve_left (by simpa using hfab))

theorem outCfgWrite_accepted_B {s : State} {data : Word} (h : tb data 31 = true ∨ anyPwmOn s = false) (init : Nat) :
    outCfgWrite s init 1 0 data = (s.setBit (ADPLLB + 0x60) 31 (tb data 31)).respond init (ADPLLB + 0x60) 0 := by
  simp only [outCfgWrite, adpllPage_one]
  rw [if_pos (by decide), if_neg (by decide), if_neg (by rcases h with h | h <;> simp [h])]

theorem outCfgWrite_refused_B {s : State} {data : Word} (hoff : tb data 31 = false) (hon : anyPwmOn s = true) (init : Nat) :
    outCfgWrite s init 1 0 data = s.errorResp init (ADPLLB + 0x60) .refused true := by
  simp only [outCfgWrite, adpllPage_one]
  rw [if_pos (by decide), if_neg (by decide), if_pos (by simp [hoff, hon])]

/-! ### The commands -/

section
variable {s : State} {pll : Nat} (h : s.mustWait .ref (adpllPage pll) = false) (init : Nat) (data : Word)
include h

theorem exec_adpllRefcfgWrite_now : exec (.adpllRefcfgWrite init pll data) s = .next (refcfgWrite s init pll data) := by
  change execAdpllRefcfgWrite init pll data s = _
  rw [execAdpllRefcfgWrite, State.writeAt_now h]

theorem exec_adpllFcwWrite_now : exec (.adpllFcwWrite init pll data) s = .next (fcwWrite s init pll data) := by
  change execAdpllFcwWrite init pll data s = _
  rw [execAdpllFcwWrite, State.writeAt_now h]

/-- The command sets CTRL.SOFT_RST whatever the rest of its data. -/
theorem exec_adpllSoftReset_now : exec (.adpllSoftReset init pll data) s = .next (adpllSoftRst s init pll) := by
  have hset : tb (data ||| 2) 1 = true := by simp [tb]
  change execAdpllSoftReset init pll data s = _
  rw [execAdpllSoftReset, State.writeAt_now h, adpllCtrlWrite, if_pos hset]

theorem exec_adpllOutputCfgWrite_now (k : Nat) :
    exec (.adpllOutputCfgWrite init pll k data) s = .next (outCfgWrite s init pll k data) := by
  change execAdpllOutputCfgWrite init pll k data s = _
  rw [execAdpllOutputCfgWrite, State.writeAt_now h]

end

/-- Settles O7: an allowed write restarts acquisition from what it has written, within the frame of a restart, and a refused one is an
error response, which touches no register of an ADPLL. -/
theorem adpllWritesRestartAcquisition : Obligations.AdpllWritesRestartAcquisition := by
  unfold Obligations.AdpllWritesRestartAcquisition
  intro s init pll hpll hlive
  refine ⟨?refcfg, ?refcfgRefused, ?fcw, ?fcwRefused, ?fcwReadOnly, ?softResetRefused, ?softReset, ?output, ?outputRefused, ?outputB,
    ?outputBRefused⟩
  case refcfg =>
    intro data hmode hfree hfreq
    refine ⟨_, (exec_adpllRefcfgWrite_now hlive init data).trans (congrArg _ (refcfgWrite_accepted hmode hfree hfreq init)), ?value,
      ?restarted, ?follows, State.accepted_respond .., (s.setMode_clockOnly pll _).restart_adpllFrame init _⟩
    case value => exact (State.fld_respond ..).trans (restartAcq_setMode_mode s pll data)
    case restarted =>
      exact ((restartAcq_acqRestarted _ pll).of_lost (s.setMode_lost pll _)).respond init _ 0
    case follows =>
      rintro rfl
      exact ⟨(State.rd_respond ..).trans (restartAcq_setMode_fcw s _),
        (State.bit_respond ..).trans (restartAcq_icalstat _ (by decide))⟩
  case refcfgRefused =>
    intro data h
    exact ⟨_, (exec_adpllRefcfgWrite_now hlive init data).trans (congrArg _ (refcfgWrite_refused h init)),
      State.refused_errorResp .., State.errorResp_clk .., State.rd_errorResp_adpll _ _ _ _ _ _ _ (by decide)⟩
  case fcw =>
    rintro data rfl hveto hdco houts
    refine ⟨_, (exec_adpllFcwWrite_now hlive init data).trans (congrArg _ (fcwWrite_accepted hveto hdco houts init)), ?value,
      ?restarted, State.accepted_respond .., State.ClockOnly.restart_adpllFrame ?frame init _⟩
    case value => exact (State.fld_respond ..).trans (restartAcq_fcw s data)
    case restarted =>
      refine ((restartAcq_acqRestarted _ 0).of_lost ?_).respond init _ 0
      exact State.bit_congr (State.rd_wr_ne _ _ (by decide)) 28
    case frame => exact (State.ClockOnly.refl _ s).setFld (by simp [freqReg, adpllPage_zero]) 28 0 _
  case fcwRefused =>
    rintro data rfl h
    exact ⟨_, (exec_adpllFcwWrite_now hlive init data).trans (congrArg _ (fcwWrite_refused h init)),
      State.refused_errorResp .., State.errorResp_clk .., s.rd_errorResp_adpll _ _ _ _ _ 0 (by decide)⟩
  case fcwReadOnly =>
    rintro data rfl
    exact ⟨_, exec_adpllFcwWrite_now hlive init data, rfl, rfl⟩
  case softResetRefused =>
    intro data h
    exact ⟨_, (exec_adpllSoftReset_now hlive init data).trans (congrArg _ (adpllSoftRst_refused h init)),
      State.refused_errorResp .., State.errorResp_clk .., State.errorResp_softRst ..⟩
  case softReset =>
    intro data h
    have hcleared := s.restartAcq_cleared_clockOnly pll
    refine ⟨_, (exec_adpllSoftReset_now hlive init data).trans (congrArg _ (adpllSoftRst_accepted h init)),
      ?restarted, restartAcq_cleared_rd s pll (by decide) (by decide) (by decide) (by decide),
      restartAcq_cleared_rd s pll (by decide) (by decide) (by decide) (by decide), ?irq, ?softRst, State.accepted_respond .., ?regs,
      ?fields⟩
    case restarted =>
      exact (((restartAcq_acqRestarted _ pll).of_lost (s.adpllCleared_lost pll)).resetting _).respond init _ 0
    case irq => exact (restartAcq_rd _ (by decide) (by decide)).trans (s.adpllCleared_rd_irq pll)
    case softRst =>
      obtain ⟨_, _, _, heq⟩ := hcleared.fields
      rw [heq]
      rfl
    case regs => exact hcleared.regs
    case fields =>
      obtain ⟨_, _, _, heq⟩ := hcleared.fields
      rw [heq]
      rfl
  case output =>
    rintro k data rfl hk hdiv hfab hsame hmax
    refine ⟨_, (exec_adpllOutputCfgWrite_now hlive init data k).trans
      (congrArg _ (outCfgWrite_accepted_A hk hdiv hfab hsame hmax init)), ?enable, ?divider, State.accepted_respond ..,
      ((State.ClockOnly.refl (· = ADPLLA + 0x60 + 4 * k) s).ptpSync.wr rfl _).regs, rfl⟩
    case enable => exact (State.bit_respond ..).trans ((congrArg (tb · 31) (State.rd_wr_self ..)).trans (tb_outWord _ data))
    case divider => exact (State.fld_respond ..).trans ((congrArg (bitsOf · 15 0) (State.rd_wr_self ..)).trans (bitsOf_outWord _ data))
  case outputRefused =>
    rintro k data rfl hk h
    refine ⟨_, (exec_adpllOutputCfgWrite_now hlive init data k).trans (congrArg _ (outCfgWrite_refused_A hk h init)),
      State.refused_errorResp .., ?_⟩
    rw [Nat.add_assoc]
    exact s.rd_errorResp_adpll _ _ _ _ _ 0 (by omega)
  case outputB =>
    rintro data rfl h
    refine ⟨_, (exec_adpllOutputCfgWrite_now hlive init data 0).trans (congrArg _ (outCfgWrite_accepted_B h init)), ?_,
      State.accepted_respond .., (RegsBut.refl (· = ADPLLB + 0x60) s).setBit rfl 31 _, rfl⟩
    exact (State.bit_respond ..).trans ((s.bit_setBit_self _ (by decide) _ _).trans (if_pos rfl))
  case outputBRefused =>
    rintro data rfl hoff hon
    exact ⟨_, (exec_adpllOutputCfgWrite_now hlive init data 0).trans (congrArg _ (outCfgWrite_refused_B hoff hon init)),
      State.refused_errorResp .., State.bit_congr (s.rd_errorResp_adpll _ _ _ _ _ 1 (by decide)) 31⟩

end Sys2Proof.Machine
end

section
/-!
Lock, its loss, a lost reference and the grace count (R120-R122); the interpolator calibration (R125, R126) and the clock monitor
(R134).
-/
namespace Sys2Proof.Machine

/-! ### Lists of like things -/

theorem nth_upd_self {α : Type} (d : α) (l : List α) {i : Nat} (hi : i < l.length) (f : α → α) : nth d (upd l i f) i = f (nth d l i) := by
  simp [nth, upd, List.getD_eq_getElem?_getD, hi]

theorem nth_upd_ne {α : Type} (d : α) (l : List α) {i j : Nat} (h : j ≠ i) (f : α → α) : nth d (upd l i f) j = nth d l j := by
  simp [nth, upd, List.getD_eq_getElem?_getD, Ne.symm h]

/-! ### LOCKSTAT at a lock declaration (R120) -/

theorem tb_ofNat (n : Nat) {i : Nat} (hi : i < 32) : tb (Word.ofNat n) i = n.testBit i := by
  rw [tb, BitVec.getLsbD_ofNat, decide_eq_true hi, Bool.true_and]

theorem phErrBits_lt (e : Int) : phErrBits e < 2 ^ 16 := by
  simp only [phErrBits, ofSigned]
  omega

/-- LOCKSTAT with LOCK set, the flags of bits 25-23 and the phase error. -/
def lockWord (flags err : Nat) : Word := Word.ofNat (2 ^ 31 + flags * 2 ^ 23 + err)

theorem tb_lockWord {flags err i : Nat} (hflags : flags < 8) (herr : err < 2 ^ 16) (hhigh : 26 ≤ i) (hi : i < 32) :
    tb (lockWord flags err) i = decide (i = 31) := by
  rw [lockWord, tb_ofNat _ hi, Nat.testBit_eq_decide_div_mod_eq, decide_eq_decide]
  interval_cases i <;> omega

theorem bitsOf_lockWord (flags : Nat) {err : Nat} (herr : err < 2 ^ 16) : bitsOf (lockWord flags err) 15 0 = err := by
  rw [lockWord, bitsOf_ofNat]
  omega

/-! ### Register writes alone -/

/-- `t` differs from `s` in registers alone. -/
def State.RegsOnly (s t : State) : Prop := ∃ regs, t = { s with regs := regs }

namespace State.RegsOnly

theorem refl (s : State) : s.RegsOnly s := ⟨_, rfl⟩

section
variable {s t : State} (h : s.RegsOnly t)
include h

theorem wr (a : Nat) (v : Word) : s.RegsOnly (t.wr a v) := by
  obtain ⟨_, rfl⟩ := h
  exact ⟨_, rfl⟩

theorem setFld (a hi lo v : Nat) : s.RegsOnly (t.setFld a hi lo v) := h.wr a _

theorem setBit (a i : Nat) (b : Bool) : s.RegsOnly (t.setBit a i b) := h.wr a _

theorem irq (base i : Nat) : s.RegsOnly (t.irq base i) := h.wr _ _

/-- The registers are then the new state's own. -/
theorem eq_regs : t = { s with regs := t.regs } := by
  obtain ⟨_, rfl⟩ := h
  rfl

end
end State.RegsOnly

/-! ### The grace count and the trims -/

/-- The grace count of ADPLL-A runs, or not (R122). -/
def State.withGrace (s : State) (b : Bool) : State := { s with clk := { s.clk with grace := b } }

/-- The trims of ADPLL-B's groups (R125). -/
def State.withTrims (s : State) (l : List Nat) : State := { s with clk := { s.clk with trims := l } }

theorem State.rd_withGrace (s : State) (b : Bool) (a : Nat) : (s.withGrace b).rd a = s.rd a := rfl

theorem State.rd_withTrims (s : State) (l : List Nat) (a : Nat) : (s.withTrims l).rd a = s.rd a := rfl

/-! ### A lock declaration (R120, R125) -/

/-- The PTP clock is brought up to date before its source runs again, and LOCKSTAT shows the lock. -/
def State.lockShown (s : State) (pll : Nat) (err : Int) : State :=
  s.ptpSync.wr (adpllPage pll + 0x50) (lockWord (s.fld (adpllPage pll + 0x50) 25 23) (phErrBits err))

/-- ICALSTAT shows ADPLL-B's first calibration pass. -/
def State.icalShown (s : State) (worst maxErr : Nat) : State :=
  s.wr (ADPLLB + 0x84) (putBits (putBits (putBits (s.rd (ADPLLB + 0x84)) 31 31 1) 18 16 worst) 15 8 (min maxErr 255))

/-- Lock is recorded: on ADPLL-A it ends a grace count, on ADPLL-B the first one shows the calibration. -/
def State.lockRecord (s : State) (pll : Nat) (err : Int) (worst maxErr : Nat) : State :=
  if pll = 0 then (s.lockShown pll err).withGrace false
  else if s.bit (adpllPage pll + 0x50) 30 then (s.lockShown pll err).icalShown worst maxErr
  else s.lockShown pll err

/-- Lock has been declared; the Dawn sequence has not gone on yet. -/
def State.lockTaken (s : State) (pll : Nat) (err : Int) (trims : List Nat) (worst maxErr : Nat) : State :=
  if pll ≠ 0 ∧ s.bit (adpllPage pll + 0x50) 30 then
    (s.lockRecord pll err worst maxErr).withTrims ((List.range 6).map (fun g => min (trims.getD g 0) 63))
  else s.lockRecord pll err worst maxErr

/-- The Dawn sequence goes on once both ADPLLs have locked (R109). -/
def State.dawnOnLock (s : State) : State :=
  if s.rst.dawn = .locking ∧ s.bit (ADPLLA + 0x50) 31 ∧ s.bit (ADPLLB + 0x50) 31 then { s with rst := { s.rst with dawn := .memTest } }
  else s

theorem lockDeclare_eq {s : State} {pll : Nat} (hdawn : s.rst.dawn ≠ .held) (hlock : s.bit (adpllPage pll + 0x50) 31 = false)
    (hlost : s.bit (adpllPage pll + 0x50) 28 = false) (err : Int) (trims : List Nat) (worst maxErr : Nat) :
    lockDeclare s pll err trims worst maxErr = (s.lockTaken pll err trims worst maxErr).dawnOnLock :=
  if_neg (by simp [hdawn, hlock, hlost])

/-- The registers that a lock declaration writes. -/
def lockReg (pll a : Nat) : Prop := a = adpllPage pll + 0x50 ∨ a = ADPLLB + 0x84

section
variable (s : State) (pll : Nat) (err : Int) (trims : List Nat) (worst maxErr : Nat)

theorem State.lockShown_clockOnly : s.ClockOnly (lockReg pll) (s.lockShown pll err) := (State.ClockOnly.refl _ s).ptpSync.wr (.inl rfl) _

theorem State.lockRecord_clockOnly : s.ClockOnly (lockReg pll) (s.lockRecord pll err worst maxErr) := by
  have hshown := s.lockShown_clockOnly pll err
  unfold State.lockRecord
  split
  · exact hshown.withClk _
  · split
    · exact hshown.wr (.inr rfl) _
    · exact hshown

theorem State.lockTaken_clockOnly : s.ClockOnly (lockReg pll) (s.lockTaken pll err trims worst maxErr) := by
  have hrecord := s.lockRecord_clockOnly pll err worst maxErr
  unfold State.lockTaken
  split
  · exact hrecord.withClk _
  · exact hrecord

theorem State.lockRecord_lockstat : (s.lockRecord pll err worst maxErr).rd (adpllPage pll + 0x50) =
    lockWord (s.fld (adpllPage pll + 0x50) 25 23) (phErrBits err) := by
  unfold State.lockRecord
  split
  case isTrue => rw [State.rd_withGrace, State.lockShown, State.rd_wr_self]
  case isFalse hpll =>
    have hne : adpllPage pll + 0x50 ≠ ADPLLB + 0x84 := by rw [adpllPage_of_ne_zero hpll]; decide
    split
    · rw [State.icalShown, State.rd_wr_ne _ _ hne, State.lockShown, State.rd_wr_self]
    · rw [State.lockShown, State.rd_wr_self]

theorem State.lockTaken_lockstat : (s.lockTaken pll err trims worst maxErr).rd (adpllPage pll + 0x50) =
    lockWord (s.fld (adpllPage pll + 0x50) 25 23) (phErrBits err) := by
  unfold State.lockTaken
  split
  · rw [State.rd_withTrims, State.lockRecord_lockstat]
  · exact s.lockRecord_lockstat pll err worst maxErr

/-- The upper bits of LOCKSTAT after a declaration: LOCK alone. -/
theorem State.lockTaken_bit {i : Nat} (hhigh : 26 ≤ i) (hi : i < 32) :
    (s.lockTaken pll err trims worst maxErr).bit (adpllPage pll + 0x50) i = decide (i = 31) := by
  rw [State.bit, s.lockTaken_lockstat, tb_lockWord (s.fld_lt _ 25 23) (phErrBits_lt err) hhigh hi]

theorem State.lockTaken_phErr : (s.lockTaken pll err trims worst maxErr).fld (adpllPage pll + 0x50) 15 0 = phErrBits err := by
  rw [State.fld, s.lockTaken_lockstat, bitsOf_lockWord _ (phErrBits_lt err)]

theorem State.lockTaken_rst : (s.lockTaken pll err trims worst maxErr).rst = s.rst := by
  obtain ⟨_, _, _, heq⟩ := (s.lockTaken_clockOnly pll err trims worst maxErr).fields
  rw [heq]

/-- The other ADPLL's LOCKSTAT stands. -/
theorem State.lockTaken_other {off : Nat} (hother : ¬ lockReg pll off) (i : Nat) :
    (s.lockTaken pll err trims worst maxErr).bit off i = s.bit off i :=
  State.bit_congr ((s.lockTaken_clockOnly pll err trims worst maxErr).regs off hother) i

theorem State.lockTaken_grace : (s.lockTaken 0 err trims worst maxErr).clk.grace = false := rfl

end

/-- The first lock of ADPLL-B takes the calibration's results (R125). -/
theorem State.lockTaken_first {s : State} (hacq : s.bit (ADPLLB + 0x50) 30 = true) (err : Int) (trims : List Nat) (worst maxErr : Nat) :
    s.lockTaken 1 err trims worst maxErr =
      ((s.lockShown 1 err).icalShown worst maxErr).withTrims ((List.range 6).map (fun g => min (trims.getD g 0) 63)) := by
  rw [State.lockTaken, if_pos ⟨by decide, hacq⟩, State.lockRecord, if_neg (by decide), if_pos (by rw [adpllPage_one, hacq])]

section
variable (s : State) (worst maxErr : Nat)

theorem State.icalShown_rd : (s.icalShown worst maxErr).rd (ADPLLB + 0x84) =
    putBits (putBits (putBits (s.rd (ADPLLB + 0x84)) 31 31 1) 18 16 worst) 15 8 (min maxErr 255) := State.rd_wr_self ..

theorem State.icalShown_valid : (s.icalShown worst maxErr).bit (ADPLLB + 0x84) 31 = true := by
  simp [State.bit, State.icalShown_rd, tb_putBits]

theorem State.icalShown_worst : (s.icalShown worst maxErr).fld (ADPLLB + 0x84) 18 16 = worst % 8 := by
  rw [State.fld, State.icalShown_rd, bitsOf_putBits_disjoint _ (by decide) (by decide), bitsOf_putBits_self _ (by decide)]
  rfl

end

theorem nth_measuredTrims (trims : List Nat) {g : Nat} (hg : g < 6) :
    nth 0 ((List.range 6).map (fun g => min (trims.getD g 0) 63)) g = min (nth 0 trims g) 63 := by
  simp [nth, hg]

/-- What the first lock of ADPLL-B shows and holds. -/
theorem State.lockTaken_calibrated {s : State} (hacq : s.bit (ADPLLB + 0x50) 30 = true) (err : Int) (trims : List Nat)
    (worst maxErr : Nat) : (s.lockTaken 1 err trims worst maxErr).bit (ADPLLB + 0x84) 31 = true ∧
      (s.lockTaken 1 err trims worst maxErr).fld (ADPLLB + 0x84) 18 16 = worst % 8 ∧
      (∀ g, g < 6 → nth 0 (s.lockTaken 1 err trims worst maxErr).clk.trims g = min (nth 0 trims g) 63) := by
  rw [State.lockTaken_first hacq]
  refine ⟨?_, ?_, fun g hg => nth_measuredTrims trims hg⟩
  · rw [State.bit_congr (State.rd_withTrims ..), State.icalShown_valid]
  · rw [State.fld_congr (State.rd_withTrims ..), State.icalShown_worst]

/-! ### The Dawn sequence at a lock declaration (R109) -/

theorem State.dawnOnLock_regs (s : State) : s.dawnOnLock.regs = s.regs := by
  unfold State.dawnOnLock
  split <;> rfl

theorem State.dawnOnLock_clk (s : State) : s.dawnOnLock.clk = s.clk := by
  unfold State.dawnOnLock
  split <;> rfl

theorem State.dawnOnLock_fields (s : State) : ∃ r, s.dawnOnLock = { s with rst := r } := by
  unfold State.dawnOnLock
  split <;> exact ⟨_, rfl⟩

theorem State.dawnOnLock_stands {s : State} (h : s.rst.dawn ≠ .locking) : s.dawnOnLock = s := if_neg fun hall => h hall.1

/-- While the ADPLLs lock, the second lock starts the memory test. -/
theorem State.dawnOnLock_dawn {s : State} (h : s.rst.dawn = .locking) : s.dawnOnLock.rst.dawn =
    if s.bit (ADPLLA + 0x50) 31 ∧ s.bit (ADPLLB + 0x50) 31 then .memTest else .locking := by
  unfold State.dawnOnLock
  by_cases hboth : s.bit (ADPLLA + 0x50) 31 ∧ s.bit (ADPLLB + 0x50) 31
  · rw [if_pos ⟨h, hboth⟩, if_pos hboth]
  · rw [if_neg fun hall => hboth hall.2, if_neg hboth, h]

/-- A lock declaration in the Dawn sequence: it goes on when the other ADPLL has locked before. -/
theorem lockTaken_dawn {s : State} (hdawn : s.rst.dawn = .locking) {pll : Nat} (hpll : pll < 2) (err : Int) (trims : List Nat)
    (worst maxErr : Nat) : (s.lockTaken pll err trims worst maxErr).dawnOnLock.rst.dawn =
      if s.bit (adpllPage (1 - pll) + 0x50) 31 then .memTest else .locking := by
  have hown := s.lockTaken_bit pll err trims worst maxErr (i := 31) (by decide) (by decide)
  rw [State.dawnOnLock_dawn (by rw [State.lockTaken_rst, hdawn])]
  obtain rfl | rfl : pll = 0 ∨ pll = 1 := by omega
  · have hother := s.lockTaken_other 0 err trims worst maxErr (off := ADPLLB + 0x50) (by unfold lockReg; decide) 31
    rw [adpllPage_zero] at hown
    simp [hown, hother, adpllPage_one]
  · have hother := s.lockTaken_other 1 err trims worst maxErr (off := ADPLLA + 0x50) (by unfold lockReg; decide) 31
    rw [adpllPage_one] at hown
    simp [hown, hother, adpllPage_zero]

/-! ### The state after a lock declaration -/

/-- Lock has been declared, and the Dawn sequence has gone on where it may. -/
def State.lockDone (s : State) (pll : Nat) (err : Int) (trims : List Nat) (worst maxErr : Nat) : State :=
  (s.lockTaken pll err trims worst maxErr).dawnOnLock

section
variable (s : State) (pll : Nat) (err : Int) (trims : List Nat) (worst maxErr : Nat)

theorem State.lockDone_rd (a : Nat) : (s.lockDone pll err trims worst maxErr).rd a = (s.lockTaken pll err trims worst maxErr).rd a :=
  State.rd_congr (State.dawnOnLock_regs _) a

theorem State.lockDone_clk : (s.lockDone pll err trims worst maxErr).clk = (s.lockTaken pll err trims worst maxErr).clk :=
  State.dawnOnLock_clk _

theorem State.lockDone_bit {i : Nat} (hhigh : 26 ≤ i) (hi : i < 32) :
    (s.lockDone pll err trims worst maxErr).bit (adpllPage pll + 0x50) i = decide (i = 31) := by
  rw [State.bit_congr (s.lockDone_rd ..), s.lockTaken_bit pll err trims worst maxErr hhigh hi]

theorem State.lockDone_phErr : (s.lockDone pll err trims worst maxErr).fld (adpllPage pll + 0x50) 15 0 = phErrBits err := by
  rw [State.fld_congr (s.lockDone_rd ..), s.lockTaken_phErr]

theorem State.lockDone_regsBut : RegsBut (lockReg pll) s (s.lockDone pll err trims worst maxErr) :=
  fun a ha => (s.lockDone_rd ..).trans ((s.lockTaken_clockOnly pll err trims worst maxErr).regs a ha)

theorem State.lockDone_fields : ∃ regs clk ptp rst, s.lockDone pll err trims worst maxErr =
    { s with regs := regs, clk := clk, ptp := ptp, rst := rst } := by
  obtain ⟨_, hdawn⟩ := (s.lockTaken pll err trims worst maxErr).dawnOnLock_fields
  obtain ⟨_, _, _, htaken⟩ := (s.lockTaken_clockOnly pll err trims worst maxErr).fields
  rw [State.lockDone, hdawn, htaken]
  exact ⟨_, _, _, _, rfl⟩

/-- Outside the Dawn sequence's wait for the locks the reset controller stands. -/
theorem State.lockDone_rst (h : s.rst.dawn ≠ .locking) : (s.lockDone pll err trims worst maxErr).rst = s.rst := by
  rw [State.lockDone, State.dawnOnLock_stands (by rwa [State.lockTaken_rst]), State.lockTaken_rst]

end

/-! ### Lock is left (R120-R122) -/

/-- The registers that a loss of lock or of the reference writes. -/
def lossReg (pll a : Nat) : Prop := a = adpllPage pll + 0x50 ∨ a = adpllPage pll + 0x14

/-- LOCK is cleared; hold, UNLOCK_SEEN and the interrupt are set. -/
def State.unlocked (s : State) (pll : Nat) : State :=
  (((s.setBit (adpllPage pll + 0x50) 31 false).setBit (adpllPage pll + 0x50) 29 true).setBit (adpllPage pll + 0x50) 23 true).irq
    (adpllPage pll) 0

theorem leaveLock_locked {s : State} {pll : Nat} (h : s.bit (adpllPage pll + 0x50) 31 = true) :
    leaveLock s pll = if pll = 0 then (s.unlocked pll).withGrace true else s.unlocked pll := if_pos h

theorem leaveLock_unlocked {s : State} {pll : Nat} (h : s.bit (adpllPage pll + 0x50) 31 = false) : leaveLock s pll = s := if_neg (by simp [h])

theorem State.unlocked_regsBut (s : State) (pll : Nat) : RegsBut (lossReg pll) s (s.unlocked pll) :=
  ((((RegsBut.refl (lossReg pll) s).setBit (.inl rfl) 31 false).setBit (.inl rfl) 29 true).setBit (.inl rfl) 23 true).irq (.inr rfl) 0

theorem State.unlocked_bit (s : State) (pll i : Nat) : (s.unlocked pll).bit (adpllPage pll + 0x50) i =
    if i = 23 then true else if i = 29 then true else if i = 31 then false else s.bit (adpllPage pll + 0x50) i := by
  simp [State.unlocked, State.irq, State.bit_setBit]

theorem State.unlocked_regsOnly (s : State) (pll : Nat) : s.RegsOnly (s.unlocked pll) :=
  ((((State.RegsOnly.refl s).setBit _ 31 false).setBit _ 29 true).setBit _ 23 true).irq _ 0

theorem State.unlocked_irq (s : State) (pll : Nat) : (s.unlocked pll).bit (adpllPage pll + 0x14) 0 = true := by
  simp [State.unlocked, State.irq, State.bit_setBit]

/-- When lock is left the registers are those of `unlocked`, on both ADPLLs. -/
theorem leaveLock_rd {s : State} {pll : Nat} (h : s.bit (adpllPage pll + 0x50) 31 = true) (a : Nat) :
    (leaveLock s pll).rd a = (s.unlocked pll).rd a := by
  rw [leaveLock_locked h]
  split
  · rw [State.rd_withGrace]
  · rfl

theorem leaveLock_lockLeft {s : State} {pll : Nat} (h : s.bit (adpllPage pll + 0x50) 31 = true) : LockLeft pll (leaveLock s pll) := by
  have hbit (i : Nat) := (State.bit_congr (leaveLock_rd h _) i).trans (s.unlocked_bit pll i)
  exact ⟨hbit 31, hbit 29, hbit 23, (State.bit_congr (leaveLock_rd h _) 0).trans (s.unlocked_irq pll)⟩

theorem leaveLock_grace {s : State} (h : s.bit (adpllPage 0 + 0x50) 31 = true) : (leaveLock s 0).clk.grace = true := by
  rw [leaveLock_locked h, if_pos rfl, State.withGrace]

theorem leaveLock_regsBut (s : State) (pll : Nat) : RegsBut (lossReg pll) s (leaveLock s pll) := by
  cases h : s.bit (adpllPage pll + 0x50) 31
  · rw [leaveLock_unlocked h]
    exact RegsBut.refl _ s
  · exact fun a ha => (leaveLock_rd h a).trans (s.unlocked_regsBut pll a ha)

/-- No lock is left. -/
theorem leaveLock_bit (s : State) (pll : Nat) : (leaveLock s pll).bit (adpllPage pll + 0x50) 31 = false := by
  cases h : s.bit (adpllPage pll + 0x50) 31
  · rw [leaveLock_unlocked h, h]
  · exact (leaveLock_lockLeft h).1

/-- Beside registers, the end of lock changes the grace count alone. -/
theorem leaveLock_fields (s : State) (pll : Nat) :
    ∃ regs grace, leaveLock s pll = { s with regs := regs, clk := { s.clk with grace := grace } } := by
  cases h : s.bit (adpllPage pll + 0x50) 31
  · rw [leaveLock_unlocked h]
    exact ⟨_, _, rfl⟩
  · obtain ⟨_, heq⟩ := s.unlocked_regsOnly pll
    rw [leaveLock_locked h, heq]
    split
    · exact ⟨_, _, rfl⟩
    · exact ⟨_, _, rfl⟩

/-- The reference is shown lost, its flag and interrupt are set, and the tuning word is held (R121). -/
def State.refLost (s : State) (pll : Nat) : State :=
  (((s.setBit (adpllPage pll + 0x50) 28 true).setBit (adpllPage pll + 0x50) 24 true).irq (adpllPage pll) 1).setBit
    (adpllPage pll + 0x50) 29 true

theorem State.refLost_regsBut (s : State) (pll : Nat) : RegsBut (lossReg pll) s (s.refLost pll) :=
  ((((RegsBut.refl (lossReg pll) s).setBit (.inl rfl) 28 true).setBit (.inl rfl) 24 true).irq (.inr rfl) 1).setBit (.inl rfl) 29 true

theorem State.refLost_bit (s : State) (pll i : Nat) : (s.refLost pll).bit (adpllPage pll + 0x50) i =
    if i = 29 then true else if i = 24 then true else if i = 28 then true else s.bit (adpllPage pll + 0x50) i := by
  simp [State.refLost, State.irq, State.bit_setBit]

theorem State.refLost_irq (s : State) (pll : Nat) : (s.refLost pll).bit (adpllPage pll + 0x14) 1 = true := by
  simp [State.refLost, State.irq, State.bit_setBit]

theorem State.refLost_regsOnly (s : State) (pll : Nat) : s.RegsOnly (s.refLost pll) :=
  ((((State.RegsOnly.refl s).setBit _ 28 true).setBit _ 24 true).irq _ 1).setBit _ 29 true

theorem exec_referenceLoss {s : State} {pll : Nat} (h : s.bit (adpllPage pll + 0x50) 28 = false) :
    exec (.referenceLoss pll) s = .next ((leaveLock s pll).refLost pll) := by
  change execReferenceLoss pll s = _
  exact congrArg Host.Outcome.next (if_neg (by simp [h]))

theorem exec_adpllLockDeclare (s : State) (pll : Nat) (errs : List Int) (trims : List Nat) (worst maxErr : Nat) :
    exec (.adpllLockDeclare pll errs trims worst maxErr) s =
      .next (if lockMet s pll errs then lockDeclare s pll (errs.getLastD 0) trims worst maxErr else s) := rfl

theorem exec_adpllLockLoss (s : State) (pll : Nat) (errs : List Int) : exec (.adpllLockLoss pll errs) s =
    .next (if s.bit (adpllPage pll + 0x50) 31 ∧ unlockMet s pll errs then
      leaveLock (s.setFld (adpllPage pll + 0x50) 15 0 (phErrBits (errs.getLastD 0))) pll else s) := rfl

/-! ### The reference returns (R121) -/

/-- The reference is shown present; HOLD ends in an acquisition alone. -/
def State.refBack (s : State) (pll : Nat) : State :=
  if s.bit (adpllPage pll + 0x50) 30 then (s.setBit (adpllPage pll + 0x50) 28 false).setBit (adpllPage pll + 0x50) 29 false
  else s.setBit (adpllPage pll + 0x50) 28 false

theorem exec_referenceReturn {s : State} {pll : Nat} (h : s.bit (adpllPage pll + 0x50) 28 = true) :
    exec (.referenceReturn pll) s = .next (s.refBack pll) := by
  change execReferenceReturn pll s = _
  exact congrArg Host.Outcome.next (if_pos h)

theorem State.refBack_bit (s : State) (pll i : Nat) : (s.refBack pll).bit (adpllPage pll + 0x50) i =
    if i = 28 then false else if i = 29 then s.bit (adpllPage pll + 0x50) 29 && !s.bit (adpllPage pll + 0x50) 30
    else s.bit (adpllPage pll + 0x50) i := by
  unfold State.refBack
  cases hacq : s.bit (adpllPage pll + 0x50) 30
  all_goals simp only [Bool.false_eq_true, if_true, if_false, State.bit_setBit _ _ (by decide : 28 < 32),
    State.bit_setBit _ _ (by decide : 29 < 32), true_and]
  all_goals grind

theorem State.refBack_regsBut (s : State) (pll : Nat) : RegsBut (fun a => a = adpllPage pll + 0x50) s (s.refBack pll) := by
  have hback := (RegsBut.refl (fun a => a = adpllPage pll + 0x50) s).setBit rfl 28 false
  unfold State.refBack
  split
  · exact hback.setBit rfl 29 false
  · exact hback

theorem State.refBack_regsOnly (s : State) (pll : Nat) : s.RegsOnly (s.refBack pll) := by
  have hback := (State.RegsOnly.refl s).setBit (adpllPage pll + 0x50) 28 false
  unfold State.refBack
  split
  · exact hback.setBit _ 29 false
  · exact hback

/-! ### A grace expiry (R122) -/

/-- GRACE_EXP and its interrupt are set. -/
def State.graceShown (s : State) : State := (s.setBit (ADPLLA + 0x50) 25 true).irq ADPLLA 2

/-- The count has ended and the heartbeat stops. -/
def State.graceOver (s : State) : State :=
  { s with clk := { s.clk with grace := false }, rst := { s.rst with hbStopped := true } }

theorem State.rd_graceOver (s : State) (a : Nat) : s.graceOver.rd a = s.rd a := rfl

theorem exec_graceExpiry {s : State} (h : s.clk.grace = true) : exec .graceExpiry s = .next s.graceShown.graceOver := by
  change execGraceExpiry s = _
  exact congrArg Host.Outcome.next (if_pos h)

theorem State.graceShown_flag (s : State) : s.graceShown.bit (ADPLLA + 0x50) 25 = true := by
  simp [State.graceShown, State.irq, State.bit_setBit]

theorem State.graceShown_irq (s : State) : s.graceShown.bit (ADPLLA + 0x14) 2 = true := by
  simp [State.graceShown, State.irq, State.bit_setBit]

theorem State.graceShown_regsBut (s : State) : RegsBut (fun a => a = ADPLLA + 0x50 ∨ a = ADPLLA + 0x14) s s.graceShown :=
  ((RegsBut.refl (fun a => a = ADPLLA + 0x50 ∨ a = ADPLLA + 0x14) s).setBit (.inl rfl) 25 true).irq (.inr rfl) 2

theorem State.graceShown_regsOnly (s : State) : s.RegsOnly s.graceShown := ((State.RegsOnly.refl s).setBit _ 25 true).irq _ 2

/-! ### Calibration updates (R126) -/

/-- The registers that a calibration update writes. -/
def icalReg (a : Nat) : Prop := a = ADPLLB + 0x84 ∨ a = ADPLLB + 0x14

/-- ICALSTAT shows the group of the worst error and the largest error. -/
def State.icalMeasured (s : State) (worst maxErr : Nat) : State :=
  (s.setFld (ADPLLB + 0x84) 18 16 worst).setFld (ADPLLB + 0x84) 15 8 (min maxErr 255)

/-- TRIM_LIMIT and its interrupt are set. -/
def State.trimLimit (s : State) : State := (s.setBit (ADPLLB + 0x84) 30 true).irq ADPLLB 2

/-- An update with the trim `new` of group `g`. -/
def State.icalUpdated (s : State) (g new : Nat) (target : Int) (worst maxErr : Nat) : State :=
  let t := (s.icalMeasured worst maxErr).withTrims (upd (s.icalMeasured worst maxErr).clk.trims g (fun _ => new))
  if (new = 0 ∧ target < 0) ∨ (new = 63 ∧ 63 < target) then t.trimLimit else t

theorem exec_icalUpdate {s : State} {g : Nat} (hg : g < 6) (hon : s.bit (ADPLLB + 0x80) 31 = true)
    (hvalid : s.bit (ADPLLB + 0x84) 31 = true) (target : Int) (worst maxErr : Nat) : exec (.icalUpdate g target worst maxErr) s =
      .next (s.icalUpdated g (trimStep (nth 0 s.clk.trims g) target) target worst maxErr) := by
  change execIcalUpdate g target worst maxErr s = _
  exact congrArg Host.Outcome.next (if_pos ⟨hon, hvalid, hg⟩)

section
variable (s : State) (worst maxErr : Nat)

theorem State.icalMeasured_regsOnly : s.RegsOnly (s.icalMeasured worst maxErr) :=
  ((State.RegsOnly.refl s).setFld _ 18 16 worst).setFld _ 15 8 _

theorem State.icalMeasured_regsBut : RegsBut icalReg s (s.icalMeasured worst maxErr) :=
  ((RegsBut.refl icalReg s).setFld (.inl rfl) 18 16 worst).setFld (.inl rfl) 15 8 _

theorem State.icalMeasured_maxErr : (s.icalMeasured worst maxErr).fld (ADPLLB + 0x84) 15 8 = min maxErr 255 := by
  rw [State.icalMeasured, State.fld_setFld_self _ _ (by decide)]
  omega

theorem State.icalMeasured_clk : (s.icalMeasured worst maxErr).clk = s.clk := by
  obtain ⟨_, heq⟩ := s.icalMeasured_regsOnly worst maxErr
  rw [heq]

end

section
variable (s : State)

theorem State.trimLimit_regsOnly : s.RegsOnly s.trimLimit := ((State.RegsOnly.refl s).setBit _ 30 true).irq _ 2

theorem State.trimLimit_regsBut : RegsBut icalReg s s.trimLimit :=
  ((RegsBut.refl icalReg s).setBit (.inl rfl) 30 true).irq (.inr rfl) 2

theorem State.trimLimit_maxErr : s.trimLimit.fld (ADPLLB + 0x84) 15 8 = s.fld (ADPLLB + 0x84) 15 8 := by
  rw [State.trimLimit, State.irq, State.setBit, State.setBit, State.fld_setFld_disjoint _ _ (by decide) (by decide),
    State.fld_setFld_disjoint _ _ (by decide) (by decide)]

theorem State.trimLimit_flag : s.trimLimit.bit (ADPLLB + 0x84) 30 = true := by
  simp [State.trimLimit, State.irq, State.bit_setBit]

theorem State.trimLimit_irq : s.trimLimit.bit (ADPLLB + 0x14) 2 = true := by
  simp [State.trimLimit, State.irq, State.bit_setBit]

theorem State.trimLimit_clk : s.trimLimit.clk = s.clk := by
  obtain ⟨_, heq⟩ := s.trimLimit_regsOnly
  rw [heq]

end

section
variable (s : State) (g new : Nat) (target : Int) (worst maxErr : Nat)

theorem State.icalUpdated_trims : (s.icalUpdated g new target worst maxErr).clk.trims = upd s.clk.trims g (fun _ => new) := by
  unfold State.icalUpdated
  dsimp only
  split
  · rw [State.trimLimit_clk, State.icalMeasured_clk, State.withTrims]
  · rw [State.icalMeasured_clk, State.withTrims]

theorem State.icalUpdated_maxErr : (s.icalUpdated g new target worst maxErr).fld (ADPLLB + 0x84) 15 8 = min maxErr 255 := by
  unfold State.icalUpdated
  dsimp only
  split
  · rw [State.trimLimit_maxErr, State.fld_congr (State.rd_withTrims ..), State.icalMeasured_maxErr]
  · rw [State.fld_congr (State.rd_withTrims ..), State.icalMeasured_maxErr]

theorem State.icalUpdated_regsBut : RegsBut icalReg s (s.icalUpdated g new target worst maxErr) := by
  have hmeasured := s.icalMeasured_regsBut worst maxErr
  unfold State.icalUpdated
  dsimp only
  split
  · exact RegsBut.trans hmeasured (State.trimLimit_regsBut _)
  · exact hmeasured

theorem State.icalUpdated_fields : ∃ regs trims, s.icalUpdated g new target worst maxErr =
    { s with regs := regs, clk := { s.clk with trims := trims } } := by
  obtain ⟨_, hmeasured⟩ := s.icalMeasured_regsOnly worst maxErr
  unfold State.icalUpdated
  dsimp only
  split
  · obtain ⟨_, hlimit⟩ := State.trimLimit_regsOnly
      ((s.icalMeasured worst maxErr).withTrims (upd (s.icalMeasured worst maxErr).clk.trims g fun _ => new))
    rw [hlimit, hmeasured]
    exact ⟨_, _, rfl⟩
  · rw [hmeasured]
    exact ⟨_, _, rfl⟩

end

theorem State.icalUpdated_limit (s : State) (g : Nat) {new : Nat} {target : Int} (worst maxErr : Nat)
    (h : (new = 0 ∧ target < 0) ∨ (new = 63 ∧ 63 < target)) :
    (s.icalUpdated g new target worst maxErr).bit (ADPLLB + 0x84) 30 = true ∧
      (s.icalUpdated g new target worst maxErr).bit (ADPLLB + 0x14) 2 = true := by
  rw [State.icalUpdated, if_pos h]
  exact ⟨State.trimLimit_flag _, State.trimLimit_irq _⟩

/-! ### The clock monitor (R134) -/

/-- The bits of CLKSTAT, the lowest first. -/
theorem runBits_eq (s : State) : runBits s = Nat.bit (s.domRun .tel) (Nat.bit (s.domRun .fab) (Nat.bit (s.domRun .pwm)
    (Nat.bit (s.domRun .adc) (Nat.bit (s.domRun .xspi) (Nat.bit (s.domRun .ox) (Nat.bit (s.domRun .eth) (Nat.bit (s.domRun .can)
      (Nat.bit (s.domRun .ddr) (Nat.bit (!s.bit (ADPLLA + 0x50) 28) (Nat.bit (s.domRun .ps) 0)))))))))) := by
  have hb2n (b : Bool) : b2n b = b.toNat := by cases b <;> rfl
  simp only [runBits, hb2n, Nat.bit_val]
  omega

theorem State.bit_clkstat (s : State) {i : Nat} (hi : i ≤ 10) : (s.setFld SYS.CLKSTAT 10 0 (runBits s)).bit SYS.CLKSTAT i =
    (runBits s).testBit i := by
  rw [State.bit_setFld _ _ (by decide), if_pos ⟨rfl, Nat.zero_le i, hi⟩, Nat.sub_zero]

/-- Settles O8: each event's command is the event's own update of LOCKSTAT, ICALSTAT or CLKSTAT, within the frame of what it writes. -/
theorem adpllLockHoldAndGraceFollowTheReference : Obligations.AdpllLockHoldAndGraceFollowTheReference := by
  unfold Obligations.AdpllLockHoldAndGraceFollowTheReference
  intro s
  refine ⟨?declare, ?noDeclare, ?loss, ?noLoss, ?reference, ?back, ?grace, ?ical, ?monitor⟩
  case declare =>
    intro pll errs trims w m hpll hmet hdawn hlock hlost
    have hbit {i : Nat} (hhigh : 26 ≤ i) (hi : i < 32) := s.lockDone_bit pll (errs.getLastD 0) trims w m hhigh hi
    obtain ⟨_, _, _, _, hfields⟩ := s.lockDone_fields pll (errs.getLastD 0) trims w m
    refine ⟨s.lockDone pll (errs.getLastD 0) trims w m, ?exec, hbit (by decide) (by decide), hbit (by decide) (by decide),
      hbit (by decide) (by decide), s.lockDone_phErr .., ?graceEnds, ?first, s.lockDone_rst pll _ trims w m,
      fun hlocking => lockTaken_dawn hlocking hpll .., s.lockDone_regsBut pll _ trims w m, ?fields⟩
    case exec => rw [exec_adpllLockDeclare, if_pos hmet, lockDeclare_eq hdawn hlock hlost, State.lockDone]
    case graceEnds =>
      rintro rfl
      rw [State.lockDone_clk, State.lockTaken_grace]
    case first =>
      rintro rfl hacq
      rw [State.lockDone_clk, State.bit_congr (s.lockDone_rd ..), State.fld_congr (s.lockDone_rd ..)]
      exact State.lockTaken_calibrated hacq (errs.getLastD 0) trims w m
    case fields => rw [hfields]
  case noDeclare =>
    intro pll errs trims w m hmet
    rw [exec_adpllLockDeclare, if_neg (by simp [hmet])]
  case loss =>
    intro pll errs hpll hlock hmet
    have hwrite := (State.RegsOnly.refl s).setFld (adpllPage pll + 0x50) 15 0 (phErrBits (errs.getLastD 0))
    have hregs := (RegsBut.refl (lossReg pll) s).setFld (a := adpllPage pll + 0x50) (.inl rfl) 15 0 (phErrBits (errs.getLastD 0))
    have hstill : (s.setFld (adpllPage pll + 0x50) 15 0 (phErrBits (errs.getLastD 0))).bit (adpllPage pll + 0x50) 31 = true := by
      rw [State.bit_setFld _ _ (by decide), if_neg (by omega), hlock]
    refine ⟨_, (exec_adpllLockLoss s pll errs).trans (congrArg _ (if_pos ⟨hlock, hmet⟩)), leaveLock_lockLeft hstill, ?graceRuns,
      hregs.trans (leaveLock_regsBut _ pll), ?fields⟩
    case graceRuns =>
      rintro rfl
      exact leaveLock_grace hstill
    case fields =>
      obtain ⟨_, hshown⟩ := hwrite
      obtain ⟨_, _, hfields⟩ := leaveLock_fields (s.setFld (adpllPage pll + 0x50) 15 0 (phErrBits (errs.getLastD 0))) pll
      rw [hfields, hshown]
  case noLoss =>
    intro pll errs h
    rw [exec_adpllLockLoss, if_neg (by rcases h with h | h <;> simp [h])]
  case reference =>
    intro pll hpll hpresent
    have hbit (i : Nat) := (leaveLock s pll).refLost_bit pll i
    obtain ⟨_, hlost⟩ := (leaveLock s pll).refLost_regsOnly pll
    obtain ⟨_, _, hleft⟩ := leaveLock_fields s pll
    refine ⟨_, exec_referenceLoss hpresent, hbit 28, hbit 24, hbit 29, (hbit 31).trans (leaveLock_bit s pll),
      (leaveLock s pll).refLost_irq pll, ?graceRuns, (leaveLock_regsBut s pll).trans ((leaveLock s pll).refLost_regsBut pll), ?fields⟩
    case graceRuns =>
      rintro rfl hlock
      rw [hlost]
      exact leaveLock_grace hlock
    case fields => rw [hlost, hleft]
  case back =>
    intro pll hpll hlost
    exact ⟨_, exec_referenceReturn hlost, s.refBack_bit pll 28, s.refBack_bit pll 29, s.refBack_regsBut pll,
      (s.refBack_regsOnly pll).eq_regs⟩
  case grace =>
    intro hgrace
    obtain ⟨_, hshown⟩ := s.graceShown_regsOnly
    refine ⟨_, exec_graceExpiry hgrace, (State.bit_congr (State.rd_graceOver ..) 25).trans s.graceShown_flag,
      (State.bit_congr (State.rd_graceOver ..) 2).trans s.graceShown_irq,
      fun a ha => (State.rd_graceOver ..).trans (s.graceShown_regsBut a ha), ?_⟩
    rw [hshown]
    rfl
  case ical =>
    intro g target w m hg hlen hon hvalid
    have htrims := s.icalUpdated_trims g (trimStep (nth 0 s.clk.trims g) target) target w m
    have hnew := (congrArg (nth 0 · g) htrims).trans (nth_upd_self 0 s.clk.trims hlen _)
    obtain ⟨_, _, hfields⟩ := s.icalUpdated_fields g (trimStep (nth 0 s.clk.trims g) target) target w m
    refine ⟨_, exec_icalUpdate hg hon hvalid target w m, hnew, fun h hne => ?other, State.icalUpdated_maxErr .., fun hends => ?limit,
      s.icalUpdated_regsBut g _ target w m, ?fields⟩
    case other => rw [htrims, nth_upd_ne _ _ hne]
    case limit => exact s.icalUpdated_limit g w m (by rwa [hnew] at hends)
    case fields => rw [hfields]
  case monitor =>
    have hbit {i : Nat} (hi : i ≤ 10) := s.bit_clkstat hi
    refine ⟨s.setFld SYS.CLKSTAT 10 0 (runBits s), rfl, ?_, ?_, ?_, ?_, ?_,
      (RegsBut.refl (fun a => a = SYS.CLKSTAT) s).setFld rfl 10 0 _, ((State.RegsOnly.refl s).setFld _ 10 0 _).eq_regs⟩
    all_goals
      rw [hbit (by decide), runBits_eq]
      simp [Nat.testBit_bit_succ]

end Sys2Proof.Machine
end

section
/-!
The canonical forms of memory and the register file, kept by every operation of the model. Only `wr`, `dropRegs`, `setByte`, the
copy of a state memory and the resets of a die touch the two lists; every other operation is built from these. The lemmas stand in
the order of the definitions they speak of, one for each, and each proof follows its definition's body.
-/
namespace Sys2Proof.Machine


/-- Memory and the register file of `s` are in canonical form. -/
def State.Canonical (s : State) : Prop := s.canonical = true

/-- Where the outcome is a next state, its memory and register file are in canonical form. -/
def Out.Canonical : Out → Prop
  | .next t => t.Canonical
  | _ => True

theorem Out.Canonical.next {t : State} (h : t.Canonical) : Out.Canonical (.next t) := h

protected theorem Out.Canonical.ite {o o' : Out} (h : o.Canonical) (h' : o'.Canonical) {c : Prop} [Decidable c] :
    Out.Canonical (if c then o else o') := by
  split
  · exact h
  · exact h'

namespace State.Canonical

variable {s : State}

/-- A change of anything but memory and the register file. -/
theorem frame (h : s.Canonical) {pending freeCtr rst fuses balls clk clerk0 clerk1 bus claimed fab conv now pwm gate extSync aux
    cmp tel deps setl mp grid melo nw ledger sup health ox ptp eth can canDma xspi ddrGo uart spi pilot recorder jtag} :
    State.Canonical { s with
      pending := pending, freeCtr := freeCtr, rst := rst, fuses := fuses, balls := balls, clk := clk, clerk0 := clerk0,
      clerk1 := clerk1, bus := bus, claimed := claimed, fab := fab, conv := conv, now := now, pwm := pwm, gate := gate,
      extSync := extSync, aux := aux, cmp := cmp, tel := tel, deps := deps, setl := setl, mp := mp, grid := grid, melo
      := melo, nw := nw, ledger := ledger, sup := sup, health := health, ox := ox, ptp := ptp, eth := eth, can := can,
      canDma := canDma, xspi := xspi, ddrGo := ddrGo, uart := uart, spi := spi, pilot := pilot, recorder := recorder,
      jtag := jtag } := h

theorem mem_wf (h : s.Canonical) : Memory.wf s.mem = true := ((canonical_iff s).1 h).1

theorem regs_wf (h : s.Canonical) : Regs.wf s.regs = true := ((canonical_iff s).1 h).2

protected theorem ite {t : State} (hs : s.Canonical) (ht : t.Canonical) {c : Prop} [Decidable c] :
    (if c then s else t).Canonical := by
  split
  · exact hs
  · exact ht

/-- Repeated updates, where each keeps the form. -/
theorem foldl {α : Type} {f : State → α → State} (h : s.Canonical) (hf : ∀ t x, t.Canonical → (f t x).Canonical) (l : List α) :
    (l.foldl f s).Canonical := by
  induction l generalizing s with
  | nil => exact h
  | cons x l ih => exact ih (hf s x h)

/-- The same where a second result is carried along. -/
theorem foldlFst {α β : Type} {p : State × β} {f : State × β → α → State × β} (h : p.1.Canonical)
    (hf : ∀ q x, q.1.Canonical → (f q x).1.Canonical) (l : List α) : (l.foldl f p).1.Canonical := by
  induction l generalizing p with
  | nil => exact h
  | cons x l ih => exact ih (hf p x h)

protected theorem iteFst {α : Type} {p q : State × α} (hp : p.1.Canonical) (hq : q.1.Canonical) {c : Prop} [Decidable c] :
    (if c then p else q).1.Canonical := by
  split
  · exact hp
  · exact hq

protected theorem iteAnswer {a b : Answer} (ha : a.s.Canonical) (hb : b.s.Canonical) {c : Prop} [Decidable c] :
    (if c then a else b).s.Canonical := by
  split
  · exact ha
  · exact hb

theorem wr (h : s.Canonical) (a : Nat) (v : Word) : (s.wr a v).Canonical := canonical_wr h ..

theorem dropRegs (h : s.Canonical) (lo hi : Nat) : (s.dropRegs lo hi).Canonical := canonical_dropRegs h ..

theorem setByte (h : s.Canonical) (a : Nat) (v : Byte) : (s.setByte a v).Canonical := canonical_setByte h ..

theorem setBytes (h : s.Canonical) (a : Nat) (l : List Byte) : (s.setBytes a l).Canonical := canonical_setBytes h ..

/-! ### Ops -/

theorem setFld (h : s.Canonical) (a hi lo v : Nat) : (s.setFld a hi lo v).Canonical := h.wr ..

theorem setBit (h : s.Canonical) (a i : Nat) (b : Bool) : (s.setBit a i b).Canonical := h.setFld ..

theorem orBits (h : s.Canonical) (a m : Nat) : (s.orBits a m).Canonical := h.wr ..

theorem count (h : s.Canonical) (a hi lo n : Nat) : (s.count a hi lo n).Canonical := h.setFld ..

theorem irq (h : s.Canonical) (base i : Nat) : (s.irq base i).Canonical := h.setBit ..

theorem setSpares (h : s.Canonical) (hi lo n : Nat) : (s.setSpares hi lo n).Canonical := .ite ((h.setFld ..).irq ..) (h.setFld ..)

theorem atTime (h : s.Canonical) (t : Nat) : (s.atTime t).Canonical := h.frame

theorem bumpFree (h : s.Canonical) : s.bumpFree.Canonical := h.frame

theorem clocked (h : s.Canonical) {f : State → State} (hf : ∀ t, t.Canonical → (f t).Canonical) (d : Dom) :
    (s.clocked d f).Canonical := canonical_clocked h d (hf s)

theorem ptpSync (h : s.Canonical) : s.ptpSync.Canonical := h.frame

theorem memStore (h : s.Canonical) (init a : Nat) (bs : List Byte) : (s.memStore init a bs).Canonical := canonical_memStore h ..

theorem respond (h : s.Canonical) (init a : Nat) (data : Word) : (s.respond init a data).Canonical := h.frame

theorem fabCount (h : s.Canonical) (a hi lo : Nat) : (s.fabCount a hi lo).Canonical := canonical_fabCount h ..

theorem initiatorReact (h : s.Canonical) (init a sub : Nat) (isWrite : Bool) : (s.initiatorReact init a sub isWrite).Canonical :=
  canonical_initiatorReact h ..

theorem errorResp (h : s.Canonical) (init a : Nat) (c : Cause) (isWrite : Bool) (sub : Nat) :
    (s.errorResp init a c isWrite sub).Canonical := canonical_errorResp h ..

theorem plainWrite (h : s.Canonical) (init a : Nat) (data : Word) : (s.plainWrite init a data).Canonical := by
  unfold State.plainWrite
  split
  · exact h.respond ..
  · exact .ite (h.respond ..) (.ite (h.errorResp ..) ((h.wr ..).respond ..))

theorem access (h : s.Canonical) {k : State → State} (hk : ∀ t, t.Canonical → (k t).Canonical) (dom : Dom) (base : Nat)
    (acc : Access) : (s.access dom base acc k).Canonical := canonical_access h dom base acc (hk s)

theorem writeAt (h : s.Canonical) {k : State → State} (hk : ∀ t, t.Canonical → (k t).Canonical) (dom : Dom) (base init a : Nat)
    (data : Word) (tick sub : Nat) :
    (s.writeAt dom base init a data k tick sub).Canonical :=
  h.access hk ..

theorem readAt (h : s.Canonical) {k : State → State} (hk : ∀ t, t.Canonical → (k t).Canonical) (dom : Dom) (base init a : Nat) :
    (s.readAt dom base init a k).Canonical :=
  h.access hk ..

theorem takeBalls (h : s.Canonical) (b : Nat) : (s.takeBalls b).Canonical := .ite h h.frame

theorem takesBalls (h : s.Canonical) (b : Nat) (data : Word) : (s.takesBalls b data).Canonical := .ite (h.takeBalls ..) h

theorem updClerk (h : s.Canonical) (i : Nat) (f : Clerk → Clerk) : (s.updClerk i f).Canonical := .ite h.frame h.frame

/-! ### Clocks -/

theorem restartAcq (h : s.Canonical) (pll : Nat) : (restartAcq s pll).Canonical :=
  .ite ((((h.ptpSync.setBit ..).setBit ..).setBit ..).frame) ((((h.ptpSync.setBit ..).setBit ..).setBit ..).setBit ..)

theorem refcfgWrite (h : s.Canonical) (init pll : Nat) (data : Word) : (refcfgWrite s init pll data).Canonical :=
  .ite (h.errorResp ..) (.ite (.ite (((h.setFld ..).restartAcq ..).respond ..) (h.errorResp ..))
      ((((h.setFld ..).wr ..).restartAcq ..).respond ..))

theorem fcwWrite (h : s.Canonical) (init pll : Nat) (data : Word) : (fcwWrite s init pll data).Canonical :=
  .ite (h.respond ..) (.ite (h.errorResp ..) (.ite (((h.setFld ..).restartAcq ..).respond ..) (h.errorResp ..)))

theorem adpllSoftRst (h : s.Canonical) (init pll : Nat) : (adpllSoftRst s init pll).Canonical :=
  .ite (h.errorResp ..) (.respond (.frame (.restartAcq (.ite ((((h.dropRegs ..).wr ..).wr ..).setBit ..)
      (((((h.dropRegs ..).wr ..).wr ..).setBit ..).frame)) ..)) ..)

theorem adpllCtrlWrite (h : s.Canonical) (init pll : Nat) (data : Word) : (adpllCtrlWrite s init pll data).Canonical :=
  .ite (h.adpllSoftRst ..) (.ite (h.respond ..) (h.errorResp ..))

theorem lockDeclare (h : s.Canonical) (pll : Nat) (phErr : Int) (trims : List Nat) (worst maxErr : Nat) :
    (lockDeclare s pll phErr trims worst maxErr).Canonical := by
  unfold Machine.lockDeclare
  extract_lets _ _ s1 _ s2 _ s3
  have hs1 : s1.Canonical := h.ptpSync.wr ..
  have hs2 : s2.Canonical := .ite hs1.frame (.ite (hs1.wr ..) hs1)
  have hs3 : s3.Canonical := .ite hs2.frame hs2
  exact .ite h (.ite hs3.frame hs3)

theorem leaveLock (h : s.Canonical) (pll : Nat) : (leaveLock s pll).Canonical :=
  .ite (.ite (((((h.setBit ..).setBit ..).setBit ..).irq ..).frame) ((((h.setBit ..).setBit ..).setBit ..).irq ..)) h

theorem outCfgWrite (h : s.Canonical) (init pll k : Nat) (data : Word) : (outCfgWrite s init pll k data).Canonical :=
  .ite (.ite (h.respond ..) (.ite (h.errorResp ..) ((h.setBit ..).respond ..)))
      (.ite (h.respond ..) (.ite (h.errorResp ..) (.ite (h.errorResp ..)
      (.ite (h.errorResp ..) ((h.ptpSync.wr ..).respond ..)))))

/-! ### Header -/

theorem onPage (h : s.Canonical) {k : PageRow → Nat → State → State} (hk : ∀ x y t, t.Canonical → (k x y t).Canonical)
    (init a : Nat) (data : Word) :
    (s.onPage init a data k).Canonical := by
  unfold State.onPage
  split
  · exact h.errorResp ..
  · exact h.writeAt (fun _ ht => hk _ _ _ ht) ..

theorem lockWrite (h : s.Canonical) (init b : Nat) (data : Word) : (lockWrite init b data s).Canonical :=
  .ite ((h.setBit ..).respond ..) (.ite ((h.setBit ..).respond ..) (h.errorResp ..))

theorem verselWrite (h : s.Canonical) (init : Nat) (data : Word) : (verselWrite init data s).Canonical :=
  .ite ((h.setBit ..).respond ..) (h.respond ..)

theorem testenWrite (h : s.Canonical) (init : Nat) (data : Word) : (testenWrite init data s).Canonical :=
  .ite (.ite (((h.setBit ..).irq ..).respond ..) (h.errorResp ..)) ((h.setBit ..).respond ..)

theorem dbgopenWrite (h : s.Canonical) (init : Nat) (data : Word) : (dbgopenWrite init data s).Canonical :=
  .ite (h.errorResp ..) (.ite (.respond (.ite (h.setBit ..) h) ..) ((h.setBit ..).respond ..))

theorem claimRead (h : s.Canonical) (init c : Nat) : (claimRead init c s).Canonical := .respond (.ite h h.frame) ..

theorem completeWrite (h : s.Canonical) (init c : Nat) (data : Word) : (completeWrite init c data s).Canonical :=
  .respond (.ite h.frame h) ..

/-! ### Fabric -/

theorem fabRefresh (h : s.Canonical) : s.fabRefresh.Canonical := by
  unfold State.fabRefresh
  extract_lets _ _ _ _ s0 _ s1 _ s2
  have hs0 : s0.Canonical := h.setBit ..
  have hs1 : s1.Canonical := ((((((((hs0.wr ..).setFld ..).setFld ..).wr ..).setFld ..).setFld ..).wr ..).setFld ..).setFld ..
  have hs2 : s2.Canonical := (hs1.setFld ..).setFld ..
  exact .ite hs0 (.ite ((hs2.setFld ..).setFld ..) hs2)

theorem launch (h : s.Canonical) (p : Slip) (coin : Nat) : (s.launch p coin).Canonical :=
  .fabRefresh (.ite (.irq (.ite (h.frame.fabCount ..) h.frame) ..) (.ite (h.frame.fabCount ..) h.frame))

theorem issue (h : s.Canonical) (p : Slip) : (s.issue p).Canonical := by
  unfold State.issue
  refine .ite h.frame ?_
  split
  · exact h.launch ..
  · exact h.frame

theorem unstall (h : s.Canonical) (cycle : Nat) (l : List Slip) : (s.unstall cycle l).Canonical := by
  induction l generalizing s with
  | nil => exact h
  | cons p t ih =>
    unfold State.unstall
    split
    · exact .ite (ih (h.frame.launch ..)) (ih h)
    · exact ih h

theorem updSlip (h : s.Canonical) (c : Nat) (f : Slip → Slip) : (s.updSlip c f).Canonical := h.frame

theorem noteGrant (h : s.Canonical) (port cycle : Nat) (p : Slip) : (s.noteGrant port cycle p).Canonical :=
  .frame (.ite h (h.wr ..))

theorem noteCollision (h : s.Canonical) (target : Nat) (p : Slip) : (s.noteCollision target p).Canonical :=
  .ite h (.ite ((((h.frame.setBit ..).irq ..).fabCount ..).wr ..) h.frame)

theorem returnCoin (h : s.Canonical) (cycle : Nat) (p : Slip) : (s.returnCoin cycle p).Canonical :=
  (h.frame.unstall ..).fabRefresh

theorem noteLatency (h : s.Canonical) (p : Slip) (cycle : Nat) : (s.noteLatency p cycle).Canonical :=
  .ite ((h.setFld ..).setFld ..) h

theorem watchselWrite (h : s.Canonical) (init : Nat) (data : Word) : (watchselWrite init data s).Canonical :=
  .ite (h.respond ..) (((((h.plainWrite ..).wr ..).wr ..).setFld ..).fabRefresh)

/-! ### Can -/

theorem updCan (h : s.Canonical) (m : Nat) (f : CanCtl → CanCtl) : (s.updCan m f).Canonical := h.frame

theorem canCounters (h : s.Canonical) (m st tec rec_ : Nat) : (s.canCounters m st tec rec_).Canonical :=
  .ite ((h.wr ..).irq ..) (h.wr ..)

theorem canFile (h : s.Canonical) (m : Nat) (f : CanFrame) (time : Nat) : (s.canFile m f time).Canonical := by
  unfold State.canFile
  split
  · exact h
  · exact .ite h (.ite (h.errorResp ..) (.memStore (.irq (.setBit (.ite ((h.setBit ..).irq ..) h) ..) ..) ..))

theorem canServe (h : s.Canonical) (k : Nat) : (s.canServe k).Canonical := by
  induction k generalizing s with
  | zero => exact h
  | succ k ih =>
    unfold State.canServe
    refine .ite h ?_
    split
    · exact h
    · split
      · exact h
      · exact ih (h.frame.canFile ..)

theorem canDrain (h : s.Canonical) : s.canDrain.Canonical := h.canServe ..

theorem canStore (h : s.Canonical) (m : Nat) (f : CanFrame) (time : Nat) : (s.canStore m f time).Canonical :=
  (h.updCan ..).canDrain

theorem canModeWrite (h : s.Canonical) (init m : Nat) (data : Word) : (canModeWrite init m data s).Canonical :=
  .ite ((h.plainWrite ..).updCan ..) (h.plainWrite ..)

theorem canTimingWrite (h : s.Canonical) (init m a : Nat) (data : Word) : (canTimingWrite init m a data s).Canonical :=
  .ite (h.plainWrite ..) (h.respond ..)

/-! ### HostPorts -/

theorem icmdWrite (h : s.Canonical) (init : Nat) (data : Word) : (icmdWrite init data s).Canonical :=
  .ite (h.plainWrite ..) (.ite (.bumpFree (.ite (h.errorResp ..) (h.respond ..)))
      ((((h.plainWrite ..).setBit ..).setFld ..).frame))

theorem idataPut (h : s.Canonical) (i : Nat) (l : List Byte) : (s.idataPut i l).Canonical := by
  induction l generalizing s i with
  | nil => exact h
  | cons b t ih => exact ih (h.setFld ..) (i + 1)

theorem ddrInitWrite (h : s.Canonical) (init : Nat) (data : Word) : (ddrInitWrite init data s).Canonical :=
  .respond (.ite ((h.wr ..).frame) h) ..

theorem ddrCfgWrite (h : s.Canonical) (init a : Nat) (data : Word) : (ddrCfgWrite init a data s).Canonical :=
  .ite (h.errorResp ..) (h.plainWrite ..)

theorem ddrPllWrite (h : s.Canonical) (init : Nat) (data : Word) : (ddrPllWrite init data s).Canonical :=
  .ite (h.errorResp ..) (h.plainWrite ..)

theorem updUart (h : s.Canonical) (m : Nat) (f : SerialPort → SerialPort) : (s.updUart m f).Canonical := h.frame

theorem uartRefresh (h : s.Canonical) (m : Nat) : (s.uartRefresh m).Canonical :=
  .ite (.irq (.ite (((h.wr ..).wr ..).irq ..) ((h.wr ..).wr ..)) ..) (.ite (((h.wr ..).wr ..).irq ..) ((h.wr ..).wr ..))

theorem uartTxWrite (h : s.Canonical) (init m : Nat) (data : Word) : (uartTxWrite init m data s).Canonical :=
  .ite (h.errorResp ..) (((h.updUart ..).uartRefresh ..).respond ..)

theorem uartRxRead (h : s.Canonical) (init m : Nat) : (uartRxRead init m s).Canonical :=
  ((h.updUart ..).uartRefresh ..).respond ..

theorem uartPlain (h : s.Canonical) (init m a : Nat) (data : Word) : (uartPlain init m a data s).Canonical :=
  (h.plainWrite ..).uartRefresh ..

theorem updSpi (h : s.Canonical) (m : Nat) (f : SerialPort → SerialPort) : (s.updSpi m f).Canonical := h.frame

theorem spiRefresh (h : s.Canonical) (m : Nat) : (s.spiRefresh m).Canonical := ((h.wr ..).wr ..).updSpi ..

theorem spiCsWrite (h : s.Canonical) (init m : Nat) (data : Word) : (spiCsWrite init m data s).Canonical :=
  (h.plainWrite ..).spiRefresh ..

theorem spiTxWrite (h : s.Canonical) (init m : Nat) (data : Word) : (spiTxWrite init m data s).Canonical :=
  .ite (.bumpFree (.ite (h.errorResp ..) (h.respond ..))) (((h.updSpi ..).spiRefresh ..).respond ..)

theorem spiRxRead (h : s.Canonical) (init m : Nat) : (spiRxRead init m s).Canonical := ((h.updSpi ..).spiRefresh ..).respond ..

theorem gpioSet (h : s.Canonical) (init : Nat) (data : Word) : (gpioSet init data s).Canonical := (h.wr ..).respond ..

theorem gpioClr (h : s.Canonical) (init : Nat) (data : Word) : (gpioClr init data s).Canonical := (h.wr ..).respond ..

theorem gpioDir (h : s.Canonical) (init : Nat) (data : Word) : (gpioDir init data s).Canonical := ((h.wr ..).respond ..).frame

/-! ### Comparators -/

theorem updCmp (h : s.Canonical) (n : Nat) (f : Cmp → Cmp) : (s.updCmp n f).Canonical := h.frame

theorem noteLevel (h : s.Canonical) (n : Nat) (v : Bool) : (s.noteLevel n v).Canonical :=
  .ite h (.ite (((h.setBit ..).setBit ..).irq ..) (h.setBit ..))

theorem lineFell (h : s.Canonical) (n : Nat) : (s.lineFell n).Canonical := h.frame

theorem driveLine (h : s.Canonical) (n : Nat) (v seen : Bool) : (s.driveLine n v seen).Canonical :=
  .ite (.noteLevel (.ite (h.frame.updCmp ..) ((h.frame.updCmp ..).lineFell ..)) ..)
      (.ite (h.frame.updCmp ..) ((h.frame.updCmp ..).lineFell ..))

theorem cmpEval (h : s.Canonical) (n : Nat) (seen : Bool) : (s.cmpEval n seen).Canonical :=
  .ite h (.ite (h.driveLine ..) ((h.updCmp ..).driveLine ..))

theorem firstDecision (h : s.Canonical) (n : Nat) : (s.firstDecision n).Canonical := (h.updCmp ..).cmpEval ..

theorem cmpConfigure (h : s.Canonical) (n : Nat) : (s.cmpConfigure n).Canonical :=
  .ite ((h.updCmp ..).firstDecision ..) ((h.updCmp ..).cmpEval ..)

theorem cmpCfgWrite (h : s.Canonical) (init n : Nat) (data : Word) : (cmpCfgWrite init n data s).Canonical :=
  .ite (h.errorResp ..) (.ite (h.errorResp ..) (.ite (h.plainWrite ..)
      (.ite ((h.plainWrite ..).updCmp ..) (((h.plainWrite ..).updCmp ..).cmpConfigure ..))))

theorem bankCfgWrite (h : s.Canonical) (init b : Nat) (data : Word) : (bankCfgWrite init b data s).Canonical :=
  .ite (h.errorResp ..) (h.plainWrite ..)

theorem cmpPageSwitch (h : s.Canonical) (n0 cnt : Nat) (was : Bool) : (cmpPageSwitch s n0 cnt was).Canonical :=
  h.foldl (fun _ _ ht => .ite ht (.ite (ht.firstDecision ..) (.ite (ht.cmpEval ..) (ht.driveLine ..)))) ..

theorem cmpCtrlWrite (h : s.Canonical) (init : Nat) (pc : Bool) (data : Word) : (cmpCtrlWrite init pc data s).Canonical :=
  .respond (.ite (h.setBit ..) ((h.setBit ..).cmpPageSwitch ..)) ..

theorem checkStart (h : s.Canonical) (n : Nat) (force : Bool) : (s.checkStart n force).Canonical :=
  .updCmp (.ite ((((h.setBit ..).setBit ..).setFld ..).driveLine ..) (((h.setBit ..).setBit ..).setFld ..)) ..

theorem checkWrite (h : s.Canonical) (init : Nat) (pc : Bool) (data : Word) : (checkWrite init pc data s).Canonical :=
  .ite (h.errorResp ..) (.ite (h.respond ..) ((h.checkStart ..).respond ..))

theorem checkEnd (h : s.Canonical) (n seen : Nat) (vin : Int) : (s.checkEnd n seen vin).Canonical :=
  .firstDecision (.updCmp (.ite ((((((h.setBit ..).setBit ..).setBit ..).setFld ..).irq ..).irq ..)
      (((((h.setBit ..).setBit ..).setBit ..).setFld ..).irq ..)) ..) ..

theorem claimPc (h : s.Canonical) (n : Nat) (w : Word) : (s.claimPc n w).Canonical :=
  .ite (((h.setBit ..).wr ..).updCmp ..) ((((h.setBit ..).wr ..).updCmp ..).cmpConfigure ..)

theorem unclaimPc (h : s.Canonical) (n : Nat) : (s.unclaimPc n).Canonical := .ite ((h.setBit ..).updCmp ..) h

theorem cmpVersion (h : s.Canonical) : s.cmpVersion.Canonical := h.foldl (fun _ _ ht => .ite (ht.cmpEval ..) ht) ..

theorem ifverWrite (h : s.Canonical) (init : Nat) (p : PageRow) (b : Nat) (data : Word) :
    (ifverWrite init p b data s).Canonical :=
  .ite (h.errorResp ..) (.ite (.respond (.ite ((h.setFld ..).cmpVersion) (h.setFld ..)) ..) (h.errorResp ..))

/-! ### AuxDrivers -/

theorem updAux (h : s.Canonical) (f : AuxDrv → AuxDrv) : (s.updAux f).Canonical := h.frame

theorem auxCtrlWrite (h : s.Canonical) (init : Nat) (data : Word) : (auxCtrlWrite init data s).Canonical :=
  .respond (.ite (.ite (h.setBit ..) ((h.setBit ..).updAux ..)) ((h.setBit ..).updAux ..)) ..

theorem hallRefresh (h : s.Canonical) : (hallRefresh s).Canonical := .setBit (.ite (h.irq ..) h) ..

theorem axclrWrite (h : s.Canonical) (init : Nat) (data : Word) : (axclrWrite init data s).Canonical :=
  .ite (h.respond ..) (.ite (h.errorResp ..) ((h.setBit ..).respond ..))

theorem axcfgWrite (h : s.Canonical) (init : Nat) (data : Word) : (axcfgWrite init data s).Canonical :=
  .ite (h.errorResp ..) ((h.plainWrite ..).hallRefresh)

theorem auxVdrv (h : s.Canonical) (low : Bool) : (s.auxVdrv low).Canonical :=
  .ite (.ite h ((h.setBit ..).irq ..)) ((h.setBit ..).updAux ..)

/-! ### Ethernet -/

theorem updMac (h : s.Canonical) (m : Nat) (f : EthMac → EthMac) : (s.updMac m f).Canonical := h.frame

theorem ptpLatch (h : s.Canonical) : s.ptpLatch.Canonical := ((h.wr ..).wr ..).wr ..

theorem ptpRateWrite (h : s.Canonical) (init a : Nat) (data : Word) : (ptpRateWrite init a data s).Canonical :=
  (h.ptpSync.wr ..).respond ..

theorem ptpCtlWrite (h : s.Canonical) (init a : Nat) (data : Word) : (ptpCtlWrite init a data s).Canonical :=
  .respond (.ite h.ptpSync.frame h) ..

theorem ppscfgWrite (h : s.Canonical) (init a : Nat) (data : Word) : (ppscfgWrite init a data s).Canonical :=
  .respond (.ite (h.wr ..) ((h.wr ..).frame)) ..

theorem tsRefresh (h : s.Canonical) (m : Nat) : (s.tsRefresh m).Canonical := by
  unfold State.tsRefresh
  extract_lets _ s1
  have hs1 : s1.Canonical := h.wr ..
  split
  · exact ((hs1.wr ..).wr ..).wr ..
  · exact ((hs1.wr ..).wr ..).wr ..

theorem tsPush (h : s.Canonical) (m : Nat) (e : TsEntry) : (s.tsPush m e).Canonical :=
  .ite (h.count ..) (((h.updMac ..).tsRefresh ..).irq ..)

theorem tsNsRead (h : s.Canonical) (init m : Nat) : (tsNsRead init m s).Canonical := ((h.updMac ..).tsRefresh ..).respond ..

theorem ethWord (h : s.Canonical) (m a : Nat) (v : Word) : (s.ethWord m a v).Canonical := h.memStore ..

theorem rxPiece (h : s.Canonical) (m : Nat) (f : RxFrame) (i n : Nat) (bs : List Byte) : (s.rxPiece m f i n bs).Canonical := by
  unfold State.rxPiece
  refine .setFld (.ite (.ethWord (.ite (h.memStore ..) (h.errorResp ..)) ..) ?_) ..
  split
  · exact .ethWord (.ethWord (.ethWord (.ite (h.memStore ..) (h.errorResp ..)) ..) ..) ..
  · exact .ethWord (.ethWord (.ite (h.memStore ..) (h.errorResp ..)) ..) ..
  · exact .ethWord (.ite (h.memStore ..) (h.errorResp ..)) ..

theorem rxStore (h : s.Canonical) (m : Nat) : (s.rxStore m).Canonical := by
  unfold State.rxStore
  refine .ite h ?_
  split
  · exact h
  · exact .ite ((((h.foldl (fun _ _ ht => ht.rxPiece ..) ..).updMac ..).count ..).irq ..) h

theorem rxDrain (h : s.Canonical) (m : Nat) : (s.rxDrain m).Canonical := h.foldl (fun _ _ ht => ht.rxStore ..) ..

theorem rxEnqueue (h : s.Canonical) (m : Nat) (f : RxFrame) : (s.rxEnqueue m f).Canonical :=
  .ite ((h.count ..).irq ..) ((h.updMac ..).rxDrain ..)

theorem rxPause (h : s.Canonical) (m : Nat) (frame : List Byte) : (s.rxPause m frame).Canonical := (h.count ..).updMac ..

theorem rxAccept (h : s.Canonical) (m : Nat) (frame : List Byte) (ptp : Option PtpPlace) (err : Int) :
    (s.rxAccept m frame ptp err).Canonical := by
  unfold State.rxAccept
  refine .ite (h.rxPause ..) (.ite h ?_)
  dsimp only
  split
  · exact h.irq ..
  · refine .rxEnqueue ?_ ..
    split
    · exact h.tsPush ..
    · exact h

theorem rxtailWrite (h : s.Canonical) (init m : Nat) (data : Word) : (rxtailWrite init m data s).Canonical :=
  (h.plainWrite ..).rxDrain ..

theorem txSend (h : s.Canonical) (m n : Nat) (ptp : Option PtpPlace) (err : Int) : (s.txSend m n ptp err).Canonical := by
  unfold State.txSend
  extract_lets _ _ _ _ _ _ _ s1 _ s2 s3 s4
  have hs1 : s1.Canonical := h.frame.foldl (fun _ _ ht => ht.ethWord ..) ..
  have hs2 : s2.Canonical := .ite ((hs1.ethWord ..).ethWord ..) hs1
  have hs3 : s3.Canonical := by
    unfold s3
    split
    · exact .ite hs2 (hs2.tsPush ..)
    · exact hs2
  have hs4 : s4.Canonical := hs3.setFld ..
  exact ((hs4.updMac ..).count ..).irq ..

theorem cntclrWrite (h : s.Canonical) (init m : Nat) (data : Word) : (cntclrWrite init m data s).Canonical :=
  .respond (.ite (h.foldl (fun _ _ ht => ht.wr ..) ..) h) ..

theorem pauseWrite (h : s.Canonical) (init m : Nat) (data : Word) : (pauseWrite init m data s).Canonical :=
  .respond (.ite (((h.setFld ..).count ..).updMac ..) (h.setFld ..)) ..

theorem anctlWrite (h : s.Canonical) (init m : Nat) (data : Word) : (anctlWrite init m data s).Canonical :=
  .ite ((h.plainWrite ..).setBit ..) (h.plainWrite ..)

theorem sakeyWrite (h : s.Canonical) (init m k : Nat) (data : Word) : (sakeyWrite init m k data s).Canonical :=
  .ite (h.respond ..) ((h.updMac ..).respond ..)

theorem clearKeys (h : s.Canonical) : s.clearKeys.Canonical := h.frame

/-! ### Converters -/

theorem updPos (h : s.Canonical) (n : Nat) (f : ConvPos → ConvPos) : (s.updPos n f).Canonical := h.frame

theorem acquire (h : s.Canonical) (n k : Nat) : (s.acquire n k).Canonical := h.updPos ..

theorem markMerged (h : s.Canonical) (n : Nat) : (s.markMerged n).Canonical := (h.setBit ..).irq ..

theorem startRun (h : s.Canonical) (n groups : Nat) (merged late : Bool) : (s.startRun n groups merged late).Canonical := by
  unfold State.startRun
  split
  · exact h.setBit ..
  · exact .acquire (.updPos (.ite (.irq (.setBit (.ite (((h.wr ..).setBit ..).markMerged ..) ((h.wr ..).setBit ..)) ..) ..)
        (.ite (((h.wr ..).setBit ..).markMerged ..) ((h.wr ..).setBit ..))) ..) ..

theorem handover (h : s.Canonical) : s.handover.Canonical :=
  ((((((h.setFld ..).setFld ..).irq ..).irq ..).count ..).setFld ..).frame

theorem boundary (h : s.Canonical) (n : Nat) : (s.boundary n).Canonical := .ite h.handover h

theorem joinRun (h : s.Canonical) (n fired cycle : Nat) : (s.joinRun n fired cycle).Canonical := by
  unfold State.joinRun
  extract_lets _
  split
  · exact h
  · exact (((h.markMerged ..).updPos ..).acquire ..).updPos ..

theorem trigger (h : s.Canonical) (n fired merged cycle : Nat) : (s.trigger n fired merged cycle).Canonical := by
  unfold State.trigger
  refine .ite h ?_
  extract_lets _
  split
  · exact ((h.boundary ..).startRun ..).updPos ..
  · exact .ite (h.joinRun ..) (h.updPos ..)
  · exact h.updPos ..

theorem fireGroups (h : s.Canonical) (fired merged cycle : Nat) : (s.fireGroups fired merged cycle).Canonical :=
  .ite h ((h.orBits ..).foldl (fun _ _ ht => ht.trigger ..) ..)

theorem sendEvent (h : s.Canonical) (code : Nat) : (s.sendEvent code).Canonical := h.frame

theorem swtrigApply (h : s.Canonical) (init : Nat) (data : Word) (cycle : Nat) : (swtrigApply init data cycle s).Canonical :=
  .respond (.ite (h.fireGroups ..) h) ..

theorem tgCfgWrite (h : s.Canonical) (init k : Nat) (data : Word) : (tgCfgWrite init k data s).Canonical :=
  .ite (h.respond ..) (.ite (h.errorResp ..) (.ite ((h.plainWrite ..).frame) (h.plainWrite ..)))

theorem endShadow (h : s.Canonical) (state : Nat) : (s.endShadow state).Canonical := (h.setFld ..).setBit ..

theorem shadowCompare (h : s.Canonical) (n : Nat) (k kSpare : Int) : (s.shadowCompare n k kSpare).Canonical :=
  .ite (.ite (((h.setFld ..).wr ..).frame) (.ite (((((h.setFld ..).wr ..).frame).endShadow ..).frame)
      (((((((h.setFld ..).wr ..).frame).endShadow ..).count ..).irq ..).frame))) h

theorem putResult (h : s.Canonical) (n e : Nat) (k : Int) (clip : Bool) : (s.putResult n e k clip).Canonical := by
  unfold State.putResult
  extract_lets _ _ s1 s2 s3
  have hs1 : s1.Canonical := (h.wr ..).updPos ..
  have hs2 : s2.Canonical := .ite (((hs1.setBit ..).irq ..).count ..) hs1
  have hs3 : s3.Canonical := .ite ((hs2.setBit ..).irq ..) hs2
  exact .ite (hs3.updPos ..) ((hs3.updPos ..).irq ..)

theorem runOver (h : s.Canonical) (n : Nat) : (s.runOver n).Canonical := .ite h.frame h

theorem startPending (h : s.Canonical) (n : Nat) (pend : Option (Nat × Bool)) : (s.startPending n pend).Canonical := by
  unfold State.startPending
  split
  · exact .startRun (.ite (h.runOver ..) (h.boundary ..)) ..
  · exact (h.runOver ..).setBit ..

theorem advanceRun (h : s.Canonical) (n e : Nat) : (s.advanceRun n e).Canonical := by
  unfold State.advanceRun
  split
  · exact h.acquire ..
  · exact (h.updPos ..).startPending ..

theorem conversionEnd (h : s.Canonical) (n : Nat) (vin vinSpare : Int) : (conversionEnd s n vin vinSpare).Canonical := by
  unfold Machine.conversionEnd
  split
  · exact h
  · exact .ite ((h.updPos ..).startPending ..) (((h.putResult ..).shadowCompare ..).advanceRun ..)

theorem resultReadApply (h : s.Canonical) (init n : Nat) : (resultReadApply init n s).Canonical := (h.setBit ..).respond ..

theorem entryApply (h : s.Canonical) (init n k : Nat) (b : Bool) (data : Word) : (entryApply init n k b data s).Canonical :=
  .ite (h.errorResp ..) (.ite ((h.plainWrite ..).setFld ..) (h.plainWrite ..))

theorem convCtrlWrite (h : s.Canonical) (init n : Nat) (data : Word) : (convCtrlWrite init n data s).Canonical :=
  .ite (.ite (h.errorResp ..) ((h.setBit ..).respond ..)) (((h.setBit ..).updPos ..).respond ..)

theorem rotcfgApply (h : s.Canonical) (init : Nat) (data : Word) : (rotcfgApply init data s).Canonical :=
  .ite (h.errorResp ..) (.ite (((h.plainWrite ..).endShadow ..).frame) (h.plainWrite ..))

/-! ### Gate -/

theorem updHb (h : s.Canonical) (n : Nat) (f : GateHb → GateHb) : (s.updHb n f).Canonical := h.frame

theorem hbEval (h : s.Canonical) (n : Nat) (a b : Bool) : (s.hbEval n a b).Canonical := h.updHb ..

theorem hbRefresh (h : s.Canonical) (n : Nat) : (s.hbRefresh n).Canonical := h.hbEval ..

theorem groupRefresh (h : s.Canonical) (g : Nat) : (s.groupRefresh g).Canonical :=
  (((h.hbRefresh ..).hbRefresh ..).hbRefresh ..).hbRefresh ..

theorem setHbState (h : s.Canonical) (n st : Nat) : (s.setHbState n st).Canonical := h.setFld ..

theorem lockOut (h : s.Canonical) (n : Nat) : (s.lockOut n).Canonical := ((h.setHbState ..).irq ..).updHb ..

theorem escalateOne (h : s.Canonical) (n : Nat) : (s.escalateOne n).Canonical :=
  .ite (((h.lockOut ..).setFld ..).updHb ..) (.ite (h.updHb ..) h)

theorem escalate (h : s.Canonical) (g : Nat) : (s.escalate g).Canonical :=
  ((((((h.escalateOne ..).escalateOne ..).escalateOne ..).escalateOne ..).setBit ..).irq ..).groupRefresh ..

theorem takeFault (h : s.Canonical) (n cause aff : Nat) : (s.takeFault n cause aff).Canonical := by
  unfold State.takeFault
  extract_lets _ _ _ _ s1 s2 s3 _ s4
  have hs1 : s1.Canonical := (((h.count ..).setFld ..).setFld ..).setFld ..
  have hs2 : s2.Canonical := hs1.irq ..
  have hs3 : s3.Canonical := .ite (hs2.setHbState ..) (hs2.lockOut ..)
  have hs4 : s4.Canonical := hs3.updHb ..
  exact .ite h (.hbRefresh (.ite (hs4.escalate ..) hs4) ..)

theorem enterRun (h : s.Canonical) (n : Nat) : (s.enterRun n).Canonical := ((h.setHbState ..).setFld ..).updHb ..

theorem release (h : s.Canonical) (n : Nat) : (s.release n).Canonical :=
  .enterRun (.ite ((h.updHb ..).setFld ..) (((h.updHb ..).setFld ..).setBit ..)) ..

theorem releaseRefused (h : s.Canonical) (n : Nat) : (s.releaseRefused n).Canonical := (h.setBit ..).irq ..

theorem releaseByB (h : s.Canonical) (n : Nat) (b : Bool) : (s.releaseByB n b).Canonical :=
  .ite (.ite (h.releaseRefused ..) (h.release ..)) h

theorem bothOn (h : s.Canonical) (n : Nat) : (s.bothOn n).Canonical :=
  .ite ((((((h.updHb ..).hbEval ..).setBit ..).irq ..).count ..).takeFault ..)
      (((((h.updHb ..).hbEval ..).setBit ..).irq ..).count ..)

theorem hbCommand (h : s.Canonical) (n : Nat) (a b : Bool) : (s.hbCommand n a b).Canonical := .ite (h.bothOn ..) (h.hbEval ..)

theorem gateDrive (h : s.Canonical) (n : Nat) (a b : Bool) : (s.gateDrive n a b).Canonical := (h.releaseByB ..).hbCommand ..

theorem gateRemovePulse (h : s.Canonical) (n : Nat) (b : Bool) : (s.gateRemovePulse n b).Canonical := h.updHb ..

theorem modeCheck (h : s.Canonical) (n : Nat) : (s.modeCheck n).Canonical :=
  .hbCommand (.updHb (.ite ((h.setBit ..).irq ..) h) ..) ..

theorem faultBall (h : s.Canonical) (n : Nat) (low : Bool) : (s.faultBall n low).Canonical :=
  .ite h (.ite ((h.updHb ..).takeFault ..) (h.updHb ..))

theorem waitEnd (h : s.Canonical) (n : Nat) : (s.waitEnd n).Canonical :=
  .ite (((h.count ..).updHb ..).takeFault ..) ((((h.count ..).updHb ..).enterRun ..).hbRefresh ..)

theorem hbctlWrite (h : s.Canonical) (init n : Nat) (data : Word) : (hbctlWrite init n data s).Canonical :=
  .ite (.ite ((h.setFld ..).respond ..) (.ite (.ite ((h.releaseRefused ..).errorResp ..)
      ((((h.setBit ..).release ..).hbRefresh ..).respond ..))
      (((((h.setBit ..).setFld ..).enterRun ..).hbRefresh ..).respond ..)))
      (.ite (((((h.setBit ..).setHbState ..).setFld ..).hbRefresh ..).respond ..) (h.respond ..))

theorem enableHb (h : s.Canonical) (n : Nat) : (s.enableHb n).Canonical := (h.updHb ..).hbRefresh ..

theorem unveto (h : s.Canonical) (n : Nat) : (s.unveto n).Canonical := h.updHb ..

theorem groupEnable (h : s.Canonical) (g : Nat) : (s.groupEnable g).Canonical :=
  ((((((((h.setBit ..).unveto ..).unveto ..).unveto ..).unveto ..).enableHb ..).enableHb ..).enableHb ..).enableHb ..

theorem shutPhase3 (h : s.Canonical) (g : Nat) : (s.shutPhase3 g).Canonical :=
  .ite ((((h.setBit ..).irq ..).setBit ..).groupEnable ..) ((h.setBit ..).irq ..)

theorem shutPhase2 (h : s.Canonical) (g : Nat) : (s.shutPhase2 g).Canonical :=
  .ite (((h.setBit ..).groupRefresh ..).shutPhase3 ..) ((h.setBit ..).groupRefresh ..)

theorem shutPhase1 (h : s.Canonical) (g : Nat) : (s.shutPhase1 g).Canonical :=
  .ite (((h.setBit ..).groupRefresh ..).shutPhase2 ..) ((h.setBit ..).groupRefresh ..)

theorem gateWipe (h : s.Canonical) (g : Nat) : (s.gateWipe g).Canonical :=
  (((((((((((h.dropRegs ..).wr ..).wr ..).setBit ..).updHb ..).updHb ..).updHb ..).updHb ..).modeCheck ..).modeCheck
      ..).modeCheck ..).modeCheck ..

theorem groupOff (h : s.Canonical) (g : Nat) : (s.groupOff g).Canonical :=
  .ite ((h.setBit ..).setBit ..) (.ite ((h.setBit ..).shutPhase1 ..) (h.setBit ..))

theorem groupOn (h : s.Canonical) (g : Nat) : (s.groupOn g).Canonical :=
  .ite (h.setBit ..) (.ite ((h.setBit ..).setBit ..) ((h.setBit ..).groupEnable ..))

theorem gateCtrlWrite (h : s.Canonical) (init g : Nat) (data : Word) : (gateCtrlWrite init g data s).Canonical :=
  .ite (.ite (.errorResp (.ite (h.groupOff ..) h) ..) (.ite (h.errorResp ..) (((h.gateWipe ..).frame).respond ..)))
      (.ite (.ite (h.errorResp ..) ((h.groupOn ..).respond ..)) ((h.groupOff ..).respond ..))

theorem vetoHb (h : s.Canonical) (n : Nat) : (s.vetoHb n).Canonical := h.updHb ..

theorem vetoGroup (h : s.Canonical) (g : Nat) : (s.vetoGroup g).Canonical :=
  .groupRefresh (.ite (((((((h.vetoHb ..).vetoHb ..).vetoHb ..).vetoHb ..).setBit ..).setBit ..).shutPhase1 ..)
      ((((((h.vetoHb ..).vetoHb ..).vetoHb ..).vetoHb ..).setBit ..).setBit ..)) ..

theorem assertVeto (h : s.Canonical) : s.assertVeto.Canonical := h.frame.foldl (fun _ _ ht => ht.vetoGroup ..) ..

theorem gcfgWrite (h : s.Canonical) (init g : Nat) (data : Word) : (gcfgWrite init g data s).Canonical :=
  .ite (h.errorResp ..) (((((h.plainWrite ..).modeCheck ..).modeCheck ..).modeCheck ..).modeCheck ..)

theorem uvRefresh (h : s.Canonical) (n : Nat) : (s.uvRefresh n).Canonical :=
  h.clocked (fun _ ht => .hbRefresh (.setBit (.ite (ht.irq ..) ht) ..) ..) ..

theorem hbcfgWrite (h : s.Canonical) (init n : Nat) (data : Word) : (hbcfgWrite init n data s).Canonical :=
  .ite (h.errorResp ..) ((h.plainWrite ..).uvRefresh ..)

theorem uvReport (h : s.Canonical) (n hs ls : Nat) : (s.uvReport n hs ls).Canonical :=
  ((((h.wr ..).setBit ..).setBit ..).updHb ..).uvRefresh ..

theorem uvLoss (h : s.Canonical) (n : Nat) : (s.uvLoss n).Canonical := ((h.setBit ..).updHb ..).uvRefresh ..

/-! ### Pwm -/

theorem updGen (h : s.Canonical) (n : Nat) (f : PwmGen → PwmGen) : (s.updGen n f).Canonical := h.frame

theorem pwmFlag (h : s.Canonical) (n i : Nat) : (s.pwmFlag n i).Canonical := (h.setBit ..).irq ..

theorem pwmOut (h : s.Canonical) (n : Nat) (a b : Bool) : (s.pwmOut n a b).Canonical :=
  .ite h (.gateDrive (.updGen (.ite (.gateRemovePulse (.ite (h.gateRemovePulse ..) h) ..) (.ite (h.gateRemovePulse ..) h)) ..)
      ..)

theorem pwmEdge (h : s.Canonical) (n : Nat) (w : Bool) : (s.pwmEdge n w).Canonical :=
  .ite h (.ite (h.pwmOut ..) (.ite ((h.updGen ..).pwmOut ..) ((h.updGen ..).pwmOut ..)))

theorem pwmSetW (h : s.Canonical) (n : Nat) (w : Bool) : (s.pwmSetW n w).Canonical := .ite h ((h.updGen ..).pwmEdge ..)

theorem fireEdge (h : s.Canonical) (n k : Nat) : (s.fireEdge n k).Canonical := by
  unfold State.fireEdge
  extract_lets _ s1 s2 s3
  have hs1 : s1.Canonical := h.updGen ..
  have hs2 : s2.Canonical := .ite (.ite hs1 (hs1.pwmSetW ..)) (.ite (hs1.pwmSetW ..) hs1)
  have hs3 : s3.Canonical := hs2.sendEvent ..
  split
  · exact hs3.wr ..
  · exact hs3

theorem syncOutPulse (h : s.Canonical) (src : Option Nat) (i : Nat) : (s.syncOutPulse src i).Canonical := .ite h.frame h

theorem disarm (h : s.Canonical) (n : Nat) : (s.disarm n).Canonical := .ite (h.setBit ..) (((h.setBit ..).setBit ..).irq ..)

theorem copyShadow (h : s.Canonical) (n k : Nat) : (s.copyShadow n k).Canonical := .ite (h.wr ..) h

theorem clampLive (h : s.Canonical) (n k : Nat) : (s.clampLive n k).Canonical := .ite ((h.wr ..).pwmFlag ..) h

theorem transfer (h : s.Canonical) (n : Nat) : (s.transfer n).Canonical :=
  ((((((((((((h.copyShadow ..).copyShadow ..).copyShadow ..).copyShadow ..).copyShadow ..).copyShadow ..).wr ..).clampLive
      ..).clampLive ..).clampLive ..).clampLive ..).disarm ..).pwmFlag ..

theorem liveClamp (h : s.Canonical) (n k : Nat) (v : Word) : (s.liveClamp n k v).1.Canonical := .iteFst (h.pwmFlag ..) h

theorem takeNext (h : s.Canonical) (n k : Nat) : (s.takeNext n k).Canonical := by
  unfold State.takeNext
  split
  · exact ((h.liveClamp ..).wr ..).updGen ..
  · exact h

theorem applyAfter (h : s.Canonical) (n : Nat) (l : List (Nat × Word)) : (s.applyAfter n l).Canonical := by
  induction l generalizing s with
  | nil => exact h
  | cons p t ih => exact ih ((h.liveClamp ..).wr ..)

theorem truncate (h : s.Canonical) (n : Nat) : (s.truncate n).Canonical := .ite (h.fireEdge ..) h

theorem beginPeriod (h : s.Canonical) (n sent : Nat) : (s.beginPeriod n sent).Canonical := by
  unfold State.beginPeriod
  extract_lets _ s1 _ s2 s3 s4 _ s5 _ _ base _ _ s7
  have hs1 : s1.Canonical := h.truncate ..
  have hs2 : s2.Canonical := .ite (.ite (hs1.transfer ..) (hs1.pwmFlag ..)) hs1
  have hs3 : s3.Canonical := ((hs2.takeNext ..).takeNext ..).takeNext ..
  have hs4 : s4.Canonical := (hs3.updGen ..).applyAfter ..
  have hs5 : s5.Canonical := ((hs4.setBit ..).setBit ..).wr ..
  have hbase : base.Canonical := hs5.updGen ..
  have hs7 : s7.Canonical := .ite (.ite (hbase.frame.pwmOut ..) hbase.frame) (.ite (hbase.frame.pwmEdge ..) hbase.frame)
  exact (hs7.sendEvent ..).syncOutPulse ..

theorem pwmCtrlWrite (h : s.Canonical) (init n : Nat) (data : Word) : (pwmCtrlWrite init n data s).Canonical :=
  .ite (.ite (h.respond ..) (((((h.setBit ..).wr ..).updGen ..).pwmOut ..).respond ..))
      (.ite (.respond (.ite ((((((h.setBit ..).updGen ..).pwmOut ..).setBit ..).setBit ..).disarm ..)
      (((((h.setBit ..).updGen ..).pwmOut ..).setBit ..).setBit ..)) ..) (h.respond ..))

theorem startGen (h : s.Canonical) (n : Nat) : (s.startGen n).Canonical := .ite (h.updGen ..) h

theorem eachGen (h : s.Canonical) {f : State → Nat → State} (hf : ∀ t y, t.Canonical → (f t y).Canonical) (k : Nat)
    (data : Word) :
    (s.eachGen k data f).Canonical :=
  h.foldl (fun _ _ ht => .ite (hf _ _ ht) ht) ..

theorem startWrite (h : s.Canonical) (init k : Nat) (data : Word) : (startWrite init k data s).Canonical :=
  .ite (h.errorResp ..) ((h.eachGen (fun _ _ ht => ht.startGen ..) ..).respond ..)

theorem noteLate (h : s.Canonical) (n : Nat) : (s.noteLate n).Canonical := (h.pwmFlag ..).count ..

theorem liveApply (h : s.Canonical) (n k : Nat) (v : Word) : (s.liveApply n k v).Canonical :=
  .ite (h.wr ..) (.ite ((h.wr ..).updGen ..) (.ite ((h.wr ..).updGen ..)
      (.ite ((((h.noteLate ..).updGen ..).wr ..).fireEdge ..) ((h.noteLate ..).updGen ..))))

theorem liveWrite (h : s.Canonical) (init sub n k : Nat) (data : Word) : (liveWrite init sub n k data s).Canonical :=
  .ite ((h.pwmFlag ..).errorResp ..) (.ite ((h.updGen ..).respond ..) (((h.liveClamp ..).liveApply ..).respond ..))

theorem shadowWrite (h : s.Canonical) (init n k : Nat) (data : Word) : (shadowWrite init n k data s).Canonical :=
  .ite (h.errorResp ..) (.ite (h.plainWrite ..) (.ite ((h.plainWrite ..).setBit ..) (((h.plainWrite ..).wr ..).setBit ..)))

theorem arm (h : s.Canonical) (n : Nat) (data : Word) : (s.arm n data).Canonical := .ite (((h.setBit ..).setBit ..).updGen ..) h

theorem commitWrite (h : s.Canonical) (init : Nat) (data : Word) : (commitWrite init data s).Canonical :=
  .ite (h.errorResp ..) ((h.foldl (fun _ _ ht => ht.arm ..) ..).respond ..)

theorem pwmCfgWrite (h : s.Canonical) (init n : Nat) (data : Word) : (pwmCfgWrite init n data s).Canonical :=
  .ite (h.errorResp ..) ((h.plainWrite ..).modeCheck ..)

theorem trip (h : s.Canonical) (n cause : Nat) : (s.trip n cause).Canonical :=
  (((((h.setBit ..).irq ..).setFld ..).count ..).updGen ..).pwmOut ..

theorem tripFiltered (h : s.Canonical) (n : Nat) (v : Bool) : (s.tripFiltered n v).Canonical :=
  .ite ((h.setBit ..).trip ..) (h.setBit ..)

theorem seeTripIn (h : s.Canonical) (m : Nat) : (s.seeTripIn m).Canonical := h.frame

theorem tripcfgWrite (h : s.Canonical) (init n : Nat) (data : Word) : (tripcfgWrite init n data s).Canonical :=
  .ite (h.errorResp ..) (.ite (h.plainWrite ..) (.ite ((h.plainWrite ..).tripFiltered ..) (h.plainWrite ..)))

theorem tripSettled (h : s.Canonical) (n at_ m : Nat) (v : Bool) : (s.tripSettled n at_ m v).Canonical :=
  h.clocked (fun _ ht => .ite (((ht.atTime ..).seeTripIn ..).tripFiltered ..) ((ht.atTime ..).seeTripIn ..)) ..

theorem tripUnlatch (h : s.Canonical) (n : Nat) : (s.tripUnlatch n).Canonical := .ite h (((h.setBit ..).setFld ..).updGen ..)

theorem tripctlWrite (h : s.Canonical) (init n : Nat) (data : Word) : (tripctlWrite init n data s).Canonical := by
  unfold Machine.tripctlWrite
  extract_lets _ s1
  have hs1 : s1.Canonical := .ite (h.trip ..) h
  exact .ite (hs1.respond ..) (.ite ((hs1.pwmFlag ..).errorResp ..)
      (.ite (hs1.respond ..) (.ite ((hs1.pwmFlag ..).errorResp ..) ((hs1.tripUnlatch ..).respond ..))))

theorem pwmcForceWrite (h : s.Canonical) (init k : Nat) (data : Word) : (pwmcForceWrite init k data s).Canonical :=
  .ite (h.respond ..) (.ite (h.errorResp ..) ((h.eachGen (fun _ _ ht => ht.trip ..) ..).respond ..))

theorem pwmWipe (h : s.Canonical) (n : Nat) : (s.pwmWipe n).Canonical :=
  (((((h.pwmOut ..).dropRegs ..).wr ..).wr ..).updGen ..).modeCheck ..

/-! ### MemEcc -/

theorem updHealth (h : s.Canonical) (f : Health → Health) : (s.updHealth f).Canonical := h.frame

theorem bumpFrees (h : s.Canonical) (n : Nat) : (s.bumpFrees n).Canonical := h.frame

theorem logRecord (h : s.Canonical) (us cycle kind target result : Nat) (w2 w3 : Word) :
    (s.logRecord us cycle kind target result w2 w3).Canonical :=
  .ite (((h.setFld ..).updHealth ..).issue ..) h

theorem logFree (h : s.Canonical) (us cycle kind target result : Nat) : (s.logFree us cycle kind target result).Canonical :=
  (h.logRecord ..).bumpFrees ..

theorem eccEvent (h : s.Canonical) (m a us cycle : Nat) (e : EccError) : (s.eccEvent m a us cycle e).Canonical :=
  .ite (.irq (.ite (h.count ..) (h.count ..)) ..) (.bumpFrees
      (.logRecord (.wr (.wr (.irq (.ite (h.count ..) (h.count ..)) ..) ..) ..) ..) ..)

theorem noteBad (h : s.Canonical) (a : Nat) (e : EccError) : (s.noteBad a e).Canonical := .ite (h.updHealth ..) h

theorem eccRead (h : s.Canonical) (m a us cycle : Nat) (ecc : Option EccError) : (s.eccRead m a us cycle ecc).1.Canonical := by
  unfold State.eccRead
  extract_lets _
  split
  · exact (h.noteBad ..).eccEvent ..
  · exact .iteFst ((h.bumpFrees ..).eccEvent ..) h

theorem eccSpan (h : s.Canonical) (a n us cycle : Nat) (ecc : Option EccError) : (s.eccSpan a n us cycle ecc).1.Canonical := by
  unfold State.eccSpan
  split
  case h_1 => exact h
  case h_2 m _ =>
    have hq := h.eccRead m a us cycle ecc
    dsimp only
    split
    · exact hq
    · exact hq.eccRead ..

/-! ### TellerRun -/

theorem updTpos (h : s.Canonical) (n : Nat) (f : TelPos → TelPos) : (s.updTpos n f).Canonical := h.frame

theorem setRun (h : s.Canonical) (n : Nat) (r : Run) : (s.setRun n r).Canonical := h.updTpos ..

theorem instRefresh (h : s.Canonical) (n i : Nat) : (s.instRefresh n i).Canonical := h.setFld ..

theorem shadowProgress (h : s.Canonical) : s.shadowProgress.Canonical :=
  .ite (.ite (((h.setFld ..).setFld ..).updTpos ..) (h.setFld ..)) h

theorem spareRefresh (h : s.Canonical) : s.spareRefresh.Canonical := (h.setFld ..).setSpares ..

theorem markTeller (h : s.Canonical) (u : Nat) : (s.markTeller u).Canonical := ((h.setBit ..).setBit ..).irq ..

theorem setUnit (h : s.Canonical) (p u : Nat) : (s.setUnit p u).Canonical := h.foldl (fun _ _ ht => ht.setFld ..) ..

theorem swapUnits (h : s.Canonical) (p q u : Nat) : (s.swapUnits p q u).Canonical :=
  .ite ((((h.setUnit ..).setFld ..).spareRefresh).frame) (((h.setUnit ..).setFld ..).spareRefresh)

theorem clearTakeover (h : s.Canonical) (p : Nat) : (s.clearTakeover p).Canonical := h.updTpos ..

theorem lateTakeover (h : s.Canonical) (p : Nat) : (s.lateTakeover p).Canonical := by
  unfold State.lateTakeover
  split
  · exact h
  · exact .ite (((h.markTeller ..).swapUnits ..).clearTakeover ..) h

theorem afterRun (h : s.Canonical) (n : Nat) : (s.afterRun n).Canonical := h.foldl (fun _ _ ht => ht.lateTakeover ..) ..

theorem endRun (h : s.Canonical) (n : Nat) (r : Run) : (s.endRun n r).Canonical :=
  .afterRun (.ite (((((h.updTpos ..).setBit ..).instRefresh ..).frame).shadowProgress)
      (((h.updTpos ..).setBit ..).instRefresh ..)) ..

theorem telStore (h : s.Canonical) (a : Nat) (bs : List Byte) : (s.telStore a bs).Canonical :=
  .ite ((h.memStore ..).memStore ..) (h.memStore ..)

theorem bundleEnd (h : s.Canonical) (n : Nat) : (s.bundleEnd n).Canonical := by
  unfold State.bundleEnd
  split
  · exact h
  · exact .ite (.ite ((h.foldl (fun _ _ ht => ht.telStore ..) ..).endRun ..)
        ((h.foldl (fun _ _ ht => ht.telStore ..) ..).setRun ..)) h

theorem slotOp (h : s.Canonical) (n slot : Nat) (w : Word) (opc : Nat) (form : Option Bool) (f : Run → Run) :
    (s.slotOp n slot w opc form f).Canonical := by
  unfold State.slotOp
  split
  · exact h
  · exact (h.setRun ..).bundleEnd ..

/-! ### TellerMem -/

theorem lOp (h : s.Canonical) {f : State → Run → State × Run} (hf : ∀ t y, t.Canonical → (f t y).1.Canonical) (n : Nat)
    (w : Word) (opc : Nat) :
    (s.lOp n w opc f).Canonical := by
  unfold State.lOp
  split
  · exact h
  · exact .bundleEnd (.setRun (.iteFst (hf _ _ h) h) ..) ..

theorem unitLoad (h : s.Canonical) (n : Nat) (r : Run) (d a k us cycle : Nat) (ecc : Option EccError) :
    (s.unitLoad n r d a k us cycle ecc).1.Canonical :=
  .ite ((h.eccSpan ..).irq ..) (h.eccSpan ..)

theorem unitIssue (h : s.Canonical) (r : Run) (p : Slip) : (s.unitIssue r p).1.Canonical := .iteFst (h.issue ..) h

theorem fabErr (h : s.Canonical) (n : Nat) (r : Run) : (s.fabErr n r).Canonical := h.irq ..

theorem pushIssue (h : s.Canonical) (n cycle : Nat) (r : Run) (p i k : Nat) (data : Word) :
    (s.pushIssue n cycle r p i k data).1.Canonical :=
  .iteFst (h.unitIssue ..) (h.fabErr ..)

theorem pgStep (h : s.Canonical) (k : Nat) (r : Word) : (s.pgStep k r).Canonical := (((h.wr ..).wr ..).wr ..).wr ..

theorem stallIssue (h : s.Canonical) (n : Nat) (r : Run) (cycle : Nat) : (s.stallIssue n r cycle).1.Canonical := by
  unfold State.stallIssue
  split
  · exact h
  · split
    · exact h.pushIssue ..
    · exact h.unitIssue ..

/-! ### TellerArray -/

theorem updInst (h : s.Canonical) (n i : Nat) (f : TelInst → TelInst) : (s.updInst n i f).Canonical := h.updTpos ..

theorem updTel (h : s.Canonical) (f : TelArr → TelArr) : (s.updTel f).Canonical := h.frame

theorem makeReady (h : s.Canonical) (n i cycle : Nat) : (s.makeReady n i cycle).Canonical :=
  .ite ((h.updInst ..).instRefresh ..) h

theorem arrive (h : s.Canonical) (n i k cycle : Nat) : (s.arrive n i k cycle).Canonical :=
  .ite (.makeReady (.updInst (.ite (h.irq ..) h) ..) ..) (.updInst (.ite (h.irq ..) h) ..)

theorem land (h : s.Canonical) (n cycle : Nat) (q : Arrival) : (s.land n cycle q).Canonical := by
  unfold State.land
  extract_lets s1 s2
  have hs1 : s1.Canonical := (h.updTel ..).telStore ..
  have hs2 : s2.Canonical := hs1.updSlip ..
  split
  · exact hs2.arrive ..
  · exact hs2

theorem kickWrite (h : s.Canonical) (init n : Nat) (data : Word) (cycle : Nat) : (kickWrite init n data cycle s).Canonical :=
  .ite (h.respond ..) ((h.foldl (fun _ _ ht => .ite (ht.makeReady ..) ht) ..).respond ..)

theorem latchSlots (h : s.Canonical) (n i us cycle : Nat) : (s.latchSlots n i us cycle).1.Canonical :=
  h.foldlFst (fun _ _ ht => .ite ((ht.eccSpan ..).irq ..) (ht.eccSpan ..)) ..

theorem startInst (h : s.Canonical) (n i us cycle : Nat) : (s.startInst n i us cycle).Canonical :=
  ((((((h.latchSlots ..).updInst ..).setRun ..).setBit ..).setFld ..).setFld ..).instRefresh ..

theorem boundsRefresh (h : s.Canonical) (ps : List Nat) : (s.boundsRefresh ps).Canonical :=
  h.foldl (fun _ _ ht => ht.setFld ..) ..

theorem admitted (h : s.Canonical) (n : Nat) : (s.admitted n).Canonical := (((h.wr ..).setFld ..).setFld ..).bumpFree

theorem tryEnable (h : s.Canonical) (n i : Nat) (cfg : Word) : (s.tryEnable n i cfg).1.Canonical := by
  unfold State.tryEnable
  extract_lets _ s1 s2 s3
  have hs1 : s1.Canonical := h.wr ..
  have hs2 : s2.Canonical := (hs1.wr ..).wr ..
  have hs3 : s3.Canonical := (hs2.wr ..).setBit ..
  split
  · exact h
  · split
    · exact h
    · exact hs3

theorem disableInst (h : s.Canonical) (n i : Nat) : (s.disableInst n i).Canonical :=
  .shadowProgress (.boundsRefresh (.setBit (.ite (((((h.setBit ..).updInst ..).setBit ..).instRefresh ..).foldl
      (fun _ _ ht => ht.setBit ..) ..) ((((h.setBit ..).updInst ..).setBit ..).instRefresh ..)) ..) ..)

theorem newcomer (h : s.Canonical) (n i : Nat) : (s.newcomer n i).Canonical := .ite ((h.updTel ..).shadowProgress) h

theorem instCfgWrite (h : s.Canonical) (init n i : Nat) (data : Word) : (instCfgWrite init n i data s).Canonical := by
  have htry := h.tryEnable n i data
  unfold Machine.instCfgWrite
  refine .ite (h.errorResp ..) (.ite (.ite (h.errorResp ..) (.ite (h.respond ..) ((h.disableInst ..).respond ..)))
      (.ite ?_ (h.plainWrite ..)))
  split
  case h_1 s1 heq =>
    rw [heq] at htry
    exact (((((htry.admitted ..).updInst ..).instRefresh ..).boundsRefresh ..).newcomer ..).respond ..
  case h_2 s1 c p k heq =>
    rw [heq] at htry
    exact (htry.wr ..).errorResp ..

theorem instFieldWrite (h : s.Canonical) (init n i a : Nat) (data : Word) : (instFieldWrite init n i a data s).Canonical :=
  .ite (h.errorResp ..) (h.plainWrite ..)

theorem fallbackWrite (h : s.Canonical) (init n : Nat) (data : Word) : (fallbackWrite init n data s).Canonical :=
  .ite (h.errorResp ..) (h.plainWrite ..)

theorem libWrite (h : s.Canonical) (init a sub : Nat) (bs : List Byte) : (libWrite init a sub bs s).Canonical :=
  .ite (h.errorResp ..) ((h.memStore ..).respond ..)

theorem pgXWrite (h : s.Canonical) (init k : Nat) (data : Word) : (pgXWrite init k data s).Canonical :=
  .ite (h.respond ..) (.ite (h.errorResp ..) ((((h.wr ..).wr ..).wr ..).respond ..))

theorem endRotation (h : s.Canonical) : s.endRotation.Canonical := (h.setFld ..).setBit ..

/-- Only the copies of memory bytes are new; what the target area held before is dropped. -/
theorem copyArea (h : s.Canonical) (p q : Nat) : (s.copyArea p q).Canonical :=
  have hdrop (lo hi : Nat) : State.Canonical { s with mem := Store.dropRange s.mem lo hi } :=
    (canonical_iff _).2 ⟨Store.wf_dropRange memDefault s.mem lo hi h.mem_wf, h.regs_wf⟩
  (hdrop ..).foldl (fun _ _ ht => ht.setByte ..) _

theorem sparePassed (h : s.Canonical) (u : Nat) : (s.sparePassed u).Canonical :=
  h.foldl (fun _ _ ht => .ite (.ite (((ht.updTel ..).updTpos ..).lateTakeover ..) (ht.updTpos ..)) ht) ..

theorem tripOwned (h : s.Canonical) (p : Nat) : (s.tripOwned p).Canonical := h.foldl (fun _ _ ht => .ite (ht.trip ..) ht) ..

theorem capacityFault (h : s.Canonical) (p : Nat) : (s.capacityFault p).Canonical :=
  (((((h.setBit ..).irq ..).foldl (fun _ _ ht => ht.setBit ..) ..).tripOwned ..).setBit ..).irq ..

theorem pair (h : s.Canonical) (p i : Nat) (on : Bool) : (s.pair p i on).Canonical :=
  .setBit (.setBit (.updTpos (.ite (h.setFld ..) h) ..) ..) ..

theorem fallback (h : s.Canonical) (p : Nat) : (s.fallback p).Canonical :=
  .ite (.ite (((h.pair ..).foldl (fun _ _ ht => ht.setBit ..) ..).boundsRefresh ..)
      (.ite (((((h.pair ..).foldl (fun _ _ ht => ht.setBit ..) ..).setBit ..).irq ..).boundsRefresh ..)
      (((h.pair ..).pair ..).capacityFault ..))) (h.capacityFault ..)

theorem stopRun (h : s.Canonical) (p : Nat) : (s.stopRun p).Canonical := by
  unfold State.stopRun
  split
  · exact h
  · exact ((h.updTpos ..).setBit ..).instRefresh ..

theorem unserve (h : s.Canonical) (p : Nat) : (s.unserve p).Canonical :=
  (((h.setBit ..).foldl (fun _ _ ht => ht.pair ..) ..).foldl (fun _ _ ht => ht.setBit ..) ..).foldl
      (fun _ _ ht => (ht.setBit ..).fallback ..) ..

theorem spareRole (h : s.Canonical) (spare : Bool) : (s.spareRole spare).Canonical := by
  unfold State.spareRole
  refine h.foldl (fun _ _ ht => .ite ?_ (.ite (ht.unserve ..) ht)) ..
  split
  · exact ht.pair ..
  · exact ht.setBit ..

theorem telRotcfgWrite (h : s.Canonical) (init : Nat) (data : Word) : (telRotcfgWrite init data s).Canonical := by
  unfold Machine.telRotcfgWrite
  extract_lets s1 s2
  have hs1 : s1.Canonical := h.plainWrite ..
  have hs2 : s2.Canonical := .ite hs1 (((hs1.setBit ..).setBit ..).spareRole ..)
  exact .ite (h.errorResp ..) (.ite hs1 (.ite (hs2.endRotation.updTel ..) hs2))

theorem unreserve (h : s.Canonical) (v : Nat) : (s.unreserve v).Canonical :=
  (h.updTel ..).foldl (fun _ _ ht => .ite (ht.clearTakeover ..) ht) ..

theorem retireUnit (h : s.Canonical) (u : Nat) : (s.retireUnit u).Canonical := by
  unfold State.retireUnit
  extract_lets s1
  have hs1 : s1.Canonical := ((h.markTeller ..).unreserve ..).updTel ..
  split
  · exact hs1.spareRefresh
  · refine .ite (.spareRefresh (.ite hs1.endRotation hs1)) ?_
    extract_lets s2 s3
    have hs2 : s2.Canonical := hs1.foldl (fun _ _ ht => ht.stopRun ..) ..
    have hs3 : s3.Canonical := .ite hs2.endRotation hs2
    split
    · exact ((hs3.swapUnits ..).unreserve ..).clearTakeover ..
    · exact (hs3.unserve ..).spareRefresh

/-! ### Health -/

theorem updChecker (h : s.Canonical) (c : Nat) (f : Checker → Checker) : (s.updChecker c f).Canonical := h.updHealth ..

theorem healthCtrlWrite (h : s.Canonical) (init : Nat) (data : Word) : (healthCtrlWrite init data s).Canonical :=
  ((h.setBit ..).setBit ..).respond ..

theorem logbaseWrite (h : s.Canonical) (init : Nat) (data : Word) : (logbaseWrite init data s).Canonical :=
  .ite (h.errorResp ..) (.ite ((h.plainWrite ..).wr ..) (h.plainWrite ..))

theorem setSlice (h : s.Canonical) (x : Option Slice) : (s.setSlice x).Canonical := (h.updHealth ..).setBit ..

theorem coldTakeover (h : s.Canonical) (p u : Nat) : (s.coldTakeover p u).Canonical := by
  unfold State.coldTakeover
  extract_lets s1 s2
  have hs1 : s1.Canonical := h.swapUnits ..
  have hs2 : s2.Canonical := (hs1.setBit ..).foldl (fun _ _ ht => ht.setBit ..) ..
  split
  · exact ((hs1.pair ..).boundsRefresh ..).boundsRefresh ..
  · exact hs2.setBit ..

theorem releaseTeller (h : s.Canonical) (u : Nat) : (s.releaseTeller u).Canonical := by
  unfold State.releaseTeller
  extract_lets s1 s2
  have hs1 : s1.Canonical := h.updTel ..
  have hs2 : s2.Canonical := (hs1.updTel ..).sparePassed ..
  split
  · exact hs1.coldTakeover ..
  · exact .ite (hs2.updTel ..) hs2

theorem releaseUnit (h : s.Canonical) (kind target : Nat) : (s.releaseUnit kind target).Canonical := by
  unfold State.releaseUnit
  split
  · exact h.releaseTeller ..
  · exact h.frame
  · exact h.updChecker ..

theorem retireConverter (h : s.Canonical) (u : Nat) : (s.retireConverter u).Canonical := ((h.frame.setBit ..).irq ..).setSpares ..

theorem retireChecker (h : s.Canonical) (c k : Nat) : (s.retireChecker c k).Canonical :=
  (((h.updChecker ..).setBit ..).irq ..).setSpares ..

theorem retireOf (h : s.Canonical) (kind target : Nat) : (s.retireOf kind target).Canonical := by
  unfold State.retireOf
  split
  · exact h.retireUnit ..
  · exact h.retireConverter ..
  · exact h.retireChecker ..

theorem unitSliceEnd (h : s.Canonical) (x : Slice) (at_ us cycle : Nat) (sig : Option Word) (points : List LoopPoint) :
    (s.unitSliceEnd x at_ us cycle sig points).Canonical :=
  .ite (((((h.setSlice ..).count ..).releaseUnit ..).logRecord ..).bumpFrees ..)
      (.ite ((((h.setSlice ..).retireOf ..).logRecord ..).bumpFrees ..) ((h.setSlice ..).count ..))

theorem cmpSliceEnd (h : s.Canonical) (x : Slice) (us cycle : Nat) : (s.cmpSliceEnd x us cycle).Canonical :=
  .ite h (.bumpFrees (.logRecord (.ite ((((h.setSlice ..).setBit ..).irq ..).count ..) ((h.setSlice ..).count ..)) ..) ..)

theorem scrubStep (h : s.Canonical) : s.scrubStep.Canonical :=
  .ite (h.updHealth ..) (.ite (h.updHealth ..) ((h.updHealth ..).setFld ..))

/-! ### Settlement -/

theorem updSetl (h : s.Canonical) (f : Setl → Setl) : (s.updSetl f).Canonical := h.frame

theorem liveFlag (h : s.Canonical) (base i irq : Nat) (b : Bool) : (s.liveFlag base i irq b).Canonical :=
  .setBit (.ite (h.irq ..) h) ..

theorem busStep (h : s.Canonical) : s.busStep.Canonical := (((h.liveFlag ..).updSetl ..).wr ..).wr ..

theorem queueDeps (h : s.Canonical) (l : List Dep) : (s.queueDeps l).Canonical := h.frame

theorem depSkip (h : s.Canonical) (d : Dep) : (s.depSkip d).Canonical := .ite ((h.setBit ..).irq ..) (h.setBit ..)

theorem depIssue (h : s.Canonical) (d : Dep) (cycle : Nat) : (s.depIssue d cycle).Canonical :=
  .ite (.ite h (h.frame.issue ..)) (h.frame.depSkip ..)

theorem contExit (h : s.Canonical) : s.contExit.Canonical :=
  .ite (.ite ((((h.updSetl ..).setBit ..).setBit ..).irq ..) (h.updSetl ..)) h

theorem contEnter (h : s.Canonical) : s.contEnter.Canonical :=
  .irq (.count (.setFld (.setBit (.setBit (.ite h.bumpFree h) ..) ..) ..) ..) ..

theorem makeTable (h : s.Canonical) (accts : List Acct) : (s.makeTable accts).Canonical :=
  ((h.foldl (fun _ _ ht => ht.wr ..) ..).setBit ..).updSetl ..

theorem periodResults (h : s.Canonical) (accts : List Acct) (gone : List Nat) (unmet : Bool) :
    (s.periodResults accts gone unmet).Canonical :=
  .updSetl (.foldl (.foldl (.ite ((((((h.liveFlag ..).liveFlag ..).wr ..).wr ..).wr ..).bumpFree)
      (((((h.liveFlag ..).liveFlag ..).wr ..).wr ..).wr ..)) (fun _ _ ht => ht.wr ..) ..) (fun _ _ ht => ht.wr ..) ..) ..

theorem periodDeps (h : s.Canonical) (first : Bool) (accts : List Acct) (gone : List Nat) :
    (s.periodDeps first accts gone).Canonical :=
  h.queueDeps ..

theorem setlPeriod (h : s.Canonical) : s.setlPeriod.Canonical :=
  .makeTable (.periodDeps (.periodResults (.busStep (.wr (.ite (.contEnter (.contExit (.ite ((h.setBit ..).irq ..) h)))
      (.contExit (.ite ((h.setBit ..).irq ..) h))) ..)) ..) ..) ..

theorem setlCtrlWrite (h : s.Canonical) (init : Nat) (data : Word) : (setlCtrlWrite init data s).Canonical :=
  .respond (.ite (((((h.setBit ..).wr ..).setBit ..).updSetl ..).setlPeriod) (h.setBit ..)) ..

theorem vbusWrite (h : s.Canonical) (init : Nat) (data : Word) : (vbusWrite init data s).Canonical := (h.plainWrite ..).updSetl ..

theorem integWrite (h : s.Canonical) (init : Nat) (data : Word) : (integWrite init data s).Canonical :=
  .ite (h.respond ..) (h.plainWrite ..)

theorem acctCfgWrite (h : s.Canonical) (init k : Nat) (data : Word) : (acctCfgWrite init k data s).Canonical :=
  .ite (h.plainWrite ..) (.ite ((h.plainWrite ..).updSetl ..) ((h.plainWrite ..).updSetl ..))

theorem contctlWrite (h : s.Canonical) (init : Nat) (data : Word) : (contctlWrite init data s).Canonical :=
  .ite (.respond (.ite h (h.updSetl ..)) ..) (.ite (.ite ((h.setBit ..).errorResp ..) ((h.updSetl ..).respond ..))
      (h.respond ..))

theorem setlWipe (h : s.Canonical) : s.setlWipe.Canonical := h.frame

/-! ### Mppt -/

theorem updMp (h : s.Canonical) (f : MpEng → MpEng) : (s.updMp f).Canonical := h.frame

theorem updMpc (h : s.Canonical) (m : Nat) (f : MpChan → MpChan) : (s.updMpc m f).Canonical := h.updMp ..

theorem mpRefresh (h : s.Canonical) (m : Nat) : (s.mpRefresh m).Canonical := (h.setFld ..).setFld ..

theorem mpDeposit (h : s.Canonical) (m : Nat) (stale : Bool) : (s.mpDeposit m stale).Canonical := h.queueDeps ..

theorem mpDue (h : s.Canonical) (m : Nat) : (s.mpDue m).Canonical := .ite (h.updMp ..) h

theorem scanStart (h : s.Canonical) (dep : Nat → Bool) : (s.scanStart dep).Canonical := by
  unfold State.scanStart
  split
  · exact .ite ((((((h.updMp ..).updMpc ..).wr ..).setFld ..).mpRefresh ..).mpDeposit ..)
        (((((h.updMp ..).updMpc ..).wr ..).setFld ..).mpRefresh ..)
  · exact h

theorem setPavail (h : s.Canonical) (m : Nat) (p : Int) : (s.setPavail m p).Canonical := .ite (h.wr ..) ((h.wr ..).bumpFree)

theorem slope (h : s.Canonical) (dP dV : Int) : (s.slope dP dV).1.Canonical := .iteFst h.bumpFree h

theorem trackStep (h : s.Canonical) (m : Nat) (v i p : Int) (secs : Nat) : (s.trackStep m v i p secs).Canonical := by
  unfold State.trackStep
  extract_lets _ _ _ _ _ q _ _ _ _ s1 s2 s3
  have hq : q.1.Canonical := .iteFst h (h.slope ..)
  have hs1 : s1.Canonical := (hq.wr ..).updMpc ..
  have hs2 : s2.Canonical := .ite (hs1.irq ..) hs1
  have hs3 : s3.Canonical := hs2.setPavail ..
  exact .ite (hs3.mpDue ..) hs3

theorem scanEnd (h : s.Canonical) (m : Nat) (b : MpPoint) : (s.scanEnd m b).Canonical :=
  (((((h.updMp ..).updMpc ..).wr ..).setPavail ..).irq ..).setFld ..

theorem scanStep (h : s.Canonical) (m : Nat) (v i p : Int) : (s.scanStep m v i p).Canonical :=
  .ite (h.updMpc ..) (.ite (h.scanEnd ..) (((h.updMpc ..).setFld ..).wr ..))

theorem nextScan (h : s.Canonical) (m secs : Nat) : (s.nextScan m secs).Canonical := .ite (h.setFld ..) ((h.setFld ..).bumpFree)

theorem mpMove (h : s.Canonical) (m secs : Nat) (wasHold : Bool) : (s.mpMove m secs wasHold).Canonical :=
  .ite ((h.setBit ..).irq ..) (.ite (h.updMpc ..) (.ite ((h.updMpc ..).updMpc ..)
      (.ite ((h.updMpc ..).scanStep ..) ((h.updMpc ..).trackStep ..))))

theorem mpCtrlWrite (h : s.Canonical) (init m : Nat) (data : Word) : (mpCtrlWrite init m data s).Canonical :=
  .respond (.mpRefresh (.ite ((((((h.setBit ..).wr ..).wr ..).updMpc ..).mpDue ..).scanStart ..)
      (.ite ((((h.setBit ..).updMp ..).frame).scanStart ..) (h.setBit ..))) ..) ..

theorem iinWrite (h : s.Canonical) (init m : Nat) (data : Word) : (iinWrite init m data s).Canonical :=
  .ite ((h.plainWrite ..).updMpc ..) (h.plainWrite ..)

theorem scanreqWrite (h : s.Canonical) (init m : Nat) (data : Word) : (scanreqWrite init m data s).Canonical :=
  .respond (.ite (((h.mpDue ..).scanStart ..).mpRefresh ..) h) ..

theorem mpCfgWrite (h : s.Canonical) (init m off : Nat) (data : Word) : (mpCfgWrite init m off data s).Canonical :=
  .ite (h.errorResp ..) (h.plainWrite ..)

theorem mpRangeWrite (h : s.Canonical) (init m off : Nat) (data : Word) : (mpRangeWrite init m off data s).Canonical :=
  .ite (h.errorResp ..) (h.plainWrite ..)

theorem mpWipe (h : s.Canonical) (m : Nat) : (s.mpWipe m).Canonical := (((h.updMpc ..).updMp ..).frame).scanStart ..

/-! ### Grid -/

theorem updGrid (h : s.Canonical) (f : Grid → Grid) : (s.updGrid f).Canonical := h.frame

theorem bumpStep (h : s.Canonical) : s.bumpStep.Canonical := h.frame

theorem syncClear (h : s.Canonical) : s.syncClear.Canonical := .updGrid (.ite ((h.setBit ..).irq ..) h) ..

theorem seqCount (h : s.Canonical) (bad : Bool) : (s.seqCount bad).Canonical := .ite (h.updGrid ..) ((h.setBit ..).updGrid ..)

theorem lockCount (h : s.Canonical) : s.lockCount.Canonical := .ite ((h.updGrid ..).syncClear) ((h.updGrid ..).updGrid ..)

theorem gridSync (h : s.Canonical) : s.gridSync.Canonical :=
  (((((((h.updGrid ..).setBit ..).wr ..).wr ..).wr ..).wr ..).wr ..).seqCount ..

theorem rocofStep (h : s.Canonical) : s.rocofStep.Canonical := .ite (h.updGrid ..) ((h.wr ..).updGrid ..)

theorem vshiftStep (h : s.Canonical) : s.vshiftStep.Canonical := by
  unfold State.vshiftStep
  refine .ite ((h.updGrid ..).wr ..) ?_
  split
  · exact (h.updGrid ..).wr ..
  · exact h.updGrid ..

theorem islCounts (h : s.Canonical) : s.islCounts.Canonical := h.updGrid ..

theorem stageStep (h : s.Canonical) : s.stageStep.Canonical := (h.updGrid ..).wr ..

theorem dipStep (h : s.Canonical) : s.dipStep.Canonical := .ite (h.updGrid ..) (h.updGrid ..)

theorem excurStep (h : s.Canonical) : s.excurStep.Canonical := .ite (((h.updGrid ..).updGrid ..).wr ..) (h.updGrid ..)

theorem enterStep (h : s.Canonical) : s.enterStep.Canonical := h.updGrid ..

theorem probeSum (h : s.Canonical) : s.probeSum.Canonical := .ite (h.updGrid ..) (h.updGrid ..)

theorem probePhase (h : s.Canonical) : s.probePhase.Canonical := h.updGrid ..

theorem raiseTrip (h : s.Canonical) (cause : Nat) : (s.raiseTrip cause).Canonical := .ite h (((h.setBit ..).setFld ..).irq ..)

theorem raiseIsland (h : s.Canonical) (cause : Nat) : (s.raiseIsland cause).Canonical :=
  .ite (h.updGrid ..) ((((h.updGrid ..).setBit ..).setFld ..).irq ..)

theorem curveTrip (h : s.Canonical) : s.curveTrip.Canonical :=
  .ite (.ite (.raiseTrip (.ite (h.raiseTrip ..) h) ..) (.ite (h.raiseTrip ..) h)) h

theorem zoneStep (h : s.Canonical) : s.zoneStep.Canonical :=
  .setFld (.ite (.irq (.curveTrip (.ite (((h.setBit ..).updGrid ..).wr ..) h)) ..)
      (.curveTrip (.ite (((h.setBit ..).updGrid ..).wr ..) h))) ..

theorem gridOutputs (h : s.Canonical) : s.gridOutputs.Canonical :=
  ((((((h.wr ..).wr ..).setBit ..).updGrid ..).wr ..).wr ..).setBit ..

theorem gridDeposit (h : s.Canonical) : s.gridDeposit.Canonical := h.frame.queueDeps ..

theorem gridFinish (h : s.Canonical) : s.gridFinish.Canonical := h.zoneStep.gridOutputs.gridDeposit.bumpStep

theorem tableCopy (h : s.Canonical) : s.tableCopy.Canonical :=
  .ite (.ite ((((((h.foldl (fun _ _ ht => ht.wr ..) ..).wr ..).updGrid ..).setBit ..).setFld ..).bumpFree)
      (((((h.foldl (fun _ _ ht => ht.wr ..) ..).wr ..).updGrid ..).setBit ..).setFld ..)) h

theorem flagClears (h : s.Canonical) : s.flagClears.Canonical :=
  .updGrid (.ite (.setBit (.ite (h.setBit ..) h) ..) (.ite (h.setBit ..) h)) ..

theorem stepTime (h : s.Canonical) : s.stepTime.Canonical :=
  h.lockCount.rocofStep.vshiftStep.islCounts.stageStep.excurStep.enterStep

theorem freshStep (h : s.Canonical) (age : Nat) : (s.freshStep age).Canonical :=
  (((((((h.setBit ..).updGrid ..).gridSync).dipStep).stepTime).probeSum).probePhase).gridFinish

theorem staleStep (h : s.Canonical) : s.staleStep.Canonical :=
  .ite ((((((h.updGrid ..).wr ..).stepTime).probePhase).curveTrip).gridFinish)
      ((((((h.updGrid ..).wr ..).stepTime).probePhase).gridDeposit).bumpStep)

theorem gridStep (h : s.Canonical) (age : Nat) : (s.gridStep age).Canonical :=
  .ite (.freshStep (.wr (.flagClears (.tableCopy (.ite (h.setBit ..) h))) ..) ..)
      (.staleStep (.wr (.flagClears (.tableCopy (.ite (h.setBit ..) h))) ..))

theorem icWrite (h : s.Canonical) (init : Nat) (data : Word) : (icWrite init data s).Canonical := (h.plainWrite ..).updGrid ..

theorem gsyncCtrlWrite (h : s.Canonical) (init : Nat) (data : Word) (age : Nat) : (gsyncCtrlWrite init data age s).Canonical :=
  .ite (.ite (h.errorResp ..) (.ite (h.respond ..) ((((((h.setBit ..).setFld ..).wr ..).frame).gridStep ..).respond ..)))
      ((((((h.setBit ..).setBit ..).updGrid ..).wr ..).wr ..).respond ..)

theorem gfrtClrWrite (h : s.Canonical) (init : Nat) (data : Word) : (gfrtClrWrite init data s).Canonical :=
  .ite (h.respond ..) (.ite ((h.updGrid ..).respond ..) (((h.setBit ..).irq ..).errorResp ..))

theorem gislClrWrite (h : s.Canonical) (init : Nat) (data : Word) : (gislClrWrite init data s).Canonical :=
  .ite (h.respond ..) (.ite ((h.updGrid ..).respond ..) (((h.setBit ..).irq ..).errorResp ..))

theorem tableApplyWrite (h : s.Canonical) (init : Nat) (data : Word) : (tableApplyWrite init data s).Canonical :=
  .ite (h.respond ..) (.ite (((h.updGrid ..).setBit ..).respond ..) ((h.setFld ..).errorResp ..))

theorem gsyncCfgWrite (h : s.Canonical) (init : Nat) (data : Word) : (gsyncCfgWrite init data s).Canonical :=
  .ite (h.plainWrite ..) (h.errorResp ..)

theorem gfrtCfgWrite (h : s.Canonical) (init : Nat) (data : Word) : (gfrtCfgWrite init data s).Canonical :=
  .ite (h.errorResp ..) (h.plainWrite ..)

theorem gfrtBandWrite (h : s.Canonical) (init off : Nat) (data : Word) : (gfrtBandWrite init off data s).Canonical :=
  .ite (h.errorResp ..) (h.plainWrite ..)

theorem probecfgWrite (h : s.Canonical) (init : Nat) (data : Word) : (probecfgWrite init data s).Canonical :=
  .ite (h.plainWrite ..) (h.errorResp ..)

theorem pwinWrite (h : s.Canonical) (init : Nat) (data : Word) : (pwinWrite init data s).Canonical :=
  .ite (h.errorResp ..) (h.plainWrite ..)

theorem gridWipe (h : s.Canonical) (i : Nat) : (s.gridWipe i).Canonical :=
  .ite ((((h.updGrid ..).frame).wr ..).wr ..) (.ite (h.updGrid ..) (.ite (h.updGrid ..) (h.updGrid ..)))

/-! ### SafetyUnit -/

theorem updSup (h : s.Canonical) (f : SafetyUnit → SafetyUnit) : (s.updSup f).Canonical := h.frame

theorem updK (h : s.Canonical) (n : Nat) (f : Contactor → Contactor) : (s.updK n f).Canonical := h.updSup ..

theorem updLock (h : s.Canonical) (p : Nat) (f : CableLock → CableLock) : (s.updLock p f).Canonical := h.updSup ..

theorem curfewSwitch (h : s.Canonical) (n : Nat) : (s.curfewSwitch n).Canonical := h.updK ..

theorem settleSafety (h : s.Canonical) : s.settleSafety.Canonical := by
  unfold State.settleSafety
  extract_lets s1
  have hs1 : s1.Canonical := h.foldl (fun _ _ ht => ht.curfewSwitch ..) ..
  exact .ite (.ite hs1 hs1.assertVeto) hs1.frame

theorem enterSt (h : s.Canonical) (st : Nat) : (s.enterSt st).Canonical := .ite h ((h.updSup ..).irq ..)

theorem openK (h : s.Canonical) (n : Nat) : (s.openK n).Canonical := .ite (h.updK ..) h

theorem stopK (h : s.Canonical) (n : Nat) : (s.stopK n).Canonical := (h.openK ..).updK ..

theorem faultK (h : s.Canonical) (n code : Nat) : (s.faultK n code).Canonical := (h.updK ..).irq ..

theorem lockdown (h : s.Canonical) : s.lockdown.Canonical :=
  .ite h (((((h.updSup ..).enterSt ..).foldl (fun _ _ ht => ht.openK ..) ..).updSup ..).settleSafety)

theorem orderedOpen (h : s.Canonical) (mask : Nat) : (s.orderedOpen mask).Canonical :=
  h.foldl (fun _ _ ht => .ite (ht.updK ..) ht) ..

theorem enterDusk (h : s.Canonical) (code : Nat) : (s.enterDusk code).Canonical :=
  .ite h (((h.frame.wr ..).updSup ..).settleSafety)

theorem endDusk (h : s.Canonical) : s.endDusk.Canonical :=
  .settleSafety (.ite (((h.frame.setBit ..).updSup ..).enterSt ..) ((h.frame.setBit ..).updSup ..))

theorem resetOpening (h : s.Canonical) : s.resetOpening.Canonical := .ite ((h.orderedOpen ..).enterSt ..) h

theorem latchManual (h : s.Canonical) (lv : Nat) : (s.latchManual lv).Canonical := h.updSup ..

theorem discStep (h : s.Canonical) (f : Nat) : (s.discStep f).Canonical := .ite h (.ite (h.updSup ..) (.ite (h.updSup ..) h))

theorem openedK (h : s.Canonical) (n : Nat) : (s.openedK n).Canonical := h.updK ..

theorem cycleK (h : s.Canonical) (n : Nat) : (s.cycleK n).Canonical := by
  unfold State.cycleK
  refine .ite (.ite (h.updK ..) ?_) (.ite (h.openedK ..) h)
  split
  · exact .ite (h.updK ..) h
  · exact .ite (h.updK ..) (h.updK ..)

theorem readbackK (h : s.Canonical) (n : Nat) : (s.readbackK n).Canonical := .ite h (.ite (h.faultK ..) (.ite (h.faultK ..) h))

theorem moveLock (h : s.Canonical) (p dir : Nat) : (s.moveLock p dir).Canonical := h.updLock ..

theorem duskLock (h : s.Canonical) (p : Nat) : (s.duskLock p).Canonical := .ite ((h.moveLock ..).updLock ..) h

theorem takeDusk (h : s.Canonical) : s.takeDusk.Canonical := .ite (((h.updSup ..).enterSt ..).orderedOpen ..) (h.updSup ..)

theorem takeDemands (h : s.Canonical) : s.takeDemands.Canonical := by
  unfold State.takeDemands
  extract_lets _ _ _ _ _ _ s1 s2 s3
  have hs1 : s1.Canonical := (h.foldl (fun _ _ ht => ht.openK ..) ..).foldl (fun _ _ ht => ht.stopK ..) ..
  have hs2 : s2.Canonical := hs1.updSup ..
  have hs3 : s3.Canonical := .ite hs2 (hs2.irq ..)
  exact .ite (.ite (hs3.enterSt ..) hs3) (.ite ((hs3.updSup ..).enterSt ..) (.ite (hs3.updSup ..) hs3))

theorem markOrdered (h : s.Canonical) : s.markOrdered.Canonical := h.updSup ..

theorem smbxReply (h : s.Canonical) (status : Nat) (data : Word) : (s.smbxReply status data).Canonical :=
  ((((h.wr ..).wr ..).setBit ..).irq ..).updSup ..

theorem takeSmbx (h : s.Canonical) : s.takeSmbx.Canonical := .ite (.ite (h.updSup ..) (h.smbxReply ..)) h

/-! ### SafetyMailbox -/

theorem activateSet (h : s.Canonical) (ws : List Word) : (s.activateSet ws).Canonical :=
  (((((h.updSup ..).foldl (fun _ _ ht => .ite (ht.claimPc ..) (ht.unclaimPc ..)) ..).latchManual ..).latchManual ..).enterSt
      ..).settleSafety

theorem smbxCmdWrite (h : s.Canonical) (init : Nat) (data : Word) : (smbxCmdWrite init data s).Canonical :=
  .ite (h.errorResp ..) ((((h.wr ..).setBit ..).updSup ..).respond ..)

theorem notInDusk (h : s.Canonical) {f : Nat → Word → State → State × Nat × Word}
    (hf : ∀ x y t, t.Canonical → (f x y t).1.Canonical) (arg : Nat) (d : Word) :
    (notInDusk f arg d s).1.Canonical :=
  .iteFst h (hf _ _ _ h)

theorem vetoRelease (h : s.Canonical) (hbUs : Nat) : (vetoRelease hbUs s).1.Canonical :=
  .iteFst h (.iteFst h (.iteFst h (.iteFst h (.iteFst h (((h.frame.setFld ..).setBit ..).enterSt ..)))))

theorem halt (h : s.Canonical) : (halt s).1.Canonical := by
  unfold Machine.halt
  dsimp only
  exact orderedOpen (.ite ((h.updSup ..).enterSt ..) h) _

theorem closeCmd (h : s.Canonical) (m : Nat) : (closeCmd m s).1.Canonical := by
  unfold Machine.closeCmd
  extract_lets js s1
  have hs1 : s1.Canonical := h.foldl (fun _ _ ht => .ite (ht.faultK ..) (.ite (ht.updK ..) ht)) _
  exact .iteFst h (.iteFst h hs1)

theorem openCmd (h : s.Canonical) (m : Nat) : (openCmd m s).1.Canonical := .iteFst h (h.orderedOpen ..)

theorem lockCmd (h : s.Canonical) (arg dir : Nat) : (lockCmd arg dir s).1.Canonical :=
  .iteFst h (.iteFst h (.iteFst h (h.moveLock ..)))

theorem paramBegin (h : s.Canonical) : (paramBegin s).1.Canonical := .iteFst h (h.updSup ..)

theorem paramWrite (h : s.Canonical) (arg : Nat) (d : Word) : (paramWrite arg d s).1.Canonical := by
  unfold Machine.paramWrite
  split
  · exact h
  · exact .iteFst h (h.updSup ..)

theorem paramCheckCmd (h : s.Canonical) : (paramCheckCmd s).1.Canonical := by
  unfold Machine.paramCheckCmd
  split
  · exact h
  · split
    · exact h.updSup ..
    · exact h.updSup ..

theorem paramConfirm (h : s.Canonical) (d : Word) : (paramConfirm d s).1.Canonical := by
  unfold Machine.paramConfirm
  split
  · exact h
  · exact .iteFst h (.iteFst h (.iteFst h ((h.updSup ..).activateSet ..)))

theorem paramAbort (h : s.Canonical) : (paramAbort s).1.Canonical := .iteFst h (h.updSup ..)

theorem readParam (h : s.Canonical) (arg : Nat) : (readParam arg s).1.Canonical := .iteFst h h

theorem updConn (h : s.Canonical) (c : Nat) (f : SafeConn → SafeConn) : (s.updConn c f).Canonical := h.updSup ..

theorem connFault (h : s.Canonical) (c cause : Nat) : (s.connFault c cause).Canonical := (h.updConn ..).irq ..

theorem evalFrame (h : s.Canonical) (c : Nat) (bs : List Byte) : (s.evalFrame c bs).Canonical :=
  .ite h (.ite (h.connFault ..) (.ite (.ite (h.updConn ..) (.ite h (h.connFault ..))) (h.updConn ..)))

theorem rxctlWrite (h : s.Canonical) (init : Nat) (data : Word) : (rxctlWrite init data s).Canonical :=
  .ite (h.respond ..) (.ite (h.errorResp ..) ((h.updSup ..).respond ..))

/-! ### Reset -/

theorem keptRegs_wf (h : s.Canonical) : Regs.wf (keptRegs s) = true := by
  have hput {l : List (Nat × Word)} (hl : Regs.wf l = true) (a : Nat) (v : Word) :
      Regs.wf (Store.put (resetOf a) l a v) = true := Store.wf_put resetOf l a v hl
  exact hput (hput (hput (Store.wf_filter resetOf s.regs _ h.regs_wf) ..) ..) ..

theorem dieReset (h : s.Canonical) : s.dieReset.Canonical :=
  (canonical_iff _).2 ⟨Store.wf_filter memDefault s.mem _ h.mem_wf, h.keptRegs_wf⟩

theorem debugLost (h : s.Canonical) : s.debugLost.Canonical := h.frame.setBit ..

theorem systemReset (h : s.Canonical) (endsDusk debugLoss : Bool) : (s.systemReset endsDusk debugLoss).Canonical := by
  unfold State.systemReset
  extract_lets s1 _ _ s3 s4 s5
  have hs1 : s1.Canonical := .ite h h.resetOpening
  have hs3 : s3.Canonical := .dieReset (.ite hs1.frame hs1.frame.assertVeto)
  have hs4 : s4.Canonical := (hs3.setBit ..).setBit ..
  have hs5 : s5.Canonical := .ite hs4.debugLost hs4
  exact .ite hs5.endDusk hs5

theorem powerOnReset (h : s.Canonical) : s.powerOnReset.Canonical :=
  have hdie : (if s.rst.veto then s else s.assertVeto).dieReset.Canonical := .dieReset (.ite h h.assertVeto)
  (canonical_iff _).2 ⟨hdie.mem_wf, rfl⟩

theorem coreResetHart (h : s.Canonical) (i code : Nat) : (s.coreResetHart i code).Canonical :=
  ((h.updClerk ..).updChecker ..).frame

theorem coreReset (h : s.Canonical) (code : Nat) : (s.coreReset code).Canonical :=
  h.foldl (fun _ _ ht => .ite (ht.coreResetHart ..) ht) ..

theorem enterLevel (h : s.Canonical) (l : RLevel) (codes : List Nat) : (s.enterLevel l codes).Canonical := by
  unfold State.enterLevel
  split
  · exact h.powerOnReset
  · exact h.systemReset ..
  · exact h.foldl (fun _ _ ht => ht.coreReset ..) ..

theorem resetArrive (h : s.Canonical) (codes : List Nat) : (s.resetArrive codes).Canonical := by
  unfold State.resetArrive
  extract_lets _
  split
  · exact h
  · exact .frame (.ite ((h.enterLevel ..).wr ..) (h.enterLevel ..))

theorem bankLost (h : s.Canonical) (rail : Nat) : (s.bankLost rail).Canonical := .ite h.frame h

theorem railReaction (h : s.Canonical) (rail : Nat) : (s.railReaction rail).Canonical :=
  .ite (h.resetArrive ..) (.ite ((h.irq ..).auxVdrv ..) (.ite (h.irq ..)
      (.ite (h.resetArrive ..) (.ite (h.resetArrive ..) (.ite (h.resetArrive ..) (.ite (h.irq ..) h))))))

theorem rstreqWrite (h : s.Canonical) (init : Nat) (data : Word) : (rstreqWrite init data s).Canonical := by
  unfold Machine.rstreqWrite
  split
  · exact h.errorResp ..
  · exact (h.respond ..).resetArrive ..

theorem wdKick (h : s.Canonical) : s.wdKick.Canonical := h.frame

theorem wdogKickWrite (h : s.Canonical) (init : Nat) (data : Word) : (wdogKickWrite init data s).Canonical :=
  .respond (.ite h.wdKick h) ..

/-! ### Dawn -/

theorem fuseLoad (h : s.Canonical) : s.fuseLoad.Canonical := h.frame

theorem sweepFlag (h : s.Canonical) : s.sweepFlag.Canonical := (h.setBit ..).irq ..

theorem sweepConv (h : s.Canonical) (fail : List Nat) : (s.sweepConv fail).Canonical :=
  ((h.foldl (fun _ _ ht => (ht.sweepFlag.setBit ..).setSpares ..) ..).foldl (fun _ _ ht => (ht.setFld ..).setFld ..) ..).frame

theorem sweepTel (h : s.Canonical) (fail : List Nat) : (s.sweepTel fail).Canonical :=
  ((((h.foldl (fun _ _ ht => (ht.markTeller ..).setBit ..) ..).foldl (fun _ _ ht => (ht.setFld ..).setFld ..) ..).foldl
      (fun _ _ ht => ht.unserve ..) ..).updTel ..).spareRefresh

theorem sweepChk (h : s.Canonical) (fail : List Nat) : (s.sweepChk fail).Canonical :=
  h.foldl (fun _ _ ht => .ite (((ht.foldl (fun _ _ hu => (hu.retireChecker ..).setBit ..) ..).updChecker ..).setBit ..)
      ((ht.foldl (fun _ _ hu => (hu.retireChecker ..).setBit ..) ..).updChecker ..)) ..

theorem bootStat (h : s.Canonical) (code keySlot secVer firstFail : Nat) (secondary : Bool) :
    (s.bootStat code keySlot secVer firstFail secondary).Canonical :=
  h.wr ..

theorem bootStop (h : s.Canonical) (code : Nat) : (s.bootStop code).Canonical := (h.bootStat ..).frame

theorem bootStart (h : s.Canonical) : s.bootStart.Canonical :=
  .ite ((h.bootStat ..).bootStop ..) (.ite ((h.bootStat ..).bootStop ..) (((h.bootStat ..).wdKick).frame))

theorem bootAccept (h : s.Canonical) (i : List Byte) : (s.bootAccept i).Canonical :=
  (((((h.bootStat ..).wdKick).updClerk ..).updClerk ..).bumpFrees ..).frame

theorem bootFail (h : s.Canonical) (code : Nat) : (s.bootFail code).Canonical := .ite h.wdKick.frame ((h.bootStat ..).frame)

/-! ### Jtag -/

theorem updJtag (h : s.Canonical) (f : Jtag → Jtag) : (s.updJtag f).Canonical := h.frame

theorem selectIr (h : s.Canonical) (ir dr : Nat) : (s.selectIr ir dr).Canonical := .updJtag (.ite (h.resetArrive ..) h) ..

theorem bypass (h : s.Canonical) : s.bypass.Canonical := h.selectIr ..

theorem dmcontrol (h : s.Canonical) (data : Word) : (s.dmcontrol data).Canonical :=
  .ite (h.updJtag ..) (.ite (h.updJtag ..) (.ite ((h.updJtag ..).updClerk ..)
      (.ite (((h.updJtag ..).updClerk ..).updJtag ..) (h.updJtag ..))))

theorem dbgWrite (h : s.Canonical) (i regno : Nat) (v : Word) : (s.dbgWrite i regno v).Canonical :=
  .ite (h.updClerk ..) (.ite (h.updClerk ..) (.ite (h.updClerk ..)
      (.ite (h.updClerk ..) (.ite (.ite (h.updJtag ..) h) (.ite (h.updJtag ..) (.ite (h.updJtag ..) h))))))

theorem dmCommand (h : s.Canonical) (data : Word) : (s.dmCommand data).Canonical :=
  .ite h (.ite (h.updJtag ..) (.ite (h.updJtag ..) (.ite h (.ite (h.dbgWrite ..) ((h.updJtag ..).bumpFree)))))

theorem sbAccess (h : s.Canonical) (write : Bool) (cycle : Nat) : (s.sbAccess write cycle).Canonical :=
  .ite (h.updJtag ..) (.ite h (.ite (h.updJtag ..) (.ite (h.updJtag ..) ((h.issue ..).updJtag ..))))

theorem dmWrite (h : s.Canonical) (addr : Nat) (data : Word) (cycle : Nat) : (s.dmWrite addr data cycle).Canonical :=
  .ite (h.dmcontrol ..) (.ite h (.ite (h.updJtag ..) (.ite (h.updJtag ..)
      (.ite (h.dmCommand ..) (.ite (h.updJtag ..) (.ite (.ite ((h.updJtag ..).sbAccess ..) (h.updJtag ..))
      (.ite ((h.updJtag ..).sbAccess ..) h)))))))

theorem dmRead (h : s.Canonical) (addr cycle : Nat) : (s.dmRead addr cycle).1.Canonical :=
  .iteFst h (.iteFst h (.iteFst h.bumpFree (.iteFst h (.iteFst h
      (.iteFst h (.iteFst (.ite (h.sbAccess ..) h) (.iteFst h h)))))))

/-! ### MeloRec -/

theorem mwr (h : s.Canonical) (a : Nat) (v : Word) : (s.mwr a v).Canonical := h.frame

theorem mset (h : s.Canonical) (a hi lo v : Nat) : (s.mset a hi lo v).Canonical := h.mwr ..

theorem elapse (h : s.Canonical) (dt : Nat) : (s.elapse dt).Canonical := h.frame

theorem signTail (h : s.Canonical) : s.signTail.Canonical := h.frame

theorem event (h : s.Canonical) (code : Nat) (data : List Byte) : (s.event code data).Canonical := h.frame

theorem nwRecord (h : s.Canonical) (e : NwEvent) : (s.nwRecord e).Canonical := h.frame

theorem closeHead (h : s.Canonical) (p status t : Nat) (valid : Bool) (legal : List Nat) :
    (s.closeHead p status t valid legal).Canonical := by
  unfold State.closeHead
  split
  · exact h
  · exact h.frame

theorem closeAll (h : s.Canonical) : s.closeAll.Canonical := h.foldl (fun _ _ ht => ht.closeHead ..) ..

theorem newIvl (h : s.Canonical) (sec q : Nat) : (s.newIvl sec q).Canonical := h.frame

theorem closeIvl (h : s.Canonical) (b : Nat) : (s.closeIvl b).Canonical := h.frame.newIvl ..

theorem measureVst (h : s.Canonical) (mv : Nat) : (s.measureVst mv).Canonical := ((h.mset ..).mwr ..).mset ..

theorem nwCounts (h : s.Canonical) : s.nwCounts.Canonical := (h.mset ..).mset ..

theorem nwPush (h : s.Canonical) (e : NwEvent) : (s.nwPush e).Canonical := .nwCounts (.frame (.ite (h.mset ..) h))

theorem nwQueue (h : s.Canonical) (code : Nat) (data : List Byte) : (s.nwQueue code data).Canonical := .ite (h.nwPush ..) h

theorem commitQueue (h : s.Canonical) : s.commitQueue.Canonical := by
  unfold State.commitQueue
  split
  · exact h
  · exact h.frame

theorem nwCommit (h : s.Canonical) (mv : Nat) : (s.nwCommit mv).Canonical :=
  .ite (.ite (((h.measureVst ..).frame).nwCounts) (((h.measureVst ..).commitQueue).nwCounts)) h

/-! ### MeterFilter -/

theorem filtered (h : s.Canonical) (mods : List (List Word)) : (s.filtered mods).Canonical := h.frame

/-! ### Meter -/

theorem pulseKick (h : s.Canonical) (n : Nat) : (s.pulseKick n).Canonical := .ite h.frame h

theorem pulseAdd (h : s.Canonical) (n dir q : Nat) : (s.pulseAdd n dir q).Canonical :=
  .ite (.ite (((h.frame.pulseKick ..).frame).mset ..) (h.frame.pulseKick ..)) h

theorem acSample (h : s.Canonical) : s.acSample.Canonical := h.frame

theorem dcSample (h : s.Canonical) (p : Nat) : (s.dcSample p).Canonical := .ite (h.frame.frame.pulseAdd ..) h.frame

theorem markClips (h : s.Canonical) (mask : Nat) : (s.markClips mask).Canonical := h.frame

theorem closeCycle (h : s.Canonical) : s.closeCycle.Canonical := .ite h.frame (h.frame.pulseAdd ..)

theorem nextCycle (h : s.Canonical) (y0 y1 : Word) : (s.nextCycle y0 y1).Canonical := h.closeCycle.frame.mset ..

theorem acSegments (h : s.Canonical) (n : Nat) (ii : List Nat) : (s.acSegments n ii).Canonical := h.frame

theorem dcSegments (h : s.Canonical) (n : Nat) : (s.dcSegments n).Canonical := h.frame

theorem phaseResults (h : s.Canonical) (n x : Nat) (a : AcSum) (g2 : List (List Nat)) : (s.phaseResults n x a g2).Canonical :=
  ((((((h.mwr ..).mwr ..).mwr ..).mwr ..).mwr ..).mset ..).mwr ..

theorem totalResults (h : s.Canonical) (n neutral : Nat) (g : List Nat) : (s.totalResults n neutral g).Canonical :=
  (((((h.mwr ..).mwr ..).mwr ..).mwr ..).mset ..).mwr ..

theorem harmResults (h : s.Canonical) (c : Nat) (g : List Nat) : (s.harmResults c g).Canonical :=
  h.foldl (fun _ _ ht => ht.mwr ..) ..

theorem blockFlags (h : s.Canonical) (actMask ovrMask : Nat) : (s.blockFlags actMask ovrMask).Canonical :=
  (((h.mset ..).mwr ..).mwr ..).frame

theorem acBlock (h : s.Canonical) : s.acBlock.Canonical :=
  ((((((h.foldl (fun _ _ ht => ht.phaseResults ..) ..).totalResults ..).foldl (fun _ _ ht => ht.harmResults ..) ..).mset
      ..).blockFlags ..).acSegments ..).frame

theorem dcResults (h : s.Canonical) (n p : Nat) : (s.dcResults n p).Canonical := (((h.mwr ..).mwr ..).mwr ..).mwr ..

theorem dcBlock (h : s.Canonical) : s.dcBlock.Canonical :=
  (((h.foldl (fun _ _ ht => ht.dcResults ..) ..).blockFlags ..).dcSegments ..).frame

theorem endBlocks (h : s.Canonical) : s.endBlocks.Canonical := .ite (.dcBlock (.ite h.acBlock h)) (.ite h.acBlock h)

theorem commit (h : s.Canonical) (ok : Bool) : (s.commit ok).Canonical := h.frame

theorem meterResume (h : s.Canonical) : s.meterResume.Canonical := (h.frame.mset ..).bumpFree

theorem closeLost (h : s.Canonical) : s.closeLost.Canonical := by
  unfold State.closeLost
  refine h.foldl (fun _ _ ht => ?_) ..
  split
  · exact (ht.closeHead ..).signTail
  · exact ht

theorem suspend (h : s.Canonical) : s.suspend.Canonical := ((h.mset ..).frame).event ..

theorem resume (h : s.Canonical) : s.resume.Canonical := ((h.mset ..).foldl (fun _ _ ht => ht.pulseKick ..) ..).event ..

/-! ### Ledger -/

theorem refresh (h : s.Canonical) : s.refresh.Canonical :=
  .ite ((((((h.dropRegs ..).foldl (fun _ _ ht => ht.wr ..) ..).foldl (fun _ _ ht => ht.wr ..) ..).wr ..).setBit ..).frame) h

theorem postOwn (h : s.Canonical) (status : Nat) : (s.postOwn status).Canonical := (((h.wr ..).setBit ..).setBit ..).frame

theorem doorPend (h : s.Canonical) (init : Nat) : (doorPend init s).Canonical :=
  .ite (h.errorResp ..) ((h.frame.setBit ..).respond ..)

theorem doorWrite (h : s.Canonical) (init : Nat) (cancel pend : Bool) : (doorWrite init cancel pend s).Canonical :=
  .ite (h.errorResp ..) (.ite (.doorPend (.ite (h.postOwn ..) h) ..) (.respond (.ite (h.postOwn ..) h) ..))

theorem pollRest (h : s.Canonical) (veto : Bool) : (s.pollRest veto).Canonical :=
  .refresh (.ite (.event (.ite h.frame.closeAll h.frame) ..) (.ite h.frame.closeAll h.frame))

theorem takeCmd (h : s.Canonical) (veto : Bool) : (s.takeCmd veto).Canonical :=
  .ite (h.frame.frame.pollRest ..) (.ite h.frame.frame (h.frame.frame.pollRest ..))

theorem refuse (h : s.Canonical) (status : Nat) : (refuse s status).s.Canonical := h

theorem runAs (h : s.Canonical) {f : List Word → Bool → State → Answer} (hf : ∀ x y t, t.Canonical → (f x y t).s.Canonical)
    (opc : Nat) :
    (s.runAs opc f).Canonical := by
  unfold State.runAs
  split
  · refine .ite ?_ h
    extract_lets a
    have ha : a.s.Canonical := hf _ _ _ h
    split
    · exact ha.frame.pollRest ..
    · exact ha.frame
  · exact h

theorem mbxNop (h : s.Canonical) : (mbxNop s).s.Canonical := h

theorem sessionOpen (h : s.Canonical) (args : List Word) (veto : Bool) : (sessionOpen args veto s).s.Canonical :=
  .iteAnswer (h.refuse ..) (.iteAnswer (h.refuse ..) (.iteAnswer (h.refuse ..)
      (.iteAnswer (h.refuse ..) (.iteAnswer (h.refuse ..) h.frame))))

theorem sessionClose (h : s.Canonical) (args : List Word) : (sessionClose args s).s.Canonical :=
  .iteAnswer (h.refuse ..) (.iteAnswer (h.refuse ..) (h.closeHead ..))

theorem ledgerRead (h : s.Canonical) (args : List Word) : (ledgerRead args s).s.Canonical := .iteAnswer (h.refuse ..) h

theorem ledgerExport (h : s.Canonical) (args : List Word) : (ledgerExport args s).s.Canonical :=
  .iteAnswer (h.refuse ..) (.iteAnswer (h.refuse ..) (.iteAnswer (h.refuse ..) h.frame))

theorem timeSetIvl (h : s.Canonical) (sec : Nat) : (s.timeSetIvl sec).Canonical :=
  .ite (h.frame.newIvl ..) (.ite (h.frame.closeIvl ..) (.ite h.frame h.frame))

theorem timeSet (h : s.Canonical) (args : List Word) : (timeSet args s).s.Canonical :=
  .iteAnswer (h.refuse ..) (((h.timeSetIvl ..).frame).event ..)

theorem commBegin (h : s.Canonical) : (commBegin s).s.Canonical := .iteAnswer (h.refuse ..) (.iteAnswer (h.refuse ..) h.frame)

theorem commWrite (h : s.Canonical) (args : List Word) : (commWrite args s).s.Canonical :=
  .iteAnswer (h.refuse ..) (.iteAnswer (h.refuse ..) h.frame)

theorem applyStaged (h : s.Canonical) (e : Nat × Word) : (s.applyStaged e).Canonical := .ite ((h.mwr ..).frame) (h.mwr ..)

theorem paramRecords (h : s.Canonical) (fuel : Nat) (l : List (Nat × Word × Word)) : (State.paramRecords fuel l s).Canonical := by
  induction fuel generalizing s l with
  | zero => exact h
  | succ fuel ih => exact .ite h (ih (h.event ..) _)

theorem commCommit (h : s.Canonical) (args : List Word) : (commCommit args s).s.Canonical :=
  .iteAnswer (h.refuse ..) (.iteAnswer (h.refuse ..) (.iteAnswer (h.refuse ..)
      (.iteAnswer (h.refuse ..) (((h.foldl (fun _ _ ht => ht.applyStaged ..) ..).frame).paramRecords ..))))

theorem commEnd (h : s.Canonical) (cause : Nat) : (s.commEnd cause).Canonical := h.frame.event ..

theorem commAbort (h : s.Canonical) : (commAbort s).s.Canonical := .iteAnswer (h.commEnd ..) (h.refuse ..)

theorem keyGen (h : s.Canonical) : (keyGen s).s.Canonical := .iteAnswer (h.refuse ..) (h.frame.event ..)

theorem runTaken (h : s.Canonical) : s.runTaken.Canonical :=
  ((((((((((h.runAs (fun _ _ _ ht => ht.mbxNop) ..).runAs (fun _ _ _ ht => ht.sessionOpen ..) ..).runAs
      (fun _ _ _ ht => ht.sessionClose ..) ..).runAs (fun _ _ _ ht => ht.ledgerRead ..) ..).runAs
      (fun _ _ _ ht => ht.ledgerExport ..) ..).runAs (fun _ _ _ ht => ht.timeSet ..) ..).runAs (fun _ _ _ ht => ht.commBegin)
      ..).runAs (fun _ _ _ ht => ht.commWrite ..) ..).runAs (fun _ _ _ ht => ht.commCommit ..) ..).runAs
      (fun _ _ _ ht => ht.commAbort) ..).runAs (fun _ _ _ ht => ht.keyGen) ..

/-! ### Oxernal -/

theorem updLane (h : s.Canonical) (n : Nat) (f : OxLane → OxLane) : (s.updLane n f).Canonical := h.frame

theorem oxEnter (h : s.Canonical) (n st : Nat) : (s.oxEnter n st).Canonical := ((h.setFld ..).setFld ..).updLane ..

theorem oxStart (h : s.Canonical) (n : Nat) : (s.oxStart n).Canonical := (h.oxEnter ..).updLane ..

theorem oxUvLoss (h : s.Canonical) (n : Nat) : (s.oxUvLoss n).Canonical := h.foldl (fun _ _ ht => ht.uvLoss ..) ..

theorem oxLoss (h : s.Canonical) (n st : Nat) : (s.oxLoss n st).Canonical :=
  ((((h.oxEnter ..).count ..).setBit ..).irq ..).oxUvLoss ..

theorem oxLeave (h : s.Canonical) (n st : Nat) : (s.oxLeave n st).Canonical := .ite (h.oxLoss ..) (h.oxEnter ..)

theorem oxCtrlWrite (h : s.Canonical) (init n : Nat) (data : Word) : (oxCtrlWrite init n data s).Canonical :=
  .respond (.ite ((h.setBit ..).oxLeave ..) (.ite ((h.setBit ..).oxStart ..)
      (.ite (.ite ((h.setBit ..).oxEnter ..) ((h.setBit ..).oxLeave ..)) (h.setBit ..)))) ..

theorem oxCfgWrite (h : s.Canonical) (init n : Nat) (data : Word) : (oxCfgWrite init n data s).Canonical :=
  .ite (h.errorResp ..) (h.plainWrite ..)

theorem oxRefuse (h : s.Canonical) (n : Nat) : (s.oxRefuse n).Canonical := (((h.count ..).setBit ..).irq ..).updLane ..

theorem oxSelect (h : s.Canonical) (n vers : Nat) : (s.oxSelect n vers).Canonical :=
  .ite ((((h.oxEnter ..).setBit ..).irq ..).oxUvLoss ..) ((h.updLane ..).oxEnter ..)

theorem oxOffered (h : s.Canonical) (n : Nat) (bytes : List Byte) : (s.oxOffered n bytes).Canonical :=
  .ite (((((h.setFld ..).wr ..).wr ..).updLane ..).oxSelect ..) ((((h.setFld ..).wr ..).wr ..).updLane ..)

theorem oxUp (h : s.Canonical) (n : Nat) : (s.oxUp n).Canonical := (((h.oxEnter ..).irq ..).updLane ..).oxUvLoss ..

theorem oxDrv (h : s.Canonical) (n i d : Nat) : (s.oxDrv n i d).Canonical := .ite ((h.wr ..).irq ..) (h.wr ..)

theorem oxReply (h : s.Canonical) (n : Nat) (bytes : List Byte) : (s.oxReply n bytes).Canonical :=
  .ite ((((h.wr ..).setBit ..).irq ..).updLane ..) h

theorem oxReport (h : s.Canonical) (n : Nat) (bytes : List Byte) : (s.oxReport n bytes).Canonical := by
  unfold State.oxReport
  extract_lets _ _ s1 s2 s3 s4
  have hs1 : s1.Canonical := ((h.setFld ..).wr ..).count ..
  have hs2 : s2.Canonical := .ite (hs1.wr ..) hs1
  have hs3 : s3.Canonical := hs2.foldl (fun _ _ ht => ht.oxDrv ..) _
  have hs4 : s4.Canonical := (hs3.oxReply ..).updLane ..
  exact hs4.clocked (fun _ ht => ht.foldl (fun _ _ hu => hu.uvReport ..) ..) _

theorem sacmdWrite (h : s.Canonical) (init n : Nat) (data : Word) : (sacmdWrite init n data s).Canonical :=
  .ite (h.errorResp ..) (.ite (h.plainWrite ..) (.ite (h.errorResp ..)
      (((((h.plainWrite ..).setBit ..).setFld ..).bumpFree).updLane ..)))

/-! ### Pilot -/

theorem updCp (h : s.Canonical) (n : Nat) (f : Pilot → Pilot) : (s.updCp n f).Canonical := h.frame

theorem cpDrive (h : s.Canonical) (n : Nat) (v : Bool) : (s.cpDrive n v).Canonical := h.frame

theorem cpStart (h : s.Canonical) (n : Nat) : (s.cpStart n).Canonical := h.cpDrive ..

theorem cpCtrlWrite (h : s.Canonical) (init n : Nat) (data : Word) : (cpCtrlWrite init n data s).Canonical :=
  .respond (.ite (((((((h.setBit ..).setBit ..).setFld ..).setBit ..).wr ..).updCp ..).cpStart ..)
      (.ite ((((h.setBit ..).setBit ..).setBit ..).cpDrive ..) (h.setBit ..))) ..

theorem cpPwmcfgWrite (h : s.Canonical) (init n : Nat) (data : Word) : (cpPwmcfgWrite init n data s).Canonical :=
  ((h.plainWrite ..).setBit ..).updCp ..

theorem cpThrWrite (h : s.Canonical) (init n k : Nat) (data : Word) : (cpThrWrite init n k data s).Canonical :=
  .ite (h.errorResp ..) (h.plainWrite ..)

theorem cpMeasure (h : s.Canonical) (n : Nat) (cp pp : List Nat) : (s.cpMeasure n cp pp).Canonical :=
  .ite (.frame (.setBit (.ite (.wr (.ite (h.wr ..) h) ..) (.ite (h.wr ..) h)) ..))
      (.frame (.wr (.wr (.setBit (.ite (.wr (.ite (h.wr ..) h) ..) (.ite (h.wr ..) h)) ..) ..) ..))

theorem cpAction (h : s.Canonical) (n st : Nat) : (s.cpAction n st).Canonical :=
  .ite ((h.clocked (fun _ ht => ht.foldl (fun _ _ hu => .ite (hu.trip ..) hu) ..) ..).irq ..) h

/-! ### Recorder -/

theorem updRec (h : s.Canonical) (f : Recorder → Recorder) : (s.updRec f).Canonical := h.frame

theorem recCtrlWrite (h : s.Canonical) (init : Nat) (data : Word) : (recCtrlWrite init data s).Canonical :=
  .ite (.ite (h.errorResp ..) (((((h.setBit ..).setFld ..).wr ..).updRec ..).respond ..))
      (.ite (h.respond ..) ((((h.setBit ..).setFld ..).updRec ..).respond ..))

theorem recCfgWrite (h : s.Canonical) (init a : Nat) (data : Word) : (recCfgWrite init a data s).Canonical :=
  .ite (h.errorResp ..) (h.plainWrite ..)

theorem recIssue (h : s.Canonical) (a cycle : Nat) (bs : List Byte) (n : Nat) : (s.recIssue a cycle bs n).Canonical := by
  induction n generalizing s a bs with
  | zero => exact h
  | succ n ih => exact ih (h.issue ..) ..

theorem recWrite (h : s.Canonical) (cycle : Nat) : (s.recWrite cycle).Canonical :=
  .ite (((h.frame.count ..).setBit ..).irq ..) ((h.frame.recIssue ..).updRec ..)

theorem recTrigRow (h : s.Canonical) : s.recTrigRow.Canonical := ((((h.wr ..).wr ..).wr ..).wr ..).updRec ..

theorem recTrigger (h : s.Canonical) (events : Nat) : (s.recTrigger events).Canonical :=
  .ite h (.ite ((((h.setFld ..).setFld ..).irq ..).updRec ..) (.ite h (h.count ..)))

theorem trigctlWrite (h : s.Canonical) (init : Nat) (data : Word) : (trigctlWrite init data s).Canonical :=
  .respond (.ite (.bumpFree (.ite (.ite (.setFld (.ite (h.recTrigger ..) h) ..) (.ite (h.recTrigger ..) h))
      (.ite (.recTrigger (.ite (h.setFld ..) h) ..) (.ite (h.setFld ..) h))))
      (.ite (.setFld (.ite (h.recTrigger ..) h) ..) (.ite (h.recTrigger ..) h))) ..

/-! ### Access -/

theorem ctrlApply (h : s.Canonical) (p : PageRow) (i b init : Nat) (data : Word) (tick : Nat) :
    (s.ctrlApply p i b init data tick).Canonical := by
  unfold State.ctrlApply
  refine .ite (h.adpllCtrlWrite ..) (.ite (.ite (.ite ((h.plainWrite ..).fabRefresh) (h.plainWrite ..)) (h.errorResp ..)) ?_)
  split
  · exact h.convCtrlWrite ..
  · exact (h.atTime ..).pwmCtrlWrite ..
  · exact (h.atTime ..).gateCtrlWrite ..
  · exact h.setlCtrlWrite ..
  · exact h.mpCtrlWrite ..
  · exact h.healthCtrlWrite ..
  · exact h.recCtrlWrite ..
  · exact h.uartPlain ..
  · exact (h.plainWrite ..).spiRefresh ..
  · exact h.oxCtrlWrite ..
  · exact h.cpCtrlWrite ..
  · exact h.cmpCtrlWrite ..
  · exact h.cmpCtrlWrite ..
  · exact h.auxCtrlWrite ..
  · exact .ite (h.gsyncCtrlWrite ..) (h.plainWrite ..)

theorem ctrlWrite (h : s.Canonical) (p : PageRow) (i b init : Nat) (data : Word) (tick : Nat) :
    (s.ctrlWrite p i b init data tick).Canonical :=
  (h.ctrlApply ..).takesBalls ..

theorem wipeRegs (h : s.Canonical) (b size statKeep : Nat) (keep : List Nat) : (s.wipeRegs b size statKeep keep).Canonical :=
  (((h.dropRegs ..).wr ..).wr ..).foldl (fun _ _ ht => ht.wr ..) ..

theorem ptpWipe (h : s.Canonical) : s.ptpWipe.Canonical := ((h.dropRegs ..).wr ..).frame

theorem cmpWipe (h : s.Canonical) (n : Nat) : (s.cmpWipe n).Canonical :=
  .ite (.ite (((h.setBit ..).updCmp ..).firstDecision ..) (h.setBit ..)) ((h.updCmp ..).driveLine ..)

theorem tlrWipe (h : s.Canonical) (n : Nat) : (s.tlrWipe n).Canonical :=
  ((((h.updTpos ..).foldl (fun _ _ ht => .ite (ht.disableInst ..) ht) ..).updTpos ..).wipeRegs ..).afterRun ..

theorem telcWipe (h : s.Canonical) : s.telcWipe.Canonical :=
  .wipeRegs (.updTel (.ite (.setBit (.setBit (.ite (h.endRotation.updTel ..) h) ..) ..)
      (.spareRole (.setBit (.setBit (.ite (h.endRotation.updTel ..) h) ..) ..) ..)) ..) ..

theorem adccWipe (h : s.Canonical) : s.adccWipe.Canonical := .wipeRegs (.frame (.ite ((h.endShadow ..).frame) h)) ..

theorem healthWipe (h : s.Canonical) : s.healthWipe.Canonical := (h.updHealth ..).wipeRegs ..

theorem blockWipe (h : s.Canonical) (p : PageRow) (i b : Nat) : (s.blockWipe p i b).Canonical := by
  unfold State.blockWipe
  split
  · exact (h.updPos ..).wipeRegs ..
  · exact h.adccWipe
  · exact h.pwmWipe ..
  · exact (h.wipeRegs ..).frame
  · exact h.tlrWipe ..
  · exact h.telcWipe
  · exact h.setlWipe.wipeRegs ..
  · exact (h.mpWipe ..).wipeRegs ..
  · exact (h.gridWipe ..).wipeRegs ..
  · exact h.healthWipe
  · exact (h.ptpWipe.updMac ..).wipeRegs ..
  · exact (h.updCan ..).wipeRegs ..
  · exact (h.wipeRegs ..).frame
  · exact (h.wipeRegs ..).frame
  · exact (h.updRec ..).wipeRegs ..
  · exact (h.updUart ..).wipeRegs ..
  · exact (h.updSpi ..).wipeRegs ..
  · exact (h.wipeRegs ..).frame
  · exact (h.updLane ..).wipeRegs ..
  · exact (h.updCp ..).wipeRegs ..
  · exact (h.wipeRegs ..).foldl (fun _ _ ht => ht.cmpWipe ..) ..
  · exact (h.wipeRegs ..).foldl (fun _ _ ht => ht.cmpWipe ..) ..
  · exact ((h.updAux ..).wipeRegs ..).wr ..
  · exact h.wipeRegs ..

theorem softReset (h : s.Canonical) (p : PageRow) (i b init : Nat) (data : Word) (tick : Nat) :
    (s.softReset p i b init data tick).Canonical :=
  .ite (h.adpllCtrlWrite ..) (.ite ((h.atTime ..).gateCtrlWrite ..)
      (.ite (h.errorResp ..) ((((h.ctrlWrite ..).blockWipe ..).frame).respond ..)))

theorem blockWrite (h : s.Canonical) (p : PageRow) (i b init o : Nat) (data : Word) (sub tick : Nat) :
    (s.blockWrite p i b init o data sub tick).Canonical := by
  unfold State.blockWrite
  extract_lets _ plain t
  have hplain : plain.Canonical := h.plainWrite ..
  have ht : t.Canonical := h.atTime ..
  split
  · exact .ite (h.testenWrite ..) (.ite (h.verselWrite ..) (.ite (h.dbgopenWrite ..) hplain))
  · exact .ite (h.refcfgWrite ..) (.ite (h.fcwWrite ..) (.ite (h.outCfgWrite ..) hplain))
  · exact .ite (h.watchselWrite ..) hplain
  · exact .ite (h.completeWrite ..) hplain
  · exact .ite (h.entryApply ..) hplain
  · exact .ite (h.swtrigApply ..) (.ite (h.rotcfgApply ..) (.ite (h.tgCfgWrite ..) hplain))
  · exact .ite (ht.liveWrite ..) (.ite (ht.shadowWrite ..)
        (.ite (ht.pwmCfgWrite ..) (.ite (ht.tripcfgWrite ..) (.ite (ht.tripctlWrite ..) hplain))))
  · exact .ite (ht.startWrite ..) (.ite (ht.commitWrite ..) (.ite (ht.pwmcForceWrite ..) hplain))
  · exact .ite (ht.gcfgWrite ..) (.ite (ht.hbcfgWrite ..) (.ite (ht.hbctlWrite ..) hplain))
  · exact .ite (h.fallbackWrite ..) (.ite (h.kickWrite ..)
        (.ite (.ite (h.instCfgWrite ..) (.ite (h.instFieldWrite ..) hplain)) hplain))
  · exact .ite (h.telRotcfgWrite ..) (.ite (h.pgXWrite ..) hplain)
  · exact .ite (h.vbusWrite ..) (.ite (h.integWrite ..) (.ite (h.contctlWrite ..) (.ite (h.acctCfgWrite ..) hplain)))
  · exact .ite (h.iinWrite ..) (.ite (h.scanreqWrite ..) (.ite (h.mpCfgWrite ..) (.ite (h.mpRangeWrite ..) hplain)))
  · exact .ite (h.icWrite ..) (.ite (h.gsyncCfgWrite ..) (.ite (h.gfrtCfgWrite ..)
        (.ite (h.gfrtClrWrite ..) (.ite (h.gfrtBandWrite ..)
        (.ite (h.probecfgWrite ..) (.ite (h.pwinWrite ..) (.ite (h.gislClrWrite ..) (.ite (h.tableApplyWrite ..) hplain))))))))
  · exact .ite (h.logbaseWrite ..) hplain
  · exact .ite (h.anctlWrite ..) (.ite (h.pauseWrite ..) (.ite (h.rxtailWrite ..)
        (.ite (h.cntclrWrite ..) (.ite (h.ptpRateWrite ..)
        (.ite (h.ptpCtlWrite ..) (.ite (h.ppscfgWrite ..) (.ite (h.sakeyWrite ..) ((h.plainWrite ..).respond ..))))))))
  · exact .ite (h.canModeWrite ..) (.ite (h.canTimingWrite ..) hplain)
  · exact .ite (h.icmdWrite ..) hplain
  · exact .ite (h.ddrCfgWrite ..) hplain
  · exact .ite (h.ddrPllWrite ..) (.ite (h.ddrCfgWrite ..) (.ite (h.ddrInitWrite ..) hplain))
  · exact .ite (h.recCfgWrite ..) (.ite (h.trigctlWrite ..) hplain)
  · exact .ite (h.uartTxWrite ..) (.ite (h.uartPlain ..) hplain)
  · exact .ite (h.spiTxWrite ..) (.ite (h.spiCsWrite ..) hplain)
  · exact .ite (h.gpioDir ..) (.ite (h.gpioSet ..) (.ite (h.gpioClr ..) hplain))
  · exact .ite (h.oxCfgWrite ..) (.ite (h.sacmdWrite ..) hplain)
  · exact .ite (h.cpPwmcfgWrite ..) (.ite (h.cpThrWrite ..) hplain)
  · exact .ite (h.rstreqWrite ..) (.ite (h.wdogKickWrite ..) hplain)
  · exact .ite (h.checkWrite ..) (.ite (h.bankCfgWrite ..) (.ite (h.cmpCfgWrite ..) hplain))
  · exact .ite (h.checkWrite ..) (.ite (h.cmpCfgWrite ..) hplain)
  · exact .ite (h.axcfgWrite ..) (.ite (h.axclrWrite ..) hplain)
  · exact .ite (h.smbxCmdWrite ..) (.ite (h.rxctlWrite ..) hplain)
  · exact hplain

theorem pageWrite (h : s.Canonical) (p : PageRow) (i b init a : Nat) (data : Word) (sub tick : Nat) :
    (s.pageWrite p i b init a data sub tick).Canonical :=
  .ite (h.ifverWrite ..) (.ite (.ite (h.softReset ..) (h.ctrlWrite ..))
      (.ite (h.lockWrite ..) (.ite (h.respond ..) (.ite (h.uartPlain ..) (.ite (h.plainWrite ..) (h.blockWrite ..))))))

theorem ledgerWrite (h : s.Canonical) (init a : Nat) (data : Word) : (s.ledgerWrite init a data).Canonical :=
  .ite (h.errorResp ..) (.ite (h.doorWrite ..) (.ite ((h.wr ..).respond ..) (.ite ((h.wr ..).respond ..) (h.respond ..))))

theorem pageRead (h : s.Canonical) (p : PageRow) (i b init a tick : Nat) : (s.pageRead p i b init a tick).Canonical := by
  unfold State.pageRead
  extract_lets _ s
  have hs : s.Canonical := .ite (h.atTime ..) h
  split
  · exact hs.respond ..
  · exact .ite (hs.claimRead ..) (.ite (hs.resultReadApply ..)
        (.ite (.ite (hs.ptpLatch.respond ..) (.ite (hs.tsNsRead ..) (hs.respond ..)))
        (.ite (hs.uartRxRead ..) (.ite (hs.spiRxRead ..) (hs.respond ..)))))

theorem regAccess (h : s.Canonical) (init a len : Nat) (write : Bool) (data : Word) (sub tick : Nat) :
    (s.regAccess init a len write data sub tick).Canonical := by
  unfold State.regAccess
  extract_lets _
  split
  · exact .ite (h.errorResp ..) (.ite (h.pageWrite ..) (h.pageRead ..))
  · exact .ite (h.errorResp ..) (.ite (h.errorResp ..) (.ite (h.ledgerWrite ..) (h.respond ..)))

theorem withReaction (h : s.Canonical) {f : State → State} (hf : ∀ t, t.Canonical → (f t).Canonical) (init a sub : Nat)
    (write dead : Bool) :
    (s.withReaction init a sub write f dead).Canonical :=
  .ite ((hf _ h.frame).frame) (((hf _ h.frame).frame).initiatorReact ..)

theorem runWaiting (h : s.Canonical) (x : Access) : (s.runWaiting x).Canonical :=
  h.access (fun _ ht => .ite (ht.libWrite ..) (ht.withReaction (fun _ hu => hu.regAccess ..) ..)) ..

theorem retryWaiting (h : s.Canonical) : s.retryWaiting.Canonical := h.frame.foldl (fun _ _ ht => ht.runWaiting ..) ..

/-! ### Bus -/

theorem memWrite (h : s.Canonical) (p : Slip) : (s.memWrite p).Canonical :=
  .ite ((h.updTel ..).updSlip ..) (.ite (h.foldl (fun _ _ ht => ht.telStore ..) ..)
      (.ite (.ite (h.errorResp ..) (h.foldl (fun _ _ ht => ht.memStore ..) ..)) (h.foldl (fun _ _ ht => ht.memStore ..) ..)))

theorem memApply (h : s.Canonical) (p : Slip) : (s.memApply p).1.Canonical := by
  unfold State.memApply
  split
  · exact .iteFst (h.memWrite ..) h
  · exact .ite h (h.updClerk ..)
  · exact .updClerk (.ite (h.memWrite ..) h) ..
  · exact h.memWrite ..

theorem sramAccess (h : s.Canonical) (p : Slip) (us cycle : Nat) (ecc : Option EccError) :
    (s.sramAccess p us cycle ecc).1.Canonical :=
  .iteFst (.errorResp (.iteFst (h.eccSpan ..) h) ..) (.memApply (.iteFst (h.eccSpan ..) h) ..)

theorem ddrEcc (h : s.Canonical) (a : Nat) (ecc : Option EccError) : (s.ddrEcc a ecc).1.Canonical := by
  unfold State.ddrEcc
  split
  · exact h
  · exact .iteFst h (.iteFst (((h.count ..).wr ..).irq ..) ((h.count ..).irq ..))

theorem ddrAccess (h : s.Canonical) (p : Slip) (ecc : Option EccError) : (s.ddrAccess p ecc).1.Canonical :=
  .iteFst (h.errorResp ..) (.iteFst (.errorResp (.iteFst (h.ddrEcc ..) h) ..) (.memApply (.iteFst (h.ddrEcc ..) h) ..))

theorem target (h : s.Canonical) (p : Slip) (us cycle tick : Nat) (ecc : Option EccError) :
    (s.target p us cycle tick ecc).1.Canonical :=
  .iteFst (.iteFst (h.errorResp ..) (h.sramAccess ..)) (.iteFst
      (.iteFst (h.errorResp ..) (.iteFst (h.errorResp ..) (.iteFst (h.errorResp ..) (h.memApply ..))))
      (.iteFst (.iteFst (h.errorResp ..) (h.ddrAccess ..))
      (.iteFst (.iteFst (h.errorResp ..) (.iteFst (h.errorResp ..) (h.memApply ..)))
      (.iteFst (h.errorResp ..) (h.regAccess ..)))))

theorem applySlip (h : s.Canonical) (p : Slip) (us cycle target tick : Nat) (events : Word) (ecc : Option EccError) :
    (s.applySlip p us cycle target tick events ecc).Canonical :=
  ((h.frame.target ..).frame).updSlip ..

theorem tcmAccess (h : s.Canonical) (p : Slip) (us : Nat) (ecc : Option EccError) : (s.tcmAccess p us ecc).Canonical :=
  h.withReaction (fun _ ht => .ite ((ht.target ..).respond ..) (ht.target ..)) ..

theorem debugResponse (h : s.Canonical) (p : Slip) : (s.debugResponse p).Canonical := h.updJtag ..

theorem response (h : s.Canonical) (p : Slip) : (s.response p).Canonical := by
  unfold State.response
  extract_lets s1
  have hs1 : s1.Canonical := .ite h (h.initiatorReact ..)
  refine .ite ?_ (.ite (hs1.debugResponse ..) hs1)
  split
  · exact .ite (hs1.setRun ..) hs1
  · exact hs1

theorem dmaServe (h : s.Canonical) : s.dmaServe.Canonical := ((h.rxDrain ..).rxDrain ..).canDrain

end State.Canonical

end Sys2Proof.Machine
end

section
/-!
The canonical forms are kept by every command (R10, R12, R136, R137): each arm of `exec` answers a state in canonical form.
-/
namespace Sys2Proof.Machine

namespace State.Canonical

variable {s : State}

/-! ### Clocks -/

@[simp] theorem execAdpllRefcfgWrite (h : s.Canonical) (init pll : Nat) (data : Word) :
    Out.Canonical (execAdpllRefcfgWrite init pll data s) :=
  .next (h.writeAt (fun _ ht => ht.refcfgWrite ..) ..)

@[simp] theorem execAdpllFcwWrite (h : s.Canonical) (init pll : Nat) (data : Word) :
    Out.Canonical (execAdpllFcwWrite init pll data s) :=
  .next (h.writeAt (fun _ ht => ht.fcwWrite ..) ..)

@[simp] theorem execAdpllSoftReset (h : s.Canonical) (init pll : Nat) (data : Word) :
    Out.Canonical (execAdpllSoftReset init pll data s) :=
  .next (h.writeAt (fun _ ht => ht.adpllCtrlWrite ..) ..)

@[simp] theorem execAdpllLockDeclare (h : s.Canonical) (pll : Nat) (errs : List Int) (trims : List Nat) (worst maxErr : Nat) :
    Out.Canonical (execAdpllLockDeclare pll errs trims worst maxErr s) :=
  .next (.ite (h.lockDeclare ..) h)

@[simp] theorem execAdpllLockLoss (h : s.Canonical) (pll : Nat) (errs : List Int) :
    Out.Canonical (execAdpllLockLoss pll errs s) :=
  .next (.ite ((h.setFld ..).leaveLock ..) h)

@[simp] theorem execReferenceLoss (h : s.Canonical) (pll : Nat) : Out.Canonical (execReferenceLoss pll s) :=
  .next (.ite h (((((h.leaveLock ..).setBit ..).setBit ..).irq ..).setBit ..))

@[simp] theorem execReferenceReturn (h : s.Canonical) (pll : Nat) : Out.Canonical (execReferenceReturn pll s) :=
  .next (.ite (.ite ((h.setBit ..).setBit ..) (h.setBit ..)) h)

@[simp] theorem execGraceExpiry (h : s.Canonical) : Out.Canonical (execGraceExpiry s) :=
  .next (.ite (((h.setBit ..).irq ..).frame) h)

@[simp] theorem execAdpllOutputCfgWrite (h : s.Canonical) (init pll k : Nat) (data : Word) :
    Out.Canonical (execAdpllOutputCfgWrite init pll k data s) :=
  .next (h.writeAt (fun _ ht => ht.outCfgWrite ..) ..)

@[simp] theorem execIcalUpdate (h : s.Canonical) (group : Nat) (target : Int) (worst maxErr : Nat) :
    Out.Canonical (execIcalUpdate group target worst maxErr s) :=
  .next (.ite (.ite (((((h.setFld ..).setFld ..).frame).setBit ..).irq ..) (((h.setFld ..).setFld ..).frame)) h)

@[simp] theorem execClockMonitorWindow (h : s.Canonical) : Out.Canonical (execClockMonitorWindow s) := .next (h.setFld ..)

/-! ### Header -/

@[simp] theorem execPageLock (h : s.Canonical) (init base : Nat) : Out.Canonical (execPageLock init base s) :=
  .next (h.onPage (fun _ _ _ ht => ht.lockWrite ..) ..)

@[simp] theorem execPageUnlock (h : s.Canonical) (init base : Nat) : Out.Canonical (execPageUnlock init base s) :=
  .next (h.onPage (fun _ _ _ ht => ht.lockWrite ..) ..)

@[simp] theorem execVerselClose (h : s.Canonical) (init : Nat) : Out.Canonical (execVerselClose init s) :=
  .next (h.writeAt (fun _ ht => ht.verselWrite ..) ..)

@[simp] theorem execTestKeyTake (h : s.Canonical) (init : Nat) : Out.Canonical (execTestKeyTake init s) :=
  .next (h.writeAt (fun _ ht => ht.testenWrite ..) ..)

@[simp] theorem execTestKeyDrop (h : s.Canonical) (init : Nat) (data : Word) : Out.Canonical (execTestKeyDrop init data s) :=
  .next (h.writeAt (fun _ ht => ht.testenWrite ..) ..)

@[simp] theorem execDebugOpen (h : s.Canonical) (init : Nat) : Out.Canonical (execDebugOpen init s) :=
  .next (h.writeAt (fun _ ht => ht.dbgopenWrite ..) ..)

@[simp] theorem execDebugClose (h : s.Canonical) (init : Nat) (data : Word) : Out.Canonical (execDebugClose init data s) :=
  .next (h.writeAt (fun _ ht => ht.dbgopenWrite ..) ..)

@[simp] theorem execIntcClaim (h : s.Canonical) (init ctx : Nat) : Out.Canonical (execIntcClaim init ctx s) :=
  .next (h.readAt (fun _ ht => ht.claimRead ..) ..)

@[simp] theorem execIntcComplete (h : s.Canonical) (init ctx : Nat) (data : Word) :
    Out.Canonical (execIntcComplete init ctx data s) :=
  .next (h.writeAt (fun _ ht => ht.completeWrite ..) ..)

@[simp] theorem execFabricErrorResponse (h : s.Canonical) (init addr cause sub : Nat) (write : Bool) :
    Out.Canonical (execFabricErrorResponse init addr cause sub write s) :=
  .next (.errorResp (.ite ((h.setBit ..).irq ..) h) ..)

/-! ### Fabric -/

@[simp] theorem execSlipAged (h : s.Canonical) (coin cycle : Nat) : Out.Canonical (execSlipAged coin cycle s) := by
  unfold Machine.execSlipAged
  refine .next (h.clocked (fun _ ht => ?_) ..)
  split
  · exact ht
  · split
    · exact .ite ((ht.updSlip ..).fabCount ..) ht
    · exact ht

@[simp] theorem execSlipUrgent (h : s.Canonical) (coin at_ : Nat) : Out.Canonical (execSlipUrgent coin at_ s) := by
  unfold Machine.execSlipUrgent
  refine .next ((h.atTime ..).clocked (fun _ ht => ?_) ..)
  split
  · exact ht
  · split
    · exact ht
    · exact .ite (((ht.updSlip ..).irq ..).fabCount ..) ht

@[simp] theorem execWatchSelect (h : s.Canonical) (init : Nat) (data : Word) : Out.Canonical (execWatchSelect init data s) :=
  .next (h.writeAt (fun _ ht => ht.watchselWrite ..) ..)

/-! ### Can -/

@[simp] theorem execCanFrameReceive (h : s.Canonical) (m : Nat) (frame : CanFrame) (time tec rec_ : Nat) :
    Out.Canonical (execCanFrameReceive m frame time tec rec_ s) :=
  .next (.ite (.ite (h.canCounters ..) ((h.canCounters ..).canStore ..)) h)

@[simp] theorem execCanTxRequest (h : s.Canonical) (init m k : Nat) : Out.Canonical (execCanTxRequest init m k s) :=
  .next (h.writeAt (fun _ ht => ht.plainWrite ..) ..)

@[simp] theorem execCanFrameSent (h : s.Canonical) (m k time tec rec_ : Nat) :
    Out.Canonical (execCanFrameSent m k time tec rec_ s) :=
  .next (.ite (.ite (h.errorResp ..) (.ite ((((((h.canCounters ..).updCan ..).setBit ..).setBit ..).irq ..).canStore ..)
      (((((h.canCounters ..).updCan ..).setBit ..).setBit ..).irq ..))) h)

@[simp] theorem execCanBusOff (h : s.Canonical) (m tec rec_ : Nat) : Out.Canonical (execCanBusOff m tec rec_ s) :=
  .next (.ite (((h.canCounters ..).irq ..).updCan ..) h)

@[simp] theorem execCanRecover (h : s.Canonical) (init m : Nat) : Out.Canonical (execCanRecover init m s) :=
  .next (h.writeAt (fun _ ht => ht.canModeWrite ..) ..)

@[simp] theorem execBusOffRecoveryEnd (h : s.Canonical) (m : Nat) : Out.Canonical (execBusOffRecoveryEnd m s) :=
  .next (.ite ((h.canCounters ..).updCan ..) h)

/-! ### HostPorts -/

@[simp] theorem execXspiIndirectCmd (h : s.Canonical) (init : Nat) (data : Word) :
    Out.Canonical (execXspiIndirectCmd init data s) :=
  .next (h.writeAt (fun _ ht => ht.icmdWrite ..) ..)

@[simp] theorem execXspiCommandDone (h : s.Canonical) (status : Nat) (rdata : List Byte) (flash : List FlashByte) :
    Out.Canonical (execXspiCommandDone status rdata flash s) :=
  .next (h.clocked (fun _ ht => .ite (.foldl (.ite ((((ht.frame.setBit ..).wr ..).irq ..).idataPut ..)
      (((ht.frame.setBit ..).wr ..).irq ..)) (fun _ _ hu => hu.setByte ..) ..) ht) ..)

@[simp] theorem execXspiPollTimeout (h : s.Canonical) (status : Nat) : Out.Canonical (execXspiPollTimeout status s) :=
  .next (h.clocked (fun _ ht => .ite ((((ht.frame.setBit ..).wr ..).irq ..).bumpFree) ht) ..)

@[simp] theorem execDdrInitGo (h : s.Canonical) (init : Nat) : Out.Canonical (execDdrInitGo init s) :=
  .next (h.writeAt (fun _ ht => ht.ddrInitWrite ..) ..)

@[simp] theorem execDdrInitDone (h : s.Canonical) (ok : Bool) (stage lane : Nat) (eyes : List Nat) :
    Out.Canonical (execDdrInitDone ok stage lane eyes s) :=
  .next (h.clocked (fun _ ht => .ite (.ite (((((ht.foldl (fun _ _ hu => hu.wr ..) ..).wr ..).irq ..).bumpFree).bumpFree)
      (((ht.foldl (fun _ _ hu => hu.wr ..) ..).wr ..).irq ..)) ht) ..)

@[simp] theorem execDdrRetrain (h : s.Canonical) (refA refB : Nat) : Out.Canonical (execDdrRetrain refA refB s) :=
  .next (.ite (.bumpFree (.ite (((h.wr ..).irq ..).irq ..) ((h.wr ..).irq ..))) h)

@[simp] theorem execPhyPllUnlock (h : s.Canonical) : Out.Canonical (execPhyPllUnlock s) :=
  .next (h.clocked (fun _ ht => ht.irq ..) ..)

@[simp] theorem execUartTxPush (h : s.Canonical) (init m data : Nat) : Out.Canonical (execUartTxPush init m data s) :=
  .next (h.writeAt (fun _ ht => ht.uartTxWrite ..) ..)

@[simp] theorem execUartRxPop (h : s.Canonical) (init m : Nat) : Out.Canonical (execUartRxPop init m s) :=
  .next (h.readAt (fun _ ht => ht.uartRxRead ..) ..)

@[simp] theorem execUartByteReceive (h : s.Canonical) (m data : Nat) (perr ferr brk : Bool) :
    Out.Canonical (execUartByteReceive m data perr ferr brk s) :=
  .next (h.clocked (fun _ ht => .ite (.ite (ht.irq ..) (.ite
      (.irq (.ite (.irq (.ite (((ht.updUart ..).uartRefresh ..).irq ..) ((ht.updUart ..).uartRefresh ..)) ..)
      (.ite (((ht.updUart ..).uartRefresh ..).irq ..) ((ht.updUart ..).uartRefresh ..))) ..)
      (.ite (.irq (.ite (((ht.updUart ..).uartRefresh ..).irq ..) ((ht.updUart ..).uartRefresh ..)) ..)
      (.ite (((ht.updUart ..).uartRefresh ..).irq ..) ((ht.updUart ..).uartRefresh ..))))) ht) ..)

@[simp] theorem execUartByteSent (h : s.Canonical) (m : Nat) : Out.Canonical (execUartByteSent m s) := by
  unfold Machine.execUartByteSent
  refine .next (h.clocked (fun _ ht => .ite ?_ ht) ..)
  split
  · exact ht
  · exact (ht.updUart ..).uartRefresh ..

@[simp] theorem execSpiTxPush (h : s.Canonical) (init m : Nat) (data : Word) : Out.Canonical (execSpiTxPush init m data s) :=
  .next (h.writeAt (fun _ ht => ht.spiTxWrite ..) ..)

@[simp] theorem execSpiFrameDone (h : s.Canonical) (m : Nat) (data : Word) : Out.Canonical (execSpiFrameDone m data s) := by
  unfold Machine.execSpiFrameDone
  refine .next (h.clocked (fun _ ht => .ite ?_ ht) ..)
  split
  · exact ht
  · exact (((ht.updSpi ..).spiRefresh ..).irq ..).irq ..

@[simp] theorem execSpiRxPop (h : s.Canonical) (init m : Nat) : Out.Canonical (execSpiRxPop init m s) :=
  .next (h.readAt (fun _ ht => ht.spiRxRead ..) ..)

@[simp] theorem execGpioOutset (h : s.Canonical) (init : Nat) (data : Word) : Out.Canonical (execGpioOutset init data s) :=
  .next (h.writeAt (fun _ ht => ht.gpioSet ..) ..)

@[simp] theorem execGpioOutclr (h : s.Canonical) (init : Nat) (data : Word) : Out.Canonical (execGpioOutclr init data s) :=
  .next (h.writeAt (fun _ ht => ht.gpioClr ..) ..)

@[simp] theorem execGpioDirWrite (h : s.Canonical) (init : Nat) (data : Word) : Out.Canonical (execGpioDirWrite init data s) :=
  .next (h.writeAt (fun _ ht => ht.gpioDir ..) ..)

@[simp] theorem execGpioPinEdge (h : s.Canonical) (n : Nat) (level : Bool) : Out.Canonical (execGpioPinEdge n level s) :=
  .next (h.clocked (fun _ ht => .ite (.ite ((ht.setBit ..).irq ..) (ht.setBit ..)) ht) ..)

/-! ### Comparators -/

@[simp] theorem execComparatorCrossing (h : s.Canonical) (n : Nat) (vin : Int) (seen : Bool) :
    Out.Canonical (execComparatorCrossing n vin seen s) :=
  .next (.ite ((h.updCmp ..).cmpEval ..) h)

@[simp] theorem execFirstDecisionEnd (h : s.Canonical) (n : Nat) (vin : Int) : Out.Canonical (execFirstDecisionEnd n vin s) :=
  .next (.ite (((h.updCmp ..).cmpEval ..).updCmp ..) h)

@[simp] theorem execComparatorEnable (h : s.Canonical) (init n : Nat) (data : Word) (vin : Int) :
    Out.Canonical (execComparatorEnable init n data vin s) :=
  .next (h.writeAt (fun _ ht => (ht.updCmp ..).cmpCfgWrite ..) ..)

@[simp] theorem execThresholdWrite (h : s.Canonical) (init n : Nat) (data : Word) (vin : Int) :
    Out.Canonical (execThresholdWrite init n data vin s) :=
  .next (h.writeAt (fun _ ht => (ht.updCmp ..).cmpCfgWrite ..) ..)

@[simp] theorem execComparatorCheckStart (h : s.Canonical) (init : Nat) (pc : Bool) (data : Word) :
    Out.Canonical (execComparatorCheckStart init pc data s) :=
  .next (h.writeAt (fun _ ht => ht.checkWrite ..) ..)

@[simp] theorem execIfverSelect (h : s.Canonical) (init base : Nat) (data : Word) :
    Out.Canonical (execIfverSelect init base data s) :=
  .next (h.onPage (fun _ _ _ ht => ht.ifverWrite ..) ..)

@[simp] theorem execComparatorCheckEnd (h : s.Canonical) (pc : Bool) (seen : Nat) (vin : Int) :
    Out.Canonical (execComparatorCheckEnd pc seen vin s) :=
  .next (.ite (h.checkEnd ..) h)

/-! ### AuxDrivers -/

@[simp] theorem execAuxEnable (h : s.Canonical) (init : Nat) : Out.Canonical (execAuxEnable init s) :=
  .next (h.writeAt (fun _ ht => (ht.auxCtrlWrite ..).takesBalls ..) ..)

@[simp] theorem execAuxPrechargeEnd (h : s.Canonical) (n : Nat) : Out.Canonical (execAuxPrechargeEnd n s) :=
  .next (.ite (h.updAux ..) h)

@[simp] theorem execAuxPeriodStart (h : s.Canonical) : Out.Canonical (execAuxPeriodStart s) := .next (.ite (h.updAux ..) h)

@[simp] theorem execAuxDutyMatch (h : s.Canonical) (n : Nat) : Out.Canonical (execAuxDutyMatch n s) :=
  .next (.ite (h.updAux ..) h)

@[simp] theorem execHallCodeChange (h : s.Canonical) (i : Nat) : Out.Canonical (execHallCodeChange i s) :=
  .next ((h.setFld ..).hallRefresh)

@[simp] theorem execBootstrapUv (h : s.Canonical) (n : Nat) : Out.Canonical (execBootstrapUv n s) :=
  .next (.ite ((h.setBit ..).irq ..) h)

@[simp] theorem execBootstrapRecover (h : s.Canonical) (n : Nat) : Out.Canonical (execBootstrapRecover n s) :=
  .next (.ite (h.setBit ..) h)

@[simp] theorem execAuxOvercurrent (h : s.Canonical) : Out.Canonical (execAuxOvercurrent s) :=
  .next (.ite (.ite (((h.irq ..).updAux ..).setBit ..) (((h.irq ..).updAux ..).updAux ..)) h)

@[simp] theorem execAuxOcClear (h : s.Canonical) (init : Nat) (above : Bool) : Out.Canonical (execAuxOcClear init above s) :=
  .next (h.writeAt (fun _ ht => (ht.updAux ..).axclrWrite ..) ..)

/-! ### Ethernet -/

@[simp] theorem execPtpStep (h : s.Canonical) (init m at_ : Nat) : Out.Canonical (execPtpStep init m at_ s) :=
  .next ((h.atTime ..).writeAt (fun _ ht => ht.ptpCtlWrite ..) ..)

@[simp] theorem execPpsInEdge (h : s.Canonical) (at_ : Nat) (err : Int) : Out.Canonical (execPpsInEdge at_ err s) :=
  .next (.ite (((((h.atTime ..).wr ..).wr ..).irq ..).irq ..) (h.atTime ..))

@[simp] theorem execPpsOutSecond (h : s.Canonical) (at_ : Nat) : Out.Canonical (execPpsOutSecond at_ s) :=
  .next (.ite ((h.atTime ..).frame) (h.atTime ..))

@[simp] theorem execPpsOutFall (h : s.Canonical) (at_ : Nat) : Out.Canonical (execPpsOutFall at_ s) :=
  .next (.ite ((h.atTime ..).frame) (h.atTime ..))

@[simp] theorem execPtpTargetReached (h : s.Canonical) (at_ : Nat) : Out.Canonical (execPtpTargetReached at_ s) :=
  .next (.ite (((h.atTime ..).irq ..).irq ..) (h.atTime ..))

@[simp] theorem execTimestampPop (h : s.Canonical) (init m : Nat) : Out.Canonical (execTimestampPop init m s) :=
  .next (h.readAt (fun _ ht => ht.tsNsRead ..) ..)

@[simp] theorem execEthFrameReceive (h : s.Canonical) (m at_ : Nat) (frame : List Byte) (ptp : Option PtpPlace) (err : Int) :
    Out.Canonical (execEthFrameReceive m at_ frame ptp err s) :=
  .next (.ite (.ite ((h.atTime ..).count ..) (.ite ((h.atTime ..).count ..) ((h.atTime ..).rxAccept ..))) (h.atTime ..))

@[simp] theorem execEthFrameTransmit (h : s.Canonical) (m at_ : Nat) (ptp : Option PtpPlace) (err : Int) :
    Out.Canonical (execEthFrameTransmit m at_ ptp err s) := by
  unfold Machine.execEthFrameTransmit
  refine .next (.ite ?_ (h.atTime ..))
  split
  · exact h.atTime ..
  · extract_lets _
    split
    · exact (h.atTime ..).txSend ..
    · exact (((h.atTime ..).errorResp ..).foldl (fun _ _ ht => ht.ethWord ..) ..).setFld ..

@[simp] theorem execEthCounterClear (h : s.Canonical) (init m : Nat) : Out.Canonical (execEthCounterClear init m s) :=
  .next (h.writeAt (fun _ ht => ht.cntclrWrite ..) ..)

@[simp] theorem execEthPauseSend (h : s.Canonical) (init m : Nat) (data : Word) :
    Out.Canonical (execEthPauseSend init m data s) :=
  .next (h.writeAt (fun _ ht => ht.pauseWrite ..) ..)

@[simp] theorem execAnRestart (h : s.Canonical) (init m : Nat) (data : Word) : Out.Canonical (execAnRestart init m data s) :=
  .next (h.writeAt (fun _ ht => ht.anctlWrite ..) ..)

@[simp] theorem execLinkChange (h : s.Canonical) (m : Nat) (link done : Bool) (partner : Nat) :
    Out.Canonical (execLinkChange m link done partner s) :=
  .next (h.clocked (fun _ ht => .ite (.ite (.irq (.ite ((ht.wr ..).irq ..) (ht.wr ..)) ..)
      (.ite ((ht.wr ..).irq ..) (ht.wr ..))) ht) ..)

/-! ### Converters -/

@[simp] theorem execTriggerGroupFire (h : s.Canonical) (codes : List Nat) (cycle : Nat) :
    Out.Canonical (execTriggerGroupFire codes cycle s) :=
  .next (h.clocked (fun _ ht => .ite (ht.frame.frame.fireGroups ..) ht.frame) ..)

@[simp] theorem execAdcTrigEdge (h : s.Canonical) (j : Nat) (rising : Bool) : Out.Canonical (execAdcTrigEdge j rising s) :=
  .next (h.clocked (fun _ ht => .ite (ht.sendEvent ..) ht) ..)

@[simp] theorem execSwtrigWrite (h : s.Canonical) (init : Nat) (data : Word) (cycle : Nat) :
    Out.Canonical (execSwtrigWrite init data cycle s) :=
  .next (h.writeAt (fun _ ht => ht.swtrigApply ..) ..)

@[simp] theorem execTriggerGroupCfgWrite (h : s.Canonical) (init k : Nat) (data : Word) :
    Out.Canonical (execTriggerGroupCfgWrite init k data s) :=
  .next (h.writeAt (fun _ ht => ht.tgCfgWrite ..) ..)

@[simp] theorem execConversionEnd (h : s.Canonical) (n : Nat) (vin vinSpare : Int) :
    Out.Canonical (execConversionEnd n vin vinSpare s) :=
  .next (h.clocked (fun _ ht => ht.conversionEnd ..) ..)

@[simp] theorem execResultPush (h : s.Canonical) (n cycle : Nat) : Out.Canonical (execResultPush n cycle s) := by
  unfold Machine.execResultPush
  refine .next (h.clocked (fun _ ht => ht.clocked (fun _ hu => ?_) ..) ..)
  split
  · exact hu
  · exact .ite (((hu.setBit ..).updPos ..).issue ..) hu

@[simp] theorem execResultRead (h : s.Canonical) (init n : Nat) : Out.Canonical (execResultRead init n s) :=
  .next (h.readAt (fun _ ht => ht.resultReadApply ..) ..)

@[simp] theorem execEntryWrite (h : s.Canonical) (init n k : Nat) (b : Bool) (data : Word) :
    Out.Canonical (execEntryWrite init n k b data s) :=
  .next (h.writeAt (fun _ ht => ht.entryApply ..) ..)

@[simp] theorem execConverterDisable (h : s.Canonical) (init n : Nat) : Out.Canonical (execConverterDisable init n s) :=
  .next (h.writeAt (fun _ ht => ht.convCtrlWrite ..) ..)

@[simp] theorem execConverterRotcfgWrite (h : s.Canonical) (init : Nat) (data : Word) :
    Out.Canonical (execConverterRotcfgWrite init data s) :=
  .next (h.writeAt (fun _ ht => ht.rotcfgApply ..) ..)

@[simp] theorem execConverterShadowStart (h : s.Canonical) (spare p : Nat) :
    Out.Canonical (execConverterShadowStart spare p s) :=
  .next (h.clocked (fun _ ht => .ite ((((ht.wr ..).wr ..).setBit ..).frame) ht) ..)

@[simp] theorem execConverterHandover (h : s.Canonical) : Out.Canonical (execConverterHandover s) :=
  .next (h.clocked (fun _ ht => .ite ht.handover ht) ..)

@[simp] theorem execConverterShadowAbandon (h : s.Canonical) : Out.Canonical (execConverterShadowAbandon s) :=
  .next (h.clocked (fun _ ht => .ite ((((ht.endShadow ..).count ..).irq ..).frame) ht) ..)

/-! ### Gate -/

@[simp] theorem execInterlockExpiry (h : s.Canonical) (n at_ : Nat) : Out.Canonical (execInterlockExpiry n at_ s) :=
  .next (h.clocked (fun _ ht => .ite ((ht.atTime ..).hbRefresh ..) ht) ..)

@[simp] theorem execBothOnCommand (h : s.Canonical) (n at_ : Nat) : Out.Canonical (execBothOnCommand n at_ s) :=
  .next (h.clocked (fun _ ht => .ite ((ht.atTime ..).bothOn ..) ht) ..)

@[simp] theorem execFaultBallAssert (h : s.Canonical) (n at_ : Nat) (low : Bool) :
    Out.Canonical (execFaultBallAssert n at_ low s) :=
  .next (h.clocked (fun _ ht => .ite ((ht.atTime ..).faultBall ..) ht) ..)

@[simp] theorem execOvercurrentAssert (h : s.Canonical) (n at_ : Nat) : Out.Canonical (execOvercurrentAssert n at_ s) :=
  .next (h.clocked (fun _ ht => .ite ((ht.atTime ..).takeFault ..) (ht.atTime ..)) ..)

@[simp] theorem execBlankingWindowEnd (h : s.Canonical) (n at_ : Nat) : Out.Canonical (execBlankingWindowEnd n at_ s) :=
  .next (h.clocked (fun _ ht => .ite (.ite (((ht.atTime ..).updHb ..).takeFault ..) ((ht.atTime ..).updHb ..)) (ht.atTime ..))
      ..)

@[simp] theorem execRetryWaitEnd (h : s.Canonical) (n at_ : Nat) : Out.Canonical (execRetryWaitEnd n at_ s) :=
  .next (h.clocked (fun _ ht => .ite ((ht.atTime ..).waitEnd ..) (ht.atTime ..)) ..)

@[simp] theorem execTryResetTimer (h : s.Canonical) (n : Nat) : Out.Canonical (execTryResetTimer n s) :=
  .next (h.clocked (fun _ ht => .ite (ht.setFld ..) ht) ..)

@[simp] theorem execHbEnable (h : s.Canonical) (init n tick : Nat) : Out.Canonical (execHbEnable init n tick s) :=
  .next (h.writeAt (fun _ ht => (ht.atTime ..).hbctlWrite ..) ..)

@[simp] theorem execHbDisable (h : s.Canonical) (init n tick : Nat) : Out.Canonical (execHbDisable init n tick s) :=
  .next (h.writeAt (fun _ ht => (ht.atTime ..).hbctlWrite ..) ..)

@[simp] theorem execShutdownPhase2 (h : s.Canonical) (g at_ : Nat) : Out.Canonical (execShutdownPhase2 g at_ s) :=
  .next (h.clocked (fun _ ht => .ite ((ht.atTime ..).shutPhase2 ..) ht) ..)

@[simp] theorem execShutdownPhase3 (h : s.Canonical) (g at_ : Nat) : Out.Canonical (execShutdownPhase3 g at_ s) :=
  .next (h.clocked (fun _ ht => .ite ((ht.atTime ..).shutPhase3 ..) ht) ..)

@[simp] theorem execGateGroupEnable (h : s.Canonical) (init g tick : Nat) : Out.Canonical (execGateGroupEnable init g tick s) :=
  .next (h.writeAt (fun _ ht => ((ht.atTime ..).gateCtrlWrite ..).takesBalls ..) ..)

@[simp] theorem execGateGroupDisable (h : s.Canonical) (init g tick : Nat) :
    Out.Canonical (execGateGroupDisable init g tick s) :=
  .next (h.writeAt (fun _ ht => (ht.atTime ..).gateCtrlWrite ..) ..)

@[simp] theorem execGateVetoAssert (h : s.Canonical) (at_ : Nat) : Out.Canonical (execGateVetoAssert at_ s) :=
  .next ((h.atTime ..).assertVeto)

/-! ### Pwm -/

@[simp] theorem execDeadTimeExpiry (h : s.Canonical) (n : Nat) : Out.Canonical (execDeadTimeExpiry n s) := by
  unfold Machine.execDeadTimeExpiry
  refine .next (h.clocked (fun _ ht => .ite ?_ ht) ..)
  split
  · exact ((ht.atTime ..).updGen ..).pwmOut ..
  · exact ((ht.atTime ..).updGen ..).pwmOut ..
  · exact ht

@[simp] theorem execPwmCompareMatch (h : s.Canonical) (n k : Nat) : Out.Canonical (execPwmCompareMatch n k s) :=
  .next (h.clocked (fun _ ht => .ite ((ht.atTime ..).fireEdge ..) ht) ..)

@[simp] theorem execSyncReceive (h : s.Canonical) (n i : Nat) : Out.Canonical (execSyncReceive n i s) := by
  unfold Machine.execSyncReceive
  refine .next (h.clocked (fun _ ht => ?_) ..)
  split
  · exact ht
  · exact .ite (.ite (((ht.atTime ..).updGen ..).pwmFlag ..)
        (.ite ((((ht.atTime ..).updGen ..).updGen ..).pwmFlag ..) (((ht.atTime ..).updGen ..).updGen ..))) ht

@[simp] theorem execSyncInEdge (h : s.Canonical) (rising : Bool) (at_ : Nat) : Out.Canonical (execSyncInEdge rising at_ s) :=
  .next (h.clocked (fun _ ht => .ite (((ht.atTime ..).frame).syncOutPulse ..) ht) ..)

@[simp] theorem execSyncOutPulseEnd (h : s.Canonical) : Out.Canonical (execSyncOutPulseEnd s) := by
  unfold Machine.execSyncOutPulseEnd
  refine .next (h.clocked (fun _ ht => ?_) ..)
  split
  · exact (ht.atTime ..).frame
  · exact ht

@[simp] theorem execPwmPeriodStart (h : s.Canonical) (n : Nat) : Out.Canonical (execPwmPeriodStart n s) := by
  unfold Machine.execPwmPeriodStart
  refine .next (h.clocked (fun _ ht => .ite ?_ ht) ..)
  split
  · exact ((ht.atTime ..).updGen ..).beginPeriod ..
  · exact ht

@[simp] theorem execFollowerReachPer (h : s.Canonical) (n : Nat) : Out.Canonical (execFollowerReachPer n s) :=
  .next (h.clocked (fun _ ht => .ite (.ite ((ht.atTime ..).setBit ..) (((ht.atTime ..).pwmFlag ..).beginPeriod ..)) ht) ..)

@[simp] theorem execPwmEnable (h : s.Canonical) (init n tick : Nat) : Out.Canonical (execPwmEnable init n tick s) :=
  .next (h.writeAt (fun _ ht => ((ht.atTime ..).pwmCtrlWrite ..).takesBalls ..) ..)

@[simp] theorem execPwmDisable (h : s.Canonical) (init n tick : Nat) : Out.Canonical (execPwmDisable init n tick s) :=
  .next (h.writeAt (fun _ ht => (ht.atTime ..).pwmCtrlWrite ..) ..)

@[simp] theorem execPwmStart (h : s.Canonical) (init k : Nat) (data : Word) (tick : Nat) :
    Out.Canonical (execPwmStart init k data tick s) :=
  .next (h.writeAt (fun _ ht => (ht.atTime ..).startWrite ..) ..)

@[simp] theorem execLiveCompareWrite (h : s.Canonical) (init sub n k : Nat) (data : Word) (tick : Nat) :
    Out.Canonical (execLiveCompareWrite init sub n k data tick s) :=
  .next (h.writeAt (fun _ ht => (ht.atTime ..).liveWrite ..) ..)

@[simp] theorem execShadowWrite (h : s.Canonical) (init n k : Nat) (data : Word) :
    Out.Canonical (execShadowWrite init n k data s) :=
  .next (h.writeAt (fun _ ht => ht.shadowWrite ..) ..)

@[simp] theorem execPwmCommit (h : s.Canonical) (init : Nat) (data : Word) (tick : Nat) :
    Out.Canonical (execPwmCommit init data tick s) :=
  .next (h.writeAt (fun _ ht => (ht.atTime ..).commitWrite ..) ..)

@[simp] theorem execTripCfgWrite (h : s.Canonical) (init n : Nat) (data : Word) (tripIn tick : Nat) :
    Out.Canonical (execTripCfgWrite init n data tripIn tick s) :=
  .next (h.writeAt (fun _ ht => ((ht.seeTripIn ..).atTime ..).tripcfgWrite ..) ..)

@[simp] theorem execTripInputActive (h : s.Canonical) (n at_ tripIn : Nat) :
    Out.Canonical (execTripInputActive n at_ tripIn s) :=
  .next (h.tripSettled ..)

@[simp] theorem execTripInputInactive (h : s.Canonical) (n at_ tripIn : Nat) :
    Out.Canonical (execTripInputInactive n at_ tripIn s) :=
  .next (h.tripSettled ..)

@[simp] theorem execTripForce (h : s.Canonical) (init n : Nat) (data : Word) (tick : Nat) :
    Out.Canonical (execTripForce init n data tick s) :=
  .next (h.writeAt (fun _ ht => (ht.atTime ..).tripctlWrite ..) ..)

@[simp] theorem execTripClear (h : s.Canonical) (init n : Nat) (data : Word) (tick : Nat) :
    Out.Canonical (execTripClear init n data tick s) :=
  .next (h.writeAt (fun _ ht => (ht.atTime ..).tripctlWrite ..) ..)

@[simp] theorem execPwmcForce (h : s.Canonical) (init k : Nat) (data : Word) (tick : Nat) :
    Out.Canonical (execPwmcForce init k data tick s) :=
  .next (h.writeAt (fun _ ht => (ht.atTime ..).pwmcForceWrite ..) ..)

/-! ### TellerMem -/

@[simp] theorem execOpLdw (h : s.Canonical) (n : Nat) (w : Word) (us cycle : Nat) (ecc : Option EccError) :
    Out.Canonical (execOpLdw n w us cycle ecc s) :=
  .next (h.lOp (fun _ _ ht => ht.unitLoad ..) ..)

@[simp] theorem execOpStw (h : s.Canonical) (n : Nat) (w : Word) : Out.Canonical (execOpStw n w s) :=
  .next (h.lOp (fun _ _ ht => ht) ..)

@[simp] theorem execOpLdq (h : s.Canonical) (n : Nat) (w : Word) (us cycle : Nat) (ecc : Option EccError) :
    Out.Canonical (execOpLdq n w us cycle ecc s) :=
  .next (h.lOp (fun _ _ ht => ht.unitLoad ..) ..)

@[simp] theorem execOpStq (h : s.Canonical) (n : Nat) (w : Word) : Out.Canonical (execOpStq n w s) :=
  .next (h.lOp (fun _ _ ht => ht) ..)

@[simp] theorem execOpLdin (h : s.Canonical) (n : Nat) (w : Word) : Out.Canonical (execOpLdin n w s) :=
  .next (h.lOp (fun _ _ ht => ht) ..)

@[simp] theorem execOpLddep (h : s.Canonical) (n : Nat) (w : Word) (us cycle : Nat) (ecc : Option EccError) :
    Out.Canonical (execOpLddep n w us cycle ecc s) :=
  .next (h.lOp (fun _ _ ht => ht.unitLoad ..) ..)

@[simp] theorem execOpOut (h : s.Canonical) (n : Nat) (w : Word) (cycle : Nat) : Out.Canonical (execOpOut n w cycle s) :=
  .next (h.lOp (fun _ _ ht => ht.unitIssue ..) ..)

@[simp] theorem execOpPush (h : s.Canonical) (n : Nat) (w : Word) (cycle : Nat) : Out.Canonical (execOpPush n w cycle s) :=
  .next (h.lOp (fun _ _ ht => ht.pushIssue ..) ..)

@[simp] theorem execOpFwr (h : s.Canonical) (n : Nat) (w : Word) (cycle : Nat) : Out.Canonical (execOpFwr n w cycle s) :=
  .next (h.lOp (fun _ _ ht => .iteFst (ht.unitIssue ..) (ht.fabErr ..)) ..)

@[simp] theorem execOpTrig (h : s.Canonical) (n : Nat) (w : Word) (cycle : Nat) : Out.Canonical (execOpTrig n w cycle s) :=
  .next (h.lOp (fun _ _ ht => ht.unitIssue ..) ..)

@[simp] theorem execOpFrd (h : s.Canonical) (n : Nat) (w : Word) (cycle : Nat) : Out.Canonical (execOpFrd n w cycle s) :=
  .next (h.lOp (fun _ _ ht => .iteFst (ht.unitIssue ..) (ht.fabErr ..)) ..)

@[simp] theorem execOpFence (h : s.Canonical) (n : Nat) (w : Word) : Out.Canonical (execOpFence n w s) :=
  .next (h.lOp (fun _ _ ht => ht) ..)

@[simp] theorem execOpPgstep (h : s.Canonical) (n : Nat) (w : Word) : Out.Canonical (execOpPgstep n w s) :=
  .next (h.lOp (fun _ _ ht => .ite (ht.pgStep ..) (ht.fabErr ..)) ..)

@[simp] theorem execBundleStallEnd (h : s.Canonical) (n cycle : Nat) (fixedEnds : Bool) :
    Out.Canonical (execBundleStallEnd n cycle fixedEnds s) := by
  unfold Machine.execBundleStallEnd
  refine .next (h.clocked (fun _ ht => ?_) ..)
  split
  · exact ht
  · exact ((ht.stallIssue ..).setRun ..).bundleEnd ..

/-! ### TellerArray -/

@[simp] theorem execPushArrival (h : s.Canonical) (n cycle : Nat) : Out.Canonical (execPushArrival n cycle s) := by
  unfold Machine.execPushArrival
  refine .next (h.clocked (fun _ ht => ?_) ..)
  split
  · exact ht
  · exact ht.land ..

@[simp] theorem execKickWrite (h : s.Canonical) (init n : Nat) (data : Word) (cycle : Nat) :
    Out.Canonical (execKickWrite init n data cycle s) :=
  .next (h.writeAt (fun _ ht => ht.kickWrite ..) ..)

@[simp] theorem execInstanceStart (h : s.Canonical) (n us cycle : Nat) : Out.Canonical (execInstanceStart n us cycle s) := by
  unfold Machine.execInstanceStart
  refine .next (h.clocked (fun _ ht => .ite ?_ ht) ..)
  split
  · exact ht.startInst ..
  · exact ht

@[simp] theorem execInstanceEnable (h : s.Canonical) (init n i : Nat) (data : Word) :
    Out.Canonical (execInstanceEnable init n i data s) :=
  .next (h.writeAt (fun _ ht => ht.instCfgWrite ..) ..)

@[simp] theorem execInstanceDisable (h : s.Canonical) (init n i : Nat) (data : Word) :
    Out.Canonical (execInstanceDisable init n i data s) :=
  .next (h.writeAt (fun _ ht => ht.instCfgWrite ..) ..)

@[simp] theorem execLibraryWrite (h : s.Canonical) (init addr : Nat) (bytes : List Byte) :
    Out.Canonical (execLibraryWrite init addr bytes s) :=
  .next (.ite (h.errorResp ..) (.ite (h.errorResp ..) (h.access (fun _ ht => ht.libWrite ..) ..)))

@[simp] theorem execPgXWrite (h : s.Canonical) (init k : Nat) (data : Word) : Out.Canonical (execPgXWrite init k data s) :=
  .next (h.writeAt (fun _ ht => ht.pgXWrite ..) ..)

@[simp] theorem execTellerRotationStart (h : s.Canonical) (p q : Nat) : Out.Canonical (execTellerRotationStart p q s) :=
  .next (.ite ((((h.copyArea ..).wr ..).setBit ..).updTel ..) h)

@[simp] theorem execTellerCopyEnd (h : s.Canonical) : Out.Canonical (execTellerCopyEnd s) :=
  .next (.ite ((h.setFld ..).shadowProgress) h)

@[simp] theorem execTellerShadowMismatch (h : s.Canonical) : Out.Canonical (execTellerShadowMismatch s) :=
  .next (.ite ((((h.endRotation.count ..).irq ..).updTel ..).updTpos ..) h)

@[simp] theorem execTellerHandover (h : s.Canonical) : Out.Canonical (execTellerHandover s) :=
  .next (.ite (((((h.swapUnits ..).endRotation).count ..).irq ..).updTel ..) h)

@[simp] theorem execTellerRotationAbandon (h : s.Canonical) : Out.Canonical (execTellerRotationAbandon s) :=
  .next (.ite (((h.endRotation.count ..).irq ..).updTel ..) h)

@[simp] theorem execTellerRotcfgWrite (h : s.Canonical) (init : Nat) (data : Word) :
    Out.Canonical (execTellerRotcfgWrite init data s) :=
  .next (h.writeAt (fun _ ht => ht.telRotcfgWrite ..) ..)

@[simp] theorem execTellerUnitError (h : s.Canonical) (u : Nat) : Out.Canonical (execTellerUnitError u s) :=
  .next (.ite ((h.retireUnit ..).irq ..) h)

/-! ### Health -/

@[simp] theorem execHealthEnable (h : s.Canonical) (init : Nat) (data : Word) : Out.Canonical (execHealthEnable init data s) :=
  .next (h.writeAt (fun _ ht => ht.healthCtrlWrite ..) ..)

@[simp] theorem execRotationSchedule (h : s.Canonical) (teller : Bool) (at_ : Nat) :
    Out.Canonical (execRotationSchedule teller at_ s) := by
  unfold Machine.execRotationSchedule
  refine .next (h.clocked (fun _ ht => .ite ht (.ite ?_ ?_)) ..)
  · split
    · exact ht.updTel ..
    · exact ht
  · split
    · exact ht.frame
    · exact ht

@[simp] theorem execSliceStart (h : s.Canonical) (at_ kind target : Nat) : Out.Canonical (execSliceStart at_ kind target s) := by
  unfold Machine.execSliceStart
  refine .next (h.clocked (fun _ ht => ?_) ..)
  extract_lets s1
  have hs1 : s1.Canonical := ht.atTime ..
  split
  · exact .ite (hs1.setSlice ..) hs1
  · exact .ite (hs1.setSlice ..) hs1

@[simp] theorem execSliceEnd (h : s.Canonical) (at_ us cycle : Nat) (sig : Option Word) (points : List LoopPoint) :
    Out.Canonical (execSliceEnd at_ us cycle sig points s) := by
  unfold Machine.execSliceEnd
  refine .next (h.clocked (fun _ ht => ?_) ..)
  extract_lets s1
  have hs1 : s1.Canonical := ht.atTime ..
  split
  · exact hs1
  · exact .ite hs1 (.ite (hs1.cmpSliceEnd ..) (.ite (hs1.unitSliceEnd ..) (hs1.setSlice ..)))

@[simp] theorem execSliceDeadline (h : s.Canonical) (us cycle : Nat) : Out.Canonical (execSliceDeadline us cycle s) := by
  unfold Machine.execSliceDeadline
  refine .next (h.clocked (fun _ ht => ?_) ..)
  split
  · exact ht
  · exact .ite ht ((((ht.setSlice ..).count ..).irq ..).logFree ..)

@[simp] theorem execComparatorCheckSchedule (h : s.Canonical) (at_ us cycle : Nat) :
    Out.Canonical (execComparatorCheckSchedule at_ us cycle s) := by
  unfold Machine.execComparatorCheckSchedule
  refine .next (h.clocked (fun _ ht => ?_) ..)
  extract_lets s1
  have hs1 : s1.Canonical := ht.atTime ..
  split
  · exact hs1
  · exact .ite hs1 (.ite (((hs1.updHealth ..).checkWrite ..).setSlice ..) (((hs1.updHealth ..).checkWrite ..).logFree ..))

@[simp] theorem execCheckerRotation (h : s.Canonical) (c at_ : Nat) : Out.Canonical (execCheckerRotation c at_ s) :=
  .next (h.clocked (fun _ ht => .ite ((ht.updHealth ..).updChecker ..) ht) ..)

@[simp] theorem execCheckerTakeover (h : s.Canonical) (c : Nat) (mismatch : Bool) :
    Out.Canonical (execCheckerTakeover c mismatch s) :=
  .next (h.clocked (fun _ ht => .ite (ht.updChecker ..) ht) ..)

@[simp] theorem execScrubRead (h : s.Canonical) (us cycle : Nat) (ecc : Option EccError) :
    Out.Canonical (execScrubRead us cycle ecc s) :=
  .next (h.clocked (fun _ ht => .ite (((ht.updHealth ..).eccRead ..).scrubStep) ht) ..)

/-! ### Settlement -/

@[simp] theorem execEngineDeposit (h : s.Canonical) (init cycle : Nat) : Out.Canonical (execEngineDeposit init cycle s) := by
  unfold Machine.execEngineDeposit
  refine .next (h.clocked (fun _ ht => ?_) ..)
  split
  · exact ht
  · exact ht.depIssue ..

@[simp] theorem execSettlementEnable (h : s.Canonical) (init : Nat) : Out.Canonical (execSettlementEnable init s) :=
  .next (h.writeAt (fun _ ht => ht.setlCtrlWrite ..) ..)

@[simp] theorem execSettlementPeriodStart (h : s.Canonical) : Out.Canonical (execSettlementPeriodStart s) :=
  .next (h.clocked (fun _ ht => .ite (.ite ht.setlPeriod (ht.setBit ..)) ht) ..)

@[simp] theorem execVbusWrite (h : s.Canonical) (init : Nat) (data : Word) : Out.Canonical (execVbusWrite init data s) :=
  .next (h.writeAt (fun _ ht => ht.vbusWrite ..) ..)

@[simp] theorem execAccountEnable (h : s.Canonical) (init k : Nat) (data : Word) :
    Out.Canonical (execAccountEnable init k data s) :=
  .next (h.writeAt (fun _ ht => ht.acctCfgWrite ..) ..)

@[simp] theorem execAccountDisable (h : s.Canonical) (init k : Nat) (data : Word) :
    Out.Canonical (execAccountDisable init k data s) :=
  .next (h.writeAt (fun _ ht => ht.acctCfgWrite ..) ..)

@[simp] theorem execContingencyForce (h : s.Canonical) (init : Nat) (clr : Bool) :
    Out.Canonical (execContingencyForce init clr s) :=
  .next (h.writeAt (fun _ ht => ht.contctlWrite ..) ..)

@[simp] theorem execContingencyClear (h : s.Canonical) (init : Nat) : Out.Canonical (execContingencyClear init s) :=
  .next (h.writeAt (fun _ ht => ht.contctlWrite ..) ..)

/-! ### Mppt -/

@[simp] theorem execMpptStep (h : s.Canonical) (m secs : Nat) : Out.Canonical (execMpptStep m secs s) :=
  .next (h.clocked (fun _ ht => .ite ((((((((ht.wr ..).updMpc ..).mpMove ..).updMpc ..).scanStart ..).nextScan ..).mpRefresh
      ..).mpDeposit ..) ht) ..)

@[simp] theorem execMpptEnable (h : s.Canonical) (init m : Nat) : Out.Canonical (execMpptEnable init m s) :=
  .next (h.writeAt (fun _ ht => ht.mpCtrlWrite ..) ..)

@[simp] theorem execMpptSample (h : s.Canonical) (init m : Nat) (data : Word) : Out.Canonical (execMpptSample init m data s) :=
  .next (h.writeAt (fun _ ht => ht.iinWrite ..) ..)

@[simp] theorem execScanTimerDue (h : s.Canonical) (m : Nat) : Out.Canonical (execScanTimerDue m s) :=
  .next (h.clocked (fun _ ht => .ite (((ht.mpDue ..).scanStart ..).mpRefresh ..) ht) ..)

@[simp] theorem execScanRequest (h : s.Canonical) (init m : Nat) : Out.Canonical (execScanRequest init m s) :=
  .next (h.writeAt (fun _ ht => ht.scanreqWrite ..) ..)

/-! ### Grid -/

@[simp] theorem execGridStep (h : s.Canonical) (age : Nat) : Out.Canonical (execGridStep age s) :=
  .next (h.clocked (fun _ ht => .ite (ht.gridStep ..) ht) ..)

@[simp] theorem execGridSample (h : s.Canonical) (init : Nat) (data : Word) : Out.Canonical (execGridSample init data s) :=
  .next (h.writeAt (fun _ ht => ht.icWrite ..) ..)

@[simp] theorem execGridEnable (h : s.Canonical) (init age : Nat) : Out.Canonical (execGridEnable init age s) :=
  .next (h.writeAt (fun _ ht => ht.gsyncCtrlWrite ..) ..)

@[simp] theorem execGridInputLoss (h : s.Canonical) : Out.Canonical (execGridInputLoss s) :=
  .next (h.clocked (fun _ ht => .ite ((((((ht.setBit ..).irq ..).syncClear).gridOutputs).gridDeposit).bumpStep) ht) ..)

@[simp] theorem execSequenceError (h : s.Canonical) : Out.Canonical (execSequenceError s) :=
  .next (h.clocked (fun _ ht => .ite ((((ht.setBit ..).irq ..).syncClear).gridFinish) ht) ..)

@[simp] theorem execGridSyncSet (h : s.Canonical) : Out.Canonical (execGridSyncSet s) :=
  .next (h.clocked (fun _ ht => .ite ((ht.setBit ..).gridFinish) ht) ..)

@[simp] theorem execFastDipDetect (h : s.Canonical) : Out.Canonical (execFastDipDetect s) :=
  .next (h.clocked (fun _ ht => .ite ((ht.updGrid ..).gridFinish) ht) ..)

@[simp] theorem execExcursionEnd (h : s.Canonical) : Out.Canonical (execExcursionEnd s) :=
  .next (h.clocked (fun _ ht => .ite ((ht.setBit ..).irq ..) ht) ..)

@[simp] theorem execGridStageAct (h : s.Canonical) (j : Nat) : Out.Canonical (execGridStageAct j s) :=
  .next (h.clocked (fun _ ht => .ite (.gridFinish (.ite (ht.raiseIsland ..) (ht.raiseTrip ..))) ht) ..)

@[simp] theorem execRocofIsland (h : s.Canonical) : Out.Canonical (execRocofIsland s) :=
  .next (h.clocked (fun _ ht => .ite ((ht.raiseIsland ..).gridFinish) ht) ..)

@[simp] theorem execVectorShiftIsland (h : s.Canonical) : Out.Canonical (execVectorShiftIsland s) :=
  .next (h.clocked (fun _ ht => .ite ((ht.raiseIsland ..).gridFinish) ht) ..)

@[simp] theorem execProbeWindowEnd (h : s.Canonical) : Out.Canonical (execProbeWindowEnd s) :=
  .next (h.clocked (fun _ ht => .ite (.ite ((((((ht.wr ..).wr ..).irq ..).updGrid ..).raiseIsland ..).gridFinish)
      (((((ht.wr ..).wr ..).irq ..).updGrid ..).bumpStep)) ht) ..)

@[simp] theorem execTripFlagClear (h : s.Canonical) (init : Nat) : Out.Canonical (execTripFlagClear init s) :=
  .next (h.writeAt (fun _ ht => ht.gfrtClrWrite ..) ..)

@[simp] theorem execIslandFlagClear (h : s.Canonical) (init : Nat) : Out.Canonical (execIslandFlagClear init s) :=
  .next (h.writeAt (fun _ ht => ht.gislClrWrite ..) ..)

@[simp] theorem execTableApply (h : s.Canonical) (init : Nat) : Out.Canonical (execTableApply init s) :=
  .next (h.writeAt (fun _ ht => ht.tableApplyWrite ..) ..)

/-! ### SafetyUnit -/

@[simp] theorem execGateVetoRelease (h : s.Canonical) : Out.Canonical (execGateVetoRelease s) := .next (.ite h h.frame)

@[simp] theorem execChannelDisagreement (h : s.Canonical) (at_ : Nat) : Out.Canonical (execChannelDisagreement at_ s) :=
  .next ((h.atTime ..).lockdown)

@[simp] theorem execClockCheckFail (h : s.Canonical) (at_ : Nat) : Out.Canonical (execClockCheckFail at_ s) :=
  .next ((((h.atTime ..).frame).lockdown).settleSafety)

@[simp] theorem execHeartbeatLoss (h : s.Canonical) (at_ : Nat) : Out.Canonical (execHeartbeatLoss at_ s) :=
  .next (.ite ((h.atTime ..).enterDusk ..) h)

@[simp] theorem execSafetyInputChange (h : s.Canonical) (at_ input : Nat) (cur level : Bool) :
    Out.Canonical (execSafetyInputChange at_ input cur level s) :=
  .ite (.next (h.atTime ..)) (.ite (.next ((((h.atTime ..).updSup ..).latchManual ..).settleSafety))
      (.next ((((h.atTime ..).updSup ..).latchManual ..).discStep ..)))

@[simp] theorem execInputDiscrepancy (h : s.Canonical) (at_ f : Nat) : Out.Canonical (execInputDiscrepancy at_ f s) :=
  .ite (.next (((h.atTime ..).updSup ..).settleSafety)) (.next (h.atTime ..))

@[simp] theorem execClaimedComparatorStop (h : s.Canonical) (at_ n : Nat) : Out.Canonical (execClaimedComparatorStop at_ n s) :=
  .ite (.next (((h.atTime ..).updSup ..).settleSafety)) (.next (h.atTime ..))

@[simp] theorem execWcLineStop (h : s.Canonical) (n : Nat) : Out.Canonical (execWcLineStop n s) :=
  .ite (.next (h.updSup ..)) (.next h)

@[simp] theorem execSafetyConversionRound (h : s.Canonical) (at_ : Nat) (codes : List Nat) :
    Out.Canonical (execSafetyConversionRound at_ codes s) :=
  .next (.ite (((h.atTime ..).updSup ..).lockdown) ((h.atTime ..).updSup ..))

@[simp] theorem execSafetyResetPress (h : s.Canonical) (spMs curMs : Nat) : Out.Canonical (execSafetyResetPress spMs curMs s) :=
  .ite (.ite (.next (h.updSup ..)) (.next ((((h.updSup ..).updSup ..).foldl (fun _ _ ht => .ite (ht.updK ..) ht)
      ..).settleSafety))) (.next h)

@[simp] theorem execPresenceWindowEnd (h : s.Canonical) : Out.Canonical (execPresenceWindowEnd s) := .next (h.updSup ..)

@[simp] theorem execGridStatusTransfer (h : s.Canonical) : Out.Canonical (execGridStatusTransfer s) :=
  .ite (.next (h.updSup ..)) (.next h)

@[simp] theorem execGridStatusTimeout (h : s.Canonical) : Out.Canonical (execGridStatusTimeout s) := .next (.ite h (h.updSup ..))

@[simp] theorem execCoilCurrentTimeout (h : s.Canonical) (n : Nat) : Out.Canonical (execCoilCurrentTimeout n s) :=
  .next (.ite ((h.faultK ..).settleSafety) h)

@[simp] theorem execMirrorTimeout (h : s.Canonical) (n : Nat) : Out.Canonical (execMirrorTimeout n s) :=
  .next (.ite (.ite ((h.faultK ..).settleSafety) (.ite (.settleSafety (.ite (h.faultK ..) (h.openedK ..))) h)) h)

@[simp] theorem execContactorTestPulse (h : s.Canonical) (n code : Nat) (hg : Bool) :
    Out.Canonical (execContactorTestPulse n code hg s) :=
  .next (.ite (.ite (h.updK ..) ((h.faultK ..).settleSafety)) h)

@[simp] theorem execTestPulseEnd (h : s.Canonical) (n code : Nat) : Out.Canonical (execTestPulseEnd n code s) :=
  .next (.ite (.ite ((h.faultK ..).settleSafety) (h.updK ..)) h)

@[simp] theorem execOpeningDeadline (h : s.Canonical) (n : Nat) : Out.Canonical (execOpeningDeadline n s) :=
  .next (.ite (h.openK ..) h)

@[simp] theorem execCurfewBackstop (h : s.Canonical) (n : Nat) : Out.Canonical (execCurfewBackstop n s) :=
  .next (.ite (h.updK ..) h)

@[simp] theorem execLockMoveEnd (h : s.Canonical) (p code : Nat) (fb : Bool) : Out.Canonical (execLockMoveEnd p code fb s) :=
  .ite (.next ((h.updLock ..).irq ..)) (.next h)

@[simp] theorem execSafetyCycle (h : s.Canonical) (at_ kmir lkfb hgRb lgRb : Nat) (fault : Bool) :
    Out.Canonical (execSafetyCycle at_ kmir lkfb hgRb lgRb fault s) :=
  .ite (.next ((h.atTime ..).updSup ..)) (.ite (.next ((((h.atTime ..).updSup ..).foldl (fun _ _ ht => ht.cycleK ..)
      ..).takeSmbx)) (.ite (.next (((h.atTime ..).updSup ..).lockdown))
      (.next (((((((((((h.atTime ..).updSup ..).foldl (fun _ _ ht => ht.readbackK ..) ..).takeDusk).takeDemands).foldl
      (fun _ _ ht => ht.openK ..) ..).foldl (fun _ _ ht => ht.cycleK ..) ..).foldl (fun _ _ ht => ht.duskLock ..)
      ..).markOrdered).takeSmbx).settleSafety))))

/-! ### SafetyMailbox -/

@[simp] theorem execSafetyInitComplete (h : s.Canonical) (pass : Bool) (bad : Nat) :
    Out.Canonical (execSafetyInitComplete pass bad s) := by
  unfold Machine.execSafetyInitComplete
  refine .ite (.next h) (.ite (.next (((h.updSup ..).enterSt ..).settleSafety)) ?_)
  extract_lets _
  split
  · exact .next (h.activateSet ..)
  · exact .next ((h.enterSt ..).settleSafety)

@[simp] theorem runSmbx (h : s.Canonical) {f : Nat → Word → State → State × Nat × Word}
    (hf : ∀ x y t, t.Canonical → (f x y t).1.Canonical) (opc : Nat) :
    Out.Canonical (runSmbx opc f s) :=
  .ite (.next (((hf _ _ _ h).settleSafety).smbxReply ..)) (.next h)

@[simp] theorem execSfVetoRelease (h : s.Canonical) (at_ hbUs : Nat) : Out.Canonical (execSfVetoRelease at_ hbUs s) :=
  (h.atTime ..).runSmbx (fun _ _ _ ht => ht.notInDusk (fun _ _ _ hu => hu.vetoRelease ..) ..) ..

@[simp] theorem execSfHalt (h : s.Canonical) (at_ : Nat) : Out.Canonical (execSfHalt at_ s) :=
  (h.atTime ..).runSmbx (fun _ _ _ ht => ht.notInDusk (fun _ _ _ hu => hu.halt) ..) ..

@[simp] theorem execSfClose (h : s.Canonical) : Out.Canonical (execSfClose s) :=
  h.runSmbx (fun _ _ _ ht => ht.notInDusk (fun _ _ _ hu => hu.closeCmd ..) ..) ..

@[simp] theorem execSfOpen (h : s.Canonical) : Out.Canonical (execSfOpen s) :=
  h.runSmbx (fun _ _ _ ht => ht.notInDusk (fun _ _ _ hu => hu.openCmd ..) ..) ..

@[simp] theorem execSfLock (h : s.Canonical) : Out.Canonical (execSfLock s) :=
  h.runSmbx (fun _ _ _ ht => ht.notInDusk (fun _ _ _ hu => hu.lockCmd ..) ..) ..

@[simp] theorem execSfUnlock (h : s.Canonical) : Out.Canonical (execSfUnlock s) :=
  h.runSmbx (fun _ _ _ ht => ht.notInDusk (fun _ _ _ hu => hu.lockCmd ..) ..) ..

@[simp] theorem execSfParamBegin (h : s.Canonical) : Out.Canonical (execSfParamBegin s) :=
  h.runSmbx (fun _ _ _ ht => ht.notInDusk (fun _ _ _ hu => hu.paramBegin) ..) ..

@[simp] theorem execSfParamWrite (h : s.Canonical) : Out.Canonical (execSfParamWrite s) :=
  h.runSmbx (fun _ _ _ ht => ht.notInDusk (fun _ _ _ hu => hu.paramWrite ..) ..) ..

@[simp] theorem execSfParamCheck (h : s.Canonical) : Out.Canonical (execSfParamCheck s) :=
  h.runSmbx (fun _ _ _ ht => ht.notInDusk (fun _ _ _ hu => hu.paramCheckCmd) ..) ..

@[simp] theorem execSfParamConfirm (h : s.Canonical) : Out.Canonical (execSfParamConfirm s) :=
  h.runSmbx (fun _ _ _ ht => ht.notInDusk (fun _ _ _ hu => hu.paramConfirm ..) ..) ..

@[simp] theorem execSfParamAbort (h : s.Canonical) : Out.Canonical (execSfParamAbort s) :=
  h.runSmbx (fun _ _ _ ht => ht.notInDusk (fun _ _ _ hu => hu.paramAbort) ..) ..

@[simp] theorem execSfReadParam (h : s.Canonical) : Out.Canonical (execSfReadParam s) :=
  h.runSmbx (fun _ _ _ ht => ht.readParam ..) ..

@[simp] theorem execConnectionTimeout (h : s.Canonical) (c : Nat) : Out.Canonical (execConnectionTimeout c s) :=
  .ite (.ite (.next (h.connFault ..)) (.next (h.updConn ..))) (.next h)

@[simp] theorem execSafetyFrameRelay (h : s.Canonical) (init : Nat) (data : Word) :
    Out.Canonical (execSafetyFrameRelay init data s) :=
  .next (h.writeAt (fun _ ht => ht.rxctlWrite ..) ..)

@[simp] theorem execSafetyFrameReceive (h : s.Canonical) : Out.Canonical (execSafetyFrameReceive s) := by
  unfold Machine.execSafetyFrameReceive
  split
  · exact .next h
  · exact .next ((h.updSup ..).evalFrame ..)

@[simp] theorem execSafetyFrameSend (h : s.Canonical) (c : Nat) : Out.Canonical (execSafetyFrameSend c s) :=
  .ite (.next (.updConn (.irq (.setFld (.setFld (.setBit (.ite ((h.foldl (fun _ _ ht => ht.wr ..) ..).setBit ..)
      (h.foldl (fun _ _ ht => ht.wr ..) ..)) ..) ..) ..) ..) ..)) (.next h)

/-! ### Reset -/

@[simp] theorem execPowerOnReset (h : s.Canonical) : Out.Canonical (execPowerOnReset s) := .next (h.resetArrive ..)

@[simp] theorem execResetCauseArrive (h : s.Canonical) (codes : List Nat) : Out.Canonical (execResetCauseArrive codes s) :=
  .next (h.resetArrive ..)

@[simp] theorem execSupplyMonitorFall (h : s.Canonical) (rail : Nat) : Out.Canonical (execSupplyMonitorFall rail s) :=
  .next (.ite h (.ite h (.ite h ((((h.setBit ..).setBit ..).bankLost ..).railReaction ..))))

@[simp] theorem execSupplyMonitorGood (h : s.Canonical) (rail : Nat) : Out.Canonical (execSupplyMonitorGood rail s) :=
  .next (.ite h (.ite h (.ite ((h.setBit ..).auxVdrv ..) (h.setBit ..))))

@[simp] theorem execResetStretchEnd (h : s.Canonical) : Out.Canonical (execResetStretchEnd s) := by
  unfold Machine.execResetStretchEnd
  refine .next ?_
  split
  · exact h
  · exact .ite h (.ite h.frame (.ite h.frame h))

@[simp] theorem execRstNRequest (h : s.Canonical) (lowNs usSinceDriven : Nat) (holds : Bool) :
    Out.Canonical (execRstNRequest lowNs usSinceDriven holds s) :=
  .next (.ite h.frame (.ite ((h.frame.resetArrive ..).frame) (.ite ((h.frame.bumpFree.resetArrive ..).frame) h.frame.bumpFree)))

@[simp] theorem execLockstepMismatch (h : s.Canonical) (i : Nat) : Out.Canonical (execLockstepMismatch i s) :=
  .next (.ite (h.resetArrive ..) h)

@[simp] theorem execCoreResetRestart (h : s.Canonical) (i : Nat) : Out.Canonical (execCoreResetRestart i s) :=
  .next (.ite (.ite (h.frame.updClerk ..) h.frame) h)

@[simp] theorem execRstreqCoreReset (h : s.Canonical) (init clerks : Nat) : Out.Canonical (execRstreqCoreReset init clerks s) :=
  .next (h.writeAt (fun _ ht => ht.rstreqWrite ..) ..)

@[simp] theorem execRstreqSystemReset (h : s.Canonical) (init : Nat) : Out.Canonical (execRstreqSystemReset init s) :=
  .next (h.writeAt (fun _ ht => ht.rstreqWrite ..) ..)

@[simp] theorem execAutoRestart (h : s.Canonical) : Out.Canonical (execAutoRestart s) := .next (.ite (h.resetArrive ..) h)

@[simp] theorem execWdogKick (h : s.Canonical) (init : Nat) : Out.Canonical (execWdogKick init s) :=
  .next (h.writeAt (fun _ ht => ht.wdogKickWrite ..) ..)

@[simp] theorem execWatchdogExpiry (h : s.Canonical) (at_ : Nat) : Out.Canonical (execWatchdogExpiry at_ s) :=
  .next (.ite (.ite (((h.atTime ..).frame).enterDusk ..) (((h.atTime ..).frame).resetArrive ..)) (h.atTime ..))

/-! ### Dawn -/

@[simp] theorem execControlDieRelease (h : s.Canonical) (straps : Nat) (osc : Bool) :
    Out.Canonical (execControlDieRelease straps osc s) :=
  .next (.ite h.fuseLoad.frame h)

@[simp] theorem execXspiResetRelease (h : s.Canonical) : Out.Canonical (execXspiResetRelease s) := .next (.ite h h.frame)

@[simp] theorem execDawnSelfTestEnd (h : s.Canonical) (tel conv chk : List Nat) (retried rows cols minLeft : Nat) (ok : Bool) :
    Out.Canonical (execDawnSelfTestEnd tel conv chk retried rows cols minLeft ok s) :=
  .next (.ite (.ite ((((((h.sweepConv ..).sweepTel ..).sweepChk ..).count ..).wr ..).bootStart)
      ((((((h.sweepConv ..).sweepTel ..).sweepChk ..).count ..).wr ..).bootStop ..)) h)

@[simp] theorem execBootImageAttemptEnd (h : s.Canonical) (header payload : List Byte) :
    Out.Canonical (execBootImageAttemptEnd header payload s) :=
  .next (.ite (.ite (h.bootFail ..) (.ite h (.ite ((h.frame.memStore ..).bootAccept ..)
      (((h.frame.memStore ..).memStore ..).bootFail ..)))) h)

@[simp] theorem execFuseBlow (h : s.Canonical) (word : Nat) (bits : Word) : Out.Canonical (execFuseBlow word bits s) :=
  .next (.ite h h.frame)

@[simp] theorem execMachineTimerMatch (h : s.Canonical) (i time : Nat) : Out.Canonical (execMachineTimerMatch i time s) :=
  .next (.ite (h.updClerk ..) h)

/-! ### Jtag -/

@[simp] theorem execJtagExtest (h : s.Canonical) (bits : Nat) : Out.Canonical (execJtagExtest bits s) :=
  .next ((h.selectIr ..).updJtag ..)

@[simp] theorem execJtagSamplePreload (h : s.Canonical) (pins bits : Nat) : Out.Canonical (execJtagSamplePreload pins bits s) :=
  .next ((h.selectIr ..).updJtag ..)

@[simp] theorem execJtagIdcode (h : s.Canonical) : Out.Canonical (execJtagIdcode s) := .next (h.selectIr ..)

@[simp] theorem execJtagClamp (h : s.Canonical) : Out.Canonical (execJtagClamp s) := .next (h.selectIr ..)

@[simp] theorem execJtagHighz (h : s.Canonical) : Out.Canonical (execJtagHighz s) := .next (h.selectIr ..)

@[simp] theorem execJtagBypass (h : s.Canonical) : Out.Canonical (execJtagBypass s) := .next h.bypass

@[simp] theorem execJtagSysrst (h : s.Canonical) : Out.Canonical (execJtagSysrst s) :=
  .next (.ite h.bypass ((h.resetArrive ..).selectIr ..))

@[simp] theorem execJtagCorerst (h : s.Canonical) : Out.Canonical (execJtagCorerst s) :=
  .next (.ite h.bypass ((h.selectIr ..).resetArrive ..))

@[simp] theorem execJtagIntscan (h : s.Canonical) (clean : Bool) : Out.Canonical (execJtagIntscan clean s) :=
  .next (.ite (h.clearKeys.updJtag ..) ((h.selectIr ..).updJtag ..))

@[simp] theorem execIntscanExit (h : s.Canonical) : Out.Canonical (execIntscanExit s) := .next (.ite (h.resetArrive ..) h)

@[simp] theorem execJtagDtmcs (h : s.Canonical) : Out.Canonical (execJtagDtmcs s) :=
  .next (.ite ((h.selectIr ..).bumpFree) h.bypass)

@[simp] theorem execJtagDmi (h : s.Canonical) (op addr : Nat) (data : Word) (cycle : Nat) :
    Out.Canonical (execJtagDmi op addr data cycle s) :=
  .next (.ite h.bypass (.ite (((h.selectIr ..).dmRead ..).updJtag ..) (.ite ((h.selectIr ..).dmWrite ..) (h.selectIr ..))))

/-! ### Meter -/

@[simp] theorem execPulseWidthEnd (h : s.Canonical) (n : Nat) : Out.Canonical (execPulseWidthEnd n s) :=
  .ite (.next h.frame) (.ite (.next (h.frame.pulseKick ..)) (.next h))

@[simp] theorem execMeterBlockEnd (h : s.Canonical) (ac : Bool) (temp : Word) : Out.Canonical (execMeterBlockEnd ac temp s) :=
  .next (.ite (.ite ((h.mset ..).acBlock) ((h.mset ..).dcBlock)) h)

@[simp] theorem execAcCycleEnd (h : s.Canonical) (y0 y1 : Word) : Out.Canonical (execAcCycleEnd y0 y1 s) :=
  .next (.ite (h.endBlocks.nextCycle ..) h)

@[simp] theorem execMetrologySample (h : s.Canonical) (mods : List (List Word)) (clip : Nat) :
    Out.Canonical (execMetrologySample mods clip s) :=
  .next (.ite (((((h.endBlocks.filtered ..).markClips ..).acSample).frame).foldl (fun _ _ ht => ht.dcSample ..) ..) h)

@[simp] theorem execMramCommit (h : s.Canonical) (dt : Nat) (ok : Bool) : Out.Canonical (execMramCommit dt ok s) :=
  .ite (.next ((h.elapse ..).commit ..)) (.next (h.elapse ..))

@[simp] theorem execMeloskernBrownout (h : s.Canonical) (dt vst : Nat) (ok : Bool) :
    Out.Canonical (execMeloskernBrownout dt vst ok s) :=
  .ite (.next (h.elapse ..)) (.next (.nwCommit (.nwQueue (.frame (.commit (.ite (h.elapse ..) ((h.elapse ..).closeCycle)) ..))
      ..) ..))

@[simp] theorem execMeloskernStart (h : s.Canonical) (dt : Nat) (level : Bool) :
    Out.Canonical (execMeloskernStart dt level s) := by
  unfold Machine.execMeloskernStart
  extract_lets s _ _ _ _ s3 s4 s5 _ s6 _ s7 s8
  have hs : s.Canonical := h.elapse ..
  have hs3 : s3.Canonical := .ite hs.meterResume.frame.frame hs.meterResume.frame
  have hs4 : s4.Canonical := hs3.closeLost.event ..
  have hs5 : s5.Canonical := .ite (hs4.event ..) hs4
  have hs6 : s6.Canonical := .ite (hs5.frame.event ..) hs5
  have hs7 : s7.Canonical := .ite (hs6.frame.event ..) hs6
  have hs8 : s8.Canonical := hs7.foldl (fun _ _ ht => ht.nwRecord ..) ..
  exact .ite (.next hs) (.next (hs8.frame.nwCounts.newIvl ..))

@[simp] theorem execClockRatioWindow (h : s.Canonical) (dt ratio mOff nwOff : Nat) :
    Out.Canonical (execClockRatioWindow dt ratio mOff nwOff s) := by
  unfold Machine.execClockRatioWindow
  extract_lets s s1
  have hs : s.Canonical := h.elapse ..
  have hs1 : s1.Canonical := (hs.mset ..).mset ..
  exact .ite (.next hs) (.ite (.ite (.next hs1.frame) (.next hs1.suspend))
      (.ite (.ite (.next hs1.frame.resume) (.next hs1.frame)) (.next hs1)))

/-! ### Ledger -/

@[simp] theorem execMailboxDoorbell (h : s.Canonical) (init : Nat) : Out.Canonical (execMailboxDoorbell init s) :=
  .next (h.writeAt (fun _ ht => ht.doorWrite ..) ..)

@[simp] theorem execMailboxCancel (h : s.Canonical) (init : Nat) (pend : Bool) :
    Out.Canonical (execMailboxCancel init pend s) :=
  .next (h.writeAt (fun _ ht => ht.doorWrite ..) ..)

@[simp] theorem execMirrorStale (h : s.Canonical) : Out.Canonical (execMirrorStale s) :=
  .ite (.next (.ite ((h.setBit ..).postOwn ..) (h.setBit ..))) (.next h)

@[simp] theorem execReplyPosted (h : s.Canonical) : Out.Canonical (execReplyPosted s) := by
  unfold Machine.execReplyPosted
  split
  · exact .next h
  · exact .ite (.ite (.next (((((h.frame.foldl (fun _ _ ht => ht.wr ..) ..).foldl (fun _ _ ht => ht.wr ..) ..).setBit
        ..).frame).setBit ..)) (.next (((h.frame.foldl (fun _ _ ht => ht.wr ..) ..).foldl (fun _ _ ht => ht.wr ..) ..).setBit
        ..))) (.next h.frame)

@[simp] theorem execMbxNop (h : s.Canonical) : Out.Canonical (execMbxNop s) := .next (h.runAs (fun _ _ _ ht => ht.mbxNop) ..)

@[simp] theorem execSessionOpen (h : s.Canonical) : Out.Canonical (execSessionOpen s) :=
  .next (h.runAs (fun _ _ _ ht => ht.sessionOpen ..) ..)

@[simp] theorem execSessionClose (h : s.Canonical) : Out.Canonical (execSessionClose s) :=
  .next (h.runAs (fun _ _ _ ht => ht.sessionClose ..) ..)

@[simp] theorem execLedgerRead (h : s.Canonical) : Out.Canonical (execLedgerRead s) :=
  .next (h.runAs (fun _ _ _ ht => ht.ledgerRead ..) ..)

@[simp] theorem execLedgerExport (h : s.Canonical) : Out.Canonical (execLedgerExport s) :=
  .next (h.runAs (fun _ _ _ ht => ht.ledgerExport ..) ..)

@[simp] theorem execTimeSet (h : s.Canonical) : Out.Canonical (execTimeSet s) :=
  .next (h.runAs (fun _ _ _ ht => ht.timeSet ..) ..)

@[simp] theorem execCommBegin (h : s.Canonical) : Out.Canonical (execCommBegin s) :=
  .next (h.runAs (fun _ _ _ ht => ht.commBegin) ..)

@[simp] theorem execCommWrite (h : s.Canonical) : Out.Canonical (execCommWrite s) :=
  .next (h.runAs (fun _ _ _ ht => ht.commWrite ..) ..)

@[simp] theorem execCommCommit (h : s.Canonical) : Out.Canonical (execCommCommit s) :=
  .next (h.runAs (fun _ _ _ ht => ht.commCommit ..) ..)

@[simp] theorem execCommAbort (h : s.Canonical) : Out.Canonical (execCommAbort s) :=
  .next (h.runAs (fun _ _ _ ht => ht.commAbort) ..)

@[simp] theorem execKeygen (h : s.Canonical) : Out.Canonical (execKeygen s) := .next (h.runAs (fun _ _ _ ht => ht.keyGen) ..)

@[simp] theorem execLedgerPoll (h : s.Canonical) (dt : Nat) : Out.Canonical (execLedgerPoll dt s) :=
  .next (.ite (h.elapse ..) (.ite (((h.elapse ..).runTaken).frame)
      (.ite (((h.elapse ..).runTaken).takeCmd ..) (((h.elapse ..).runTaken).pollRest ..))))

@[simp] theorem execPollTimeout (h : s.Canonical) (dt : Nat) : Out.Canonical (execPollTimeout dt s) :=
  .next (((h.elapse ..).runTaken).frame)

@[simp] theorem execControlDieLoss (h : s.Canonical) (dt : Nat) : Out.Canonical (execControlDieLoss dt s) :=
  .next (.ite (((((h.elapse ..).runTaken).closeAll).frame).event ..) (h.elapse ..))

@[simp] theorem execSessionTailSign (h : s.Canonical) : Out.Canonical (execSessionTailSign s) := .ite (.next h.signTail) (.next h)

@[simp] theorem execIntervalBoundary (h : s.Canonical) (dt : Nat) : Out.Canonical (execIntervalBoundary dt s) :=
  .ite (.next ((h.elapse ..).closeIvl ..)) (.next (h.elapse ..))

@[simp] theorem execSealChange (h : s.Canonical) (dt : Nat) (level : Bool) : Out.Canonical (execSealChange dt level s) :=
  .ite (.ite (.next ((((h.elapse ..).frame).event ..).frame))
      (.next (.ite ((((h.elapse ..).frame).event ..).commEnd ..) (((h.elapse ..).frame).event ..)))) (.next (h.elapse ..))

/-! ### Oxernal -/

@[simp] theorem execOxLaneEnable (h : s.Canonical) (init n : Nat) : Out.Canonical (execOxLaneEnable init n s) :=
  .next (h.writeAt (fun _ ht => ht.oxCtrlWrite ..) ..)

@[simp] theorem execOxLaneDisable (h : s.Canonical) (init n : Nat) : Out.Canonical (execOxLaneDisable init n s) :=
  .next (h.writeAt (fun _ ht => ht.oxCtrlWrite ..) ..)

@[simp] theorem execOxRetrain (h : s.Canonical) (init n : Nat) : Out.Canonical (execOxRetrain init n s) :=
  .next (h.writeAt (fun _ ht => ht.oxCtrlWrite ..) ..)

@[simp] theorem execOxSlot (h : s.Canonical) (n : Nat) : Out.Canonical (execOxSlot n s) := .next (.ite (h.updLane ..) h)

@[simp] theorem execOxAlignDone (h : s.Canonical) (n : Nat) : Out.Canonical (execOxAlignDone n s) :=
  .next (.ite ((h.oxEnter ..).updLane ..) h)

@[simp] theorem execOfferReceive (h : s.Canonical) (n : Nat) (frame : List Symbol) :
    Out.Canonical (execOfferReceive n frame s) := by
  unfold Machine.execOfferReceive
  refine .next (.ite h ?_)
  split
  · exact h.oxRefuse ..
  · exact .ite (h.oxRefuse ..) (.ite h (h.oxOffered ..))

@[simp] theorem execSelectAckReceive (h : s.Canonical) (n : Nat) (frame : List Symbol) (at_ : Nat) :
    Out.Canonical (execSelectAckReceive n frame at_ s) := by
  unfold Machine.execSelectAckReceive
  refine .next (.ite h ?_)
  split
  · exact h.oxRefuse ..
  · exact .ite (h.oxRefuse ..) (.ite ((h.atTime ..).oxUp ..) h)

@[simp] theorem execTrainTimeout (h : s.Canonical) (n at_ : Nat) : Out.Canonical (execTrainTimeout n at_ s) :=
  .next (h.clocked (fun _ ht => .ite ((((ht.atTime ..).oxEnter ..).setBit ..).irq ..) ht) ..)

@[simp] theorem execOxRetry (h : s.Canonical) (n at_ : Nat) : Out.Canonical (execOxRetry n at_ s) :=
  .next (h.clocked (fun _ ht => .ite ((ht.atTime ..).oxEnter ..) ht) ..)

@[simp] theorem execReportReceive (h : s.Canonical) (n : Nat) (frame : List Symbol) (at_ : Nat) :
    Out.Canonical (execReportReceive n frame at_ s) := by
  unfold Machine.execReportReceive
  refine .next (.ite h ?_)
  split
  · exact h.oxRefuse ..
  · exact .ite (h.oxRefuse ..) (.ite h ((h.atTime ..).oxReport ..))

@[simp] theorem execOxCodeError (h : s.Canonical) (n symbol : Nat) : Out.Canonical (execOxCodeError n symbol s) :=
  .next (.ite (.ite (.ite (((((h.count ..).setBit ..).irq ..).updLane ..).oxLoss ..)
      ((((h.count ..).setBit ..).irq ..).updLane ..)) (((h.count ..).setBit ..).irq ..)) h)

@[simp] theorem execReportLoss (h : s.Canonical) (n at_ : Nat) : Out.Canonical (execReportLoss n at_ s) :=
  .next (h.clocked (fun _ ht => .ite ((ht.atTime ..).oxLoss ..) ht) ..)

@[simp] theorem execSatRead (h : s.Canonical) (init n reg : Nat) : Out.Canonical (execSatRead init n reg s) :=
  .next (h.writeAt (fun _ ht => ht.sacmdWrite ..) ..)

@[simp] theorem execSatWrite (h : s.Canonical) (init n reg : Nat) : Out.Canonical (execSatWrite init n reg s) :=
  .next (h.writeAt (fun _ ht => ht.sacmdWrite ..) ..)

@[simp] theorem execSatSelftest (h : s.Canonical) (init n test : Nat) : Out.Canonical (execSatSelftest init n test s) :=
  .next (h.writeAt (fun _ ht => ht.sacmdWrite ..) ..)

@[simp] theorem execSatStream (h : s.Canonical) (init n sel : Nat) : Out.Canonical (execSatStream init n sel s) :=
  .next (h.writeAt (fun _ ht => ht.sacmdWrite ..) ..)

@[simp] theorem execSatCommandTimeout (h : s.Canonical) (n : Nat) : Out.Canonical (execSatCommandTimeout n s) :=
  .next (.ite ((((h.setBit ..).setBit ..).irq ..).updLane ..) h)

/-! ### Pilot -/

@[simp] theorem execPilotDutyEnd (h : s.Canonical) (n : Nat) : Out.Canonical (execPilotDutyEnd n s) :=
  .next (h.clocked (fun _ ht => .ite (ht.cpDrive ..) ht) ..)

@[simp] theorem execPilotPeriodEnd (h : s.Canonical) (n late : Nat) (cp pp : List Nat) :
    Out.Canonical (execPilotPeriodEnd n late cp pp s) :=
  .next (h.clocked (fun _ ht => .ite (.cpStart (.updCp (.ite
      (.cpAction (.irq (.setFld (.updCp (.setFld (.setBit (.ite (((ht.cpMeasure ..).wr ..).irq ..) ((ht.cpMeasure ..).wr ..))
      ..) ..) ..) ..) ..) ..) (.updCp (.setFld (.setBit (.ite (((ht.cpMeasure ..).wr ..).irq ..) ((ht.cpMeasure ..).wr ..)) ..)
      ..) ..)) ..) ..) ht) ..)

/-! ### Recorder -/

@[simp] theorem execRecorderRow (h : s.Canonical) (at_ cycle : Nat) : Out.Canonical (execRecorderRow at_ cycle s) :=
  .next ((h.atTime ..).clocked (fun _ ht => .ite (.ite (.ite
      (.irq (.setFld (.updRec (.wr (.recWrite (.updRec (.ite ht.recTrigRow ht) ..) ..) ..) ..) ..) ..)
      (.updRec (.wr (.recWrite (.updRec (.ite ht.recTrigRow ht) ..) ..) ..) ..))
      (.wr (.recWrite (.updRec (.ite ht.recTrigRow ht) ..) ..) ..)) ht) ..)

@[simp] theorem execRecorderTrigger (h : s.Canonical) (events : Nat) (lines : List Nat) :
    Out.Canonical (execRecorderTrigger events lines s) :=
  .next (h.clocked (fun _ ht => ht.recTrigger ..) ..)

@[simp] theorem execRecorderSwtrig (h : s.Canonical) (init : Nat) : Out.Canonical (execRecorderSwtrig init s) :=
  .next (h.writeAt (fun _ ht => ht.trigctlWrite ..) ..)

@[simp] theorem execRecorderArm (h : s.Canonical) (init : Nat) : Out.Canonical (execRecorderArm init s) :=
  .next (h.writeAt (fun _ ht => ht.trigctlWrite ..) ..)

/-! ### Access -/

@[simp] theorem execRegisterWrite (h : s.Canonical) (init addr len : Nat) (data : Word) (sub tick : Nat) :
    Out.Canonical (execRegisterWrite init addr len data sub tick s) :=
  .next (h.access (fun _ ht => ht.withReaction (fun _ hu => hu.regAccess ..) ..) ..)

@[simp] theorem execPageSoftReset (h : s.Canonical) (init base : Nat) (data : Word) :
    Out.Canonical (execPageSoftReset init base data s) :=
  .next (.ite (h.errorResp ..) (h.access (fun _ ht => ht.withReaction (fun _ hu => hu.regAccess ..) ..) ..))

@[simp] theorem execSoftResetComplete (h : s.Canonical) (base : Nat) : Out.Canonical (execSoftResetComplete base s) :=
  .next (.ite h.frame.retryWaiting h)

@[simp] theorem execStoppedDomainRestart (h : s.Canonical) (dom : ClockDomain) :
    Out.Canonical (execStoppedDomainRestart dom s) :=
  .next (.ite (.retryWaiting (.ite (h.foldl (fun _ _ ht => ht.uvRefresh ..) ..) h)) h)

/-! ### Bus -/

@[simp] theorem execSlipGrant (h : s.Canonical) (port cycle target tick us : Nat) (events : Word) (ecc : Option EccError) :
    Out.Canonical (execSlipGrant port cycle target tick us events ecc s) := by
  unfold Machine.execSlipGrant
  refine .next (h.clocked (fun _ ht => ?_) ..)
  split
  · exact ht
  · exact ((ht.noteGrant ..).applySlip ..).noteCollision ..

@[simp] theorem execSlipIssue (h : s.Canonical) (init addr : Nat) (write : Bool) (bytes : List Byte) (enables : List Bool)
    (len cycle sub us : Nat) (kind : SlipKind) (ecc : Option EccError) :
    Out.Canonical (execSlipIssue init addr write bytes enables len cycle sub us kind ecc s) :=
  .next (.ite h (.ite (h.updClerk ..) (.ite (h.errorResp ..) (.ite (h.tcmAccess ..) (h.issue ..)))))

@[simp] theorem execSlipComplete (h : s.Canonical) (coin cycle : Nat) : Out.Canonical (execSlipComplete coin cycle s) := by
  unfold Machine.execSlipComplete
  refine .next (h.clocked (fun _ ht => ?_) ..)
  split
  · exact ht
  · exact .ite ((((ht.noteLatency ..).response ..).returnCoin ..).dmaServe) ht

@[simp] theorem execPerturbCoinReturn (h : s.Canonical) (coin cycle : Nat) :
    Out.Canonical (execPerturbCoinReturn coin cycle s) :=
  .next (h.clocked (fun _ ht => .ite (((ht.frame.unstall ..).fabRefresh).dmaServe) ht) ..)

/-! ### Nightwatch -/

@[simp] theorem execNightwatchStart (h : s.Canonical) (dt : Nat) : Out.Canonical (execNightwatchStart dt s) :=
  .ite (.next (h.elapse ..)) (.next (((((h.elapse ..).mset ..).frame).nwQueue ..).newIvl ..))

@[simp] theorem execNightwatchDeath (h : s.Canonical) (dt : Nat) : Out.Canonical (execNightwatchDeath dt s) :=
  .ite (.next (((h.elapse ..).frame).nwCounts)) (.next (h.elapse ..))

@[simp] theorem execVocMeasure (h : s.Canonical) (voc : Nat) : Out.Canonical (execVocMeasure voc s) :=
  .ite (.next (h.mwr ..)) (.next h)

@[simp] theorem execColdStartExit (h : s.Canonical) (vst : Nat) : Out.Canonical (execColdStartExit vst s) :=
  .ite (.next h.frame) (.next h)

@[simp] theorem execChargeLimitReached (h : s.Canonical) (vst : Nat) : Out.Canonical (execChargeLimitReached vst s) :=
  .ite (.next h.frame) (.next h)

@[simp] theorem execChargeResume (h : s.Canonical) (vst : Nat) : Out.Canonical (execChargeResume vst s) :=
  .ite (.next h.frame) (.next h)

@[simp] theorem execGaugeUpdate (h : s.Canonical) (dt vst : Nat) : Out.Canonical (execGaugeUpdate dt vst s) :=
  .ite (.next (((h.elapse ..).measureVst ..).nwCommit ..)) (.next (h.elapse ..))

@[simp] theorem execTamperSample (h : s.Canonical) (loop dt vst : Nat) (pre post : Bool) :
    Out.Canonical (execTamperSample loop dt vst pre post s) :=
  .ite (.ite (.next (((((h.elapse ..).frame).nwQueue ..).frame).nwCommit ..)) (.next ((h.elapse ..).frame)))
      (.next (h.elapse ..))

@[simp] theorem execQueueTransfer (h : s.Canonical) (dt : Nat) : Out.Canonical (execQueueTransfer dt s) := by
  unfold Machine.execQueueTransfer
  refine .ite ?_ (.next (h.elapse ..))
  split
  · exact .next (h.elapse ..)
  · exact .next ((((h.elapse ..).frame).nwRecord ..).nwCounts)

/-! ### TellerCtl -/

@[simp] theorem execOpEnd (h : s.Canonical) (n : Nat) (w : Word) : Out.Canonical (execOpEnd n w s) := .next (h.slotOp ..)

@[simp] theorem execOpBr (h : s.Canonical) (n : Nat) (w : Word) : Out.Canonical (execOpBr n w s) := .next (h.slotOp ..)

@[simp] theorem execOpLoop (h : s.Canonical) (n : Nat) (w : Word) : Out.Canonical (execOpLoop n w s) := .next (h.slotOp ..)

@[simp] theorem execOpCmp (h : s.Canonical) (n : Nat) (w : Word) : Out.Canonical (execOpCmp n w s) := .next (h.slotOp ..)

@[simp] theorem execOpCmpi (h : s.Canonical) (n : Nat) (w : Word) : Out.Canonical (execOpCmpi n w s) := .next (h.slotOp ..)

@[simp] theorem execOpPset (h : s.Canonical) (n : Nat) (w : Word) : Out.Canonical (execOpPset n w s) := .next (h.slotOp ..)

@[simp] theorem execOpPlog (h : s.Canonical) (n : Nat) (w : Word) : Out.Canonical (execOpPlog n w s) := .next (h.slotOp ..)

@[simp] theorem execOpPsat (h : s.Canonical) (n : Nat) (w : Word) : Out.Canonical (execOpPsat n w s) := .next (h.slotOp ..)

/-! ### TellerMath -/

@[simp] theorem aluOp (h : s.Canonical) (n : Nat) (m1 : Bool) (w : Word) (opc : Nat) (f : Run → Word) :
    Out.Canonical (aluOp n m1 w opc f s) :=
  .next (h.slotOp ..)

@[simp] theorem satOp (h : s.Canonical) (n : Nat) (m1 : Bool) (w : Word) (opc : Nat) (f : Run → Int) :
    Out.Canonical (satOp n m1 w opc f s) :=
  .next (h.slotOp ..)

@[simp] theorem stallOp (h : s.Canonical) (n : Nat) (w : Word) (opc : Nat) (sc : Bool) (f : Run → Run) :
    Out.Canonical (stallOp n w opc sc f s) :=
  .next (h.slotOp ..)

@[simp] theorem execOpMac (h : s.Canonical) (n : Nat) (m1 : Bool) (w : Word) : Out.Canonical (execOpMac n m1 w s) :=
  .next (h.slotOp ..)

@[simp] theorem execOpMsu (h : s.Canonical) (n : Nat) (m1 : Bool) (w : Word) : Out.Canonical (execOpMsu n m1 w s) :=
  .next (h.slotOp ..)

@[simp] theorem execOpMul (h : s.Canonical) (n : Nat) (m1 : Bool) (w : Word) : Out.Canonical (execOpMul n m1 w s) :=
  .next (h.slotOp ..)

@[simp] theorem execOpAccld (h : s.Canonical) (n : Nat) (m1 : Bool) (w : Word) : Out.Canonical (execOpAccld n m1 w s) :=
  .next (h.slotOp ..)

@[simp] theorem execOpMova (h : s.Canonical) (n : Nat) (m1 : Bool) (w : Word) : Out.Canonical (execOpMova n m1 w s) :=
  .next (h.slotOp ..)

@[simp] theorem execOpAccclr (h : s.Canonical) (n : Nat) (m1 : Bool) (w : Word) : Out.Canonical (execOpAccclr n m1 w s) :=
  .next (h.slotOp ..)

@[simp] theorem execOpMov (h : s.Canonical) (n : Nat) (m1 : Bool) (w : Word) : Out.Canonical (execOpMov n m1 w s) := h.aluOp ..

@[simp] theorem execOpAdd (h : s.Canonical) (n : Nat) (m1 : Bool) (w : Word) : Out.Canonical (execOpAdd n m1 w s) := h.aluOp ..

@[simp] theorem execOpAdds (h : s.Canonical) (n : Nat) (m1 : Bool) (w : Word) : Out.Canonical (execOpAdds n m1 w s) := h.satOp ..

@[simp] theorem execOpSub (h : s.Canonical) (n : Nat) (m1 : Bool) (w : Word) : Out.Canonical (execOpSub n m1 w s) := h.aluOp ..

@[simp] theorem execOpSubs (h : s.Canonical) (n : Nat) (m1 : Bool) (w : Word) : Out.Canonical (execOpSubs n m1 w s) := h.satOp ..

@[simp] theorem execOpNeg (h : s.Canonical) (n : Nat) (m1 : Bool) (w : Word) : Out.Canonical (execOpNeg n m1 w s) := h.satOp ..

@[simp] theorem execOpAbs (h : s.Canonical) (n : Nat) (m1 : Bool) (w : Word) : Out.Canonical (execOpAbs n m1 w s) := h.satOp ..

@[simp] theorem execOpMin (h : s.Canonical) (n : Nat) (m1 : Bool) (w : Word) : Out.Canonical (execOpMin n m1 w s) := h.aluOp ..

@[simp] theorem execOpMax (h : s.Canonical) (n : Nat) (m1 : Bool) (w : Word) : Out.Canonical (execOpMax n m1 w s) := h.aluOp ..

@[simp] theorem execOpAnd (h : s.Canonical) (n : Nat) (m1 : Bool) (w : Word) : Out.Canonical (execOpAnd n m1 w s) := h.aluOp ..

@[simp] theorem execOpOr (h : s.Canonical) (n : Nat) (m1 : Bool) (w : Word) : Out.Canonical (execOpOr n m1 w s) := h.aluOp ..

@[simp] theorem execOpXor (h : s.Canonical) (n : Nat) (m1 : Bool) (w : Word) : Out.Canonical (execOpXor n m1 w s) := h.aluOp ..

@[simp] theorem execOpShl (h : s.Canonical) (n : Nat) (m1 : Bool) (w : Word) : Out.Canonical (execOpShl n m1 w s) := h.aluOp ..

@[simp] theorem execOpShra (h : s.Canonical) (n : Nat) (m1 : Bool) (w : Word) : Out.Canonical (execOpShra n m1 w s) := h.aluOp ..

@[simp] theorem execOpShrl (h : s.Canonical) (n : Nat) (m1 : Bool) (w : Word) : Out.Canonical (execOpShrl n m1 w s) := h.aluOp ..

@[simp] theorem execOpMulq (h : s.Canonical) (n : Nat) (m1 : Bool) (w : Word) : Out.Canonical (execOpMulq n m1 w s) := h.satOp ..

@[simp] theorem execOpClamp (h : s.Canonical) (n : Nat) (m1 : Bool) (w : Word) : Out.Canonical (execOpClamp n m1 w s) :=
  h.aluOp ..

@[simp] theorem execOpMovi (h : s.Canonical) (n : Nat) (m1 : Bool) (w : Word) : Out.Canonical (execOpMovi n m1 w s) :=
  .next (h.slotOp ..)

@[simp] theorem execOpMovih (h : s.Canonical) (n : Nat) (m1 : Bool) (w : Word) : Out.Canonical (execOpMovih n m1 w s) :=
  .next (h.slotOp ..)

@[simp] theorem execOpBiq (h : s.Canonical) (n : Nat) (w : Word) : Out.Canonical (execOpBiq n w s) := h.stallOp ..

@[simp] theorem execOpClarke (h : s.Canonical) (n : Nat) (w : Word) : Out.Canonical (execOpClarke n w s) := h.stallOp ..

@[simp] theorem execOpIclarke (h : s.Canonical) (n : Nat) (w : Word) : Out.Canonical (execOpIclarke n w s) := h.stallOp ..

@[simp] theorem execOpPark (h : s.Canonical) (n : Nat) (w : Word) : Out.Canonical (execOpPark n w s) := h.stallOp ..

@[simp] theorem execOpIpark (h : s.Canonical) (n : Nat) (w : Word) : Out.Canonical (execOpIpark n w s) := h.stallOp ..

@[simp] theorem execOpQmac (h : s.Canonical) (n : Nat) (m1 : Bool) (w : Word) : Out.Canonical (execOpQmac n m1 w s) :=
  .next (h.slotOp ..)

@[simp] theorem execOpQmsu (h : s.Canonical) (n : Nat) (m1 : Bool) (w : Word) : Out.Canonical (execOpQmsu n m1 w s) :=
  .next (h.slotOp ..)

@[simp] theorem execOpQmul (h : s.Canonical) (n : Nat) (m1 : Bool) (w : Word) : Out.Canonical (execOpQmul n m1 w s) :=
  .next (h.slotOp ..)

@[simp] theorem execOpQaccld (h : s.Canonical) (n : Nat) (m1 : Bool) (w : Word) : Out.Canonical (execOpQaccld n m1 w s) :=
  .next (h.slotOp ..)

@[simp] theorem execOpQmova (h : s.Canonical) (n : Nat) (m1 : Bool) (w : Word) : Out.Canonical (execOpQmova n m1 w s) :=
  .next (h.slotOp ..)

@[simp] theorem execOpPack (h : s.Canonical) (n : Nat) (m1 : Bool) (w : Word) : Out.Canonical (execOpPack n m1 w s) :=
  .next (h.slotOp ..)

@[simp] theorem execOpUnpk (h : s.Canonical) (n : Nat) (m1 : Bool) (w : Word) : Out.Canonical (execOpUnpk n m1 w s) :=
  .next (h.slotOp ..)

@[simp] theorem execOpQadds (h : s.Canonical) (n : Nat) (m1 : Bool) (w : Word) : Out.Canonical (execOpQadds n m1 w s) :=
  .next (h.slotOp ..)

@[simp] theorem execOpQsubs (h : s.Canonical) (n : Nat) (m1 : Bool) (w : Word) : Out.Canonical (execOpQsubs n m1 w s) :=
  .next (h.slotOp ..)

@[simp] theorem execOpQbiq (h : s.Canonical) (n : Nat) (w : Word) : Out.Canonical (execOpQbiq n w s) := h.stallOp ..

@[simp] theorem execOpQclarke (h : s.Canonical) (n : Nat) (w : Word) : Out.Canonical (execOpQclarke n w s) := h.stallOp ..

@[simp] theorem execOpQiclarke (h : s.Canonical) (n : Nat) (w : Word) : Out.Canonical (execOpQiclarke n w s) := h.stallOp ..

@[simp] theorem execOpQpark (h : s.Canonical) (n : Nat) (w : Word) : Out.Canonical (execOpQpark n w s) := h.stallOp ..

@[simp] theorem execOpQipark (h : s.Canonical) (n : Nat) (w : Word) : Out.Canonical (execOpQipark n w s) := h.stallOp ..

@[simp] theorem execOpNop (h : s.Canonical) (n slot : Nat) (w : Word) : Out.Canonical (execOpNop n slot w s) :=
  .next (h.slotOp ..)

/-! ### Dispatch -/

theorem exec (h : s.Canonical) (i : Instr) : Out.Canonical (exec i s) := by
  cases i <;> simp [Machine.exec, h]

theorem step (h : s.Canonical) : Out.Canonical (step s) := by
  unfold Machine.step
  split
  · exact h
  · exact h.frame.exec _

end State.Canonical

/-- Settles O59: the command's arm keeps both lists canonical, and taking it off the queue touches neither. -/
theorem everyStepKeepsTheCanonicalForms : Obligations.EveryStepKeepsTheCanonicalForms := by
  unfold Obligations.EveryStepKeepsTheCanonicalForms
  intro s t hmem hregs hstep
  have hs : s.Canonical := (State.canonical_iff s).2 ⟨hmem, hregs⟩
  have ht : Out.Canonical (step s) := hs.step
  rw [hstep] at ht
  exact (State.canonical_iff t).1 ht

end Sys2Proof.Machine
end

section
/-!
Two statements about the register pages that fail: what the test key takes for a system reset (R91, R150), and what the choice of
a version changes besides the page (R144, R248, R253).
-/
namespace Sys2Proof.Machine

/-- Dawn has ended, no reset is in progress, the ordered shutdown has not been entered, and the test key is held. -/
def testKeyHeld : State :=
  { ({} : State) with
    regs := [(SYS.STAT, 0x200)]
    rst := { stretch := none, dawn := .running, dusk := false } }

/-- A cause whose source cannot raise it starts no reset: the state stands. -/
theorem execResetCauseArrive_of_not_stands {s : State} {c : Nat} (h : s.causeStands c = false) :
    exec (.resetCauseArrive [c]) s = .next s := by
  change Host.Outcome.next (s.resetArrive ([c].filter s.causeStands)) = .next s
  simp [h, State.resetArrive, State.acceptedCauses, bestCause]

/-- Outside the ordered shutdown no automatic restart is due: cause 0x14 is not raised. -/
theorem causeStands_restart_of_not_dusk {s : State} (h : s.rst.dusk = false) : s.causeStands 0x14 = false := by
  simp [State.causeStands, h]

/-- Refutes O58: its third clause takes every system-level code for a system reset, also one whose source cannot raise it. The
automatic restart's code 0x14, arriving outside Dusk, is no reset: the state stands, and with it the key. -/
theorem not_testKeyIsTakenInOpenOrOpenedDebug : ¬ Obligations.TestKeyIsTakenInOpenOrOpenedDebug := by
  unfold Obligations.TestKeyIsTakenInOpenOrOpenedDebug
  intro h
  obtain ⟨-, -, hreset⟩ := h testKeyHeld 0
  have hno : testKeyHeld.noReset := ⟨rfl, by decide⟩
  obtain ⟨t, ht, hdropped⟩ := hreset 0x14 hno (by decide)
  have hstands : exec (.resetCauseArrive [0x14]) testKeyHeld = .next testKeyHeld :=
    execResetCauseArrive_of_not_stands (causeStands_restart_of_not_dusk rfl)
  have hkept : t = testKeyHeld := by
    rw [hstands] at ht
    exact (Host.Outcome.next.inj ht).symm
  have hheld : testKeyHeld.bit SYS.STAT 9 = true := by decide
  rw [hkept, hheld] at hdropped
  exact Bool.noConfusion hdropped

/-- Dawn has ended and every clock runs. PCMP is disabled and shows version 1; a claim that has ended left PC0 enabled (R253), with
6 bits and THR = 63: a threshold of 38 mV in version 1 and of 0 mV in version 2 (R248). Its input stands at 20 mV. -/
def claimLeftPc0On : State :=
  { ({} : State) with
    regs := [(ADPLLA + 0x50, 0x80000000), (ADPLLB + 0x50, 0x80000000), (PCMP.base + 0x08, 1), (PCMP.base + 0x80, 0x8000003F),
      (0x400A800C, 1)]
    rst := { stretch := none, rstnLow := false, veto := false, vetoHold := false, dawn := .running }
    cmp := upd ({} : State).cmp 48 (fun c => { c with cfg := 0x8000003F, kept := true, vin := 20000000 }) }

theorem claimLeftPc0On_answers : claimLeftPc0On.mustWait (waitKey PCMP.base).1 PCMP.base = false := by decide +kernel

theorem claimLeftPc0On_selectable : claimLeftPc0On.locked PCMP.base = false ∧ claimLeftPc0On.en PCMP.base = false := by decide +kernel

/-- Version 2 is selected, and the moved threshold raises PC0's line. -/
theorem ifverSelect_claimLeftPc0On :
    ∃ t, exec (.ifverSelect 0 PCMP.base 2) claimLeftPc0On = .next t ∧ t.line 48 = true ∧ claimLeftPc0On.line 48 = false := by
  refine ⟨_, rfl, ?_⟩
  decide +kernel

/-- Refutes O10: a version selected on PCMP moves the thresholds of the comparators that are on (R248), and a comparator that a
claim has left enabled is on though its page is disabled (R253): more than the response changes. -/
theorem not_locksVersionsAndKeysGuardThePages : ¬ Obligations.LocksVersionsAndKeysGuardThePages := by
  unfold Obligations.LocksVersionsAndKeysGuardThePages
  intro h
  obtain ⟨-, -, hselect, -⟩ := h claimLeftPc0On 0
  obtain ⟨hlocked, hen⟩ := claimLeftPc0On_selectable
  obtain ⟨t, ht, -, -, -, hframe⟩ :=
    hselect PCMP.base 2 (by decide) claimLeftPc0On_answers hlocked hen (by decide)
  obtain ⟨u, hu, hraised, hbefore⟩ := ifverSelect_claimLeftPc0On
  have heq : t = u := Host.Outcome.next.inj (ht.symm.trans hu)
  have hline : t.line 48 = claimLeftPc0On.line 48 := by rw [hframe]; rfl
  rw [heq, hraised, hbefore] at hline
  exact Bool.noConfusion hline

end Sys2Proof.Machine
end

section
/-!
What an error response records (R148, R173), and how interrupt sources are claimed and completed (R152, R153).
-/
namespace Sys2Proof.Machine

/-! ### The capture of an error in SYS (R148) -/

section
variable (s : State) (init a : Nat) (c : Cause) (w : Bool)

/-- The word that ERRINFO takes: VALID, OVF as it stands, the initiator, the cause and the direction. -/
def errorWord : Word :=
  Word.ofNat (2 ^ 31 + b2n (s.bit SYS.ERRINFO 30) * 2 ^ 30 + (init % 256) * 2 ^ 16 + c.code * 2 ^ 8 + b2n w)

theorem errorWord_fields : tb (errorWord s init c w) 31 = true ∧ bitsOf (errorWord s init c w) 23 16 = init % 256 ∧
    bitsOf (errorWord s init c w) 15 8 = c.code ∧ tb (errorWord s init c w) 0 = w := by
  have hcode : c.code < 256 := by cases c <;> decide
  have hovf : b2n (s.bit SYS.ERRINFO 30) ≤ 1 := by cases s.bit SYS.ERRINFO 30 <;> decide
  have hdir : b2n w ≤ 1 := by cases w <;> decide
  unfold errorWord
  refine ⟨?valid, ?init, ?cause, ?dir⟩
  case valid =>
    rw [tb_ofNat _ (by decide), Nat.testBit_eq_decide_div_mod_eq, decide_eq_true_eq]
    omega
  case init => rw [bitsOf_ofNat]; omega
  case cause => rw [bitsOf_ofNat]; omega
  case dir =>
    have hw : b2n w = 1 ↔ w = true := by cases w <;> decide
    rw [tb_ofNat _ (by decide), Nat.testBit_eq_decide_div_mod_eq, Bool.eq_iff_iff, decide_eq_true_eq, ← hw]
    omega

theorem State.rd_putError (b : Nat) : (s.putError init a c w).rd b =
    if b = SYS.ERRADDR then Word.ofNat a else if b = SYS.ERRINFO then errorWord s init c w else s.rd b := by
  change ((s.wr SYS.ERRINFO (errorWord s init c w)).wr SYS.ERRADDR (Word.ofNat a)).rd b = _
  rw [State.rd_wr, State.rd_wr]

/-- The first error is captured, and raises SYS's flag. -/
theorem State.rd_captureError_first (h : s.bit SYS.ERRINFO 31 = false) (b : Nat) :
    (s.captureError init a c w).rd b = ((s.putError init a c w).irq SYS.base 0).rd b := by
  rw [State.captureError, if_neg (by simp [h])]
  dsimp only [State.rd]

/-- The first error is captured as the word with its initiator, cause and direction. -/
theorem State.captureError_info (h : s.bit SYS.ERRINFO 31 = false) :
    (s.captureError init a c w).rd SYS.ERRINFO = errorWord s init c w := by
  have hreg : SYS.ERRINFO ≠ SYS.base + 0x14 ∧ SYS.ERRINFO ≠ SYS.ERRADDR := by decide
  rw [s.rd_captureError_first init a c w h, State.rd_irq, if_neg hreg.1, State.rd_putError, if_neg hreg.2, if_pos rfl]

theorem State.captureError_addr (h : s.bit SYS.ERRINFO 31 = false) :
    (s.captureError init a c w).rd SYS.ERRADDR = Word.ofNat a := by
  have hreg : SYS.ERRADDR ≠ SYS.base + 0x14 := by decide
  rw [s.rd_captureError_first init a c w h, State.rd_irq, if_neg hreg, State.rd_putError, if_pos rfl]

theorem State.captureError_irq (h : s.bit SYS.ERRINFO 31 = false) : (s.captureError init a c w).bit SYS.IRQ_RAW 0 = true := by
  rw [State.bit_congr (s.rd_captureError_first init a c w h _)]
  exact State.bit_setBit_self _ _ (by decide) _ _

/-- A further error, in another cycle, only sets OVF. -/
theorem State.captureError_further (h : s.bit SYS.ERRINFO 31 = true) (hcycle : s.bus.cycle = none) :
    s.captureError init a c w = s.setBit SYS.ERRINFO 30 true := by
  rw [State.captureError, if_pos h, if_neg (by simp [hcycle])]

/-- Of the bus a capture changes the note of its cycle alone. -/
theorem State.captureError_bus :
    (s.captureError init a c w).bus = { s.bus with capturedAt := (s.captureError init a c w).bus.capturedAt } := by
  unfold State.captureError
  split
  case isTrue =>
    split
    case isTrue =>
      split
      · rw [State.putError_bus]
      · rfl
    case isFalse => rfl
  case isFalse =>
    dsimp only
    rw [State.irq_bus, State.putError_bus]

end

/-! ### The whole of an error response (R173) -/

/-- An initiator that reacts to an error response writes registers of its own page alone, none of SYS and of FAB. -/
theorem RegsBut.initiatorReact_loops (s : State) (init a sub : Nat) (w : Bool) :
    RegsBut (fun b => 0x40010000 ≤ b) s (s.initiatorReact init a sub w) := by
  have h := RegsBut.refl (fun b => 0x40010000 ≤ b) s
  fun_cases State.initiatorReact
  case case1 => exact (h.setBit (by simp only [CV.base]; omega) 3 true).irq (by simp only [CV.base]; omega) 3
  case case2 => exact h.irq (by simp only [TLR.base]; omega) _
  case case3 => exact (h.setBit (by decide) 0 true).irq (by decide) 3
  case case4 => exact (h.setBit (by simp only [MP.base]; omega) 0 true).irq (by simp only [MP.base]; omega) 0
  case case5 => exact (h.setBit (by decide) 0 true).irq (by decide) 3
  case case6 => exact h.withClerks _ s.clerk1
  case case7 => exact h.withClerks s.clerk0 _
  case case8 => exact h.irq (by simp only [ETH.base]; omega) 6
  case case9 => exact h.irq (by simp only [CAN.base]; omega) 5
  case case10 => exact h

theorem RegsBut.fabCount_errcnt (s : State) : RegsBut (fun b => b = FAB.ERRCNT) s (s.fabCount FAB.ERRCNT 31 0) := by
  unfold State.fabCount
  split
  · exact .refl _ s
  · exact (RegsBut.refl (fun b => b = FAB.ERRCNT) s).wr rfl _

section
variable (s : State) (init a : Nat) (c : Cause) (w : Bool) (sub : Nat)

/-- Beyond the capture an error response writes, of the registers below the converters, the fabric's flag and count. -/
theorem State.rd_errorResp_low {b : Nat} (hlow : b < 0x40010000) (hflag : b ≠ FAB.base + 0x14) (hcount : b ≠ FAB.ERRCNT) :
    (s.errorResp init a c w sub).rd b = (s.captureError init a c w).rd b := by
  have hfab : (((s.captureError init a c w).irq FAB.base 0).fabCount FAB.ERRCNT 31 0).rd b = (s.captureError init a c w).rd b := by
    rw [RegsBut.fabCount_errcnt _ b hcount, State.rd_irq, if_neg hflag]
  rw [← hfab]
  unfold State.errorResp
  dsimp only
  split
  · rfl
  · exact RegsBut.initiatorReact_loops _ init a sub w b (by omega)

/-- An error response sets the fabric's flag. -/
theorem State.errorResp_flag : (s.errorResp init a c w sub).bit (FAB.base + 0x14) 0 = true := by
  have hfab : (((s.captureError init a c w).irq FAB.base 0).fabCount FAB.ERRCNT 31 0).bit (FAB.base + 0x14) 0 = true := by
    rw [State.bit_congr (RegsBut.fabCount_errcnt _ _ (by decide)), State.irq, State.bit_setBit _ _ (by decide), if_pos ⟨rfl, rfl⟩]
  rw [← hfab]
  unfold State.errorResp
  dsimp only
  split
  · rfl
  · exact State.bit_congr (RegsBut.initiatorReact_loops _ init a sub w _ (by decide)) 0

theorem State.errorResp_bus : (s.errorResp init a c w sub).bus =
    { s.bus with capturedAt := (s.errorResp init a c w sub).bus.capturedAt, resp := (s.errorResp init a c w sub).bus.resp } := by
  have hbus := s.captureError_bus init a c w
  unfold State.errorResp
  dsimp only
  split
  · rw [State.fabCount_bus, State.irq_bus, hbus]
  · rw [State.initiatorReact_bus, State.fabCount_bus, State.irq_bus, hbus]

/-- Beside registers, an error response changes its own part of the bus and the clerks' pending faults. -/
theorem State.errorResp_frame : s.errorResp init a c w sub =
    { s with regs := (s.errorResp init a c w sub).regs,
             bus := { s.bus with capturedAt := (s.errorResp init a c w sub).bus.capturedAt,
                                 resp := (s.errorResp init a c w sub).bus.resp },
             clerk0 := (s.errorResp init a c w sub).clerk0, clerk1 := (s.errorResp init a c w sub).clerk1 } := by
  have hbus := s.errorResp_bus init a c w sub
  obtain ⟨regs, bus, clerk0, clerk1, heq⟩ := ((State.ErrorFrame.refl s).errorResp init a c w sub).fields
  rw [heq] at hbus ⊢
  rw [← hbus]

/-- A clerk to which the response is not on its way already takes an access fault (R173). -/
theorem State.errorResp_clerk (hquiet : s.bus.quiet = none) :
    (init = 64 → (s.errorResp init a c w sub).clerk0.fault = some (w, a)) ∧
    (init = 65 → (s.errorResp init a c w sub).clerk1.fault = some (w, a)) := by
  unfold State.errorResp
  rw [hquiet]
  constructor
  · rintro rfl; rfl
  · rintro rfl; rfl

end

/-! ### The commands -/

theorem fabricErrorResponse_unmapped (s : State) (init addr sub : Nat) (w : Bool) :
    exec (.fabricErrorResponse init addr 1 sub w) s = .next (s.errorResp init addr .unmapped w sub) := rfl

theorem fabricErrorResponse_link (s : State) (init addr sub : Nat) (w : Bool) : exec (.fabricErrorResponse init addr 6 sub w) s =
    .next (((s.setBit (RSUP.base + 0x10) 8 true).irq RSUP.base 1).errorResp init addr .link w sub) := rfl

theorem intcClaim_now {s : State} (init : Nat) {ctx : Nat} (hctx : ctx < 2) (hnow : s.mustWait .fab INTC.base = false) :
    exec (.intcClaim init ctx) s = .next (claimRead init ctx s) := by
  change Host.Outcome.next (s.readAt .fab INTC.base init (INTC.base + 0xC4 + 8 * ctx) (claimRead init (ctx % 2))) = _
  rw [State.readAt_now hnow, Nat.mod_eq_of_lt hctx]

theorem intcComplete_now {s : State} (init : Nat) {ctx : Nat} (data : Word) (hctx : ctx < 2)
    (hnow : s.mustWait .fab INTC.base = false) : exec (.intcComplete init ctx data) s = .next (completeWrite init ctx data s) := by
  change Host.Outcome.next (s.writeAt .fab INTC.base init (INTC.base + 0xC4 + 8 * ctx) data (completeWrite init (ctx % 2) data)) = _
  rw [State.writeAt_now hnow, Nat.mod_eq_of_lt hctx]

/-! ### Claims and completions (R153) -/

section
variable (s : State) (init ctx : Nat) (data : Word)

theorem claimRead_some (h : s.claimable ctx ≠ 0) : claimRead init ctx s =
    ({ s with claimed := s.claimed ++ [(s.claimable ctx, ctx)] } : State).respond init (INTC.base + 0xC4 + 8 * ctx)
      (Word.ofNat (s.claimable ctx)) := by
  rw [claimRead, if_neg h]

theorem claimRead_none (h : s.claimable ctx = 0) : claimRead init ctx s = s.respond init (INTC.base + 0xC4 + 8 * ctx) 0 := by
  rw [claimRead, if_pos h, h]; rfl

/-- A completion that counts takes its source off the claimed ones. -/
theorem completeWrite_accepted (hen : s.intEnabled ctx (bitsOf data 7 0) = true) (hclaimed : ∃ p ∈ s.claimed, p.1 = bitsOf data 7 0) :
    completeWrite init ctx data s = ({ s with claimed := s.claimed.filter (fun p => p.1 != bitsOf data 7 0) } : State).respond init
      (INTC.base + 0xC4 + 8 * ctx) 0 := by
  have hany : s.claimed.any (fun p => p.1 == bitsOf data 7 0) = true := by simpa using hclaimed
  rw [completeWrite, hany, hen]; rfl

theorem completeWrite_ignored (hen : s.intEnabled ctx (bitsOf data 7 0) = false) :
    completeWrite init ctx data s = s.respond init (INTC.base + 0xC4 + 8 * ctx) 0 := by
  rw [completeWrite, hen, Bool.and_false]; rfl

/-- Whether a source is pending follows from its level and the claims alone. -/
theorem State.sourcePending_withClaimed (l : List (Nat × Nat)) (b : Bus) (n : Nat) :
    ({ s with claimed := l, bus := b } : State).sourcePending n = (s.sourceLevel n && !(l.any (fun p => p.1 == n))) := rfl

end

/-- Settles O11: the error response's capture, flag and reaction, and the claim and completion, each by its own lemma. -/
theorem errorsAreCapturedAndInterruptsClaimed : Obligations.ErrorsAreCapturedAndInterruptsClaimed := by
  unfold Obligations.ErrorsAreCapturedAndInterruptsClaimed
  intro s init
  refine ⟨fun addr sub w hquiet hcycle => ?error, fun addr sub w _ => ?link, fun ctx hctx hnow hsome => ?claim,
    fun ctx hctx hnow hnone => ?noClaim, fun ctx data hctx hnow hen hclaimed => ?complete, fun ctx data hctx hnow hen => ?ignored⟩
  case error =>
    have hinfo := s.rd_errorResp_low init addr .unmapped w sub (b := SYS.ERRINFO) (by decide) (by decide) (by decide)
    have haddr := s.rd_errorResp_low init addr .unmapped w sub (b := SYS.ERRADDR) (by decide) (by decide) (by decide)
    have hirq := s.rd_errorResp_low init addr .unmapped w sub (b := SYS.IRQ_RAW) (by decide) (by decide) (by decide)
    have hframe := s.errorResp_frame init addr .unmapped w sub
    obtain ⟨hclerk0, hclerk1⟩ := s.errorResp_clerk init addr .unmapped w sub hquiet
    obtain ⟨hvalid, hinit, hcause, hdir⟩ := errorWord_fields s init .unmapped w
    refine ⟨_, fabricErrorResponse_unmapped s init addr sub w, State.refused_errorResp .., State.errorResp_flag .., ?valid,
      (congrArg State.mem hframe).trans rfl, fun hfirst => ?first, fun hheld => ?further, hclerk0, hclerk1, hframe⟩
    case valid =>
      rw [State.bit_congr hinfo]
      cases hheld : s.bit SYS.ERRINFO 31 with
      | false =>
        rw [State.bit, s.captureError_info init addr .unmapped w hheld, hvalid]
      | true =>
        rw [s.captureError_further init addr .unmapped w hheld hcycle, State.bit_setBit _ _ (by decide), if_neg (by decide), hheld]
    case first =>
      rw [haddr, State.fld_congr hinfo, State.fld_congr hinfo, State.bit_congr hinfo, State.bit_congr hirq, State.fld, State.fld,
        State.bit, s.captureError_info init addr .unmapped w hfirst, hinit, hcause, hdir]
      exact ⟨s.captureError_addr init addr .unmapped w hfirst, rfl, rfl, rfl, s.captureError_irq init addr .unmapped w hfirst⟩
    case further =>
      have hovf := s.captureError_further init addr .unmapped w hheld hcycle
      rw [haddr, State.bit_congr hinfo, hovf, State.rd_setBit, if_neg (by decide), State.bit_setBit _ _ (by decide)]
      exact ⟨rfl, if_pos ⟨rfl, rfl⟩⟩
  case link =>
    have hkept := ((State.ErrorFrame.refl ((s.setBit (RSUP.base + 0x10) 8 true).irq RSUP.base 1)).errorResp init addr .link w sub).regs
    refine ⟨_, fabricErrorResponse_link s init addr sub w, State.refused_errorResp .., ?_, ?_⟩
    · rw [State.bit_congr (hkept _ (by decide)), State.irq, State.bit_setBit_ne _ (by decide), State.bit_setBit _ _ (by decide),
        if_pos ⟨rfl, rfl⟩]
    · rw [State.bit_congr (hkept _ (by decide)), State.irq, State.bit_setBit _ _ (by decide), if_pos ⟨rfl, rfl⟩]
  case claim =>
    refine ⟨_, intcClaim_now init hctx hnow, ?_⟩
    rw [claimRead_some s init ctx hsome]
    refine ⟨rfl, rfl, rfl, ?_, rfl⟩
    rw [State.respond, State.sourcePending_withClaimed]
    simp
  case noClaim =>
    refine ⟨_, intcClaim_now init hctx hnow, ?_⟩
    rw [claimRead_none s init ctx hnone]
    exact ⟨rfl, rfl⟩
  case complete =>
    refine ⟨_, intcComplete_now init data hctx hnow, ?_⟩
    rw [completeWrite_accepted s init ctx data hen hclaimed]
    refine ⟨fun p => ?_, ?_, rfl⟩
    · simp [State.respond]
    · have hgone : (s.claimed.filter (fun p => p.1 != bitsOf data 7 0)).any (fun p => p.1 == bitsOf data 7 0) = false := by
        simp [List.any_eq_false]
      rw [State.respond, State.sourcePending_withClaimed, hgone, Bool.not_false, Bool.and_true]
      rfl
  case ignored =>
    refine ⟨_, intcComplete_now init data hctx hnow, ?_⟩
    rw [completeWrite_ignored s init ctx data hen]
    rfl

end Sys2Proof.Machine
end

section
/-!
Meloskern's records (R405-R417): what a record, a tail and a session head change of Meloskern, and which slots they fill.
-/
namespace Sys2Proof.Machine

/-! ### The records' part of Meloskern -/

/-- `n` differs from `m` in the records and in what counts them alone. -/
def Melo.RecordsOnly (m n : Melo) : Prop :=
  ∃ recs nextSeq dropI dropE dropFirst dropLast untailed signs,
    n = { m with recs := recs, nextSeq := nextSeq, dropI := dropI, dropE := dropE, dropFirst := dropFirst, dropLast := dropLast,
                 untailed := untailed, signs := signs }

namespace Melo.RecordsOnly

theorem refl (m : Melo) : m.RecordsOnly m := ⟨_, _, _, _, _, _, _, _, rfl⟩

theorem trans {m n o : Melo} (hmn : m.RecordsOnly n) (hno : n.RecordsOnly o) : m.RecordsOnly o := by
  obtain ⟨_, _, _, _, _, _, _, _, rfl⟩ := hmn
  obtain ⟨_, _, _, _, _, _, _, _, rfl⟩ := hno
  exact ⟨_, _, _, _, _, _, _, _, rfl⟩

theorem sess {m n : Melo} (h : m.RecordsOnly n) : n.sess = m.sess := by
  obtain ⟨_, _, _, _, _, _, _, _, rfl⟩ := h
  rfl

variable {m n : Melo} (h : m.RecordsOnly n)
include h

theorem append (typ flags t : Nat) (body : List Byte) : m.RecordsOnly (n.append typ flags t body) :=
  h.trans ⟨_, _, _, _, _, _, _, _, rfl⟩

theorem dropOne (ivl : Bool) (t : Nat) : m.RecordsOnly (n.dropOne ivl t) := h.trans ⟨_, _, _, _, _, _, _, _, rfl⟩

theorem gap (t : Nat) (valid : Bool) : m.RecordsOnly (n.gap t valid) := by
  unfold Melo.gap
  split
  · exact h
  · obtain ⟨_, _, _, _, _, _, _, _, heq⟩ := h.append 0x10 (b2n (!valid)) t (eventBody 0x60 0
      (leBytes 4 n.dropI ++ leBytes 4 n.dropE ++ leBytes 4 n.dropFirst ++ leBytes 4 n.dropLast))
    rw [heq]
    exact ⟨_, _, _, _, _, _, _, _, rfl⟩

theorem signTail : m.RecordsOnly n.signTail := by
  unfold Melo.signTail
  split
  · exact h
  · exact h.trans ⟨_, _, _, _, _, _, _, _, rfl⟩

theorem tails : m.RecordsOnly n.tails := by
  have hfold (l : List Nat) : ∀ o : Melo, m.RecordsOnly o → m.RecordsOnly (l.foldl (fun o _ => o.signTail) o) := by
    induction l with
    | nil => exact fun _ ho => ho
    | cons _ _ ih => exact fun _ ho => ih _ ho.signTail
  exact hfold n.untailed n h

theorem record (ivl : Bool) (flags t : Nat) (valid : Bool) (body : List Byte) : m.RecordsOnly (n.record ivl flags t valid body) := by
  unfold Melo.record
  dsimp only
  split
  · exact (h.tails.gap t valid).dropOne ivl t
  · exact (h.tails.gap t valid).append _ flags t body

end Melo.RecordsOnly

/-! ### Slots -/

/-- Some record stands in the slot of sequence number `seq` (R405). -/
def Melo.Present (m : Melo) (seq : Nat) : Prop := (Store.find m.recs (seq % 65536)).isSome = true

theorem mkRecord_ne_nil (typ flags seq t sealcnt : Nat) (body : List Byte) : mkRecord typ flags seq t sealcnt body ≠ [] :=
  List.append_ne_nil_of_right_ne_nil _ (List.cons_ne_nil _ _)

theorem Store.isSome_put_self {l : List (Nat × List Byte)} {a : Nat} {r : List Byte} (hr : r ≠ []) :
    (Store.find (Store.put [] l a r) a).isSome = true := by
  have hself := Store.find_put_self ([] : List Byte) l a r
  cases hfind : Store.find (Store.put [] l a r) a with
  | some _ => rfl
  | none => rw [hfind] at hself; exact absurd hself.symm hr

theorem Melo.present_store (m : Melo) (seq : Nat) {r : List Byte} (hr : r ≠ []) : (m.store seq r).Present seq :=
  Store.isSome_put_self hr

namespace Melo.Present

variable {m : Melo} {q : Nat} (h : m.Present q)
include h

theorem store (seq : Nat) {r : List Byte} (hr : r ≠ []) : (m.store seq r).Present q := by
  by_cases hslot : q % 65536 = seq % 65536
  · unfold Melo.Present
    rw [hslot]
    exact Store.isSome_put_self hr
  · unfold Melo.Present Melo.store
    rw [Store.find_put_ne _ _ _ hslot]
    exact h

theorem append (typ flags t : Nat) (body : List Byte) : (m.append typ flags t body).Present q := h.store _ (mkRecord_ne_nil _ _ _ _ _ _)

theorem gap (t : Nat) (valid : Bool) : (m.gap t valid).Present q := by
  unfold Melo.gap
  split
  · exact h
  · exact h.append ..

end Melo.Present

/-! ### Gaps and tails -/

/-- Nothing has been dropped: no gap is due. -/
theorem Melo.gap_of_no_drop {m : Melo} (h : m.dropI + m.dropE = 0) (t : Nat) (valid : Bool) : m.gap t valid = m := by
  rw [Melo.gap, if_pos (.inl h)]

theorem Melo.nextSeq_le_gap (m : Melo) (t : Nat) (valid : Bool) : m.nextSeq ≤ (m.gap t valid).nextSeq := by
  unfold Melo.gap
  split
  · exact Nat.le_refl _
  · exact Nat.le_succ _

/-- The tail of the oldest head takes the sequence number after it (R417). -/
theorem Melo.signTail_cons {m : Melo} {h : Nat} {rest : List Nat} (hun : m.untailed = h :: rest) : ∃ tail, tail ≠ [] ∧
    m.signTail = { m.store (h + 1) tail with untailed := rest, signs := m.signs + 1, nextSeq := max m.nextSeq (h + 2) } := by
  unfold Melo.signTail
  rw [hun]
  exact ⟨_, mkRecord_ne_nil _ _ _ _ _ _, rfl⟩

theorem Melo.tails_nil {m : Melo} (hun : m.untailed = []) : m.tails = m := by
  rw [Melo.tails, hun, List.foldl_nil]

theorem Melo.tails_single {m : Melo} {h : Nat} (hun : m.untailed = [h]) : m.tails = m.signTail := by
  rw [Melo.tails, hun, List.foldl_cons, List.foldl_nil]

/-- The one head that lacks its tail gets it before any other record. -/
theorem Melo.tails_present {m : Melo} {h : Nat} (hun : m.untailed = [h]) : m.tails.Present (h + 1) ∧ h + 2 ≤ m.tails.nextSeq := by
  obtain ⟨tail, htail, heq⟩ := Melo.signTail_cons hun
  rw [Melo.tails_single hun, heq]
  exact ⟨m.present_store (h + 1) htail, Nat.le_max_right ..⟩

/-- With nothing dropped and no tail due, nothing comes before the next record. -/
theorem Melo.tails_gap_quiet (m : Melo) (t : Nat) (valid : Bool) (hdrop : m.dropI + m.dropE = 0) (hun : m.untailed = []) :
    m.tails.gap t valid = m := by
  rw [Melo.tails_nil hun, Melo.gap_of_no_drop hdrop]

/-- The tail that is due comes before the next record, whether or not a gap does. -/
theorem Melo.tails_gap_single (m : Melo) {h : Nat} (t : Nat) (valid : Bool) (hun : m.untailed = [h]) :
    (m.tails.gap t valid).Present (h + 1) ∧ h + 2 ≤ (m.tails.gap t valid).nextSeq := by
  obtain ⟨hpresent, hle⟩ := Melo.tails_present hun
  exact ⟨hpresent.gap t valid, hle.trans (m.tails.nextSeq_le_gap t valid)⟩

/-! ### Events -/

/-- `t` is `s` but for records that Meloskern has written. -/
def State.Recorded (s t : State) : Prop := ∃ m, s.melo.RecordsOnly m ∧ t = { s with melo := m }

namespace State.Recorded

theorem refl (s : State) : s.Recorded s := ⟨s.melo, .refl _, rfl⟩

theorem trans {s t u : State} (hst : s.Recorded t) (htu : t.Recorded u) : s.Recorded u := by
  obtain ⟨m, hm, rfl⟩ := hst
  obtain ⟨n, hn, rfl⟩ := htu
  exact ⟨n, hm.trans hn, rfl⟩

theorem event {s t : State} (h : s.Recorded t) (code : Nat) (data : List Byte) : s.Recorded (t.event code data) :=
  h.trans ⟨_, (Melo.RecordsOnly.refl t.melo).record .., rfl⟩

theorem paramRecords {s t : State} (h : s.Recorded t) (fuel : Nat) (l : List (Nat × Word × Word)) :
    s.Recorded (State.paramRecords fuel l t) := by
  induction fuel generalizing l t with
  | zero => exact h
  | succ fuel ih =>
    unfold State.paramRecords
    split
    · exact h
    · exact ih (h.event ..) _

end State.Recorded

/-! ### Session heads -/

theorem State.closeHead_none {s : State} {p : Nat} (h : nth none s.melo.sess p = none) (status t : Nat) (valid : Bool)
    (legal : List Nat) : s.closeHead p status t valid legal = s := by
  unfold State.closeHead
  rw [h]

/-- The head of an open session follows the tail and the gap that are due; the port is free and the head lacks its tail (R412). -/
theorem State.closeHead_open {s : State} {p : Nat} (h : nth none s.melo.sess p ≠ none) (status t : Nat) (valid : Bool)
    (legal : List Nat) : ∃ head, head ≠ [] ∧ s.closeHead p status t valid legal =
      { s with melo := { (s.melo.tails.gap t valid).store (s.melo.tails.gap t valid).nextSeq head with
          nextSeq := (s.melo.tails.gap t valid).nextSeq + 1
          sess := upd s.melo.sess p (fun _ => none), untailed := [(s.melo.tails.gap t valid).nextSeq] } } := by
  have hsess := ((Melo.RecordsOnly.refl s.melo).tails.gap t valid).sess
  obtain ⟨x, hx⟩ := Option.ne_none_iff_exists'.1 h
  unfold State.closeHead
  rw [hx, ← hsess]
  exact ⟨_, mkRecord_ne_nil _ _ _ _ _ _, rfl⟩

/-- Freeing a port frees it also where the list does not reach it. -/
theorem nth_upd_const {α : Type} (d : α) (l : List α) (i : Nat) : nth d (upd l i (fun _ => d)) i = d := by
  simp only [nth, upd, List.getD_eq_getElem?_getD, List.getElem?_modify_eq]
  cases l[i]? <;> rfl

theorem State.sess_closeHead_self (s : State) (p status t : Nat) (valid : Bool) (legal : List Nat) :
    nth none (s.closeHead p status t valid legal).melo.sess p = none := by
  by_cases h : nth none s.melo.sess p = none
  · rw [State.closeHead_none h, h]
  · obtain ⟨head, -, heq⟩ := State.closeHead_open h status t valid legal
    rw [heq]
    exact nth_upd_const none s.melo.sess p

theorem State.sess_closeHead_ne (s : State) {p q : Nat} (hq : q ≠ p) (status t : Nat) (valid : Bool) (legal : List Nat) :
    nth none (s.closeHead p status t valid legal).melo.sess q = nth none s.melo.sess q := by
  by_cases h : nth none s.melo.sess p = none
  · rw [State.closeHead_none h]
  · obtain ⟨head, -, heq⟩ := State.closeHead_open h status t valid legal
    rw [heq]
    exact nth_upd_ne none s.melo.sess hq _

theorem State.closeAll_eq (s : State) : s.closeAll =
    [0, 1, 2, 3].foldl (fun s p => s.closeHead p 2 s.nw.rtc s.nw.timeValid s.melo.legal) s := rfl

/-- After the loss no port holds a session (R416). -/
theorem State.sess_closeAll (s : State) {p : Nat} (hp : p < 4) : nth none s.closeAll.melo.sess p = none := by
  rw [State.closeAll_eq]
  simp only [List.foldl_cons, List.foldl_nil]
  obtain rfl | rfl | rfl | rfl : p = 0 ∨ p = 1 ∨ p = 2 ∨ p = 3 := by omega
  · rw [State.sess_closeHead_ne _ (by decide), State.sess_closeHead_ne _ (by decide), State.sess_closeHead_ne _ (by decide),
      State.sess_closeHead_self]
  · rw [State.sess_closeHead_ne _ (by decide), State.sess_closeHead_ne _ (by decide), State.sess_closeHead_self]
  · rw [State.sess_closeHead_ne _ (by decide), State.sess_closeHead_self]
  · rw [State.sess_closeHead_self]

end Sys2Proof.Machine
end

section
/-!
What Meloskern's commands change beside their replies (R402-R425): Meloskern and Nightwatch, never a legal register, never the link's
own fields, and never a value or a staged change outside Meloskern's window.
-/
namespace Sys2Proof.Machine

/-! ### What a command leaves alone -/

/-- Meloskern's side of the link, and what a command never changes of the meter. -/
structure LinkPart where
  running : Bool
  legal : List Nat
  cmd : Option (List Word)
  rest : Option Bool
  reply : Option (List Word × List (List Byte))
  linkLost : Bool

def Melo.linkPart (m : Melo) : LinkPart :=
  { running := m.running, legal := m.legal, cmd := m.cmd, rest := m.rest, reply := m.reply, linkLost := m.linkLost }

/-- The values and the staged changes lie in Meloskern's window, and the staging holds at most 64 (R422). -/
structure Melo.Bounded (m : Melo) : Prop where
  vals : ∀ q ∈ m.vals, 0x40C01000 ≤ q.1 ∧ q.1 < 0x40C03000
  room : m.stage.length ≤ 64
  stage : ∀ q ∈ m.stage, 0x1000 ≤ q.1 ∧ q.1 < 0x3000

theorem State.Shaped.bounded {s : State} (h : s.Shaped) : s.melo.Bounded := by
  obtain ⟨-, -, -, -, -, -, -, hvals, hroom, hstage⟩ := h
  exact ⟨hvals, hroom, hstage⟩

theorem State.Shaped.sess_length {s : State} (h : s.Shaped) : s.melo.sess.length = 4 := by
  obtain ⟨-, -, -, -, -, hmelo, -⟩ := h
  obtain ⟨-, -, -, -, -, -, -, -, hsess, -⟩ := hmelo
  exact hsess

theorem Store.mem_put {α : Type} [DecidableEq α] {d v : α} {l : List (Nat × α)} {a : Nat} {q : Nat × α} (h : q ∈ Store.put d l a v) :
    q = (a, v) ∨ q ∈ l := by
  unfold Store.put at h
  split at h
  · exact .inr (List.mem_of_mem_filter h)
  · exact (Store.mem_insert _ _ _ _ h).imp_right List.mem_of_mem_filter

theorem Melo.Bounded.put {m : Melo} (h : m.Bounded) {a : Nat} (ha : 0x40C01000 ≤ a ∧ a < 0x40C03000) (d v : Word) :
    Melo.Bounded { m with vals := Store.put d m.vals a v } := by
  refine ⟨fun q hq => ?_, h.room, h.stage⟩
  rcases Store.mem_put hq with rfl | hq
  · exact ha
  · exact h.vals q hq

theorem Melo.RecordsOnly.linkPart {m n : Melo} (h : m.RecordsOnly n) : n.linkPart = m.linkPart := by
  obtain ⟨_, _, _, _, _, _, _, _, rfl⟩ := h
  rfl

theorem Melo.RecordsOnly.bounded {m n : Melo} (h : m.RecordsOnly n) (hm : m.Bounded) : n.Bounded := by
  obtain ⟨_, _, _, _, _, _, _, _, rfl⟩ := h
  exact ⟨hm.vals, hm.room, hm.stage⟩

/-- A mark of every open session changes the sessions alone. -/
theorem Melo.markSess_sess (m : Melo) (bits : Nat) : ∃ sess, m.markSess bits = { m with sess := sess } := by
  have hfold (l : List Nat) : ∀ n : Melo, (∃ sess, n = { m with sess := sess }) →
      ∃ sess, l.foldl (fun n p => n.markPort p bits) n = { m with sess := sess } := by
    induction l with
    | nil => exact fun _ hn => hn
    | cons p l ih =>
      rintro _ ⟨sess, rfl⟩
      exact ih _ ⟨_, rfl⟩
  exact hfold (List.range 4) m ⟨_, rfl⟩

/-- `t` is `s` after something Meloskern has done of itself: only Meloskern and Nightwatch differ, the link and the meter do not. -/
structure State.MeloOnly (s t : State) : Prop where
  fields : ∃ melo nw, t = { s with melo := melo, nw := nw }
  link : t.melo.linkPart = s.melo.linkPart
  bounded : t.melo.Bounded

namespace State.MeloOnly

theorem refl {s : State} (hb : s.melo.Bounded) : s.MeloOnly s := ⟨⟨_, _, rfl⟩, rfl, hb⟩

variable {s t : State} (h : s.MeloOnly t)
include h

theorem running : t.melo.running = s.melo.running := congrArg LinkPart.running h.link
theorem legal : t.melo.legal = s.melo.legal := congrArg LinkPart.legal h.link
theorem cmd : t.melo.cmd = s.melo.cmd := congrArg LinkPart.cmd h.link
theorem rest : t.melo.rest = s.melo.rest := congrArg LinkPart.rest h.link
theorem reply : t.melo.reply = s.melo.reply := congrArg LinkPart.reply h.link
theorem linkLost : t.melo.linkLost = s.melo.linkLost := congrArg LinkPart.linkLost h.link

/-- A change of Meloskern that keeps the link and the bounds. -/
theorem withMelo {m : Melo} (hlink : m.linkPart = t.melo.linkPart) (hb : m.Bounded) : s.MeloOnly { t with melo := m } :=
  ⟨by obtain ⟨_, _, rfl⟩ := h.fields; exact ⟨_, _, rfl⟩, hlink.trans h.link, hb⟩

theorem withNw (nw : Nightwatch) : s.MeloOnly { t with nw := nw } :=
  ⟨by obtain ⟨_, _, rfl⟩ := h.fields; exact ⟨_, _, rfl⟩, h.link, h.bounded⟩

theorem withRecords {m : Melo} (hm : t.melo.RecordsOnly m) : s.MeloOnly { t with melo := m } :=
  h.withMelo hm.linkPart (hm.bounded h.bounded)

theorem recorded {u : State} (hu : t.Recorded u) : s.MeloOnly u := by
  obtain ⟨m, hm, rfl⟩ := hu
  exact h.withRecords hm

theorem event (code : Nat) (data : List Byte) : s.MeloOnly (t.event code data) := h.recorded ((State.Recorded.refl t).event ..)

theorem closeHead (p status i : Nat) (valid : Bool) (legal : List Nat) : s.MeloOnly (t.closeHead p status i valid legal) := by
  by_cases hopen : nth none t.melo.sess p = none
  · rw [State.closeHead_none hopen]
    exact h
  · obtain ⟨head, -, heq⟩ := State.closeHead_open hopen status i valid legal
    have hgap := (Melo.RecordsOnly.refl t.melo).tails.gap i valid
    obtain ⟨hvals, hroom, hstage⟩ := hgap.bounded h.bounded
    rw [heq]
    exact h.withMelo hgap.linkPart ⟨hvals, hroom, hstage⟩

theorem closeAll : s.MeloOnly t.closeAll := by
  rw [State.closeAll_eq]
  exact (((h.closeHead ..).closeHead ..).closeHead ..).closeHead ..

/-! #### The interval (R414, R425) -/

theorem newIvl (sec q : Nat) : s.MeloOnly (t.newIvl sec q) :=
  h.withMelo rfl ⟨h.bounded.vals, h.bounded.room, h.bounded.stage⟩

theorem closeIvl (b : Nat) : s.MeloOnly (t.closeIvl b) := by
  unfold State.closeIvl
  refine newIvl ?_ _ _
  split
  · exact h.withRecords ((Melo.RecordsOnly.refl t.melo).record ..)
  · exact h

theorem marked (bits bits' : Nat) : s.MeloOnly { t with melo := (t.melo.markSess bits).markIvl bits' } := by
  obtain ⟨sess, heq⟩ := t.melo.markSess_sess bits
  rw [heq]
  exact h.withMelo rfl ⟨h.bounded.vals, h.bounded.room, h.bounded.stage⟩

theorem timeSetIvl (sec : Nat) : s.MeloOnly (t.timeSetIvl sec) := by
  have hmarked := h.marked 4 4
  unfold State.timeSetIvl
  dsimp only
  split
  · exact hmarked.newIvl ..
  · split
    · exact hmarked.closeIvl _
    · split
      · exact hmarked.withMelo rfl ⟨hmarked.bounded.vals, hmarked.bounded.room, hmarked.bounded.stage⟩
      · exact hmarked

theorem elapse (dt : Nat) : s.MeloOnly (t.elapse dt) :=
  (h.withMelo (m := (t.elapse dt).melo) rfl ⟨h.bounded.vals, h.bounded.room, h.bounded.stage⟩).withNw (t.elapse dt).nw

/-! #### Registers of Meloskern's blocks -/

theorem mwr {a : Nat} (ha : 0x40C01000 ≤ a ∧ a < 0x40C03000) (v : Word) : s.MeloOnly (t.mwr a v) := by
  unfold State.mwr
  exact h.withMelo rfl (h.bounded.put ha _ v)

theorem withPulses (acc owed pulse : List Nat) :
    s.MeloOnly { t with melo := { t.melo with acc := acc, owed := owed, pulse := pulse } } :=
  h.withMelo rfl ⟨h.bounded.vals, h.bounded.room, h.bounded.stage⟩

theorem applyStaged {e : Nat × Word} (he : 0x1000 ≤ e.1 ∧ e.1 < 0x3000) : s.MeloOnly (t.applyStaged e) := by
  have ha : 0x40C01000 ≤ LEDGER.base + e.1 ∧ LEDGER.base + e.1 < 0x40C03000 := by simp only [LEDGER.base]; omega
  have hset := h.mwr ha e.2
  rw [State.applyStaged]
  split
  · exact hset.withPulses _ _ _
  · exact hset

theorem applyAll (l : List (Nat × Word)) (hl : ∀ e ∈ l, 0x1000 ≤ e.1 ∧ e.1 < 0x3000) : s.MeloOnly (l.foldl State.applyStaged t) := by
  induction l generalizing t with
  | nil => exact h
  | cons e l ih =>
    exact ih (h.applyStaged (hl e List.mem_cons_self)) fun f hf => hl f (List.mem_cons_of_mem _ hf)

end State.MeloOnly

/-! ### The commands of R404 -/

theorem rwsOk_range {o v : Nat} (h : rwsOk o v = true) : 0x1000 ≤ o ∧ o < 0x3000 := by
  unfold rwsOk at h
  split at h
  case isTrue ho => omega
  case isFalse =>
    split at h
    case isTrue ho => omega
    case isFalse =>
      split at h
      case isTrue ho => omega
      case isFalse => exact absurd h Bool.false_ne_true

/-- The staging with the change of offset `o` to `v` (R422). -/
def Melo.staged (m : Melo) (o : Nat) (v : Word) : List (Nat × Word) :=
  if m.stage.any (fun e => e.1 == o) then m.stage.map (fun e => if e.1 = o then (o, v) else e) else m.stage ++ [(o, v)]

theorem Melo.Bounded.staged {m : Melo} (h : m.Bounded) {o : Nat} {v : Word} (hok : rwsOk o v.toNat = true)
    (hroom : m.stage.any (fun e => e.1 == o) = false → m.stage.length < 64) : Melo.Bounded { m with stage := m.staged o v } := by
  have ho := rwsOk_range hok
  unfold Melo.staged
  cases hold : m.stage.any (fun e => e.1 == o) with
  | true =>
    refine ⟨h.vals, ?_, fun q hq => ?_⟩
    · simpa using h.room
    · obtain ⟨e, he, rfl⟩ := List.mem_map.1 hq
      split
      · exact ho
      · exact h.stage e he
  | false =>
    refine ⟨h.vals, ?_, fun q hq => ?_⟩
    · have hlt := hroom hold
      simp only [Bool.false_eq_true, if_false, List.length_append, List.length_singleton]
      omega
    · rcases List.mem_append.1 hq with hq | hq
      · exact h.stage q hq
      · obtain rfl := List.mem_singleton.1 hq
        exact ho

/-- The instant a TIME_SET names, in 2⁻¹⁶ s. -/
def timeArg (args : List Word) : Nat := argOf args 0 * 65536 + argOf args 1 % 65536

/-- The clock set to the instant `new`, with the interval effects, before the event (R425). -/
def State.clockedTo (s : State) (new : Nat) : State :=
  let s1 := s.timeSetIvl (new / 65536)
  { s1 with nw := { s1.nw with rtc := new, timeValid := true }, melo := { s1.melo with setAge := some 0 } }

/-- The state after an accepted TIME_SET to the instant `new` (R425). -/
def State.timeTo (s : State) (new : Nat) : State :=
  (s.clockedTo new).event 0x20 (leBytes 4 (s.nw.rtc / 65536) ++ leBytes 2 (s.nw.rtc % 65536))

theorem timeSet_cases (args : List Word) (s : State) : timeSet args s = refuse s 8 ∨ timeSet args s = { s := s.timeTo (timeArg args) } :=
  ite_eq_or_eq _ _ _

section
variable {s : State} (hb : s.melo.Bounded) (args : List Word) (veto : Bool)
include hb

theorem sessionOpen_meloOnly : s.MeloOnly (sessionOpen args veto s).s := by
  have hrefl := State.MeloOnly.refl hb
  fun_cases sessionOpen
  case case1 => exact hrefl
  case case2 => exact hrefl
  case case3 => exact hrefl
  case case4 => exact hrefl
  case case5 => exact hrefl
  case case6 => exact hrefl.withMelo rfl ⟨hb.vals, hb.room, hb.stage⟩

theorem sessionClose_meloOnly : s.MeloOnly (sessionClose args s).s := by
  have hrefl := State.MeloOnly.refl hb
  fun_cases sessionClose
  case case1 => exact hrefl
  case case2 => exact hrefl
  case case3 => exact hrefl.closeHead ..

theorem ledgerRead_meloOnly : s.MeloOnly (ledgerRead args s).s := by
  fun_cases ledgerRead
  case case1 => exact .refl hb
  case case2 => exact .refl hb

theorem ledgerExport_meloOnly : s.MeloOnly (ledgerExport args s).s := by
  have hrefl := State.MeloOnly.refl hb
  fun_cases ledgerExport
  case case1 => exact hrefl
  case case2 => exact hrefl
  case case3 => exact hrefl
  case case4 => exact hrefl.withMelo rfl ⟨hb.vals, hb.room, hb.stage⟩

theorem timeSet_meloOnly : s.MeloOnly (timeSet args s).s := by
  have hrefl := State.MeloOnly.refl hb
  rcases timeSet_cases args s with heq | heq
  · rw [heq]
    exact hrefl
  · have hivl := hrefl.timeSetIvl (timeArg args / 65536)
    rw [heq]
    exact ((hivl.withMelo (m := { (s.timeSetIvl (timeArg args / 65536)).melo with setAge := some 0 }) rfl
      ⟨hivl.bounded.vals, hivl.bounded.room, hivl.bounded.stage⟩).withNw
        { (s.timeSetIvl (timeArg args / 65536)).nw with rtc := timeArg args, timeValid := true }).event ..

theorem commBegin_meloOnly : s.MeloOnly (commBegin s).s := by
  have hrefl := State.MeloOnly.refl hb
  fun_cases commBegin
  case case1 => exact hrefl
  case case2 => exact hrefl
  case case3 => exact hrefl.withMelo rfl ⟨hb.vals, Nat.zero_le _, List.forall_mem_nil _⟩

theorem commWrite_meloOnly : s.MeloOnly (commWrite args s).s := by
  have hrefl := State.MeloOnly.refl hb
  fun_cases commWrite
  case case1 => exact hrefl
  case case2 => exact hrefl
  case case3 o v old _ hok st =>
    obtain ⟨hrange, hroom⟩ : rwsOk o v.toNat = true ∧ (s.melo.stage.any (fun e => e.1 == o) = false → s.melo.stage.length < 64) := by
      simpa [old] using hok
    exact hrefl.withMelo rfl (hb.staged hrange hroom)

theorem commCommit_meloOnly : s.MeloOnly (commCommit args s).s := by
  have hrefl := State.MeloOnly.refl hb
  have hall := hrefl.applyAll s.melo.stage hb.stage
  fun_cases commCommit
  case case1 => exact hrefl
  case case2 => exact hrefl
  case case3 => exact hrefl
  case case4 => exact hrefl
  case case5 =>
    refine State.MeloOnly.recorded ?_ ((State.Recorded.refl _).paramRecords _ _)
    exact hall.withMelo rfl ⟨hall.bounded.vals, Nat.zero_le _, List.forall_mem_nil _⟩

theorem commAbort_meloOnly : s.MeloOnly (commAbort s).s := by
  have hrefl := State.MeloOnly.refl hb
  fun_cases commAbort
  case case1 =>
    exact (hrefl.withMelo (m := { s.melo with comm := false, stage := [] }) rfl
      ⟨hb.vals, Nat.zero_le _, List.forall_mem_nil _⟩).event ..
  case case2 => exact hrefl

theorem keyGen_meloOnly : s.MeloOnly (keyGen s).s := by
  have hrefl := State.MeloOnly.refl hb
  fun_cases keyGen
  case case1 => exact hrefl
  case case2 =>
    exact (hrefl.withMelo (m := { s.melo with key := some (publicKey (scalarOf (Config.privateKey 0))) }) rfl
      ⟨hb.vals, hb.room, hb.stage⟩).event ..

end

end Sys2Proof.Machine
end

section
/-!
The ledger link (R398-R404): what a refresh writes and what the mirror then reads, what a poll and a command's end change, and that a
taken command is executed once.
-/
namespace Sys2Proof.Machine

/-! ### Runs of register writes -/

/-- Registers take the words of a list, in its order. -/
def State.wrAll (s : State) (l : List (Nat × Nat)) : State := l.foldl (fun s p => s.wr p.1 (Word.ofNat p.2)) s

theorem State.wrAll_cons (s : State) (p : Nat × Nat) (l : List (Nat × Nat)) :
    s.wrAll (p :: l) = (s.wr p.1 (Word.ofNat p.2)).wrAll l := rfl

theorem State.RegsOnly.wrAll {s t : State} (h : s.RegsOnly t) (l : List (Nat × Nat)) : s.RegsOnly (t.wrAll l) := by
  induction l generalizing t with
  | nil => exact h
  | cons p l ih => exact ih (h.wr ..)

theorem RegsBut.wrAll {P : Nat → Prop} {s t : State} (h : RegsBut P s t) (l : List (Nat × Nat)) (hl : ∀ p ∈ l, P p.1) :
    RegsBut P s (t.wrAll l) := by
  induction l generalizing t with
  | nil => exact h
  | cons p l ih => exact ih (h.wr (hl p List.mem_cons_self) _) fun q hq => hl q (List.mem_cons_of_mem _ hq)

theorem State.rd_wrAll_of_notMem (s : State) {l : List (Nat × Nat)} {a : Nat} (hl : ∀ p ∈ l, p.1 ≠ a) : (s.wrAll l).rd a = s.rd a :=
  (RegsBut.refl (· ≠ a) s).wrAll l hl a fun h => h rfl

/-- A register that the list names, always with the same word, reads that word. -/
theorem State.rd_wrAll_of_mem (s : State) {l : List (Nat × Nat)} {a v : Nat} (hex : ∃ p ∈ l, p.1 = a)
    (hall : ∀ p ∈ l, p.1 = a → p.2 = v) : (s.wrAll l).rd a = Word.ofNat v := by
  induction l generalizing s with
  | nil => obtain ⟨_, hp, _⟩ := hex; exact absurd hp List.not_mem_nil
  | cons p l ih =>
    by_cases hrest : ∃ q ∈ l, q.1 = a
    · exact ih _ hrest fun q hq => hall q (List.mem_cons_of_mem _ hq)
    · obtain ⟨q, hq, hqa⟩ := hex
      have hpa : p.1 = a := by
        rcases List.mem_cons.1 hq with rfl | hq
        · exact hqa
        · exact absurd ⟨q, hq, hqa⟩ hrest
      have hlast : ∀ q ∈ l, q.1 ≠ a := fun q hq hqa => hrest ⟨q, hq, hqa⟩
      rw [State.wrAll_cons, State.rd_wrAll_of_notMem _ hlast, hpa, State.rd_wr_self, hall p List.mem_cons_self hpa]

theorem mem_regPairs {a : Nat} {ws : List Nat} {p : Nat × Nat} :
    p ∈ regPairs a ws ↔ ∃ i, i < ws.length ∧ p = (a + 4 * i, nth 0 ws i) := by
  simp only [regPairs, List.mem_map, List.mem_range, eq_comm]

theorem regPairs_range {a : Nat} {ws : List Nat} {p : Nat × Nat} (h : p ∈ regPairs a ws) : a ≤ p.1 ∧ p.1 < a + 4 * ws.length := by
  obtain ⟨i, hi, rfl⟩ := mem_regPairs.1 h
  dsimp only
  omega

@[simp] theorem length_wordsOf (n : Nat) (bs : List Byte) : (wordsOf n bs).length = n := by simp [wordsOf]

/-! ### The mirror's words (R398, R423, R433) -/

/-- What the mirror holds beside the header's words, the legal registers and the registers of the blocks: no address of theirs. -/
def mirrorRest (s : State) (a : Nat) : Prop :=
  (0x40C00000 ≤ a ∧ a < 0x40C00004) ∨ (0x40C00100 ≤ a ∧ a < 0x40C00300) ∨ (0x40C02000 ≤ a ∧ a < 0x40C02004) ∨
  (0x40C0107C ≤ a ∧ a < 0x40C01080) ∨ (0x40C02100 ≤ a ∧ a < 0x40C02200 + 8 * s.melo.stage.length)

/-- The header's words: LSTAT, the time, and the ledger's counts. -/
def State.mirrorHead (s : State) : List Nat :=
  [s.lstat, s.nw.rtc / 65536, s.nw.rtc % 65536, s.melo.nextSeq, s.melo.nextSeq - 65536, s.melo.heldSeq, s.melo.free,
    min s.melo.dropI 65535 * 65536 + min s.melo.dropE 65535]

/-- The two words of legal register `k`. -/
def Melo.legalWords (m : Melo) (k : Nat) : List Nat :=
  [nth 0 m.legal k % 2 ^ 32, nth 0 m.legal k / 2 ^ 48 % 65536 * 65536 + nth 0 m.legal k / 2 ^ 32 % 65536]

theorem Session.length_words (x : Session) : x.words.length = 8 := by simp [Session.words]

theorem mem_mirrorWords {s : State} {p : Nat × Nat} (h : p ∈ s.mirrorWords) :
    p ∈ regPairs 0x40C00008 s.mirrorHead ∨ (∃ k, k < 32 ∧ p ∈ regPairs (0x40C01400 + 8 * k) (s.melo.legalWords k)) ∨
    mirrorRest s p.1 := by
  unfold State.mirrorWords at h
  simp only [List.mem_append] at h
  unfold mirrorRest
  rcases h with ((((((((hver | hhead) | hid) | hkey) | hsess) | hlegal) | hnw) | hcfg) | hcrc) | hstage
  · have hrange := regPairs_range hver
    simp only [List.length_cons, List.length_nil, LEDGER.base] at hrange
    omega
  · exact .inl hhead
  · have hrange := regPairs_range hid
    simp only [List.length_append, length_wordsOf, List.length_cons, List.length_nil] at hrange
    omega
  · split at hkey
    · exact absurd hkey List.not_mem_nil
    · have hrange := regPairs_range hkey
      simp only [List.length_append, length_wordsOf] at hrange
      omega
  · obtain ⟨port, hport, hwords⟩ := List.mem_flatMap.1 hsess
    have hlt := List.mem_range.1 hport
    split at hwords
    · exact absurd hwords List.not_mem_nil
    · have hrange := regPairs_range hwords
      rw [Session.length_words] at hrange
      omega
  · obtain ⟨k, hk, hwords⟩ := List.mem_flatMap.1 hlegal
    exact .inr (.inl ⟨k, List.mem_range.1 hk, hwords⟩)
  · have hrange := regPairs_range hnw
    simp only [List.length_cons, List.length_nil, MELO.NWSTAT] at hrange
    omega
  · have hrange := regPairs_range hcfg
    simp only [List.length_cons, List.length_nil] at hrange
    omega
  · have hrange := regPairs_range hcrc
    simp only [List.length_cons, List.length_nil] at hrange
    omega
  · have hrange := regPairs_range hstage
    rw [length_wordsOf] at hrange
    omega

/-- The other direction, for the words that a refresh is asked about. -/
theorem mirrorHead_mem (s : State) {i : Nat} (hi : i < 8) : (0x40C00008 + 4 * i, nth 0 s.mirrorHead i) ∈ s.mirrorWords := by
  have hmem : (0x40C00008 + 4 * i, nth 0 s.mirrorHead i) ∈ regPairs 0x40C00008 s.mirrorHead := mem_regPairs.2 ⟨i, hi, rfl⟩
  unfold State.mirrorWords
  simp only [List.mem_append]
  exact .inl (.inl (.inl (.inl (.inl (.inl (.inl (.inl (.inr hmem))))))))

theorem legalWords_mem (s : State) {k : Nat} (hk : k < 32) : (0x40C01400 + 8 * k, nth 0 s.melo.legal k % 2 ^ 32) ∈ s.mirrorWords := by
  have hmem : (0x40C01400 + 8 * k, nth 0 s.melo.legal k % 2 ^ 32) ∈ regPairs (0x40C01400 + 8 * k) (s.melo.legalWords k) :=
    mem_regPairs.2 ⟨0, Nat.zero_lt_two, rfl⟩
  unfold State.mirrorWords
  simp only [List.mem_append]
  exact .inl (.inl (.inl (.inl (.inr (List.mem_flatMap.2 ⟨k, List.mem_range.2 hk, hmem⟩)))))

theorem mirrorWords_window {s : State} (hroom : s.melo.stage.length ≤ 64) {p : Nat × Nat} (h : p ∈ s.mirrorWords) :
    0x40C00000 ≤ p.1 ∧ p.1 < 0x40C03000 := by
  rcases mem_mirrorWords h with hhead | ⟨k, hk, hlegal⟩ | hrest
  · have hrange := regPairs_range hhead
    simp only [State.mirrorHead, List.length_cons, List.length_nil] at hrange
    omega
  · have hrange := regPairs_range hlegal
    simp only [Melo.legalWords, List.length_cons, List.length_nil] at hrange
    omega
  · unfold mirrorRest at hrest
    omega

/-- Every entry of the mirror at a word of the header is that word. -/
theorem mirrorWords_head {s : State} {i : Nat} (hi : i < 8) {p : Nat × Nat} (h : p ∈ s.mirrorWords)
    (ha : p.1 = 0x40C00008 + 4 * i) : p.2 = nth 0 s.mirrorHead i := by
  rcases mem_mirrorWords h with hhead | ⟨k, hk, hlegal⟩ | hrest
  · obtain ⟨j, hj, rfl⟩ := mem_regPairs.1 hhead
    have hij : j = i := by dsimp only at ha; omega
    rw [hij]
  · have hrange := regPairs_range hlegal
    omega
  · unfold mirrorRest at hrest
    omega

/-- Every entry of the mirror at the low word of a legal register is that word. -/
theorem mirrorWords_legal {s : State} {k : Nat} (hk : k < 32) {p : Nat × Nat} (h : p ∈ s.mirrorWords)
    (ha : p.1 = 0x40C01400 + 8 * k) : p.2 = nth 0 s.melo.legal k % 2 ^ 32 := by
  rcases mem_mirrorWords h with hhead | ⟨j, hj, hlegal⟩ | hrest
  · have hrange := regPairs_range hhead
    simp only [State.mirrorHead, List.length_cons, List.length_nil] at hrange
    omega
  · obtain ⟨i, hi, rfl⟩ := mem_regPairs.1 hlegal
    simp only [Melo.legalWords, List.length_cons, List.length_nil] at hi ha
    obtain ⟨rfl, rfl⟩ : i = 0 ∧ j = k := by omega
    rfl
  · unfold mirrorRest at hrest
    omega

/-! ### A refresh (R398) -/

/-- The read regions with the copy that a refresh carries: Meloskern's values, then the mirror's other words. -/
def State.mirrored (s : State) : State :=
  (s.melo.vals.foldl (fun s p => s.wr p.1 p.2) (s.dropRegs LEDGER.base 0x40C02FFF)).wrAll s.mirrorWords

/-- The window of the ledger. -/
def ledgerWindow (a : Nat) : Prop := 0x40C00000 ≤ a ∧ a < 0x40C10000

theorem State.mirrored_regsOnly (s : State) : s.RegsOnly s.mirrored := by
  have hvals (l : List (Nat × Word)) : ∀ t : State, s.RegsOnly t → s.RegsOnly (l.foldl (fun s p => s.wr p.1 p.2) t) := by
    induction l with
    | nil => exact fun _ h => h
    | cons p l ih => exact fun _ h => ih _ (h.wr ..)
  exact (hvals _ _ ⟨_, rfl⟩).wrAll _

theorem State.mirrored_window {s : State} (hb : s.melo.Bounded) : RegsBut ledgerWindow s s.mirrored := by
  have hvals (l : List (Nat × Word)) (hl : ∀ p ∈ l, ledgerWindow p.1) : ∀ t : State, RegsBut ledgerWindow s t →
      RegsBut ledgerWindow s (l.foldl (fun s p => s.wr p.1 p.2) t) := by
    induction l with
    | nil => exact fun _ h => h
    | cons p l ih =>
      exact fun _ h => ih (fun q hq => hl q (List.mem_cons_of_mem _ hq)) _ (h.wr (hl p List.mem_cons_self) _)
  have hdrop : RegsBut ledgerWindow s (s.dropRegs LEDGER.base 0x40C02FFF) := by
    intro a ha
    unfold ledgerWindow at ha
    rw [State.rd_dropRegs, if_pos (by simp only [LEDGER.base]; omega)]
  refine (hvals _ (fun p hp => ?_) _ hdrop).wrAll _ fun p hp => ?_
  · have hp := hb.vals p hp
    unfold ledgerWindow
    omega
  · have hp := mirrorWords_window hb.room hp
    unfold ledgerWindow
    omega

theorem State.rd_mirrored {s : State} {a v : Nat} (hex : ∃ p ∈ s.mirrorWords, p.1 = a)
    (hall : ∀ p ∈ s.mirrorWords, p.1 = a → p.2 = v) : s.mirrored.rd a = Word.ofNat v := State.rd_wrAll_of_mem _ hex hall

theorem State.refresh_silent {s : State} (h : s.answers = false) : s.refresh = s := by
  rw [State.refresh, h]
  exact if_neg Bool.false_ne_true

/-- The registers after a refresh: the copy, REFRESH one up, and its interrupt. -/
def State.copied (s : State) : State := (s.mirrored.wr LEDGER.REFRESH (s.rd LEDGER.REFRESH + 1)).setBit LEDGER.LW_IRQ 0 true

theorem State.copied_regsOnly (s : State) : s.RegsOnly s.copied := (s.mirrored_regsOnly.wr ..).setBit ..

/-- A refresh that the control die answers brings the copy and publishes the staging CRC. -/
theorem State.refresh_answered {s : State} (h : s.answers = true) :
    s.refresh = { s.copied with melo := { s.copied.melo with pubCrc := s.melo.stageCrc } } := by
  rw [State.refresh, if_pos h]
  dsimp only [State.copied, State.mirrored, State.wrAll]

theorem State.refresh_eq (s : State) :
    s.refresh = { s with regs := s.refresh.regs, melo := { s.melo with pubCrc := s.refresh.melo.pubCrc } } := by
  cases h : s.answers with
  | false => rw [State.refresh_silent h]
  | true =>
    obtain ⟨regs, heq⟩ := s.copied_regsOnly
    rw [State.refresh_answered h, heq]

theorem State.rd_refresh_copied {s : State} (h : s.answers = true) (a : Nat) : s.refresh.rd a = s.copied.rd a := by
  refine State.rd_congr ?_ a
  rw [State.refresh_answered h]

theorem State.refresh_window {s : State} (hb : s.melo.Bounded) : RegsBut ledgerWindow s s.refresh := by
  have hcopied : RegsBut ledgerWindow s s.copied :=
    ((State.mirrored_window hb).wr (by unfold ledgerWindow; decide) _).setBit (by unfold ledgerWindow; decide) 0 true
  cases h : s.answers with
  | false => rw [State.refresh_silent h]; exact .refl _ s
  | true => exact fun a ha => (State.rd_refresh_copied h a).trans (hcopied a ha)

theorem State.refresh_counts {s : State} (h : s.answers = true) :
    s.refresh.rd LEDGER.REFRESH = s.rd LEDGER.REFRESH + 1 ∧ s.refresh.bit LEDGER.LW_IRQ 0 = true := by
  have hne : LEDGER.REFRESH ≠ LEDGER.LW_IRQ := by decide
  constructor
  · rw [State.rd_refresh_copied h, State.copied, State.rd_setBit, if_neg hne, State.rd_wr_self]
  · rw [State.bit_congr (State.rd_refresh_copied h _), State.copied, State.bit_setBit_self _ _ (by decide), if_pos rfl]

/-- A register of the copy reads after a refresh what the mirror's words give it. -/
theorem State.rd_refresh {s : State} (h : s.answers = true) {a v : Nat} (ha : a ≠ LEDGER.REFRESH ∧ a ≠ LEDGER.LW_IRQ)
    (hex : ∃ p ∈ s.mirrorWords, p.1 = a) (hall : ∀ p ∈ s.mirrorWords, p.1 = a → p.2 = v) : s.refresh.rd a = Word.ofNat v := by
  rw [State.rd_refresh_copied h, State.copied, State.rd_setBit, if_neg ha.2, State.rd_wr_ne _ _ ha.1, State.rd_mirrored hex hall]

theorem State.rd_refresh_head {s : State} (h : s.answers = true) {i : Nat} (hi : i < 8) :
    s.refresh.rd (0x40C00008 + 4 * i) = Word.ofNat (nth 0 s.mirrorHead i) :=
  State.rd_refresh h (by simp only [LEDGER.REFRESH, LEDGER.LW_IRQ]; omega) ⟨_, mirrorHead_mem s hi, rfl⟩
    fun _ hp ha => mirrorWords_head hi hp ha

theorem State.rd_refresh_legal {s : State} (h : s.answers = true) {k : Nat} (hk : k < 32) :
    s.refresh.rd (0x40C01400 + 8 * k) = Word.ofNat (nth 0 s.melo.legal k) := by
  rw [State.rd_refresh h (by simp only [LEDGER.REFRESH, LEDGER.LW_IRQ]; omega) ⟨_, legalWords_mem s hk, rfl⟩
    fun _ hp ha => mirrorWords_legal hk hp ha]
  exact BitVec.eq_of_toNat_eq (by simp)

end Sys2Proof.Machine
end

section
/-!
Polls (R399, R402, R416): a poll's end, a command's end, and that a taken command is executed once, by its own row of the table.
-/
namespace Sys2Proof.Machine

/-! ### What a poll changes -/

/-- Whether the control die answers follows from the reset block and the registers. -/
theorem State.answers_congr {s t : State} (hrst : t.rst = s.rst) (hregs : t.regs = s.regs) : t.answers = s.answers := by
  unfold State.answers State.domRun
  simp only [hrst, State.bit_congr (State.rd_congr hregs _)]

/-- `t` is `s` after a poll or a part of one: Meloskern, Nightwatch and the ledger window differ, the window only where the control
die answers. -/
structure State.LinkStep (s t : State) : Prop where
  fields : ∃ regs melo nw, t = { s with regs := regs, melo := melo, nw := nw }
  window : RegsBut ledgerWindow s t
  silent : s.answers = false → t.regs = s.regs
  running : t.melo.running = s.melo.running
  legal : t.melo.legal = s.melo.legal
  bounded : t.melo.Bounded

namespace State.LinkStep

theorem refl {s : State} (hb : s.melo.Bounded) : s.LinkStep s := ⟨⟨_, _, _, rfl⟩, .refl _ s, fun _ => rfl, rfl, rfl, hb⟩

variable {s t : State} (h : s.LinkStep t)
include h

theorem rst : t.rst = s.rst := by
  obtain ⟨_, _, _, rfl⟩ := h.fields
  rfl

theorem meloOnly {u : State} (hu : t.MeloOnly u) : s.LinkStep u := by
  have hrunning := hu.running.trans h.running
  have hlegal := hu.legal.trans h.legal
  have hbounded := hu.bounded
  obtain ⟨_, _, rfl⟩ := hu.fields
  refine ⟨?_, h.window, h.silent, hrunning, hlegal, hbounded⟩
  obtain ⟨_, _, _, rfl⟩ := h.fields
  exact ⟨_, _, _, rfl⟩

/-- A change of the link's own fields. -/
theorem withMelo {m : Melo} (hrunning : m.running = t.melo.running) (hlegal : m.legal = t.melo.legal) (hb : m.Bounded) :
    s.LinkStep { t with melo := m } := by
  refine ⟨?_, h.window, h.silent, hrunning.trans h.running, hlegal.trans h.legal, hb⟩
  obtain ⟨_, _, _, rfl⟩ := h.fields
  exact ⟨_, _, _, rfl⟩

theorem refresh : s.LinkStep t.refresh := by
  have heq := t.refresh_eq
  refine ⟨?_, h.window.trans (State.refresh_window h.bounded), fun hs => ?_, ?_, ?_, ?_⟩
  · obtain ⟨_, _, _, hfields⟩ := h.fields
    rw [heq, hfields]
    exact ⟨_, _, _, rfl⟩
  · have hsilent : t.answers = false := (State.answers_congr h.rst (h.silent hs)).trans hs
    rw [State.refresh_silent hsilent, h.silent hs]
  · rw [heq]; exact h.running
  · rw [heq]; exact h.legal
  · rw [heq]; exact ⟨h.bounded.vals, h.bounded.room, h.bounded.stage⟩

end State.LinkStep

/-! ### The end of a poll (R402, R416) -/

/-- Meloskern's fields of the link after the tests of a poll. -/
def Melo.polled (m : Melo) (veto : Bool) : Melo :=
  { m with vetoRun := if veto then m.vetoRun + 1 else 0, linkLost := false, rest := none }

/-- What the tests of a poll record, before its refresh. -/
def State.tested (s : State) (veto : Bool) : State :=
  let s1 := { s with melo := s.melo.polled veto }
  let s2 := if 10 ≤ (s.melo.polled veto).vetoRun then s1.closeAll else s1
  if s.melo.linkLost then s2.event 0x71 else s2

theorem State.pollRest_eq (s : State) (veto : Bool) : s.pollRest veto = (s.tested veto).refresh := rfl

theorem State.tested_meloOnly {s : State} (hb : s.melo.Bounded) (veto : Bool) :
    State.MeloOnly { s with melo := s.melo.polled veto } (s.tested veto) := by
  have hrefl : State.MeloOnly { s with melo := s.melo.polled veto } { s with melo := s.melo.polled veto } :=
    .refl ⟨hb.vals, hb.room, hb.stage⟩
  have hclosed : State.MeloOnly { s with melo := s.melo.polled veto } (if 10 ≤ (s.melo.polled veto).vetoRun then
      State.closeAll { s with melo := s.melo.polled veto } else { s with melo := s.melo.polled veto }) := by
    split
    · exact hrefl.closeAll
    · exact hrefl
  unfold State.tested
  dsimp only
  split
  · exact hclosed.event ..
  · exact hclosed

theorem State.LinkStep.pollRest {s t : State} (h : s.LinkStep t) (veto : Bool) : s.LinkStep (t.pollRest veto) := by
  rw [State.pollRest_eq]
  refine State.LinkStep.refresh (State.LinkStep.meloOnly ?_ (State.tested_meloOnly h.bounded veto))
  exact h.withMelo rfl rfl ⟨h.bounded.vals, h.bounded.room, h.bounded.stage⟩

/-- A poll's end leaves the command and the reply, and waits for nothing more. -/
theorem State.pollRest_link {s : State} (hb : s.melo.Bounded) (veto : Bool) :
    (s.pollRest veto).melo.cmd = s.melo.cmd ∧ (s.pollRest veto).melo.rest = none ∧ (s.pollRest veto).melo.reply = s.melo.reply := by
  have htested := State.tested_meloOnly hb veto
  rw [State.pollRest_eq, State.refresh_eq]
  exact ⟨htested.cmd, htested.rest, htested.reply⟩

/-- No VETO bit, and nothing waits for the end of a poll. -/
def State.quiet (s : State) : State := { s with melo := { s.melo with vetoRun := 0, rest := none } }

/-- A poll whose VETO bit is 0, while the link stands, only ends a run of VETO bits and refreshes the mirror. -/
theorem State.pollRest_quiet {s : State} (hlink : s.melo.linkLost = false) : s.pollRest false = s.quiet.refresh := by
  have hmelo : s.melo.polled false = { s.melo with vetoRun := 0, rest := none } := by
    unfold Melo.polled
    dsimp only
    rw [hlink]
    rfl
  have htested : s.tested false = { s with melo := s.melo.polled false } := by
    unfold State.tested
    dsimp only
    rw [hlink, if_neg Bool.false_ne_true]
    exact if_neg (Nat.not_succ_le_zero 9)
  rw [State.pollRest_eq, htested, hmelo, State.quiet]

theorem State.LinkStep.quiet {s t : State} (h : s.LinkStep t) : s.LinkStep t.quiet :=
  h.withMelo rfl rfl ⟨h.bounded.vals, h.bounded.room, h.bounded.stage⟩

/-! ### The end of a command (R402) -/

/-- A command's state with the command gone and its reply waiting to be posted. -/
def Answer.replied (a : Answer) (h : Word) : State :=
  { a.s with melo := { a.s.melo with cmd := none, reply := some (replyHdr h a.status :: a.words.map Word.ofNat, a.recs) } }

section
variable {s : State} {l : List Word} {opc : Nat} {f : List Word → Bool → State → Answer}

theorem State.runAs_none (h : s.melo.cmd = none) (opc : Nat) (f : List Word → Bool → State → Answer) : s.runAs opc f = s := by
  unfold State.runAs
  rw [h]
  cases s.melo.running <;> rfl

theorem State.runAs_other (hcmd : s.melo.cmd = some l) (hop : bitsOf (nth 0 l 0) 23 16 ≠ opc) : s.runAs opc f = s := by
  unfold State.runAs
  rw [hcmd]
  cases s.melo.running with
  | false => rfl
  | true => exact if_neg hop

theorem State.runAs_stopped (hrun : s.melo.running = false) : s.runAs opc f = s := by
  unfold State.runAs
  rw [hrun]

/-- A taken command whose poll's tests wait is executed, then its poll ends. -/
theorem State.runAs_polled (hrun : s.melo.running = true) (hcmd : s.melo.cmd = some l) (hop : bitsOf (nth 0 l 0) 23 16 = opc) {v : Bool}
    (hrest : s.melo.rest = some v) : s.runAs opc f = ((f (l.drop 1) v s).replied (nth 0 l 0)).pollRest v := by
  unfold State.runAs
  rw [hrun, hcmd, hrest]
  exact if_pos hop

theorem State.runAs_alone (hrun : s.melo.running = true) (hcmd : s.melo.cmd = some l) (hop : bitsOf (nth 0 l 0) 23 16 = opc)
    (hrest : s.melo.rest = none) : s.runAs opc f = (f (l.drop 1) s.rst.veto s).replied (nth 0 l 0) := by
  unfold State.runAs
  rw [hrun, hcmd, hrest]
  exact if_pos hop

/-- What every command of the table keeps: it changes Meloskern and Nightwatch alone, within its bounds. -/
def Command (f : List Word → Bool → State → Answer) : Prop :=
  ∀ (args : List Word) (veto : Bool) (s : State), s.melo.Bounded → s.MeloOnly (f args veto s).s

/-- The command has been executed and answered, and nothing of its poll waits. -/
def State.Answered (s : State) : Prop := s.melo.cmd = none ∧ s.melo.rest = none ∧ s.melo.reply ≠ none

theorem State.LinkStep.replied {t : State} {a : Answer} (h : s.LinkStep t) (ha : t.MeloOnly a.s) (w : Word) : s.LinkStep (a.replied w) :=
  (h.meloOnly ha).withMelo rfl rfl ⟨ha.bounded.vals, ha.bounded.room, ha.bounded.stage⟩

theorem State.LinkStep.runAs {t : State} (h : s.LinkStep t) (hf : Command f) (opc : Nat) : s.LinkStep (t.runAs opc f) := by
  cases hrun : t.melo.running with
  | false => rw [State.runAs_stopped hrun]; exact h
  | true =>
    cases hcmd : t.melo.cmd with
    | none => rw [State.runAs_none hcmd]; exact h
    | some l =>
      by_cases hop : bitsOf (nth 0 l 0) 23 16 = opc
      · cases hrest : t.melo.rest with
        | none =>
          rw [State.runAs_alone hrun hcmd hop hrest]
          exact h.replied (hf _ _ _ h.bounded) _
        | some v =>
          rw [State.runAs_polled hrun hcmd hop hrest]
          exact (h.replied (hf _ _ _ h.bounded) _).pollRest v
      · rw [State.runAs_other hcmd hop]
        exact h

theorem State.runAs_answered (hb : s.melo.Bounded) (hf : Command f) (hrun : s.melo.running = true) (hcmd : s.melo.cmd = some l)
    (hop : bitsOf (nth 0 l 0) 23 16 = opc) : (s.runAs opc f).Answered := by
  have hkept (veto : Bool) := hf (l.drop 1) veto s hb
  cases hrest : s.melo.rest with
  | none =>
    rw [State.runAs_alone hrun hcmd hop hrest]
    exact ⟨rfl, (hkept _).rest.trans hrest, Option.some_ne_none _⟩
  | some v =>
    obtain ⟨hvals, hroom, hstage⟩ := (hkept v).bounded
    have hreplied : ((f (l.drop 1) v s).replied (nth 0 l 0)).melo.Bounded := ⟨hvals, hroom, hstage⟩
    obtain ⟨hc, hr, hy⟩ := State.pollRest_link hreplied v
    rw [State.runAs_polled hrun hcmd hop hrest]
    exact ⟨hc, hr, hy.trans_ne (Option.some_ne_none _)⟩

/-- One row of the table: it executes the command it names; another row leaves the command for the rows to come, and an answered
command alone. -/
theorem State.runAs_turn (hb : s.melo.Bounded) (hf : Command f) (hrun : s.melo.running = true) (hcmd : s.melo.cmd = some l) (opc : Nat)
    {t : State} {tried : List Nat} (h : (t = s ∧ bitsOf (nth 0 l 0) 23 16 ∉ tried) ∨ t.Answered) :
    (t.runAs opc f = s ∧ bitsOf (nth 0 l 0) 23 16 ∉ opc :: tried) ∨ (t.runAs opc f).Answered := by
  rcases h with ⟨rfl, htried⟩ | hdone
  · by_cases hop : bitsOf (nth 0 l 0) 23 16 = opc
    · exact .inr (State.runAs_answered hb hf hrun hcmd hop)
    · exact .inl ⟨State.runAs_other hcmd hop, fun hmem => (List.mem_cons.1 hmem).elim hop htried⟩
  · rw [State.runAs_none hdone.1]
    exact .inr hdone

end

/-! ### The table of R404 -/

theorem mbxNop_command : Command (fun _ _ s => mbxNop s) := fun _ _ _ hb => .refl hb
theorem sessionOpen_command : Command sessionOpen := fun args veto _ hb => sessionOpen_meloOnly hb args veto
theorem sessionClose_command : Command (fun a _ s => sessionClose a s) := fun args _ _ hb => sessionClose_meloOnly hb args
theorem ledgerRead_command : Command (fun a _ s => ledgerRead a s) := fun args _ _ hb => ledgerRead_meloOnly hb args
theorem ledgerExport_command : Command (fun a _ s => ledgerExport a s) := fun args _ _ hb => ledgerExport_meloOnly hb args
theorem timeSet_command : Command (fun a _ s => timeSet a s) := fun args _ _ hb => timeSet_meloOnly hb args
theorem commBegin_command : Command (fun _ _ s => commBegin s) := fun _ _ _ hb => commBegin_meloOnly hb
theorem commWrite_command : Command (fun a _ s => commWrite a s) := fun args _ _ hb => commWrite_meloOnly hb args
theorem commCommit_command : Command (fun a _ s => commCommit a s) := fun args _ _ hb => commCommit_meloOnly hb args
theorem commAbort_command : Command (fun _ _ s => commAbort s) := fun _ _ _ hb => commAbort_meloOnly hb
theorem keyGen_command : Command (fun _ _ s => keyGen s) := fun _ _ _ hb => keyGen_meloOnly hb

theorem State.LinkStep.runTaken {s t : State} (h : s.LinkStep t) : s.LinkStep t.runTaken :=
  ((((((((((h.runAs mbxNop_command _).runAs sessionOpen_command _).runAs sessionClose_command _).runAs ledgerRead_command _).runAs
    ledgerExport_command _).runAs timeSet_command _).runAs commBegin_command _).runAs commWrite_command _).runAs
    commCommit_command _).runAs commAbort_command _).runAs keyGen_command _

/-- Nothing is taken: nothing runs. -/
theorem State.runTaken_none {s : State} (h : s.melo.cmd = none) : s.runTaken = s := by
  unfold State.runTaken
  iterate 11 rw [State.runAs_none h]

/-- A taken command with an opcode of the table has been executed and answered when the table is through. -/
theorem State.runTaken_answered {s : State} {l : List Word} (hb : s.melo.Bounded) (hrun : s.melo.running = true)
    (hcmd : s.melo.cmd = some l) (hop : meloOps.contains (bitsOf (nth 0 l 0) 23 16) = true) : s.runTaken.Answered := by
  have hstart : (s = s ∧ bitsOf (nth 0 l 0) 23 16 ∉ ([] : List Nat)) ∨ s.Answered := .inl ⟨rfl, List.not_mem_nil⟩
  have h1 := State.runAs_turn hb mbxNop_command hrun hcmd 0x01 hstart
  have h2 := State.runAs_turn hb sessionOpen_command hrun hcmd 0x10 h1
  have h3 := State.runAs_turn hb sessionClose_command hrun hcmd 0x11 h2
  have h4 := State.runAs_turn hb ledgerRead_command hrun hcmd 0x20 h3
  have h5 := State.runAs_turn hb ledgerExport_command hrun hcmd 0x21 h4
  have h6 := State.runAs_turn hb timeSet_command hrun hcmd 0x30 h5
  have h7 := State.runAs_turn hb commBegin_command hrun hcmd 0x40 h6
  have h8 := State.runAs_turn hb commWrite_command hrun hcmd 0x41 h7
  have h9 := State.runAs_turn hb commCommit_command hrun hcmd 0x42 h8
  have h10 := State.runAs_turn hb commAbort_command hrun hcmd 0x43 h9
  rcases State.runAs_turn hb keyGen_command hrun hcmd 0x44 h10 with ⟨-, htried⟩ | hdone
  · refine absurd (List.contains_iff_mem.1 hop) fun hmem => htried ?_
    simp only [meloOps, List.mem_cons, List.not_mem_nil, or_false] at hmem ⊢
    omega
  · exact hdone

end Sys2Proof.Machine
end

section
/-!
The mailbox, polls and replies (R399-R403, R416): the commands of the link's control-die side and of Meloskern's timers.
-/
namespace Sys2Proof.Machine

/-! ### The mailbox (R400, R401) -/

section
variable (s : State) (status : Nat)

/-- The registers that a status of the control die's own goes to. -/
def ownRegs (a : Nat) : Prop := a ∈ [LEDGER.DOOR, LEDGER.LW_IRQ, LEDGER.RPL 0]

theorem mailbox_distinct : LEDGER.DOOR ≠ LEDGER.LW_IRQ ∧ LEDGER.DOOR ≠ LEDGER.RPL 0 ∧ LEDGER.LW_IRQ ≠ LEDGER.RPL 0 := by decide

/-- The registers after such a status: the reply word, PEND cleared and the interrupt. -/
def State.ownPosted : State :=
  ((s.wr (LEDGER.RPL 0) (putBits (nth 0 s.ledger.latch 0) 31 24 status)).setBit LEDGER.DOOR 0 false).setBit LEDGER.LW_IRQ 1 true

theorem State.postOwn_eq : s.postOwn status =
    { s with regs := (s.ownPosted status).regs, ledger := { s.ledger with taken := false } } := by
  obtain ⟨regs, heq⟩ := (((State.RegsOnly.refl s).wr (LEDGER.RPL 0) (putBits (nth 0 s.ledger.latch 0) 31 24 status)).setBit
    LEDGER.DOOR 0 false).setBit LEDGER.LW_IRQ 1 true
  unfold State.postOwn State.ownPosted
  dsimp only
  rw [heq]

theorem State.rd_postOwn (a : Nat) : (s.postOwn status).rd a = (s.ownPosted status).rd a :=
  State.rd_congr (congrArg State.regs (s.postOwn_eq status)) a

theorem State.postOwn_door : (s.postOwn status).bit LEDGER.DOOR 0 = false := by
  rw [State.bit_congr (s.rd_postOwn status _), State.ownPosted, State.bit_setBit_ne _ mailbox_distinct.1,
    State.bit_setBit_self _ _ (by decide), if_pos rfl]

theorem State.postOwn_irq (i : Nat) : (s.postOwn status).bit LEDGER.LW_IRQ i = if i = 1 then true else s.bit LEDGER.LW_IRQ i := by
  obtain ⟨hdoor, -, hreply⟩ := mailbox_distinct
  rw [State.bit_congr (s.rd_postOwn status _), State.ownPosted, State.bit_setBit_self _ _ (by decide),
    State.bit_setBit_ne _ hdoor.symm, State.bit_congr (State.rd_wr_ne _ _ hreply)]

theorem State.postOwn_reply : (s.postOwn status).rd (LEDGER.RPL 0) = putBits (nth 0 s.ledger.latch 0) 31 24 status := by
  obtain ⟨-, hdoor, hirq⟩ := mailbox_distinct
  rw [State.rd_postOwn, State.ownPosted, State.rd_setBit, if_neg hirq.symm, State.rd_setBit, if_neg hdoor.symm, State.rd_wr_self]

theorem State.postOwn_regs : RegsBut ownRegs s (s.postOwn status) := by
  have hin : ownRegs LEDGER.DOOR ∧ ownRegs LEDGER.LW_IRQ ∧ ownRegs (LEDGER.RPL 0) := by unfold ownRegs; decide
  obtain ⟨hdoor, hirq, hreply⟩ := hin
  exact fun a ha => (s.rd_postOwn status a).trans
    (((((RegsBut.refl ownRegs s).wr hreply _).setBit hdoor 0 false).setBit hirq 1 true) a ha)

end

section
variable {s : State} (init : Nat)

theorem mailboxDoorbell_now (hnow : s.mustWait .fab LEDGER.base = false) :
    exec (.mailboxDoorbell init) s = .next (doorPend init s) := by
  change Host.Outcome.next (s.writeAt .fab LEDGER.base init LEDGER.DOOR 1 (doorWrite init false true)) = _
  rw [State.writeAt_now hnow]
  rfl

theorem doorPend_free (hdoor : s.bit LEDGER.DOOR 0 = false) : doorPend init s =
    (State.setBit { s with ledger := { latch := (List.range 16).map (fun i => s.rd (0x40C0F000 + 4 * i)), taken := false } }
      LEDGER.DOOR 0 true).respond init LEDGER.DOOR 0 := by
  unfold doorPend
  rw [hdoor]
  rfl

theorem doorPend_pending (hdoor : s.bit LEDGER.DOOR 0 = true) : doorPend init s = s.errorResp init LEDGER.DOOR .refused true := by
  unfold doorPend
  rw [if_pos hdoor]

theorem mailboxCancel_now (pend : Bool) (hnow : s.mustWait .fab LEDGER.base = false) :
    exec (.mailboxCancel init pend) s = .next (doorWrite init true pend s) := by
  change Host.Outcome.next (s.writeAt .fab LEDGER.base init LEDGER.DOOR (Word.ofNat (2 + b2n pend)) (doorWrite init true pend)) = _
  rw [State.writeAt_now hnow]

theorem doorWrite_cancel (hdoor : s.bit LEDGER.DOOR 0 = true) (htaken : s.ledger.taken = false) :
    doorWrite init true false s = (s.postOwn 0xFF).respond init LEDGER.DOOR 0 := by
  unfold doorWrite
  rw [hdoor, htaken]
  rfl

theorem doorWrite_taken (pend : Bool) (hdoor : s.bit LEDGER.DOOR 0 = true) (htaken : s.ledger.taken = true) :
    doorWrite init true pend s = s.errorResp init LEDGER.DOOR .refused true := by
  unfold doorWrite
  rw [hdoor, htaken]
  rfl

end

theorem State.errorResp_ledger (s : State) (init a : Nat) (c : Cause) (w : Bool) : (s.errorResp init a c w).ledger = s.ledger :=
  ((State.ErrorFrame.refl s).errorResp init a c w 0).ledger

/-- A stale mirror posts LOST for a command that pends (R401, R403). -/
theorem mirrorStale_pending {s : State} (hans : s.answers = true) (hdoor : s.bit LEDGER.DOOR 0 = true) :
    exec .mirrorStale s = .next ((s.setBit LEDGER.LW_IRQ 2 true).postOwn 0xFE) := by
  have hstill : (s.setBit LEDGER.LW_IRQ 2 true).bit LEDGER.DOOR 0 = true := by
    rw [State.bit_setBit_ne _ mailbox_distinct.1, hdoor]
  change execMirrorStale s = _
  rw [execMirrorStale, if_pos hans]
  dsimp only
  rw [if_pos hstill]

/-! ### A reply (R400, R402) -/

/-- The reply's words, filled with zeros to the 64 of the buffer. -/
def replyWords (ws : List Word) : List Nat := (ws.map BitVec.toNat ++ List.replicate 64 0).take 64

theorem length_replyWords (ws : List Word) : (replyWords ws).length = 64 := by
  simp [replyWords]

theorem nth_replyWords (ws : List Word) {i : Nat} (hi : i < 64) : Word.ofNat (nth 0 (replyWords ws) i) = nth 0 ws i := by
  unfold replyWords nth
  by_cases hlen : i < ws.length
  · simp [List.getD_eq_getElem?_getD, hi, hlen]
  · have hbeyond : ws.length ≤ i := Nat.le_of_not_lt hlen
    have hfill : i - ws.length < 64 := by omega
    rw [List.getD_eq_getElem?_getD, List.getD_eq_getElem?_getD, List.getElem?_take_of_lt hi,
      List.getElem?_append_right (by rwa [List.length_map]), List.getElem?_replicate_of_lt (by rwa [List.length_map]),
      List.getElem?_eq_none hbeyond]
    rfl

/-- The window with a reply and its records posted, PEND as it stands. -/
def State.posted (s : State) (ws : List Word) (recs : List (List Byte)) : State :=
  ((State.wrAll { s with melo := { s.melo with reply := none } } (regPairs (LEDGER.RPL 0) (replyWords ws))).wrAll
    (regPairs 0x40C03000 (wordsOf (32 * recs.length) recs.flatten))).setBit LEDGER.LW_IRQ 1 true

section
variable (s : State) (ws : List Word) (recs : List (List Byte))

theorem State.posted_regsOnly : State.RegsOnly { s with melo := { s.melo with reply := none } } (s.posted ws recs) :=
  (((State.RegsOnly.refl _).wrAll _).wrAll _).setBit ..

theorem State.posted_window (hrecs : recs.length ≤ 16) : RegsBut ledgerWindow s (s.posted ws recs) := by
  have hstart : RegsBut ledgerWindow s { s with melo := { s.melo with reply := none } } := fun _ _ => rfl
  refine ((hstart.wrAll _ fun p hp => ?_).wrAll _ fun p hp => ?_).setBit (by unfold ledgerWindow; decide) 1 true
  · have hrange := regPairs_range hp
    rw [length_replyWords] at hrange
    simp only [LEDGER.RPL] at hrange
    unfold ledgerWindow
    omega
  · have hrange := regPairs_range hp
    rw [length_wordsOf] at hrange
    unfold ledgerWindow
    omega

/-- Outside the record buffer and the interrupt a posted reply is its words alone. -/
theorem State.rd_posted (hrecs : recs.length ≤ 16) {a : Nat} (ha : 0x40C03800 ≤ a ∧ a ≠ LEDGER.LW_IRQ) : (s.posted ws recs).rd a =
    (State.wrAll { s with melo := { s.melo with reply := none } } (regPairs (LEDGER.RPL 0) (replyWords ws))).rd a := by
  rw [State.posted, State.rd_setBit, if_neg ha.2, State.rd_wrAll_of_notMem]
  intro p hp
  have hrange := regPairs_range hp
  rw [length_wordsOf] at hrange
  omega

theorem State.rd_posted_reply (hrecs : recs.length ≤ 16) {i : Nat} (hi : i < 64) :
    (s.posted ws recs).rd (LEDGER.RPL i) = nth 0 ws i := by
  have hmem : (LEDGER.RPL i, nth 0 (replyWords ws) i) ∈ regPairs (LEDGER.RPL 0) (replyWords ws) :=
    mem_regPairs.2 ⟨i, (length_replyWords ws).symm ▸ hi, rfl⟩
  rw [State.rd_posted s ws recs hrecs (by simp only [LEDGER.RPL, LEDGER.LW_IRQ]; omega),
    State.rd_wrAll_of_mem _ ⟨_, hmem, rfl⟩ fun p hp ha => ?_, nth_replyWords ws hi]
  obtain ⟨j, hj, rfl⟩ := mem_regPairs.1 hp
  have hij : j = i := by simp only [LEDGER.RPL] at ha; omega
  rw [hij]

theorem State.posted_door (hrecs : recs.length ≤ 16) : (s.posted ws recs).bit LEDGER.DOOR 0 = s.bit LEDGER.DOOR 0 := by
  rw [State.bit_congr (State.rd_posted s ws recs hrecs (by decide)), State.bit_congr (State.rd_wrAll_of_notMem _ fun p hp => ?_)]
  · rfl
  · have hrange := regPairs_range hp
    simp only [LEDGER.RPL, LEDGER.DOOR] at hrange ⊢
    omega

theorem State.posted_irq : (s.posted ws recs).bit LEDGER.LW_IRQ 1 = true := by
  rw [State.posted, State.bit_setBit_self _ _ (by decide), if_pos rfl]

end

/-- A reply that reaches the buffer clears PEND where it carries the latched sequence number. -/
theorem replyPosted_answered {s : State} {ws : List Word} {recs : List (List Byte)} (hreply : s.melo.reply = some (ws, recs))
    (hans : s.answers = true) (hrecs : recs.length ≤ 16) : exec .replyPosted s = .next
      (if s.bit LEDGER.DOOR 0 && bitsOf (nth 0 ws 0) 15 0 == bitsOf (nth 0 s.ledger.latch 0) 15 0 then
        State.setBit { s.posted ws recs with ledger := { (s.posted ws recs).ledger with taken := false } } LEDGER.DOOR 0 false
      else s.posted ws recs) := by
  have hledger : (s.posted ws recs).ledger = s.ledger := by
    obtain ⟨regs, heq⟩ := s.posted_regsOnly ws recs
    rw [heq]
  have hans' : State.answers { s with melo := { s.melo with reply := none } } = true := hans
  rw [← State.posted_door s ws recs hrecs, ← hledger]
  change execReplyPosted s = _
  unfold execReplyPosted
  rw [hreply]
  dsimp only
  rw [if_pos hans', apply_ite Host.Outcome.next]
  rfl

/-! ### Polls (R399, R402) -/

/-- A poll at the instant it is made. -/
def State.poll (s : State) : State :=
  let s1 := s.runTaken
  if !s1.answers then { s1 with melo := { s1.melo with vetoRun := 0 } }
  else if s1.bit LEDGER.DOOR 0 && !s1.ledger.taken && s1.melo.cmd.isNone && s1.melo.reply.isNone then s1.takeCmd s1.rst.veto
  else s1.pollRest s1.rst.veto

theorem ledgerPoll_running {s : State} (hrun : s.melo.running = true) (dt : Nat) :
    exec (.ledgerPoll dt) s = .next (s.elapse dt).poll := by
  have hrun' : (s.elapse dt).melo.running = true := hrun
  change execLedgerPoll dt s = _
  unfold execLedgerPoll
  dsimp only
  rw [hrun']
  rfl

section
variable {s : State}

theorem State.poll_silent (h : s.runTaken.answers = false) :
    s.poll = { s.runTaken with melo := { s.runTaken.melo with vetoRun := 0 } } := by
  unfold State.poll
  dsimp only
  rw [h]
  rfl

/-- Nothing to take: the poll carries the mirror. -/
theorem State.poll_mirror (hans : s.runTaken.answers = true) (hidle : (s.runTaken.bit LEDGER.DOOR 0 && !s.runTaken.ledger.taken &&
    s.runTaken.melo.cmd.isNone && s.runTaken.melo.reply.isNone) = false) : s.poll = s.runTaken.pollRest s.runTaken.rst.veto := by
  unfold State.poll
  dsimp only
  rw [hans, hidle]
  rfl

theorem State.poll_take (hcmd : s.melo.cmd = none) (hreply : s.melo.reply = none) (hans : s.answers = true)
    (hdoor : s.bit LEDGER.DOOR 0 = true) (htaken : s.ledger.taken = false) : s.poll = s.takeCmd s.rst.veto := by
  unfold State.poll
  dsimp only
  rw [State.runTaken_none hcmd, hans, hdoor, htaken, hcmd, hreply]
  rfl

theorem State.takeCmd_known (veto : Bool) (hver : bitsOf (nth 0 s.ledger.latch 0) 31 24 = 1)
    (hop : meloOps.contains (bitsOf (nth 0 s.ledger.latch 0) 23 16) = true) : s.takeCmd veto =
    { s with ledger := { s.ledger with taken := true }
             melo := { s.melo with cmd := some s.ledger.latch, rest := some veto, cmdTime := s.nw.rtc, cmdValid := s.nw.timeValid
                                   cmdLegal := s.melo.legal } } := by
  unfold State.takeCmd
  dsimp only
  rw [if_neg (fun h => h hver), if_pos hop]

/-- The state of a poll that answers the latched command at once, before its tests. -/
def State.answeredAtOnce (s : State) (status : Nat) : State :=
  { s with ledger := { s.ledger with taken := true }
           melo := { s.melo with reply := some ([replyHdr (nth 0 s.ledger.latch 0) status], []) } }

theorem State.takeCmd_refused (veto : Bool) (hbad : bitsOf (nth 0 s.ledger.latch 0) 31 24 ≠ 1 ∨
    meloOps.contains (bitsOf (nth 0 s.ledger.latch 0) 23 16) = false) : s.takeCmd veto =
    (s.answeredAtOnce (if bitsOf (nth 0 s.ledger.latch 0) 31 24 = 1 then 1 else 2)).pollRest veto := by
  by_cases hver : bitsOf (nth 0 s.ledger.latch 0) 31 24 = 1
  · have hop := hbad.resolve_left fun h => h hver
    rw [if_pos hver]
    unfold State.takeCmd State.answeredAtOnce
    dsimp only
    rw [if_neg (fun h => h hver), hop, if_neg Bool.false_ne_true]
  · rw [if_neg hver]
    unfold State.takeCmd State.answeredAtOnce
    dsimp only
    rw [if_pos hver]

end

end Sys2Proof.Machine
end

section
/-!
What each command of the table answers where it is accepted (R404, R408, R409, R415-R425), and a command's end as the statement of the
link has it.
-/
namespace Sys2Proof.Machine

/-! ### A command that is held (R402) -/

section
variable {opc : Nat} {l : List Word} {s : State} {f : List Word → Bool → State → Answer} {a : Answer}

theorem State.runAs_held (h : LedgerCmd opc l s) (hb : s.melo.Bounded) (hf : Command f) (ha : f (l.drop 1) false s = a) :
    s.runAs opc f = (a.replied (nth 0 l 0)).quiet.refresh := by
  obtain ⟨hrun, hcmd, hop, hrest, hlink⟩ := h
  have hlost : a.s.melo.linkLost = false := by
    rw [← ha, (hf _ _ _ hb).linkLost, hlink]
  rw [State.runAs_polled hrun hcmd hop hrest, ha]
  exact State.pollRest_quiet (s := a.replied (nth 0 l 0)) hlost

variable {u : State} {status : Nat} {words : List Nat} {recs : List (List Byte)}

/-- Meloskern after a held command: what the command has done, its reply, and the mirror's publication. -/
theorem State.runAs_held_melo (h : LedgerCmd opc l s) (hb : s.melo.Bounded) (hf : Command f)
    (ha : f (l.drop 1) false s = { s := u, status := status, words := words, recs := recs }) :
    (s.runAs opc f).nw = u.nw ∧ ∃ crc, (s.runAs opc f).melo = { u.melo with
      cmd := none, rest := none, vetoRun := 0, pubCrc := crc
      reply := some (replyHdr (nth 0 l 0) status :: words.map Word.ofNat, recs) } := by
  rw [State.runAs_held h hb hf ha, State.refresh_eq]
  exact ⟨rfl, _, rfl⟩

theorem State.runAs_ledgerDone (h : LedgerCmd opc l s) (hb : s.melo.Bounded) (hf : Command f)
    (ha : f (l.drop 1) false s = { s := u, status := status, words := words, recs := recs }) :
    LedgerDone l status words recs s (s.runAs opc f) := by
  have hstep := (State.LinkStep.refl hb).runAs hf opc
  obtain ⟨-, crc, hmelo⟩ := State.runAs_held_melo h hb hf ha
  have hfields := hstep.fields
  refine ⟨?_, ?_, ?_, hstep.window, ?_⟩
  · rw [hmelo]
  · rw [hmelo]
  · rw [hmelo]; rfl
  · obtain ⟨_, _, _, heq⟩ := hfields
    rw [heq]

end

/-! ### Sessions (R404, R415, R416) -/

section
variable {s : State} {args : List Word}

theorem sessionOpen_accepted (hport : argOf args 0 < 4) (hnom : s.mrd (MELO.INOM (argOf args 0 + 1)) ≠ 0)
    (hfree : nth none s.melo.sess (argOf args 0) = none) (hcomm : s.melo.comm = false) (hkey : s.melo.key ≠ none)
    (htime : s.nw.timeValid = true) (husable : 1024 ≤ s.melo.usable) : ∃ x : Session, x.topen = s.melo.cmdTime ∧
    x.delStart = nth 0 s.melo.cmdLegal (24 + 2 * argOf args 0) ∧ x.recStart = nth 0 s.melo.cmdLegal (25 + 2 * argOf args 0) ∧
    sessionOpen args false s = { s := { s with melo := { s.melo with sess := upd s.melo.sess (argOf args 0) (fun _ => some x) } }
                                 words := wordsOf 3 (le96 x.delStart) ++ wordsOf 3 (le96 x.recStart) ++ [s.melo.cmdTime / 65536] } := by
  have hopen : ((nth none s.melo.sess (argOf args 0)).isSome || s.melo.comm || s.melo.key.isNone || !s.nw.timeValid) = false := by
    obtain ⟨k, hk⟩ := Option.ne_none_iff_exists'.1 hkey
    rw [hfree, hcomm, htime, hk]
    rfl
  unfold sessionOpen
  dsimp only
  rw [if_neg (by omega), if_neg hnom, hopen, if_neg Bool.false_ne_true, if_neg Bool.false_ne_true, if_neg (by omega)]
  exact ⟨_, rfl, rfl, rfl, rfl⟩

theorem sessionClose_accepted (hport : argOf args 0 < 4) (hopen : nth none s.melo.sess (argOf args 0) ≠ none) : sessionClose args s =
    { s := s.closeHead (argOf args 0) 1 s.melo.cmdTime s.melo.cmdValid s.melo.cmdLegal
      words := [(s.closeHead (argOf args 0) 1 s.melo.cmdTime s.melo.cmdValid s.melo.cmdLegal).melo.untailed.getLast?.getD 0] } := by
  unfold sessionClose
  dsimp only
  rw [if_neg (by omega), if_neg (by simpa using hopen)]

/-! ### Records (R408, R409) -/

theorem ledgerRead_accepted (hlow : 1 ≤ argOf args 1) (hhigh : argOf args 1 ≤ 16) : ledgerRead args s =
    { s := s
      words := [(((List.range (argOf args 1)).map (fun i => s.melo.recordOf (argOf args 0 + i))).filter Option.isSome).length]
      recs := ((List.range (argOf args 1)).map (fun i => s.melo.recordOf (argOf args 0 + i))).map
        (fun r => r.getD (List.replicate 128 0)) } := by
  unfold ledgerRead
  dsimp only
  rw [if_neg (by omega)]

theorem ledgerExport_accepted {r : List Byte} (hrec : s.melo.recordOf (argOf args 1) = some r) (hfirst : argOf args 0 = s.melo.heldSeq)
    (hheld : s.melo.heldSeq ≤ argOf args 1) (hnext : argOf args 1 < s.melo.nextSeq) (hhead : r.head? ≠ some 1)
    (hcrc : leNat (r.drop 0x7C) = argOf args 2) : ledgerExport args s =
    { s := { s with melo := { s.melo with heldSeq := argOf args 1 + 1 } }, words := [argOf args 1 + 1] } := by
  unfold ledgerExport
  dsimp only
  rw [hrec, if_neg (by omega), Option.getD_some, if_neg hhead, if_neg (by simp [hcrc])]

/-! ### Time (R425) -/

theorem timeSet_accepted (h : s.nw.timeValid = false ∨ s.melo.comm = true) : timeSet args s = { s := s.timeTo (timeArg args) } := by
  have hfree : (s.nw.timeValid && !s.melo.comm) = false := by
    rcases h with h | h
    · rw [h]; rfl
    · rw [h]; exact Bool.and_false _
  unfold timeSet
  dsimp only
  rw [hfree, Bool.false_and, if_neg Bool.false_ne_true]
  rfl

/-! ### Commissioning, key (R418, R420-R424) -/

theorem commBegin_accepted (hseal : s.melo.sealOpen = true) (hcomm : s.melo.comm = false) (hsess : ∀ x ∈ s.melo.sess, x = none) :
    commBegin s = { s := { s with melo := { s.melo with comm := true, stage := [] } } } := by
  have hnone : s.melo.sess.any Option.isSome = false :=
    List.any_eq_false.2 fun x hx => by rw [hsess x hx]; exact Bool.false_ne_true
  unfold commBegin
  rw [hseal, hcomm, hnone]
  rfl

theorem commWrite_accepted (hcomm : s.melo.comm = true) (hok : rwsOk (argOf args 0) (argOf args 1) = true)
    (hnew : ∀ e ∈ s.melo.stage, e.1 ≠ argOf args 0) (hroom : s.melo.stage.length < 64) : commWrite args s =
    { s := { s with melo := { s.melo with stage := s.melo.stage ++ [(argOf args 0, nth 0 args 1)] } }
      words := [s.melo.stage.length + 1] } := by
  have hold : s.melo.stage.any (fun e => e.1 == argOf args 0) = false :=
    List.any_eq_false.2 fun e he => by simpa using hnew e he
  have hfull : decide (64 ≤ s.melo.stage.length) = false := decide_eq_false (by omega)
  have hok' : rwsOk (argOf args 0) (nth 0 args 1).toNat = true := hok
  unfold commWrite
  dsimp only
  rw [hcomm, hold, hfull, hok', if_neg Bool.false_ne_true, List.length_append]
  rfl

/-- The staged changes that change a register: offset, the value before and the staged value. -/
def State.changes (s : State) : List (Nat × Word × Word) :=
  (s.melo.stage.map (fun e => (e.1, s.mrd (LEDGER.base + e.1), e.2))).filter (fun e => e.2.1 != e.2.2)

/-- The state with the staged set applied, before its PARAM_CHANGE records (R423). -/
def State.committed (s : State) : State :=
  let s1 := s.melo.stage.foldl State.applyStaged s
  { s1 with melo := { s1.melo with
    comm := false, stage := [], sealcnt := if s.changes.isEmpty then s.melo.sealcnt else s.melo.sealcnt + 1 } }

theorem commCommit_accepted (hcomm : s.melo.comm = true) (hcrc : argOf args 0 = s.melo.pubCrc) (hseal : s.melo.sealcnt ≠ 65535)
    (horder : (List.range 8).all s.orderOk = true) : commCommit args s =
    { s := State.paramRecords 8 s.changes s.committed, words := [s.committed.melo.sealcnt] } := by
  unfold commCommit
  dsimp only
  rw [hcomm, if_neg (by simp), if_neg (fun h => h hcrc), if_neg hseal, horder, if_neg (by simp)]
  rfl

theorem commAbort_accepted (hcomm : s.melo.comm = true) : commAbort s = { s := s.commEnd 0 } := by
  unfold commAbort
  rw [if_pos hcomm]

theorem keyGen_accepted (hcomm : s.melo.comm = true) (hkey : s.melo.key = none) : keyGen s =
    { s := State.event { s with melo := { s.melo with key := some (publicKey (scalarOf (Config.privateKey 0))) } } 0x14 } := by
  unfold keyGen
  rw [hcomm, hkey]
  rfl

/-! ### What an event leaves of Meloskern -/

/-- Where a state differs from another in records alone, what Meloskern holds beside them is the other's. -/
theorem State.Recorded.kept {t : State} (h : s.Recorded t) : t.nw = s.nw ∧ t.melo.comm = s.melo.comm ∧ t.melo.stage = s.melo.stage ∧
    t.melo.sealcnt = s.melo.sealcnt ∧ t.melo.key = s.melo.key ∧ t.melo.vals = s.melo.vals ∧ t.melo.setAge = s.melo.setAge ∧
    t.melo.sess = s.melo.sess ∧ t.melo.vetoRun = s.melo.vetoRun := by
  obtain ⟨m, ⟨_, _, _, _, _, _, _, _, rfl⟩, rfl⟩ := h
  exact ⟨rfl, rfl, rfl, rfl, rfl, rfl, rfl, rfl, rfl⟩

end

/-! ### A single staged change (R423) -/

theorem State.mrd_mwr_self (s : State) (a : Nat) (v : Word) : (s.mwr a v).mrd a = v := Store.find_put_self _ _ _ _

theorem State.mrd_congr {s t : State} (h : t.melo.vals = s.melo.vals) (a : Nat) : t.mrd a = s.mrd a := by
  rw [State.mrd, h, State.mrd]

theorem State.vals_withPulses (s : State) (acc owed pulse : List Nat) :
    ({ s with melo := { s.melo with acc := acc, owed := owed, pulse := pulse } } : State).melo.vals = s.melo.vals := rfl

theorem State.mrd_applyStaged_self (s : State) (e : Nat × Word) : (s.applyStaged e).mrd (LEDGER.base + e.1) = e.2 := by
  have hvals : (s.applyStaged e).melo.vals = (s.mwr (LEDGER.base + e.1) e.2).melo.vals := by
    rw [State.applyStaged]
    split
    · exact State.vals_withPulses _ _ _ _
    · rfl
  rw [State.mrd_congr hvals, State.mrd_mwr_self]

theorem State.sealcnt_committed_single {s : State} {o : Nat} {v : Word} (h : s.melo.stage = [(o, v)]) :
    s.committed.melo.sealcnt = s.melo.sealcnt + if s.mrd (LEDGER.base + o) = v then 0 else 1 := by
  have hchanges : s.changes.isEmpty = decide (s.mrd (LEDGER.base + o) = v) := by
    unfold State.changes
    rw [h]
    by_cases hv : s.mrd (LEDGER.base + o) = v <;> simp [hv]
  change (if s.changes.isEmpty = true then s.melo.sealcnt else s.melo.sealcnt + 1) = _
  rw [hchanges]
  by_cases hv : s.mrd (LEDGER.base + o) = v <;> simp [hv]

theorem State.mrd_committed_single {s : State} {o : Nat} {v : Word} (h : s.melo.stage = [(o, v)]) :
    s.committed.mrd (LEDGER.base + o) = v := by
  have hvals : s.committed.melo.vals = (s.applyStaged (o, v)).melo.vals := by
    change (s.melo.stage.foldl State.applyStaged s).melo.vals = _
    rw [h, List.foldl_cons, List.foldl_nil]
  rw [State.mrd_congr hvals]
  exact s.mrd_applyStaged_self (o, v)

end Sys2Proof.Machine
end

section
/-!
O39, clause by clause: polls and the mirror (R399, R402, R416), the mailbox and the reply (R400, R401, R403), and each command of the
table (R404-R425).
-/
namespace Sys2Proof.Machine

/-! ### Polls -/

section
variable {s : State}

theorem State.elapse_linkStep (hb : s.melo.Bounded) (dt : Nat) : s.LinkStep (s.elapse dt) :=
  (State.LinkStep.refl hb).meloOnly ((State.MeloOnly.refl hb).elapse dt)

theorem State.LinkStep.ledger {t : State} (h : s.LinkStep t) : t.ledger = s.ledger := by
  obtain ⟨_, _, _, rfl⟩ := h.fields
  rfl

theorem State.LinkStep.eq {t : State} (h : s.LinkStep t) : t = { s with regs := t.regs, melo := t.melo, nw := t.nw } := by
  obtain ⟨_, _, _, rfl⟩ := h.fields
  rfl

/-- Where the control die does not answer, no register has changed. -/
theorem State.LinkStep.eq_silent {t : State} (h : s.LinkStep t) (hs : s.answers = false) :
    t = { s with melo := t.melo, nw := t.nw } := by
  have hregs := h.silent hs
  obtain ⟨_, _, _, rfl⟩ := h.fields
  rw [← hregs]

/-- The end of a run of VETO bits. -/
theorem State.LinkStep.unvetoed {t : State} (h : s.LinkStep t) : s.LinkStep { t with melo := { t.melo with vetoRun := 0 } } :=
  h.withMelo rfl rfl ⟨h.bounded.vals, h.bounded.room, h.bounded.stage⟩

theorem ledgerPoll_takes (dt : Nat) (hrun : s.melo.running = true) (hans : s.answers = true) (hdoor : s.bit LEDGER.DOOR 0 = true)
    (htaken : s.ledger.taken = false) (hcmd : s.melo.cmd = none) (hreply : s.melo.reply = none)
    (hver : bitsOf (nth 0 s.ledger.latch 0) 31 24 = 1) (hop : meloOps.contains (bitsOf (nth 0 s.ledger.latch 0) 23 16) = true) :
    ∃ t, exec (.ledgerPoll dt) s = .next t ∧ t.ledger = { s.ledger with taken := true } ∧ t.melo.cmd = some s.ledger.latch ∧
    t.melo.rest = some s.rst.veto ∧ t.melo.cmdTime = t.nw.rtc ∧ t.melo.cmdLegal = s.melo.legal ∧
    RegsBut (fun _ => False) s t ∧ t = { s with ledger := t.ledger, melo := t.melo, nw := t.nw } := by
  refine ⟨_, ledgerPoll_running hrun dt, ?_⟩
  rw [State.poll_take (s := s.elapse dt) hcmd hreply hans hdoor htaken, State.takeCmd_known (s := s.elapse dt) _ hver hop]
  exact ⟨rfl, rfl, rfl, rfl, rfl, fun _ _ => rfl, rfl⟩

theorem ledgerPoll_refuses (hb : s.melo.Bounded) (dt : Nat) (hrun : s.melo.running = true) (hans : s.answers = true)
    (hdoor : s.bit LEDGER.DOOR 0 = true) (htaken : s.ledger.taken = false) (hcmd : s.melo.cmd = none) (hreply : s.melo.reply = none)
    (hbad : bitsOf (nth 0 s.ledger.latch 0) 31 24 ≠ 1 ∨ meloOps.contains (bitsOf (nth 0 s.ledger.latch 0) 23 16) = false) :
    ∃ t, exec (.ledgerPoll dt) s = .next t ∧ t.ledger = { s.ledger with taken := true } ∧ t.melo.cmd = none ∧
    t.melo.reply = some ([putBits (nth 0 s.ledger.latch 0) 31 24 (if bitsOf (nth 0 s.ledger.latch 0) 31 24 = 1 then 1 else 2)], []) ∧
    t.melo.legal = s.melo.legal ∧ t = { s with regs := t.regs, ledger := t.ledger, melo := t.melo, nw := t.nw } := by
  refine ⟨_, ledgerPoll_running hrun dt, ?_⟩
  have hrefused : (s.elapse dt).takeCmd (s.elapse dt).rst.veto = ((s.elapse dt).answeredAtOnce
      (if bitsOf (nth 0 s.ledger.latch 0) 31 24 = 1 then 1 else 2)).pollRest (s.elapse dt).rst.veto := State.takeCmd_refused _ hbad
  rw [State.poll_take (s := s.elapse dt) hcmd hreply hans hdoor htaken, hrefused]
  generalize (if bitsOf (nth 0 s.ledger.latch 0) 31 24 = 1 then 1 else 2) = status
  have hanswered : ((s.elapse dt).answeredAtOnce status).melo.Bounded := ⟨hb.vals, hb.room, hb.stage⟩
  have hstep := (State.LinkStep.refl hanswered).pollRest (s.elapse dt).rst.veto
  obtain ⟨hc, -, hy⟩ := State.pollRest_link hanswered (s.elapse dt).rst.veto
  refine ⟨hstep.ledger.trans rfl, hc.trans hcmd, hy.trans rfl, hstep.legal.trans rfl, ?_⟩
  obtain ⟨_, _, _, heq⟩ := hstep.fields
  rw [heq]
  rfl

/-- A command taken before is executed, at the latest, before the next poll. -/
theorem ledgerPoll_executes (hb : s.melo.Bounded) (dt : Nat) (l : List Word) (hcmd : s.melo.cmd = some l)
    (hrun : s.melo.running = true) (hop : meloOps.contains (bitsOf (nth 0 l 0) 23 16) = true) :
    ∃ t, exec (.ledgerPoll dt) s = .next t ∧ t.melo.cmd = none ∧ t.melo.rest = none ∧ t.melo.reply ≠ none ∧ t.ledger = s.ledger := by
  refine ⟨_, ledgerPoll_running hrun dt, ?_⟩
  have helapse := s.elapse_linkStep hb dt
  have hstep := helapse.runTaken
  obtain ⟨hc, hr, hy⟩ := State.runTaken_answered (s := s.elapse dt) helapse.bounded hrun hcmd hop
  cases hans : (s.elapse dt).runTaken.answers with
  | false =>
    rw [State.poll_silent hans]
    exact ⟨hc, hr, hy, hstep.ledger⟩
  | true =>
    obtain ⟨r, hreply⟩ := Option.ne_none_iff_exists'.1 hy
    obtain ⟨hc', hr', hy'⟩ := State.pollRest_link hstep.bounded (s.elapse dt).runTaken.rst.veto
    rw [State.poll_mirror hans (by rw [hreply]; exact Bool.and_false _)]
    exact ⟨hc'.trans hc, hr', hy'.trans_ne hy, (hstep.pollRest _).ledger⟩

/-- A poll with nothing to take refreshes the mirror. -/
theorem ledgerPoll_refreshes (hb : s.melo.Bounded) (dt : Nat) (hrun : s.melo.running = true) (hcmd : s.melo.cmd = none)
    (hans : s.answers = true) (hdoor : s.bit LEDGER.DOOR 0 = false) (hlink : s.melo.linkLost = false) (hveto : s.rst.veto = false) :
    ∃ t, exec (.ledgerPoll dt) s = .next t ∧ t.rd LEDGER.REFRESH = s.rd LEDGER.REFRESH + 1 ∧ t.bit LEDGER.LW_IRQ 0 = true ∧
    (∀ k, k < 32 → t.rd (0x40C01400 + 8 * k) = Word.ofNat (nth 0 s.melo.legal k)) ∧
    t.rd 0x40C0000C = Word.ofNat (t.nw.rtc / 65536) ∧ t.rd 0x40C00014 = Word.ofNat s.melo.nextSeq ∧ t.melo.vetoRun = 0 ∧
    RegsBut (fun a => 0x40C00000 ≤ a ∧ a < 0x40C10000) s t ∧ t = { s with regs := t.regs, melo := t.melo, nw := t.nw } := by
  have hidle : (s.elapse dt).runTaken = s.elapse dt := State.runTaken_none hcmd
  have hpoll : (s.elapse dt).poll = (s.elapse dt).quiet.refresh := by
    have hnothing : ((s.elapse dt).bit LEDGER.DOOR 0 && !(s.elapse dt).ledger.taken && (s.elapse dt).melo.cmd.isNone &&
        (s.elapse dt).melo.reply.isNone) = false := by
      rw [show (s.elapse dt).bit LEDGER.DOOR 0 = false from hdoor]
      rfl
    have hveto' : (s.elapse dt).rst.veto = false := hveto
    rw [State.poll_mirror (by rw [hidle]; exact hans) (by rw [hidle]; exact hnothing), hidle, hveto']
    exact State.pollRest_quiet (s := s.elapse dt) hlink
  have hstep : s.LinkStep (s.elapse dt).poll := by
    rw [hpoll]
    exact (s.elapse_linkStep hb dt).quiet.refresh
  have hans' : (s.elapse dt).quiet.answers = true := hans
  refine ⟨_, ledgerPoll_running hrun dt, ?_⟩
  refine ⟨?_, ?_, fun k hk => ?_, ?_, ?_, ?_, hstep.window, hstep.eq⟩ <;> rw [hpoll]
  · exact (State.refresh_counts hans').1
  · exact (State.refresh_counts hans').2
  · exact State.rd_refresh_legal hans' hk
  · rw [State.refresh_eq]
    exact State.rd_refresh_head hans' (i := 1) (by decide)
  · exact State.rd_refresh_head hans' (i := 3) (by decide)
  · rw [State.refresh_eq]
    rfl

theorem ledgerPoll_unanswered (hb : s.melo.Bounded) (dt : Nat) (hrun : s.melo.running = true) (hans : s.answers = false) :
    ∃ t, exec (.ledgerPoll dt) s = .next t ∧ t.melo.vetoRun = 0 ∧ t.melo.legal = s.melo.legal ∧
    (s.melo.cmd = none → t.melo.cmd = none ∧ t.melo.recs = s.melo.recs) ∧ t = { s with melo := t.melo, nw := t.nw } := by
  have hstep := (s.elapse_linkStep hb dt).runTaken
  have hsilent : (s.elapse dt).runTaken.answers = false := (State.answers_congr hstep.rst (hstep.silent hans)).trans hans
  refine ⟨_, ledgerPoll_running hrun dt, ?_⟩
  rw [State.poll_silent hsilent]
  refine ⟨rfl, hstep.legal, fun hcmd => ?_, hstep.unvetoed.eq_silent hans⟩
  have hidle : (s.elapse dt).runTaken = s.elapse dt := State.runTaken_none hcmd
  rw [hidle]
  exact ⟨hcmd, rfl⟩

theorem pollTimeout_ends_veto (hb : s.melo.Bounded) (dt : Nat) : ∃ t, exec (.pollTimeout dt) s = .next t ∧ t.melo.vetoRun = 0 ∧
    t.melo.legal = s.melo.legal ∧ (s.melo.cmd = none → t.melo.recs = s.melo.recs ∧ t.regs = s.regs) ∧
    RegsBut (fun a => 0x40C00000 ≤ a ∧ a < 0x40C10000) s t ∧ t = { s with regs := t.regs, melo := t.melo, nw := t.nw } := by
  have hstep := (s.elapse_linkStep hb dt).runTaken.unvetoed
  refine ⟨_, rfl, rfl, hstep.legal, fun hcmd => ?_, hstep.window, hstep.eq⟩
  have hidle : (s.elapse dt).runTaken = s.elapse dt := State.runTaken_none hcmd
  rw [hidle]
  exact ⟨rfl, rfl⟩

/-- The control die is lost: every session is closed and a run of VETO bits has ended (R416). -/
def State.severed (s : State) : State := { s.closeAll with melo := { s.closeAll.melo with linkLost := true, vetoRun := 0 } }

theorem State.severed_link (s : State) : s.severed.melo.linkLost = true ∧ s.severed.melo.vetoRun = 0 := ⟨rfl, rfl⟩

theorem State.sess_severed (s : State) {p : Nat} (hp : p < 4) : nth none s.severed.melo.sess p = none := s.sess_closeAll hp

theorem State.LinkStep.severed {t : State} (h : s.LinkStep t) : s.LinkStep t.severed := by
  have hclosed := h.meloOnly (State.MeloOnly.refl h.bounded).closeAll
  exact hclosed.withMelo rfl rfl ⟨hclosed.bounded.vals, hclosed.bounded.room, hclosed.bounded.stage⟩

theorem controlDieLoss_now (dt : Nat) (hrun : s.melo.running = true) (hlink : s.melo.linkLost = false) :
    exec (.controlDieLoss dt) s = .next ((s.elapse dt).runTaken.severed.event 0x70 []) := by
  have hruns : ((s.elapse dt).melo.running && !(s.elapse dt).melo.linkLost) = true := by
    rw [show (s.elapse dt).melo.running = true from hrun, show (s.elapse dt).melo.linkLost = false from hlink]
    rfl
  change execControlDieLoss dt s = _
  unfold execControlDieLoss State.severed
  dsimp only
  rw [hruns, if_pos rfl]

theorem controlDieLoss_closes (hb : s.melo.Bounded) (dt : Nat) (hrun : s.melo.running = true) (hlink : s.melo.linkLost = false) :
    ∃ t, exec (.controlDieLoss dt) s = .next t ∧ t.melo.linkLost = true ∧ (∀ p, p < 4 → nth none t.melo.sess p = none) ∧
    t.melo.vetoRun = 0 ∧ t.melo.legal = s.melo.legal ∧ RegsBut (fun a => 0x40C00000 ≤ a ∧ a < 0x40C10000) s t ∧
    t = { s with regs := t.regs, melo := t.melo, nw := t.nw } := by
  have hsevered := (s.elapse_linkStep hb dt).runTaken.severed
  have hevent := (State.MeloOnly.refl hsevered.bounded).event 0x70 []
  have hstep := hsevered.meloOnly hevent
  obtain ⟨-, -, -, -, -, -, -, hsess, hveto⟩ := ((State.Recorded.refl (s.elapse dt).runTaken.severed).event 0x70 []).kept
  obtain ⟨hlost, hended⟩ := (s.elapse dt).runTaken.severed_link
  refine ⟨_, controlDieLoss_now dt hrun hlink, hevent.linkLost.trans hlost, fun p hp => ?_, hveto.trans hended, hstep.legal,
    hstep.window, hstep.eq⟩
  rw [hsess]
  exact State.sess_severed _ hp

end

/-! ### The mailbox and the reply -/

section
variable {s : State}

theorem mailboxDoorbell_latches (init : Nat) (hnow : s.mustWait .fab LEDGER.base = false) (hdoor : s.bit LEDGER.DOOR 0 = false) :
    ∃ t, exec (.mailboxDoorbell init) s = .next t ∧
    t.ledger.latch = (List.range 16).map (fun i => s.rd (0x40C0F000 + 4 * i)) ∧ t.ledger.taken = false ∧ t.bit LEDGER.DOOR 0 = true ∧
    Accepted init LEDGER.DOOR t ∧ RegsBut (fun a => a = LEDGER.DOOR) s t ∧
    t = { s with regs := t.regs, ledger := t.ledger, bus := { s.bus with resp := t.bus.resp } } := by
  refine ⟨_, mailboxDoorbell_now init hnow, ?_⟩
  rw [doorPend_free init hdoor]
  refine ⟨rfl, rfl, ?_, State.accepted_respond _ _ _, fun a ha => State.rd_wr_ne _ _ ha, rfl⟩
  rw [State.bit_respond]
  exact (State.bit_setBit_self _ _ (by decide) _ _).trans (if_pos rfl)

theorem mailboxDoorbell_refused (init : Nat) (hnow : s.mustWait .fab LEDGER.base = false) (hdoor : s.bit LEDGER.DOOR 0 = true) :
    ∃ t, exec (.mailboxDoorbell init) s = .next t ∧ Refused init LEDGER.DOOR .refused t ∧ t.ledger = s.ledger := by
  refine ⟨_, mailboxDoorbell_now init hnow, ?_⟩
  rw [doorPend_pending init hdoor]
  exact ⟨State.refused_errorResp .., s.errorResp_ledger ..⟩

theorem mailboxCancel_withdraws (init : Nat) (hnow : s.mustWait .fab LEDGER.base = false) (hdoor : s.bit LEDGER.DOOR 0 = true)
    (htaken : s.ledger.taken = false) : ∃ t, exec (.mailboxCancel init false) s = .next t ∧ t.bit LEDGER.DOOR 0 = false ∧
    t.bit LEDGER.LW_IRQ 1 = true ∧ t.rd (LEDGER.RPL 0) = putBits (nth 0 s.ledger.latch 0) 31 24 0xFF ∧ Accepted init LEDGER.DOOR t ∧
    RegsBut (fun a => a ∈ [LEDGER.DOOR, LEDGER.LW_IRQ, LEDGER.RPL 0]) s t ∧
    t = { s with regs := t.regs, ledger := t.ledger, bus := { s.bus with resp := t.bus.resp } } := by
  refine ⟨_, mailboxCancel_now init false hnow, ?_⟩
  rw [doorWrite_cancel init hdoor htaken]
  refine ⟨s.postOwn_door 0xFF, (s.postOwn_irq 0xFF 1).trans (if_pos rfl), s.postOwn_reply 0xFF, State.accepted_respond _ _ _,
    s.postOwn_regs 0xFF, ?_⟩
  rw [s.postOwn_eq 0xFF]
  rfl

theorem mailboxCancel_refused (init : Nat) (pend : Bool) (hnow : s.mustWait .fab LEDGER.base = false)
    (hdoor : s.bit LEDGER.DOOR 0 = true) (htaken : s.ledger.taken = true) :
    ∃ t, exec (.mailboxCancel init pend) s = .next t ∧ Refused init LEDGER.DOOR .refused t ∧ t.ledger = s.ledger := by
  refine ⟨_, mailboxCancel_now init pend hnow, ?_⟩
  rw [doorWrite_taken init pend hdoor htaken]
  exact ⟨State.refused_errorResp .., s.errorResp_ledger ..⟩

theorem mirrorStale_posts_lost (hans : s.answers = true) (hdoor : s.bit LEDGER.DOOR 0 = true) :
    ∃ t, exec .mirrorStale s = .next t ∧ t.bit LEDGER.LW_IRQ 2 = true ∧ t.bit LEDGER.DOOR 0 = false ∧
    t.rd (LEDGER.RPL 0) = putBits (nth 0 s.ledger.latch 0) 31 24 0xFE ∧
    RegsBut (fun a => a ∈ [LEDGER.DOOR, LEDGER.LW_IRQ, LEDGER.RPL 0]) s t ∧ t = { s with regs := t.regs, ledger := t.ledger } := by
  have hstale := (RegsBut.refl ownRegs s).setBit (a := LEDGER.LW_IRQ) (by unfold ownRegs; decide) 2 true
  refine ⟨_, mirrorStale_pending hans hdoor, ?_, State.postOwn_door .., State.postOwn_reply .., hstale.trans (State.postOwn_regs _ _), ?_⟩
  · rw [State.postOwn_irq, if_neg (by decide), State.bit_setBit_self _ _ (by decide), if_pos rfl]
  · rw [State.postOwn_eq]
    rfl

theorem replyPosted_reaches (ws : List Word) (recs : List (List Byte)) (hreply : s.melo.reply = some (ws, recs))
    (hans : s.answers = true) (hrecs : recs.length ≤ 16) : ∃ t, exec .replyPosted s = .next t ∧
    t.melo = { s.melo with reply := none } ∧ (∀ i, i < 64 → t.rd (LEDGER.RPL i) = nth 0 ws i) ∧ t.bit LEDGER.LW_IRQ 1 = true ∧
    (bitsOf (nth 0 ws 0) 15 0 = bitsOf (nth 0 s.ledger.latch 0) 15 0 → t.bit LEDGER.DOOR 0 = false) ∧
    (bitsOf (nth 0 ws 0) 15 0 ≠ bitsOf (nth 0 s.ledger.latch 0) 15 0 → t.bit LEDGER.DOOR 0 = s.bit LEDGER.DOOR 0) ∧
    RegsBut (fun a => 0x40C00000 ≤ a ∧ a < 0x40C10000) s t ∧ t = { s with regs := t.regs, melo := t.melo, ledger := t.ledger } := by
  have hregs := s.posted_regsOnly ws recs
  have hwindow := s.posted_window ws recs hrecs
  have hposted := s.posted_door ws recs hrecs
  refine ⟨_, replyPosted_answered hreply hans hrecs, ?_⟩
  by_cases hclear : (s.bit LEDGER.DOOR 0 && bitsOf (nth 0 ws 0) 15 0 == bitsOf (nth 0 s.ledger.latch 0) 15 0) = true
  · rw [if_pos hclear]
    have hne (i : Nat) (hi : i < 64) : LEDGER.RPL i ≠ LEDGER.DOOR := by simp only [LEDGER.RPL, LEDGER.DOOR]; omega
    refine ⟨?_, fun i hi => ?_, ?_, fun _ => ?_, fun hseq => ?_, ?_, ?_⟩
    · obtain ⟨_, heq⟩ := hregs
      rw [heq]
      rfl
    · exact (State.rd_wr_ne _ _ (hne i hi)).trans (s.rd_posted_reply ws recs hrecs hi)
    · exact (State.bit_setBit_ne _ mailbox_distinct.1.symm _ _ _).trans (s.posted_irq ws recs)
    · exact (State.bit_setBit_self _ _ (by decide) _ _).trans (if_pos rfl)
    · exact absurd (eq_of_beq (Bool.and_eq_true_iff.1 hclear).2) hseq
    · exact RegsBut.setBit (t := { s.posted ws recs with ledger := { (s.posted ws recs).ledger with taken := false } }) hwindow
        (by unfold ledgerWindow; decide) 0 false
    · obtain ⟨_, heq⟩ := hregs
      rw [heq]
      rfl
  · rw [if_neg hclear]
    refine ⟨?_, fun i hi => s.rd_posted_reply ws recs hrecs hi, s.posted_irq ws recs, fun hseq => ?_, fun _ => hposted, hwindow, ?_⟩
    · obtain ⟨_, heq⟩ := hregs
      rw [heq]
    · rw [hposted]
      rw [hseq, beq_self_eq_true, Bool.and_true] at hclear
      exact Bool.eq_false_of_not_eq_true hclear
    · obtain ⟨_, heq⟩ := hregs
      rw [heq]

end

end Sys2Proof.Machine
end

section
/-!
O39, the commands of the table (R404-R425), each held with VETO 0 and accepted.
-/
namespace Sys2Proof.Machine

/-! ### Each command runs its row -/

section
variable (s : State)

theorem exec_mbxNop : exec .mbxNop s = .next (s.runAs 0x01 (fun _ _ s => mbxNop s)) := rfl
theorem exec_sessionOpen : exec .sessionOpen s = .next (s.runAs 0x10 sessionOpen) := rfl
theorem exec_sessionClose : exec .sessionClose s = .next (s.runAs 0x11 (fun a _ s => sessionClose a s)) := rfl
theorem exec_ledgerRead : exec .ledgerRead s = .next (s.runAs 0x20 (fun a _ s => ledgerRead a s)) := rfl
theorem exec_ledgerExport : exec .ledgerExport s = .next (s.runAs 0x21 (fun a _ s => ledgerExport a s)) := rfl
theorem exec_timeSet : exec .timeSet s = .next (s.runAs 0x30 (fun a _ s => timeSet a s)) := rfl
theorem exec_commBegin : exec .commBegin s = .next (s.runAs 0x40 (fun _ _ s => commBegin s)) := rfl
theorem exec_commWrite : exec .commWrite s = .next (s.runAs 0x41 (fun a _ s => commWrite a s)) := rfl
theorem exec_commCommit : exec .commCommit s = .next (s.runAs 0x42 (fun a _ s => commCommit a s)) := rfl
theorem exec_commAbort : exec .commAbort s = .next (s.runAs 0x43 (fun _ _ s => commAbort s)) := rfl
theorem exec_keygen : exec .keygen s = .next (s.runAs 0x44 (fun _ _ s => keyGen s)) := rfl

end

section
variable {s : State} (hb : s.melo.Bounded)
include hb

/-! ### NOP and sessions -/

theorem mbxNop_done (l : List Word) (h : LedgerCmd 0x01 l s) :
    ∃ t, exec .mbxNop s = .next t ∧ LedgerDone l 0 [] [] s t ∧ MeloIdle s t := by
  have hanswer : mbxNop s = { s := s } := rfl
  obtain ⟨hnw, crc, hmelo⟩ := State.runAs_held_melo h hb mbxNop_command hanswer
  refine ⟨_, exec_mbxNop s, State.runAs_ledgerDone h hb mbxNop_command hanswer, ?_, hnw⟩
  rw [hmelo]

theorem sessionOpen_done (hlen : s.melo.sess.length = 4) (l : List Word) (p : Nat) (h : LedgerCmd 0x10 l s)
    (hp : (nth 0 (l.drop 1) 0).toNat = p) (hport : p < 4) (hnom : s.mrd (MELO.INOM (p + 1)) ≠ 0) (hfree : nth none s.melo.sess p = none)
    (hcomm : s.melo.comm = false) (hkey : s.melo.key ≠ none) (htime : s.nw.timeValid = true) (husable : 1024 ≤ s.melo.usable) :
    ∃ t, exec .sessionOpen s = .next t ∧ t.nw = s.nw ∧
    t.melo.recs = s.melo.recs ∧ (∀ q, q ≠ p → nth none t.melo.sess q = nth none s.melo.sess q) ∧
    ∃ x, nth none t.melo.sess p = some x ∧ x.topen = s.melo.cmdTime ∧ x.delStart = nth 0 s.melo.cmdLegal (24 + 2 * p) ∧
    x.recStart = nth 0 s.melo.cmdLegal (25 + 2 * p) ∧
    LedgerDone l 0 (wordsOf 3 (le96 x.delStart) ++ wordsOf 3 (le96 x.recStart) ++ [s.melo.cmdTime / 65536]) [] s t := by
  subst hp
  obtain ⟨x, htopen, hdel, hrec, hanswer⟩ := sessionOpen_accepted (args := l.drop 1) hport hnom hfree hcomm hkey htime husable
  obtain ⟨hnw, crc, hmelo⟩ := State.runAs_held_melo h hb sessionOpen_command hanswer
  have hdone := State.runAs_ledgerDone h hb sessionOpen_command hanswer
  refine ⟨_, exec_sessionOpen s, hnw, ?_, fun q hq => ?_, x, ?_, htopen, hdel, hrec, hdone⟩
  · rw [hmelo]
  · rw [hmelo]
    exact nth_upd_ne none s.melo.sess hq _
  · rw [hmelo]
    exact nth_upd_self none s.melo.sess (by rw [hlen]; exact hport) _

theorem sessionClose_done (l : List Word) (p : Nat) (h : LedgerCmd 0x11 l s) (hp : (nth 0 (l.drop 1) 0).toNat = p) (hport : p < 4)
    (hopen : nth none s.melo.sess p ≠ none) : ∃ t, exec .sessionClose s = .next t ∧ nth none t.melo.sess p = none ∧
    0 < t.melo.nextSeq ∧ t.melo.untailed = [t.melo.nextSeq - 1] ∧
    (Store.find t.melo.recs ((t.melo.nextSeq - 1) % 65536)).isSome = true ∧
    (s.melo.dropI + s.melo.dropE = 0 → s.melo.untailed = [] → t.melo.nextSeq = s.melo.nextSeq + 1) ∧
    (∀ h, s.melo.untailed = [h] → (Store.find t.melo.recs ((h + 1) % 65536)).isSome = true ∧ h + 3 ≤ t.melo.nextSeq) ∧
    (∀ q, q ≠ p → nth none t.melo.sess q = nth none s.melo.sess q) ∧ LedgerDone l 0 [t.melo.nextSeq - 1] [] s t ∧ t.nw = s.nw := by
  subst hp
  obtain ⟨head, hhead, heq⟩ := State.closeHead_open hopen 1 s.melo.cmdTime s.melo.cmdValid s.melo.cmdLegal
  have hanswer := sessionClose_accepted (args := l.drop 1) hport hopen
  rw [show argOf (l.drop 1) 0 = (nth 0 (l.drop 1) 0).toNat from rfl, heq] at hanswer
  obtain ⟨hnw, crc, hmelo⟩ := State.runAs_held_melo h hb sessionClose_command hanswer
  have hdone := State.runAs_ledgerDone h hb sessionClose_command hanswer
  refine ⟨_, exec_sessionClose s, ?_, ?_, ?_, ?_, fun hdrop hun => ?_, fun _ hun => ?_, fun q hq => ?_, ?_, hnw⟩
  · rw [hmelo]; exact nth_upd_const none s.melo.sess _
  · rw [hmelo]; exact Nat.succ_pos _
  · rw [hmelo]; rfl
  · rw [hmelo]; exact Melo.present_store _ _ hhead
  · rw [hmelo, s.melo.tails_gap_quiet s.melo.cmdTime s.melo.cmdValid hdrop hun]
  · obtain ⟨hpresent, hle⟩ := s.melo.tails_gap_single s.melo.cmdTime s.melo.cmdValid hun
    rw [hmelo]
    exact ⟨hpresent.store _ hhead, Nat.succ_le_succ hle⟩
  · rw [hmelo]; exact nth_upd_ne none s.melo.sess hq _
  · rw [hmelo]; exact hdone

/-! ### Records and time -/

theorem ledgerRead_done (l : List Word) (n : Nat) (h : LedgerCmd 0x20 l s) (hn : (nth 0 (l.drop 1) 1).toNat = n) (hlow : 1 ≤ n)
    (hhigh : n ≤ 16) : ∃ t, exec .ledgerRead s = .next t ∧
    ∀ rs, rs = (List.range n).map (fun i => s.melo.recordOf ((nth 0 (l.drop 1) 0).toNat + i)) →
    LedgerDone l 0 [(rs.filter Option.isSome).length] (rs.map (fun r => r.getD (List.replicate 128 0))) s t ∧ MeloIdle s t := by
  subst hn
  have hanswer := ledgerRead_accepted (s := s) (args := l.drop 1) hlow hhigh
  obtain ⟨hnw, crc, hmelo⟩ := State.runAs_held_melo h hb ledgerRead_command hanswer
  refine ⟨_, exec_ledgerRead s, ?_⟩
  rintro _ rfl
  refine ⟨State.runAs_ledgerDone h hb ledgerRead_command hanswer, ?_, hnw⟩
  rw [hmelo]

theorem ledgerExport_done (l : List Word) (h : LedgerCmd 0x21 l s) (last : Nat) (hlast : (nth 0 (l.drop 1) 1).toNat = last)
    (r : List Byte) (hrec : s.melo.recordOf last = some r) (hfirst : (nth 0 (l.drop 1) 0).toNat = s.melo.heldSeq)
    (hheld : s.melo.heldSeq ≤ last) (hnext : last < s.melo.nextSeq) (hhead : r.head? ≠ some 1)
    (hcrc : leNat (r.drop 0x7C) = (nth 0 (l.drop 1) 2).toNat) : ∃ t, exec .ledgerExport s = .next t ∧ t.melo.heldSeq = last + 1 ∧
    LedgerDone l 0 [last + 1] [] s t ∧ t.melo.recs = s.melo.recs := by
  subst hlast
  have hanswer := ledgerExport_accepted (args := l.drop 1) hrec hfirst hheld hnext hhead hcrc
  obtain ⟨-, crc, hmelo⟩ := State.runAs_held_melo h hb ledgerExport_command hanswer
  refine ⟨_, exec_ledgerExport s, ?_, State.runAs_ledgerDone h hb ledgerExport_command hanswer, ?_⟩
  · rw [hmelo]
    rfl
  · rw [hmelo]

omit hb in
theorem State.timeTo_clock (s : State) (new : Nat) :
    (s.timeTo new).nw.rtc = new ∧ (s.timeTo new).nw.timeValid = true ∧ (s.timeTo new).melo.setAge = some 0 := by
  obtain ⟨hnw, -, -, -, -, -, hage, -⟩ := ((State.Recorded.refl (s.clockedTo new)).event 0x20
    (leBytes 4 (s.nw.rtc / 65536) ++ leBytes 2 (s.nw.rtc % 65536))).kept
  exact ⟨congrArg Nightwatch.rtc hnw, congrArg Nightwatch.timeValid hnw, hage⟩

theorem timeSet_done (l : List Word) (new : Nat) (h : LedgerCmd 0x30 l s)
    (hnew : new = (nth 0 (l.drop 1) 0).toNat * 65536 + (nth 0 (l.drop 1) 1).toNat % 65536)
    (hfree : s.nw.timeValid = false ∨ s.melo.comm = true) : ∃ t, exec .timeSet s = .next t ∧ t.nw.rtc = new ∧ t.nw.timeValid = true ∧
    t.melo.setAge = some 0 ∧ t.melo.legal = s.melo.legal ∧ LedgerDone l 0 [] [] s t := by
  have hanswer := timeSet_accepted (s := s) (args := l.drop 1) hfree
  have harg : timeArg (l.drop 1) = new := hnew.symm
  rw [harg] at hanswer
  obtain ⟨hnw, crc, hmelo⟩ := State.runAs_held_melo h hb timeSet_command hanswer
  obtain ⟨hrtc, hvalid, hage⟩ := s.timeTo_clock new
  have hstep := (State.LinkStep.refl hb).runAs timeSet_command 0x30
  refine ⟨_, exec_timeSet s, ?_, ?_, ?_, hstep.legal, State.runAs_ledgerDone h hb timeSet_command hanswer⟩
  · rw [hnw]; exact hrtc
  · rw [hnw]; exact hvalid
  · rw [hmelo]; exact hage

/-! ### Commissioning and the key -/

theorem commBegin_done (l : List Word) (h : LedgerCmd 0x40 l s) (hseal : s.melo.sealOpen = true) (hcomm : s.melo.comm = false)
    (hsess : ∀ x ∈ s.melo.sess, x = none) : ∃ t, exec .commBegin s = .next t ∧ t.melo.comm = true ∧ t.melo.stage = [] ∧
    LedgerDone l 0 [] [] s t ∧ t.nw = s.nw := by
  have hanswer := commBegin_accepted hseal hcomm hsess
  obtain ⟨hnw, crc, hmelo⟩ := State.runAs_held_melo h hb commBegin_command hanswer
  refine ⟨_, exec_commBegin s, ?_, ?_, State.runAs_ledgerDone h hb commBegin_command hanswer, hnw⟩
  · rw [hmelo]
  · rw [hmelo]

theorem commWrite_done (l : List Word) (o : Nat) (h : LedgerCmd 0x41 l s) (hcomm : s.melo.comm = true)
    (ho : (nth 0 (l.drop 1) 0).toNat = o) (hok : rwsOk o (nth 0 (l.drop 1) 1).toNat = true) (hnew : ∀ e ∈ s.melo.stage, e.1 ≠ o)
    (hroom : s.melo.stage.length < 64) : ∃ t, exec .commWrite s = .next t ∧
    t.melo.stage = s.melo.stage ++ [(o, nth 0 (l.drop 1) 1)] ∧ LedgerDone l 0 [s.melo.stage.length + 1] [] s t := by
  subst ho
  have hanswer := commWrite_accepted (args := l.drop 1) hcomm hok hnew hroom
  obtain ⟨-, crc, hmelo⟩ := State.runAs_held_melo h hb commWrite_command hanswer
  refine ⟨_, exec_commWrite s, ?_, State.runAs_ledgerDone h hb commWrite_command hanswer⟩
  rw [hmelo]
  rfl

theorem commCommit_done (l : List Word) (h : LedgerCmd 0x42 l s) (hcomm : s.melo.comm = true)
    (hcrc : (nth 0 (l.drop 1) 0).toNat = s.melo.pubCrc) (hseal : s.melo.sealcnt ≠ 65535)
    (horder : (List.range 8).all s.orderOk = true) : ∃ t, exec .commCommit s = .next t ∧ t.melo.comm = false ∧ t.melo.stage = [] ∧
    (∀ o v, s.melo.stage = [(o, v)] → t.mrd (LEDGER.base + o) = v ∧
      t.melo.sealcnt = s.melo.sealcnt + (if s.mrd (LEDGER.base + o) = v then 0 else 1)) ∧ LedgerDone l 0 [t.melo.sealcnt] [] s t := by
  have hanswer := commCommit_accepted (args := l.drop 1) hcomm hcrc hseal horder
  obtain ⟨-, hc, hst, hcnt, -, hvals, -⟩ := ((State.Recorded.refl s.committed).paramRecords 8 s.changes).kept
  obtain ⟨-, crc, hmelo⟩ := State.runAs_held_melo h hb commCommit_command hanswer
  have hsealcnt : (s.runAs 0x42 (fun a _ s => commCommit a s)).melo.sealcnt = s.committed.melo.sealcnt := by
    rw [hmelo]; exact hcnt
  refine ⟨_, exec_commCommit s, ?_, ?_, fun o v hone => ⟨?_, ?_⟩, ?_⟩
  · rw [hmelo]; exact hc
  · rw [hmelo]; exact hst
  · have hkept : (s.runAs 0x42 (fun a _ s => commCommit a s)).melo.vals = s.committed.melo.vals := by
      rw [hmelo]; exact hvals
    rw [State.mrd_congr hkept, State.mrd_committed_single hone]
  · rw [hsealcnt, State.sealcnt_committed_single hone]
  · rw [hsealcnt]
    exact State.runAs_ledgerDone h hb commCommit_command hanswer

theorem commAbort_done (l : List Word) (h : LedgerCmd 0x43 l s) (hcomm : s.melo.comm = true) : ∃ t, exec .commAbort s = .next t ∧
    t.melo.comm = false ∧ t.melo.stage = [] ∧ t.melo.sealcnt = s.melo.sealcnt ∧ LedgerDone l 0 [] [] s t := by
  have hanswer := commAbort_accepted hcomm
  obtain ⟨-, hc, hst, hcnt, -⟩ := ((State.Recorded.refl ({ s with melo := { s.melo with comm := false, stage := [] } } : State)).event
    0x12 (leBytes 1 0)).kept
  obtain ⟨-, crc, hmelo⟩ := State.runAs_held_melo h hb commAbort_command hanswer
  refine ⟨_, exec_commAbort s, ?_, ?_, ?_, State.runAs_ledgerDone h hb commAbort_command hanswer⟩
  · rw [hmelo]; exact hc
  · rw [hmelo]; exact hst
  · rw [hmelo]; exact hcnt

theorem keygen_done (l : List Word) (h : LedgerCmd 0x44 l s) (hcomm : s.melo.comm = true) (hkey : s.melo.key = none) :
    ∃ t, exec .keygen s = .next t ∧ t.melo.key = some (publicKey (scalarOf (Config.privateKey 0))) ∧ LedgerDone l 0 [] [] s t := by
  have hanswer := keyGen_accepted hcomm hkey
  obtain ⟨-, -, -, -, hkept, -⟩ := ((State.Recorded.refl ({ s with melo :=
    { s.melo with key := some (publicKey (scalarOf (Config.privateKey 0))) } } : State)).event 0x14 []).kept
  obtain ⟨-, crc, hmelo⟩ := State.runAs_held_melo h hb keyGen_command hanswer
  refine ⟨_, exec_keygen s, ?_, State.runAs_ledgerDone h hb keyGen_command hanswer⟩
  rw [hmelo]
  exact hkept

end

theorem sessionTailSign_signs (s : State) (h : Nat) (rest : List Nat) (hrun : s.melo.running = true)
    (hun : s.melo.untailed = h :: rest) : ∃ t, exec .sessionTailSign s = .next t ∧ t.melo.untailed = rest ∧
    t.melo.signs = s.melo.signs + 1 ∧ (Store.find t.melo.recs ((h + 1) % 65536)).isSome = true ∧
    t = { s with melo := { s.melo with recs := t.melo.recs, untailed := rest, signs := s.melo.signs + 1,
                                       nextSeq := max s.melo.nextSeq (h + 2) } } := by
  have hexec : exec .sessionTailSign s = .next s.signTail := if_pos hrun
  obtain ⟨tail, htail, heq⟩ := Melo.signTail_cons hun
  refine ⟨_, hexec, ?_⟩
  rw [State.signTail, heq]
  exact ⟨rfl, rfl, s.melo.present_store (h + 1) htail, rfl⟩

/-- Settles O39, clause by clause: polls and the mirror, the mailbox and the reply, and each command of the table. -/
theorem ledgerLinkCarriesCommandsAndTheMirror : Obligations.LedgerLinkCarriesCommandsAndTheMirror := by
  unfold Obligations.LedgerLinkCarriesCommandsAndTheMirror
  intro s hshaped
  have hb := hshaped.bounded
  exact ⟨ledgerPoll_takes, ledgerPoll_refuses hb, ledgerPoll_executes hb, ledgerPoll_refreshes hb, ledgerPoll_unanswered hb,
    pollTimeout_ends_veto hb, controlDieLoss_closes hb, mailboxDoorbell_latches, mailboxDoorbell_refused, mailboxCancel_withdraws,
    mailboxCancel_refused, mirrorStale_posts_lost, replyPosted_reaches, mbxNop_done hb, sessionOpen_done hb hshaped.sess_length,
    sessionClose_done hb, ledgerRead_done hb, ledgerExport_done hb, timeSet_done hb, commBegin_done hb, commWrite_done hb,
    commCommit_done hb, commAbort_done hb, keygen_done hb, sessionTailSign_signs s⟩

end Sys2Proof.Machine
end

section
/-!
Registers that a part writes by itself: the frame of such writes, a counter of a whole register, and a write by the field types of a
register without locked fields.
-/
namespace Sys2Proof.Machine

/-! ### Registers alone, and of these only some -/

/-- `t` differs from `s` in registers of `P` alone. -/
structure State.WritesOnly (P : Nat → Prop) (s t : State) : Prop where
  fields : s.RegsOnly t
  regs : RegsBut P s t

namespace State.WritesOnly

theorem refl (P : Nat → Prop) (s : State) : s.WritesOnly P s := ⟨.refl s, .refl P s⟩

section
variable {P : Nat → Prop} {s t : State} (h : s.WritesOnly P t)
include h

theorem mono {Q : Nat → Prop} (hPQ : ∀ a, P a → Q a) : s.WritesOnly Q t := ⟨h.fields, h.regs.mono hPQ⟩

theorem trans {u : State} (hu : t.WritesOnly P u) : s.WritesOnly P u := by
  refine ⟨?_, h.regs.trans hu.regs⟩
  obtain ⟨_, rfl⟩ := h.fields
  obtain ⟨_, rfl⟩ := hu.fields
  exact ⟨_, rfl⟩

theorem wr {a : Nat} (ha : P a) (v : Word) : s.WritesOnly P (t.wr a v) := ⟨h.fields.wr a v, h.regs.wr ha v⟩

theorem setFld {a : Nat} (ha : P a) (hi lo v : Nat) : s.WritesOnly P (t.setFld a hi lo v) := h.wr ha _

theorem setBit {a : Nat} (ha : P a) (i : Nat) (b : Bool) : s.WritesOnly P (t.setBit a i b) := h.wr ha _

theorem irq {base : Nat} (ha : P (base + 0x14)) (i : Nat) : s.WritesOnly P (t.irq base i) := h.wr ha _

theorem ite {u : State} (hu : s.WritesOnly P u) (c : Prop) [Decidable c] : s.WritesOnly P (if c then t else u) := by
  split
  · exact h
  · exact hu

theorem fabCount {a : Nat} (ha : P a) (hi lo : Nat) : s.WritesOnly P (t.fabCount a hi lo) := h.ite (h.wr ha _) _

end
end State.WritesOnly

/-! ### Counters of a whole register -/

theorem putBits_word (w : Word) (v : Nat) : putBits w 31 0 v = Word.ofNat v := by
  have hmask : maskOf 31 0 = BitVec.allOnes 32 := by decide
  rw [putBits, hmask, BitVec.not_allOnes, BitVec.and_zero, BitVec.zero_or, Nat.shiftLeft_zero]
  exact BitVec.eq_of_toNat_eq (by simp [Word.ofNat])

theorem State.fld_word (s : State) (a : Nat) : s.fld a 31 0 = (s.rd a).toNat := Nat.mod_eq_of_lt (s.rd a).isLt

theorem State.rd_count_word (s : State) (a n : Nat) :
    (s.count a 31 0 n).rd a = Word.ofNat (min ((s.rd a).toNat + n) (2 ^ 32 - 1)) := by
  rw [State.rd_count, if_pos rfl, putBits_word, State.fld_word]

section
variable {s : State}

/-- CTRL.FREEZE holds the fabric's counters. -/
theorem State.fabCount_frozen (h : s.bit (FAB.base + 0x0C) 2 = true) (a hi lo : Nat) : s.fabCount a hi lo = s := if_pos h

theorem State.fabCount_free (h : s.bit (FAB.base + 0x0C) 2 = false) (a hi lo : Nat) : s.fabCount a hi lo = s.count a hi lo 1 :=
  if_neg (Bool.eq_false_iff.1 h)

end

/-! ### A write by the field types (R9) -/

theorem tb_maskOf {hi : Nat} (hhi : hi < 32) (lo j : Nat) : tb (maskOf hi lo) j = decide (lo ≤ j ∧ j ≤ hi) := by
  rw [tb, maskOf, BitVec.getLsbD_ofNat, Nat.testBit_shiftLeft, Nat.testBit_two_pow_sub_one, Bool.eq_iff_iff]
  simp only [Bool.and_eq_true, decide_eq_true_eq]
  omega

/-- A writable field takes its bits of the data. -/
theorem tb_apply_fRw {hi : Nat} (hhi : hi < 32) (lo : Nat) (old data : Word) (j : Nat) :
    tb ((fRw hi lo).apply old data) j = if lo ≤ j ∧ j ≤ hi then tb data j else tb old j := by
  have hmask : (maskOf hi lo).getLsbD j = decide (lo ≤ j ∧ j ≤ hi) := tb_maskOf hhi lo j
  simp only [Field.apply, fRw, tb, BitVec.getLsbD_or, BitVec.getLsbD_and, BitVec.getLsbD_not, hmask]
  by_cases hin : lo ≤ j ∧ j ≤ hi
  · simp [hin]
  · simpa [hin] using BitVec.lt_of_getLsbD

/-- Fields agree where their bits do. -/
theorem bitsOf_congr {v w : Word} {hi lo : Nat} (h : ∀ j, lo ≤ j → j ≤ hi → tb v j = tb w j) :
    bitsOf v hi lo = bitsOf w hi lo := by
  refine Nat.eq_of_testBit_eq fun i => ?_
  rw [testBit_bitsOf, testBit_bitsOf]
  by_cases hi' : i < hi + 1 - lo
  · rw [h (lo + i) (by omega) (by omega)]
  · simp [hi']

/-- In a page that does not run in version 1, a register without locked fields takes a write by its field types alone. -/
theorem State.plainWrite_unlocked {s : State} {a : Nat} {r : RegRow} (hrow : rowAt a = some r) (hver : s.ver (pageBase a) ≠ 1)
    (hfree : ∀ f ∈ r.fields, f.ty ≠ .rwl) (init : Nat) (data : Word) :
    s.plainWrite init a data = (s.wr a (applyFields r.fields (s.rd a) data)).respond init a 0 := by
  have hhidden : hiddenV1 s r (pageBase a) = false := by simp [hiddenV1, hver]
  have hkeep : versionKeep s r (pageBase a) = BitVec.allOnes 32 := if_neg hver
  have hlocked (old d : Word) : rwlChanges r.fields old d = false :=
    List.any_eq_false.2 fun f hf => by simp [hfree f hf]
  have hfields (old d : Word) : versionFields s r (pageBase a) old d = applyFields r.fields old d := by
    rw [versionFields, hkeep, BitVec.not_allOnes, BitVec.and_zero, BitVec.zero_or, BitVec.and_allOnes]
  have hdata (old d : Word) : versionData s r (pageBase a) old d = d := by
    rw [versionData, hkeep, BitVec.not_allOnes, BitVec.and_zero, BitVec.zero_or, BitVec.and_allOnes]
  rw [State.plainWrite, hrow]
  dsimp only
  rw [hhidden, hlocked, hdata, hfields, Bool.and_false, if_neg Bool.false_ne_true, if_neg Bool.false_ne_true]

end Sys2Proof.Machine
end

section
/-!
The fabric's own counters (R158, R163, R164): the registers that follow the coins in use, and the state that a slip with a coin
leaves.
-/
namespace Sys2Proof.Machine

/-- The registers of the fabric that follow the coins in use: STAT, COINUSE, COINHWM, INFLIGHT, WATCHOUT. -/
def coinReg (a : Nat) : Prop :=
  a = FAB.base + 0x10 ∨ (FAB.COINUSE 0 ≤ a ∧ a ≤ FAB.COINHWM 2) ∨ a = FAB.INFLIGHT ∨ a = FAB.WATCHOUT

theorem inPage_of_coinReg {a : Nat} (h : coinReg a) : inPage FAB.base a := by
  simp only [coinReg, inPage, FAB.base, FAB.COINUSE, FAB.COINHWM, FAB.INFLIGHT, FAB.WATCHOUT] at h ⊢
  omega

section
variable {P : Nat → Prop} {s t : State}

/-- A maximum field beside its mate takes two writes. -/
theorem State.WritesOnly.highWater (h : s.WritesOnly P t) {a b : Nat} (ha : P a) (hb : P b) (v : Word) (x y : Nat) :
    s.WritesOnly P (((t.wr a v).setFld b 31 16 x).setFld b 15 0 y) := ((h.wr ha _).setFld hb ..).setFld hb ..

/-- The counters that follow the coins in use are the only registers a refresh writes. -/
theorem State.fabRefresh_writesOnly (s : State) : s.WritesOnly coinReg s.fabRefresh := by
  have hstat := (State.WritesOnly.refl coinReg s).setBit (a := FAB.base + 0x10) (.inl rfl) 8
  have hcoin (k : Nat) (hk : k < 3) : coinReg (FAB.COINUSE k) ∧ coinReg (FAB.COINHWM k) := by
    simp only [coinReg, FAB.COINUSE, FAB.COINHWM]
    omega
  have hput {t : State} (h : s.WritesOnly coinReg t) (k : Nat) (hk : k < 3) := h.highWater (hcoin k hk).1 (hcoin k hk).2
  have hflight {t : State} (h : s.WritesOnly coinReg t) (m n : Nat) :
      s.WritesOnly coinReg ((t.setFld FAB.INFLIGHT 9 0 m).setFld FAB.INFLIGHT 25 16 n) :=
    (h.setFld (.inr (.inr (.inl rfl))) ..).setFld (.inr (.inr (.inl rfl))) ..
  unfold State.fabRefresh
  dsimp only
  split
  · exact hstat _
  · split
    · exact ((hflight (hput (hput (hput (hstat _) 0 (by decide) _ _ _) 1 (by decide) _ _ _) 2 (by decide) _ _ _) _ _).setFld
        (.inr (.inr (.inr rfl))) ..).setFld (.inr (.inr (.inr rfl))) ..
    · exact hflight (hput (hput (hput (hstat _) 0 (by decide) _ _ _) 1 (by decide) _ _ _) 2 (by decide) _ _ _) _ _

theorem State.fabRefresh_frozen (h : s.bit (FAB.base + 0x0C) 2 = true) : ∃ b, s.fabRefresh = s.setBit (FAB.base + 0x10) 8 b :=
  ⟨_, if_pos h⟩

theorem State.WritesOnly.fabRefresh (h : s.WritesOnly (inPage FAB.base) t) : s.WritesOnly (inPage FAB.base) t.fabRefresh :=
  h.trans (t.fabRefresh_writesOnly.mono fun _ => inPage_of_coinReg)

end

/-- WATCHISS and RES_EMPTY may count a slip that has entered. -/
theorem State.counted_writesOnly (s : State) (c d : Prop) [Decidable c] [Decidable d] : s.WritesOnly (inPage FAB.base)
    (if d then (if c then s.fabCount FAB.WATCHISS 31 0 else s).irq FAB.base 3 else (if c then s.fabCount FAB.WATCHISS 31 0 else s)) := by
  have hwatch := ((State.WritesOnly.refl (inPage FAB.base) s).fabCount (a := FAB.WATCHISS) (by unfold inPage; decide) 31 0).ite
    (State.WritesOnly.refl (inPage FAB.base) s) c
  exact (hwatch.irq (by unfold inPage; decide) 3).ite hwatch d

/-- A slip with a coin joins the slips in flight (R157); beside these and the COINPAT counts only the fabric's page has changed. -/
theorem State.launch_writesOnly (s : State) (p : Slip) (c : Nat) : ∃ late pattern,
    ({ s with fab := { s.fab with slips := s.fab.slips ++ [{ p with coin := c, late := late }], pattern := pattern } } : State).WritesOnly
      (inPage FAB.base) (s.launch p c) :=
  ⟨_, _, (State.counted_writesOnly _ _ _).fabRefresh⟩

end Sys2Proof.Machine
end

section
/-!
O13: the aging of a waiting slip (R163), the urgency of a TEST slip (R164), and the watch of one initiator (R158).
-/
namespace Sys2Proof.Machine

/-! ### Aging (R163) -/

/-- The slip that holds the coin has taken its aged rank. -/
def State.agedSlip (s : State) (coin : Nat) : State := s.updSlip coin (fun q => { q with aged := true })

/-- The slip that holds the coin has become urgent. -/
def State.urgentSlip (s : State) (coin : Nat) : State := s.updSlip coin (fun q => { q with urgent := true })

section
variable {s : State} {coin : Nat} {p : Slip} (hrun : s.domRun .fab = true) (hslip : s.slipOf coin = some p)
include hrun hslip

theorem exec_slipAged {c : SlipClass} (hclass : initClass p.init = some c) (cycle : Nat) : exec (.slipAged coin cycle) s =
    .next (if c ≠ .loop ∧ !p.applied ∧ !p.aged ∧ s.ageLimit c < p.age cycle then
      (s.agedSlip coin).fabCount FAB.AGEDCNT 31 0 else s) := by
  change execSlipAged coin cycle s = _
  unfold execSlipAged
  rw [State.clocked_run hrun, hslip]
  dsimp only
  rw [hclass]
  rfl

/-- A waiting slip older than its threshold takes its aged rank and is counted, unless CTRL.FREEZE holds the counter. -/
theorem slipAged_ages (cycle : Nat) (c : SlipClass) (hclass : initClass p.init = some c) (hloop : c ≠ .loop)
    (hwaits : p.applied = false) (hfresh : p.aged = false) (hold : s.ageLimit c < min (cycle - p.cycle) 4095) :
    ∃ t, exec (.slipAged coin cycle) s = .next t ∧
    t.fab.slips = s.fab.slips.map (fun q => if q.coin = coin then { q with aged := true } else q) ∧
    (s.bit (FAB.base + 0x0C) 2 = false → t.rd FAB.AGEDCNT = Word.ofNat (min ((s.rd FAB.AGEDCNT).toNat + 1) (2 ^ 32 - 1))) ∧
    (s.bit (FAB.base + 0x0C) 2 = true → t.rd FAB.AGEDCNT = s.rd FAB.AGEDCNT) ∧
    RegsBut (fun a => a = FAB.AGEDCNT) s t ∧ t = { s with regs := t.regs, fab := { s.fab with slips := t.fab.slips } } := by
  have hages : c ≠ .loop ∧ !p.applied ∧ !p.aged ∧ s.ageLimit c < p.age cycle := by
    rw [hwaits, hfresh]
    exact ⟨hloop, rfl, rfl, hold⟩
  have hframe := (State.WritesOnly.refl (fun a => a = FAB.AGEDCNT) (s.agedSlip coin)).fabCount rfl 31 0
  refine ⟨_, (exec_slipAged hrun hslip hclass cycle).trans (by rw [if_pos hages]),
    ?_, fun hfree => ?_, fun hfrozen => ?_, hframe.regs, ?_⟩
  · rw [hframe.fields.eq_regs]
    rfl
  · rw [State.fabCount_free (s := s.agedSlip coin) hfree, State.rd_count_word]
    rfl
  · rw [State.fabCount_frozen (s := s.agedSlip coin) hfrozen]
    rfl
  · rw [hframe.fields.eq_regs]
    rfl

theorem slipAged_stands (cycle : Nat) (c : SlipClass) (hclass : initClass p.init = some c)
    (h : c = .loop ∨ p.aged = true ∨ min (cycle - p.cycle) 4095 ≤ s.ageLimit c) : exec (.slipAged coin cycle) s = .next s := by
  rw [exec_slipAged hrun hslip hclass, if_neg]
  rintro ⟨hloop, -, hfresh, hold⟩
  rcases h with rfl | haged | hyoung
  · exact hloop rfl
  · simp [haged] at hfresh
  · exact Nat.not_lt.2 hyoung hold

/-! ### Urgency (R164) -/

theorem exec_slipUrgent {d : Nat} (hdue : p.deadline = some d) (at_ : Nat) : exec (.slipUrgent coin at_) s =
    .next (if initClass p.init = some .test ∧ !p.applied ∧ !p.urgent ∧ d ≤ at_ + 16000 * s.urgMargin then
      (((s.atTime at_).urgentSlip coin).irq FAB.base 1).fabCount FAB.URGCNT 31 0
      else s.atTime at_) := by
  change execSlipUrgent coin at_ s = _
  unfold execSlipUrgent
  rw [State.clocked_run (d := .fab) (s := s.atTime at_) hrun, show (s.atTime at_).slipOf coin = some p from hslip]
  dsimp only
  rw [hdue]
  rfl

/-- A waiting TEST slip whose deadline is within the margin becomes urgent, flagged and counted. -/
theorem slipUrgent_turns (at_ d : Nat) (hdue : p.deadline = some d) (htest : initClass p.init = some .test) (hwaits : p.applied = false)
    (hcalm : p.urgent = false) (hnear : d ≤ at_ + 16000 * s.urgMargin) : ∃ t, exec (.slipUrgent coin at_) s = .next t ∧
    t.fab.slips = s.fab.slips.map (fun q => if q.coin = coin then { q with urgent := true } else q) ∧
    t.bit (FAB.base + 0x14) 1 = true ∧ RegsBut (fun a => a = FAB.URGCNT ∨ a = FAB.base + 0x14) s t ∧
    t = { s with regs := t.regs, fab := { s.fab with slips := t.fab.slips }, now := max s.now at_ } := by
  have hurgent : initClass p.init = some .test ∧ !p.applied ∧ !p.urgent ∧ d ≤ at_ + 16000 * s.urgMargin := by
    rw [hwaits, hcalm]
    exact ⟨htest, rfl, rfl, hnear⟩
  have hflag := (State.WritesOnly.refl (fun a => a = FAB.URGCNT ∨ a = FAB.base + 0x14)
    ((s.atTime at_).urgentSlip coin)).irq (base := FAB.base) (.inr rfl) 1
  have hframe := hflag.fabCount (a := FAB.URGCNT) (.inl rfl) 31 0
  have hcount := (State.WritesOnly.refl (fun a => a = FAB.URGCNT)
    (((s.atTime at_).urgentSlip coin).irq FAB.base 1)).fabCount rfl 31 0
  refine ⟨_, (exec_slipUrgent hrun hslip hdue at_).trans (by rw [if_pos hurgent]), ?_, ?_, hframe.regs, ?_⟩
  · rw [hframe.fields.eq_regs]
    rfl
  · rw [State.bit_congr (hcount.regs _ (by decide))]
    exact (State.bit_setBit_self _ _ (by decide) _ _).trans (if_pos rfl)
  · rw [hframe.fields.eq_regs]
    rfl

theorem slipUrgent_waits (at_ d : Nat) (hdue : p.deadline = some d) (hfar : at_ + 16000 * s.urgMargin < d) :
    exec (.slipUrgent coin at_) s = .next { s with now := max s.now at_ } := by
  rw [exec_slipUrgent hrun hslip hdue, if_neg fun h => Nat.not_le.2 hfar h.2.2.2]
  rfl

end

/-! ### The watch (R158) -/

/-- The fields of WATCHSEL. -/
def watchFields : List Field := [fRw 31 31, fRw 7 0]

theorem rowAt_WATCHSEL : rowAt FAB.WATCHSEL = some { off := 0x090, reset := 0, fields := watchFields, v1 := .absent } := by decide

theorem pageBase_WATCHSEL : pageBase FAB.WATCHSEL = FAB.base := by decide

theorem watchFields_unlocked : ∀ f ∈ watchFields, f.ty ≠ .rwl := by decide

theorem tb_watchFields (old data : Word) (j : Nat) :
    tb (applyFields watchFields old data) j = if j = 31 ∨ j ≤ 7 then tb data j else tb old j := by
  change tb ((fRw 7 0).apply ((fRw 31 31).apply old data) data) j = _
  rw [tb_apply_fRw (by decide), tb_apply_fRw (by decide)]
  grind

/-- A write to WATCHSEL has been answered, has taken the data's fields and cleared the watch counters. -/
def State.watched (s : State) (init : Nat) (data : Word) : State :=
  ((((s.respond init FAB.WATCHSEL 0).wr FAB.WATCHSEL (applyFields watchFields (s.rd FAB.WATCHSEL) data)).wr FAB.WATCHISS 0).wr
    FAB.WATCHLAT 0).setFld FAB.WATCHOUT 22 16 0

section
variable {s : State} (init : Nat) (data : Word)

theorem State.watched_writesOnly : (s.respond init FAB.WATCHSEL 0).WritesOnly (inPage FAB.base) (s.watched init data) :=
  ((((State.WritesOnly.refl _ _).wr (by unfold inPage; decide) _).wr (by unfold inPage; decide) _).wr (by unfold inPage; decide) _).setFld
    (by unfold inPage; decide) 22 16 0

theorem State.rd_watched {a : Nat} (h : a ≠ FAB.WATCHOUT) : (s.watched init data).rd a =
    if a = FAB.WATCHLAT then 0 else if a = FAB.WATCHISS then 0 else
    if a = FAB.WATCHSEL then applyFields watchFields (s.rd FAB.WATCHSEL) data else s.rd a := by
  rw [State.watched, State.rd_setFld, if_neg h, State.rd_wr, State.rd_wr, State.rd_wr, State.rd_respond]

theorem State.watched_out : (s.watched init data).fld FAB.WATCHOUT 22 16 = 0 := (State.fld_setFld_self _ _ (by decide) _ _).trans rfl

/-- A refresh leaves the choice of initiator as the write has made it. -/
theorem State.watched_selects :
    (s.watched init data).fabRefresh.rd FAB.WATCHSEL = applyFields watchFields (s.rd FAB.WATCHSEL) data := by
  rw [(s.watched init data).fabRefresh_writesOnly.regs _ (by unfold coinReg; decide), State.rd_watched _ _ (by decide), if_neg (by decide),
    if_neg (by decide), if_pos rfl]

/-- While CTRL.FREEZE holds the counters, they stay as the write has cleared them. -/
theorem State.watched_cleared (hfrozen : s.bit (FAB.base + 0x0C) 2 = true) :
    (s.watched init data).fabRefresh.rd FAB.WATCHISS = 0 ∧ (s.watched init data).fabRefresh.rd FAB.WATCHLAT = 0 ∧
    (s.watched init data).fabRefresh.fld FAB.WATCHOUT 22 16 = 0 := by
  have hstill : (s.watched init data).bit (FAB.base + 0x0C) 2 = true := by
    rw [State.bit, State.rd_watched _ _ (by decide), if_neg (by decide), if_neg (by decide), if_neg (by decide)]
    exact hfrozen
  obtain ⟨b, heq⟩ := State.fabRefresh_frozen hstill
  have hother {a : Nat} (ha : a ≠ FAB.base + 0x10) : (s.watched init data).fabRefresh.rd a = (s.watched init data).rd a := by
    rw [heq, State.rd_setBit, if_neg ha]
  refine ⟨?_, ?_, ?_⟩
  · rw [hother (by decide), State.rd_watched _ _ (by decide), if_neg (by decide), if_pos rfl]
  · rw [hother (by decide), State.rd_watched _ _ (by decide), if_pos rfl]
  · rw [State.fld_congr (hother (by decide)), State.watched_out]

theorem exec_watchSelect (hnow : s.mustWait .fab FAB.base = false) (hver : s.ver FAB.base = 2) :
    exec (.watchSelect init data) s = .next (s.watched init data).fabRefresh := by
  have hold : s.ver FAB.base ≠ 1 := by omega
  change execWatchSelect init data s = _
  rw [execWatchSelect, State.writeAt_now hnow, watchselWrite, if_neg hold,
    State.plainWrite_unlocked rowAt_WATCHSEL (pageBase_WATCHSEL ▸ hold) watchFields_unlocked]
  rfl

theorem watchSelect_selects (hnow : s.mustWait .fab FAB.base = false) (hver : s.ver FAB.base = 2) :
    ∃ t, exec (.watchSelect init data) s = .next t ∧
    t.bit FAB.WATCHSEL 31 = tb data 31 ∧ t.fld FAB.WATCHSEL 7 0 = bitsOf data 7 0 ∧
    (s.bit (FAB.base + 0x0C) 2 = true → t.rd FAB.WATCHISS = 0 ∧ t.rd FAB.WATCHLAT = 0 ∧ t.fld FAB.WATCHOUT 22 16 = 0) ∧
    Accepted init FAB.WATCHSEL t ∧ RegsBut (inPage FAB.base) s t ∧
    t = { s with regs := t.regs, bus := { s.bus with resp := t.bus.resp } } := by
  have hframe := (State.watched_writesOnly (s := s) init data).fabRefresh
  refine ⟨_, exec_watchSelect init data hnow hver, ?_, ?_, State.watched_cleared init data, ?_, hframe.regs, ?_⟩
  · rw [State.bit, State.watched_selects, tb_watchFields, if_pos (.inl rfl)]
  · rw [State.fld, State.watched_selects]
    exact bitsOf_congr fun j _ hj => by rw [tb_watchFields, if_pos (.inr hj)]
  · rw [Accepted, hframe.fields.eq_regs]
    rfl
  · rw [hframe.fields.eq_regs]
    rfl

end

/-- Settles O13: each clause is its command's own equation, with the frame of what it writes. -/
theorem slipsAgeTurnUrgentAndAreWatched : Obligations.SlipsAgeTurnUrgentAndAreWatched := by
  unfold Obligations.SlipsAgeTurnUrgentAndAreWatched
  intro s hrun
  exact ⟨fun _ cycle _ hslip => slipAged_ages hrun hslip cycle, fun _ cycle _ hslip => slipAged_stands hrun hslip cycle,
    fun _ at_ _ hslip => slipUrgent_turns hrun hslip at_, fun _ at_ _ hslip => slipUrgent_waits hrun hslip at_, watchSelect_selects⟩

end Sys2Proof.Machine
end

section
/-!
The enabled bytes of a write (R155) in a memory of the chip, and a read there that meets no uncorrectable error (R136, R482).
-/
namespace Sys2Proof.Machine

/-! ### Runs of bytes -/

/-- Runs of bytes written one after the other. -/
def State.setRuns (s : State) (runs : List (Nat × List Byte)) : State := runs.foldl (fun t q => t.setBytes q.1 q.2) s

/-- Runs of bytes that an initiator stores one after the other. -/
def State.storeRuns (s : State) (init : Nat) (runs : List (Nat × List Byte)) : State :=
  runs.foldl (fun t q => t.memStore init q.1 q.2) s

theorem State.setBytes_mem_congr {s t : State} (h : t.mem = s.mem) (a : Nat) (l : List Byte) :
    (t.setBytes a l).mem = (s.setBytes a l).mem := by
  induction l generalizing s t a with
  | nil => exact h
  | cons b l ih => exact ih (congrArg (fun m => Store.put (memDefault a) m a b) h) (a + 1)

/-- A store leaves in memory what writing its bytes leaves. -/
theorem State.storeRuns_mem {s t : State} (h : t.mem = s.mem) (init : Nat) (runs : List (Nat × List Byte)) :
    (t.storeRuns init runs).mem = (s.setRuns runs).mem := by
  induction runs generalizing s t with
  | nil => exact h
  | cons q runs ih => exact ih (s := s.setBytes q.1 q.2) (t := t.memStore init q.1 q.2) (State.setBytes_mem_congr h q.1 q.2)

/-- Beside memory a store changes only the clerks' reservations and the words known to be bad. -/
theorem State.memStore_frame (s : State) (init a : Nat) (l : List Byte) : ∃ mem clerk0 clerk1 health,
    s.memStore init a l = { s with mem := mem, clerk0 := clerk0, clerk1 := clerk1, health := health } := by
  unfold State.memStore
  rw [s.setBytes_frame a l]
  exact ⟨_, _, _, _, rfl⟩

theorem State.storeRuns_frame (s : State) (init : Nat) (runs : List (Nat × List Byte)) : ∃ mem clerk0 clerk1 health,
    s.storeRuns init runs = { s with mem := mem, clerk0 := clerk0, clerk1 := clerk1, health := health } := by
  induction runs generalizing s with
  | nil => exact ⟨_, _, _, _, rfl⟩
  | cons q runs ih =>
    obtain ⟨mem, clerk0, clerk1, health, heq⟩ := ih (s.memStore init q.1 q.2)
    obtain ⟨_, _, _, _, hfirst⟩ := s.memStore_frame init q.1 q.2
    rw [hfirst] at heq
    refine ⟨mem, clerk0, clerk1, health, ?_⟩
    rw [← heq, ← hfirst]
    rfl

/-- The first byte is written where it is enabled; the runs of the others follow. -/
theorem State.setRuns_enabledRuns_cons (s : State) (a : Nat) (x : Byte) (l : List Byte) (e : List Bool) :
    s.setRuns (enabledRuns a (x :: l) e) = (if e.headD true then s.setByte a x else s).setRuns (enabledRuns (a + 1) l e.tail) := by
  rw [enabledRuns]
  split
  case isTrue =>
    cases enabledRuns (a + 1) l e.tail with
    | nil => rfl
    | cons q runs =>
      obtain ⟨c, bs⟩ := q
      dsimp only
      split
      case isTrue hc =>
        subst hc
        rfl
      case isFalse => rfl
  case isFalse => rfl

theorem State.byte_setRuns_ne (s : State) (a : Nat) (l : List Byte) (e : List Bool) {b : Nat} (h : b < a ∨ a + l.length ≤ b) :
    (s.setRuns (enabledRuns a l e)).byte b = s.byte b := by
  induction l generalizing s a e with
  | nil => rfl
  | cons x l ih =>
    rw [List.length_cons] at h
    rw [State.setRuns_enabledRuns_cons, ih _ _ _ (by omega)]
    split
    · exact State.byte_setByte_ne _ _ (by omega)
    · rfl

/-- An enabled byte is written, any other stands. -/
theorem State.byte_setRuns (s : State) (a : Nat) (l : List Byte) (e : List Bool) {i : Nat} (h : i < l.length) :
    (s.setRuns (enabledRuns a l e)).byte (a + i) = if e.getD i true then l[i] else s.byte (a + i) := by
  induction l generalizing s a e i with
  | nil => exact absurd h (Nat.not_lt_zero i)
  | cons x l ih =>
    rw [State.setRuns_enabledRuns_cons]
    cases i with
    | zero =>
      have hhead : e.getD 0 true = e.headD true := by cases e <;> rfl
      rw [State.byte_setRuns_ne _ _ _ _ (.inl (by omega)), hhead]
      split
      · exact State.byte_setByte_self s a x
      · rfl
    | succ j =>
      have htail : e.getD (j + 1) true = e.tail.getD j true := by cases e <;> rfl
      have hstands : (if e.headD true then s.setByte a x else s).byte (a + 1 + j) = s.byte (a + 1 + j) := by
        split
        · exact State.byte_setByte_ne _ _ (by omega)
        · rfl
      rw [show a + (j + 1) = a + 1 + j by omega, ih _ _ _ (Nat.lt_of_succ_lt_succ h), hstands, htail]
      rfl

/-! ### A slip's write and read at a memory of the chip -/

/-- `t` is `s` after the write of slip `p` at a memory: its enabled bytes are stored, every other byte stands. -/
structure State.Stored (s : State) (p : Slip) (t : State) : Prop where
  fields : ∃ mem clerk0 clerk1 health, t = { s with mem := mem, clerk0 := clerk0, clerk1 := clerk1, health := health }
  enabled : ∀ i (h : i < p.bytes.length), t.byte (p.addr + i) = if p.enables.getD i true then p.bytes[i] else s.byte (p.addr + i)
  others : MemBut (fun a => p.addr ≤ a ∧ a < p.addr + p.bytes.length) s t

/-- The slip's initiator has stored its enabled bytes. -/
def State.slipStored (s : State) (p : Slip) : State := s.storeRuns p.init (enabledRuns p.addr p.bytes p.enables)

theorem State.stored_slipStored (s : State) (p : Slip) : s.Stored p (s.slipStored p) where
  fields := s.storeRuns_frame ..
  enabled i h := by
    rw [State.byte, State.slipStored, State.storeRuns_mem rfl]
    exact s.byte_setRuns p.addr p.bytes p.enables h
  others a ha := by
    rw [State.byte, State.slipStored, State.storeRuns_mem rfl]
    exact s.byte_setRuns_ne p.addr p.bytes p.enables (by omega)

/-- Ports 17 to 19 serve the system SRAM and the two TCMs (R161). -/
theorem onChip_of_portOf {a : Nat} (h : 17 ≤ portOf a ∧ portOf a ≤ 19) : 0x10000000 ≤ a ∧ a < 0x40000000 := by
  by_contra hout
  have hite {c : Prop} [Decidable c] {x y : Nat} (hx : 20 ≤ x) (hy : 20 ≤ y) : 20 ≤ if c then x else y := by
    split
    · exact hx
    · exact hy
  have hlater : 20 ≤ portOf a := by
    rw [portOf, if_neg (by omega), if_neg (by omega), if_neg (by omega), if_neg (by omega), if_neg (by omega)]
    repeat' apply hite
    all_goals omega
  omega

theorem State.eccRead_good {s : State} {a : Nat} (h : ∀ b ∈ s.health.bad, b ≠ a / 16 * 16) (m us cycle : Nat) :
    s.eccRead m a us cycle none = (s, false) := by
  have hgood : s.health.bad.contains (a / 16 * 16) = false := by
    rw [List.contains_eq_mem, decide_eq_false_iff_not]
    exact fun hmem => h _ hmem rfl
  rw [State.eccRead, hgood]
  rfl

/-- A read that touches no word known to be bad meets no error by itself (R482). -/
theorem State.eccSpan_good {s : State} {a n : Nat} (h : ∀ b ∈ s.health.bad, b ≠ a / 16 * 16 ∧ b ≠ (a + n - 1) / 16 * 16)
    (us cycle : Nat) : s.eccSpan a n us cycle none = (s, false) := by
  have hlast : ∀ b ∈ s.health.bad, b ≠ (a + n - 1) / 16 * 16 / 16 * 16 := fun b hb => by
    have := (h b hb).2
    omega
  unfold State.eccSpan
  split
  · rfl
  · rw [State.eccRead_good fun b hb => (h b hb).1]
    dsimp only
    split
    · rfl
    · rw [State.eccRead_good hlast]
      rfl

section
variable {s : State} {p : Slip} (hport : 17 ≤ portOf p.addr ∧ portOf p.addr ≤ 19) (hkind : p.kind = .plain)
  (haligned : ¬ ((p.init = 64 ∨ p.init = 65) ∧ p.addr % p.size ≠ 0))
include hport hkind haligned

theorem State.target_write (hwrite : p.write = true) (us cycle tick : Nat) (ecc : Option EccError) :
    s.target p us cycle tick ecc = (s.slipStored p, []) := by
  have hreads : p.reads = false := by simp [Slip.reads, hwrite, hkind]
  have hpush : p.isPush = false := by simp [Slip.isPush, show ¬ portOf p.addr < 16 by omega]
  rw [State.target, if_pos hport.2, if_neg haligned, State.sramAccess, hreads, if_neg Bool.false_ne_true]
  dsimp only
  rw [if_neg Bool.false_ne_true, State.memApply, hkind]
  dsimp only
  rw [if_pos hwrite, State.memWrite, hpush, if_neg Bool.false_ne_true, if_neg (by omega), if_neg (by omega)]
  rfl

theorem State.target_read (hread : p.write = false) (hgood : ∀ b ∈ s.health.bad, b ≠ p.addr / 16 * 16 ∧
    b ≠ (p.addr + p.len - 1) / 16 * 16) (us cycle tick : Nat) :
    s.target p us cycle tick none = (s, s.getBytes p.addr p.len) := by
  have hreads : p.reads = true := by rw [Slip.reads, hread]; rfl
  have hsize : p.size = p.len := by rw [Slip.size, hread]; rfl
  have hhigh := (onChip_of_portOf hport).1
  rw [State.target, if_pos hport.2, if_neg haligned, State.sramAccess, hreads, if_pos rfl, hsize, State.eccSpan_good hgood]
  dsimp only
  rw [if_neg Bool.false_ne_true, State.memApply, hkind]
  dsimp only
  rw [hread, if_neg Bool.false_ne_true, State.memRead, if_neg (by omega)]

end

end Sys2Proof.Machine
end

section
/-!
The issue of a slip (R155, R159, R160): a coin, a stall, a refusal, and a clerk's access to its own TCM (R136, R506).
-/
namespace Sys2Proof.Machine

/-- The slip of a plain access. -/
def State.plainSlip (s : State) (init addr : Nat) (w : Bool) (bytes : List Byte) (en : List Bool) (len cycle sub : Nat) : Slip :=
  { init := init, addr := addr, write := w, bytes := if w then bytes else [], enables := if w then en else [],
    len := if w then 0 else len, cycle := cycle, sub := sub,
    deadline := if init = 96 then s.health.slice.map (fun x => x.deadline) else none }

theorem initClass_clerk {init : Nat} (h : init = 64 ∨ init = 65) : initClass init ≠ none := by
  obtain rfl | rfl := h <;> decide

/-! ### Coin or stall -/

section
variable {s : State} {p : Slip}

theorem State.issue_launches (hfirst : ∀ q ∈ s.fab.stalled, q.init ≠ p.init) {c : Nat} (hcoin : s.takeCoin p.init = some c) :
    s.issue p = s.launch p c := by
  have hnone : s.fab.stalled.any (fun q => q.init == p.init) = false := List.any_eq_false.2 fun q hq => by simpa using hfirst q hq
  rw [State.issue, hnone, if_neg Bool.false_ne_true, hcoin]

theorem State.issue_stalls (h : (∃ q ∈ s.fab.stalled, q.init = p.init) ∨ s.takeCoin p.init = none) :
    s.issue p = { s with fab := { s.fab with stalled := s.fab.stalled ++ [p] } } := by
  rw [State.issue]
  split
  case isTrue => rfl
  case isFalse hfirst =>
    have hnone : s.takeCoin p.init = none :=
      h.resolve_left fun ⟨q, hq, hinit⟩ => hfirst (List.any_eq_true.2 ⟨q, hq, by simp [hinit]⟩)
    rw [hnone]

end

section
variable {s : State} {init addr : Nat} {w : Bool} {bytes : List Byte} {en : List Bool} {len cycle sub us : Nat} {ecc : Option EccError}

theorem exec_slipIssue_plain (hclass : initClass init ≠ none) :
    exec (.slipIssue init addr w bytes en len cycle sub us .plain ecc) s =
    .next (if !slipSizeOk addr (if w then bytes.length else len) then s.errorResp init addr .size w sub
      else if ownTcm init addr then s.tcmAccess (s.plainSlip init addr w bytes en len cycle sub) us ecc
      else s.issue (s.plainSlip init addr w bytes en len cycle sub)) := by
  change execSlipIssue init addr w bytes en len cycle sub us .plain ecc s = _
  rw [execSlipIssue, ite_self]
  dsimp only
  rw [if_neg hclass, if_neg fun h => h.1 rfl]
  simp only [reduceIte, and_true]
  rfl

theorem exec_slipIssue_issues (hclass : initClass init ≠ none) (hsize : slipSizeOk addr (if w then bytes.length else len) = true)
    (hown : ownTcm init addr = false) : exec (.slipIssue init addr w bytes en len cycle sub us .plain ecc) s =
    .next (s.issue (s.plainSlip init addr w bytes en len cycle sub)) := by
  rw [exec_slipIssue_plain hclass, hsize, hown]
  rfl

theorem slipIssue_launches (hclass : initClass init ≠ none) (hsize : slipSizeOk addr (if w then bytes.length else len) = true)
    (hown : ownTcm init addr = false) (hfirst : ∀ q ∈ s.fab.stalled, q.init ≠ init) (c : Nat) (hcoin : s.takeCoin init = some c) :
    ∃ (t : State) (p : Slip), exec (.slipIssue init addr w bytes en len cycle sub us .plain ecc) s = .next t ∧
    t.fab.slips = s.fab.slips ++ [p] ∧ p.coin = c ∧ p.init = init ∧ p.addr = addr ∧ p.write = w ∧ p.bytes = (if w then bytes else []) ∧
    p.enables = (if w then en else []) ∧ p.applied = false ∧ p.cycle = cycle ∧
    t.fab.stalled = s.fab.stalled ∧ RegsBut (inPage FAB.base) s t ∧ t = { s with regs := t.regs, fab := t.fab } := by
  obtain ⟨late, pattern, hframe⟩ := s.launch_writesOnly (s.plainSlip init addr w bytes en len cycle sub) c
  refine ⟨_, { s.plainSlip init addr w bytes en len cycle sub with coin := c, late := late },
    (exec_slipIssue_issues hclass hsize hown).trans (by rw [State.issue_launches hfirst hcoin]),
    ?_, rfl, rfl, rfl, rfl, rfl, rfl, rfl, rfl, ?_, hframe.regs, ?_⟩
  all_goals rw [hframe.fields.eq_regs]

theorem slipIssue_stalls (hclass : initClass init ≠ none) (hsize : slipSizeOk addr (if w then bytes.length else len) = true)
    (hown : ownTcm init addr = false) (hstall : (∃ q ∈ s.fab.stalled, q.init = init) ∨ s.takeCoin init = none) :
    ∃ (t : State) (p : Slip), exec (.slipIssue init addr w bytes en len cycle sub us .plain ecc) s = .next t ∧
    p.init = init ∧ p.addr = addr ∧ p.write = w ∧ t = { s with fab := { s.fab with stalled := s.fab.stalled ++ [p] } } :=
  ⟨_, s.plainSlip init addr w bytes en len cycle sub, exec_slipIssue_issues hclass hsize hown, rfl, rfl, rfl, State.issue_stalls hstall⟩

/-! ### Refusals -/

/-- A slip that leaves its 16-byte block is refused (R155). -/
theorem slipIssue_refused (hclass : initClass init ≠ none) (hsize : slipSizeOk addr (if w then bytes.length else len) = false) :
    ∃ t, exec (.slipIssue init addr w bytes en len cycle sub us .plain ecc) s = .next t ∧ Refused init addr .size t ∧
    t.fab = s.fab ∧ t.mem = s.mem := by
  refine ⟨s.errorResp init addr .size w sub, ?_, s.refused_errorResp .., ?_, ?_⟩
  · rw [exec_slipIssue_plain hclass, hsize]
    rfl
  all_goals rw [s.errorResp_frame]

/-- A clerk's atomic elsewhere than in SRAM and the TCMs (R506). -/
theorem slipIssue_faults {k : SlipKind} (hclerk : init = 64 ∨ init = 65) (hkind : k ≠ .plain) (hatomic : atomicOk addr = false) :
    ∃ t, exec (.slipIssue init addr w bytes en len cycle sub us k ecc) s = .next t ∧
    (t.clerk (init - 64)).fault = some (decide (k ≠ .lr), addr) ∧ t.fab = s.fab ∧ t.regs = s.regs ∧ t.bus = s.bus := by
  have hexec : exec (.slipIssue init addr w bytes en len cycle sub us k ecc) s =
      .next (s.updClerk (init - 64) (fun c => { c with fault := some (decide (k ≠ .lr), addr) })) := by
    change execSlipIssue init addr w bytes en len cycle sub us k ecc s = _
    rw [execSlipIssue, if_pos hclerk]
    rw [if_neg (initClass_clerk hclerk), if_pos ⟨hkind, by rw [hatomic]; rfl⟩]
    cases k with
    | plain => exact absurd rfl hkind
    | lr => rfl
    | sc => rfl
    | amo => rfl
  refine ⟨_, hexec, ?_, ?_⟩
  · rw [State.clerk_updClerk _ (by omega) (by omega), if_pos rfl]
  · obtain rfl | rfl := hclerk <;> exact ⟨rfl, rfl, rfl⟩

/-! ### A clerk's own TCM (R136) -/

theorem portOf_ownTcm (h : ownTcm init addr = true) : (init = 64 ∨ init = 65) ∧ 17 ≤ portOf addr ∧ portOf addr ≤ 19 := by
  rw [ownTcm, Bool.or_eq_true] at h
  simp only [Bool.and_eq_true, beq_iff_eq, decide_eq_true_eq] at h
  rcases h with ⟨⟨hinit, hlo⟩, hhi⟩ | ⟨⟨hinit, hlo⟩, hhi⟩
  · refine ⟨.inl hinit, ?_⟩
    rw [portOf, if_neg (by omega), if_neg (by omega), if_neg (by omega), if_pos ⟨hlo, hhi⟩]
    decide
  · refine ⟨.inr hinit, ?_⟩
    rw [portOf, if_neg (by omega), if_neg (by omega), if_neg (by omega), if_neg (by omega), if_pos ⟨hlo, hhi⟩]
    decide

/-- The state in which an access runs whose initiator waits for the response. -/
def State.accessing (s : State) (init addr : Nat) : State :=
  { s with bus := { s.bus with quiet := some init, resp := { init := init, addr := addr } } }

theorem State.withReaction_accepted {f : State → State} {u : State} (hf : f (s.accessing init addr) = u) (hcause : u.bus.resp.cause = 0) :
    s.withReaction init addr sub w f = { u with bus := { u.bus with quiet := none } } := by
  subst hf
  exact if_pos (.inl hcause)

/-- A clerk's aligned write to its own TCM stores its bytes at once. -/
theorem State.tcmAccess_write {p : Slip} (hport : 17 ≤ portOf p.addr ∧ portOf p.addr ≤ 19) (hkind : p.kind = .plain)
    (hwrite : p.write = true) (haligned : p.addr % p.size = 0) : ∃ u, (s.accessing p.init p.addr).Stored p u ∧
    s.tcmAccess p us ecc = { u with bus := { u.bus with quiet := none, resp := { init := p.init, addr := p.addr } } } := by
  have hstored := (s.accessing p.init p.addr).stored_slipStored p
  have hcause : ((s.accessing p.init p.addr).slipStored p).bus.resp.cause = 0 := by
    obtain ⟨_, _, _, _, heq⟩ := hstored.fields
    rw [heq]
    rfl
  refine ⟨_, hstored, State.withReaction_accepted (u := ((s.accessing p.init p.addr).slipStored p).respond p.init p.addr 0) ?_ rfl⟩
  dsimp only
  rw [State.target_write hport hkind (fun h => h.2 haligned) hwrite]
  exact if_pos hcause

theorem slipIssue_tcm_write (hown : ownTcm init addr = true) (hsize : slipSizeOk addr bytes.length = true)
    (haligned : addr % bytes.length = 0) : ∃ t, exec (.slipIssue init addr true bytes [] len cycle sub us .plain ecc) s = .next t ∧
    (∀ i (h : i < bytes.length), t.byte (addr + i) = bytes[i]) ∧ MemBut (fun a => addr ≤ a ∧ a < addr + bytes.length) s t ∧
    Accepted init addr t ∧ t.fab = s.fab ∧ t.regs = s.regs := by
  obtain ⟨hclerk, hport⟩ := portOf_ownTcm hown
  have hexec : exec (.slipIssue init addr true bytes [] len cycle sub us .plain ecc) s =
      .next (s.tcmAccess (s.plainSlip init addr true bytes [] len cycle sub) us ecc) := by
    rw [exec_slipIssue_plain (initClass_clerk hclerk), if_pos rfl, hsize, hown]
    rfl
  obtain ⟨u, hstored, heq⟩ := State.tcmAccess_write (s := s) (us := us) (ecc := ecc)
    (p := s.plainSlip init addr true bytes [] len cycle sub) hport rfl rfl haligned
  rw [heq] at hexec
  refine ⟨_, hexec, hstored.enabled, hstored.others, rfl, ?_, ?_⟩
  all_goals
    obtain ⟨_, _, _, _, rfl⟩ := hstored.fields
    rfl

end

end Sys2Proof.Machine
end

section
/-!
The grant of a slip at system SRAM (R162-R165) and its completion (R157, R173-R176).
-/
namespace Sys2Proof.Machine

/-! ### A grant -/

/-- The pages of R138 lie at and above 0x4000_0000. -/
theorem pageTable_above_memories : ∀ p ∈ pageTable, 0x40000000 ≤ p.base := by decide

theorem findPageIn_eq_none_of_lt {a : Nat} {l : List PageRow} (h : ∀ p ∈ l, a < p.base) : findPageIn a l = none := by
  induction l with
  | nil => rfl
  | cons p l ih =>
    obtain ⟨hp, hl⟩ := List.forall_mem_cons.1 h
    rw [findPageIn, if_neg (by omega), ih hl]

theorem findPage_memory {a : Nat} (h : a < 0x40000000) : findPage a = none :=
  findPageIn_eq_none_of_lt fun p hp => Nat.lt_of_lt_of_le h (pageTable_above_memories p hp)

/-- Memories set no collision flag (R172). -/
theorem State.noteCollision_memory (s : State) {p : Slip} (h : p.addr < 0x40000000) (target : Nat) : s.noteCollision target p = s := by
  rw [State.noteCollision, findPage_memory h]
  rfl

/-- The note of a grant writes at most the wait record of its class, and the fabric's own bookkeeping. -/
theorem State.noteGrant_frame (s : State) (port cycle : Nat) (p : Slip) : RegsBut (inPage FAB.base) s (s.noteGrant port cycle p) ∧
    ∃ regs turn urgentAt, s.noteGrant port cycle p =
      { s with regs := regs, fab := { s.fab with turn := turn, urgentAt := urgentAt } } := by
  have hwait (k : Nat) (hk : k ≤ 3) (v : Word) :
      s.WritesOnly (inPage FAB.base) (if s.bit (FAB.base + 0x0C) 2 then s else s.wr (FAB.WAITMAX k) v) :=
    (State.WritesOnly.refl _ s).ite ((State.WritesOnly.refl _ s).wr (by simp only [inPage, FAB.base, FAB.WAITMAX]; omega) v) _
  unfold State.noteGrant
  dsimp only
  generalize hs1 : (if s.bit (FAB.base + 0x0C) 2 then s else _) = s1
  have hs : s.WritesOnly (inPage FAB.base) s1 := by
    rw [← hs1]
    exact hwait _ (by split <;> decide) _
  obtain ⟨regs, heq⟩ := hs.fields
  exact ⟨hs.regs, regs, _, _, by rw [heq]⟩

theorem State.updSlip_mem (s : State) (c : Nat) (f : Slip → Slip) : (s.updSlip c f).mem = s.mem := rfl

theorem State.updSlip_slips (s : State) (c : Nat) (f : Slip → Slip) :
    (s.updSlip c f).fab.slips = s.fab.slips.map (fun p => if p.coin = c then f p else p) := rfl

theorem State.rd_updSlip (s : State) (c : Nat) (f : Slip → Slip) (a : Nat) : (s.updSlip c f).rd a = s.rd a := rfl

/-- The state in which a granted slip is applied: its response is not yet known. -/
def State.applying (s : State) (p : Slip) (cycle : Nat) (events : Word) : State :=
  { s with bus := { s.bus with
    quiet := some p.init, resp := { init := p.init, addr := p.addr }, sameCycle := events, cycle := some cycle } }

/-- Access to a memory that leaves the response normal, then the slip's mark. -/
theorem State.applySlip_memory {s u : State} {p : Slip} {us cycle target : Nat} {events : Word} {ecc : Option EccError} {data : List Byte}
    (hport : portOf p.addr < 20) (htarget : (s.applying p cycle events).target p us cycle target ecc = (u, data))
    (hcause : u.bus.resp.cause = 0) (tick : Nat) : s.applySlip p us cycle target tick events ecc =
    ({ u with bus := { u.bus with quiet := none, sameCycle := 0, cycle := none } } : State).updSlip p.coin
      (fun x => { x with applied := true, cause := 0, data := data }) := by
  unfold State.applying at htarget
  unfold State.applySlip
  dsimp only
  rw [if_neg (by omega), htarget, hcause]

section
variable {s : State}

theorem slipGrant_stands (port cycle target tick us : Nat) (ev : Word) (ecc : Option EccError)
    (h : s.domRun .fab = false ∨ s.grantee port cycle (s.slipBlocked target) = none) :
    exec (.slipGrant port cycle target tick us ev ecc) s = .next s := by
  change Host.Outcome.next (s.clocked .fab _) = _
  cases hrun : s.domRun .fab with
  | false => rw [State.clocked_stop hrun]
  | true =>
    rw [State.clocked_run hrun, h.resolve_left (by simp [hrun])]

theorem exec_slipGrant_granted {port cycle target : Nat} {p : Slip} (hgrant : s.grantee port cycle (s.slipBlocked target) = some p)
    (hrun : s.domRun .fab = true) (tick us : Nat) (ev : Word) (ecc : Option EccError) :
    exec (.slipGrant port cycle target tick us ev ecc) s =
      .next (((s.noteGrant port cycle p).applySlip p us cycle target tick ev ecc).noteCollision target p) := by
  change Host.Outcome.next (s.clocked .fab _) = _
  rw [State.clocked_run hrun, hgrant]

/-- A grant at system SRAM whose access leaves the response normal: memory as the access leaves it, the slip marked, and of the
registers only the fabric's changed. -/
theorem slipGrant_sram {cycle target us : Nat} {ev : Word} {ecc : Option EccError} {p : Slip} {u : State} {data : List Byte}
    (hgrant : s.grantee 17 cycle (s.slipBlocked target) = some p) (hrun : s.domRun .fab = true) (hport : portOf p.addr = 17)
    (htarget : ((s.noteGrant 17 cycle p).applying p cycle ev).target p us cycle target ecc = (u, data))
    (hu : ∃ mem clerk0 clerk1 health, u = { (s.noteGrant 17 cycle p).applying p cycle ev with
      mem := mem, clerk0 := clerk0, clerk1 := clerk1, health := health }) (tick : Nat) :
    ∃ t, exec (.slipGrant 17 cycle target tick us ev ecc) s = .next t ∧ t.mem = u.mem ∧
    t.fab.slips = s.fab.slips.map (fun x => if x.coin = p.coin then { x with applied := true, cause := 0, data := data } else x) ∧
    RegsBut (inPage FAB.base) s t := by
  have hmemory : p.addr < 0x40000000 := (onChip_of_portOf (by omega)).2
  obtain ⟨hregs, _, _, _, hnote⟩ := s.noteGrant_frame 17 cycle p
  obtain ⟨_, _, _, _, hu⟩ := hu
  have hcause : u.bus.resp.cause = 0 := by
    rw [hu]
    rfl
  have hslips : u.fab.slips = s.fab.slips := by
    rw [hu, hnote]
    rfl
  have hsame : u.regs = (s.noteGrant 17 cycle p).regs := by
    rw [hu]
    rfl
  have happly := State.applySlip_memory (by omega) htarget hcause tick
  have hexec := exec_slipGrant_granted hgrant hrun tick us ev ecc
  rw [State.noteCollision_memory _ hmemory, happly] at hexec
  refine ⟨_, hexec, State.updSlip_mem .., ?_, fun a ha => ?_⟩
  · rw [State.updSlip_slips]
    exact congrArg _ hslips
  · rw [State.rd_updSlip]
    exact (State.rd_congr hsame a).trans (hregs a ha)

theorem slipGrant_writes (cycle target tick us : Nat) (ev : Word) (ecc : Option EccError) (p : Slip)
    (hgrant : s.grantee 17 cycle (s.slipBlocked target) = some p) (hrun : s.domRun .fab = true) (hport : portOf p.addr = 17)
    (hkind : p.kind = .plain) (hwrite : p.write = true) (h64 : p.init ≠ 64) (h65 : p.init ≠ 65) :
    ∃ t, exec (.slipGrant 17 cycle target tick us ev ecc) s = .next t ∧
    (∀ i (h : i < p.bytes.length), t.byte (p.addr + i) = if p.enables.getD i true then p.bytes[i] else s.byte (p.addr + i)) ∧
    MemBut (fun a => p.addr ≤ a ∧ a < p.addr + p.bytes.length) s t ∧
    t.fab.slips = s.fab.slips.map (fun x => if x.coin = p.coin then { x with applied := true, cause := 0, data := [] } else x) ∧
    RegsBut (inPage FAB.base) s t := by
  obtain ⟨hfields, henabled, hothers⟩ := ((s.noteGrant 17 cycle p).applying p cycle ev).stored_slipStored p
  obtain ⟨-, _, _, _, hnote⟩ := s.noteGrant_frame 17 cycle p
  have hbefore (a : Nat) : ((s.noteGrant 17 cycle p).applying p cycle ev).byte a = s.byte a := by
    rw [hnote]
    rfl
  obtain ⟨t, hexec, hmem, hslips, hregs⟩ := slipGrant_sram (us := us) (ecc := ecc) hgrant hrun hport
    (State.target_write (by omega) hkind (by simp [h64, h65]) hwrite ..) hfields tick
  have hbyte (a : Nat) : t.byte a = (((s.noteGrant 17 cycle p).applying p cycle ev).slipStored p).byte a := by
    rw [State.byte, hmem, State.byte]
  refine ⟨t, hexec, fun i hi => ?_, fun a ha => ?_, hslips, hregs⟩
  · rw [hbyte, henabled i hi, hbefore]
  · rw [hbyte, hothers a ha, hbefore]

theorem slipGrant_reads (cycle target tick us : Nat) (ev : Word) (p : Slip)
    (hgrant : s.grantee 17 cycle (s.slipBlocked target) = some p) (hrun : s.domRun .fab = true) (hport : portOf p.addr = 17)
    (hkind : p.kind = .plain) (hread : p.write = false) (h64 : p.init ≠ 64) (h65 : p.init ≠ 65)
    (hgood : ∀ b ∈ s.health.bad, b ≠ p.addr / 16 * 16 ∧ b ≠ (p.addr + p.len - 1) / 16 * 16) :
    ∃ t, exec (.slipGrant 17 cycle target tick us ev none) s = .next t ∧ t.mem = s.mem ∧
    t.fab.slips = s.fab.slips.map (fun x => if x.coin = p.coin then
      { x with applied := true, cause := 0, data := s.getBytes p.addr p.len } else x) ∧ RegsBut (inPage FAB.base) s t := by
  obtain ⟨-, _, _, _, hnote⟩ := s.noteGrant_frame 17 cycle p
  have hgood' : ∀ b ∈ ((s.noteGrant 17 cycle p).applying p cycle ev).health.bad,
      b ≠ p.addr / 16 * 16 ∧ b ≠ (p.addr + p.len - 1) / 16 * 16 := by
    rw [hnote]
    exact hgood
  obtain ⟨t, hexec, hmem, hslips, hregs⟩ := slipGrant_sram (us := us) hgrant hrun hport
    (State.target_read (by omega) hkind (by simp [h64, h65]) hread hgood' ..) ⟨_, _, _, _, rfl⟩ tick
  refine ⟨t, hexec, ?_, ?_, hregs⟩
  · rw [hmem, hnote]
    rfl
  · rw [hslips, hnote]
    rfl

end

/-! ### Completion -/

section
variable {s : State}

/-- The DMAs have nothing that waited for a coin. -/
theorem State.dmaServe_idle (heth : ∀ m ∈ s.eth, m.rxq = []) (hcan : ∀ c ∈ s.can, c.held = []) : s.dmaServe = s := by
  have hmac (m : Nat) : (s.mac m).rxq = [] := by
    rw [State.mac, nth, List.getD_eq_getElem?_getD]
    cases hm : s.eth[m]? with
    | none => rfl
    | some x => exact heth x (List.mem_of_getElem? hm)
  have hrx (m : Nat) : s.rxDrain m = s := by
    rw [State.rxDrain, hmac]
    rfl
  have hheld : (s.can.map (fun x => x.held.length)).foldl (· + ·) 0 = 0 := by
    rw [← List.sum_eq_foldl, List.sum_eq_zero]
    simpa using hcan
  rw [State.dmaServe, hrx, hrx, State.canDrain, hheld]
  rfl

theorem State.noteLatency_writesOnly (p : Slip) (cycle : Nat) : s.WritesOnly (inPage FAB.base) (s.noteLatency p cycle) := by
  have hlat : inPage FAB.base FAB.WATCHLAT := by unfold inPage; decide
  unfold State.noteLatency
  split
  · exact ((State.WritesOnly.refl _ s).setFld hlat ..).setFld hlat ..
  · exact .refl _ s

/-- A converter takes a normal response with no further effect. -/
theorem State.response_converter {p : Slip} (hcause : p.cause = 0) (hinit : p.init < 26) : s.response p = s := by
  unfold State.response
  dsimp only
  rw [if_pos (Or.inl hcause), if_neg fun h => by omega, if_neg (by omega)]

theorem State.fabRefresh_dmaServe (heth : ∀ m ∈ s.eth, m.rxq = []) (hcan : ∀ c ∈ s.can, c.held = []) :
    s.fabRefresh.dmaServe = s.fabRefresh := by
  have hfields := s.fabRefresh_writesOnly.fields.eq_regs
  refine State.dmaServe_idle ?_ ?_
  · rw [hfields]
    exact heth
  · rw [hfields]
    exact hcan

/-- The slip is no longer in flight; its coin is free or withheld (R157, R176). -/
def State.coinReturned (s : State) (p : Slip) : State :=
  { s with fab := { s.fab with
    slips := s.fab.slips.filter (fun q => q.coin != p.coin),
    withheld := if p.late then s.fab.withheld ++ [(p.coin, p.init)] else s.fab.withheld } }

/-- The coin is withheld no longer (R176). -/
def State.coinReleased (s : State) (coin : Nat) : State :=
  { s with fab := { s.fab with withheld := s.fab.withheld.filter (fun q => q.1 != coin) } }

theorem State.returnCoin_unstalled (hstalled : s.fab.stalled = []) (cycle : Nat) (p : Slip) :
    s.returnCoin cycle p = (s.coinReturned p).fabRefresh := by
  change ((s.coinReturned p).unstall cycle s.fab.stalled).fabRefresh = _
  rw [hstalled]
  rfl

theorem slipComplete_stands (coin cycle : Nat) (hstop : s.domRun .fab = false) : exec (.slipComplete coin cycle) s = .next s :=
  congrArg Host.Outcome.next (State.clocked_stop hstop _)

theorem exec_slipComplete {coin : Nat} {p : Slip} (hslip : s.slipOf coin = some p) (hrun : s.domRun .fab = true)
    (happlied : p.applied = true) (honWay : p.onWay = false) (cycle : Nat) : exec (.slipComplete coin cycle) s =
    .next (((s.noteLatency p cycle).response p).returnCoin cycle p).dmaServe := by
  change Host.Outcome.next (s.clocked .fab _) = _
  rw [State.clocked_run hrun, hslip]
  dsimp only
  rw [happlied, honWay]
  exact congrArg Host.Outcome.next (if_pos rfl)

theorem State.coin_of_slipOf {coin : Nat} {p : Slip} (h : s.slipOf coin = some p) : p.coin = coin :=
  eq_of_beq (List.find?_some (p := fun q : Slip => q.coin == coin) h)

variable (hrun : s.domRun .fab = true) (hstalled : s.fab.stalled = []) (heth : ∀ m ∈ s.eth, m.rxq = [])
  (hcan : ∀ c ∈ s.can, c.held = [])
include hrun hstalled heth hcan

/-- A completed slip leaves the slips in flight; its coin is free or, under a perturbation, withheld. -/
theorem slipComplete_returns (coin cycle : Nat) (p : Slip) (hslip : s.slipOf coin = some p) (happlied : p.applied = true)
    (honWay : p.onWay = false) (hcause : p.cause = 0) (hinit : p.init < 26) :
    ∃ t, exec (.slipComplete coin cycle) s = .next t ∧ (∀ q, q ∈ t.fab.slips ↔ q ∈ s.fab.slips ∧ q.coin ≠ coin) ∧
    t.fab.withheld = (if p.late then s.fab.withheld ++ [(coin, p.init)] else s.fab.withheld) ∧ RegsBut (inPage FAB.base) s t ∧
    t = { s with regs := t.regs, fab := t.fab } := by
  obtain rfl := State.coin_of_slipOf hslip
  have hexec := exec_slipComplete hslip hrun happlied honWay cycle
  obtain ⟨⟨regs, hnote⟩, hnoteRegs⟩ := s.noteLatency_writesOnly p cycle
  rw [hnote] at hexec hnoteRegs
  rw [State.response_converter hcause hinit, State.returnCoin_unstalled (s := { s with regs := regs }) hstalled,
    State.fabRefresh_dmaServe (s := State.coinReturned { s with regs := regs } p) heth hcan] at hexec
  have hframe := (State.WritesOnly.refl (inPage FAB.base) (State.coinReturned { s with regs := regs } p)).fabRefresh
  refine ⟨_, hexec, fun q => ?_, ?_, hnoteRegs.trans hframe.regs, ?_⟩ <;> rw [hframe.fields.eq_regs]
  · simp [State.coinReturned]
  · rfl
  · rfl

/-- A withheld coin returns to its pool. -/
theorem perturbCoinReturn_returns (coin cycle init : Nat) (hheld : (coin, init) ∈ s.fab.withheld) :
    ∃ t, exec (.perturbCoinReturn coin cycle) s = .next t ∧
    (∀ q, q ∈ t.fab.withheld ↔ q ∈ s.fab.withheld ∧ q.1 ≠ coin) ∧ t.fab.slips = s.fab.slips ∧ RegsBut (inPage FAB.base) s t ∧
    t = { s with regs := t.regs, fab := t.fab } := by
  have hany : s.fab.withheld.any (fun q => q.1 == coin) = true := List.any_eq_true.2 ⟨_, hheld, beq_self_eq_true coin⟩
  have hexec : exec (.perturbCoinReturn coin cycle) s = .next (s.coinReleased coin).fabRefresh := by
    change Host.Outcome.next (s.clocked .fab _) = _
    rw [State.clocked_run hrun]
    change Host.Outcome.next (if s.fab.withheld.any (fun q => q.1 == coin) then
      ((s.coinReleased coin).unstall cycle s.fab.stalled).fabRefresh.dmaServe else s) = _
    rw [hany, if_pos rfl, hstalled, State.unstall, State.fabRefresh_dmaServe (s := s.coinReleased coin) heth hcan]
  have hframe := (State.WritesOnly.refl (inPage FAB.base) (s.coinReleased coin)).fabRefresh
  refine ⟨_, hexec, fun q => ?_, ?_, hframe.regs, ?_⟩ <;> rw [hframe.fields.eq_regs]
  · simp [State.coinReleased]
  · rfl
  · rfl

end

/-- Settles O12, clause by clause: the issue of a slip, its grant at system SRAM, its completion and the return of its coin. -/
theorem slipsTakeCoinsAreGrantedAndReturnThem : Obligations.SlipsTakeCoinsAreGrantedAndReturnThem := by
  unfold Obligations.SlipsTakeCoinsAreGrantedAndReturnThem
  intro s
  refine ⟨fun _ _ _ _ _ _ _ _ _ _ => slipIssue_launches, fun _ _ _ _ _ _ _ _ _ _ => slipIssue_stalls,
    fun _ _ _ _ _ _ _ _ _ _ => slipIssue_refused, fun _ _ _ _ _ _ _ _ _ _ _ => slipIssue_faults,
    fun _ _ _ _ _ _ _ _ => slipIssue_tcm_write, slipGrant_stands, slipGrant_writes, slipGrant_reads, ?_, slipComplete_stands, ?_⟩
  · intro coin cycle p hslip hrun happlied honWay hcause hinit hstalled heth hcan
    exact slipComplete_returns hrun hstalled heth hcan coin cycle p hslip happlied honWay hcause hinit
  · intro coin cycle init hheld hrun hstalled heth hcan
    exact perturbCoinReturn_returns hrun hstalled heth hcan coin cycle init hheld

end Sys2Proof.Machine
end

section
/-!
Writes by the field types to a page that is not locked (R9), and where the registers of the converters stand (R138, R177).
-/
namespace Sys2Proof.Machine

/-! ### Lockable fields (R9) -/

/-- A lockable field that is open takes its bits of the data. -/
theorem tb_apply_rwl {f : Field} (hty : f.ty = .rwl) (hhi : f.hi < 32) (old data : Word) (j : Nat) :
    tb (f.apply old data) j = if f.lo ≤ j ∧ j ≤ f.hi then tb data j else tb old j := by
  obtain ⟨hi, lo, ty⟩ := f
  obtain rfl : ty = .rwl := hty
  exact tb_apply_fRw hhi lo old data j

/-- Every field of the register is lockable and lies in the word. -/
def AllRwl (fs : List Field) : Prop := ∀ f ∈ fs, f.ty = .rwl ∧ f.hi < 32

theorem tb_applyFields_rwl {fs : List Field} (h : AllRwl fs) (old data : Word) (j : Nat) :
    tb (applyFields fs old data) j = if ∃ f ∈ fs, f.lo ≤ j ∧ j ≤ f.hi then tb data j else tb old j := by
  induction fs generalizing old with
  | nil => simp [applyFields]
  | cons f fs ih =>
    obtain ⟨⟨hty, hhi⟩, hfs⟩ := List.forall_mem_cons.1 h
    change tb (applyFields fs (f.apply old data) data) j = _
    rw [ih hfs, tb_apply_rwl hty hhi]
    by_cases hrest : ∃ f ∈ fs, f.lo ≤ j ∧ j ≤ f.hi <;> simp [hrest]

/-- Each field then reads its bits of the data. -/
theorem bitsOf_applyFields_rwl {fs : List Field} (h : AllRwl fs) {hi lo : Nat} (hf : fRwl hi lo ∈ fs) (old data : Word) :
    bitsOf (applyFields fs old data) hi lo = bitsOf data hi lo :=
  bitsOf_congr fun j hlo hhi => by rw [tb_applyFields_rwl h, if_pos ⟨_, hf, hlo, hhi⟩]

theorem tb_applyFields_rwl_bit {fs : List Field} (h : AllRwl fs) {i : Nat} (hf : fRwl i i ∈ fs) (old data : Word) :
    tb (applyFields fs old data) i = tb data i := by
  rw [tb_applyFields_rwl h, if_pos ⟨_, hf, Nat.le_refl i, Nat.le_refl i⟩]

/-! ### A write that nothing refuses -/

/-- The register has taken the fields of the data, and the write is answered. -/
def State.fieldsWritten (s : State) (init a : Nat) (fs : List Field) (data : Word) : State :=
  (s.wr a (applyFields fs (s.rd a) data)).respond init a 0

/-- Version 2 of a page that is not locked takes a write by the field types alone. -/
theorem State.plainWrite_open {s : State} {a : Nat} {r : RegRow} (hrow : rowAt a = some r) (hver : s.ver (pageBase a) = 2)
    (hopen : s.locked (pageBase a) = false) (init : Nat) (data : Word) :
    s.plainWrite init a data = s.fieldsWritten init a r.fields data := by
  have hkeep : versionKeep s r (pageBase a) = BitVec.allOnes 32 := if_neg (by omega)
  have hhidden : hiddenV1 s r (pageBase a) = false := by simp [hiddenV1, hver]
  have hall (old d : Word) : (old &&& ~~~(BitVec.allOnes 32)) ||| (d &&& BitVec.allOnes 32) = d := by
    rw [BitVec.not_allOnes, BitVec.and_zero, BitVec.zero_or, BitVec.and_allOnes]
  rw [State.plainWrite, hrow]
  dsimp only
  rw [hhidden, hopen, Bool.false_and, if_neg Bool.false_ne_true, if_neg Bool.false_ne_true, versionFields, versionData, hkeep,
    hall, hall, State.fieldsWritten]

section
variable (s : State) (init a : Nat) (fs : List Field) (data : Word)

theorem State.fieldsWritten_accepted : Accepted init a (s.fieldsWritten init a fs data) := rfl

theorem State.fieldsWritten_cause : (s.fieldsWritten init a fs data).bus.resp.cause = 0 := rfl

theorem State.fieldsWritten_eq : s.fieldsWritten init a fs data =
    { s with regs := (s.fieldsWritten init a fs data).regs,
             bus := { s.bus with resp := (s.fieldsWritten init a fs data).bus.resp } } := rfl

theorem State.fieldsWritten_conv : (s.fieldsWritten init a fs data).conv = s.conv := rfl

theorem State.fieldsWritten_rd (b : Nat) :
    (s.fieldsWritten init a fs data).rd b = if b = a then applyFields fs (s.rd a) data else s.rd b := State.rd_wr ..

theorem State.fieldsWritten_regs : RegsBut (fun b => b = a) s (s.fieldsWritten init a fs data) :=
  (RegsBut.refl (fun b => b = a) s).wr rfl _

variable {fs}

theorem State.fieldsWritten_fld (h : AllRwl fs) {hi lo : Nat} (hf : fRwl hi lo ∈ fs) :
    (s.fieldsWritten init a fs data).fld a hi lo = bitsOf data hi lo := by
  rw [State.fld, State.fieldsWritten_rd, if_pos rfl, bitsOf_applyFields_rwl h hf]

theorem State.fieldsWritten_bit (h : AllRwl fs) {i : Nat} (hf : fRwl i i ∈ fs) :
    (s.fieldsWritten init a fs data).bit a i = tb data i := by
  rw [State.bit, State.fieldsWritten_rd, if_pos rfl, tb_applyFields_rwl_bit h hf]

end

/-! ### Pages and rows -/

/-- The row of the converter pages in the table of R138. -/
def convPage : PageRow := { name := "C", base := 0x40010000, cnt := 26, size := 0x800, typ := 0x10, dom := .adc, regs := regsConv }

/-- Pages that end at or below the address are passed over. -/
theorem findPageIn_append {a : Nat} {l : List PageRow} (h : ∀ p ∈ l, p.base + p.cnt * p.size ≤ a) (rest : List PageRow) :
    findPageIn a (l ++ rest) = findPageIn a rest := by
  induction l with
  | nil => rfl
  | cons p l ih =>
    obtain ⟨hp, hl⟩ := List.forall_mem_cons.1 h
    rw [List.cons_append, findPageIn, if_neg (by omega), ih hl]

theorem pageTable_split : pageTable = pageTable.take 5 ++ convPage :: pageTable.drop 6 := rfl

theorem pageTable_below_converters : ∀ p ∈ pageTable.take 5, p.base + p.cnt * p.size ≤ 0x40010000 := by decide

theorem findPage_converter {n off : Nat} (hn : n < 26) (hoff : off < 0x800) :
    findPage (CV.base n + off) = some (convPage, n, CV.base n) := by
  have hlow : 0x40010000 ≤ CV.base n + off := by simp only [CV.base]; omega
  have hhigh : CV.base n + off < 0x40010000 + 26 * 0x800 := by simp only [CV.base]; omega
  have hinst : (CV.base n + off - 0x40010000) / 0x800 = n := by simp only [CV.base]; omega
  rw [findPage, pageTable_split, findPageIn_append fun p hp => (pageTable_below_converters p hp).trans hlow, findPageIn]
  refine (if_pos ⟨hlow, hhigh⟩).trans ?_
  change some (convPage, (CV.base n + off - 0x40010000) / 0x800, 0x40010000 + (CV.base n + off - 0x40010000) / 0x800 * 0x800) = _
  rw [hinst]

theorem pageBase_converter {n off : Nat} (hn : n < 26) (hoff : off < 0x800) : pageBase (CV.base n + off) = CV.base n := by
  rw [pageBase, findPage_converter hn hoff]

theorem rowAt_converter {n off : Nat} (hn : n < 26) (hoff : off < 0x800) : rowAt (CV.base n + off) = findRow off convPage.rows := by
  rw [rowAt, findPage_converter hn hoff]
  exact congrArg (findRow · convPage.rows) (Nat.add_sub_cancel_left ..)

def entryAFields : List Field := [fRwl 31 16, fRwl 6 0]
def entryBFields : List Field := [fRwl 31 31, fRwl 19 16, fRwl 10 8, fRwl 3 0]
def triggerFields : List Field := [fRwl 31 30, fRwl 23 20, fRwl 15 0]
def rotcfgFields : List Field := [fRwl 31 31, fRwl 23 0]

theorem allRwl_entryA : AllRwl entryAFields := by unfold AllRwl; decide
theorem allRwl_entryB : AllRwl entryBFields := by unfold AllRwl; decide
theorem allRwl_trigger : AllRwl triggerFields := by unfold AllRwl; decide
theorem allRwl_rotcfg : AllRwl rotcfgFields := by unfold AllRwl; decide

section
variable {n k : Nat}

theorem findRow_entryA (hk : k < 16) : (findRow (0x80 + 8 * k) convPage.rows).map RegRow.fields = some entryAFields := by
  revert k; decide

theorem findRow_entryB (hk : k < 16) : (findRow (0x84 + 8 * k) convPage.rows).map RegRow.fields = some entryBFields := by
  revert k; decide

theorem rowAt_ENTRY_A (hn : n < 26) (hk : k < 16) : ∃ r, rowAt (CV.ENTRY_A n k) = some r ∧ r.fields = entryAFields := by
  rw [CV.ENTRY_A, Nat.add_assoc, rowAt_converter hn (by omega)]
  exact Option.map_eq_some_iff.1 (findRow_entryA hk)

theorem rowAt_ENTRY_B (hn : n < 26) (hk : k < 16) : ∃ r, rowAt (CV.ENTRY_B n k) = some r ∧ r.fields = entryBFields := by
  rw [CV.ENTRY_B, Nat.add_assoc, rowAt_converter hn (by omega)]
  exact Option.map_eq_some_iff.1 (findRow_entryB hk)

theorem pageBase_ENTRY_A (hn : n < 26) (hk : k < 16) : pageBase (CV.ENTRY_A n k) = CV.base n := by
  rw [CV.ENTRY_A, Nat.add_assoc, pageBase_converter hn (by omega)]

theorem pageBase_ENTRY_B (hn : n < 26) (hk : k < 16) : pageBase (CV.ENTRY_B n k) = CV.base n := by
  rw [CV.ENTRY_B, Nat.add_assoc, pageBase_converter hn (by omega)]

theorem rowAt_TG_CFG (hk : k < 32) : ∃ r, rowAt (ADCC.TG_CFG k) = some r ∧ r.fields = triggerFields := by
  have hrows : ∀ k < 32, (rowAt (ADCC.TG_CFG k)).map RegRow.fields = some triggerFields := by decide
  exact Option.map_eq_some_iff.1 (hrows k hk)

theorem pageBase_TG_CFG (hk : k < 32) : pageBase (ADCC.TG_CFG k) = ADCC.base := by revert k; decide

theorem rowAt_ROTCFG : ∃ r, rowAt ADCC.ROTCFG = some r ∧ r.fields = rotcfgFields := Option.map_eq_some_iff.1 (by decide)

theorem pageBase_ROTCFG : pageBase ADCC.ROTCFG = ADCC.base := by decide

end

end Sys2Proof.Machine
end

section
/-!
What the converters' commands leave alone: registers beside a given set, the positions beside given ones, and every part of the
state but the registers and the converters.
-/
namespace Sys2Proof.Machine

theorem State.cpos_updPos_self {s : State} {n : Nat} (hn : n < s.conv.pos.length) (f : ConvPos → ConvPos) :
    (s.updPos n f).cpos n = f (s.cpos n) := nth_upd_self _ _ hn f

theorem State.cpos_updPos_ne (s : State) {n m : Nat} (h : m ≠ n) (f : ConvPos → ConvPos) : (s.updPos n f).cpos m = s.cpos m :=
  nth_upd_ne _ _ h f

theorem State.cpos_congr {s t : State} (h : t.conv.pos = s.conv.pos) (m : Nat) : t.cpos m = s.cpos m := by
  rw [State.cpos, State.cpos, h]

theorem State.rd_updPos (s : State) (n : Nat) (f : ConvPos → ConvPos) (a : Nat) : (s.updPos n f).rd a = s.rd a := rfl

/-- `t` differs from `s` in registers of `P` and in the converters alone, and of these not in the events that are sent or counted
and in no position outside `Q`. -/
structure State.ConvFrame (P Q : Nat → Prop) (s t : State) : Prop where
  fields : ∃ regs conv, t = { s with regs := regs, conv := conv }
  regs : RegsBut P s t
  sent : t.conv.sent = s.conv.sent
  counts : t.conv.counts = s.conv.counts
  length : t.conv.pos.length = s.conv.pos.length
  others : ∀ m, ¬ Q m → t.cpos m = s.cpos m

namespace State.ConvFrame

theorem refl (P Q : Nat → Prop) (s : State) : s.ConvFrame P Q s := ⟨⟨_, _, rfl⟩, .refl P s, rfl, rfl, rfl, fun _ _ => rfl⟩

section
variable {P Q : Nat → Prop} {s t : State} (h : s.ConvFrame P Q t)
include h

theorem trans {u : State} (hu : t.ConvFrame P Q u) : s.ConvFrame P Q u := by
  refine ⟨?_, h.regs.trans hu.regs, hu.sent.trans h.sent, hu.counts.trans h.counts, hu.length.trans h.length,
    fun m hm => (hu.others m hm).trans (h.others m hm)⟩
  obtain ⟨_, _, rfl⟩ := h.fields
  obtain ⟨_, _, rfl⟩ := hu.fields
  exact ⟨_, _, rfl⟩

theorem mono {P' Q' : Nat → Prop} (hP : ∀ a, P a → P' a) (hQ : ∀ m, Q m → Q' m) : s.ConvFrame P' Q' t :=
  ⟨h.fields, h.regs.mono hP, h.sent, h.counts, h.length, fun m hm => h.others m fun hq => hm (hQ m hq)⟩

theorem wr {a : Nat} (ha : P a) (v : Word) : s.ConvFrame P Q (t.wr a v) :=
  h.trans ⟨⟨_, _, rfl⟩, (RegsBut.refl P t).wr ha v, rfl, rfl, rfl, fun _ _ => rfl⟩

theorem setFld {a : Nat} (ha : P a) (hi lo v : Nat) : s.ConvFrame P Q (t.setFld a hi lo v) := h.wr ha _

theorem setBit {a : Nat} (ha : P a) (i : Nat) (b : Bool) : s.ConvFrame P Q (t.setBit a i b) := h.wr ha _

theorem irq {base : Nat} (ha : P (base + 0x14)) (i : Nat) : s.ConvFrame P Q (t.irq base i) := h.wr ha _

theorem count {a : Nat} (ha : P a) (hi lo n : Nat) : s.ConvFrame P Q (t.count a hi lo n) := h.wr ha _

theorem updPos {n : Nat} (hn : Q n) (f : ConvPos → ConvPos) : s.ConvFrame P Q (t.updPos n f) :=
  h.trans ⟨⟨_, _, rfl⟩, .refl P t, rfl, rfl, List.length_modify .., fun m hm =>
    t.cpos_updPos_ne (by rintro rfl; exact hm hn) f⟩

/-- A change of the rotation's own bookkeeping. -/
theorem withConv {c : Convs} (hpos : c.pos = t.conv.pos) (hsent : c.sent = t.conv.sent) (hcounts : c.counts = t.conv.counts) :
    s.ConvFrame P Q { t with conv := c } :=
  h.trans ⟨⟨_, _, rfl⟩, .refl P t, hsent, hcounts, congrArg List.length hpos, fun m _ => State.cpos_congr hpos m⟩

theorem ite {u : State} (hu : s.ConvFrame P Q u) (c : Prop) [Decidable c] : s.ConvFrame P Q (if c then t else u) := by
  split
  · exact h
  · exact hu

theorem eq_parts : t = { s with regs := t.regs, conv := t.conv } := by
  obtain ⟨_, _, rfl⟩ := h.fields
  rfl

end
end State.ConvFrame

end Sys2Proof.Machine
end

section
/-!
Entries and runs (R185-R188): which entry a run converts depends on the page's version and entries alone, and what the start of a
run shows.
-/
namespace Sys2Proof.Machine

/-! ### The entries of a run (R185) -/

/-- A register that decides which entries of position `n` a run converts. -/
def entryReg (n a : Nat) : Prop := a = CV.base n + 0x08 ∨ (CV.base n + 0x80 ≤ a ∧ a < CV.base n + 0x100)

theorem State.shown_congr {s t : State} {a : Nat} (h : t.rd a = s.rd a) (hver : t.rd (pageBase a + 0x08) = s.rd (pageBase a + 0x08)) :
    t.shown a = s.shown a := by
  have hversion : t.ver (pageBase a) = s.ver (pageBase a) := State.fld_congr hver 3 0
  unfold State.shown State.viewed
  rw [hversion, h]

section
variable {s t : State} {n : Nat} (hn : n < 26) (h : ∀ a, entryReg n a → t.rd a = s.rd a)
include hn h

theorem State.entrySelected_congr (groups : Nat) {k : Nat} (hk : k < 16) :
    t.entrySelected n groups k = s.entrySelected n groups k := by
  have hshown : t.shown (CV.ENTRY_A n k) = s.shown (CV.ENTRY_A n k) := by
    refine State.shown_congr (h _ (.inr ⟨?_, ?_⟩)) (h _ (.inl ?_))
    · simp only [CV.ENTRY_A]; omega
    · simp only [CV.ENTRY_A]; omega
    · rw [pageBase_ENTRY_A hn hk]
  rw [State.entrySelected, State.entrySelected, hshown]

/-- A run converts the same entries wherever the page's version and its entries read the same. -/
theorem State.nextEntry_congr (groups from_ : Nat) : t.nextEntry n groups from_ = s.nextEntry n groups from_ := by
  unfold State.nextEntry
  refine List.find?_congr fun k hk => ?_
  rw [State.entrySelected_congr hn h groups (List.mem_range.1 hk)]

end

section
variable {s : State} {n groups from_ k : Nat}

theorem State.nextEntry_some (h : s.nextEntry n groups from_ = some k) : k < 16 ∧ s.entrySelected n groups k = true := by
  have hfound := List.find?_some h
  rw [Bool.and_eq_true] at hfound
  exact ⟨List.mem_range.1 (List.mem_of_find?_eq_some h), hfound.2⟩

/-- A position that a run would start at is a member of one of the groups. -/
theorem State.memberCount_ne_zero (h : s.nextEntry n groups 0 = some k) : s.memberCount n groups ≠ 0 := by
  obtain ⟨hk, hsel⟩ := State.nextEntry_some h
  obtain ⟨hen, hgroup⟩ := Bool.and_eq_true_iff.1 hsel
  have hj : bitsOf (s.shown (CV.ENTRY_A n k)) 30 26 < 32 := bitsOf_lt ..
  have hmember : s.member n (2 ^ bitsOf (s.shown (CV.ENTRY_A n k)) 30 26) = true := by
    refine List.find?_isSome.2 ⟨k, List.mem_range.2 hk, ?_⟩
    simp [State.entrySelected, hen, Nat.testBit_two_pow_self]
  exact List.length_pos_iff_exists_mem.2 ⟨_, List.mem_filter.2 ⟨List.mem_range.2 hj, by rw [hgroup, hmember]; rfl⟩⟩ |>.ne'

theorem State.nextEntry_zero (s : State) (n from_ : Nat) : s.nextEntry n 0 from_ = none :=
  List.find?_eq_none.2 fun k _ => by simp [State.entrySelected]

end

/-! ### The start of a run (R185-R188) -/

/-- A register in which the start of a run of position `n` shows. -/
def runReg (n a : Nat) : Prop := a = CV.STAT n ∨ a = CV.RUNCNT n ∨ a = CV.base n + 0x14

/-- RUNCNT, BUSY and the flags show the start of a run. -/
def State.runShown (s : State) (n : Nat) (merged late : Bool) : State :=
  let s1 := (s.wr (CV.RUNCNT n) (s.rd (CV.RUNCNT n) + 1)).setBit (CV.STAT n) 8 true
  let s2 := if merged then s1.markMerged n else s1
  if late then (s2.setBit (CV.STAT n) 2 true).irq (CV.base n) 2 else s2

section
variable {P Q : Nat → Prop} {s t : State} {n : Nat}

theorem State.ConvFrame.markMerged (h : s.ConvFrame P Q t) (hP : ∀ a, runReg n a → P a) : s.ConvFrame P Q (t.markMerged n) :=
  (h.setBit (hP _ (.inl rfl)) 1 true).irq (hP _ (.inr (.inr rfl))) 1

theorem State.ConvFrame.acquire (h : s.ConvFrame P Q t) (hQ : Q n) (k : Nat) : s.ConvFrame P Q (t.acquire n k) := h.updPos hQ _

theorem State.ConvFrame.runShown (h : s.ConvFrame P Q t) (hP : ∀ a, runReg n a → P a) (merged late : Bool) :
    s.ConvFrame P Q (t.runShown n merged late) := by
  have hbusy := (h.wr (hP _ (.inr (.inl rfl))) (t.rd (CV.RUNCNT n) + 1)).setBit (hP _ (.inl rfl)) 8 true
  have hmerged := (hbusy.markMerged hP).ite hbusy (merged = true)
  exact ((hmerged.setBit (hP _ (.inl rfl)) 2 true).irq (hP _ (.inr (.inr rfl))) 2).ite hmerged (late = true)

theorem State.startRun_some {g k : Nat} (h : s.nextEntry n g 0 = some k) (merged late : Bool) : s.startRun n g merged late =
    ((s.runShown n merged late).updPos n (fun p => { p with groups := g, merged := merged, discard := false })).acquire n k := by
  rw [State.startRun, h]
  rfl

theorem State.startRun_none {g : Nat} (h : s.nextEntry n g 0 = none) (merged late : Bool) :
    s.startRun n g merged late = s.setBit (CV.STAT n) 8 false := by
  rw [State.startRun, h]

theorem State.ConvFrame.startRun (h : s.ConvFrame P Q t) (hP : ∀ a, runReg n a → P a) (hQ : Q n) (g : Nat) (merged late : Bool) :
    s.ConvFrame P Q (t.startRun n g merged late) := by
  cases hk : t.nextEntry n g 0 with
  | none =>
    rw [State.startRun_none hk]
    exact h.setBit (hP _ (.inl rfl)) 8 false
  | some k =>
    rw [State.startRun_some hk]
    exact ((h.runShown hP merged late).updPos hQ _).acquire hQ k

theorem State.runShown_count (s : State) (n : Nat) (merged late : Bool) :
    (s.runShown n merged late).rd (CV.RUNCNT n) = s.rd (CV.RUNCNT n) + 1 := by
  cases merged <;> cases late <;> simp [State.runShown, State.markMerged, State.rd_irq, State.rd_setBit]

theorem State.runShown_stat (s : State) (n : Nat) (merged late : Bool) : (s.runShown n merged late).bit (CV.STAT n) 8 = true ∧
    (late = true → (s.runShown n merged late).bit (CV.STAT n) 2 = true) := by
  cases merged <;> cases late <;> simp [State.runShown, State.markMerged, State.irq, State.bit_setBit]

/-- A run has started at position `n` of `s`: the entry it converts first, its groups, its count and its flags. -/
structure State.RunStarted (n g k : Nat) (late : Bool) (s t : State) : Prop where
  cur : (t.cpos n).cur = some k
  groups : (t.cpos n).groups = g
  pend : (t.cpos n).pend = (s.cpos n).pend
  count : t.rd (CV.RUNCNT n) = s.rd (CV.RUNCNT n) + 1
  busy : t.bit (CV.STAT n) 8 = true
  late : late = true → t.bit (CV.STAT n) 2 = true

theorem State.startRun_started (hlen : n < s.conv.pos.length) {g k : Nat} (h : s.nextEntry n g 0 = some k) (merged late : Bool) :
    s.RunStarted n g k late (s.startRun n g merged late) := by
  have hshown : s.ConvFrame (runReg n) (fun _ => False) (s.runShown n merged late) :=
    (State.ConvFrame.refl _ _ s).runShown (fun _ ha => ha) merged late
  have hlen' : n < (s.runShown n merged late).conv.pos.length := hshown.length ▸ hlen
  obtain ⟨hbusy, hlate⟩ := s.runShown_stat n merged late
  have hpos : (((s.runShown n merged late).updPos n (fun p => { p with groups := g, merged := merged, discard := false })).acquire
      n k).cpos n = _ := State.cpos_updPos_self (by rw [State.updPos, upd, List.length_modify]; exact hlen') _
  rw [State.cpos_updPos_self hlen', hshown.others n (fun hf => hf)] at hpos
  rw [State.startRun_some h]
  refine ⟨?_, ?_, ?_, s.runShown_count n merged late, hbusy, hlate⟩ <;> rw [hpos]

end

end Sys2Proof.Machine
end

section
/-!
Triggers (R182-R187): fired groups reach every member position, each within its own registers.
-/
namespace Sys2Proof.Machine

/-! ### One position (R184-R187) -/

theorem State.handoverDue_eq_false {s : State} (h : s.fld ADCC.ROTSTAT 31 30 ≠ 2) (n : Nat) : s.handoverDue n = false :=
  decide_eq_false fun hdue => h hdue.1

section
variable {P Q : Nat → Prop} {s t : State} {n : Nat}

theorem State.ConvFrame.joinRun (h : s.ConvFrame P Q t) (hP : ∀ a, runReg n a → P a) (hQ : Q n) (fired cycle : Nat) :
    s.ConvFrame P Q (t.joinRun n fired cycle) := by
  unfold State.joinRun
  dsimp only
  split
  case h_1 => exact h
  case h_2 k _ => exact (((h.markMerged hP).updPos hQ _).acquire hQ k).updPos hQ _

/-- While no passed shadow waits, a trigger keeps to its position. -/
theorem State.ConvFrame.trigger (h : s.ConvFrame P Q t) (hP : ∀ a, runReg n a → P a) (hQ : Q n) (hdue : t.handoverDue n = false)
    (fired merged cycle : Nat) : s.ConvFrame P Q (t.trigger n fired merged cycle) := by
  have hboundary : t.boundary n = t := if_neg (by simp [hdue])
  unfold State.trigger
  dsimp only
  rw [hboundary]
  split
  case isTrue => exact h
  case isFalse =>
    split
    case h_1 => exact (h.startRun hP hQ _ _ _).updPos hQ _
    case h_2 => exact (h.joinRun hP hQ fired cycle).ite (h.updPos hQ _) _
    case h_3 => exact h.updPos hQ _

theorem State.trigger_disabled (h : s.en (CV.base n) = false) (fired merged cycle : Nat) : s.trigger n fired merged cycle = s :=
  if_pos (by simp [h])

/-- At an idle enabled member a trigger starts a run (R185). -/
theorem State.trigger_idle (hen : s.en (CV.base n) = true) (hidle : (s.cpos n).cur = none) (hdue : s.handoverDue n = false)
    {fired k : Nat} (hk : s.nextEntry n fired 0 = some k) (merged cycle : Nat) : ∃ m,
    s.trigger n fired merged cycle = (s.startRun n fired m false).updPos n (fun p => { p with started := some cycle }) := by
  have hboundary : s.boundary n = s := if_neg (by simp [hdue])
  have hmember : ¬ (!s.en (CV.base n) || s.memberCount n fired == 0) = true := by simp [hen, State.memberCount_ne_zero hk]
  refine ⟨decide (2 ≤ s.memberCount n fired) || s.member n (fired &&& merged), ?_⟩
  rw [State.trigger, if_neg hmember, hidle, hboundary]

theorem State.RunStarted.stamp {g k : Nat} {late : Bool} (h : s.RunStarted n g k late t) (hlen : n < t.conv.pos.length) (cycle : Nat) :
    s.RunStarted n g k late (t.updPos n (fun p => { p with started := some cycle })) := by
  have hpos := State.cpos_updPos_self hlen (fun p => { p with started := some cycle })
  refine ⟨?_, ?_, ?_, h.count, h.busy, h.late⟩
  · rw [hpos]; exact h.cur
  · rw [hpos]; exact h.groups
  · rw [hpos]; exact h.pend

theorem State.trigger_started (hlen : n < s.conv.pos.length) (hen : s.en (CV.base n) = true) (hidle : (s.cpos n).cur = none)
    (hdue : s.handoverDue n = false) {fired k : Nat} (hk : s.nextEntry n fired 0 = some k) (merged cycle : Nat) :
    s.RunStarted n fired k false (s.trigger n fired merged cycle) := by
  obtain ⟨m, heq⟩ := State.trigger_idle hen hidle hdue hk merged cycle
  have hframe := (State.ConvFrame.refl (runReg n) (· = n) s).startRun (fun _ ha => ha) rfl fired m false
  rw [heq]
  exact (State.startRun_started hlen hk m false).stamp (hframe.length ▸ hlen) cycle

end

/-! ### All positions (R183, R184) -/

/-- A register in which a run of one of the positions of `l` shows. -/
def runRegs (l : List Nat) (a : Nat) : Prop := ∃ n ∈ l, runReg n a

theorem runReg_ne_common {n off : Nat} (hn : n < 26) (hoff : off < 0x1000) : ¬ runReg n (ADCC.base + off) := by
  simp only [runReg, CV.STAT, CV.RUNCNT, CV.base, ADCC.base]
  omega

/-- The registers of other positions' runs are none of a converter's page. -/
theorem not_runReg_of_ne {m n off : Nat} (h : m ≠ n) (hoff : off < 0x800) : ¬ runReg m (CV.base n + off) := by
  simp only [runReg, CV.STAT, CV.RUNCNT, CV.base]
  omega

section
variable {P Q : Nat → Prop} {s t : State} {l : List Nat}

/-- What the groups that fire in one cycle do at the positions of `l`. -/
def State.triggerAll (s : State) (l : List Nat) (fired merged cycle : Nat) : State :=
  l.foldl (fun t n => t.trigger n fired merged cycle) s

theorem State.ConvFrame.triggerAll (h : s.ConvFrame P Q t) (hl : ∀ n ∈ l, n < 26) (hP : ∀ a, runRegs l a → P a) (hQ : ∀ n ∈ l, Q n)
    (hrot : t.fld ADCC.ROTSTAT 31 30 ≠ 2) (fired merged cycle : Nat) : s.ConvFrame P Q (t.triggerAll l fired merged cycle) := by
  induction l generalizing t with
  | nil => exact h
  | cons n l ih =>
    have hn : n < 26 := hl n (List.mem_cons_self ..)
    have hdue := State.handoverDue_eq_false hrot n
    have hstep := h.trigger (fun a ha => hP a ⟨n, List.mem_cons_self .., ha⟩) (hQ n (List.mem_cons_self ..)) hdue fired merged cycle
    have hown := (State.ConvFrame.refl (runReg n) (· = n) t).trigger (fun _ ha => ha) rfl hdue fired merged cycle
    refine ih hstep (fun m hm => hl m (List.mem_cons_of_mem _ hm)) ?_ (fun m hm => hQ m (List.mem_cons_of_mem _ hm)) ?_
    · rintro a ⟨m, hm, ha⟩
      exact hP a ⟨m, List.mem_cons_of_mem _ hm, ha⟩
    · rw [State.fld_congr (hown.regs _ (runReg_ne_common hn (by decide)))]
      exact hrot

theorem State.fireGroups_some {fired : Nat} (h : fired ≠ 0) (s : State) (merged cycle : Nat) :
    s.fireGroups fired merged cycle = (s.orBits ADCC.GRPFIRED fired).triggerAll (List.range 26) fired merged cycle := if_neg h

theorem State.fireGroups_none (s : State) (merged cycle : Nat) : s.fireGroups 0 merged cycle = s := if_pos rfl

/-- The registers that fired groups write. -/
def fireReg (a : Nat) : Prop := a = ADCC.GRPFIRED ∨ runRegs (List.range 26) a

theorem State.ConvFrame.orBits (h : s.ConvFrame P Q t) {a : Nat} (ha : P a) (m : Nat) : s.ConvFrame P Q (t.orBits a m) := h.wr ha _

theorem State.fireGroups_frame (hrot : s.fld ADCC.ROTSTAT 31 30 ≠ 2) (fired merged cycle : Nat) :
    s.ConvFrame fireReg (· < 26) (s.fireGroups fired merged cycle) := by
  have hrefl := State.ConvFrame.refl fireReg (· < 26) s
  by_cases hf : fired = 0
  · subst hf
    rw [State.fireGroups_none]
    exact hrefl
  · rw [State.fireGroups_some hf]
    refine (hrefl.orBits (a := ADCC.GRPFIRED) (.inl rfl) fired).triggerAll (fun _ hn => List.mem_range.1 hn) (fun _ ha => .inr ha)
      (fun _ hn => List.mem_range.1 hn) ?_ fired merged cycle
    rw [State.fld_congr ((State.rd_orBits ..).trans (if_neg (by decide)))]
    exact hrot

theorem State.fireGroups_noted (hrot : s.fld ADCC.ROTSTAT 31 30 ≠ 2) (fired merged cycle : Nat) :
    (s.fireGroups fired merged cycle).rd ADCC.GRPFIRED = s.rd ADCC.GRPFIRED ||| Word.ofNat fired := by
  by_cases hf : fired = 0
  · subst hf
    rw [State.fireGroups_none, BitVec.or_zero]
  · have hother : ¬ runRegs (List.range 26) ADCC.GRPFIRED := by
      rintro ⟨n, hn, ha⟩
      exact runReg_ne_common (off := 0x58) (List.mem_range.1 hn) (by decide) ha
    have hrun := (State.ConvFrame.refl (runRegs (List.range 26)) (· < 26) (s.orBits ADCC.GRPFIRED fired)).triggerAll
      (fun _ hn => List.mem_range.1 hn) (fun _ ha => ha) (fun _ hn => List.mem_range.1 hn)
      (by rw [State.fld_congr ((State.rd_orBits ..).trans (if_neg (by decide)))]; exact hrot) fired merged cycle
    rw [State.fireGroups_some hf, hrun.regs _ hother, State.rd_orBits, if_pos rfl]

/-- The registers that fired groups write beside those of position `n`. -/
def otherReg (n a : Nat) : Prop := a = ADCC.GRPFIRED ∨ ∃ m < 26, m ≠ n ∧ runReg m a

theorem not_otherReg_converter {n off : Nat} (hn : n < 26) (hoff : off < 0x800) : ¬ otherReg n (CV.base n + off) := by
  rintro (ha | ⟨m, -, hm, ha⟩)
  · simp only [CV.base, ADCC.GRPFIRED, ADCC.base] at ha
    omega
  · exact not_runReg_of_ne hm hoff ha

theorem not_otherReg_ROTSTAT (n : Nat) : ¬ otherReg n ADCC.ROTSTAT := by
  rintro (ha | ⟨m, hm, -, ha⟩)
  · exact absurd ha (by decide)
  · exact runReg_ne_common (off := 0x4C) hm (by decide) ha

/-- Position `n` meets the fired groups in a state, and leaves one behind, that differ from the whole command's at other positions
alone. -/
theorem State.fireGroups_at (hrot : s.fld ADCC.ROTSTAT 31 30 ≠ 2) {n fired : Nat} (hn : n < 26) (hf : fired ≠ 0) (merged cycle : Nat) :
    ∃ u, s.ConvFrame (otherReg n) (· ≠ n) u ∧
    (u.trigger n fired merged cycle).ConvFrame (otherReg n) (· ≠ n) (s.fireGroups fired merged cycle) := by
  obtain ⟨l₁, l₂, hl⟩ := List.append_of_mem (List.mem_range.2 hn)
  have hnot : n ∉ l₁ ++ l₂ := (List.nodup_cons.1 (List.nodup_middle.1 (hl ▸ List.nodup_range))).1
  have hrange : ∀ m ∈ l₁ ++ l₂, m < 26 := fun m hm => List.mem_range.1 (by
    rw [hl, List.mem_append, List.mem_cons]
    exact (List.mem_append.1 hm).imp_right .inr)
  have hside {l : List Nat} (hsub : l ⊆ l₁ ++ l₂) : (∀ m ∈ l, m < 26) ∧ (∀ a, runRegs l a → otherReg n a) ∧ ∀ m ∈ l, m ≠ n := by
    have hne (m : Nat) (hm : m ∈ l) : m ≠ n := fun heq => hnot (heq ▸ hsub hm)
    exact ⟨fun m hm => hrange m (hsub hm), fun a ⟨m, hm, ha⟩ => .inr ⟨m, hrange m (hsub hm), hne m hm, ha⟩, hne⟩
  obtain ⟨hlt₁, hreg₁, hne₁⟩ := hside (List.subset_append_left l₁ l₂)
  obtain ⟨hlt₂, hreg₂, hne₂⟩ := hside (List.subset_append_right l₁ l₂)
  have hnoted : s.ConvFrame (otherReg n) (· ≠ n) (s.orBits ADCC.GRPFIRED fired) := (State.ConvFrame.refl _ _ s).orBits (.inl rfl) fired
  have hrot' {t : State} (h : s.ConvFrame (otherReg n) (· ≠ n) t) : t.fld ADCC.ROTSTAT 31 30 ≠ 2 := by
    rw [State.fld_congr (h.regs _ (not_otherReg_ROTSTAT n))]
    exact hrot
  have hbefore := hnoted.triggerAll hlt₁ hreg₁ hne₁ (hrot' hnoted) fired merged cycle
  refine ⟨_, hbefore, ?_⟩
  have hown := (State.ConvFrame.refl (runReg n) (· = n) ((s.orBits ADCC.GRPFIRED fired).triggerAll l₁ fired merged cycle)).trigger
    (fun _ ha => ha) rfl (State.handoverDue_eq_false (hrot' hbefore) n) fired merged cycle
  have hall : s.fireGroups fired merged cycle = (((s.orBits ADCC.GRPFIRED fired).triggerAll l₁ fired merged cycle).trigger n fired
      merged cycle).triggerAll l₂ fired merged cycle := by
    rw [State.fireGroups_some hf, hl, State.triggerAll, List.foldl_append]
    rfl
  rw [hall]
  refine (State.ConvFrame.refl _ _ _).triggerAll hlt₂ hreg₂ hne₂ ?_ fired merged cycle
  rw [State.fld_congr (hown.regs _ (runReg_ne_common hn (by decide)))]
  exact hrot' hbefore

end

/-! ### What fired groups do at a position -/

section
variable {s : State} (hrot : s.fld ADCC.ROTSTAT 31 30 ≠ 2) {n : Nat} (hn : n < 26)
include hrot hn

/-- Fired groups leave a disabled position alone (R184). -/
theorem State.fireGroups_disabled (hen : s.en (CV.base n) = false) (fired merged cycle : Nat) :
    (s.fireGroups fired merged cycle).cpos n = s.cpos n := by
  by_cases hf : fired = 0
  · subst hf
    rw [State.fireGroups_none]
  · obtain ⟨u, hbefore, hafter⟩ := State.fireGroups_at hrot hn hf merged cycle
    have hen' : u.en (CV.base n) = false :=
      (State.bit_congr (hbefore.regs _ (not_otherReg_converter hn (by decide))) 0).trans hen
    rw [State.trigger_disabled hen'] at hafter
    exact (hafter.others n (fun h => h rfl)).trans (hbefore.others n (fun h => h rfl))

/-- Fired groups start a run at an idle enabled member (R184, R185). -/
theorem State.fireGroups_started (hlen : n < s.conv.pos.length) (hen : s.en (CV.base n) = true) (hidle : (s.cpos n).cur = none)
    {fired k : Nat} (hk : s.nextEntry n fired 0 = some k) (merged cycle : Nat) :
    s.RunStarted n fired k false (s.fireGroups fired merged cycle) := by
  have hf : fired ≠ 0 := by
    rintro rfl
    rw [State.nextEntry_zero] at hk
    cases hk
  obtain ⟨u, hbefore, hafter⟩ := State.fireGroups_at hrot hn hf merged cycle
  have hpage {off : Nat} (hoff : off < 0x800) : u.rd (CV.base n + off) = s.rd (CV.base n + off) :=
    hbefore.regs _ (not_otherReg_converter hn hoff)
  have hpos : u.cpos n = s.cpos n := hbefore.others n (fun h => h rfl)
  have hen' : u.en (CV.base n) = true := (State.bit_congr (hpage (by decide)) 0).trans hen
  have hdue : u.handoverDue n = false := State.handoverDue_eq_false
    (by rw [State.fld_congr (hbefore.regs _ (not_otherReg_ROTSTAT n))]; exact hrot) n
  have hk' : u.nextEntry n fired 0 = some k := by
    rw [State.nextEntry_congr (s := s) hn fun a ha => ?_]
    · exact hk
    · obtain ⟨off, rfl⟩ : ∃ off, a = CV.base n + off := ⟨a - CV.base n, by simp only [entryReg, CV.base] at ha ⊢; omega⟩
      exact hpage (by simp only [entryReg] at ha; omega)
  have hstart := State.trigger_started (hbefore.length ▸ hlen) hen' (hpos ▸ hidle) hdue hk' merged cycle
  have hpos' := hafter.others n (fun h => h rfl)
  have hpage' {off : Nat} (hoff : off < 0x800) := hafter.regs _ (not_otherReg_converter hn hoff)
  refine ⟨hpos' ▸ hstart.cur, hpos' ▸ hstart.groups, ?_, ?_, ?_, fun h => by cases h⟩
  · rw [hpos', hstart.pend, hpos]
  · rw [hpage' (by decide), hstart.count, hpage (by decide)]
  · rw [State.bit_congr (hpage' (by decide)), hstart.busy]

end

end Sys2Proof.Machine
end

section
/-!
Trigger events, software triggers and group configuration (R127, R182-R184).
-/
namespace Sys2Proof.Machine

/-! ### Events reach the matrix (R182, R183) -/

/-- The matrix has taken the sent events that `p` picks. -/
def State.eventsTaken (s : State) (p : SrcEvent → Bool) : State :=
  { s with conv := { s.conv with sent := s.conv.sent.filter (fun e => !p e) } }

/-- The groups have counted the events taken. -/
def State.eventsCounted (s : State) (p : SrcEvent → Bool) : State :=
  { s with conv := { s.conv with
    sent := s.conv.sent.filter (fun e => !p e), counts := (s.groupStep (s.conv.sent.filter p)).2.2 } }

section
variable {s : State}

theorem triggerGroupFire_stopped (h : s.domRun .adc = false) (codes : List Nat) (cycle : Nat) :
    exec (.triggerGroupFire codes cycle) s = .next s := congrArg Host.Outcome.next (State.clocked_stop h _)

theorem exec_triggerGroupFire (hrun : s.domRun .adc = true) (hen : s.en ADCC.base = true) (codes : List Nat) (cycle : Nat) :
    exec (.triggerGroupFire codes cycle) s = .next ((s.eventsCounted (fun e => codes.contains e.code)).fireGroups
      (s.groupStep (s.conv.sent.filter (fun e => codes.contains e.code))).1
      (s.groupStep (s.conv.sent.filter (fun e => codes.contains e.code))).2.1 cycle) := by
  change Host.Outcome.next (s.clocked .adc _) = _
  rw [State.clocked_run hrun]
  exact congrArg Host.Outcome.next (if_pos hen)

/-- With ADCC disabled no group fires. -/
theorem triggerGroupFire_disabled (hrun : s.domRun .adc = true) (codes : List Nat) (cycle : Nat) (hen : s.en ADCC.base = false) :
    ∃ t, exec (.triggerGroupFire codes cycle) s = .next t ∧
    t = { s with conv := { s.conv with sent := s.conv.sent.filter (fun e => !codes.contains e.code) } } := by
  refine ⟨_, ?_, rfl⟩
  change Host.Outcome.next (s.clocked .adc _) = _
  rw [State.clocked_run hrun]
  exact congrArg Host.Outcome.next (if_neg (Bool.eq_false_iff.1 hen))

theorem fireReg_of_commandFrame {a : Nat} (h : fireReg a) :
    a = ADCC.GRPFIRED ∨ ∃ n, n < 26 ∧ (a = CV.STAT n ∨ a = CV.RUNCNT n ∨ a = CV.base n + 0x14) :=
  h.imp_right fun ⟨n, hn, ha⟩ => ⟨n, List.mem_range.1 hn, ha⟩

/-- The events taken count toward their groups, and those that fire start runs (R183, R185). -/
theorem triggerGroupFire_fires (hrun : s.domRun .adc = true) (codes : List Nat) (cycle : Nat) (hen : s.en ADCC.base = true)
    (hrot : s.fld ADCC.ROTSTAT 31 30 ≠ 2) (g : Nat × Nat × List (Nat × Nat))
    (hg : s.groupStep (s.conv.sent.filter (fun e => codes.contains e.code)) = g) :
    ∃ t, exec (.triggerGroupFire codes cycle) s = .next t ∧ t.conv.counts = g.2.2 ∧
    t.conv.sent = s.conv.sent.filter (fun e => !codes.contains e.code) ∧
    t.rd ADCC.GRPFIRED = s.rd ADCC.GRPFIRED ||| Word.ofNat g.1 ∧
    (∀ n, n < 26 → n < s.conv.pos.length → s.en (CV.base n) = true → (s.cpos n).cur = none → ∀ k, s.nextEntry n g.1 0 = some k →
      (t.cpos n).cur = some k ∧ (t.cpos n).groups = g.1 ∧ t.rd (CV.RUNCNT n) = s.rd (CV.RUNCNT n) + 1 ∧ t.bit (CV.STAT n) 8 = true) ∧
    (∀ n, n < 26 → s.en (CV.base n) = false → t.cpos n = s.cpos n) ∧
    RegsBut (fun a => a = ADCC.GRPFIRED ∨ ∃ n, n < 26 ∧ (a = CV.STAT n ∨ a = CV.RUNCNT n ∨ a = CV.base n + 0x14)) s t ∧
    t = { s with regs := t.regs, conv := t.conv } := by
  subst hg
  have hframe := State.fireGroups_frame (s := s.eventsCounted (fun e => codes.contains e.code)) hrot
    (s.groupStep (s.conv.sent.filter (fun e => codes.contains e.code))).1
    (s.groupStep (s.conv.sent.filter (fun e => codes.contains e.code))).2.1 cycle
  refine ⟨_, exec_triggerGroupFire hrun hen codes cycle, hframe.counts, hframe.sent, ?noted, ?started, ?disabled, ?regs, hframe.eq_parts⟩
  case noted => exact State.fireGroups_noted (s := s.eventsCounted _) hrot ..
  case started =>
    intro n hn hlen hon hidle k hk
    have hstart := State.fireGroups_started (s := s.eventsCounted (fun e => codes.contains e.code)) hrot hn hlen hon hidle hk
      (s.groupStep (s.conv.sent.filter (fun e => codes.contains e.code))).2.1 cycle
    exact ⟨hstart.cur, hstart.groups, hstart.count, hstart.busy⟩
  case disabled => exact fun n hn hoff => State.fireGroups_disabled (s := s.eventsCounted _) hrot hn hoff ..
  case regs => exact RegsBut.mono (s := s) hframe.regs fun _ => fireReg_of_commandFrame

/-! ### An edge of ADC_TRIG (R127, R184) -/

theorem adcTrigEdge_stopped (h : s.domRun .adc = false) (j : Nat) (rising : Bool) : exec (.adcTrigEdge j rising) s = .next s :=
  congrArg Host.Outcome.next (State.clocked_stop h _)

theorem exec_adcTrigEdge (hrun : s.domRun .adc = true) {j : Nat} (hj : j < 4) (rising : Bool) : exec (.adcTrigEdge j rising) s =
    .next (if s.bit ADCC.EXTTRIG (2 * j + (if rising then 0 else 1)) then s.sendEvent (192 + j) else s) := by
  change Host.Outcome.next (s.clocked .adc _) = _
  rw [State.clocked_run hrun]
  simp only [hj, true_and]

theorem State.sendEvent_first {code : Nat} (h : ∀ e ∈ s.conv.sent, e.code ≠ code) :
    s.sendEvent code = { s with conv := { s.conv with sent := s.conv.sent ++ [{ code := code, time := s.now }] } } := by
  have hnone : s.conv.sent.any (fun e => e.code == code) = false := List.any_eq_false.2 fun e he => by simpa using h e he
  rw [State.sendEvent, hnone]
  rfl

theorem State.sendEvent_merges {code : Nat} (h : ∃ e ∈ s.conv.sent, e.code = code) : s.sendEvent code =
    { s with conv := { s.conv with sent := s.conv.sent.map (fun e => if e.code = code then { e with twice := true } else e) } } := by
  have hany : s.conv.sent.any (fun e => e.code == code) = true := by simpa using h
  rw [State.sendEvent, hany]
  rfl

theorem adcTrigEdge_sent (hrun : s.domRun .adc = true) (j : Nat) (rising : Bool) (hj : j < 4)
    (hsel : s.bit ADCC.EXTTRIG (2 * j + (if rising then 0 else 1)) = true) (h : ∀ e ∈ s.conv.sent, e.code ≠ 192 + j) :
    exec (.adcTrigEdge j rising) s =
      .next { s with conv := { s.conv with sent := s.conv.sent ++ [{ code := 192 + j, time := s.now }] } } := by
  rw [exec_adcTrigEdge hrun hj, if_pos hsel, State.sendEvent_first h]

theorem adcTrigEdge_merges (hrun : s.domRun .adc = true) (j : Nat) (rising : Bool) (hj : j < 4)
    (hsel : s.bit ADCC.EXTTRIG (2 * j + (if rising then 0 else 1)) = true) (h : ∃ e ∈ s.conv.sent, e.code = 192 + j) :
    exec (.adcTrigEdge j rising) s = .next { s with conv := { s.conv with
      sent := s.conv.sent.map (fun e => if e.code = 192 + j then { e with twice := true } else e) } } := by
  rw [exec_adcTrigEdge hrun hj, if_pos hsel, State.sendEvent_merges h]

theorem adcTrigEdge_ignored (hrun : s.domRun .adc = true) (j : Nat) (rising : Bool) (hj : j < 4)
    (hsel : s.bit ADCC.EXTTRIG (2 * j + (if rising then 0 else 1)) = false) : exec (.adcTrigEdge j rising) s = .next s := by
  rw [exec_adcTrigEdge hrun hj, if_neg (Bool.eq_false_iff.1 hsel)]

/-! ### Software triggers (R183) -/

theorem swtrigWrite_fires (init : Nat) (data : Word) (cycle : Nat) (hnow : s.mustWait .adc ADCC.base = false)
    (hen : s.en ADCC.base = true) (hrot : s.fld ADCC.ROTSTAT 31 30 ≠ 2) : ∃ t, exec (.swtrigWrite init data cycle) s = .next t ∧
    t.rd ADCC.GRPFIRED = s.rd ADCC.GRPFIRED ||| Word.ofNat (s.swGroups data) ∧ t.conv.counts = s.conv.counts ∧
    (∀ n, n < 26 → n < s.conv.pos.length → s.en (CV.base n) = true → (s.cpos n).cur = none →
      ∀ k, s.nextEntry n (s.swGroups data) 0 = some k → (t.cpos n).cur = some k ∧ t.rd (CV.RUNCNT n) = s.rd (CV.RUNCNT n) + 1) ∧
    Accepted init ADCC.SWTRIG t ∧ t = { s with regs := t.regs, conv := t.conv, bus := { s.bus with resp := t.bus.resp } } := by
  have hframe := State.fireGroups_frame hrot (s.swGroups data) 0 cycle
  refine ⟨(s.fireGroups (s.swGroups data) 0 cycle).respond init ADCC.SWTRIG 0, ?_, State.fireGroups_noted hrot .., hframe.counts, ?_,
    rfl, ?_⟩
  · change Host.Outcome.next (s.writeAt .adc ADCC.base init ADCC.SWTRIG data (swtrigApply init data cycle) cycle) = _
    rw [State.writeAt_now hnow, swtrigApply, if_pos hen]
  · intro n hn hlen hon hidle k hk
    have hstart := State.fireGroups_started hrot hn hlen hon hidle hk 0 cycle
    exact ⟨hstart.cur, hstart.count⟩
  · exact congrArg (State.respond · init ADCC.SWTRIG 0) hframe.eq_parts

/-! ### The configuration of a group (R182, R183) -/

/-- The group's event count starts over. -/
def State.countRestarted (s : State) (k : Nat) : State := { s with conv := { s.conv with counts := tabSet s.conv.counts k 0 } }

theorem tabGet_tabSet (l : List (Nat × Nat)) (j k v : Nat) : tabGet (tabSet l k v) j = if j = k then v else tabGet l j := by
  unfold tabGet tabSet
  split
  case isTrue h => rw [h, Store.find_put_self]
  case isFalse h => rw [Store.find_put_ne _ _ _ h]

theorem State.countRestarted_counts (s : State) (k j : Nat) :
    tabGet (s.countRestarted k).conv.counts j = if j = k then 0 else tabGet s.conv.counts j :=
  tabGet_tabSet s.conv.counts j k 0

section
variable {k : Nat} (hk : k < 32) (hnow : s.mustWait .adc ADCC.base = false)
include hk hnow

theorem exec_triggerGroupCfgWrite (init : Nat) (data : Word) :
    exec (.triggerGroupCfgWrite init k data) s = .next (tgCfgWrite init k data s) := by
  change Host.Outcome.next (s.writeAt .adc ADCC.base init (ADCC.TG_CFG (k % 32)) data (tgCfgWrite init (k % 32) data)) = _
  rw [State.writeAt_now hnow, Nat.mod_eq_of_lt hk]

theorem triggerGroupCfgWrite_taken (init : Nat) (data : Word) (hopen : s.locked ADCC.base = false) (hver : s.ver ADCC.base = 2)
    (hsrc0 : bitsOf data 7 0 < 196) (hsrc1 : bitsOf data 15 8 < 196) : ∃ t, exec (.triggerGroupCfgWrite init k data) s = .next t ∧
    t.fld (ADCC.TG_CFG k) 31 30 = bitsOf data 31 30 ∧ t.fld (ADCC.TG_CFG k) 23 20 = bitsOf data 23 20 ∧
    t.fld (ADCC.TG_CFG k) 15 0 = bitsOf data 15 0 ∧ tabGet t.conv.counts k = 0 ∧ (∀ j, j ≠ k →
        tabGet t.conv.counts j = tabGet s.conv.counts j) ∧
    Accepted init (ADCC.TG_CFG k) t ∧ RegsBut (fun a => a = ADCC.TG_CFG k) s t ∧
    t = { s with regs := t.regs, conv := { s.conv with counts := t.conv.counts }, bus := { s.bus with resp := t.bus.resp } } := by
  obtain ⟨r, hrow, hfields⟩ := rowAt_TG_CFG hk
  have hbase := pageBase_TG_CFG hk
  have hwrite : tgCfgWrite init k data s = (s.fieldsWritten init (ADCC.TG_CFG k) triggerFields data).countRestarted k := by
    rw [tgCfgWrite, if_neg (by omega), if_neg (by omega), State.plainWrite_open hrow (hbase ▸ hver) (hbase ▸ hopen), hfields]
    rfl
  have hexec := exec_triggerGroupCfgWrite hk hnow init data
  rw [hwrite] at hexec
  refine ⟨_, hexec,
    s.fieldsWritten_fld init _ data allRwl_trigger (hi := 31) (lo := 30) (by decide),
    s.fieldsWritten_fld init _ data allRwl_trigger (hi := 23) (lo := 20) (by decide),
    s.fieldsWritten_fld init _ data allRwl_trigger (hi := 15) (lo := 0) (by decide), ?_, fun j hj => ?_, rfl,
    s.fieldsWritten_regs init _ _ data, rfl⟩
  · exact (State.countRestarted_counts ..).trans (if_pos rfl)
  · exact (State.countRestarted_counts ..).trans (if_neg hj)

/-- A reserved source is refused (R182). -/
theorem triggerGroupCfgWrite_refused (init : Nat) (data : Word) (hver : s.ver ADCC.base ≠ 1 ∨ k < 16)
    (hsrc : 196 ≤ bitsOf data 7 0 ∨ 196 ≤ bitsOf data 15 8) : ∃ t, exec (.triggerGroupCfgWrite init k data) s = .next t ∧
    Refused init (ADCC.TG_CFG k) .refused t ∧ t.conv = s.conv := by
  have hwrite : tgCfgWrite init k data s = s.errorResp init (ADCC.TG_CFG k) .refused true := by
    rw [tgCfgWrite, if_neg (by omega), if_pos hsrc]
  refine ⟨_, hwrite ▸ exec_triggerGroupCfgWrite hk hnow init data, s.refused_errorResp .., ?_⟩
  rw [s.errorResp_frame]

/-- Version 1 has no groups from 16 upward. -/
theorem triggerGroupCfgWrite_ignored (init : Nat) (data : Word) (hlow : 16 ≤ k) (hver : s.ver ADCC.base = 1) :
    ∃ t, exec (.triggerGroupCfgWrite init k data) s = .next t ∧ Accepted init (ADCC.TG_CFG k) t ∧
    t = { s with bus := { s.bus with resp := t.bus.resp } } := by
  have hwrite : tgCfgWrite init k data s = s.respond init (ADCC.TG_CFG k) 0 := if_pos ⟨hver, hlow⟩
  exact ⟨_, hwrite ▸ exec_triggerGroupCfgWrite hk hnow init data, s.accepted_respond .., rfl⟩

end
end

end Sys2Proof.Machine
end

section
/-!
The end of a conversion (R179, R187-R191): the result in RESULT, the compare of a shadow (R193, R194), and what follows.
-/
namespace Sys2Proof.Machine

/-! ### Registers of the end of a conversion -/

/-- A register of the rotation: the ADC common page, and the STAT registers of the positions it names. -/
def rotationReg (a : Nat) : Prop := inPage ADCC.base a ∨ ∃ m < 32, a = CV.STAT m

/-- A register in which a result of position `n` shows. -/
def resultReg (n a : Nat) : Prop := a = CV.RESULT n ∨ a = CV.STAT n ∨ a = CV.base n + 0x14 ∨ a = CV.OVRCNT n

/-- A register in which the run of position `n` goes on. -/
def advanceReg (n a : Nat) : Prop := runReg n a ∨ rotationReg a

/-- A register that the end of a conversion at position `n` may write. -/
def endReg (n a : Nat) : Prop := resultReg n a ∨ advanceReg n a

section
variable {n a : Nat}

theorem rotationReg_stat {m : Nat} (hm : m < 32) : rotationReg (CV.STAT m) := .inr ⟨m, hm, rfl⟩

theorem rotationReg_common {off : Nat} (hoff : off < 0x1000) : rotationReg (ADCC.base + off) :=
  .inl ⟨Nat.le_add_right .., Nat.add_lt_add_left hoff _⟩

/-- What the end of a conversion writes decides of no run which entries it converts. -/
theorem not_entryReg_of_endReg (hn : n < 26) (h : endReg n a) : ¬ entryReg n a := by
  have hstat (m : Nat) : ¬ entryReg n (CV.STAT m) := by
    simp only [entryReg, CV.STAT, CV.base]
    omega
  have hpage {off : Nat} (hoff : off < 0x80) (h8 : off ≠ 8) : ¬ entryReg n (CV.base n + off) := by
    simp only [entryReg]
    omega
  rcases h with (rfl | rfl | rfl | rfl) | (rfl | rfl | rfl) | hcommon | ⟨m, -, rfl⟩
  · exact hpage (by decide) (by decide)
  · exact hstat n
  · exact hpage (by decide) (by decide)
  · exact hpage (by decide) (by decide)
  · exact hstat n
  · exact hpage (by decide) (by decide)
  · exact hpage (by decide) (by decide)
  · simp only [inPage, entryReg, CV.base, ADCC.base] at hcommon ⊢
    omega
  · exact hstat m

theorem not_advanceReg_RESULT (hn : n < 26) : ¬ advanceReg n (CV.RESULT n) := by
  rintro ((h | h | h) | h | ⟨m, -, h⟩)
  · simp only [CV.RESULT, CV.STAT] at h; omega
  · simp only [CV.RESULT, CV.RUNCNT] at h; omega
  · simp only [CV.RESULT] at h; omega
  · simp only [inPage, CV.RESULT, CV.base, ADCC.base] at h; omega
  · simp only [CV.RESULT, CV.STAT, CV.base] at h; omega

theorem endReg_commandFrame (h : endReg n a) :
    inPage ADCC.base a ∨ (CV.base n ≤ a ∧ a < CV.base n + 0x800) ∨ ∃ m, m < 32 ∧ a = CV.STAT m := by
  rcases h with hres | hrun | hcommon | hstat
  · simp only [resultReg, CV.RESULT, CV.STAT, CV.OVRCNT] at hres
    exact .inr (.inl (by omega))
  · simp only [runReg, CV.STAT, CV.RUNCNT] at hrun
    exact .inr (.inl (by omega))
  · exact .inl hcommon
  · exact .inr (.inr hstat)

end

/-! ### Rotation's part (R193-R195) -/

section
variable {P Q : Nat → Prop} {s t : State}

/-- The hand-over writes the rotation's registers and the interrupt register of the position. -/
theorem State.ConvFrame.handover (h : s.ConvFrame P Q t) (hrot : ∀ a, rotationReg a → P a)
    (hirq : P (CV.base (t.fld ADCC.ROTSTAT 28 24) + 0x14)) : s.ConvFrame P Q t.handover := by
  have hpos : t.fld ADCC.ROTSTAT 28 24 < 32 := t.fld_lt ..
  have hspare : t.sparePos (t.fld ADCC.ROTSTAT 20 16) < 32 := by
    unfold State.sparePos
    split <;> decide
  have hunits := (h.setFld (hrot _ (rotationReg_stat hspare)) 24 20 (t.fld (CV.STAT (t.fld ADCC.ROTSTAT 28 24)) 24 20)).setFld
    (hrot _ (rotationReg_stat hpos)) 24 20 (t.fld ADCC.ROTSTAT 20 16)
  have hshown := (((hunits.irq hirq 6).irq (base := ADCC.base) (hrot _ (rotationReg_common (by decide))) 0).count
    (a := ADCC.ROTCNT) (hrot _ (rotationReg_common (by decide))) 31 16 1).setFld
    (a := ADCC.ROTSTAT) (hrot _ (rotationReg_common (by decide))) 31 30 0
  exact hshown.withConv rfl rfl rfl

theorem State.ConvFrame.boundary {n : Nat} (h : s.ConvFrame P Q t) (hrot : ∀ a, rotationReg a → P a) (hirq : P (CV.base n + 0x14)) :
    s.ConvFrame P Q (t.boundary n) := by
  unfold State.boundary
  split
  case isTrue hdue =>
    obtain ⟨-, rfl⟩ := of_decide_eq_true hdue
    exact h.handover hrot hirq
  case isFalse => exact h

theorem State.ConvFrame.runOver (h : s.ConvFrame P Q t) (n : Nat) : s.ConvFrame P Q (t.runOver n) := by
  unfold State.runOver
  split
  · exact h.withConv rfl rfl rfl
  · exact h

theorem State.ConvFrame.endShadow (h : s.ConvFrame P Q t) (hrot : ∀ a, rotationReg a → P a) (st : Nat) :
    s.ConvFrame P Q (t.endShadow st) :=
  (h.setFld (a := ADCC.ROTSTAT) (hrot _ (rotationReg_common (by decide))) 31 30 st).setBit (hrot _ (rotationReg_stat (t.fld_lt ..))) 9 false

theorem State.ConvFrame.shadowCompare (h : s.ConvFrame P Q t) (hrot : ∀ a, rotationReg a → P a) (n : Nat) (k kSpare : Int) :
    s.ConvFrame P Q (t.shadowCompare n k kSpare) := by
  have hcommon {off : Nat} (hoff : off < 0x1000) : P (ADCC.base + off) := hrot _ (rotationReg_common hoff)
  have hcounted (v : Nat) (w : Word) (x : Nat) : s.ConvFrame P Q { (t.setFld ADCC.ROTSTAT 12 0 v).wr ADCC.ROTEXC w with
      conv := { t.conv with exceed := x } } :=
    ((h.setFld (a := ADCC.ROTSTAT) (hcommon (by decide)) 12 0 v).wr (a := ADCC.ROTEXC) (hcommon (by decide)) w).withConv rfl rfl rfl
  unfold State.shadowCompare
  dsimp only
  split
  case isFalse => exact h
  case isTrue =>
    split
    · exact hcounted ..
    · split
      · exact ((hcounted ..).endShadow hrot 2).withConv rfl rfl rfl
      · exact ((((hcounted ..).endShadow hrot 0).count (a := ADCC.ROTCNT) (hcommon (by decide)) 15 8 1).irq (base := ADCC.base)
          (hcommon (by decide)) 1).withConv rfl rfl rfl

end

/-! ### The result (R179, R189-R191) -/

/-- RESULT and the record of results have taken the word. -/
def State.resultStored (s : State) (n e : Nat) (k : Int) (clip : Bool) : State :=
  (s.wr (CV.RESULT n) (resultWord (s.bit (CV.RESULT n) 31) (s.cpos n).merged clip e (s.fld (CV.RUNCNT n) 7 0) k)).updPos n
    (fun q => { q with last := tabSet q.last e (ofSigned 16 k) })

/-- The flags of an overrun and of a saturated result. -/
def State.resultFlagged (s : State) (n : Nat) (ovr clip : Bool) : State :=
  let s2 := if ovr then ((s.setBit (CV.STAT n) 0 true).irq (CV.base n) 0).count (CV.OVRCNT n) 31 0 1 else s
  if clip then (s2.setBit (CV.STAT n) 4 true).irq (CV.base n) 4 else s2

/-- The result goes to its slot, or is announced. -/
def State.resultRouted (s : State) (n : Nat) (b : Word) : State :=
  if tb b 31 then s.updPos n (fun q => { q with dest := some (bitsOf b 19 16, bitsOf b 10 8, bitsOf b 3 0) })
  else (s.updPos n (fun q => { q with dest := none })).irq (CV.base n) 5

/-- A register in which a result shows beside RESULT. -/
def flagReg (n a : Nat) : Prop := a = CV.STAT n ∨ a = CV.base n + 0x14 ∨ a = CV.OVRCNT n

section
variable {P Q : Nat → Prop} {s t : State} {n : Nat}

theorem State.cpos_wr (s : State) (a : Nat) (v : Word) (n : Nat) : (s.wr a v).cpos n = s.cpos n := rfl

theorem State.putResult_eq (s : State) (n e : Nat) (k : Int) (clip : Bool) : s.putResult n e k clip =
    ((s.resultStored n e k clip).resultFlagged n (s.bit (CV.RESULT n) 31) clip).resultRouted n (s.cpos n).fieldsB := rfl

theorem State.ConvFrame.resultFlagged (h : s.ConvFrame P Q t) (hP : ∀ a, flagReg n a → P a) (ovr clip : Bool) :
    s.ConvFrame P Q (t.resultFlagged n ovr clip) := by
  have hover := (((h.setBit (hP _ (.inl rfl)) 0 true).irq (hP _ (.inr (.inl rfl))) 0).count (hP _ (.inr (.inr rfl))) 31 0 1).ite h (ovr = true)
  exact ((hover.setBit (hP _ (.inl rfl)) 4 true).irq (hP _ (.inr (.inl rfl))) 4).ite hover (clip = true)

theorem State.ConvFrame.resultRouted (h : s.ConvFrame P Q t) (hP : ∀ a, flagReg n a → P a) (hQ : Q n) (b : Word) :
    s.ConvFrame P Q (t.resultRouted n b) := (h.updPos hQ _).ite ((h.updPos hQ _).irq (hP _ (.inr (.inl rfl))) 5) _

theorem State.ConvFrame.putResult (h : s.ConvFrame P Q t) (hP : ∀ a, resultReg n a → P a) (hQ : Q n) (e : Nat) (k : Int) (clip : Bool) :
    s.ConvFrame P Q (t.putResult n e k clip) := by
  have hflag : ∀ a, flagReg n a → P a := fun a ha => hP a (.inr ha)
  exact (((h.wr (hP _ (.inl rfl)) _).updPos hQ _).resultFlagged hflag _ clip).resultRouted hflag hQ _

/-- The flags leave RESULT as it has been written. -/
theorem State.putResult_rd (s : State) (n e : Nat) (k : Int) (clip : Bool) : (s.putResult n e k clip).rd (CV.RESULT n) =
    resultWord (s.bit (CV.RESULT n) 31) (s.cpos n).merged clip e (s.fld (CV.RUNCNT n) 7 0) k := by
  have hother : ¬ flagReg n (CV.RESULT n) := by
    simp only [flagReg, CV.RESULT, CV.STAT, CV.OVRCNT]
    omega
  have hframe := ((State.ConvFrame.refl (flagReg n) (· = n) (s.resultStored n e k clip)).resultFlagged (fun _ ha => ha)
    (s.bit (CV.RESULT n) 31) clip).resultRouted (fun _ ha => ha) rfl (s.cpos n).fieldsB
  rw [State.putResult_eq, hframe.regs _ hother, State.resultStored, State.rd_updPos, State.rd_wr_self]

/-- The position keeps its run. -/
theorem State.putResult_pos (hlen : n < s.conv.pos.length) (e : Nat) (k : Int) (clip : Bool) : ∃ last dest,
    (s.putResult n e k clip).cpos n = { s.cpos n with last := last, dest := dest } := by
  have hstored : (s.resultStored n e k clip).cpos n = { s.cpos n with last := tabSet (s.cpos n).last e (ofSigned 16 k) } := by
    rw [State.resultStored, State.cpos_updPos_self (by rw [State.wr_conv]; exact hlen), State.cpos_wr]
  have hlen' : n < (s.resultStored n e k clip).conv.pos.length := by
    rw [State.resultStored, State.updPos, upd, List.length_modify, State.wr_conv]
    exact hlen
  have hflagged := (State.ConvFrame.refl (flagReg n) (fun _ => False) (s.resultStored n e k clip)).resultFlagged (fun _ ha => ha)
    (s.bit (CV.RESULT n) 31) clip
  have hpos := (hflagged.others n (fun hf => hf)).trans hstored
  have hrouted (f : ConvPos → ConvPos) := State.cpos_updPos_self (hflagged.length.symm ▸ hlen') f
  rw [hpos] at hrouted
  rw [State.putResult_eq, State.resultRouted]
  split
  · exact ⟨_, _, hrouted _⟩
  · exact ⟨_, _, hrouted _⟩

end

/-! ### What follows a conversion (R185, R187, R195) -/

section
variable {P Q : Nat → Prop} {s t : State} {n : Nat}

theorem advanceReg_irq (n : Nat) : advanceReg n (CV.base n + 0x14) := .inl (.inr (.inr rfl))

/-- The state in which a pending run starts: the hand-over has been made where it was due. -/
def State.pendingBase (s : State) (n : Nat) : State := if s.handoverDue n ∧ s.conv.oldRun then s.runOver n else s.boundary n

theorem State.startPending_some (s : State) (n g : Nat) (m : Bool) :
    s.startPending n (some (g, m)) = (s.pendingBase n).startRun n g m true := rfl

theorem State.startPending_none (s : State) (n : Nat) : s.startPending n none = (s.runOver n).setBit (CV.STAT n) 8 false := rfl

theorem State.ConvFrame.pendingBase (h : s.ConvFrame P Q t) (hP : ∀ a, advanceReg n a → P a) : s.ConvFrame P Q (t.pendingBase n) :=
  (h.runOver n).ite (h.boundary (fun a ha => hP a (.inr ha)) (hP _ (advanceReg_irq n))) _

theorem State.ConvFrame.startPending (h : s.ConvFrame P Q t) (hP : ∀ a, advanceReg n a → P a) (hQ : Q n) (pend : Option (Nat × Bool)) :
    s.ConvFrame P Q (t.startPending n pend) := by
  cases pend with
  | none => exact (h.runOver n).setBit (hP _ (.inl (.inl rfl))) 8 false
  | some p => exact (h.pendingBase hP).startRun (fun a ha => hP a (.inl ha)) hQ p.1 p.2 true

theorem State.advanceRun_some {e k : Nat} (h : s.nextEntry n (s.cpos n).groups (e + 1) = some k) :
    s.advanceRun n e = s.acquire n k := by
  rw [State.advanceRun, h]

/-- The run of the position is over. -/
def State.rested (s : State) (n : Nat) : State := s.updPos n (fun p => { p with cur := none, pend := none })

theorem State.advanceRun_none {e : Nat} (h : s.nextEntry n (s.cpos n).groups (e + 1) = none) :
    s.advanceRun n e = (s.rested n).startPending n (s.cpos n).pend := by
  rw [State.advanceRun, h]
  rfl

theorem State.ConvFrame.advanceRun (h : s.ConvFrame P Q t) (hP : ∀ a, advanceReg n a → P a) (hQ : Q n) (e : Nat) :
    s.ConvFrame P Q (t.advanceRun n e) := by
  cases hk : t.nextEntry n (t.cpos n).groups (e + 1) with
  | some k =>
    rw [State.advanceRun_some hk]
    exact h.acquire hQ k
  | none =>
    rw [State.advanceRun_none hk]
    exact (h.updPos hQ _).startPending hP hQ _

section
variable (hn : n < 26) (hlen : n < s.conv.pos.length) {e : Nat}

include hlen in
theorem State.advanceRun_next {k : Nat} (h : s.nextEntry n (s.cpos n).groups (e + 1) = some k) :
    ((s.advanceRun n e).cpos n).cur = some k ∧ ((s.advanceRun n e).cpos n).pend = (s.cpos n).pend := by
  rw [State.advanceRun_some h, State.acquire, State.cpos_updPos_self hlen]
  exact ⟨rfl, rfl⟩

include hlen in
theorem State.rested_pos : (s.rested n).cpos n = { s.cpos n with cur := none, pend := none } := State.cpos_updPos_self hlen _

theorem State.rest_shown (s : State) (n : Nat) : (s.startPending n none).bit (CV.STAT n) 8 = false := by
  rw [State.startPending_none, State.bit_setBit_self _ _ (by decide), if_pos rfl]

theorem State.rest_pos (s : State) (n : Nat) : (s.startPending n none).cpos n = s.cpos n :=
  ((State.ConvFrame.refl (· = CV.STAT n) (fun _ => False) s).runOver n |>.setBit rfl 8 false).others n (fun hf => hf)

include hlen in
theorem State.advanceRun_rests (h : s.nextEntry n (s.cpos n).groups (e + 1) = none) (hpend : (s.cpos n).pend = none) :
    ((s.advanceRun n e).cpos n).cur = none ∧ (s.advanceRun n e).bit (CV.STAT n) 8 = false := by
  rw [State.advanceRun_none h, hpend, State.rest_pos, State.rested_pos hlen]
  exact ⟨rfl, State.rest_shown ..⟩

include hn hlen in
/-- The pending run starts late, with its groups (R187). -/
theorem State.advanceRun_pending (h : s.nextEntry n (s.cpos n).groups (e + 1) = none) {p : Nat × Bool} (hpend : (s.cpos n).pend = some p)
    {k : Nat} (hk : s.nextEntry n p.1 0 = some k) : ((s.advanceRun n e).cpos n).cur = some k ∧
    ((s.advanceRun n e).cpos n).groups = p.1 ∧ ((s.advanceRun n e).cpos n).pend = none ∧
    (s.advanceRun n e).bit (CV.STAT n) 2 = true := by
  have hbase := (State.ConvFrame.refl (advanceReg n) (fun _ => False) (s.rested n)).pendingBase (n := n) (fun _ ha => ha)
  have hlen' : n < ((s.rested n).pendingBase n).conv.pos.length := by
    rw [hbase.length, State.rested, State.updPos, upd, List.length_modify]
    exact hlen
  have hk' : ((s.rested n).pendingBase n).nextEntry n p.1 0 = some k :=
    (State.nextEntry_congr hn (fun a ha => hbase.regs a fun hadv => not_entryReg_of_endReg hn (.inr hadv) ha) p.1 0).trans hk
  have hstart := State.startRun_started hlen' hk' p.2 true
  rw [State.advanceRun_none h, hpend]
  refine ⟨hstart.cur, hstart.groups, ?_, hstart.late rfl⟩
  rw [State.startPending_some, hstart.pend, hbase.others n (fun hf => hf), State.rested_pos hlen]

end
end

/-! ### The command -/

section
variable {s : State}

theorem conversionEnd_stopped (h : s.domRun .adc = false) (n : Nat) (vin vs : Int) : exec (.conversionEnd n vin vs) s = .next s :=
  congrArg Host.Outcome.next (State.clocked_stop h _)

theorem exec_conversionEnd (hrun : s.domRun .adc = true) (n : Nat) (vin vs : Int) :
    exec (.conversionEnd n vin vs) s = .next (conversionEnd s n vin vs) :=
  congrArg Host.Outcome.next (State.clocked_run hrun _)

/-- The result of a conversion has landed, and a shadow has been compared with it. -/
def State.landed (s : State) (n e : Nat) (vin vs : Int) : State :=
  (s.putResult n e (convResult (s.cpos n).fieldsA vin) (convClips (s.cpos n).fieldsA vin)).shadowCompare n
    (convResult (s.cpos n).fieldsA vin) (convResult (s.cpos n).fieldsA vs)

variable {n e : Nat}

theorem conversionEnd_kept (hcur : (s.cpos n).cur = some e) (hkeep : (s.cpos n).discard = false) (vin vs : Int) :
    conversionEnd s n vin vs = (s.landed n e vin vs).advanceRun n e := by
  rw [conversionEnd, hcur]
  exact if_neg (by simp [hkeep])

theorem conversionEnd_dropped (hcur : (s.cpos n).cur ≠ none) (hdrop : (s.cpos n).discard = true) (vin vs : Int) :
    conversionEnd s n vin vs =
      (s.updPos n (fun q => { q with cur := none, pend := none, discard := false })).startPending n (s.cpos n).pend := by
  obtain ⟨e, hcur⟩ := Option.ne_none_iff_exists'.1 hcur
  rw [conversionEnd, hcur]
  exact if_pos hdrop

theorem State.landed_frame (s : State) (n e : Nat) (vin vs : Int) : s.ConvFrame (endReg n) (· = n) (s.landed n e vin vs) :=
  ((State.ConvFrame.refl (endReg n) (· = n) s).putResult (fun _ ha => .inl ha) rfl ..).shadowCompare (fun _ ha => .inr (.inr ha)) ..

theorem State.landed_rd (hn : n < 26) (e : Nat) (vin vs : Int) : (s.landed n e vin vs).rd (CV.RESULT n) =
    resultWord (s.bit (CV.RESULT n) 31) (s.cpos n).merged (convClips (s.cpos n).fieldsA vin) e (s.fld (CV.RUNCNT n) 7 0)
      (convResult (s.cpos n).fieldsA vin) := by
  have hcompare := (State.ConvFrame.refl rotationReg (fun _ => False) (s.putResult n e (convResult (s.cpos n).fieldsA vin)
    (convClips (s.cpos n).fieldsA vin))).shadowCompare (fun _ ha => ha) n (convResult (s.cpos n).fieldsA vin)
    (convResult (s.cpos n).fieldsA vs)
  rw [State.landed, hcompare.regs _ (fun ha => not_advanceReg_RESULT hn (.inr ha)), State.putResult_rd]

theorem State.landed_pos (hlen : n < s.conv.pos.length) (e : Nat) (vin vs : Int) : ∃ last dest,
    (s.landed n e vin vs).cpos n = { s.cpos n with last := last, dest := dest } := by
  have hcompare := (State.ConvFrame.refl rotationReg (fun _ => False) (s.putResult n e (convResult (s.cpos n).fieldsA vin)
    (convClips (s.cpos n).fieldsA vin))).shadowCompare (fun _ ha => ha) n (convResult (s.cpos n).fieldsA vin)
    (convResult (s.cpos n).fieldsA vs)
  rw [State.landed, hcompare.others n (fun hf => hf)]
  exact State.putResult_pos hlen e _ _

theorem conversionEnd_lands (hrun : s.domRun .adc = true) (n : Nat) (vin vs : Int) (hn : n < 26) (hlen : n < s.conv.pos.length)
    (e : Nat) (hcur : (s.cpos n).cur = some e) (hkeep : (s.cpos n).discard = false) :
    ∃ t, exec (.conversionEnd n vin vs) s = .next t ∧
    t.rd (CV.RESULT n) = resultWord (s.bit (CV.RESULT n) 31) (s.cpos n).merged (convClips (s.cpos n).fieldsA vin) e
      (s.fld (CV.RUNCNT n) 7 0) (convResult (s.cpos n).fieldsA vin) ∧
    (∀ k, s.nextEntry n (s.cpos n).groups (e + 1) = some k → (t.cpos n).cur = some k ∧ (t.cpos n).pend = (s.cpos n).pend) ∧
    (s.nextEntry n (s.cpos n).groups (e + 1) = none → (s.cpos n).pend = none → (t.cpos n).cur = none ∧ t.bit (CV.STAT n) 8 = false) ∧
    (s.nextEntry n (s.cpos n).groups (e + 1) = none → ∀ p, (s.cpos n).pend = some p → ∀ k, s.nextEntry n p.1 0 = some k →
      (t.cpos n).cur = some k ∧ (t.cpos n).groups = p.1 ∧ (t.cpos n).pend = none ∧ t.bit (CV.STAT n) 2 = true) ∧
    (∀ m, m ≠ n → t.cpos m = s.cpos m) ∧
    RegsBut (fun a => inPage ADCC.base a ∨ (CV.base n ≤ a ∧ a < CV.base n + 0x800) ∨ ∃ m, m < 32 ∧ a = CV.STAT m) s t ∧
    t = { s with regs := t.regs, conv := t.conv } := by
  have hland := s.landed_frame n e vin vs
  have hframe := hland.advanceRun (fun _ ha => .inr ha) rfl e
  have hstep := (State.ConvFrame.refl (advanceReg n) (· = n) (s.landed n e vin vs)).advanceRun (fun _ ha => ha) rfl e
  obtain ⟨last, dest, hpos⟩ := State.landed_pos hlen e vin vs
  have hlen' : n < (s.landed n e vin vs).conv.pos.length := hland.length ▸ hlen
  have hgroups : ((s.landed n e vin vs).cpos n).groups = (s.cpos n).groups := by rw [hpos]
  have hpend : ((s.landed n e vin vs).cpos n).pend = (s.cpos n).pend := by rw [hpos]
  have hentry (g f : Nat) : (s.landed n e vin vs).nextEntry n g f = s.nextEntry n g f :=
    State.nextEntry_congr hn (fun a ha => hland.regs a fun hend => not_entryReg_of_endReg hn hend ha) g f
  have hexec := exec_conversionEnd hrun n vin vs
  rw [conversionEnd_kept hcur hkeep] at hexec
  refine ⟨_, hexec, ?result, ?next, ?rest, ?pending, hframe.others, hframe.regs.mono fun _ => endReg_commandFrame, hframe.eq_parts⟩
  case result => rw [hstep.regs _ (not_advanceReg_RESULT hn), State.landed_rd hn]
  case next =>
    intro k hk
    rw [← hgroups, ← hentry] at hk
    rw [← hpend]
    exact State.advanceRun_next hlen' hk
  case rest =>
    intro hnone hidle
    rw [← hgroups, ← hentry] at hnone
    exact State.advanceRun_rests hlen' hnone (hpend.trans hidle)
  case pending =>
    intro hnone p hp k hk
    rw [← hgroups, ← hentry] at hnone
    exact State.advanceRun_pending hn hlen' hnone (hpend.trans hp) ((hentry ..).trans hk)

/-- A discarded conversion leaves RESULT alone (R188). -/
theorem conversionEnd_discards (hrun : s.domRun .adc = true) (n : Nat) (vin vs : Int) (hlen : n < s.conv.pos.length)
    (hcur : (s.cpos n).cur ≠ none) (hdrop : (s.cpos n).discard = true) (hpend : (s.cpos n).pend = none) :
    ∃ t, exec (.conversionEnd n vin vs) s = .next t ∧ (t.cpos n).cur = none ∧ (t.cpos n).discard = false ∧
    (∀ m, m ≠ n → t.cpos m = s.cpos m) ∧ RegsBut (fun a => a = CV.STAT n) s t ∧ t = { s with regs := t.regs, conv := t.conv } := by
  have hframe := (((State.ConvFrame.refl (· = CV.STAT n) (· = n) s).updPos (n := n) rfl
    (fun q => { q with cur := none, pend := none, discard := false })).runOver n).setBit (a := CV.STAT n) rfl 8 false
  have hpos := State.cpos_updPos_self hlen (fun q => { q with cur := none, pend := none, discard := false })
  have hexec := exec_conversionEnd hrun n vin vs
  rw [conversionEnd_dropped hcur hdrop, hpend] at hexec
  refine ⟨_, hexec, ?_, ?_, hframe.others, hframe.regs, hframe.eq_parts⟩
  all_goals rw [State.rest_pos, hpos]

end

end Sys2Proof.Machine
end

section
/-!
The pusher and a read of RESULT (R189-R191), and O14.
-/
namespace Sys2Proof.Machine

/-- The pusher has taken the result of position `n` (R190). -/
def State.pushTaken (s : State) (n : Nat) : State :=
  (s.setBit (CV.RESULT n) 31 false).updPos n (fun p => { p with dest := none })

/-- The slip that carries a result to its input slot. -/
def State.pushSlip (s : State) (n : Nat) (d : Nat × Nat × Nat) (cycle : Nat) : Slip :=
  { init := n, addr := s.slotAddr d.1 d.2.1 d.2.2, write := true, bytes := leBytes 4 (pushWord s n).toNat, cycle := cycle }

section
variable {s : State}

theorem resultPush_stopped (h : s.domRun .adc = false) (n cycle : Nat) : exec (.resultPush n cycle) s = .next s :=
  congrArg Host.Outcome.next (State.clocked_stop h _)

section
variable {n : Nat} (hn : n < 26) {d : Nat × Nat × Nat} (hdest : (s.cpos n).dest = some d) (hnew : s.bit (CV.RESULT n) 31 = true)
  (hen : s.en (CV.base n) = true) {c : Nat} (hcoin : s.takeCoin n = some c)
include hn hdest hnew hen hcoin

theorem exec_resultPush (hrun : s.domRun .adc = true) (hfab : s.domRun .fab = true) (cycle : Nat) :
    exec (.resultPush n cycle) s = .next ((s.pushTaken n).issue (s.pushSlip n d cycle)) := by
  have hready : n < 26 ∧ s.bit (CV.RESULT n) 31 ∧ s.en (CV.base n) ∧ !s.coinStall n := by
    rw [State.coinStall, hcoin]
    exact ⟨hn, hnew, hen, rfl⟩
  change Host.Outcome.next (s.clocked .adc _) = _
  rw [State.clocked_run hrun, State.clocked_run hfab, hdest]
  exact congrArg Host.Outcome.next (if_pos hready)

end

/-- A push takes a coin, clears NEW and issues the push word to the input slot (R190). -/
theorem resultPush_issues (hrun : s.domRun .adc = true) (n cycle : Nat) (hn : n < 26) (hlen : n < s.conv.pos.length)
    (d : Nat × Nat × Nat) (hdest : (s.cpos n).dest = some d) (hnew : s.bit (CV.RESULT n) 31 = true) (hen : s.en (CV.base n) = true)
    (hfab : s.domRun .fab = true) (hfirst : ∀ q ∈ s.fab.stalled, q.init ≠ n) (c : Nat) (hcoin : s.takeCoin n = some c) :
    ∃ (t : State) (p : Slip), exec (.resultPush n cycle) s = .next t ∧ t.bit (CV.RESULT n) 31 = false ∧ (t.cpos n).dest = none ∧
    t.fab.slips = s.fab.slips ++ [p] ∧ p.coin = c ∧ p.init = n ∧ p.write = true ∧ p.addr = s.slotAddr d.1 d.2.1 d.2.2 ∧
    p.bytes = leBytes 4 (pushWord s n).toNat ∧ (∀ m, m ≠ n → t.cpos m = s.cpos m) ∧
    RegsBut (fun a => a = CV.RESULT n ∨ inPage FAB.base a) s t ∧ t = { s with regs := t.regs, conv := t.conv, fab := t.fab } := by
  have hexec := exec_resultPush hn hdest hnew hen hcoin hrun hfab cycle
  rw [State.issue_launches (s := s.pushTaken n) (p := s.pushSlip n d cycle) hfirst hcoin] at hexec
  have htaken := ((State.ConvFrame.refl (· = CV.RESULT n) (· = n) s).setBit rfl 31 false).updPos (n := n) rfl
    (fun p => { p with dest := none })
  obtain ⟨late, pattern, hframe⟩ := (s.pushTaken n).launch_writesOnly (s.pushSlip n d cycle) c
  have hconv : ((s.pushTaken n).launch (s.pushSlip n d cycle) c).conv = (s.pushTaken n).conv := by rw [hframe.fields.eq_regs]
  have hpos (m : Nat) : ((s.pushTaken n).launch (s.pushSlip n d cycle) c).cpos m = (s.pushTaken n).cpos m :=
    State.cpos_congr (congrArg Convs.pos hconv) m
  have hRESULT : ¬ inPage FAB.base (CV.RESULT n) := by
    simp only [inPage, FAB.base, CV.RESULT, CV.base]
    omega
  refine ⟨_, { s.pushSlip n d cycle with coin := c, late := late }, hexec, ?new, ?dest, ?slips, rfl, rfl, rfl, rfl, rfl, ?others,
    ?regs, ?parts⟩
  case new =>
    rw [State.bit_congr (hframe.regs _ hRESULT)]
    exact (State.bit_setBit_self s _ (by decide) false 31).trans (if_pos rfl)
  case dest =>
    rw [hpos, State.pushTaken, State.cpos_updPos_self (by rw [State.setBit_conv]; exact hlen)]
  case slips =>
    rw [hframe.fields.eq_regs]
    rfl
  case others =>
    intro m hm
    rw [hpos]
    exact htaken.others m hm
  case regs => exact (htaken.regs.mono fun _ ha => .inl ha).trans (RegsBut.mono (s := s.pushTaken n) hframe.regs fun _ ha => .inr ha)
  case parts =>
    rw [hframe.fields.eq_regs]
    rfl

/-- A read returns RESULT and clears NEW (R189). -/
theorem resultRead_returns (init n : Nat) (hn : n < 26) (hnow : s.mustWait .adc (CV.base n) = false) :
    ∃ t, exec (.resultRead init n) s = .next t ∧
    t.bus.resp = { init := init, addr := CV.RESULT n, cause := 0, data := s.shown (CV.RESULT n) } ∧ t.bit (CV.RESULT n) 31 = false ∧
    RegsBut (fun a => a = CV.RESULT n) s t ∧ t = { s with regs := t.regs, bus := { s.bus with resp := t.bus.resp } } := by
  refine ⟨(s.setBit (CV.RESULT n) 31 false).respond init (CV.RESULT n) (s.shown (CV.RESULT n)), ?_, rfl, ?_,
    (RegsBut.refl (fun a => a = CV.RESULT n) s).setBit rfl 31 false, rfl⟩
  · change Host.Outcome.next (s.readAt .adc (CV.base (n % 26)) init (CV.RESULT (n % 26)) (resultReadApply init (n % 26))) = _
    rw [Nat.mod_eq_of_lt hn, State.readAt_now hnow, resultReadApply]
  · exact (State.bit_setBit_self s _ (by decide) false 31).trans (if_pos rfl)

end

/-- Settles O14, clause by clause: events and triggers, the configuration of a group, the end of a conversion, the push and the read. -/
theorem triggersStartRunsAndResultsLand : Obligations.TriggersStartRunsAndResultsLand := by
  unfold Obligations.TriggersStartRunsAndResultsLand
  intro s
  refine ⟨fun hstop codes cycle j rising n vin vs => ⟨triggerGroupFire_stopped hstop codes cycle, adcTrigEdge_stopped hstop j rising,
    conversionEnd_stopped hstop n vin vs, resultPush_stopped hstop n cycle⟩, fun hrun => ?_⟩
  exact ⟨triggerGroupFire_fires hrun, triggerGroupFire_disabled hrun, adcTrigEdge_sent hrun, adcTrigEdge_merges hrun,
    adcTrigEdge_ignored hrun, swtrigWrite_fires, fun init _ data hk hnow => triggerGroupCfgWrite_taken hk hnow init data,
    fun init _ data hk hnow => triggerGroupCfgWrite_refused hk hnow init data,
    fun init _ data hlow hk hnow => triggerGroupCfgWrite_ignored hk hnow init data hlow, conversionEnd_lands hrun,
    fun n vin vs _ => conversionEnd_discards hrun n vin vs, resultPush_issues hrun, resultRead_returns⟩

end Sys2Proof.Machine
end

section
/-!
Configuration writes of the converters (R178, R188, R192).
-/
namespace Sys2Proof.Machine

/-! ### A refusal at a converter (R148, R173) -/

/-- The registers that an error response may write, of the converters' pages the flags of a push error alone. -/
def refusalReg (b : Nat) : Prop := b < 0x40010000 ∨ 0x40020000 ≤ b ∨ ∃ m, b = CV.STAT m ∨ b = CV.base m + 0x14

section
variable (s : State) (init a : Nat) (c : Cause) (w : Bool)

theorem RegsBut.captureError_refusal : RegsBut refusalReg s (s.captureError init a c w) := by
  have hsys {b : Nat} (hb : b < 0x40010000) : refusalReg b := .inl hb
  have hput : RegsBut refusalReg s (s.putError init a c w) :=
    ((RegsBut.refl refusalReg s).wr (hsys (by decide)) _).wr (hsys (by decide)) _
  unfold State.captureError
  split
  case isTrue =>
    split
    case isTrue =>
      split
      · exact hput
      · exact .refl _ s
    case isFalse => exact (RegsBut.refl refusalReg s).setBit (hsys (by decide)) 30 true
  case isFalse => exact (hput.irq (hsys (by decide)) 0).withBus _

theorem RegsBut.initiatorReact_refusal (sub : Nat) : RegsBut refusalReg s (s.initiatorReact init a sub w) := by
  have hhigh {b : Nat} (hb : 0x40020000 ≤ b) : refusalReg b := .inr (.inl hb)
  have h := RegsBut.refl refusalReg s
  fun_cases State.initiatorReact
  case case1 => exact (h.setBit (.inr (.inr ⟨init, .inl rfl⟩)) 3 true).irq (.inr (.inr ⟨init, .inr rfl⟩)) 3
  case case2 => exact h.irq (hhigh (by simp only [TLR.base]; omega)) _
  case case3 => exact (h.setBit (hhigh (by decide)) 0 true).irq (hhigh (by decide)) 3
  case case4 => exact (h.setBit (hhigh (by simp only [MP.base]; omega)) 0 true).irq (hhigh (by simp only [MP.base]; omega)) 0
  case case5 => exact (h.setBit (hhigh (by decide)) 0 true).irq (hhigh (by decide)) 3
  case case6 => exact h.withClerks _ s.clerk1
  case case7 => exact h.withClerks s.clerk0 _
  case case8 => exact h.irq (hhigh (by simp only [ETH.base]; omega)) 6
  case case9 => exact h.irq (hhigh (by simp only [CAN.base]; omega)) 5
  case case10 => exact h

theorem RegsBut.errorResp_refusal (sub : Nat) : RegsBut refusalReg s (s.errorResp init a c w sub) := by
  have hflag := (RegsBut.captureError_refusal s init a c w).irq (base := FAB.base) (.inl (by decide)) 0
  have hcount := hflag.trans ((RegsBut.fabCount_errcnt _).mono fun _ hb => .inl (hb ▸ by decide))
  unfold State.errorResp
  refine RegsBut.withBus ?_ _
  split
  · exact hcount
  · exact hcount.trans (RegsBut.initiatorReact_refusal _ init a w sub)

end

theorem not_refusalReg_ENTRY_A {n k : Nat} (hn : n < 26) (hk : k < 16) : ¬ refusalReg (CV.ENTRY_A n k) := by
  rintro (h | h | ⟨m, h | h⟩)
  all_goals simp only [CV.ENTRY_A, CV.STAT, CV.base] at h; omega

theorem not_refusalReg_ROTCFG : ¬ refusalReg ADCC.ROTCFG := by
  rintro (h | h | ⟨m, h | h⟩)
  all_goals simp only [ADCC.ROTCFG, ADCC.base, CV.STAT, CV.base] at h; omega

/-! ### Entries (R178, R188, R193) -/

/-- Where a shadow of position `n` is under way, its compare starts over (R193). -/
def State.shadowRestarted (s : State) (n : Nat) : State :=
  if s.fld ADCC.ROTSTAT 31 30 = 1 ∧ s.fld ADCC.ROTSTAT 28 24 = n then s.setFld ADCC.ROTSTAT 12 0 0 else s

theorem State.shadowRestarted_writesOnly (s : State) (n : Nat) : s.WritesOnly (· = ADCC.ROTSTAT) (s.shadowRestarted n) :=
  ((State.WritesOnly.refl (· = ADCC.ROTSTAT) s).setFld rfl 12 0 0).ite (.refl _ s) _

theorem State.shadowRestarted_count {s : State} {n : Nat} (hshadow : s.fld ADCC.ROTSTAT 31 30 = 1) (hpos : s.fld ADCC.ROTSTAT 28 24 = n) :
    (s.shadowRestarted n).fld ADCC.ROTSTAT 12 0 = 0 := by
  rw [State.shadowRestarted, if_pos ⟨hshadow, hpos⟩, State.fld_setFld_self _ _ (by decide), Nat.zero_mod]

section
variable {s : State} {n k : Nat} (hn : n < 26) (hk : k < 16) (hnow : s.mustWait .adc (CV.base n) = false)
include hn hk hnow

theorem exec_entryWrite (init : Nat) (b : Bool) (data : Word) :
    exec (.entryWrite init n k b data) s = .next (entryApply init n k b data s) := by
  change Host.Outcome.next (s.writeAt .adc (CV.base (n % 26)) init _ data (entryApply init (n % 26) (k % 16) b data)) = _
  rw [Nat.mod_eq_of_lt hn, Nat.mod_eq_of_lt hk, State.writeAt_now hnow]

section
variable (init : Nat) (data : Word)

/-- What every accepted entry write does: the fields are taken, and a shadow of the position starts over. -/
theorem entryWrite_taken (hopen : s.locked (CV.base n) = false) (hver : s.ver (CV.base n) = 2) {b : Bool} {a : Nat}
    (ha : a = if b then CV.ENTRY_B n k else CV.ENTRY_A n k) (hbase : pageBase a = CV.base n) {fs : List Field}
    (hrow : ∃ r, rowAt a = some r ∧ r.fields = fs) (hinput : b = true ∨ inselOk n (bitsOf data 6 0) = true) :
    ∃ t, exec (.entryWrite init n k b data) s = .next t ∧ t.rd a = (s.fieldsWritten init a fs data).rd a ∧ Accepted init a t ∧
    (s.fld ADCC.ROTSTAT 31 30 = 1 → s.fld ADCC.ROTSTAT 28 24 = n → t.fld ADCC.ROTSTAT 12 0 = 0) ∧
    RegsBut (fun b => b = a ∨ b = ADCC.ROTSTAT) s t ∧ t = { s with regs := t.regs, bus := { s.bus with resp := t.bus.resp } } := by
  obtain ⟨r, hrow, rfl⟩ := hrow
  have hoff : a ≠ ADCC.ROTSTAT := by
    rintro rfl
    exact absurd hbase (by rw [show pageBase ADCC.ROTSTAT = ADCC.base by decide]; simp only [CV.base, ADCC.base]; omega)
  have haccept : ¬ (!b && !inselOk n (bitsOf data 6 0)) = true := by
    rcases hinput with rfl | hok
    · simp
    · simp [hok]
  have hwrite : entryApply init n k b data s = (s.fieldsWritten init a r.fields data).shadowRestarted n := by
    rw [entryApply]
    dsimp only
    rw [if_neg haccept, ← ha, State.plainWrite_open hrow (hbase ▸ hver) (hbase ▸ hopen), State.shadowRestarted]
    simp only [State.fieldsWritten_cause, true_and]
  have hframe := (s.fieldsWritten init a r.fields data).shadowRestarted_writesOnly n
  have hrotstat : (s.fieldsWritten init a r.fields data).rd ADCC.ROTSTAT = s.rd ADCC.ROTSTAT :=
    s.fieldsWritten_regs init a r.fields data _ (Ne.symm hoff)
  have hexec := exec_entryWrite hn hk hnow init b data
  rw [hwrite] at hexec
  refine ⟨_, hexec, hframe.regs _ hoff, ?_, fun hshadow hpos => ?_, ?_, ?_⟩
  · rw [Accepted, hframe.fields.eq_regs]
    rfl
  · exact State.shadowRestarted_count ((State.fld_congr hrotstat 31 30).trans hshadow) ((State.fld_congr hrotstat 28 24).trans hpos)
  · exact ((s.fieldsWritten_regs init a r.fields data).mono fun _ => .inl).trans (hframe.regs.mono fun _ => .inr)
  · rw [hframe.fields.eq_regs]
    rfl

theorem entryWrite_A (hopen : s.locked (CV.base n) = false) (hver : s.ver (CV.base n) = 2)
    (hinput : inselOk n (bitsOf data 6 0) = true) : ∃ t, exec (.entryWrite init n k false data) s = .next t ∧
    t.fld (CV.ENTRY_A n k) 31 16 = bitsOf data 31 16 ∧ t.fld (CV.ENTRY_A n k) 6 0 = bitsOf data 6 0 ∧
        Accepted init (CV.ENTRY_A n k) t ∧
    (s.fld ADCC.ROTSTAT 31 30 = 1 → s.fld ADCC.ROTSTAT 28 24 = n → t.fld ADCC.ROTSTAT 12 0 = 0) ∧
    RegsBut (fun a => a = CV.ENTRY_A n k ∨ a = ADCC.ROTSTAT) s t ∧
        t = { s with regs := t.regs, bus := { s.bus with resp := t.bus.resp } } := by
  obtain ⟨t, hexec, hrd, hrest⟩ := entryWrite_taken hn hk hnow init data hopen hver (b := false) rfl (pageBase_ENTRY_A hn hk)
    (rowAt_ENTRY_A hn hk) (.inr hinput)
  refine ⟨t, hexec, (State.fld_congr hrd ..).trans ?_, (State.fld_congr hrd ..).trans ?_, hrest⟩
  · exact s.fieldsWritten_fld init _ data allRwl_entryA (by decide)
  · exact s.fieldsWritten_fld init _ data allRwl_entryA (by decide)

theorem entryWrite_B (hopen : s.locked (CV.base n) = false) (hver : s.ver (CV.base n) = 2) :
    ∃ t, exec (.entryWrite init n k true data) s = .next t ∧
    t.bit (CV.ENTRY_B n k) 31 = tb data 31 ∧ t.fld (CV.ENTRY_B n k) 19 16 = bitsOf data 19 16 ∧
    t.fld (CV.ENTRY_B n k) 10 8 = bitsOf data 10 8 ∧ t.fld (CV.ENTRY_B n k) 3 0 = bitsOf data 3 0 ∧ Accepted init (CV.ENTRY_B n k) t ∧
    RegsBut (fun a => a = CV.ENTRY_B n k ∨ a = ADCC.ROTSTAT) s t ∧
        t = { s with regs := t.regs, bus := { s.bus with resp := t.bus.resp } } := by
  obtain ⟨t, hexec, hrd, haccepted, -, hregs, hparts⟩ := entryWrite_taken hn hk hnow init data hopen hver (b := true) rfl
    (pageBase_ENTRY_B hn hk) (rowAt_ENTRY_B hn hk) (.inl rfl)
  have hfld {hi lo : Nat} (hf : fRwl hi lo ∈ entryBFields) : t.fld (CV.ENTRY_B n k) hi lo = bitsOf data hi lo :=
    (State.fld_congr hrd hi lo).trans (s.fieldsWritten_fld init _ data allRwl_entryB hf)
  exact ⟨t, hexec, (State.bit_congr hrd 31).trans (s.fieldsWritten_bit init _ data allRwl_entryB (by decide)), hfld (by decide),
    hfld (by decide), hfld (by decide), haccepted, hregs, hparts⟩

/-- An input that the position cannot select is refused (R178). -/
theorem entryWrite_refused (hinput : inselOk n (bitsOf data 6 0) = false) : ∃ t, exec (.entryWrite init n k false data) s = .next t ∧
    Refused init (CV.ENTRY_A n k) .refused t ∧ t.rd (CV.ENTRY_A n k) = s.rd (CV.ENTRY_A n k) := by
  have hwrite : entryApply init n k false data s = s.errorResp init (CV.ENTRY_A n k) .refused true := if_pos (by simp [hinput])
  have hexec := exec_entryWrite hn hk hnow init false data
  rw [hwrite] at hexec
  exact ⟨_, hexec, s.refused_errorResp .., RegsBut.errorResp_refusal s init _ .refused true 0 _ (not_refusalReg_ENTRY_A hn hk)⟩

end
end

/-! ### A disable (R188) -/

/-- The pending run is dropped, the result loses its destination, the conversion in progress is to be discarded. -/
def State.runDropped (s : State) (n : Nat) : State :=
  (s.setBit (CV.base n + 0x0C) 0 false).updPos n (fun p => { p with pend := none, dest := none, discard := p.cur.isSome })

theorem converterDisable_drops {s : State} (init n : Nat) (hn : n < 26) (hlen : n < s.conv.pos.length)
    (hnow : s.mustWait .adc (CV.base n) = false) : ∃ t, exec (.converterDisable init n) s = .next t ∧
    t.en (CV.base n) = false ∧ (t.cpos n).pend = none ∧ (t.cpos n).dest = none ∧ (t.cpos n).discard = (s.cpos n).cur.isSome ∧
    (t.cpos n).cur = (s.cpos n).cur ∧ (∀ m, m ≠ n → t.cpos m = s.cpos m) ∧ Accepted init (CV.base n + 0x0C) t ∧
    RegsBut (fun a => a = CV.base n + 0x0C) s t ∧
        t = { s with regs := t.regs, conv := t.conv, bus := { s.bus with resp := t.bus.resp } } := by
  have hexec : exec (.converterDisable init n) s = .next ((s.runDropped n).respond init (CV.base n + 0x0C) 0) := by
    change Host.Outcome.next (s.writeAt .adc (CV.base (n % 26)) init (CV.base (n % 26) + 0x0C) 0 (convCtrlWrite init (n % 26) 0)) = _
    rw [Nat.mod_eq_of_lt hn, State.writeAt_now hnow, convCtrlWrite, if_neg (by decide)]
    rfl
  have hpos : ((s.runDropped n).respond init (CV.base n + 0x0C) 0).cpos n =
      { s.cpos n with pend := none, dest := none, discard := (s.cpos n).cur.isSome } :=
    State.cpos_updPos_self (s := s.setBit (CV.base n + 0x0C) 0 false) hlen _
  have hframe := ((State.ConvFrame.refl (· = CV.base n + 0x0C) (· = n) s).setBit rfl 0 false).updPos (n := n) rfl
    (fun p => { p with pend := none, dest := none, discard := p.cur.isSome })
  refine ⟨_, hexec, ?_, ?_, ?_, ?_, ?_, hframe.others, rfl, hframe.regs, ?_⟩
  · exact (State.bit_setBit_self s _ (by decide) false 0).trans (if_pos rfl)
  · rw [hpos]
  · rw [hpos]
  · rw [hpos]
  · rw [hpos]
  · exact congrArg (State.respond · init (CV.base n + 0x0C) 0) hframe.eq_parts

/-! ### ROTCFG (R192) -/

section
variable {s : State} (hnow : s.mustWait .adc ADCC.base = false) (init : Nat) (data : Word)
include hnow

theorem exec_converterRotcfgWrite : exec (.converterRotcfgWrite init data) s = .next (rotcfgApply init data s) :=
  congrArg Host.Outcome.next (State.writeAt_now hnow ..)

/-- A write to ROTCFG has been answered and has taken the data's fields. -/
def State.rotcfgWritten (s : State) (init : Nat) (data : Word) : State := s.fieldsWritten init ADCC.ROTCFG rotcfgFields data

/-- The shadow has ended and its unit is back in the pool. -/
def State.shadowReleased (s : State) : State :=
  { s.endShadow 0 with conv := { s.conv with released := s.conv.released ++ [s.fld ADCC.ROTSTAT 20 16] } }

theorem exec_converterRotcfgWrite_open (hopen : s.locked ADCC.base = false) (hver : s.ver ADCC.base = 2)
    (hspare : tb data 31 = true → s.en (CV.base 24) = false ∧ s.en (CV.base 25) = false) :
    exec (.converterRotcfgWrite init data) s = .next
      (if tb data 31 = false ∧ s.fld ADCC.ROTSTAT 31 30 ≠ 0 then (s.rotcfgWritten init data).shadowReleased
       else s.rotcfgWritten init data) := by
  obtain ⟨r, hrow, hfields⟩ := rowAt_ROTCFG
  have hfree : ¬ (tb data 31 && (s.en (CV.base 24) || s.en (CV.base 25))) = true := by
    cases hen : tb data 31 with
    | false => simp
    | true => simp [hspare hen]
  have hwrite : s.plainWrite init ADCC.ROTCFG data = s.rotcfgWritten init data := by
    rw [State.plainWrite_open hrow (pageBase_ROTCFG ▸ hver) (pageBase_ROTCFG ▸ hopen), hfields, State.rotcfgWritten]
  have hstate : (s.rotcfgWritten init data).fld ADCC.ROTSTAT 31 30 = s.fld ADCC.ROTSTAT 31 30 :=
    State.fld_congr (s.fieldsWritten_regs init ADCC.ROTCFG rotcfgFields data _ (by decide)) 31 30
  rw [exec_converterRotcfgWrite hnow, rotcfgApply, if_neg hfree]
  dsimp only
  rw [hwrite, hstate]
  simp only [State.rotcfgWritten, State.fieldsWritten_cause, true_and, Bool.not_eq_true']
  rfl

theorem rotcfgWrite_taken (hopen : s.locked ADCC.base = false) (hver : s.ver ADCC.base = 2)
    (hspare : tb data 31 = true → s.en (CV.base 24) = false ∧ s.en (CV.base 25) = false)
    (hidle : tb data 31 = true ∨ s.fld ADCC.ROTSTAT 31 30 = 0) : ∃ t, exec (.converterRotcfgWrite init data) s = .next t ∧
    t.bit ADCC.ROTCFG 31 = tb data 31 ∧ t.fld ADCC.ROTCFG 23 0 = bitsOf data 23 0 ∧ Accepted init ADCC.ROTCFG t ∧
    RegsBut (fun a => a = ADCC.ROTCFG) s t ∧ t = { s with regs := t.regs, bus := { s.bus with resp := t.bus.resp } } := by
  have hkeep : ¬ (tb data 31 = false ∧ s.fld ADCC.ROTSTAT 31 30 ≠ 0) := fun ⟨hoff, hbusy⟩ =>
    hidle.elim (fun hon => by rw [hon] at hoff; cases hoff) hbusy
  have hexec := exec_converterRotcfgWrite_open hnow init data hopen hver hspare
  rw [if_neg hkeep] at hexec
  exact ⟨_, hexec, s.fieldsWritten_bit init _ data allRwl_rotcfg (by decide), s.fieldsWritten_fld init _ data allRwl_rotcfg (by decide),
    s.fieldsWritten_accepted .., s.fieldsWritten_regs init ADCC.ROTCFG rotcfgFields data, s.fieldsWritten_eq ..⟩

/-- EN is refused while a spare position is enabled. -/
theorem rotcfgWrite_refused (hon : tb data 31 = true) (hspare : s.en (CV.base 24) = true ∨ s.en (CV.base 25) = true) :
    ∃ t, exec (.converterRotcfgWrite init data) s = .next t ∧ Refused init ADCC.ROTCFG .refused t ∧ t.conv = s.conv ∧
    t.rd ADCC.ROTCFG = s.rd ADCC.ROTCFG := by
  have hwrite : rotcfgApply init data s = s.errorResp init ADCC.ROTCFG .refused true := if_pos (by simpa [hon] using hspare)
  have hexec := exec_converterRotcfgWrite hnow init data
  rw [hwrite] at hexec
  refine ⟨_, hexec, s.refused_errorResp .., ?_, RegsBut.errorResp_refusal s init _ .refused true 0 _ not_refusalReg_ROTCFG⟩
  rw [s.errorResp_frame]

end

/-! ### The end of a shadow (R193) -/

/-- The registers that show a shadow of the position named in ROTSTAT. -/
def shadowReg (s : State) (a : Nat) : Prop := a = ADCC.ROTSTAT ∨ a = CV.STAT (s.fld ADCC.ROTSTAT 28 24)

theorem State.endShadow_writesOnly (s : State) (st : Nat) : s.WritesOnly (shadowReg s) (s.endShadow st) :=
  ((State.WritesOnly.refl (shadowReg s) s).setFld (.inl rfl) 31 30 st).setBit (.inr rfl) 9 false

theorem STAT_ne_common (m : Nat) {off : Nat} (hoff : off % 0x800 ≠ 0x10) : CV.STAT m ≠ ADCC.base + off := by
  simp only [CV.STAT, CV.base, ADCC.base]
  omega

theorem State.endShadow_state (s : State) : (s.endShadow 0).fld ADCC.ROTSTAT 31 30 = 0 := by
  have hne : ADCC.ROTSTAT ≠ CV.STAT (s.fld ADCC.ROTSTAT 28 24) := (STAT_ne_common _ (off := 0x4C) (by decide)).symm
  have hstat : (s.endShadow 0).rd ADCC.ROTSTAT = (s.setFld ADCC.ROTSTAT 31 30 0).rd ADCC.ROTSTAT :=
    (State.rd_setBit ..).trans (if_neg hne)
  rw [State.fld_congr hstat, State.fld_setFld_self _ _ (by decide), Nat.zero_mod]

theorem State.endShadow_flag (s : State) (st : Nat) : (s.endShadow st).bit (CV.STAT (s.fld ADCC.ROTSTAT 28 24)) 9 = false :=
  (State.bit_setBit_self _ _ (by decide) false 9).trans (if_pos rfl)

/-- A clear of EN ends a shadow; its unit goes back to the pool (R192). -/
theorem rotcfgWrite_ends {s : State} (init : Nat) (data : Word) (hnow : s.mustWait .adc ADCC.base = false)
    (hopen : s.locked ADCC.base = false) (hver : s.ver ADCC.base = 2) (hoff : tb data 31 = false) (hbusy : s.fld ADCC.ROTSTAT 31 30 ≠ 0) :
    ∃ t, exec (.converterRotcfgWrite init data) s = .next t ∧ t.bit ADCC.ROTCFG 31 = false ∧
    t.fld ADCC.ROTSTAT 31 30 = 0 ∧ t.bit (CV.STAT (s.fld ADCC.ROTSTAT 28 24)) 9 = false ∧
    t.conv.released = s.conv.released ++ [s.fld ADCC.ROTSTAT 20 16] ∧ Accepted init ADCC.ROTCFG t ∧
    RegsBut (fun a => a ∈ [ADCC.ROTCFG, ADCC.ROTSTAT, CV.STAT (s.fld ADCC.ROTSTAT 28 24)]) s t := by
  have hrotstat : (s.rotcfgWritten init data).rd ADCC.ROTSTAT = s.rd ADCC.ROTSTAT := s.fieldsWritten_regs init _ _ data _ (by decide)
  have hpos : (s.rotcfgWritten init data).fld ADCC.ROTSTAT 28 24 = s.fld ADCC.ROTSTAT 28 24 := State.fld_congr hrotstat 28 24
  have hunit : (s.rotcfgWritten init data).fld ADCC.ROTSTAT 20 16 = s.fld ADCC.ROTSTAT 20 16 := State.fld_congr hrotstat 20 16
  have hframe := (s.rotcfgWritten init data).endShadow_writesOnly 0
  have hflag := (s.rotcfgWritten init data).endShadow_flag 0
  have hother : ¬ shadowReg (s.rotcfgWritten init data) ADCC.ROTCFG := by
    rintro (h | h)
    · exact absurd h (by decide)
    · exact STAT_ne_common _ (off := 0x48) (by decide) h.symm
  rw [hpos] at hflag
  have hexec := exec_converterRotcfgWrite_open hnow init data hopen hver (fun hon => by rw [hon] at hoff; cases hoff)
  rw [if_pos ⟨hoff, hbusy⟩] at hexec
  refine ⟨_, hexec, ?cfg, State.endShadow_state _, hflag, ?released, rfl, ?regs⟩
  case cfg =>
    exact (State.bit_congr (hframe.regs _ hother) 31).trans ((s.fieldsWritten_bit init _ data allRwl_rotcfg (by decide)).trans hoff)
  case released => rw [← hunit]; rfl
  case regs =>
    refine ((s.fieldsWritten_regs init _ _ data).mono fun a ha => ?_).trans
      (RegsBut.mono (s := s.rotcfgWritten init data) hframe.regs fun a ha => ?_)
    · exact ha ▸ List.mem_cons_self ..
    · rw [shadowReg, hpos] at ha
      exact List.mem_cons_of_mem _ (by simpa using ha)

end Sys2Proof.Machine
end

section
/-!
The rotation of converter units (R193-R196), and O15.
-/
namespace Sys2Proof.Machine

/-- A saturating count. -/
theorem State.fld_count_self (s : State) (a : Nat) {hi : Nat} (hhi : hi < 32) (lo n : Nat) :
    (s.count a hi lo n).fld a hi lo = min (s.fld a hi lo + n) (2 ^ (hi + 1 - lo) - 1) := by
  have hpos := Nat.two_pow_pos (hi + 1 - lo)
  exact (s.fld_setFld_self a hhi lo _).trans (Nat.mod_eq_of_lt (by omega))

/-! ### The converters' own bookkeeping -/

/-- The state with `c` for what the converters hold beside their registers. -/
def State.withConvs (s : State) (c : Convs) : State := { s with conv := c }

section
variable (s : State) (c : Convs)

theorem State.rd_withConvs (a : Nat) : (s.withConvs c).rd a = s.rd a := rfl

theorem State.bit_withConvs (a i : Nat) : (s.withConvs c).bit a i = s.bit a i := congrArg (tb · i) (s.rd_withConvs c a)

theorem State.fld_withConvs (a hi lo : Nat) : (s.withConvs c).fld a hi lo = s.fld a hi lo :=
  congrArg (bitsOf · hi lo) (s.rd_withConvs c a)

variable {s}

theorem RegsBut.withConvs {P : Nat → Prop} {t : State} (h : RegsBut P s t) : RegsBut P s (t.withConvs c) :=
  fun a ha => (t.rd_withConvs c a).trans (h a ha)

theorem State.RegsOnly.withConvs_eq {t : State} (h : s.RegsOnly t) :
    t.withConvs c = { s with regs := (t.withConvs c).regs, conv := (t.withConvs c).conv } := by
  obtain ⟨_, rfl⟩ := h
  rfl

end

/-! ### A shadow starts (R193) -/

/-- ROTSTAT while unit `u` shadows position `p`, nothing compared yet. -/
def shadowWord (p u : Nat) : Word := Word.ofNat (2 ^ 30 + p * 2 ^ 24 + u * 2 ^ 16)

theorem shadowWord_fields {p u : Nat} (hp : p < 24) (hu : u < 32) : bitsOf (shadowWord p u) 31 30 = 1 ∧
    bitsOf (shadowWord p u) 28 24 = p ∧ bitsOf (shadowWord p u) 20 16 = u ∧ bitsOf (shadowWord p u) 12 0 = 0 := by
  simp only [shadowWord, bitsOf_ofNat]
  omega

/-- The rotation's registers show the start of a shadow. -/
def State.shadowShown (s : State) (p u : Nat) : State :=
  ((s.wr ADCC.ROTSTAT (shadowWord p u)).wr ADCC.ROTEXC 0).setBit (CV.STAT p) 9 true

/-- Unit `u` has begun to shadow position `p`: it is no longer in the pool, and nothing exceeds yet. -/
def State.shadowBegun (s : State) (p u : Nat) : State := (s.shadowShown p u).withConvs { (s.shadowShown p u).conv with
  exceed := 0, released := (s.shadowShown p u).conv.released.erase u, chosen := none,
  rots := (none :: (s.shadowShown p u).conv.rots).take 16 }

section
variable {s : State}

theorem State.shadowShown_writesOnly (s : State) (p u : Nat) :
    s.WritesOnly (fun a => a = ADCC.ROTSTAT ∨ a = ADCC.ROTEXC ∨ a = CV.STAT p) (s.shadowShown p u) :=
  (((State.WritesOnly.refl _ s).wr (.inl rfl) _).wr (.inr (.inl rfl)) _).setBit (.inr (.inr rfl)) 9 true

theorem State.shadowShown_rotstat (s : State) (p u : Nat) : (s.shadowShown p u).rd ADCC.ROTSTAT = shadowWord p u := by
  rw [State.shadowShown, State.rd_setBit, if_neg (STAT_ne_common p (off := 0x4C) (by decide)).symm, State.rd_wr_ne _ _ (by decide),
    State.rd_wr_self]

theorem State.shadowShown_rotexc (s : State) (p u : Nat) : (s.shadowShown p u).rd ADCC.ROTEXC = 0 := by
  rw [State.shadowShown, State.rd_setBit, if_neg (STAT_ne_common p (off := 0x54) (by decide)).symm, State.rd_wr_self]

theorem State.shadowShown_conv (s : State) (p u : Nat) : (s.shadowShown p u).conv = s.conv := by
  rw [State.shadowShown, State.setBit_conv, State.wr_conv, State.wr_conv]

theorem State.shadowShown_flag (s : State) (p u : Nat) : (s.shadowShown p u).bit (CV.STAT p) 9 = true :=
  (State.bit_setBit_self _ _ (by decide) true 9).trans (if_pos rfl)

theorem converterShadowStart_starts (sp p : Nat) (hrun : s.domRun .adc = true) (hsp : sp = 24 ∨ sp = 25) (hp : p < 24)
    (hen : s.bit ADCC.ROTCFG 31 = true) (hidle : s.fld ADCC.ROTSTAT 31 30 = 0) (hon : s.en (CV.base p) = true)
    (hpool : s.fld (CV.STAT sp) 24 20 ∈ s.conv.released) (hchosen : s.conv.chosen = some (sp, p)) :
    ∃ t, exec (.converterShadowStart sp p) s = .next t ∧
    t.fld ADCC.ROTSTAT 31 30 = 1 ∧ t.fld ADCC.ROTSTAT 28 24 = p ∧ t.fld ADCC.ROTSTAT 20 16 = s.fld (CV.STAT sp) 24 20 ∧
    t.fld ADCC.ROTSTAT 12 0 = 0 ∧ t.rd ADCC.ROTEXC = 0 ∧ t.bit (CV.STAT p) 9 = true ∧ t.conv.chosen = none ∧ t.conv.exceed = 0 ∧
    t.conv.pos = s.conv.pos ∧ RegsBut (fun a => a = ADCC.ROTSTAT ∨ a = ADCC.ROTEXC ∨ a = CV.STAT p) s t ∧
    t = { s with regs := t.regs, conv := t.conv } := by
  have hguard : s.bit ADCC.ROTCFG 31 ∧ s.fld ADCC.ROTSTAT 31 30 = 0 ∧ (sp = 24 ∨ sp = 25) ∧ p < 24 ∧ s.en (CV.base p) ∧
      s.conv.released.contains (s.fld (CV.STAT sp) 24 20) ∧ s.conv.chosen = some (sp, p) :=
    ⟨hen, hidle, hsp, hp, hon, List.contains_iff_mem.2 hpool, hchosen⟩
  have hexec : exec (.converterShadowStart sp p) s = .next (s.shadowBegun p (s.fld (CV.STAT sp) 24 20)) := by
    change Host.Outcome.next (s.clocked .adc _) = _
    rw [State.clocked_run hrun]
    exact congrArg Host.Outcome.next (if_pos hguard)
  obtain ⟨hstate, hpos, hunit, hcount⟩ := shadowWord_fields (u := s.fld (CV.STAT sp) 24 20) hp (s.fld_lt ..)
  have hword := s.shadowShown_rotstat p (s.fld (CV.STAT sp) 24 20)
  rw [← hword] at hstate hpos hunit hcount
  have hframe := s.shadowShown_writesOnly p (s.fld (CV.STAT sp) 24 20)
  have hkept : (s.shadowShown p (s.fld (CV.STAT sp) 24 20)).conv.pos = s.conv.pos := by rw [State.shadowShown_conv]
  rw [State.shadowBegun] at hexec
  exact ⟨_, hexec, (State.fld_withConvs ..).trans hstate, (State.fld_withConvs ..).trans hpos, (State.fld_withConvs ..).trans hunit,
    (State.fld_withConvs ..).trans hcount, (State.rd_withConvs ..).trans (s.shadowShown_rotexc p _),
    (State.bit_withConvs ..).trans (s.shadowShown_flag p _), rfl, rfl,
    hkept, hframe.regs.withConvs _, hframe.fields.withConvs_eq _⟩

/-! ### The hand-over (R195) -/

/-- The spare unit `u` serves position `p`, and the unit that is freed the spare position. -/
def State.unitsSwapped (s : State) (p u : Nat) : State :=
  (s.setFld (CV.STAT (s.sparePos u)) 24 20 (s.fld (CV.STAT p) 24 20)).setFld (CV.STAT p) 24 20 u

/-- The flags, the count and the state of a hand-over. -/
def State.handoverShown (s : State) (p : Nat) : State :=
  (((s.irq (CV.base p) 6).irq ADCC.base 0).count ADCC.ROTCNT 31 16 1).setFld ADCC.ROTSTAT 31 30 0

theorem State.handover_eq {p u : Nat} (hp : s.fld ADCC.ROTSTAT 28 24 = p) (hu : s.fld ADCC.ROTSTAT 20 16 = u) :
    s.handover = ((s.unitsSwapped p u).handoverShown p).withConvs
      { s.conv with freed := s.conv.freed ++ [s.fld (CV.STAT p) 24 20], order := s.conv.order.erase p ++ [p] } := by
  subst hp hu
  rfl

/-- The registers that show a hand-over at position `p`, beside the units. -/
def handoverRegs (p : Nat) : List Nat := [ADCC.ROTSTAT, ADCC.ROTCNT, ADCC.base + 0x14, CV.base p + 0x14]

theorem State.handoverShown_writesOnly (s : State) (p : Nat) : s.WritesOnly (· ∈ handoverRegs p) (s.handoverShown p) := by
  unfold State.handoverShown State.count
  exact ((((State.WritesOnly.refl (· ∈ handoverRegs p) s).irq (by simp [handoverRegs]) 6).irq (by simp [handoverRegs]) 0).setFld
    (by simp [handoverRegs]) ..).setFld (by simp [handoverRegs]) ..

theorem State.unitsSwapped_writesOnly (s : State) (p u : Nat) :
    s.WritesOnly (fun a => a = CV.STAT p ∨ a = CV.STAT (s.sparePos u)) (s.unitsSwapped p u) :=
  ((State.WritesOnly.refl _ s).setFld (.inr rfl) ..).setFld (.inl rfl) ..

theorem State.sparePos_cases (s : State) (u : Nat) : s.sparePos u = 24 ∨ s.sparePos u = 25 := by
  unfold State.sparePos
  split
  · exact .inl rfl
  · exact .inr rfl

theorem State.unitsSwapped_units {p u : Nat} (hp : p < 24) (hu : u < 32) : (s.unitsSwapped p u).fld (CV.STAT p) 24 20 = u ∧
    (s.unitsSwapped p u).fld (CV.STAT (s.sparePos u)) 24 20 = s.fld (CV.STAT p) 24 20 := by
  have hne : CV.STAT (s.sparePos u) ≠ CV.STAT p := by
    have hspare := s.sparePos_cases u
    simp only [CV.STAT, CV.base]
    omega
  constructor
  · rw [State.unitsSwapped, State.fld_setFld_self _ _ (by decide)]
    exact Nat.mod_eq_of_lt hu
  · have hother : (s.unitsSwapped p u).rd (CV.STAT (s.sparePos u)) = _ := (State.rd_setFld ..).trans (if_neg hne)
    rw [State.fld_congr hother, State.fld_setFld_self _ _ (by decide)]
    exact Nat.mod_eq_of_lt (s.fld_lt ..)

theorem State.handoverShown_state (s : State) (p : Nat) : (s.handoverShown p).fld ADCC.ROTSTAT 31 30 = 0 := by
  rw [State.handoverShown, State.fld_setFld_self _ _ (by decide), Nat.zero_mod]

theorem State.handoverShown_flags (s : State) {p : Nat} (hp : p < 24) : (s.handoverShown p).bit (CV.base p + 0x14) 6 = true ∧
    (s.handoverShown p).bit (ADCC.base + 0x14) 0 = true := by
  have hpage : CV.base p + 0x14 ≠ ADCC.base + 0x14 ∧ CV.base p + 0x14 ≠ ADCC.ROTCNT ∧ CV.base p + 0x14 ≠ ADCC.ROTSTAT := by
    simp only [CV.base, ADCC.base, ADCC.ROTCNT, ADCC.ROTSTAT]
    omega
  obtain ⟨hirq, hcnt, hstat⟩ := hpage
  have hflag : (s.irq (CV.base p) 6).bit (CV.base p + 0x14) 6 = true := (State.bit_setBit_self _ _ (by decide) true 6).trans (if_pos rfl)
  have hcommon : ((s.irq (CV.base p) 6).irq ADCC.base 0).bit (ADCC.base + 0x14) 0 = true :=
    (State.bit_setBit_self _ _ (by decide) true 0).trans (if_pos rfl)
  have hkept {a : Nat} (hcnt : a ≠ ADCC.ROTCNT) (hstat : a ≠ ADCC.ROTSTAT) :
      (s.handoverShown p).rd a = ((s.irq (CV.base p) 6).irq ADCC.base 0).rd a := by
    rw [State.handoverShown, State.rd_setFld, if_neg hstat, State.rd_count, if_neg hcnt]
  refine ⟨?_, (State.bit_congr (hkept (by decide) (by decide)) 0).trans hcommon⟩
  rw [State.bit_congr (hkept hcnt hstat), State.bit_congr ((State.rd_irq ..).trans (if_neg hirq)), hflag]

theorem State.handoverShown_count (s : State) {p : Nat} (hp : p < 24) :
    (s.handoverShown p).fld ADCC.ROTCNT 31 16 = min (s.fld ADCC.ROTCNT 31 16 + 1) 65535 := by
  have hpage : ADCC.ROTCNT ≠ CV.base p + 0x14 := by
    simp only [CV.base, ADCC.base, ADCC.ROTCNT]
    omega
  have hflags : ((s.irq (CV.base p) 6).irq ADCC.base 0).rd ADCC.ROTCNT = s.rd ADCC.ROTCNT := by
    rw [State.rd_irq, if_neg (by decide), State.rd_irq, if_neg hpage]
  have hlast : (s.handoverShown p).rd ADCC.ROTCNT = (((s.irq (CV.base p) 6).irq ADCC.base 0).count ADCC.ROTCNT 31 16 1).rd ADCC.ROTCNT :=
    (State.rd_setFld ..).trans (if_neg (by decide))
  rw [State.fld_congr hlast, State.fld_count_self _ _ (by decide), State.fld_congr hflags]
  rfl

theorem converterHandover_hands (p u : Nat) (hrun : s.domRun .adc = true) (hp : p < 24) (hpassed : s.fld ADCC.ROTSTAT 31 30 = 2)
    (hpos : s.fld ADCC.ROTSTAT 28 24 = p) (hunit : s.fld ADCC.ROTSTAT 20 16 = u) (hidle : (s.cpos p).cur = none) :
    ∃ t, exec .converterHandover s = .next t ∧ t.fld (CV.STAT p) 24 20 = u ∧
    t.fld (CV.STAT (s.sparePos u)) 24 20 = s.fld (CV.STAT p) 24 20 ∧ t.fld ADCC.ROTSTAT 31 30 = 0 ∧
    t.bit (CV.base p + 0x14) 6 = true ∧ t.bit (ADCC.base + 0x14) 0 = true ∧
    t.fld ADCC.ROTCNT 31 16 = min (s.fld ADCC.ROTCNT 31 16 + 1) 65535 ∧ t.conv.freed = s.conv.freed ++ [s.fld (CV.STAT p) 24 20] ∧
    t.conv.pos = s.conv.pos ∧
    RegsBut (fun a => a ∈ [ADCC.ROTSTAT, ADCC.ROTCNT, ADCC.base + 0x14, CV.base p + 0x14, CV.STAT p, CV.STAT (s.sparePos u)]) s t ∧
    t = { s with regs := t.regs, conv := t.conv } := by
  have hexec : exec .converterHandover s = .next s.handover := by
    change Host.Outcome.next (s.clocked .adc _) = _
    rw [State.clocked_run hrun]
    exact congrArg Host.Outcome.next (if_pos ⟨hpassed, by rw [hpos]; exact hidle⟩)
  rw [State.handover_eq hpos hunit] at hexec
  have hswap := s.unitsSwapped_writesOnly p u
  have hshow := (s.unitsSwapped p u).handoverShown_writesOnly p
  have hunits (a : Nat) (ha : a = CV.STAT p ∨ a = CV.STAT (s.sparePos u)) : a ∈ [CV.STAT p, CV.STAT (s.sparePos u)] := by
    simpa using ha
  have hframe := (hswap.mono fun a ha => List.mem_append_right (handoverRegs p) (hunits a ha)).trans
    (hshow.mono fun a ha => List.mem_append_left [CV.STAT p, CV.STAT (s.sparePos u)] ha)
  obtain ⟨hserves, hfreed⟩ := s.unitsSwapped_units hp (hunit ▸ s.fld_lt ADCC.ROTSTAT 20 16)
  obtain ⟨hflag, hcommon⟩ := (s.unitsSwapped p u).handoverShown_flags hp
  have hstat (m : Nat) (hm : m < 26) : CV.STAT m ∉ handoverRegs p := by
    simp only [handoverRegs, List.mem_cons, List.not_mem_nil, or_false, CV.STAT, CV.base, ADCC.ROTSTAT, ADCC.ROTCNT, ADCC.base]
    omega
  have hspare : s.sparePos u < 26 := by
    have hcases := s.sparePos_cases u
    omega
  have hcount : (s.unitsSwapped p u).fld ADCC.ROTCNT 31 16 = s.fld ADCC.ROTCNT 31 16 := by
    refine State.fld_congr (hswap.regs _ ?_) 31 16
    rintro (h | h)
    · exact STAT_ne_common _ (off := 0x50) (by decide) h.symm
    · exact STAT_ne_common _ (off := 0x50) (by decide) h.symm
  refine ⟨_, hexec, (State.fld_withConvs ..).trans ?serves, (State.fld_withConvs ..).trans ?freed,
    (State.fld_withConvs ..).trans ((s.unitsSwapped p u).handoverShown_state p), (State.bit_withConvs ..).trans hflag,
    (State.bit_withConvs ..).trans hcommon, (State.fld_withConvs ..).trans ?count, rfl, rfl, hframe.regs.withConvs _,
    hframe.fields.withConvs_eq _⟩
  case serves => exact (State.fld_congr (hshow.regs _ (hstat p (by omega))) 24 20).trans hserves
  case freed => exact (State.fld_congr (hshow.regs _ (hstat _ hspare)) 24 20).trans hfreed
  case count =>
    rw [← hcount]
    exact (s.unitsSwapped p u).handoverShown_count hp

/-! ### An abandoned shadow (R196) -/

/-- The abandoned shadow is counted and flagged. -/
def State.abandonShown (s : State) : State := ((s.endShadow 0).count ADCC.ROTCNT 7 0 1).irq ADCC.base 2

theorem State.abandonShown_flag (s : State) : s.abandonShown.bit (ADCC.base + 0x14) 2 = true :=
  (State.bit_setBit_self _ _ (by decide) true 2).trans (if_pos rfl)

/-- The registers that show an abandoned shadow. -/
def abandonRegs (s : State) : List Nat := [ADCC.ROTSTAT, ADCC.ROTCNT, ADCC.base + 0x14, CV.STAT (s.fld ADCC.ROTSTAT 28 24)]

theorem State.abandonShown_writesOnly (s : State) : s.WritesOnly (· ∈ abandonRegs s) s.abandonShown := by
  have hend : s.WritesOnly (· ∈ abandonRegs s) (s.endShadow 0) := s.endShadow_writesOnly 0 |>.mono fun a ha => by
    rcases ha with rfl | rfl <;> simp [abandonRegs]
  unfold State.abandonShown State.count
  exact (hend.setFld (by simp [abandonRegs]) ..).irq (by simp [abandonRegs]) 2

/-- The shadow has ended without a hand-over; its unit is back in the pool. -/
def State.shadowAbandoned (s : State) : State := s.abandonShown.withConvs { s.abandonShown.conv with
  released := s.abandonShown.conv.released ++ [s.fld ADCC.ROTSTAT 20 16],
  rots := some (s.fld ADCC.ROTSTAT 28 24) :: s.abandonShown.conv.rots.drop 1 }

theorem converterShadowAbandon_ends (hrun : s.domRun .adc = true) (hshadow : s.fld ADCC.ROTSTAT 31 30 = 1) :
    ∃ t, exec .converterShadowAbandon s = .next t ∧ t.fld ADCC.ROTSTAT 31 30 = 0 ∧
    t.bit (CV.STAT (s.fld ADCC.ROTSTAT 28 24)) 9 = false ∧ t.fld ADCC.ROTCNT 7 0 = min (s.fld ADCC.ROTCNT 7 0 + 1) 255 ∧
    t.bit (ADCC.base + 0x14) 2 = true ∧ t.conv.released = s.conv.released ++ [s.fld ADCC.ROTSTAT 20 16] ∧ t.conv.pos = s.conv.pos ∧
    RegsBut (fun a => a ∈ [ADCC.ROTSTAT, ADCC.ROTCNT, ADCC.base + 0x14, CV.STAT (s.fld ADCC.ROTSTAT 28 24)]) s t ∧
    t = { s with regs := t.regs, conv := t.conv } := by
  have hexec : exec .converterShadowAbandon s = .next s.shadowAbandoned := by
    change Host.Outcome.next (s.clocked .adc _) = _
    rw [State.clocked_run hrun]
    exact congrArg Host.Outcome.next (if_pos hshadow)
  have hend := s.endShadow_writesOnly 0
  have hnote (a : Nat) (hcnt : a ≠ ADCC.ROTCNT) (hirq : a ≠ ADCC.base + 0x14) :
      s.abandonShown.rd a = (s.endShadow 0).rd a := by
    rw [State.abandonShown, State.rd_irq, if_neg hirq, State.rd_count, if_neg hcnt]
  have hcount : (s.endShadow 0).fld ADCC.ROTCNT 7 0 = s.fld ADCC.ROTCNT 7 0 := by
    refine State.fld_congr (hend.regs _ ?_) 7 0
    rintro (h | h)
    · exact absurd h (by decide)
    · exact STAT_ne_common _ (off := 0x50) (by decide) h.symm
  have hcounted : s.abandonShown.rd ADCC.ROTCNT =
      ((s.endShadow 0).count ADCC.ROTCNT 7 0 1).rd ADCC.ROTCNT := (State.rd_irq ..).trans (if_neg (by decide))
  have hframe := s.abandonShown_writesOnly
  rw [State.shadowAbandoned] at hexec
  refine ⟨_, hexec, (State.fld_withConvs ..).trans ?state, (State.bit_withConvs ..).trans ?shadow, (State.fld_withConvs ..).trans ?count,
    (State.bit_withConvs ..).trans s.abandonShown_flag, rfl, rfl, hframe.regs.withConvs _, hframe.fields.withConvs_eq _⟩
  case state => exact (State.fld_congr (hnote _ (by decide) (by decide)) 31 30).trans s.endShadow_state
  case shadow =>
    have hflag := hnote (CV.STAT (s.fld ADCC.ROTSTAT 28 24)) (STAT_ne_common _ (off := 0x50) (by decide))
      (STAT_ne_common _ (off := 0x14) (by decide))
    exact (State.bit_congr hflag 9).trans (s.endShadow_flag 0)
  case count =>
    rw [← hcount]
    exact (State.fld_congr hcounted 7 0).trans (State.fld_count_self _ _ (by decide) 0 1)

end

/-- Settles O15, clause by clause: the configuration writes, then the events of a rotation. -/
theorem convertersAreConfiguredAndRotated : Obligations.ConvertersAreConfiguredAndRotated := by
  unfold Obligations.ConvertersAreConfiguredAndRotated
  intro s
  refine ⟨?_, ?_, ?_, converterDisable_drops, fun init data hnow => rotcfgWrite_taken hnow init data,
    fun init data hnow => rotcfgWrite_refused hnow init data, converterShadowStart_starts, converterHandover_hands,
    converterShadowAbandon_ends, rotcfgWrite_ends⟩
  · exact fun init n k data hn hk hnow => entryWrite_A hn hk hnow init data
  · exact fun init n k data hn hk hnow => entryWrite_B hn hk hnow init data
  · exact fun init n k data hn hk hnow => entryWrite_refused hn hk hnow init data

end Sys2Proof.Machine
end

section
/-!
The shape of the state, kept by every operation of the model: lists of like things keep their lengths, the live writes that wait
at a generator name live registers, and Meloskern's values and staged changes stay in its window. The lemmas stand in the order
of the definitions they speak of, one for each, and each proof follows its definition's body.
-/
namespace Sys2Proof.Machine

-- Each lemma cites the ones before it: elaborated one after another, none waits in a thread of its own.
set_option Elab.async false

/-! ### The parts of the shape -/

/-- Every live write that waits at the generator names one of its four live registers (R215). -/
def PwmGen.Shaped (g : PwmGen) : Prop := ∀ q ∈ g.after, q.1 < 4

theorem PwmGen.Shaped.setFired {g : PwmGen} (h : g.Shaped) (k : Nat) : (g.setFired k).Shaped := by
  unfold PwmGen.setFired
  split
  · exact h
  · split <;> exact h

theorem PwmGen.Shaped.setNext {g : PwmGen} (h : g.Shaped) (k : Nat) (v : Option Word) : (g.setNext k v).Shaped := by
  unfold PwmGen.setNext
  split
  · exact h
  · split <;> exact h

theorem PwmGen.shaped_of_after_nil {g : PwmGen} (h : g.after = []) : g.Shaped := by simp [PwmGen.Shaped, h]

/-- The register files of a run have their lengths (R281). -/
def Run.Shaped (r : Run) : Prop := r.v.length = 32 ∧ r.acc.length = 4 ∧ r.p.length = 4 ∧ r.slots.length = 16

/-- A service position has its eight places (R256), and its run is in shape. -/
def TelPos.Shaped (p : TelPos) : Prop := p.inst.length = 8 ∧ ∀ r, p.run = some r → r.Shaped

theorem length_foldl_upd {α β : Type} (l : List β) (i : β → Nat) (f : β → α → α) (v : List α) :
    (l.foldl (fun v p => upd v (i p) (f p)) v).length = v.length := by
  induction l generalizing v with
  | nil => rfl
  | cons p l ih => exact (ih _).trans (List.length_modify ..)

theorem Run.Shaped.commit {r : Run} (h : r.Shaped) : r.commit.Shaped := by
  obtain ⟨hv, hacc, hp, hslots⟩ := h
  refine ⟨?_, ?_, ?_, hslots⟩
  · exact (length_foldl_upd r.vW Prod.fst (fun p _ => p.2) r.v).trans hv
  · exact (length_foldl_upd r.accW Prod.fst (fun p _ => satN r.accBits p.2) r.acc).trans hacc
  · exact (length_foldl_upd r.pW Prod.fst (fun p _ => p.2) r.p).trans hp

protected theorem Run.Shaped.ite {q r : Run} (hq : q.Shaped) (hr : r.Shaped) {c : Prop} [Decidable c] :
    (if c then q else r).Shaped := by
  split
  · exact hq
  · exact hr

theorem Run.Shaped.putV {r : Run} (h : r.Shaped) (i : Nat) (w : Word) : (r.putV i w).Shaped := h

theorem Run.Shaped.putSat {r : Run} (h : r.Shaped) (n d : Nat) (v : Int) : (r.putSat n d v).Shaped := h

theorem Run.Shaped.unstall {r : Run} (h : r.Shaped) (busy fixedEnds : Bool) : (r.unstall busy fixedEnds).Shaped := by
  unfold Run.unstall
  extract_lets r1
  have hr1 : r1.Shaped := by
    unfold r1
    split
    · exact h
    · exact h
  exact hr1

/-- A service position without a run. -/
theorem TelPos.Shaped.stopped {p : TelPos} (h : p.Shaped) : TelPos.Shaped { p with run := none } := by
  refine ⟨h.1, fun r hr => ?_⟩
  cases hr

/-- The lists of Meloskern have their lengths, and its values and staged changes lie in its window. -/
def Melo.Shaped (m : Melo) : Prop :=
  (m.legal.length = 32 ∧ m.res.length = 32 ∧ m.acc.length = 5 ∧ m.owed.length = 5 ∧ m.pulse.length = 5 ∧ m.hist.length = 4 ∧
    m.dc.length = 4 ∧ m.seg.length = 8 ∧ m.sess.length = 4 ∧ m.copies.length = 2 ∧
    ∀ c ∈ m.copies, c.legal.length = 32 ∧ c.res.length = 32 ∧ c.acc.length = 5) ∧
  (m.cyc.length = 3 ∧ m.blk.length = 3 ∧ m.chans.length = 15 ∧ m.ivlBase.length = 32 ∧ m.cmdLegal.length = 32) ∧
  (∀ q ∈ m.vals, 0x40C01000 ≤ q.1 ∧ q.1 < 0x40C03000) ∧ m.stage.length ≤ 64 ∧ ∀ q ∈ m.stage, 0x1000 ≤ q.1 ∧ q.1 < 0x3000

@[simp] theorem length_upd {α : Type} (l : List α) (i : Nat) (f : α → α) : (upd l i f).length = l.length := List.length_modify ..

theorem forall_mem_upd {α : Type} {P : α → Prop} {l : List α} {f : α → α} (h : ∀ x ∈ l, P x) (hf : ∀ x, P x → P (f x)) (i : Nat) :
    ∀ x ∈ upd l i f, P x := by
  intro x hx
  obtain ⟨j, hj, rfl⟩ := List.getElem_of_mem hx
  have hj' : j < l.length := by simpa using hj
  simp only [upd, List.getElem_modify]
  split
  · exact hf _ (h _ (List.getElem_mem hj'))
  · exact h _ (List.getElem_mem hj')

/-- A state and the run that an operation leaves, both in shape. -/
structure RunStep.Shaped (q : State × Run) : Prop where
  state : q.1.Shaped
  run : q.2.Shaped

protected theorem RunStep.Shaped.ite {p q : State × Run} (hp : RunStep.Shaped p) (hq : RunStep.Shaped q) {c : Prop} [Decidable c] :
    RunStep.Shaped (if c then p else q) := by
  split
  · exact hp
  · exact hq

/-- Where the outcome is a next state, it is in shape. -/
def Out.Shaped : Out → Prop
  | .next t => t.Shaped
  | _ => True

theorem Out.Shaped.next {t : State} (h : t.Shaped) : Out.Shaped (.next t) := h

protected theorem Out.Shaped.ite {o o' : Out} (h : o.Shaped) (h' : o'.Shaped) {c : Prop} [Decidable c] :
    Out.Shaped (if c then o else o') := by
  split
  · exact h
  · exact h'

namespace State.Shaped

variable {s : State}

/-- A change that leaves every list its length; the generators, the service positions and Meloskern stand as they are. -/
theorem frame (h : s.Shaped) {pending regs mem freeCtr rst fuses balls clk clerk0 clerk1 bus claimed fab conv now gate extSync aux
    cmp tel deps setl mp grid nw ledger sup health ox ptp eth can canDma xspi ddrGo uart spi pilot recorder jtag}
    (hclk : clk.trims.length = s.clk.trims.length ∧ clk.trimUsed.length = s.clk.trimUsed.length := by exact ⟨rfl, rfl⟩)
    (hconv : conv.pos.length = s.conv.pos.length := by rfl) (hgate : gate.length = s.gate.length := by rfl)
    (hcmp : cmp.length = s.cmp.length := by rfl)
    (htel : tel.pos = s.tel.pos ∧ tel.runs.length = s.tel.runs.length := by exact ⟨rfl, rfl⟩)
    (hsetl : setl.prev.length = s.setl.prev.length := by rfl) (hmp : mp.ch.length = s.mp.ch.length := by rfl)
    (hgrid : grid.timers.length = s.grid.timers.length := by rfl) (hnw : nw.loops.length = s.nw.loops.length := by rfl)
    (hsup : sup.k.length = s.sup.k.length ∧ sup.locks.length = s.sup.locks.length ∧ sup.conns.length = s.sup.conns.length := by
      exact ⟨rfl, rfl, rfl⟩)
    (hhealth : health.chkTime.length = s.health.chkTime.length := by rfl)
    (hox : ox.length = s.ox.length := by rfl) (heth : eth.length = s.eth.length := by rfl) (hcan : can.length = s.can.length := by rfl)
    (huart : uart.length = s.uart.length := by rfl) (hspi : spi.length = s.spi.length := by rfl)
    (hpilot : pilot.length = s.pilot.length := by rfl)
    (hjtag : jtag.tselect.length = s.jtag.tselect.length ∧ jtag.tdata1.length = s.jtag.tdata1.length ∧
      jtag.tdata2.length = s.jtag.tdata2.length := by exact ⟨rfl, rfl, rfl⟩) :
    State.Shaped { s with
      pending := pending, regs := regs, mem := mem, freeCtr := freeCtr, rst := rst, fuses := fuses, balls := balls, clk := clk,
      clerk0 := clerk0, clerk1 := clerk1, bus := bus, claimed := claimed, fab := fab, conv := conv, now := now, gate := gate,
      extSync := extSync, aux := aux, cmp := cmp, tel := tel, deps := deps, setl := setl, mp := mp, grid := grid, nw := nw,
      ledger := ledger, sup := sup, health := health, ox := ox, ptp := ptp, eth := eth, can := can, canDma := canDma,
      xspi := xspi, ddrGo := ddrGo, uart := uart, spi := spi, pilot := pilot, recorder := recorder, jtag := jtag } := by
  simpa [State.Shaped, hclk, hconv, hgate, hcmp, htel, hsetl, hmp, hgrid, hnw, hsup, hhealth, hox, heth, hcan, huart, hspi, hpilot,
    hjtag] using h

theorem trims (h : s.Shaped) : s.clk.trims.length = 6 := h.1.2.2.2.2.1

theorem gate (h : s.Shaped) : s.gate.length = 48 := h.1.2.2.1

theorem cmp (h : s.Shaped) : s.cmp.length = 56 := h.1.2.2.2.1

theorem sup (h : s.Shaped) : s.sup.k.length = 12 ∧ s.sup.locks.length = 4 ∧ s.sup.conns.length = 4 := h.2.2.1

theorem setlPrev (h : s.Shaped) : s.setl.prev.length = 16 := h.2.1.2.2.2.1

theorem mpCh (h : s.Shaped) : s.mp.ch.length = 4 := h.2.1.2.2.2.2

theorem telRuns (h : s.Shaped) : s.tel.runs.length = 8 := h.2.1.2.2.1

theorem gridTimers (h : s.Shaped) : s.grid.timers.length = 16 := h.2.2.2.2.2.2.1.2.2.2.2.2.1

theorem jtag (h : s.Shaped) : s.jtag.tselect.length = 2 ∧ s.jtag.tdata1.length = 8 ∧ s.jtag.tdata2.length = 8 :=
  h.2.2.2.2.2.2.1.2.2.2.2.2.2.2

theorem loops (h : s.Shaped) : s.nw.loops.length = 2 := h.2.2.2.2.2.1.2.2.2.2.2.2.2.2.2.2.2

theorem chkTime (h : s.Shaped) : s.health.chkTime.length = 2 := h.2.2.2.2.2.2.1.2.2.2.2.2.2.1

theorem pwm (h : s.Shaped) : ∀ g ∈ s.pwm, g.Shaped := h.2.2.2.2.1

theorem telPos (h : s.Shaped) : ∀ p ∈ s.tel.pos, p.Shaped := h.2.1.2.1

theorem melo (h : s.Shaped) : s.melo.Shaped := by
  obtain ⟨-, -, -, -, -, ⟨h1, h2, h3, h4, h5, h6, h7, h8, h9, h10, h11, -⟩, ⟨h12, h13, h14, h15, h16, -⟩, h17, h18, h19⟩ := h
  exact ⟨⟨h1, h2, h3, h4, h5, h6, h7, h8, h9, h10, h11⟩, ⟨h12, h13, h14, h15, h16⟩, h17, h18, h19⟩

/-- New generators, each in shape. -/
theorem withPwm (h : s.Shaped) {l : List PwmGen} (hl : l.length = s.pwm.length) (hg : ∀ g ∈ l, g.Shaped) :
    State.Shaped { s with pwm := l } := by
  obtain ⟨⟨h1, h2, h3⟩, htel, hsup, hox, -, hrest⟩ := h
  exact ⟨⟨h1, hl.trans h2, h3⟩, htel, hsup, hox, hg, hrest⟩

/-- New service positions, each in shape. -/
theorem withTelPos (h : s.Shaped) {l : List TelPos} (hl : l.length = s.tel.pos.length) (hp : ∀ p ∈ l, p.Shaped) :
    State.Shaped { s with tel := { s.tel with pos := l } } := by
  obtain ⟨hconv, ⟨h1, -, h3⟩, hrest⟩ := h
  exact ⟨hconv, ⟨hl.trans h1, hp, h3⟩, hrest⟩

/-- New contents of Meloskern, in shape. -/
theorem withMelo (h : s.Shaped) {m : Melo} (hm : m.Shaped) : State.Shaped { s with melo := m } := by
  obtain ⟨⟨h1, h2, h3, h4, h5, h6, h7, h8, h9, h10, h11⟩, ⟨h12, h13, h14, h15, h16⟩, h17, h18, h19⟩ := hm
  obtain ⟨hconv, htel, hsup, hox, hpwm, ⟨-, -, -, -, -, -, -, -, -, -, -, hnw⟩, ⟨-, -, -, -, -, hgrid⟩, -⟩ := h
  exact ⟨hconv, htel, hsup, hox, hpwm, ⟨h1, h2, h3, h4, h5, h6, h7, h8, h9, h10, h11, hnw⟩,
    ⟨h12, h13, h14, h15, h16, hgrid⟩, h17, h18, h19⟩

/-- A run in progress is in shape. -/
theorem run (h : s.Shaped) {n : Nat} {r : Run} (hr : s.runAt n = some r) : r.Shaped := by
  unfold State.runAt State.tpos nth at hr
  rw [List.getD_eq_getElem?_getD] at hr
  cases hp : s.tel.pos[n]? with
  | none => rw [hp] at hr; cases hr
  | some p => rw [hp] at hr; exact (h.telPos p (List.mem_of_getElem? hp)).2 r hr

protected theorem ite {t : State} (hs : s.Shaped) (ht : t.Shaped) {c : Prop} [Decidable c] : (if c then s else t).Shaped := by
  split
  · exact hs
  · exact ht

/-- Repeated updates, where each keeps the shape. -/
theorem foldl {α : Type} {f : State → α → State} (h : s.Shaped) (hf : ∀ t x, t.Shaped → (f t x).Shaped) (l : List α) :
    (l.foldl f s).Shaped := by
  induction l generalizing s with
  | nil => exact h
  | cons x l ih => exact ih (hf s x h)

/-- The same where a second result is carried along. -/
theorem foldlFst {α β : Type} {p : State × β} {f : State × β → α → State × β} (h : p.1.Shaped)
    (hf : ∀ q x, q.1.Shaped → (f q x).1.Shaped) (l : List α) : (l.foldl f p).1.Shaped := by
  induction l generalizing p with
  | nil => exact h
  | cons x l ih => exact ih (hf p x h)

protected theorem iteFst {α : Type} {p q : State × α} (hp : p.1.Shaped) (hq : q.1.Shaped) {c : Prop} [Decidable c] :
    (if c then p else q).1.Shaped := by
  split
  · exact hp
  · exact hq

protected theorem iteAnswer {a b : Answer} (ha : a.s.Shaped) (hb : b.s.Shaped) {c : Prop} [Decidable c] :
    (if c then a else b).s.Shaped := by
  split
  · exact ha
  · exact hb

theorem wr (h : s.Shaped) (a : Nat) (v : Word) : (s.wr a v).Shaped := h

theorem dropRegs (h : s.Shaped) (lo hi : Nat) : (s.dropRegs lo hi).Shaped := h

theorem setByte (h : s.Shaped) (a : Nat) (v : Byte) : (s.setByte a v).Shaped := h

theorem setBytes (h : s.Shaped) (a : Nat) (l : List Byte) : (s.setBytes a l).Shaped := by
  induction l generalizing s a with
  | nil => exact h
  | cons b t ih => exact ih (h.setByte ..) _

/-! ### Ops -/

theorem setFld (h : s.Shaped) (a hi lo v : Nat) : (s.setFld a hi lo v).Shaped := h.wr ..

theorem setBit (h : s.Shaped) (a i : Nat) (b : Bool) : (s.setBit a i b).Shaped := h.setFld ..

theorem orBits (h : s.Shaped) (a m : Nat) : (s.orBits a m).Shaped := h.wr ..

theorem count (h : s.Shaped) (a hi lo n : Nat) : (s.count a hi lo n).Shaped := h.setFld ..

theorem irq (h : s.Shaped) (base i : Nat) : (s.irq base i).Shaped := h.setBit ..

theorem setSpares (h : s.Shaped) (hi lo n : Nat) : (s.setSpares hi lo n).Shaped := .ite ((h.setFld ..).irq ..) (h.setFld ..)

theorem atTime (h : s.Shaped) (t : Nat) : (s.atTime t).Shaped := h.frame

theorem bumpFree (h : s.Shaped) : s.bumpFree.Shaped := h.frame

theorem clocked (h : s.Shaped) {f : State → State} (hf : ∀ t, t.Shaped → (f t).Shaped) (d : Dom) : (s.clocked d f).Shaped :=
  .ite (hf _ h) h

theorem ptpSync (h : s.Shaped) : s.ptpSync.Shaped := h.frame

theorem memStore (h : s.Shaped) (init a : Nat) (bs : List Byte) : (s.memStore init a bs).Shaped :=
  (h.setBytes a bs).frame (hhealth := h.chkTime.trans (h.setBytes a bs).chkTime.symm)

theorem respond (h : s.Shaped) (init a : Nat) (data : Word) : (s.respond init a data).Shaped := h.frame

theorem captureError (h : s.Shaped) (init a : Nat) (c : Cause) (isWrite : Bool) : (s.captureError init a c isWrite).Shaped :=
  .ite (.ite (.ite ((h.wr ..).wr ..) h) (h.setBit ..)) ((((h.wr ..).wr ..).irq ..).frame)

theorem fabCount (h : s.Shaped) (a hi lo : Nat) : (s.fabCount a hi lo).Shaped := .ite h (h.count ..)

theorem initiatorReact (h : s.Shaped) (init a sub : Nat) (isWrite : Bool) : (s.initiatorReact init a sub isWrite).Shaped :=
  .ite ((h.setBit ..).irq ..) (.ite (h.irq ..) (.ite ((h.setBit ..).irq ..) (.ite ((h.setBit ..).irq ..)
      (.ite ((h.setBit ..).irq ..) (.ite h.frame (.ite h.frame (.ite (h.irq ..) (.ite (h.irq ..) h))))))))

theorem errorResp (h : s.Shaped) (init a : Nat) (c : Cause) (isWrite : Bool) (sub : Nat) :
    (s.errorResp init a c isWrite sub).Shaped :=
  .frame (.ite (((h.captureError ..).irq ..).fabCount ..) ((((h.captureError ..).irq ..).fabCount ..).initiatorReact ..))

theorem plainWrite (h : s.Shaped) (init a : Nat) (data : Word) : (s.plainWrite init a data).Shaped := by
  unfold State.plainWrite
  split
  · exact h.respond ..
  · exact .ite (h.respond ..) (.ite (h.errorResp ..) ((h.wr ..).respond ..))

theorem access (h : s.Shaped) {k : State → State} (hk : ∀ t, t.Shaped → (k t).Shaped) (dom : Dom) (base : Nat)
    (acc : Access) : (s.access dom base acc k).Shaped := .ite h.frame (hk _ h)

theorem writeAt (h : s.Shaped) {k : State → State} (hk : ∀ t, t.Shaped → (k t).Shaped) (dom : Dom) (base init a : Nat)
    (data : Word) (tick sub : Nat) :
    (s.writeAt dom base init a data k tick sub).Shaped :=
  h.access hk ..

theorem readAt (h : s.Shaped) {k : State → State} (hk : ∀ t, t.Shaped → (k t).Shaped) (dom : Dom) (base init a : Nat) :
    (s.readAt dom base init a k).Shaped :=
  h.access hk ..

theorem takeBalls (h : s.Shaped) (b : Nat) : (s.takeBalls b).Shaped := .ite h h.frame

theorem takesBalls (h : s.Shaped) (b : Nat) (data : Word) : (s.takesBalls b data).Shaped := .ite (h.takeBalls ..) h

theorem updClerk (h : s.Shaped) (i : Nat) (f : Clerk → Clerk) : (s.updClerk i f).Shaped := .ite h.frame h.frame

/-! ### Clocks -/

theorem restartAcq (h : s.Shaped) (pll : Nat) : (restartAcq s pll).Shaped :=
  .ite ((((h.ptpSync.setBit ..).setBit ..).setBit ..).frame) ((((h.ptpSync.setBit ..).setBit ..).setBit ..).setBit ..)

theorem refcfgWrite (h : s.Shaped) (init pll : Nat) (data : Word) : (refcfgWrite s init pll data).Shaped :=
  .ite (h.errorResp ..) (.ite (.ite (((h.setFld ..).restartAcq ..).respond ..) (h.errorResp ..))
      ((((h.setFld ..).wr ..).restartAcq ..).respond ..))

theorem fcwWrite (h : s.Shaped) (init pll : Nat) (data : Word) : (fcwWrite s init pll data).Shaped :=
  .ite (h.respond ..) (.ite (h.errorResp ..) (.ite (((h.setFld ..).restartAcq ..).respond ..) (h.errorResp ..)))

theorem adpllSoftRst (h : s.Shaped) (init pll : Nat) : (adpllSoftRst s init pll).Shaped :=
  .ite (h.errorResp ..) (.respond (.frame (.restartAcq (.ite ((((h.dropRegs ..).wr ..).wr ..).setBit ..)
      (.frame ((((h.dropRegs ..).wr ..).wr ..).setBit ..) (hclk := by exact ⟨h.trims.symm, rfl⟩))) ..)) ..)

theorem adpllCtrlWrite (h : s.Shaped) (init pll : Nat) (data : Word) : (adpllCtrlWrite s init pll data).Shaped :=
  .ite (h.adpllSoftRst ..) (.ite (h.respond ..) (h.errorResp ..))

theorem lockDeclare (h : s.Shaped) (pll : Nat) (phErr : Int) (trims : List Nat) (worst maxErr : Nat) :
    (lockDeclare s pll phErr trims worst maxErr).Shaped := by
  unfold Machine.lockDeclare
  extract_lets _ _ s1 _ s2 _ s3
  have hs1 : s1.Shaped := h.ptpSync.wr ..
  have hs2 : s2.Shaped := .ite hs1.frame (.ite (hs1.wr ..) hs1)
  have hs3 : s3.Shaped := .ite (hs2.frame (hclk := by exact ⟨by simp [hs2.trims], rfl⟩)) hs2
  exact .ite h (.ite hs3.frame hs3)

theorem leaveLock (h : s.Shaped) (pll : Nat) : (leaveLock s pll).Shaped :=
  .ite (.ite (((((h.setBit ..).setBit ..).setBit ..).irq ..).frame) ((((h.setBit ..).setBit ..).setBit ..).irq ..)) h

theorem outCfgWrite (h : s.Shaped) (init pll k : Nat) (data : Word) : (outCfgWrite s init pll k data).Shaped :=
  .ite (.ite (h.respond ..) (.ite (h.errorResp ..) ((h.setBit ..).respond ..)))
      (.ite (h.respond ..) (.ite (h.errorResp ..) (.ite (h.errorResp ..)
      (.ite (h.errorResp ..) ((h.ptpSync.wr ..).respond ..)))))

/-! ### Header -/

theorem onPage (h : s.Shaped) {k : PageRow → Nat → State → State} (hk : ∀ x y t, t.Shaped → (k x y t).Shaped)
    (init a : Nat) (data : Word) :
    (s.onPage init a data k).Shaped := by
  unfold State.onPage
  split
  · exact h.errorResp ..
  · exact h.writeAt (fun _ ht => hk _ _ _ ht) ..

theorem lockWrite (h : s.Shaped) (init b : Nat) (data : Word) : (lockWrite init b data s).Shaped :=
  .ite ((h.setBit ..).respond ..) (.ite ((h.setBit ..).respond ..) (h.errorResp ..))

theorem verselWrite (h : s.Shaped) (init : Nat) (data : Word) : (verselWrite init data s).Shaped :=
  .ite ((h.setBit ..).respond ..) (h.respond ..)

theorem testenWrite (h : s.Shaped) (init : Nat) (data : Word) : (testenWrite init data s).Shaped :=
  .ite (.ite (((h.setBit ..).irq ..).respond ..) (h.errorResp ..)) ((h.setBit ..).respond ..)

theorem dbgopenWrite (h : s.Shaped) (init : Nat) (data : Word) : (dbgopenWrite init data s).Shaped :=
  .ite (h.errorResp ..) (.ite (.respond (.ite (h.setBit ..) h) ..) ((h.setBit ..).respond ..))

theorem claimRead (h : s.Shaped) (init c : Nat) : (claimRead init c s).Shaped := .respond (.ite h h.frame) ..

theorem completeWrite (h : s.Shaped) (init c : Nat) (data : Word) : (completeWrite init c data s).Shaped :=
  .respond (.ite h.frame h) ..

/-! ### Fabric -/

theorem fabRefresh (h : s.Shaped) : s.fabRefresh.Shaped := by
  unfold State.fabRefresh
  extract_lets _ _ _ _ s0 _ s1 _ s2
  have hs0 : s0.Shaped := h.setBit ..
  have hs1 : s1.Shaped := ((((((((hs0.wr ..).setFld ..).setFld ..).wr ..).setFld ..).setFld ..).wr ..).setFld ..).setFld ..
  have hs2 : s2.Shaped := (hs1.setFld ..).setFld ..
  exact .ite hs0 (.ite ((hs2.setFld ..).setFld ..) hs2)

theorem launch (h : s.Shaped) (p : Slip) (coin : Nat) : (s.launch p coin).Shaped :=
  .fabRefresh (.ite (.irq (.ite (h.frame.fabCount ..) h.frame) ..) (.ite (h.frame.fabCount ..) h.frame))

theorem issue (h : s.Shaped) (p : Slip) : (s.issue p).Shaped := by
  unfold State.issue
  refine .ite h.frame ?_
  split
  · exact h.launch ..
  · exact h.frame

theorem unstall (h : s.Shaped) (cycle : Nat) (l : List Slip) : (s.unstall cycle l).Shaped := by
  induction l generalizing s with
  | nil => exact h
  | cons p t ih =>
    unfold State.unstall
    split
    · exact .ite (ih (h.frame.launch ..)) (ih h)
    · exact ih h

theorem updSlip (h : s.Shaped) (c : Nat) (f : Slip → Slip) : (s.updSlip c f).Shaped := h.frame

theorem noteGrant (h : s.Shaped) (port cycle : Nat) (p : Slip) : (s.noteGrant port cycle p).Shaped :=
  .frame (.ite h (h.wr ..))

theorem noteCollision (h : s.Shaped) (target : Nat) (p : Slip) : (s.noteCollision target p).Shaped :=
  .ite h (.ite ((((h.frame.setBit ..).irq ..).fabCount ..).wr ..) h.frame)

theorem returnCoin (h : s.Shaped) (cycle : Nat) (p : Slip) : (s.returnCoin cycle p).Shaped :=
  (h.frame.unstall ..).fabRefresh

theorem noteLatency (h : s.Shaped) (p : Slip) (cycle : Nat) : (s.noteLatency p cycle).Shaped :=
  .ite ((h.setFld ..).setFld ..) h

theorem watchselWrite (h : s.Shaped) (init : Nat) (data : Word) : (watchselWrite init data s).Shaped :=
  .ite (h.respond ..) (((((h.plainWrite ..).wr ..).wr ..).setFld ..).fabRefresh)

/-! ### Can -/

theorem updCan (h : s.Shaped) (m : Nat) (f : CanCtl → CanCtl) : (s.updCan m f).Shaped :=
  h.frame (hcan := length_upd ..)

theorem canCounters (h : s.Shaped) (m st tec rec_ : Nat) : (s.canCounters m st tec rec_).Shaped :=
  .ite ((h.wr ..).irq ..) (h.wr ..)

theorem canFile (h : s.Shaped) (m : Nat) (f : CanFrame) (time : Nat) : (s.canFile m f time).Shaped := by
  unfold State.canFile
  split
  · exact h
  · exact .ite h (.ite (h.errorResp ..) (.memStore (.irq (.setBit (.ite ((h.setBit ..).irq ..) h) ..) ..) ..))

theorem canServe (h : s.Shaped) (k : Nat) : (s.canServe k).Shaped := by
  induction k generalizing s with
  | zero => exact h
  | succ k ih =>
    unfold State.canServe
    refine .ite h ?_
    split
    · exact h
    · split
      · exact h
      · exact ih ((h.frame.updCan ..).canFile ..)

theorem canDrain (h : s.Shaped) : s.canDrain.Shaped := h.canServe ..

theorem canStore (h : s.Shaped) (m : Nat) (f : CanFrame) (time : Nat) : (s.canStore m f time).Shaped :=
  (h.updCan ..).canDrain

theorem canModeWrite (h : s.Shaped) (init m : Nat) (data : Word) : (canModeWrite init m data s).Shaped :=
  .ite ((h.plainWrite ..).updCan ..) (h.plainWrite ..)

theorem canTimingWrite (h : s.Shaped) (init m a : Nat) (data : Word) : (canTimingWrite init m a data s).Shaped :=
  .ite (h.plainWrite ..) (h.respond ..)

/-! ### HostPorts -/

theorem icmdWrite (h : s.Shaped) (init : Nat) (data : Word) : (icmdWrite init data s).Shaped :=
  .ite (h.plainWrite ..) (.ite (.bumpFree (.ite (h.errorResp ..) (h.respond ..)))
      ((((h.plainWrite ..).setBit ..).setFld ..).frame))

theorem idataPut (h : s.Shaped) (i : Nat) (l : List Byte) : (s.idataPut i l).Shaped := by
  induction l generalizing s i with
  | nil => exact h
  | cons b t ih => exact ih (h.setFld ..) (i + 1)

theorem ddrInitWrite (h : s.Shaped) (init : Nat) (data : Word) : (ddrInitWrite init data s).Shaped :=
  .respond (.ite ((h.wr ..).frame) h) ..

theorem ddrCfgWrite (h : s.Shaped) (init a : Nat) (data : Word) : (ddrCfgWrite init a data s).Shaped :=
  .ite (h.errorResp ..) (h.plainWrite ..)

theorem ddrPllWrite (h : s.Shaped) (init : Nat) (data : Word) : (ddrPllWrite init data s).Shaped :=
  .ite (h.errorResp ..) (h.plainWrite ..)

theorem updUart (h : s.Shaped) (m : Nat) (f : SerialPort → SerialPort) : (s.updUart m f).Shaped :=
  h.frame (huart := length_upd ..)

theorem uartRefresh (h : s.Shaped) (m : Nat) : (s.uartRefresh m).Shaped :=
  .ite (.irq (.ite (((h.wr ..).wr ..).irq ..) ((h.wr ..).wr ..)) ..) (.ite (((h.wr ..).wr ..).irq ..) ((h.wr ..).wr ..))

theorem uartTxWrite (h : s.Shaped) (init m : Nat) (data : Word) : (uartTxWrite init m data s).Shaped :=
  .ite (h.errorResp ..) (((h.updUart ..).uartRefresh ..).respond ..)

theorem uartRxRead (h : s.Shaped) (init m : Nat) : (uartRxRead init m s).Shaped :=
  ((h.updUart ..).uartRefresh ..).respond ..

theorem uartPlain (h : s.Shaped) (init m a : Nat) (data : Word) : (uartPlain init m a data s).Shaped :=
  (h.plainWrite ..).uartRefresh ..

theorem updSpi (h : s.Shaped) (m : Nat) (f : SerialPort → SerialPort) : (s.updSpi m f).Shaped :=
  h.frame (hspi := length_upd ..)

theorem spiRefresh (h : s.Shaped) (m : Nat) : (s.spiRefresh m).Shaped := ((h.wr ..).wr ..).updSpi ..

theorem spiCsWrite (h : s.Shaped) (init m : Nat) (data : Word) : (spiCsWrite init m data s).Shaped :=
  (h.plainWrite ..).spiRefresh ..

theorem spiTxWrite (h : s.Shaped) (init m : Nat) (data : Word) : (spiTxWrite init m data s).Shaped :=
  .ite (.bumpFree (.ite (h.errorResp ..) (h.respond ..))) (((h.updSpi ..).spiRefresh ..).respond ..)

theorem spiRxRead (h : s.Shaped) (init m : Nat) : (spiRxRead init m s).Shaped := ((h.updSpi ..).spiRefresh ..).respond ..

theorem gpioSet (h : s.Shaped) (init : Nat) (data : Word) : (gpioSet init data s).Shaped := (h.wr ..).respond ..

theorem gpioClr (h : s.Shaped) (init : Nat) (data : Word) : (gpioClr init data s).Shaped := (h.wr ..).respond ..

theorem gpioDir (h : s.Shaped) (init : Nat) (data : Word) : (gpioDir init data s).Shaped := ((h.wr ..).respond ..).frame

/-! ### Comparators -/

theorem updCmp (h : s.Shaped) (n : Nat) (f : Cmp → Cmp) : (s.updCmp n f).Shaped :=
  h.frame (hcmp := length_upd ..)

theorem noteLevel (h : s.Shaped) (n : Nat) (v : Bool) : (s.noteLevel n v).Shaped :=
  .ite h (.ite (((h.setBit ..).setBit ..).irq ..) (h.setBit ..))

theorem lineFell (h : s.Shaped) (n : Nat) : (s.lineFell n).Shaped :=
  h.frame (hgate := List.length_mapIdx)

theorem driveLine (h : s.Shaped) (n : Nat) (v seen : Bool) : (s.driveLine n v seen).Shaped :=
  .ite (.noteLevel (.ite (h.frame.updCmp ..) ((h.frame.updCmp ..).lineFell ..)) ..)
      (.ite (h.frame.updCmp ..) ((h.frame.updCmp ..).lineFell ..))

theorem cmpEval (h : s.Shaped) (n : Nat) (seen : Bool) : (s.cmpEval n seen).Shaped :=
  .ite h (.ite (h.driveLine ..) ((h.updCmp ..).driveLine ..))

theorem firstDecision (h : s.Shaped) (n : Nat) : (s.firstDecision n).Shaped := (h.updCmp ..).cmpEval ..

theorem cmpConfigure (h : s.Shaped) (n : Nat) : (s.cmpConfigure n).Shaped :=
  .ite ((h.updCmp ..).firstDecision ..) ((h.updCmp ..).cmpEval ..)

theorem cmpCfgWrite (h : s.Shaped) (init n : Nat) (data : Word) : (cmpCfgWrite init n data s).Shaped :=
  .ite (h.errorResp ..) (.ite (h.errorResp ..) (.ite (h.plainWrite ..)
      (.ite ((h.plainWrite ..).updCmp ..) (((h.plainWrite ..).updCmp ..).cmpConfigure ..))))

theorem bankCfgWrite (h : s.Shaped) (init b : Nat) (data : Word) : (bankCfgWrite init b data s).Shaped :=
  .ite (h.errorResp ..) (h.plainWrite ..)

theorem cmpPageSwitch (h : s.Shaped) (n0 cnt : Nat) (was : Bool) : (cmpPageSwitch s n0 cnt was).Shaped :=
  h.foldl (fun _ _ ht => .ite ht (.ite (ht.firstDecision ..) (.ite (ht.cmpEval ..) (ht.driveLine ..)))) ..

theorem cmpCtrlWrite (h : s.Shaped) (init : Nat) (pc : Bool) (data : Word) : (cmpCtrlWrite init pc data s).Shaped :=
  .respond (.ite (h.setBit ..) ((h.setBit ..).cmpPageSwitch ..)) ..

theorem checkStart (h : s.Shaped) (n : Nat) (force : Bool) : (s.checkStart n force).Shaped :=
  .updCmp (.ite ((((h.setBit ..).setBit ..).setFld ..).driveLine ..) (((h.setBit ..).setBit ..).setFld ..)) ..

theorem checkWrite (h : s.Shaped) (init : Nat) (pc : Bool) (data : Word) : (checkWrite init pc data s).Shaped :=
  .ite (h.errorResp ..) (.ite (h.respond ..) ((h.checkStart ..).respond ..))

theorem checkEnd (h : s.Shaped) (n seen : Nat) (vin : Int) : (s.checkEnd n seen vin).Shaped :=
  .firstDecision (.updCmp (.ite ((((((h.setBit ..).setBit ..).setBit ..).setFld ..).irq ..).irq ..)
      (((((h.setBit ..).setBit ..).setBit ..).setFld ..).irq ..)) ..) ..

theorem claimPc (h : s.Shaped) (n : Nat) (w : Word) : (s.claimPc n w).Shaped :=
  .ite (((h.setBit ..).wr ..).updCmp ..) ((((h.setBit ..).wr ..).updCmp ..).cmpConfigure ..)

theorem unclaimPc (h : s.Shaped) (n : Nat) : (s.unclaimPc n).Shaped := .ite ((h.setBit ..).updCmp ..) h

theorem cmpVersion (h : s.Shaped) : s.cmpVersion.Shaped := h.foldl (fun _ _ ht => .ite (ht.cmpEval ..) ht) ..

theorem ifverWrite (h : s.Shaped) (init : Nat) (p : PageRow) (b : Nat) (data : Word) :
    (ifverWrite init p b data s).Shaped :=
  .ite (h.errorResp ..) (.ite (.respond (.ite ((h.setFld ..).cmpVersion) (h.setFld ..)) ..) (h.errorResp ..))

/-! ### AuxDrivers -/

theorem updAux (h : s.Shaped) (f : AuxDrv → AuxDrv) : (s.updAux f).Shaped := h.frame

theorem auxCtrlWrite (h : s.Shaped) (init : Nat) (data : Word) : (auxCtrlWrite init data s).Shaped :=
  .respond (.ite (.ite (h.setBit ..) ((h.setBit ..).updAux ..)) ((h.setBit ..).updAux ..)) ..

theorem hallRefresh (h : s.Shaped) : (hallRefresh s).Shaped := .setBit (.ite (h.irq ..) h) ..

theorem axclrWrite (h : s.Shaped) (init : Nat) (data : Word) : (axclrWrite init data s).Shaped :=
  .ite (h.respond ..) (.ite (h.errorResp ..) ((h.setBit ..).respond ..))

theorem axcfgWrite (h : s.Shaped) (init : Nat) (data : Word) : (axcfgWrite init data s).Shaped :=
  .ite (h.errorResp ..) ((h.plainWrite ..).hallRefresh)

theorem auxVdrv (h : s.Shaped) (low : Bool) : (s.auxVdrv low).Shaped :=
  .ite (.ite h ((h.setBit ..).irq ..)) ((h.setBit ..).updAux ..)

/-! ### Ethernet -/

theorem updMac (h : s.Shaped) (m : Nat) (f : EthMac → EthMac) : (s.updMac m f).Shaped :=
  h.frame (heth := length_upd ..)

theorem ptpLatch (h : s.Shaped) : s.ptpLatch.Shaped := ((h.wr ..).wr ..).wr ..

theorem ptpRateWrite (h : s.Shaped) (init a : Nat) (data : Word) : (ptpRateWrite init a data s).Shaped :=
  (h.ptpSync.wr ..).respond ..

theorem ptpCtlWrite (h : s.Shaped) (init a : Nat) (data : Word) : (ptpCtlWrite init a data s).Shaped :=
  .respond (.ite h.ptpSync.frame h) ..

theorem ppscfgWrite (h : s.Shaped) (init a : Nat) (data : Word) : (ppscfgWrite init a data s).Shaped :=
  .respond (.ite (h.wr ..) ((h.wr ..).frame)) ..

theorem tsRefresh (h : s.Shaped) (m : Nat) : (s.tsRefresh m).Shaped := by
  unfold State.tsRefresh
  extract_lets _ s1
  have hs1 : s1.Shaped := h.wr ..
  split
  · exact ((hs1.wr ..).wr ..).wr ..
  · exact ((hs1.wr ..).wr ..).wr ..

theorem tsPush (h : s.Shaped) (m : Nat) (e : TsEntry) : (s.tsPush m e).Shaped :=
  .ite (h.count ..) (((h.updMac ..).tsRefresh ..).irq ..)

theorem tsNsRead (h : s.Shaped) (init m : Nat) : (tsNsRead init m s).Shaped := ((h.updMac ..).tsRefresh ..).respond ..

theorem ethWord (h : s.Shaped) (m a : Nat) (v : Word) : (s.ethWord m a v).Shaped := h.memStore ..

theorem rxPiece (h : s.Shaped) (m : Nat) (f : RxFrame) (i n : Nat) (bs : List Byte) : (s.rxPiece m f i n bs).Shaped := by
  unfold State.rxPiece
  refine .setFld (.ite (.ethWord (.ite (h.memStore ..) (h.errorResp ..)) ..) ?_) ..
  split
  · exact .ethWord (.ethWord (.ethWord (.ite (h.memStore ..) (h.errorResp ..)) ..) ..) ..
  · exact .ethWord (.ethWord (.ite (h.memStore ..) (h.errorResp ..)) ..) ..
  · exact .ethWord (.ite (h.memStore ..) (h.errorResp ..)) ..

theorem rxStore (h : s.Shaped) (m : Nat) : (s.rxStore m).Shaped := by
  unfold State.rxStore
  refine .ite h ?_
  split
  · exact h
  · exact .ite ((((h.foldl (fun _ _ ht => ht.rxPiece ..) ..).updMac ..).count ..).irq ..) h

theorem rxDrain (h : s.Shaped) (m : Nat) : (s.rxDrain m).Shaped := h.foldl (fun _ _ ht => ht.rxStore ..) ..

theorem rxEnqueue (h : s.Shaped) (m : Nat) (f : RxFrame) : (s.rxEnqueue m f).Shaped :=
  .ite ((h.count ..).irq ..) ((h.updMac ..).rxDrain ..)

theorem rxPause (h : s.Shaped) (m : Nat) (frame : List Byte) : (s.rxPause m frame).Shaped := (h.count ..).updMac ..

theorem rxAccept (h : s.Shaped) (m : Nat) (frame : List Byte) (ptp : Option PtpPlace) (err : Int) :
    (s.rxAccept m frame ptp err).Shaped := by
  unfold State.rxAccept
  refine .ite (h.rxPause ..) (.ite h ?_)
  dsimp only
  split
  · exact h.irq ..
  · refine .rxEnqueue ?_ ..
    split
    · exact h.tsPush ..
    · exact h

theorem rxtailWrite (h : s.Shaped) (init m : Nat) (data : Word) : (rxtailWrite init m data s).Shaped :=
  (h.plainWrite ..).rxDrain ..

theorem txSend (h : s.Shaped) (m n : Nat) (ptp : Option PtpPlace) (err : Int) : (s.txSend m n ptp err).Shaped := by
  unfold State.txSend
  extract_lets _ _ _ _ _ _ _ s1 _ s2 s3 s4
  have hs1 : s1.Shaped := h.frame.foldl (fun _ _ ht => ht.ethWord ..) ..
  have hs2 : s2.Shaped := .ite ((hs1.ethWord ..).ethWord ..) hs1
  have hs3 : s3.Shaped := by
    unfold s3
    split
    · exact .ite hs2 (hs2.tsPush ..)
    · exact hs2
  have hs4 : s4.Shaped := hs3.setFld ..
  exact ((hs4.updMac ..).count ..).irq ..

theorem cntclrWrite (h : s.Shaped) (init m : Nat) (data : Word) : (cntclrWrite init m data s).Shaped :=
  .respond (.ite (h.foldl (fun _ _ ht => ht.wr ..) ..) h) ..

theorem pauseWrite (h : s.Shaped) (init m : Nat) (data : Word) : (pauseWrite init m data s).Shaped :=
  .respond (.ite (((h.setFld ..).count ..).updMac ..) (h.setFld ..)) ..

theorem anctlWrite (h : s.Shaped) (init m : Nat) (data : Word) : (anctlWrite init m data s).Shaped :=
  .ite ((h.plainWrite ..).setBit ..) (h.plainWrite ..)

theorem sakeyWrite (h : s.Shaped) (init m k : Nat) (data : Word) : (sakeyWrite init m k data s).Shaped :=
  .ite (h.respond ..) ((h.updMac ..).respond ..)

theorem clearKeys (h : s.Shaped) : s.clearKeys.Shaped :=
  h.frame (heth := List.length_map ..)

/-! ### Converters -/

theorem updPos (h : s.Shaped) (n : Nat) (f : ConvPos → ConvPos) : (s.updPos n f).Shaped :=
  h.frame (hconv := length_upd ..)

theorem acquire (h : s.Shaped) (n k : Nat) : (s.acquire n k).Shaped := h.updPos ..

theorem markMerged (h : s.Shaped) (n : Nat) : (s.markMerged n).Shaped := (h.setBit ..).irq ..

theorem startRun (h : s.Shaped) (n groups : Nat) (merged late : Bool) : (s.startRun n groups merged late).Shaped := by
  unfold State.startRun
  split
  · exact h.setBit ..
  · exact .acquire (.updPos (.ite (.irq (.setBit (.ite (((h.wr ..).setBit ..).markMerged ..) ((h.wr ..).setBit ..)) ..) ..)
        (.ite (((h.wr ..).setBit ..).markMerged ..) ((h.wr ..).setBit ..))) ..) ..

theorem handover (h : s.Shaped) : s.handover.Shaped :=
  ((((((h.setFld ..).setFld ..).irq ..).irq ..).count ..).setFld ..).frame

theorem boundary (h : s.Shaped) (n : Nat) : (s.boundary n).Shaped := .ite h.handover h

theorem joinRun (h : s.Shaped) (n fired cycle : Nat) : (s.joinRun n fired cycle).Shaped := by
  unfold State.joinRun
  extract_lets _
  split
  · exact h
  · exact (((h.markMerged ..).updPos ..).acquire ..).updPos ..

theorem trigger (h : s.Shaped) (n fired merged cycle : Nat) : (s.trigger n fired merged cycle).Shaped := by
  unfold State.trigger
  refine .ite h ?_
  extract_lets _
  split
  · exact ((h.boundary ..).startRun ..).updPos ..
  · exact .ite (h.joinRun ..) (h.updPos ..)
  · exact h.updPos ..

theorem fireGroups (h : s.Shaped) (fired merged cycle : Nat) : (s.fireGroups fired merged cycle).Shaped :=
  .ite h ((h.orBits ..).foldl (fun _ _ ht => ht.trigger ..) ..)

theorem sendEvent (h : s.Shaped) (code : Nat) : (s.sendEvent code).Shaped := h.frame

theorem swtrigApply (h : s.Shaped) (init : Nat) (data : Word) (cycle : Nat) : (swtrigApply init data cycle s).Shaped :=
  .respond (.ite (h.fireGroups ..) h) ..

theorem tgCfgWrite (h : s.Shaped) (init k : Nat) (data : Word) : (tgCfgWrite init k data s).Shaped :=
  .ite (h.respond ..) (.ite (h.errorResp ..) (.ite ((h.plainWrite ..).frame) (h.plainWrite ..)))

theorem endShadow (h : s.Shaped) (state : Nat) : (s.endShadow state).Shaped := (h.setFld ..).setBit ..

theorem shadowCompare (h : s.Shaped) (n : Nat) (k kSpare : Int) : (s.shadowCompare n k kSpare).Shaped :=
  .ite (.ite (((h.setFld ..).wr ..).frame) (.ite (((((h.setFld ..).wr ..).frame).endShadow ..).frame)
      (((((((h.setFld ..).wr ..).frame).endShadow ..).count ..).irq ..).frame))) h

theorem putResult (h : s.Shaped) (n e : Nat) (k : Int) (clip : Bool) : (s.putResult n e k clip).Shaped := by
  unfold State.putResult
  extract_lets _ _ s1 s2 s3
  have hs1 : s1.Shaped := (h.wr ..).updPos ..
  have hs2 : s2.Shaped := .ite (((hs1.setBit ..).irq ..).count ..) hs1
  have hs3 : s3.Shaped := .ite ((hs2.setBit ..).irq ..) hs2
  exact .ite (hs3.updPos ..) ((hs3.updPos ..).irq ..)

theorem runOver (h : s.Shaped) (n : Nat) : (s.runOver n).Shaped := .ite h.frame h

theorem startPending (h : s.Shaped) (n : Nat) (pend : Option (Nat × Bool)) : (s.startPending n pend).Shaped := by
  unfold State.startPending
  split
  · exact .startRun (.ite (h.runOver ..) (h.boundary ..)) ..
  · exact (h.runOver ..).setBit ..

theorem advanceRun (h : s.Shaped) (n e : Nat) : (s.advanceRun n e).Shaped := by
  unfold State.advanceRun
  split
  · exact h.acquire ..
  · exact (h.updPos ..).startPending ..

theorem conversionEnd (h : s.Shaped) (n : Nat) (vin vinSpare : Int) : (conversionEnd s n vin vinSpare).Shaped := by
  unfold Machine.conversionEnd
  split
  · exact h
  · exact .ite ((h.updPos ..).startPending ..) (((h.putResult ..).shadowCompare ..).advanceRun ..)

theorem resultReadApply (h : s.Shaped) (init n : Nat) : (resultReadApply init n s).Shaped := (h.setBit ..).respond ..

theorem entryApply (h : s.Shaped) (init n k : Nat) (b : Bool) (data : Word) : (entryApply init n k b data s).Shaped :=
  .ite (h.errorResp ..) (.ite ((h.plainWrite ..).setFld ..) (h.plainWrite ..))

theorem convCtrlWrite (h : s.Shaped) (init n : Nat) (data : Word) : (convCtrlWrite init n data s).Shaped :=
  .ite (.ite (h.errorResp ..) ((h.setBit ..).respond ..)) (((h.setBit ..).updPos ..).respond ..)

theorem rotcfgApply (h : s.Shaped) (init : Nat) (data : Word) : (rotcfgApply init data s).Shaped :=
  .ite (h.errorResp ..) (.ite (((h.plainWrite ..).endShadow ..).frame) (h.plainWrite ..))

/-! ### Gate -/

theorem updHb (h : s.Shaped) (n : Nat) (f : GateHb → GateHb) : (s.updHb n f).Shaped :=
  h.frame (hgate := length_upd ..)

theorem hbEval (h : s.Shaped) (n : Nat) (a b : Bool) : (s.hbEval n a b).Shaped := h.updHb ..

theorem hbRefresh (h : s.Shaped) (n : Nat) : (s.hbRefresh n).Shaped := h.hbEval ..

theorem groupRefresh (h : s.Shaped) (g : Nat) : (s.groupRefresh g).Shaped :=
  (((h.hbRefresh ..).hbRefresh ..).hbRefresh ..).hbRefresh ..

theorem setHbState (h : s.Shaped) (n st : Nat) : (s.setHbState n st).Shaped := h.setFld ..

theorem lockOut (h : s.Shaped) (n : Nat) : (s.lockOut n).Shaped := ((h.setHbState ..).irq ..).updHb ..

theorem escalateOne (h : s.Shaped) (n : Nat) : (s.escalateOne n).Shaped :=
  .ite (((h.lockOut ..).setFld ..).updHb ..) (.ite (h.updHb ..) h)

theorem escalate (h : s.Shaped) (g : Nat) : (s.escalate g).Shaped :=
  ((((((h.escalateOne ..).escalateOne ..).escalateOne ..).escalateOne ..).setBit ..).irq ..).groupRefresh ..

theorem takeFault (h : s.Shaped) (n cause aff : Nat) : (s.takeFault n cause aff).Shaped := by
  unfold State.takeFault
  extract_lets _ _ _ _ s1 s2 s3 _ s4
  have hs1 : s1.Shaped := (((h.count ..).setFld ..).setFld ..).setFld ..
  have hs2 : s2.Shaped := hs1.irq ..
  have hs3 : s3.Shaped := .ite (hs2.setHbState ..) (hs2.lockOut ..)
  have hs4 : s4.Shaped := hs3.updHb ..
  exact .ite h (.hbRefresh (.ite (hs4.escalate ..) hs4) ..)

theorem enterRun (h : s.Shaped) (n : Nat) : (s.enterRun n).Shaped := ((h.setHbState ..).setFld ..).updHb ..

theorem release (h : s.Shaped) (n : Nat) : (s.release n).Shaped :=
  .enterRun (.ite ((h.updHb ..).setFld ..) (((h.updHb ..).setFld ..).setBit ..)) ..

theorem releaseRefused (h : s.Shaped) (n : Nat) : (s.releaseRefused n).Shaped := (h.setBit ..).irq ..

theorem releaseByB (h : s.Shaped) (n : Nat) (b : Bool) : (s.releaseByB n b).Shaped :=
  .ite (.ite (h.releaseRefused ..) (h.release ..)) h

theorem bothOn (h : s.Shaped) (n : Nat) : (s.bothOn n).Shaped :=
  .ite ((((((h.updHb ..).hbEval ..).setBit ..).irq ..).count ..).takeFault ..)
      (((((h.updHb ..).hbEval ..).setBit ..).irq ..).count ..)

theorem hbCommand (h : s.Shaped) (n : Nat) (a b : Bool) : (s.hbCommand n a b).Shaped := .ite (h.bothOn ..) (h.hbEval ..)

theorem gateDrive (h : s.Shaped) (n : Nat) (a b : Bool) : (s.gateDrive n a b).Shaped := (h.releaseByB ..).hbCommand ..

theorem gateRemovePulse (h : s.Shaped) (n : Nat) (b : Bool) : (s.gateRemovePulse n b).Shaped := h.updHb ..

theorem modeCheck (h : s.Shaped) (n : Nat) : (s.modeCheck n).Shaped :=
  .hbCommand (.updHb (.ite ((h.setBit ..).irq ..) h) ..) ..

theorem faultBall (h : s.Shaped) (n : Nat) (low : Bool) : (s.faultBall n low).Shaped :=
  .ite h (.ite ((h.updHb ..).takeFault ..) (h.updHb ..))

theorem waitEnd (h : s.Shaped) (n : Nat) : (s.waitEnd n).Shaped :=
  .ite (((h.count ..).updHb ..).takeFault ..) ((((h.count ..).updHb ..).enterRun ..).hbRefresh ..)

theorem hbctlWrite (h : s.Shaped) (init n : Nat) (data : Word) : (hbctlWrite init n data s).Shaped :=
  .ite (.ite ((h.setFld ..).respond ..) (.ite (.ite ((h.releaseRefused ..).errorResp ..)
      ((((h.setBit ..).release ..).hbRefresh ..).respond ..))
      (((((h.setBit ..).setFld ..).enterRun ..).hbRefresh ..).respond ..)))
      (.ite (((((h.setBit ..).setHbState ..).setFld ..).hbRefresh ..).respond ..) (h.respond ..))

theorem enableHb (h : s.Shaped) (n : Nat) : (s.enableHb n).Shaped := (h.updHb ..).hbRefresh ..

theorem unveto (h : s.Shaped) (n : Nat) : (s.unveto n).Shaped := h.updHb ..

theorem groupEnable (h : s.Shaped) (g : Nat) : (s.groupEnable g).Shaped :=
  ((((((((h.setBit ..).unveto ..).unveto ..).unveto ..).unveto ..).enableHb ..).enableHb ..).enableHb ..).enableHb ..

theorem shutPhase3 (h : s.Shaped) (g : Nat) : (s.shutPhase3 g).Shaped :=
  .ite ((((h.setBit ..).irq ..).setBit ..).groupEnable ..) ((h.setBit ..).irq ..)

theorem shutPhase2 (h : s.Shaped) (g : Nat) : (s.shutPhase2 g).Shaped :=
  .ite (((h.setBit ..).groupRefresh ..).shutPhase3 ..) ((h.setBit ..).groupRefresh ..)

theorem shutPhase1 (h : s.Shaped) (g : Nat) : (s.shutPhase1 g).Shaped :=
  .ite (((h.setBit ..).groupRefresh ..).shutPhase2 ..) ((h.setBit ..).groupRefresh ..)

theorem gateWipe (h : s.Shaped) (g : Nat) : (s.gateWipe g).Shaped :=
  (((((((((((h.dropRegs ..).wr ..).wr ..).setBit ..).updHb ..).updHb ..).updHb ..).updHb ..).modeCheck ..).modeCheck
      ..).modeCheck ..).modeCheck ..

theorem groupOff (h : s.Shaped) (g : Nat) : (s.groupOff g).Shaped :=
  .ite ((h.setBit ..).setBit ..) (.ite ((h.setBit ..).shutPhase1 ..) (h.setBit ..))

theorem groupOn (h : s.Shaped) (g : Nat) : (s.groupOn g).Shaped :=
  .ite (h.setBit ..) (.ite ((h.setBit ..).setBit ..) ((h.setBit ..).groupEnable ..))

theorem gateCtrlWrite (h : s.Shaped) (init g : Nat) (data : Word) : (gateCtrlWrite init g data s).Shaped :=
  .ite (.ite (.errorResp (.ite (h.groupOff ..) h) ..) (.ite (h.errorResp ..) (((h.gateWipe ..).frame).respond ..)))
      (.ite (.ite (h.errorResp ..) ((h.groupOn ..).respond ..)) ((h.groupOff ..).respond ..))

theorem vetoHb (h : s.Shaped) (n : Nat) : (s.vetoHb n).Shaped := h.updHb ..

theorem vetoGroup (h : s.Shaped) (g : Nat) : (s.vetoGroup g).Shaped :=
  .groupRefresh (.ite (((((((h.vetoHb ..).vetoHb ..).vetoHb ..).vetoHb ..).setBit ..).setBit ..).shutPhase1 ..)
      ((((((h.vetoHb ..).vetoHb ..).vetoHb ..).vetoHb ..).setBit ..).setBit ..)) ..

theorem assertVeto (h : s.Shaped) : s.assertVeto.Shaped := h.frame.foldl (fun _ _ ht => ht.vetoGroup ..) ..

theorem gcfgWrite (h : s.Shaped) (init g : Nat) (data : Word) : (gcfgWrite init g data s).Shaped :=
  .ite (h.errorResp ..) (((((h.plainWrite ..).modeCheck ..).modeCheck ..).modeCheck ..).modeCheck ..)

theorem uvRefresh (h : s.Shaped) (n : Nat) : (s.uvRefresh n).Shaped :=
  h.clocked (fun _ ht => .hbRefresh (.setBit (.ite (ht.irq ..) ht) ..) ..) ..

theorem hbcfgWrite (h : s.Shaped) (init n : Nat) (data : Word) : (hbcfgWrite init n data s).Shaped :=
  .ite (h.errorResp ..) ((h.plainWrite ..).uvRefresh ..)

theorem uvReport (h : s.Shaped) (n hs ls : Nat) : (s.uvReport n hs ls).Shaped :=
  ((((h.wr ..).setBit ..).setBit ..).updHb ..).uvRefresh ..

theorem uvLoss (h : s.Shaped) (n : Nat) : (s.uvLoss n).Shaped := ((h.setBit ..).updHb ..).uvRefresh ..

/-! ### Pwm -/

theorem updGen (h : s.Shaped) (n : Nat) (f : PwmGen → PwmGen) (hf : ∀ g, g.Shaped → (f g).Shaped := by exact fun _ hg => hg) :
    (s.updGen n f).Shaped :=
  h.withPwm (length_upd ..) (forall_mem_upd h.pwm hf n)

/-- No live write waits at the generator any more. -/
theorem clearGen (h : s.Shaped) (n : Nat) (f : PwmGen → PwmGen) (hf : ∀ g, (f g).after = [] := by exact fun _ => rfl) :
    (s.updGen n f).Shaped :=
  h.updGen n f (fun g _ => PwmGen.shaped_of_after_nil (hf g))

theorem pwmFlag (h : s.Shaped) (n i : Nat) : (s.pwmFlag n i).Shaped := (h.setBit ..).irq ..

theorem pwmOut (h : s.Shaped) (n : Nat) (a b : Bool) : (s.pwmOut n a b).Shaped :=
  .ite h (.gateDrive (.updGen (.ite (.gateRemovePulse (.ite (h.gateRemovePulse ..) h) ..) (.ite (h.gateRemovePulse ..) h)) ..)
      ..)

theorem pwmEdge (h : s.Shaped) (n : Nat) (w : Bool) : (s.pwmEdge n w).Shaped :=
  .ite h (.ite (h.pwmOut ..) (.ite ((h.updGen ..).pwmOut ..) ((h.updGen ..).pwmOut ..)))

theorem pwmSetW (h : s.Shaped) (n : Nat) (w : Bool) : (s.pwmSetW n w).Shaped := .ite h ((h.updGen ..).pwmEdge ..)

theorem fireEdge (h : s.Shaped) (n k : Nat) : (s.fireEdge n k).Shaped := by
  unfold State.fireEdge
  extract_lets _ s1 s2 s3
  have hs1 : s1.Shaped := h.updGen _ _ (fun _ hg => hg.setFired k)
  have hs2 : s2.Shaped := .ite (.ite hs1 (hs1.pwmSetW ..)) (.ite (hs1.pwmSetW ..) hs1)
  have hs3 : s3.Shaped := hs2.sendEvent ..
  split
  · exact hs3.wr ..
  · exact hs3

theorem syncOutPulse (h : s.Shaped) (src : Option Nat) (i : Nat) : (s.syncOutPulse src i).Shaped := .ite h.frame h

theorem disarm (h : s.Shaped) (n : Nat) : (s.disarm n).Shaped := .ite (h.setBit ..) (((h.setBit ..).setBit ..).irq ..)

theorem copyShadow (h : s.Shaped) (n k : Nat) : (s.copyShadow n k).Shaped := .ite (h.wr ..) h

theorem clampLive (h : s.Shaped) (n k : Nat) : (s.clampLive n k).Shaped := .ite ((h.wr ..).pwmFlag ..) h

theorem transfer (h : s.Shaped) (n : Nat) : (s.transfer n).Shaped :=
  ((((((((((((h.copyShadow ..).copyShadow ..).copyShadow ..).copyShadow ..).copyShadow ..).copyShadow ..).wr ..).clampLive
      ..).clampLive ..).clampLive ..).clampLive ..).disarm ..).pwmFlag ..

theorem liveClamp (h : s.Shaped) (n k : Nat) (v : Word) : (s.liveClamp n k v).1.Shaped := .iteFst (h.pwmFlag ..) h

theorem takeNext (h : s.Shaped) (n k : Nat) : (s.takeNext n k).Shaped := by
  unfold State.takeNext
  split
  · exact ((h.liveClamp ..).wr ..).updGen _ _ (fun _ hg => hg.setNext k none)
  · exact h

theorem applyAfter (h : s.Shaped) (n : Nat) (l : List (Nat × Word)) : (s.applyAfter n l).Shaped := by
  induction l generalizing s with
  | nil => exact h
  | cons p t ih => exact ih ((h.liveClamp ..).wr ..)

theorem truncate (h : s.Shaped) (n : Nat) : (s.truncate n).Shaped := .ite (h.fireEdge ..) h

theorem beginPeriod (h : s.Shaped) (n sent : Nat) : (s.beginPeriod n sent).Shaped := by
  unfold State.beginPeriod
  extract_lets _ s1 _ s2 s3 s4 _ s5 _ _ base _ s6 s7
  have hs1 : s1.Shaped := h.truncate ..
  have hs2 : s2.Shaped := .ite (.ite (hs1.transfer ..) (hs1.pwmFlag ..)) hs1
  have hs3 : s3.Shaped := ((hs2.takeNext ..).takeNext ..).takeNext ..
  have hs4 : s4.Shaped := (hs3.updGen ..).applyAfter ..
  have hs5 : s5.Shaped := ((hs4.setBit ..).setBit ..).wr ..
  have hbase : base.Shaped := hs5.clearGen ..
  have hs6 : s6.Shaped := hbase.frame (hclk := by exact ⟨rfl, length_upd ..⟩)
  have hs7 : s7.Shaped := .ite (.ite (hs6.pwmOut ..) hs6) (.ite (hs6.pwmEdge ..) hs6)
  exact (hs7.sendEvent ..).syncOutPulse ..

theorem pwmCtrlWrite (h : s.Shaped) (init n : Nat) (data : Word) : (pwmCtrlWrite init n data s).Shaped :=
  .ite (.ite (h.respond ..) (((((h.setBit ..).wr ..).clearGen ..).pwmOut ..).respond ..))
      (.ite (.respond (.ite ((((((h.setBit ..).clearGen ..).pwmOut ..).setBit ..).setBit ..).disarm ..)
      (((((h.setBit ..).clearGen ..).pwmOut ..).setBit ..).setBit ..)) ..) (h.respond ..))

theorem startGen (h : s.Shaped) (n : Nat) : (s.startGen n).Shaped := .ite (h.updGen ..) h

theorem eachGen (h : s.Shaped) {f : State → Nat → State} (hf : ∀ t y, t.Shaped → (f t y).Shaped) (k : Nat)
    (data : Word) :
    (s.eachGen k data f).Shaped :=
  h.foldl (fun _ _ ht => .ite (hf _ _ ht) ht) ..

theorem startWrite (h : s.Shaped) (init k : Nat) (data : Word) : (startWrite init k data s).Shaped :=
  .ite (h.errorResp ..) ((h.eachGen (fun _ _ ht => ht.startGen ..) ..).respond ..)

theorem noteLate (h : s.Shaped) (n : Nat) : (s.noteLate n).Shaped := (h.pwmFlag ..).count ..

theorem liveApply (h : s.Shaped) (n k : Nat) (v : Word) : (s.liveApply n k v).Shaped :=
  have hnext {t : State} (ht : t.Shaped) (w : Option Word) : (t.updGen n (fun g => g.setNext k w)).Shaped :=
    ht.updGen n _ (fun _ hg => hg.setNext k w)
  .ite (h.wr ..) (.ite ((h.wr ..).updGen n _ (fun _ hg => (hg.setFired k).setNext k (some v))) (.ite (hnext (h.wr ..) _)
      (.ite (((hnext (h.noteLate ..) _).wr ..).fireEdge ..) (hnext (h.noteLate ..) _))))

theorem liveWrite (h : s.Shaped) (init sub n : Nat) {k : Nat} (hk : k < 4) (data : Word) :
    (liveWrite init sub n k data s).Shaped :=
  have hafter (g : PwmGen) (hg : g.Shaped) : PwmGen.Shaped { g with after := g.after ++ [(k, data)] } :=
    List.forall_mem_append.2 ⟨hg, by simpa using hk⟩
  .ite ((h.pwmFlag ..).errorResp ..) (.ite ((h.updGen n _ hafter).respond ..) (((h.liveClamp ..).liveApply ..).respond ..))

theorem shadowWrite (h : s.Shaped) (init n k : Nat) (data : Word) : (shadowWrite init n k data s).Shaped :=
  .ite (h.errorResp ..) (.ite (h.plainWrite ..) (.ite ((h.plainWrite ..).setBit ..) (((h.plainWrite ..).wr ..).setBit ..)))

theorem arm (h : s.Shaped) (n : Nat) (data : Word) : (s.arm n data).Shaped := .ite (((h.setBit ..).setBit ..).updGen ..) h

theorem commitWrite (h : s.Shaped) (init : Nat) (data : Word) : (commitWrite init data s).Shaped :=
  .ite (h.errorResp ..) ((h.foldl (fun _ _ ht => ht.arm ..) ..).respond ..)

theorem pwmCfgWrite (h : s.Shaped) (init n : Nat) (data : Word) : (pwmCfgWrite init n data s).Shaped :=
  .ite (h.errorResp ..) ((h.plainWrite ..).modeCheck ..)

theorem trip (h : s.Shaped) (n cause : Nat) : (s.trip n cause).Shaped :=
  (((((h.setBit ..).irq ..).setFld ..).count ..).updGen ..).pwmOut ..

theorem tripFiltered (h : s.Shaped) (n : Nat) (v : Bool) : (s.tripFiltered n v).Shaped :=
  .ite ((h.setBit ..).trip ..) (h.setBit ..)

theorem seeTripIn (h : s.Shaped) (m : Nat) : (s.seeTripIn m).Shaped := h.frame

theorem tripcfgWrite (h : s.Shaped) (init n : Nat) (data : Word) : (tripcfgWrite init n data s).Shaped :=
  .ite (h.errorResp ..) (.ite (h.plainWrite ..) (.ite ((h.plainWrite ..).tripFiltered ..) (h.plainWrite ..)))

theorem tripSettled (h : s.Shaped) (n at_ m : Nat) (v : Bool) : (s.tripSettled n at_ m v).Shaped :=
  h.clocked (fun _ ht => .ite (((ht.atTime ..).seeTripIn ..).tripFiltered ..) ((ht.atTime ..).seeTripIn ..)) ..

theorem tripUnlatch (h : s.Shaped) (n : Nat) : (s.tripUnlatch n).Shaped := .ite h (((h.setBit ..).setFld ..).updGen ..)

theorem tripctlWrite (h : s.Shaped) (init n : Nat) (data : Word) : (tripctlWrite init n data s).Shaped := by
  unfold Machine.tripctlWrite
  extract_lets _ s1
  have hs1 : s1.Shaped := .ite (h.trip ..) h
  exact .ite (hs1.respond ..) (.ite ((hs1.pwmFlag ..).errorResp ..)
      (.ite (hs1.respond ..) (.ite ((hs1.pwmFlag ..).errorResp ..) ((hs1.tripUnlatch ..).respond ..))))

theorem pwmcForceWrite (h : s.Shaped) (init k : Nat) (data : Word) : (pwmcForceWrite init k data s).Shaped :=
  .ite (h.respond ..) (.ite (h.errorResp ..) ((h.eachGen (fun _ _ ht => ht.trip ..) ..).respond ..))

theorem pwmWipe (h : s.Shaped) (n : Nat) : (s.pwmWipe n).Shaped :=
  (((((h.pwmOut ..).dropRegs ..).wr ..).wr ..).clearGen ..).modeCheck ..

/-! ### MemEcc -/

theorem updHealth (h : s.Shaped) (f : Health → Health) (hf : ∀ x, x.chkTime.length = 2 → (f x).chkTime.length = 2 := by exact fun _ hx => hx) :
    (s.updHealth f).Shaped :=
  h.frame (hhealth := (hf _ h.chkTime).trans h.chkTime.symm)

theorem bumpFrees (h : s.Shaped) (n : Nat) : (s.bumpFrees n).Shaped := h.frame

theorem logRecord (h : s.Shaped) (us cycle kind target result : Nat) (w2 w3 : Word) :
    (s.logRecord us cycle kind target result w2 w3).Shaped :=
  .ite (((h.setFld ..).updHealth ..).issue ..) h

theorem logFree (h : s.Shaped) (us cycle kind target result : Nat) : (s.logFree us cycle kind target result).Shaped :=
  (h.logRecord ..).bumpFrees ..

theorem eccEvent (h : s.Shaped) (m a us cycle : Nat) (e : EccError) : (s.eccEvent m a us cycle e).Shaped :=
  .ite (.irq (.ite (h.count ..) (h.count ..)) ..) (.bumpFrees
      (.logRecord (.wr (.wr (.irq (.ite (h.count ..) (h.count ..)) ..) ..) ..) ..) ..)

theorem noteBad (h : s.Shaped) (a : Nat) (e : EccError) : (s.noteBad a e).Shaped := .ite (h.updHealth ..) h

theorem eccRead (h : s.Shaped) (m a us cycle : Nat) (ecc : Option EccError) : (s.eccRead m a us cycle ecc).1.Shaped := by
  unfold State.eccRead
  extract_lets _
  split
  · exact (h.noteBad ..).eccEvent ..
  · exact .iteFst ((h.bumpFrees ..).eccEvent ..) h

theorem eccSpan (h : s.Shaped) (a n us cycle : Nat) (ecc : Option EccError) : (s.eccSpan a n us cycle ecc).1.Shaped := by
  unfold State.eccSpan
  split
  case h_1 => exact h
  case h_2 m _ =>
    have hq := h.eccRead m a us cycle ecc
    dsimp only
    split
    · exact hq
    · exact hq.eccRead ..

/-! ### TellerRun -/

theorem updTpos (h : s.Shaped) (n : Nat) (f : TelPos → TelPos) (hf : ∀ p, p.Shaped → (f p).Shaped := by exact fun _ hp => hp) :
    (s.updTpos n f).Shaped :=
  h.withTelPos (length_upd ..) (forall_mem_upd h.telPos hf n)

theorem setRun (h : s.Shaped) (n : Nat) {r : Run} (hr : r.Shaped) : (s.setRun n r).Shaped :=
  h.updTpos n _ (fun _ hp => ⟨hp.1, fun _ h => Option.some.inj h ▸ hr⟩)

theorem instRefresh (h : s.Shaped) (n i : Nat) : (s.instRefresh n i).Shaped := h.setFld ..

theorem shadowProgress (h : s.Shaped) : s.shadowProgress.Shaped :=
  .ite (.ite (((h.setFld ..).setFld ..).updTpos ..) (h.setFld ..)) h

theorem spareRefresh (h : s.Shaped) : s.spareRefresh.Shaped := (h.setFld ..).setSpares ..

theorem markTeller (h : s.Shaped) (u : Nat) : (s.markTeller u).Shaped := ((h.setBit ..).setBit ..).irq ..

theorem setUnit (h : s.Shaped) (p u : Nat) : (s.setUnit p u).Shaped := h.foldl (fun _ _ ht => ht.setFld ..) ..

theorem swapUnits (h : s.Shaped) (p q u : Nat) : (s.swapUnits p q u).Shaped :=
  .ite ((((h.setUnit ..).setFld ..).spareRefresh).frame) (((h.setUnit ..).setFld ..).spareRefresh)

theorem clearTakeover (h : s.Shaped) (p : Nat) : (s.clearTakeover p).Shaped := h.updTpos ..

theorem lateTakeover (h : s.Shaped) (p : Nat) : (s.lateTakeover p).Shaped := by
  unfold State.lateTakeover
  split
  · exact h
  · exact .ite (((h.markTeller ..).swapUnits ..).clearTakeover ..) h

theorem afterRun (h : s.Shaped) (n : Nat) : (s.afterRun n).Shaped := h.foldl (fun _ _ ht => ht.lateTakeover ..) ..

theorem endRun (h : s.Shaped) (n : Nat) (r : Run) : (s.endRun n r).Shaped :=
  have hstop : (s.updTpos n (fun p => { p with run := none })).Shaped := h.updTpos n _ (fun _ hp => hp.stopped)
  .afterRun (.ite ((((hstop.setBit ..).instRefresh ..).frame (htel := by exact ⟨rfl, length_upd ..⟩)).shadowProgress)
      ((hstop.setBit ..).instRefresh ..)) ..

theorem telStore (h : s.Shaped) (a : Nat) (bs : List Byte) : (s.telStore a bs).Shaped :=
  .ite ((h.memStore ..).memStore ..) (h.memStore ..)

theorem bundleEnd (h : s.Shaped) (n : Nat) : (s.bundleEnd n).Shaped := by
  unfold State.bundleEnd
  split
  case h_1 => exact h
  case h_2 r hr =>
    exact .ite (.ite ((h.foldl (fun _ _ ht => ht.telStore ..) ..).endRun ..)
      ((h.foldl (fun _ _ ht => ht.telStore ..) ..).setRun n (h.run hr).commit)) h

/-- The run that an operation executes on is the one in progress. -/
theorem issued (h : s.Shaped) {n slot : Nat} {w : Word} {opc : Nat} {form : Option Bool} {r : Run}
    (hr : s.issues n slot w opc form = some r) : r.Shaped := by
  unfold State.issues at hr
  split at hr
  · cases hr
  case h_2 r' hrun =>
    split at hr
    · cases hr; exact h.run hrun
    · cases hr

theorem slotOp (h : s.Shaped) (n slot : Nat) (w : Word) (opc : Nat) (form : Option Bool) (f : Run → Run)
    (hf : ∀ r, r.Shaped → (f r).Shaped := by exact fun _ hr => hr) : (s.slotOp n slot w opc form f).Shaped := by
  unfold State.slotOp
  split
  case h_1 => exact h
  case h_2 r hr =>
    have hdone : (if r.holds w then f r else r).Shaped := by
      split
      · exact hf r (h.issued hr)
      · exact h.issued hr
    exact (h.setRun n (r := Run.mark _ slot) hdone).bundleEnd ..

/-! ### TellerMem -/

theorem lOp (h : s.Shaped) {f : State → Run → State × Run}
    (hf : ∀ t r, t.Shaped → r.Shaped → RunStep.Shaped (f t r)) (n : Nat) (w : Word) (opc : Nat) :
    (s.lOp n w opc f).Shaped := by
  unfold State.lOp
  split
  case h_1 => exact h
  case h_2 r hr =>
    have hr := h.issued hr
    obtain ⟨hs, hrun⟩ := RunStep.Shaped.ite (c := r.holds w) (hf s r h hr) (q := (s, r)) ⟨h, hr⟩
    exact .bundleEnd (.setRun hs n (r := Run.mark _ 2) hrun) ..

theorem unitLoad (h : s.Shaped) {r : Run} (hr : r.Shaped) (n d a k us cycle : Nat) (ecc : Option EccError) :
    RunStep.Shaped (s.unitLoad n r d a k us cycle ecc) :=
  ⟨.ite ((h.eccSpan ..).irq ..) (h.eccSpan ..), List.foldlRecOn (motive := Run.Shaped) _ _ hr (fun _ hx _ _ => hx)⟩

theorem unitIssue (h : s.Shaped) {r : Run} (hr : r.Shaped) (p : Slip) : RunStep.Shaped (s.unitIssue r p) :=
  .ite ⟨h.issue .., hr⟩ ⟨h, hr⟩

theorem fabErr (h : s.Shaped) (n : Nat) (r : Run) : (s.fabErr n r).Shaped := h.irq ..

theorem pushIssue (h : s.Shaped) {r : Run} (hr : r.Shaped) (n cycle p i k : Nat) (data : Word) :
    RunStep.Shaped (s.pushIssue n cycle r p i k data) :=
  .ite (h.unitIssue (r := { r with holdTo := some (p, i, k) }) hr _) ⟨h.fabErr .., hr⟩

theorem pgStep (h : s.Shaped) (k : Nat) (r : Word) : (s.pgStep k r).Shaped := (((h.wr ..).wr ..).wr ..).wr ..

theorem stallIssue (h : s.Shaped) {r : Run} (hr : r.Shaped) (n cycle : Nat) :
    RunStep.Shaped (s.stallIssue n r cycle) := by
  unfold State.stallIssue
  split
  · exact ⟨h, hr⟩
  · split
    · exact h.pushIssue hr ..
    · exact h.unitIssue hr _

/-! ### TellerArray -/

theorem updInst (h : s.Shaped) (n i : Nat) (f : TelInst → TelInst) : (s.updInst n i f).Shaped :=
  h.updTpos n _ (fun _ hp => ⟨(length_upd ..).trans hp.1, hp.2⟩)

theorem updTel (h : s.Shaped) (f : TelArr → TelArr)
    (hf : ∀ t, (f t).pos = t.pos ∧ (f t).runs.length = t.runs.length := by exact fun _ => ⟨rfl, rfl⟩) : (s.updTel f).Shaped :=
  h.frame (htel := hf _)

theorem makeReady (h : s.Shaped) (n i cycle : Nat) : (s.makeReady n i cycle).Shaped :=
  .ite ((h.updInst ..).instRefresh ..) h

theorem arrive (h : s.Shaped) (n i k cycle : Nat) : (s.arrive n i k cycle).Shaped :=
  .ite (.makeReady (.updInst (.ite (h.irq ..) h) ..) ..) (.updInst (.ite (h.irq ..) h) ..)

theorem land (h : s.Shaped) (n cycle : Nat) (q : Arrival) : (s.land n cycle q).Shaped := by
  unfold State.land
  extract_lets s1 s2
  have hs1 : s1.Shaped := (h.updTel ..).telStore ..
  have hs2 : s2.Shaped := hs1.updSlip ..
  split
  · exact hs2.arrive ..
  · exact hs2

theorem kickWrite (h : s.Shaped) (init n : Nat) (data : Word) (cycle : Nat) : (kickWrite init n data cycle s).Shaped :=
  .ite (h.respond ..) ((h.foldl (fun _ _ ht => .ite (ht.makeReady ..) ht) ..).respond ..)

theorem latchSlots (h : s.Shaped) (n i us cycle : Nat) : (s.latchSlots n i us cycle).1.Shaped :=
  h.foldlFst (fun _ _ ht => .ite ((ht.eccSpan ..).irq ..) (ht.eccSpan ..)) ..

theorem length_latchSlots (s : State) (n i us cycle : Nat) : (s.latchSlots n i us cycle).2.length = 16 := by
  simp [State.latchSlots]

theorem startInst (h : s.Shaped) (n i us cycle : Nat) : (s.startInst n i us cycle).Shaped :=
  ((((((h.latchSlots ..).updInst ..).setRun n ⟨rfl, rfl, rfl, length_latchSlots ..⟩).setBit ..).setFld ..).setFld ..).instRefresh ..

theorem boundsRefresh (h : s.Shaped) (ps : List Nat) : (s.boundsRefresh ps).Shaped :=
  h.foldl (fun _ _ ht => ht.setFld ..) ..

theorem admitted (h : s.Shaped) (n : Nat) : (s.admitted n).Shaped := (((h.wr ..).setFld ..).setFld ..).bumpFree

theorem tryEnable (h : s.Shaped) (n i : Nat) (cfg : Word) : (s.tryEnable n i cfg).1.Shaped := by
  unfold State.tryEnable
  extract_lets _ s1 s2 s3
  have hs1 : s1.Shaped := h.wr ..
  have hs2 : s2.Shaped := (hs1.wr ..).wr ..
  have hs3 : s3.Shaped := (hs2.wr ..).setBit ..
  split
  · exact h
  · split
    · exact h
    · exact hs3

theorem disableInst (h : s.Shaped) (n i : Nat) : (s.disableInst n i).Shaped :=
  .shadowProgress (.boundsRefresh (.setBit (.ite (((((h.setBit ..).updInst ..).setBit ..).instRefresh ..).foldl
      (fun _ _ ht => ht.setBit ..) ..) ((((h.setBit ..).updInst ..).setBit ..).instRefresh ..)) ..) ..)

theorem newcomer (h : s.Shaped) (n i : Nat) : (s.newcomer n i).Shaped := 
  .ite ((h.updTel _ (fun _ => by exact ⟨rfl, length_upd ..⟩)).shadowProgress) h

theorem instCfgWrite (h : s.Shaped) (init n i : Nat) (data : Word) : (instCfgWrite init n i data s).Shaped := by
  have htry := h.tryEnable n i data
  unfold Machine.instCfgWrite
  refine .ite (h.errorResp ..) (.ite (.ite (h.errorResp ..) (.ite (h.respond ..) ((h.disableInst ..).respond ..)))
      (.ite ?_ (h.plainWrite ..)))
  split
  case h_1 s1 heq =>
    rw [heq] at htry
    exact (((((htry.admitted ..).updInst ..).instRefresh ..).boundsRefresh ..).newcomer ..).respond ..
  case h_2 s1 c p k heq =>
    rw [heq] at htry
    exact (htry.wr ..).errorResp ..

theorem instFieldWrite (h : s.Shaped) (init n i a : Nat) (data : Word) : (instFieldWrite init n i a data s).Shaped :=
  .ite (h.errorResp ..) (h.plainWrite ..)

theorem fallbackWrite (h : s.Shaped) (init n : Nat) (data : Word) : (fallbackWrite init n data s).Shaped :=
  .ite (h.errorResp ..) (h.plainWrite ..)

theorem libWrite (h : s.Shaped) (init a sub : Nat) (bs : List Byte) : (libWrite init a sub bs s).Shaped :=
  .ite (h.errorResp ..) ((h.memStore ..).respond ..)

theorem pgXWrite (h : s.Shaped) (init k : Nat) (data : Word) : (pgXWrite init k data s).Shaped :=
  .ite (h.respond ..) (.ite (h.errorResp ..) ((((h.wr ..).wr ..).wr ..).respond ..))

theorem endRotation (h : s.Shaped) : s.endRotation.Shaped := (h.setFld ..).setBit ..

theorem copyArea (h : s.Shaped) (p q : Nat) : (s.copyArea p q).Shaped := h.frame.foldl (fun _ _ ht => ht.setByte ..) _

theorem sparePassed (h : s.Shaped) (u : Nat) : (s.sparePassed u).Shaped :=
  h.foldl (fun _ _ ht => .ite (.ite (((ht.updTel ..).updTpos ..).lateTakeover ..) (ht.updTpos ..)) ht) ..

theorem tripOwned (h : s.Shaped) (p : Nat) : (s.tripOwned p).Shaped := h.foldl (fun _ _ ht => .ite (ht.trip ..) ht) ..

theorem capacityFault (h : s.Shaped) (p : Nat) : (s.capacityFault p).Shaped :=
  (((((h.setBit ..).irq ..).foldl (fun _ _ ht => ht.setBit ..) ..).tripOwned ..).setBit ..).irq ..

theorem pair (h : s.Shaped) (p i : Nat) (on : Bool) : (s.pair p i on).Shaped :=
  .setBit (.setBit (.updTpos (.ite (h.setFld ..) h) ..) ..) ..

theorem fallback (h : s.Shaped) (p : Nat) : (s.fallback p).Shaped :=
  .ite (.ite (((h.pair ..).foldl (fun _ _ ht => ht.setBit ..) ..).boundsRefresh ..)
      (.ite (((((h.pair ..).foldl (fun _ _ ht => ht.setBit ..) ..).setBit ..).irq ..).boundsRefresh ..)
      (((h.pair ..).pair ..).capacityFault ..))) (h.capacityFault ..)

theorem stopRun (h : s.Shaped) (p : Nat) : (s.stopRun p).Shaped := by
  unfold State.stopRun
  split
  · exact h
  · exact ((h.updTpos p _ (fun _ hp => hp.stopped)).setBit ..).instRefresh ..

theorem unserve (h : s.Shaped) (p : Nat) : (s.unserve p).Shaped :=
  (((h.setBit ..).foldl (fun _ _ ht => ht.pair ..) ..).foldl (fun _ _ ht => ht.setBit ..) ..).foldl
      (fun _ _ ht => (ht.setBit ..).fallback ..) ..

theorem spareRole (h : s.Shaped) (spare : Bool) : (s.spareRole spare).Shaped := by
  unfold State.spareRole
  refine h.foldl (fun _ _ ht => .ite ?_ (.ite (ht.unserve ..) ht)) ..
  split
  · exact ht.pair ..
  · exact ht.setBit ..

theorem telRotcfgWrite (h : s.Shaped) (init : Nat) (data : Word) : (telRotcfgWrite init data s).Shaped := by
  unfold Machine.telRotcfgWrite
  extract_lets s1 s2
  have hs1 : s1.Shaped := h.plainWrite ..
  have hs2 : s2.Shaped := .ite hs1 (((hs1.setBit ..).setBit ..).spareRole ..)
  exact .ite (h.errorResp ..) (.ite hs1 (.ite (hs2.endRotation.updTel ..) hs2))

theorem unreserve (h : s.Shaped) (v : Nat) : (s.unreserve v).Shaped :=
  (h.updTel ..).foldl (fun _ _ ht => .ite (ht.clearTakeover ..) ht) ..

theorem retireUnit (h : s.Shaped) (u : Nat) : (s.retireUnit u).Shaped := by
  unfold State.retireUnit
  extract_lets s1
  have hs1 : s1.Shaped := ((h.markTeller ..).unreserve ..).updTel ..
  split
  · exact hs1.spareRefresh
  · refine .ite (.spareRefresh (.ite hs1.endRotation hs1)) ?_
    extract_lets s2 s3
    have hs2 : s2.Shaped := hs1.foldl (fun _ _ ht => ht.stopRun ..) ..
    have hs3 : s3.Shaped := .ite hs2.endRotation hs2
    split
    · exact ((hs3.swapUnits ..).unreserve ..).clearTakeover ..
    · exact (hs3.unserve ..).spareRefresh

/-! ### Health -/

theorem updChecker (h : s.Shaped) (c : Nat) (f : Checker → Checker) : (s.updChecker c f).Shaped :=
  h.updHealth _ (fun _ hx => by split <;> exact hx)

theorem healthCtrlWrite (h : s.Shaped) (init : Nat) (data : Word) : (healthCtrlWrite init data s).Shaped :=
  ((h.setBit ..).setBit ..).respond ..

theorem logbaseWrite (h : s.Shaped) (init : Nat) (data : Word) : (logbaseWrite init data s).Shaped :=
  .ite (h.errorResp ..) (.ite ((h.plainWrite ..).wr ..) (h.plainWrite ..))

theorem setSlice (h : s.Shaped) (x : Option Slice) : (s.setSlice x).Shaped := (h.updHealth ..).setBit ..

theorem coldTakeover (h : s.Shaped) (p u : Nat) : (s.coldTakeover p u).Shaped := by
  unfold State.coldTakeover
  extract_lets s1 s2
  have hs1 : s1.Shaped := h.swapUnits ..
  have hs2 : s2.Shaped := (hs1.setBit ..).foldl (fun _ _ ht => ht.setBit ..) ..
  split
  · exact ((hs1.pair ..).boundsRefresh ..).boundsRefresh ..
  · exact hs2.setBit ..

theorem releaseTeller (h : s.Shaped) (u : Nat) : (s.releaseTeller u).Shaped := by
  unfold State.releaseTeller
  extract_lets s1 s2
  have hs1 : s1.Shaped := h.updTel ..
  have hs2 : s2.Shaped := (hs1.updTel ..).sparePassed ..
  split
  · exact hs1.coldTakeover ..
  · exact .ite (hs2.updTel ..) hs2

theorem releaseUnit (h : s.Shaped) (kind target : Nat) : (s.releaseUnit kind target).Shaped := by
  unfold State.releaseUnit
  split
  · exact h.releaseTeller ..
  · exact h.frame
  · exact h.updChecker ..

theorem retireConverter (h : s.Shaped) (u : Nat) : (s.retireConverter u).Shaped := ((h.frame.setBit ..).irq ..).setSpares ..

theorem retireChecker (h : s.Shaped) (c k : Nat) : (s.retireChecker c k).Shaped :=
  (((h.updChecker ..).setBit ..).irq ..).setSpares ..

theorem retireOf (h : s.Shaped) (kind target : Nat) : (s.retireOf kind target).Shaped := by
  unfold State.retireOf
  split
  · exact h.retireUnit ..
  · exact h.retireConverter ..
  · exact h.retireChecker ..

theorem unitSliceEnd (h : s.Shaped) (x : Slice) (at_ us cycle : Nat) (sig : Option Word) (points : List LoopPoint) :
    (s.unitSliceEnd x at_ us cycle sig points).Shaped :=
  .ite (((((h.setSlice ..).count ..).releaseUnit ..).logRecord ..).bumpFrees ..)
      (.ite ((((h.setSlice ..).retireOf ..).logRecord ..).bumpFrees ..) ((h.setSlice ..).count ..))

theorem cmpSliceEnd (h : s.Shaped) (x : Slice) (us cycle : Nat) : (s.cmpSliceEnd x us cycle).Shaped :=
  .ite h (.bumpFrees (.logRecord (.ite ((((h.setSlice ..).setBit ..).irq ..).count ..) ((h.setSlice ..).count ..)) ..) ..)

theorem scrubStep (h : s.Shaped) : s.scrubStep.Shaped :=
  .ite (h.updHealth ..) (.ite (h.updHealth ..) ((h.updHealth ..).setFld ..))

/-! ### Settlement -/

theorem updSetl (h : s.Shaped) (f : Setl → Setl) (hf : ∀ x, x.prev.length = 16 → (f x).prev.length = 16 := by simp +contextual) :
    (s.updSetl f).Shaped :=
  h.frame (hsetl := (hf _ h.setlPrev).trans h.setlPrev.symm)

theorem liveFlag (h : s.Shaped) (base i irq : Nat) (b : Bool) : (s.liveFlag base i irq b).Shaped :=
  .setBit (.ite (h.irq ..) h) ..

theorem busStep (h : s.Shaped) : s.busStep.Shaped := (((h.liveFlag ..).updSetl ..).wr ..).wr ..

theorem queueDeps (h : s.Shaped) (l : List Dep) : (s.queueDeps l).Shaped := h.frame

theorem depSkip (h : s.Shaped) (d : Dep) : (s.depSkip d).Shaped := .ite ((h.setBit ..).irq ..) (h.setBit ..)

theorem depIssue (h : s.Shaped) (d : Dep) (cycle : Nat) : (s.depIssue d cycle).Shaped :=
  .ite (.ite h (h.frame.issue ..)) (h.frame.depSkip ..)

theorem contExit (h : s.Shaped) : s.contExit.Shaped :=
  .ite (.ite ((((h.updSetl ..).setBit ..).setBit ..).irq ..) (h.updSetl ..)) h

theorem contEnter (h : s.Shaped) : s.contEnter.Shaped :=
  .irq (.count (.setFld (.setBit (.setBit (.ite h.bumpFree h) ..) ..) ..) ..) ..

theorem makeTable (h : s.Shaped) (accts : List Acct) : (s.makeTable accts).Shaped :=
  ((h.foldl (fun _ _ ht => ht.wr ..) ..).setBit ..).updSetl ..

theorem periodResults (h : s.Shaped) (accts : List Acct) (gone : List Nat) (unmet : Bool) :
    (s.periodResults accts gone unmet).Shaped :=
  .updSetl (.foldl (.foldl (.ite ((((((h.liveFlag ..).liveFlag ..).wr ..).wr ..).wr ..).bumpFree)
      (((((h.liveFlag ..).liveFlag ..).wr ..).wr ..).wr ..)) (fun _ _ ht => ht.wr ..) ..) (fun _ _ ht => ht.wr ..) ..) ..

theorem periodDeps (h : s.Shaped) (first : Bool) (accts : List Acct) (gone : List Nat) :
    (s.periodDeps first accts gone).Shaped :=
  h.queueDeps ..

theorem setlPeriod (h : s.Shaped) : s.setlPeriod.Shaped :=
  .makeTable (.periodDeps (.periodResults (.busStep (.wr (.ite (.contEnter (.contExit (.ite ((h.setBit ..).irq ..) h)))
      (.contExit (.ite ((h.setBit ..).irq ..) h))) ..)) ..) ..) ..

theorem setlCtrlWrite (h : s.Shaped) (init : Nat) (data : Word) : (setlCtrlWrite init data s).Shaped :=
  .respond (.ite (((((h.setBit ..).wr ..).setBit ..).updSetl ..).setlPeriod) (h.setBit ..)) ..

theorem vbusWrite (h : s.Shaped) (init : Nat) (data : Word) : (vbusWrite init data s).Shaped := (h.plainWrite ..).updSetl ..

theorem integWrite (h : s.Shaped) (init : Nat) (data : Word) : (integWrite init data s).Shaped :=
  .ite (h.respond ..) (h.plainWrite ..)

theorem acctCfgWrite (h : s.Shaped) (init k : Nat) (data : Word) : (acctCfgWrite init k data s).Shaped :=
  .ite (h.plainWrite ..) (.ite ((h.plainWrite ..).updSetl ..) ((h.plainWrite ..).updSetl ..))

theorem contctlWrite (h : s.Shaped) (init : Nat) (data : Word) : (contctlWrite init data s).Shaped :=
  .ite (.respond (.ite h (h.updSetl ..)) ..) (.ite (.ite ((h.setBit ..).errorResp ..) ((h.updSetl ..).respond ..))
      (h.respond ..))

theorem setlWipe (h : s.Shaped) : s.setlWipe.Shaped := h.frame (hsetl := h.setlPrev.symm)

/-! ### Mppt -/

theorem updMp (h : s.Shaped) (f : MpEng → MpEng) (hf : ∀ e, (f e).ch.length = e.ch.length := by exact fun _ => rfl) :
    (s.updMp f).Shaped :=
  h.frame (hmp := hf _)

theorem updMpc (h : s.Shaped) (m : Nat) (f : MpChan → MpChan) : (s.updMpc m f).Shaped :=
  h.updMp _ (fun _ => length_upd ..)

theorem mpRefresh (h : s.Shaped) (m : Nat) : (s.mpRefresh m).Shaped := (h.setFld ..).setFld ..

theorem mpDeposit (h : s.Shaped) (m : Nat) (stale : Bool) : (s.mpDeposit m stale).Shaped := h.queueDeps ..

theorem mpDue (h : s.Shaped) (m : Nat) : (s.mpDue m).Shaped := .ite (h.updMp ..) h

theorem scanStart (h : s.Shaped) (dep : Nat → Bool) : (s.scanStart dep).Shaped := by
  unfold State.scanStart
  split
  · exact .ite ((((((h.updMp ..).updMpc ..).wr ..).setFld ..).mpRefresh ..).mpDeposit ..)
        (((((h.updMp ..).updMpc ..).wr ..).setFld ..).mpRefresh ..)
  · exact h

theorem setPavail (h : s.Shaped) (m : Nat) (p : Int) : (s.setPavail m p).Shaped := .ite (h.wr ..) ((h.wr ..).bumpFree)

theorem slope (h : s.Shaped) (dP dV : Int) : (s.slope dP dV).1.Shaped := .iteFst h.bumpFree h

theorem trackStep (h : s.Shaped) (m : Nat) (v i p : Int) (secs : Nat) : (s.trackStep m v i p secs).Shaped := by
  unfold State.trackStep
  extract_lets _ _ _ _ _ q _ _ _ _ s1 s2 s3
  have hq : q.1.Shaped := .iteFst h (h.slope ..)
  have hs1 : s1.Shaped := (hq.wr ..).updMpc ..
  have hs2 : s2.Shaped := .ite (hs1.irq ..) hs1
  have hs3 : s3.Shaped := hs2.setPavail ..
  exact .ite (hs3.mpDue ..) hs3

theorem scanEnd (h : s.Shaped) (m : Nat) (b : MpPoint) : (s.scanEnd m b).Shaped :=
  (((((h.updMp ..).updMpc ..).wr ..).setPavail ..).irq ..).setFld ..

theorem scanStep (h : s.Shaped) (m : Nat) (v i p : Int) : (s.scanStep m v i p).Shaped :=
  .ite (h.updMpc ..) (.ite (h.scanEnd ..) (((h.updMpc ..).setFld ..).wr ..))

theorem nextScan (h : s.Shaped) (m secs : Nat) : (s.nextScan m secs).Shaped := .ite (h.setFld ..) ((h.setFld ..).bumpFree)

theorem mpMove (h : s.Shaped) (m secs : Nat) (wasHold : Bool) : (s.mpMove m secs wasHold).Shaped :=
  .ite ((h.setBit ..).irq ..) (.ite (h.updMpc ..) (.ite ((h.updMpc ..).updMpc ..)
      (.ite ((h.updMpc ..).scanStep ..) ((h.updMpc ..).trackStep ..))))

theorem mpCtrlWrite (h : s.Shaped) (init m : Nat) (data : Word) : (mpCtrlWrite init m data s).Shaped :=
  .respond (.mpRefresh (.ite ((((((h.setBit ..).wr ..).wr ..).updMpc ..).mpDue ..).scanStart ..)
      (.ite ((((h.setBit ..).updMp ..).frame).scanStart ..) (h.setBit ..))) ..) ..

theorem iinWrite (h : s.Shaped) (init m : Nat) (data : Word) : (iinWrite init m data s).Shaped :=
  .ite ((h.plainWrite ..).updMpc ..) (h.plainWrite ..)

theorem scanreqWrite (h : s.Shaped) (init m : Nat) (data : Word) : (scanreqWrite init m data s).Shaped :=
  .respond (.ite (((h.mpDue ..).scanStart ..).mpRefresh ..) h) ..

theorem mpCfgWrite (h : s.Shaped) (init m off : Nat) (data : Word) : (mpCfgWrite init m off data s).Shaped :=
  .ite (h.errorResp ..) (h.plainWrite ..)

theorem mpRangeWrite (h : s.Shaped) (init m off : Nat) (data : Word) : (mpRangeWrite init m off data s).Shaped :=
  .ite (h.errorResp ..) (h.plainWrite ..)

theorem mpWipe (h : s.Shaped) (m : Nat) : (s.mpWipe m).Shaped := (((h.updMpc ..).updMp ..).frame).scanStart ..

/-! ### Grid -/

theorem updGrid (h : s.Shaped) (f : Grid → Grid) (hf : ∀ g, g.timers.length = 16 → (f g).timers.length = 16 := by simp +contextual) :
    (s.updGrid f).Shaped :=
  h.frame (hgrid := (hf _ h.gridTimers).trans h.gridTimers.symm)

theorem bumpStep (h : s.Shaped) : s.bumpStep.Shaped := h.frame

theorem syncClear (h : s.Shaped) : s.syncClear.Shaped := .updGrid (.ite ((h.setBit ..).irq ..) h) ..

theorem seqCount (h : s.Shaped) (bad : Bool) : (s.seqCount bad).Shaped := .ite (h.updGrid ..) ((h.setBit ..).updGrid ..)

theorem lockCount (h : s.Shaped) : s.lockCount.Shaped := .ite ((h.updGrid ..).syncClear) ((h.updGrid ..).updGrid ..)

theorem gridSync (h : s.Shaped) : s.gridSync.Shaped :=
  (((((((h.updGrid ..).setBit ..).wr ..).wr ..).wr ..).wr ..).wr ..).seqCount ..

theorem rocofStep (h : s.Shaped) : s.rocofStep.Shaped := .ite (h.updGrid ..) ((h.wr ..).updGrid ..)

theorem vshiftStep (h : s.Shaped) : s.vshiftStep.Shaped := by
  unfold State.vshiftStep
  refine .ite ((h.updGrid ..).wr ..) ?_
  split
  · exact (h.updGrid ..).wr ..
  · exact h.updGrid ..

theorem islCounts (h : s.Shaped) : s.islCounts.Shaped := h.updGrid ..

theorem stageStep (h : s.Shaped) : s.stageStep.Shaped := (h.updGrid ..).wr ..

theorem dipStep (h : s.Shaped) : s.dipStep.Shaped := .ite (h.updGrid ..) (h.updGrid ..)

theorem excurStep (h : s.Shaped) : s.excurStep.Shaped := .ite (((h.updGrid ..).updGrid ..).wr ..) (h.updGrid ..)

theorem enterStep (h : s.Shaped) : s.enterStep.Shaped := h.updGrid ..

theorem probeSum (h : s.Shaped) : s.probeSum.Shaped := .ite (h.updGrid ..) (h.updGrid ..)

theorem probePhase (h : s.Shaped) : s.probePhase.Shaped := h.updGrid ..

theorem raiseTrip (h : s.Shaped) (cause : Nat) : (s.raiseTrip cause).Shaped := .ite h (((h.setBit ..).setFld ..).irq ..)

theorem raiseIsland (h : s.Shaped) (cause : Nat) : (s.raiseIsland cause).Shaped :=
  .ite (h.updGrid ..) ((((h.updGrid ..).setBit ..).setFld ..).irq ..)

theorem curveTrip (h : s.Shaped) : s.curveTrip.Shaped :=
  .ite (.ite (.raiseTrip (.ite (h.raiseTrip ..) h) ..) (.ite (h.raiseTrip ..) h)) h

theorem zoneStep (h : s.Shaped) : s.zoneStep.Shaped :=
  .setFld (.ite (.irq (.curveTrip (.ite (((h.setBit ..).updGrid ..).wr ..) h)) ..)
      (.curveTrip (.ite (((h.setBit ..).updGrid ..).wr ..) h))) ..

theorem gridOutputs (h : s.Shaped) : s.gridOutputs.Shaped :=
  ((((((h.wr ..).wr ..).setBit ..).updGrid ..).wr ..).wr ..).setBit ..

theorem gridDeposit (h : s.Shaped) : s.gridDeposit.Shaped := h.frame.queueDeps ..

theorem gridFinish (h : s.Shaped) : s.gridFinish.Shaped := h.zoneStep.gridOutputs.gridDeposit.bumpStep

theorem tableCopy (h : s.Shaped) : s.tableCopy.Shaped :=
  .ite (.ite ((((((h.foldl (fun _ _ ht => ht.wr ..) ..).wr ..).updGrid ..).setBit ..).setFld ..).bumpFree)
      (((((h.foldl (fun _ _ ht => ht.wr ..) ..).wr ..).updGrid ..).setBit ..).setFld ..)) h

theorem flagClears (h : s.Shaped) : s.flagClears.Shaped :=
  .updGrid (.ite (.setBit (.ite (h.setBit ..) h) ..) (.ite (h.setBit ..) h)) ..

theorem stepTime (h : s.Shaped) : s.stepTime.Shaped :=
  h.lockCount.rocofStep.vshiftStep.islCounts.stageStep.excurStep.enterStep

theorem freshStep (h : s.Shaped) (age : Nat) : (s.freshStep age).Shaped :=
  (((((((h.setBit ..).updGrid ..).gridSync).dipStep).stepTime).probeSum).probePhase).gridFinish

theorem staleStep (h : s.Shaped) : s.staleStep.Shaped :=
  .ite ((((((h.updGrid ..).wr ..).stepTime).probePhase).curveTrip).gridFinish)
      ((((((h.updGrid ..).wr ..).stepTime).probePhase).gridDeposit).bumpStep)

theorem gridStep (h : s.Shaped) (age : Nat) : (s.gridStep age).Shaped :=
  .ite (.freshStep (.wr (.flagClears (.tableCopy (.ite (h.setBit ..) h))) ..) ..)
      (.staleStep (.wr (.flagClears (.tableCopy (.ite (h.setBit ..) h))) ..))

theorem icWrite (h : s.Shaped) (init : Nat) (data : Word) : (icWrite init data s).Shaped := (h.plainWrite ..).updGrid ..

theorem gsyncCtrlWrite (h : s.Shaped) (init : Nat) (data : Word) (age : Nat) : (gsyncCtrlWrite init data age s).Shaped :=
  .ite (.ite (h.errorResp ..) (.ite (h.respond ..) ((((((h.setBit ..).setFld ..).wr ..).frame).gridStep ..).respond ..)))
      ((((((h.setBit ..).setBit ..).updGrid ..).wr ..).wr ..).respond ..)

theorem gfrtClrWrite (h : s.Shaped) (init : Nat) (data : Word) : (gfrtClrWrite init data s).Shaped :=
  .ite (h.respond ..) (.ite ((h.updGrid ..).respond ..) (((h.setBit ..).irq ..).errorResp ..))

theorem gislClrWrite (h : s.Shaped) (init : Nat) (data : Word) : (gislClrWrite init data s).Shaped :=
  .ite (h.respond ..) (.ite ((h.updGrid ..).respond ..) (((h.setBit ..).irq ..).errorResp ..))

theorem tableApplyWrite (h : s.Shaped) (init : Nat) (data : Word) : (tableApplyWrite init data s).Shaped :=
  .ite (h.respond ..) (.ite (((h.updGrid ..).setBit ..).respond ..) ((h.setFld ..).errorResp ..))

theorem gsyncCfgWrite (h : s.Shaped) (init : Nat) (data : Word) : (gsyncCfgWrite init data s).Shaped :=
  .ite (h.plainWrite ..) (h.errorResp ..)

theorem gfrtCfgWrite (h : s.Shaped) (init : Nat) (data : Word) : (gfrtCfgWrite init data s).Shaped :=
  .ite (h.errorResp ..) (h.plainWrite ..)

theorem gfrtBandWrite (h : s.Shaped) (init off : Nat) (data : Word) : (gfrtBandWrite init off data s).Shaped :=
  .ite (h.errorResp ..) (h.plainWrite ..)

theorem probecfgWrite (h : s.Shaped) (init : Nat) (data : Word) : (probecfgWrite init data s).Shaped :=
  .ite (h.plainWrite ..) (h.errorResp ..)

theorem pwinWrite (h : s.Shaped) (init : Nat) (data : Word) : (pwinWrite init data s).Shaped :=
  .ite (h.errorResp ..) (h.plainWrite ..)

theorem gridWipe (h : s.Shaped) (i : Nat) : (s.gridWipe i).Shaped :=
  .ite ((((h.updGrid ..).frame).wr ..).wr ..) (.ite (h.updGrid ..) (.ite (h.updGrid ..) (h.updGrid ..)))

/-! ### SafetyUnit -/

theorem updSup (h : s.Shaped) (f : SafetyUnit → SafetyUnit)
    (hf : ∀ u, (f u).k.length = u.k.length ∧ (f u).locks.length = u.locks.length ∧ (f u).conns.length = u.conns.length := by simp) :
    (s.updSup f).Shaped :=
  h.frame (hsup := hf _)

theorem updK (h : s.Shaped) (n : Nat) (f : Contactor → Contactor) : (s.updK n f).Shaped := h.updSup ..

theorem updLock (h : s.Shaped) (p : Nat) (f : CableLock → CableLock) : (s.updLock p f).Shaped := h.updSup ..

theorem curfewSwitch (h : s.Shaped) (n : Nat) : (s.curfewSwitch n).Shaped := h.updK ..

theorem settleSafety (h : s.Shaped) : s.settleSafety.Shaped := by
  unfold State.settleSafety
  extract_lets s1
  have hs1 : s1.Shaped := h.foldl (fun _ _ ht => ht.curfewSwitch ..) ..
  exact .ite (.ite hs1 hs1.assertVeto) hs1.frame

theorem enterSt (h : s.Shaped) (st : Nat) : (s.enterSt st).Shaped := .ite h ((h.updSup ..).irq ..)

theorem openK (h : s.Shaped) (n : Nat) : (s.openK n).Shaped := .ite (h.updK ..) h

theorem stopK (h : s.Shaped) (n : Nat) : (s.stopK n).Shaped := (h.openK ..).updK ..

theorem faultK (h : s.Shaped) (n code : Nat) : (s.faultK n code).Shaped := (h.updK ..).irq ..

theorem lockdown (h : s.Shaped) : s.lockdown.Shaped :=
  .ite h (((((h.updSup ..).enterSt ..).foldl (fun _ _ ht => ht.openK ..) ..).updSup ..).settleSafety)

theorem orderedOpen (h : s.Shaped) (mask : Nat) : (s.orderedOpen mask).Shaped :=
  h.foldl (fun _ _ ht => .ite (ht.updK ..) ht) ..

theorem enterDusk (h : s.Shaped) (code : Nat) : (s.enterDusk code).Shaped :=
  .ite h (((h.frame.wr ..).updSup ..).settleSafety)

theorem endDusk (h : s.Shaped) : s.endDusk.Shaped :=
  .settleSafety (.ite (((h.frame.setBit ..).updSup ..).enterSt ..) ((h.frame.setBit ..).updSup ..))

theorem resetOpening (h : s.Shaped) : s.resetOpening.Shaped := .ite ((h.orderedOpen ..).enterSt ..) h

theorem latchManual (h : s.Shaped) (lv : Nat) : (s.latchManual lv).Shaped := h.updSup ..

theorem discStep (h : s.Shaped) (f : Nat) : (s.discStep f).Shaped := .ite h (.ite (h.updSup ..) (.ite (h.updSup ..) h))

theorem openedK (h : s.Shaped) (n : Nat) : (s.openedK n).Shaped := h.updK ..

theorem cycleK (h : s.Shaped) (n : Nat) : (s.cycleK n).Shaped := by
  unfold State.cycleK
  refine .ite (.ite (h.updK ..) ?_) (.ite (h.openedK ..) h)
  split
  · exact .ite (h.updK ..) h
  · exact .ite (h.updK ..) (h.updK ..)

theorem readbackK (h : s.Shaped) (n : Nat) : (s.readbackK n).Shaped := .ite h (.ite (h.faultK ..) (.ite (h.faultK ..) h))

theorem moveLock (h : s.Shaped) (p dir : Nat) : (s.moveLock p dir).Shaped := h.updLock ..

theorem duskLock (h : s.Shaped) (p : Nat) : (s.duskLock p).Shaped := .ite ((h.moveLock ..).updLock ..) h

theorem takeDusk (h : s.Shaped) : s.takeDusk.Shaped := .ite (((h.updSup ..).enterSt ..).orderedOpen ..) (h.updSup ..)

theorem takeDemands (h : s.Shaped) : s.takeDemands.Shaped := by
  unfold State.takeDemands
  extract_lets _ _ _ _ _ _ s1 s2 s3
  have hs1 : s1.Shaped := (h.foldl (fun _ _ ht => ht.openK ..) ..).foldl (fun _ _ ht => ht.stopK ..) ..
  have hs2 : s2.Shaped := hs1.updSup ..
  have hs3 : s3.Shaped := .ite hs2 (hs2.irq ..)
  exact .ite (.ite (hs3.enterSt ..) hs3) (.ite ((hs3.updSup ..).enterSt ..) (.ite (hs3.updSup ..) hs3))

theorem markOrdered (h : s.Shaped) : s.markOrdered.Shaped := h.updSup ..

theorem smbxReply (h : s.Shaped) (status : Nat) (data : Word) : (s.smbxReply status data).Shaped :=
  ((((h.wr ..).wr ..).setBit ..).irq ..).updSup ..

theorem takeSmbx (h : s.Shaped) : s.takeSmbx.Shaped := .ite (.ite (h.updSup ..) (h.smbxReply ..)) h

/-! ### SafetyMailbox -/

theorem activateSet (h : s.Shaped) (ws : List Word) : (s.activateSet ws).Shaped :=
  (((((h.updSup ..).foldl (fun _ _ ht => .ite (ht.claimPc ..) (ht.unclaimPc ..)) ..).latchManual ..).latchManual ..).enterSt
      ..).settleSafety

theorem smbxCmdWrite (h : s.Shaped) (init : Nat) (data : Word) : (smbxCmdWrite init data s).Shaped :=
  .ite (h.errorResp ..) ((((h.wr ..).setBit ..).updSup ..).respond ..)

theorem notInDusk (h : s.Shaped) {f : Nat → Word → State → State × Nat × Word}
    (hf : ∀ x y t, t.Shaped → (f x y t).1.Shaped) (arg : Nat) (d : Word) :
    (notInDusk f arg d s).1.Shaped :=
  .iteFst h (hf _ _ _ h)

theorem vetoRelease (h : s.Shaped) (hbUs : Nat) : (vetoRelease hbUs s).1.Shaped :=
  .iteFst h (.iteFst h (.iteFst h (.iteFst h (.iteFst h (((h.frame.setFld ..).setBit ..).enterSt ..)))))

theorem halt (h : s.Shaped) : (halt s).1.Shaped := by
  unfold Machine.halt
  dsimp only
  exact orderedOpen (.ite ((h.updSup ..).enterSt ..) h) _

theorem closeCmd (h : s.Shaped) (m : Nat) : (closeCmd m s).1.Shaped := by
  unfold Machine.closeCmd
  extract_lets js s1
  have hs1 : s1.Shaped := h.foldl (fun _ _ ht => .ite (ht.faultK ..) (.ite (ht.updK ..) ht)) _
  exact .iteFst h (.iteFst h hs1)

theorem openCmd (h : s.Shaped) (m : Nat) : (openCmd m s).1.Shaped := .iteFst h (h.orderedOpen ..)

theorem lockCmd (h : s.Shaped) (arg dir : Nat) : (lockCmd arg dir s).1.Shaped :=
  .iteFst h (.iteFst h (.iteFst h (h.moveLock ..)))

theorem paramBegin (h : s.Shaped) : (paramBegin s).1.Shaped := .iteFst h (h.updSup ..)

theorem paramWrite (h : s.Shaped) (arg : Nat) (d : Word) : (paramWrite arg d s).1.Shaped := by
  unfold Machine.paramWrite
  split
  · exact h
  · exact .iteFst h (h.updSup ..)

theorem paramCheckCmd (h : s.Shaped) : (paramCheckCmd s).1.Shaped := by
  unfold Machine.paramCheckCmd
  split
  · exact h
  · split
    · exact h.updSup ..
    · exact h.updSup ..

theorem paramConfirm (h : s.Shaped) (d : Word) : (paramConfirm d s).1.Shaped := by
  unfold Machine.paramConfirm
  split
  · exact h
  · exact .iteFst h (.iteFst h (.iteFst h ((h.updSup ..).activateSet ..)))

theorem paramAbort (h : s.Shaped) : (paramAbort s).1.Shaped := .iteFst h (h.updSup ..)

theorem readParam (h : s.Shaped) (arg : Nat) : (readParam arg s).1.Shaped := .iteFst h h

theorem updConn (h : s.Shaped) (c : Nat) (f : SafeConn → SafeConn) : (s.updConn c f).Shaped := h.updSup ..

theorem connFault (h : s.Shaped) (c cause : Nat) : (s.connFault c cause).Shaped := (h.updConn ..).irq ..

theorem evalFrame (h : s.Shaped) (c : Nat) (bs : List Byte) : (s.evalFrame c bs).Shaped :=
  .ite h (.ite (h.connFault ..) (.ite (.ite (h.updConn ..) (.ite h (h.connFault ..))) (h.updConn ..)))

theorem rxctlWrite (h : s.Shaped) (init : Nat) (data : Word) : (rxctlWrite init data s).Shaped :=
  .ite (h.respond ..) (.ite (h.errorResp ..) ((h.updSup ..).respond ..))

/-! ### Reset -/

/-- A die reset leaves the reset state but for the parts of the power-side die and the lists of the same length that it keeps. -/
theorem dieReset (h : s.Shaped) : s.dieReset.Shaped :=
  (State.reset_shaped.withMelo h.melo).frame (hgate := (List.length_map ..).trans h.gate) (hcmp := h.cmp) (hnw := h.loops) (hsup := h.sup)
    (hjtag := h.jtag)

theorem debugLost (h : s.Shaped) : s.debugLost.Shaped := by
  obtain ⟨hsel, hdata1, hdata2⟩ := h.jtag
  exact State.Shaped.setBit (h.frame (hjtag := by exact ⟨hsel.symm, hdata1.symm, hdata2.symm⟩)) ..

theorem systemReset (h : s.Shaped) (endsDusk debugLoss : Bool) : (s.systemReset endsDusk debugLoss).Shaped := by
  unfold State.systemReset
  extract_lets s1 _ _ s3 s4 s5
  have hs1 : s1.Shaped := .ite h h.resetOpening
  have hs3 : s3.Shaped := .dieReset (.ite hs1.frame hs1.frame.assertVeto)
  have hs4 : s4.Shaped := (hs3.setBit ..).setBit ..
  have hs5 : s5.Shaped := .ite hs4.debugLost hs4
  exact .ite hs5.endDusk hs5

theorem powerOnReset (h : s.Shaped) : s.powerOnReset.Shaped := by
  have hdie : (if s.rst.veto then s else s.assertVeto).dieReset.Shaped := .dieReset (.ite h h.assertVeto)
  obtain ⟨hk, hlocks, hconns⟩ := hdie.sup
  obtain ⟨hsel, hdata1, hdata2⟩ := hdie.jtag
  exact hdie.frame (hcmp := by simp [cmpPowerOn, hdie.cmp]) (hsup := by exact ⟨hk.symm, hlocks.symm, hconns.symm⟩)
    (hjtag := by exact ⟨hsel.symm, hdata1.symm, hdata2.symm⟩)

theorem coreResetHart (h : s.Shaped) (i code : Nat) : (s.coreResetHart i code).Shaped :=
  ((h.updClerk ..).updChecker ..).frame

theorem coreReset (h : s.Shaped) (code : Nat) : (s.coreReset code).Shaped :=
  h.foldl (fun _ _ ht => .ite (ht.coreResetHart ..) ht) ..

theorem enterLevel (h : s.Shaped) (l : RLevel) (codes : List Nat) : (s.enterLevel l codes).Shaped := by
  unfold State.enterLevel
  split
  · exact h.powerOnReset
  · exact h.systemReset ..
  · exact h.foldl (fun _ _ ht => ht.coreReset ..) ..

theorem resetArrive (h : s.Shaped) (codes : List Nat) : (s.resetArrive codes).Shaped := by
  unfold State.resetArrive
  extract_lets _
  split
  · exact h
  · exact .frame (.ite ((h.enterLevel ..).wr ..) (h.enterLevel ..))

theorem bankLost (h : s.Shaped) (rail : Nat) : (s.bankLost rail).Shaped := .ite h.frame h

theorem railReaction (h : s.Shaped) (rail : Nat) : (s.railReaction rail).Shaped :=
  .ite (h.resetArrive ..) (.ite ((h.irq ..).auxVdrv ..) (.ite (h.irq ..)
      (.ite (h.resetArrive ..) (.ite (h.resetArrive ..) (.ite (h.resetArrive ..) (.ite (h.irq ..) h))))))

theorem rstreqWrite (h : s.Shaped) (init : Nat) (data : Word) : (rstreqWrite init data s).Shaped := by
  unfold Machine.rstreqWrite
  split
  · exact h.errorResp ..
  · exact (h.respond ..).resetArrive ..

theorem wdKick (h : s.Shaped) : s.wdKick.Shaped := h.frame

theorem wdogKickWrite (h : s.Shaped) (init : Nat) (data : Word) : (wdogKickWrite init data s).Shaped :=
  .respond (.ite h.wdKick h) ..

/-! ### Dawn -/

theorem fuseLoad (h : s.Shaped) : s.fuseLoad.Shaped := h.frame

theorem sweepFlag (h : s.Shaped) : s.sweepFlag.Shaped := (h.setBit ..).irq ..

theorem sweepConv (h : s.Shaped) (fail : List Nat) : (s.sweepConv fail).Shaped :=
  ((h.foldl (fun _ _ ht => (ht.sweepFlag.setBit ..).setSpares ..) ..).foldl (fun _ _ ht => (ht.setFld ..).setFld ..) ..).frame

theorem sweepTel (h : s.Shaped) (fail : List Nat) : (s.sweepTel fail).Shaped :=
  ((((h.foldl (fun _ _ ht => (ht.markTeller ..).setBit ..) ..).foldl (fun _ _ ht => (ht.setFld ..).setFld ..) ..).foldl
      (fun _ _ ht => ht.unserve ..) ..).updTel ..).spareRefresh

theorem sweepChk (h : s.Shaped) (fail : List Nat) : (s.sweepChk fail).Shaped :=
  h.foldl (fun _ _ ht => .ite (((ht.foldl (fun _ _ hu => (hu.retireChecker ..).setBit ..) ..).updChecker ..).setBit ..)
      ((ht.foldl (fun _ _ hu => (hu.retireChecker ..).setBit ..) ..).updChecker ..)) ..

theorem bootStat (h : s.Shaped) (code keySlot secVer firstFail : Nat) (secondary : Bool) :
    (s.bootStat code keySlot secVer firstFail secondary).Shaped :=
  h.wr ..

theorem bootStop (h : s.Shaped) (code : Nat) : (s.bootStop code).Shaped := (h.bootStat ..).frame

theorem bootStart (h : s.Shaped) : s.bootStart.Shaped :=
  .ite ((h.bootStat ..).bootStop ..) (.ite ((h.bootStat ..).bootStop ..) (((h.bootStat ..).wdKick).frame))

theorem bootAccept (h : s.Shaped) (i : List Byte) : (s.bootAccept i).Shaped :=
  (((((h.bootStat ..).wdKick).updClerk ..).updClerk ..).bumpFrees ..).frame

theorem bootFail (h : s.Shaped) (code : Nat) : (s.bootFail code).Shaped := .ite h.wdKick.frame ((h.bootStat ..).frame)

/-! ### Jtag -/

theorem updJtag (h : s.Shaped) (f : Jtag → Jtag)
    (hf : ∀ j, (f j).tselect.length = j.tselect.length ∧ (f j).tdata1.length = j.tdata1.length ∧
      (f j).tdata2.length = j.tdata2.length := by simp) :
    (s.updJtag f).Shaped :=
  h.frame (hjtag := hf _)

theorem selectIr (h : s.Shaped) (ir dr : Nat) : (s.selectIr ir dr).Shaped := .updJtag (.ite (h.resetArrive ..) h) ..

theorem bypass (h : s.Shaped) : s.bypass.Shaped := h.selectIr ..

theorem dmcontrol (h : s.Shaped) (data : Word) : (s.dmcontrol data).Shaped :=
  .ite (h.updJtag ..) (.ite (h.updJtag ..) (.ite ((h.updJtag ..).updClerk ..)
      (.ite (((h.updJtag ..).updClerk ..).updJtag ..) (h.updJtag ..))))

theorem dbgWrite (h : s.Shaped) (i regno : Nat) (v : Word) : (s.dbgWrite i regno v).Shaped :=
  .ite (h.updClerk ..) (.ite (h.updClerk ..) (.ite (h.updClerk ..)
      (.ite (h.updClerk ..) (.ite (.ite (h.updJtag ..) h) (.ite (h.updJtag ..) (.ite (h.updJtag ..) h))))))

theorem dmCommand (h : s.Shaped) (data : Word) : (s.dmCommand data).Shaped :=
  .ite h (.ite (h.updJtag ..) (.ite (h.updJtag ..) (.ite h (.ite (h.dbgWrite ..) ((h.updJtag ..).bumpFree)))))

theorem sbAccess (h : s.Shaped) (write : Bool) (cycle : Nat) : (s.sbAccess write cycle).Shaped :=
  .ite (h.updJtag ..) (.ite h (.ite (h.updJtag ..) (.ite (h.updJtag ..) ((h.issue ..).updJtag ..))))

theorem dmWrite (h : s.Shaped) (addr : Nat) (data : Word) (cycle : Nat) : (s.dmWrite addr data cycle).Shaped :=
  .ite (h.dmcontrol ..) (.ite h (.ite (h.updJtag ..) (.ite (h.updJtag ..)
      (.ite (h.dmCommand ..) (.ite (h.updJtag ..) (.ite (.ite ((h.updJtag ..).sbAccess ..) (h.updJtag ..))
      (.ite ((h.updJtag ..).sbAccess ..) h)))))))

theorem dmRead (h : s.Shaped) (addr cycle : Nat) : (s.dmRead addr cycle).1.Shaped :=
  .iteFst h (.iteFst h (.iteFst h.bumpFree (.iteFst h (.iteFst h
      (.iteFst h (.iteFst (.ite (h.sbAccess ..) h) (.iteFst h h)))))))

/-! ### Meloskern's parts

Lemmas about `Melo` alone; a change of Meloskern goes through `withMelo`. -/

end State.Shaped

namespace Melo.Shaped

variable {m : Melo}

/-- A change that leaves every list its length, and the values, the staging and the copies as they are. -/
theorem frame (h : m.Shaped) {running bo legal res acc owed pulse cyc cycN blk blkN blkNeutral blkCyc blkT cycFrac fixK chans dc dcN
    hist act ovr seg src good nextSeq heldSeq recs dropI dropE dropFirst dropLast sess untailed signs key sealOpen sealcnt comm
    commAbort pubCrc setAge ivlStart ivlEnd ivlBase ivlQ cmd cmdTime cmdValid cmdLegal rest reply vetoRun linkLost}
    (hlegal : legal.length = m.legal.length := by rfl) (hres : res.length = m.res.length := by rfl)
    (hacc : acc.length = m.acc.length := by rfl) (howed : owed.length = m.owed.length := by rfl)
    (hpulse : pulse.length = m.pulse.length := by rfl) (hhist : hist.length = m.hist.length := by rfl)
    (hdc : dc.length = m.dc.length := by rfl) (hseg : seg.length = m.seg.length := by rfl)
    (hsess : sess.length = m.sess.length := by rfl) (hcyc : cyc.length = m.cyc.length := by rfl)
    (hblk : blk.length = m.blk.length := by rfl) (hchans : chans.length = m.chans.length := by rfl)
    (hivlBase : ivlBase.length = m.ivlBase.length := by rfl) (hcmdLegal : cmdLegal.length = m.cmdLegal.length := by rfl) :
    Melo.Shaped { m with
      running := running, bo := bo, legal := legal, res := res, acc := acc, owed := owed, pulse := pulse, cyc := cyc, cycN := cycN,
      blk := blk, blkN := blkN, blkNeutral := blkNeutral, blkCyc := blkCyc, blkT := blkT, cycFrac := cycFrac, fixK := fixK,
      chans := chans, dc := dc, dcN := dcN, hist := hist, act := act, ovr := ovr, seg := seg, src := src, good := good,
      nextSeq := nextSeq, heldSeq := heldSeq, recs := recs, dropI := dropI, dropE := dropE, dropFirst := dropFirst,
      dropLast := dropLast, sess := sess, untailed := untailed, signs := signs, key := key, sealOpen := sealOpen,
      sealcnt := sealcnt, comm := comm, commAbort := commAbort, pubCrc := pubCrc, setAge := setAge, ivlStart := ivlStart,
      ivlEnd := ivlEnd, ivlBase := ivlBase, ivlQ := ivlQ, cmd := cmd, cmdTime := cmdTime, cmdValid := cmdValid,
      cmdLegal := cmdLegal, rest := rest, reply := reply, vetoRun := vetoRun, linkLost := linkLost } := by
  simpa [Melo.Shaped, hlegal, hres, hacc, howed, hpulse, hhist, hdc, hseg, hsess, hcyc, hblk, hchans, hivlBase, hcmdLegal] using h

theorem bounded (h : m.Shaped) : m.Bounded := ⟨h.2.2.1, h.2.2.2.1, h.2.2.2.2⟩

/-- Other values and another staging, within their bounds. -/
theorem ofBounded (h : m.Shaped) {vals stage} (hb : Melo.Bounded { m with vals := vals, stage := stage }) :
    Melo.Shaped { m with vals := vals, stage := stage } :=
  ⟨h.1, h.2.1, hb.vals, hb.room, hb.stage⟩

theorem unstaged (h : m.Shaped) : Melo.Shaped { m with stage := [] } :=
  h.ofBounded ⟨h.bounded.vals, Nat.zero_le _, fun _ hq => absurd hq List.not_mem_nil⟩

theorem records (h : m.Shaped) {n : Melo} (hn : m.RecordsOnly n) : n.Shaped := by
  obtain ⟨_, _, _, _, _, _, _, _, rfl⟩ := hn
  exact h

theorem legalLength (h : m.Shaped) : m.legal.length = 32 := h.1.1

theorem pulseLength (h : m.Shaped) : m.pulse.length = 5 := h.1.2.2.2.2.1

theorem dcLength (h : m.Shaped) : m.dc.length = 4 := h.1.2.2.2.2.2.2.1

theorem segLength (h : m.Shaped) : m.seg.length = 8 := h.1.2.2.2.2.2.2.2.1

theorem copyList (h : m.Shaped) :
    m.copies.length = 2 ∧ ∀ c ∈ m.copies, c.legal.length = 32 ∧ c.res.length = 32 ∧ c.acc.length = 5 :=
  h.1.2.2.2.2.2.2.2.2.2

theorem owedLength (h : m.Shaped) : m.owed.length = 5 := h.1.2.2.2.1

theorem cycLength (h : m.Shaped) : m.cyc.length = 3 := h.2.1.1

theorem blkLength (h : m.Shaped) : m.blk.length = 3 := h.2.1.2.1

theorem chansLength (h : m.Shaped) : m.chans.length = 15 := h.2.1.2.2.1

theorem ivlBaseLength (h : m.Shaped) : m.ivlBase.length = 32 := h.2.1.2.2.2.1

theorem cmdLegalLength (h : m.Shaped) : m.cmdLegal.length = 32 := h.2.1.2.2.2.2

protected theorem ite {n : Melo} (hm : m.Shaped) (hn : n.Shaped) {c : Prop} [Decidable c] : (if c then m else n).Shaped := by
  split
  · exact hm
  · exact hn

theorem foldl {α : Type} {f : Melo → α → Melo} (h : m.Shaped) (hf : ∀ n x, n.Shaped → (f n x).Shaped) (l : List α) :
    (l.foldl f m).Shaped := by
  induction l generalizing m with
  | nil => exact h
  | cons x l ih => exact ih (hf m x h)

theorem markPort (h : m.Shaped) (p bits : Nat) : (m.markPort p bits).Shaped := h.frame (hsess := length_upd ..)

theorem markRollback (h : m.Shaped) : m.markRollback.Shaped := h.frame (hsess := List.length_map ..)

theorem markSess (h : m.Shaped) (bits : Nat) : (m.markSess bits).Shaped := h.foldl (fun _ _ hn => hn.markPort ..) _

theorem markIvl (h : m.Shaped) (bits : Nat) : (m.markIvl bits).Shaped := h

theorem record (h : m.Shaped) (ivl : Bool) (flags t : Nat) (valid : Bool) (body : List Byte) :
    (m.record ivl flags t valid body).Shaped := h.records ((Melo.RecordsOnly.refl m).record ..)

theorem newIvl (h : m.Shaped) (sec q : Nat) : (m.newIvl sec q).Shaped :=
  h.frame (hivlBase := h.legalLength.trans h.ivlBaseLength.symm)

theorem addQ (h : m.Shaped) (k q : Nat) : (m.addQ k q).Shaped := h.frame (hlegal := length_upd ..) (hres := length_upd ..)

theorem addAc (h : m.Shaped) (x : Nat) (e : Int × Int × Nat) : (m.addAc x e).Shaped := ((h.addQ ..).addQ ..).addQ ..

theorem pulsesLow (h : m.Shaped) : m.pulsesLow.Shaped := h.frame (hpulse := h.pulseLength.symm)

/-- A copy that is read stands in the list, or is the one a list too short reads as. -/
theorem copyOf (h : m.Shaped) (i : Nat) : (nth ({} : MeterCopy) m.copies i).legal.length = 32 ∧
    (nth ({} : MeterCopy) m.copies i).res.length = 32 ∧ (nth ({} : MeterCopy) m.copies i).acc.length = 5 := by
  unfold nth
  rw [List.getD_eq_getElem?_getD]
  cases hc : m.copies[i]? with
  | none => exact ⟨rfl, rfl, rfl⟩
  | some c => exact h.copyList.2 c (List.mem_of_getElem? hc)

theorem newest (h : m.Shaped) : m.newest.1.legal.length = 32 ∧ m.newest.1.res.length = 32 ∧ m.newest.1.acc.length = 5 := by
  unfold Melo.newest
  dsimp only
  split
  · exact h.copyOf 1
  · exact h.copyOf 0

end Melo.Shaped

namespace State.Shaped

variable {s : State}

/-! ### MeloRec -/

/-- Repeated updates along the members of a list, where each keeps the shape. -/
theorem foldlMem {α : Type} {f : State → α → State} (h : s.Shaped) {l : List α} (hf : ∀ t, ∀ x ∈ l, t.Shaped → (f t x).Shaped) :
    (l.foldl f s).Shaped := by
  induction l generalizing s with
  | nil => exact h
  | cons x l ih =>
    exact ih (hf s x List.mem_cons_self h) fun t y hy => hf t y (List.mem_cons_of_mem _ hy)

theorem recorded (h : s.Shaped) {t : State} (ht : s.Recorded t) : t.Shaped := by
  obtain ⟨m, hm, rfl⟩ := ht
  exact h.withMelo (h.melo.records hm)

theorem mwr (h : s.Shaped) {a : Nat} (v : Word) (ha : 0x40C01000 ≤ a ∧ a < 0x40C03000 := by decide) : (s.mwr a v).Shaped :=
  h.withMelo (h.melo.ofBounded (h.melo.bounded.put ha _ v))

theorem mset (h : s.Shaped) {a : Nat} (hi lo v : Nat) (ha : 0x40C01000 ≤ a ∧ a < 0x40C03000 := by decide) :
    (s.mset a hi lo v).Shaped := h.mwr _ ha

theorem elapse (h : s.Shaped) (dt : Nat) : (s.elapse dt).Shaped := by
  have hm : Melo.Shaped (s.elapse dt).melo := h.melo.frame (hsess := List.length_map ..)
  exact h.frame.withMelo hm

theorem signTail (h : s.Shaped) : s.signTail.Shaped := h.withMelo (h.melo.records (Melo.RecordsOnly.refl s.melo).signTail)

theorem event (h : s.Shaped) (code : Nat) (data : List Byte) : (s.event code data).Shaped :=
  h.recorded ((State.Recorded.refl s).event ..)

theorem nwRecord (h : s.Shaped) (e : NwEvent) : (s.nwRecord e).Shaped := h.withMelo (h.melo.record ..)

theorem closeHead (h : s.Shaped) (p status t : Nat) (valid : Bool) (legal : List Nat) :
    (s.closeHead p status t valid legal).Shaped := by
  by_cases hopen : nth none s.melo.sess p = none
  · rw [State.closeHead_none hopen]
    exact h
  · obtain ⟨head, -, heq⟩ := State.closeHead_open hopen status t valid legal
    have hgap := (Melo.RecordsOnly.refl s.melo).tails.gap t valid
    have hlen : s.melo.sess.length = (s.melo.tails.gap t valid).sess.length := by rw [hgap.sess]
    rw [heq]
    exact h.withMelo ((h.melo.records hgap).frame (hsess := (length_upd ..).trans hlen))

theorem closeAll (h : s.Shaped) : s.closeAll.Shaped := h.foldl (fun _ _ ht => ht.closeHead ..) ..

theorem newIvl (h : s.Shaped) (sec q : Nat) : (s.newIvl sec q).Shaped := h.withMelo (h.melo.newIvl ..)

theorem closeIvl (h : s.Shaped) (b : Nat) : (s.closeIvl b).Shaped :=
  (h.withMelo (.ite (h.melo.record ..) h.melo)).newIvl ..

theorem measureVst (h : s.Shaped) (mv : Nat) : (s.measureVst mv).Shaped := ((h.mset ..).mwr _).mset ..

theorem nwCounts (h : s.Shaped) : s.nwCounts.Shaped := (h.mset ..).mset ..

theorem nwPush (h : s.Shaped) (e : NwEvent) : (s.nwPush e).Shaped := .nwCounts (.frame (.ite (h.mset ..) h))

theorem nwQueue (h : s.Shaped) (code : Nat) (data : List Byte) : (s.nwQueue code data).Shaped := .ite (h.nwPush ..) h

theorem commitQueue (h : s.Shaped) : s.commitQueue.Shaped := by
  unfold State.commitQueue
  split
  · exact h
  · exact h.frame

theorem nwCommit (h : s.Shaped) (mv : Nat) : (s.nwCommit mv).Shaped :=
  .ite (.ite (((h.measureVst ..).frame).nwCounts) (((h.measureVst ..).commitQueue).nwCounts)) h

/-! ### MeterFilter -/

theorem filtered (h : s.Shaped) (mods : List (List Word)) : (s.filtered mods).Shaped :=
  h.withMelo (h.melo.frame (hchans := by simp [h.melo.chansLength]))

/-! ### Meter -/

theorem pulseKick (h : s.Shaped) (n : Nat) : (s.pulseKick n).Shaped :=
  .ite (h.withMelo (h.melo.frame (howed := length_upd ..) (hpulse := length_upd ..))) h

theorem owe (h : s.Shaped) (n v : Nat) : State.Shaped { s with melo := { s.melo with owed := upd s.melo.owed n (fun _ => v) } } :=
  h.withMelo (h.melo.frame (howed := length_upd ..))

theorem pulseAdd (h : s.Shaped) (n dir q : Nat) : (s.pulseAdd n dir q).Shaped := by
  have hsum (acc owed : Nat) : State.Shaped { s with melo := { s.melo with
      acc := upd s.melo.acc n (fun _ => acc), owed := upd s.melo.owed n (fun _ => owed) } } :=
    h.withMelo (h.melo.frame (hacc := length_upd ..) (howed := length_upd ..))
  exact .ite (.ite ((((hsum ..).pulseKick ..).owe ..).mset ..) ((hsum ..).pulseKick ..)) h

theorem acSample (h : s.Shaped) : s.acSample.Shaped :=
  h.withMelo (h.melo.frame (hcyc := by simp [h.melo.cycLength]) (hblk := by simp [h.melo.blkLength]))

theorem dcSample (h : s.Shaped) (p : Nat) : (s.dcSample p).Shaped := by
  have hm (f : List Nat → List Nat) (g : DcSum → DcSum) :
      Melo.Shaped { s.melo with hist := upd s.melo.hist p f, dc := upd s.melo.dc p g } :=
    h.melo.frame (hhist := length_upd ..) (hdc := length_upd ..)
  exact .ite (pulseAdd (h.withMelo ((hm _ _).addQ ..).frame) ..) (h.withMelo (hm ..))

theorem markClips (h : s.Shaped) (mask : Nat) : (s.markClips mask).Shaped := by
  have hm : Melo.Shaped { s.melo with ovr := s.melo.ovr ||| mask } := h.melo.frame
  have hmarked := hm.foldl (f := fun m p => if mask.testBit (7 + p) || mask.testBit (11 + p) then m.markPort p 2 else m)
    (fun _ _ hn => .ite (hn.markPort ..) hn) (List.range 4)
  exact h.withMelo (.ite hmarked (hmarked.markIvl ..))

theorem closeCycle (h : s.Shaped) : s.closeCycle.Shaped := by
  unfold State.closeCycle
  extract_lets es m tot mtot m1 s1
  have hm : m.Shaped := h.melo.foldl (fun _ _ hn => hn.addAc ..) _
  have hm1 : m1.Shaped := .ite hm (hm.addAc ..).frame
  have hs1 : s1.Shaped := h.withMelo (hm1.frame (hcyc := hm1.cycLength.symm))
  exact .ite hs1 (hs1.pulseAdd ..)

theorem nextCycle (h : s.Shaped) (y0 y1 : Word) : (s.nextCycle y0 y1).Shaped :=
  (h.closeCycle.withMelo h.closeCycle.melo.frame).mset ..

theorem acSegments (h : s.Shaped) (n : Nat) (ii : List Nat) : (s.acSegments n ii).Shaped :=
  h.withMelo (h.melo.frame (hseg := by simp [h.melo.segLength]))

theorem dcSegments (h : s.Shaped) (n : Nat) : (s.dcSegments n).Shaped :=
  h.withMelo (h.melo.frame (hseg := by simp [h.melo.segLength]))

theorem melo_AC_window {x w : Nat} (hx : x < 4) (hw : w < 8) : 0x40C01000 ≤ MELO.AC x w ∧ MELO.AC x w < 0x40C03000 := by
  simp only [MELO.AC]
  omega

theorem melo_DC_window {p w : Nat} (hp : p < 4) (hw : w < 4) : 0x40C01000 ≤ MELO.DC p w ∧ MELO.DC p w < 0x40C03000 := by
  simp only [MELO.DC]
  omega

theorem phaseResults (h : s.Shaped) (n : Nat) {x : Nat} (hx : x < 4) (a : AcSum) (g2 : List (List Nat)) :
    (s.phaseResults n x a g2).Shaped := by
  have hw {w : Nat} (hw : w < 8) := melo_AC_window hx hw
  exact ((((((h.mwr _ (hw (by decide))).mwr _ (hw (by decide))).mwr _ (hw (by decide))).mwr _ (hw (by decide))).mwr _
    (hw (by decide))).mset _ _ _ (hw (by decide))).mwr _ (hw (by decide))

theorem totalResults (h : s.Shaped) (n neutral : Nat) (g : List Nat) : (s.totalResults n neutral g).Shaped :=
  (((((h.mwr _).mwr _).mwr _).mwr _).mset ..).mwr _

theorem harmResults (h : s.Shaped) {c : Nat} (hc : c < 7) (g : List Nat) : (s.harmResults c g).Shaped :=
  h.foldlMem (fun _ w hw ht => ht.mwr _ (by have := List.mem_range.1 hw; omega))

theorem blockFlags (h : s.Shaped) (actMask ovrMask : Nat) : (s.blockFlags actMask ovrMask).Shaped := by
  have hs := fun v w x => ((h.mset (a := MELO.MSTAT) 4 0 v).mwr (a := 0x40C01010) w).mwr (a := 0x40C0100C) x
  exact (hs ..).withMelo (hs ..).melo.frame

theorem acBlock (h : s.Shaped) : s.acBlock.Shaped := by
  unfold State.acBlock
  extract_lets n b g2 s1 s2 s3 s4
  have hs1 : s1.Shaped := h.foldlMem fun _ x hx ht => ht.phaseResults _ (by have := List.mem_range.1 hx; omega) ..
  have hs2 : s2.Shaped := hs1.totalResults ..
  have hs3 : s3.Shaped := hs2.foldlMem fun _ c hc ht => ht.harmResults (List.mem_range.1 hc) _
  have hs4 : s4.Shaped := ((hs3.mset ..).blockFlags ..).acSegments ..
  clear_value s4
  exact hs4.frame.withMelo (hs4.melo.frame (hblk := hs4.melo.blkLength.symm) (hchans := List.length_map ..))

theorem dcResults (h : s.Shaped) (n : Nat) {p : Nat} (hp : p < 4) : (s.dcResults n p).Shaped := by
  have hw {w : Nat} (hw : w < 4) := melo_DC_window hp hw
  exact (((h.mwr _ (hw (by decide))).mwr _ (hw (by decide))).mwr _ (hw (by decide))).mwr _ (hw (by decide))

theorem dcBlock (h : s.Shaped) : s.dcBlock.Shaped := by
  unfold State.dcBlock
  extract_lets s1 s2
  have hs1 : s1.Shaped := h.foldlMem fun _ p hp ht => ht.dcResults _ (List.mem_range.1 hp)
  have hs2 : s2.Shaped := (hs1.blockFlags ..).dcSegments ..
  clear_value s2
  exact hs2.withMelo (hs2.melo.frame (hdc := hs2.melo.dcLength.symm) (hchans := List.length_map ..))

theorem endBlocks (h : s.Shaped) : s.endBlocks.Shaped := .ite (.dcBlock (.ite h.acBlock h)) (.ite h.acBlock h)

theorem commit (h : s.Shaped) (ok : Bool) : (s.commit ok).Shaped := by
  have hm : Melo.Shaped (s.commit ok).melo := by
    obtain ⟨⟨hlegal, hres, hacc, howed, hpulse, hhist, hdc, hseg, hsess, hlen, hcopies⟩, hrest⟩ := h.melo
    exact ⟨⟨hlegal, hres, hacc, howed, hpulse, hhist, hdc, hseg, hsess, (length_upd ..).trans hlen,
      forall_mem_upd hcopies (fun _ _ => ⟨hlegal, hres, hacc⟩) _⟩, hrest⟩
  exact h.frame.withMelo hm

theorem meterResume (h : s.Shaped) : s.meterResume.Shaped := by
  unfold State.meterResume
  split
  next c one hnewest =>
  extract_lets src low m
  have hsrc : src.legal.length = 32 ∧ src.res.length = 32 ∧ src.acc.length = 5 := by
    unfold src
    split
    · simpa [hnewest] using h.melo.newest
    · exact h.melo.copyOf _
  obtain ⟨⟨-, -, -, howed, -, -, -, -, hsess, -⟩, ⟨-, -, -, hbase, hcmd⟩, hvals, hroom, hstage⟩ := h.melo
  have howed' : m.owed.length = 5 := by
    change (if s.freeBit then s.melo.owed else List.replicate 5 0).length = 5
    split
    · exact howed
    · rfl
  have hm : m.Shaped := ⟨⟨hsrc.1, hsrc.2.1, hsrc.2.2, howed', rfl, rfl, rfl, rfl, hsess, rfl, by simpa [m] using hsrc⟩,
    ⟨rfl, rfl, rfl, hbase, hcmd⟩, fun q hq => hvals q (List.mem_of_mem_filter hq), hroom, hstage⟩
  exact ((h.withMelo hm).mset ..).bumpFree

theorem closeLost (h : s.Shaped) : s.closeLost.Shaped := by
  unfold State.closeLost
  refine h.foldl (fun _ _ ht => ?_) ..
  split
  · exact (ht.closeHead ..).signTail
  · exact ht

theorem suspend (h : s.Shaped) : s.suspend.Shaped := by
  have hs := h.mset (a := MELO.MSTAT) 30 29 3
  exact (hs.withMelo (((hs.melo.pulsesLow.markSess ..).markIvl ..).frame)).event ..

theorem resume (h : s.Shaped) : s.resume.Shaped := ((h.mset ..).foldl (fun _ _ ht => ht.pulseKick ..) ..).event ..

/-! ### Ledger -/

theorem refresh (h : s.Shaped) : s.refresh.Shaped := by
  unfold State.refresh
  refine .ite ?_ h
  extract_lets cnt s1 s2 s3 s4
  have hs4 : s4.Shaped := ((((h.dropRegs ..).foldl (fun _ _ ht => ht.wr ..) _).foldl (fun _ _ ht => ht.wr ..) _).wr ..).setBit ..
  clear_value s4
  exact hs4.withMelo hs4.melo.frame

theorem postOwn (h : s.Shaped) (status : Nat) : (s.postOwn status).Shaped := (((h.wr ..).setBit ..).setBit ..).frame

theorem doorPend (h : s.Shaped) (init : Nat) : (doorPend init s).Shaped :=
  .ite (h.errorResp ..) ((h.frame.setBit ..).respond ..)

theorem doorWrite (h : s.Shaped) (init : Nat) (cancel pend : Bool) : (doorWrite init cancel pend s).Shaped :=
  .ite (h.errorResp ..) (.ite (.doorPend (.ite (h.postOwn ..) h) ..) (.respond (.ite (h.postOwn ..) h) ..))

theorem pollRest (h : s.Shaped) (veto : Bool) : (s.pollRest veto).Shaped := by
  have hs (n : Nat) : State.Shaped { s with melo := { s.melo with vetoRun := n, linkLost := false, rest := none } } :=
    h.withMelo h.melo.frame
  exact .refresh (.ite (.event (.ite (hs _).closeAll (hs _)) ..) (.ite (hs _).closeAll (hs _)))

theorem takeCmd (h : s.Shaped) (veto : Bool) : (s.takeCmd veto).Shaped := by
  have hs (l : LedgerBuf) : State.Shaped { s with ledger := l } := h.frame
  have hlen := h.melo.legalLength.trans h.melo.cmdLegalLength.symm
  exact .ite (((hs _).withMelo h.melo.frame).pollRest ..) (.ite ((hs _).withMelo (h.melo.frame (hcmdLegal := hlen)))
    (((hs _).withMelo h.melo.frame).pollRest ..))

theorem refuse (h : s.Shaped) (status : Nat) : (refuse s status).s.Shaped := h

theorem runAs (h : s.Shaped) {f : List Word → Bool → State → Answer} (hf : ∀ x y t, t.Shaped → (f x y t).s.Shaped)
    (opc : Nat) :
    (s.runAs opc f).Shaped := by
  unfold State.runAs
  split
  · refine .ite ?_ h
    extract_lets a u m s1
    have hu : u.Shaped := hf _ _ _ h
    have hm : m.Shaped := hu.melo
    clear_value m u
    have hs1 : s1.Shaped := hu.withMelo hm.frame
    clear_value s1
    split
    · exact hs1.pollRest ..
    · exact hs1
  · exact h

theorem mbxNop (h : s.Shaped) : (mbxNop s).s.Shaped := h

theorem sessionOpen (h : s.Shaped) (args : List Word) (veto : Bool) : (sessionOpen args veto s).s.Shaped :=
  .iteAnswer (h.refuse ..) (.iteAnswer (h.refuse ..) (.iteAnswer (h.refuse ..)
      (.iteAnswer (h.refuse ..) (.iteAnswer (h.refuse ..) (h.withMelo (h.melo.frame (hsess := length_upd ..)))))))

theorem sessionClose (h : s.Shaped) (args : List Word) : (sessionClose args s).s.Shaped :=
  .iteAnswer (h.refuse ..) (.iteAnswer (h.refuse ..) (h.closeHead ..))

theorem ledgerRead (h : s.Shaped) (args : List Word) : (ledgerRead args s).s.Shaped := .iteAnswer (h.refuse ..) h

theorem ledgerExport (h : s.Shaped) (args : List Word) : (ledgerExport args s).s.Shaped :=
  .iteAnswer (h.refuse ..) (.iteAnswer (h.refuse ..) (.iteAnswer (h.refuse ..) (h.withMelo h.melo.frame)))

theorem timeSetIvl (h : s.Shaped) (sec : Nat) : (s.timeSetIvl sec).Shaped := by
  have hm := (h.melo.markSess 4).markIvl 4
  exact .ite ((h.withMelo hm).newIvl ..) (.ite ((h.withMelo hm).closeIvl ..) (.ite (h.withMelo hm.frame) (h.withMelo hm)))

theorem timeSet (h : s.Shaped) (args : List Word) : (timeSet args s).s.Shaped := by
  unfold Machine.timeSet
  extract_lets new old gapT recent s1 s2
  refine .iteAnswer (h.refuse ..) (.event ?_ ..)
  have hs1 : s1.Shaped := h.timeSetIvl _
  clear_value s1
  exact hs1.frame.withMelo hs1.melo.frame

theorem commBegin (h : s.Shaped) : (commBegin s).s.Shaped :=
  .iteAnswer (h.refuse ..) (.iteAnswer (h.refuse ..) (h.withMelo h.melo.unstaged.frame))

theorem commWrite (h : s.Shaped) (args : List Word) : (commWrite args s).s.Shaped := by
  unfold Machine.commWrite
  extract_lets o v old
  split
  · exact h.refuse ..
  · split
    case isTrue => exact h.refuse ..
    case isFalse hok =>
      have hrws : rwsOk o v.toNat = true ∧ (old = false → s.melo.stage.length < 64) := by simpa using hok
      exact h.withMelo (h.melo.ofBounded (h.melo.bounded.staged hrws.1 hrws.2))

theorem applyStaged (h : s.Shaped) {e : Nat × Word} (he : 0x1000 ≤ e.1 ∧ e.1 < 0x3000) : (s.applyStaged e).Shaped := by
  have hset : (s.mwr (LEDGER.base + e.1) e.2).Shaped := h.mwr _ (by simp only [LEDGER.base]; omega)
  have hpulse (n : Nat) : (if tb e.2 31 then (s.mwr (LEDGER.base + e.1) e.2).melo.pulse else
      upd (s.mwr (LEDGER.base + e.1) e.2).melo.pulse n (fun _ => 0)).length = (s.mwr (LEDGER.base + e.1) e.2).melo.pulse.length := by
    split
    · rfl
    · exact length_upd ..
  exact .ite (hset.withMelo (hset.melo.frame (hacc := length_upd ..) (howed := length_upd ..) (hpulse := hpulse _))) hset

theorem paramRecords (h : s.Shaped) (fuel : Nat) (l : List (Nat × Word × Word)) : (State.paramRecords fuel l s).Shaped :=
  h.recorded ((State.Recorded.refl s).paramRecords ..)

theorem commCommit (h : s.Shaped) (args : List Word) : (commCommit args s).s.Shaped := by
  unfold Machine.commCommit
  refine .iteAnswer (h.refuse ..) (.iteAnswer (h.refuse ..) (.iteAnswer (h.refuse ..) (.iteAnswer (h.refuse ..) (.paramRecords ?_ ..))))
  have hs := h.foldlMem (f := State.applyStaged) (l := s.melo.stage) fun _ e he ht => ht.applyStaged (h.melo.bounded.stage e he)
  generalize s.melo.stage.foldl State.applyStaged s = s1 at hs ⊢
  exact hs.withMelo hs.melo.unstaged.frame

theorem commEnd (h : s.Shaped) (cause : Nat) : (s.commEnd cause).Shaped := (h.withMelo h.melo.unstaged.frame).event ..

theorem commAbort (h : s.Shaped) : (commAbort s).s.Shaped := .iteAnswer (h.commEnd ..) (h.refuse ..)

theorem keyGen (h : s.Shaped) : (keyGen s).s.Shaped := .iteAnswer (h.refuse ..) ((h.withMelo h.melo.frame).event ..)

theorem runTaken (h : s.Shaped) : s.runTaken.Shaped :=
  ((((((((((h.runAs (fun _ _ _ ht => ht.mbxNop) ..).runAs (fun _ _ _ ht => ht.sessionOpen ..) ..).runAs
      (fun _ _ _ ht => ht.sessionClose ..) ..).runAs (fun _ _ _ ht => ht.ledgerRead ..) ..).runAs
      (fun _ _ _ ht => ht.ledgerExport ..) ..).runAs (fun _ _ _ ht => ht.timeSet ..) ..).runAs (fun _ _ _ ht => ht.commBegin)
      ..).runAs (fun _ _ _ ht => ht.commWrite ..) ..).runAs (fun _ _ _ ht => ht.commCommit ..) ..).runAs
      (fun _ _ _ ht => ht.commAbort) ..).runAs (fun _ _ _ ht => ht.keyGen) ..

/-! ### Oxernal -/

theorem updLane (h : s.Shaped) (n : Nat) (f : OxLane → OxLane) : (s.updLane n f).Shaped :=
  h.frame (hox := length_upd ..)

theorem oxEnter (h : s.Shaped) (n st : Nat) : (s.oxEnter n st).Shaped := ((h.setFld ..).setFld ..).updLane ..

theorem oxStart (h : s.Shaped) (n : Nat) : (s.oxStart n).Shaped := (h.oxEnter ..).updLane ..

theorem oxUvLoss (h : s.Shaped) (n : Nat) : (s.oxUvLoss n).Shaped := h.foldl (fun _ _ ht => ht.uvLoss ..) ..

theorem oxLoss (h : s.Shaped) (n st : Nat) : (s.oxLoss n st).Shaped :=
  ((((h.oxEnter ..).count ..).setBit ..).irq ..).oxUvLoss ..

theorem oxLeave (h : s.Shaped) (n st : Nat) : (s.oxLeave n st).Shaped := .ite (h.oxLoss ..) (h.oxEnter ..)

theorem oxCtrlWrite (h : s.Shaped) (init n : Nat) (data : Word) : (oxCtrlWrite init n data s).Shaped :=
  .respond (.ite ((h.setBit ..).oxLeave ..) (.ite ((h.setBit ..).oxStart ..)
      (.ite (.ite ((h.setBit ..).oxEnter ..) ((h.setBit ..).oxLeave ..)) (h.setBit ..)))) ..

theorem oxCfgWrite (h : s.Shaped) (init n : Nat) (data : Word) : (oxCfgWrite init n data s).Shaped :=
  .ite (h.errorResp ..) (h.plainWrite ..)

theorem oxRefuse (h : s.Shaped) (n : Nat) : (s.oxRefuse n).Shaped := (((h.count ..).setBit ..).irq ..).updLane ..

theorem oxSelect (h : s.Shaped) (n vers : Nat) : (s.oxSelect n vers).Shaped :=
  .ite ((((h.oxEnter ..).setBit ..).irq ..).oxUvLoss ..) ((h.updLane ..).oxEnter ..)

theorem oxOffered (h : s.Shaped) (n : Nat) (bytes : List Byte) : (s.oxOffered n bytes).Shaped :=
  .ite (((((h.setFld ..).wr ..).wr ..).updLane ..).oxSelect ..) ((((h.setFld ..).wr ..).wr ..).updLane ..)

theorem oxUp (h : s.Shaped) (n : Nat) : (s.oxUp n).Shaped := (((h.oxEnter ..).irq ..).updLane ..).oxUvLoss ..

theorem oxDrv (h : s.Shaped) (n i d : Nat) : (s.oxDrv n i d).Shaped := .ite ((h.wr ..).irq ..) (h.wr ..)

theorem oxReply (h : s.Shaped) (n : Nat) (bytes : List Byte) : (s.oxReply n bytes).Shaped :=
  .ite ((((h.wr ..).setBit ..).irq ..).updLane ..) h

theorem oxReport (h : s.Shaped) (n : Nat) (bytes : List Byte) : (s.oxReport n bytes).Shaped := by
  unfold State.oxReport
  extract_lets _ _ s1 s2 s3 s4
  have hs1 : s1.Shaped := ((h.setFld ..).wr ..).count ..
  have hs2 : s2.Shaped := .ite (hs1.wr ..) hs1
  have hs3 : s3.Shaped := hs2.foldl (fun _ _ ht => ht.oxDrv ..) _
  have hs4 : s4.Shaped := (hs3.oxReply ..).updLane ..
  exact hs4.clocked (fun _ ht => ht.foldl (fun _ _ hu => hu.uvReport ..) ..) _

theorem sacmdWrite (h : s.Shaped) (init n : Nat) (data : Word) : (sacmdWrite init n data s).Shaped :=
  .ite (h.errorResp ..) (.ite (h.plainWrite ..) (.ite (h.errorResp ..)
      (((((h.plainWrite ..).setBit ..).setFld ..).bumpFree).updLane ..)))

/-! ### Pilot -/

theorem updCp (h : s.Shaped) (n : Nat) (f : Pilot → Pilot) : (s.updCp n f).Shaped :=
  h.frame (hpilot := length_upd ..)

theorem cpDrive (h : s.Shaped) (n : Nat) (v : Bool) : (s.cpDrive n v).Shaped := h.frame

theorem cpStart (h : s.Shaped) (n : Nat) : (s.cpStart n).Shaped := h.cpDrive ..

theorem cpCtrlWrite (h : s.Shaped) (init n : Nat) (data : Word) : (cpCtrlWrite init n data s).Shaped :=
  .respond (.ite (((((((h.setBit ..).setBit ..).setFld ..).setBit ..).wr ..).updCp ..).cpStart ..)
      (.ite ((((h.setBit ..).setBit ..).setBit ..).cpDrive ..) (h.setBit ..))) ..

theorem cpPwmcfgWrite (h : s.Shaped) (init n : Nat) (data : Word) : (cpPwmcfgWrite init n data s).Shaped :=
  ((h.plainWrite ..).setBit ..).updCp ..

theorem cpThrWrite (h : s.Shaped) (init n k : Nat) (data : Word) : (cpThrWrite init n k data s).Shaped :=
  .ite (h.errorResp ..) (h.plainWrite ..)

theorem cpMeasure (h : s.Shaped) (n : Nat) (cp pp : List Nat) : (s.cpMeasure n cp pp).Shaped :=
  .ite (.frame (.setBit (.ite (.wr (.ite (h.wr ..) h) ..) (.ite (h.wr ..) h)) ..))
      (.frame (.wr (.wr (.setBit (.ite (.wr (.ite (h.wr ..) h) ..) (.ite (h.wr ..) h)) ..) ..) ..))

theorem cpAction (h : s.Shaped) (n st : Nat) : (s.cpAction n st).Shaped :=
  .ite ((h.clocked (fun _ ht => ht.foldl (fun _ _ hu => .ite (hu.trip ..) hu) ..) ..).irq ..) h

/-! ### Recorder -/

theorem updRec (h : s.Shaped) (f : Recorder → Recorder) : (s.updRec f).Shaped := h.frame

theorem recCtrlWrite (h : s.Shaped) (init : Nat) (data : Word) : (recCtrlWrite init data s).Shaped :=
  .ite (.ite (h.errorResp ..) (((((h.setBit ..).setFld ..).wr ..).updRec ..).respond ..))
      (.ite (h.respond ..) ((((h.setBit ..).setFld ..).updRec ..).respond ..))

theorem recCfgWrite (h : s.Shaped) (init a : Nat) (data : Word) : (recCfgWrite init a data s).Shaped :=
  .ite (h.errorResp ..) (h.plainWrite ..)

theorem recIssue (h : s.Shaped) (a cycle : Nat) (bs : List Byte) (n : Nat) : (s.recIssue a cycle bs n).Shaped := by
  induction n generalizing s a bs with
  | zero => exact h
  | succ n ih => exact ih (h.issue ..) ..

theorem recWrite (h : s.Shaped) (cycle : Nat) : (s.recWrite cycle).Shaped :=
  .ite (((h.frame.count ..).setBit ..).irq ..) ((h.frame.recIssue ..).updRec ..)

theorem recTrigRow (h : s.Shaped) : s.recTrigRow.Shaped := ((((h.wr ..).wr ..).wr ..).wr ..).updRec ..

theorem recTrigger (h : s.Shaped) (events : Nat) : (s.recTrigger events).Shaped :=
  .ite h (.ite ((((h.setFld ..).setFld ..).irq ..).updRec ..) (.ite h (h.count ..)))

theorem trigctlWrite (h : s.Shaped) (init : Nat) (data : Word) : (trigctlWrite init data s).Shaped :=
  .respond (.ite (.bumpFree (.ite (.ite (.setFld (.ite (h.recTrigger ..) h) ..) (.ite (h.recTrigger ..) h))
      (.ite (.recTrigger (.ite (h.setFld ..) h) ..) (.ite (h.setFld ..) h))))
      (.ite (.setFld (.ite (h.recTrigger ..) h) ..) (.ite (h.recTrigger ..) h))) ..

/-! ### Access -/

theorem ctrlApply (h : s.Shaped) (p : PageRow) (i b init : Nat) (data : Word) (tick : Nat) :
    (s.ctrlApply p i b init data tick).Shaped := by
  unfold State.ctrlApply
  refine .ite (h.adpllCtrlWrite ..) (.ite (.ite (.ite ((h.plainWrite ..).fabRefresh) (h.plainWrite ..)) (h.errorResp ..)) ?_)
  split
  · exact h.convCtrlWrite ..
  · exact (h.atTime ..).pwmCtrlWrite ..
  · exact (h.atTime ..).gateCtrlWrite ..
  · exact h.setlCtrlWrite ..
  · exact h.mpCtrlWrite ..
  · exact h.healthCtrlWrite ..
  · exact h.recCtrlWrite ..
  · exact h.uartPlain ..
  · exact (h.plainWrite ..).spiRefresh ..
  · exact h.oxCtrlWrite ..
  · exact h.cpCtrlWrite ..
  · exact h.cmpCtrlWrite ..
  · exact h.cmpCtrlWrite ..
  · exact h.auxCtrlWrite ..
  · exact .ite (h.gsyncCtrlWrite ..) (h.plainWrite ..)

theorem ctrlWrite (h : s.Shaped) (p : PageRow) (i b init : Nat) (data : Word) (tick : Nat) :
    (s.ctrlWrite p i b init data tick).Shaped :=
  (h.ctrlApply ..).takesBalls ..

theorem wipeRegs (h : s.Shaped) (b size statKeep : Nat) (keep : List Nat) : (s.wipeRegs b size statKeep keep).Shaped :=
  (((h.dropRegs ..).wr ..).wr ..).foldl (fun _ _ ht => ht.wr ..) ..

theorem ptpWipe (h : s.Shaped) : s.ptpWipe.Shaped := ((h.dropRegs ..).wr ..).frame

theorem cmpWipe (h : s.Shaped) (n : Nat) : (s.cmpWipe n).Shaped :=
  .ite (.ite (((h.setBit ..).updCmp ..).firstDecision ..) (h.setBit ..)) ((h.updCmp ..).driveLine ..)

theorem tlrWipe (h : s.Shaped) (n : Nat) : (s.tlrWipe n).Shaped :=
  ((((h.updTpos _ _ (fun _ hp => hp.stopped)).foldl (fun _ _ ht => .ite (ht.disableInst ..) ht) ..).updTpos _ _
    (fun _ hp => by exact ⟨rfl, hp.2⟩)).wipeRegs ..).afterRun ..

/-- The eight run counts start anew. -/
theorem newRuns (h : s.Shaped) (f : TelArr → TelArr)
    (hf : ∀ t, (f t).pos = t.pos ∧ (f t).runs.length = 8 := by exact fun _ => ⟨rfl, rfl⟩) : (s.updTel f).Shaped :=
  h.frame (htel := ⟨(hf _).1, (hf _).2.trans h.telRuns.symm⟩)

theorem telcWipe (h : s.Shaped) : s.telcWipe.Shaped :=
  .wipeRegs (.newRuns (.ite (.setBit (.setBit (.ite (h.endRotation.updTel ..) h) ..) ..)
      (.spareRole (.setBit (.setBit (.ite (h.endRotation.updTel ..) h) ..) ..) ..)) _) ..

theorem adccWipe (h : s.Shaped) : s.adccWipe.Shaped := .wipeRegs (.frame (.ite ((h.endShadow ..).frame) h)) ..

theorem healthWipe (h : s.Shaped) : s.healthWipe.Shaped := (h.updHealth _ (fun _ _ => by exact rfl)).wipeRegs ..

theorem blockWipe (h : s.Shaped) (p : PageRow) (i b : Nat) : (s.blockWipe p i b).Shaped := by
  unfold State.blockWipe
  split
  · exact (h.updPos ..).wipeRegs ..
  · exact h.adccWipe
  · exact h.pwmWipe ..
  · exact (h.wipeRegs ..).frame
  · exact h.tlrWipe ..
  · exact h.telcWipe
  · exact h.setlWipe.wipeRegs ..
  · exact (h.mpWipe ..).wipeRegs ..
  · exact (h.gridWipe ..).wipeRegs ..
  · exact h.healthWipe
  · exact (h.ptpWipe.updMac ..).wipeRegs ..
  · exact (h.updCan ..).wipeRegs ..
  · exact (h.wipeRegs ..).frame
  · exact (h.wipeRegs ..).frame
  · exact (h.updRec ..).wipeRegs ..
  · exact (h.updUart ..).wipeRegs ..
  · exact (h.updSpi ..).wipeRegs ..
  · exact (h.wipeRegs ..).frame
  · exact (h.updLane ..).wipeRegs ..
  · exact (h.updCp ..).wipeRegs ..
  · exact (h.wipeRegs ..).foldl (fun _ _ ht => ht.cmpWipe ..) ..
  · exact (h.wipeRegs ..).foldl (fun _ _ ht => ht.cmpWipe ..) ..
  · exact ((h.updAux ..).wipeRegs ..).wr ..
  · exact h.wipeRegs ..

theorem softReset (h : s.Shaped) (p : PageRow) (i b init : Nat) (data : Word) (tick : Nat) :
    (s.softReset p i b init data tick).Shaped :=
  .ite (h.adpllCtrlWrite ..) (.ite ((h.atTime ..).gateCtrlWrite ..)
      (.ite (h.errorResp ..) ((((h.ctrlWrite ..).blockWipe ..).frame).respond ..)))

theorem blockWrite (h : s.Shaped) (p : PageRow) (i b init o : Nat) (data : Word) (sub tick : Nat) :
    (s.blockWrite p i b init o data sub tick).Shaped := by
  unfold State.blockWrite
  extract_lets _ plain t
  have hplain : plain.Shaped := h.plainWrite ..
  have ht : t.Shaped := h.atTime ..
  split
  · exact .ite (h.testenWrite ..) (.ite (h.verselWrite ..) (.ite (h.dbgopenWrite ..) hplain))
  · exact .ite (h.refcfgWrite ..) (.ite (h.fcwWrite ..) (.ite (h.outCfgWrite ..) hplain))
  · exact .ite (h.watchselWrite ..) hplain
  · exact .ite (h.completeWrite ..) hplain
  · exact .ite (h.entryApply ..) hplain
  · exact .ite (h.swtrigApply ..) (.ite (h.rotcfgApply ..) (.ite (h.tgCfgWrite ..) hplain))
  · split
    next ho => exact ht.liveWrite _ _ _ (by omega) _
    next =>
      exact .ite (ht.shadowWrite ..) (.ite (ht.pwmCfgWrite ..) (.ite (ht.tripcfgWrite ..) (.ite (ht.tripctlWrite ..) hplain)))
  · exact .ite (ht.startWrite ..) (.ite (ht.commitWrite ..) (.ite (ht.pwmcForceWrite ..) hplain))
  · exact .ite (ht.gcfgWrite ..) (.ite (ht.hbcfgWrite ..) (.ite (ht.hbctlWrite ..) hplain))
  · exact .ite (h.fallbackWrite ..) (.ite (h.kickWrite ..)
        (.ite (.ite (h.instCfgWrite ..) (.ite (h.instFieldWrite ..) hplain)) hplain))
  · exact .ite (h.telRotcfgWrite ..) (.ite (h.pgXWrite ..) hplain)
  · exact .ite (h.vbusWrite ..) (.ite (h.integWrite ..) (.ite (h.contctlWrite ..) (.ite (h.acctCfgWrite ..) hplain)))
  · exact .ite (h.iinWrite ..) (.ite (h.scanreqWrite ..) (.ite (h.mpCfgWrite ..) (.ite (h.mpRangeWrite ..) hplain)))
  · exact .ite (h.icWrite ..) (.ite (h.gsyncCfgWrite ..) (.ite (h.gfrtCfgWrite ..)
        (.ite (h.gfrtClrWrite ..) (.ite (h.gfrtBandWrite ..)
        (.ite (h.probecfgWrite ..) (.ite (h.pwinWrite ..) (.ite (h.gislClrWrite ..) (.ite (h.tableApplyWrite ..) hplain))))))))
  · exact .ite (h.logbaseWrite ..) hplain
  · exact .ite (h.anctlWrite ..) (.ite (h.pauseWrite ..) (.ite (h.rxtailWrite ..)
        (.ite (h.cntclrWrite ..) (.ite (h.ptpRateWrite ..)
        (.ite (h.ptpCtlWrite ..) (.ite (h.ppscfgWrite ..) (.ite (h.sakeyWrite ..) ((h.plainWrite ..).respond ..))))))))
  · exact .ite (h.canModeWrite ..) (.ite (h.canTimingWrite ..) hplain)
  · exact .ite (h.icmdWrite ..) hplain
  · exact .ite (h.ddrCfgWrite ..) hplain
  · exact .ite (h.ddrPllWrite ..) (.ite (h.ddrCfgWrite ..) (.ite (h.ddrInitWrite ..) hplain))
  · exact .ite (h.recCfgWrite ..) (.ite (h.trigctlWrite ..) hplain)
  · exact .ite (h.uartTxWrite ..) (.ite (h.uartPlain ..) hplain)
  · exact .ite (h.spiTxWrite ..) (.ite (h.spiCsWrite ..) hplain)
  · exact .ite (h.gpioDir ..) (.ite (h.gpioSet ..) (.ite (h.gpioClr ..) hplain))
  · exact .ite (h.oxCfgWrite ..) (.ite (h.sacmdWrite ..) hplain)
  · exact .ite (h.cpPwmcfgWrite ..) (.ite (h.cpThrWrite ..) hplain)
  · exact .ite (h.rstreqWrite ..) (.ite (h.wdogKickWrite ..) hplain)
  · exact .ite (h.checkWrite ..) (.ite (h.bankCfgWrite ..) (.ite (h.cmpCfgWrite ..) hplain))
  · exact .ite (h.checkWrite ..) (.ite (h.cmpCfgWrite ..) hplain)
  · exact .ite (h.axcfgWrite ..) (.ite (h.axclrWrite ..) hplain)
  · exact .ite (h.smbxCmdWrite ..) (.ite (h.rxctlWrite ..) hplain)
  · exact hplain

theorem pageWrite (h : s.Shaped) (p : PageRow) (i b init a : Nat) (data : Word) (sub tick : Nat) :
    (s.pageWrite p i b init a data sub tick).Shaped :=
  .ite (h.ifverWrite ..) (.ite (.ite (h.softReset ..) (h.ctrlWrite ..))
      (.ite (h.lockWrite ..) (.ite (h.respond ..) (.ite (h.uartPlain ..) (.ite (h.plainWrite ..) (h.blockWrite ..))))))

theorem ledgerWrite (h : s.Shaped) (init a : Nat) (data : Word) : (s.ledgerWrite init a data).Shaped :=
  .ite (h.errorResp ..) (.ite (h.doorWrite ..) (.ite ((h.wr ..).respond ..) (.ite ((h.wr ..).respond ..) (h.respond ..))))

theorem pageRead (h : s.Shaped) (p : PageRow) (i b init a tick : Nat) : (s.pageRead p i b init a tick).Shaped := by
  unfold State.pageRead
  extract_lets _ s
  have hs : s.Shaped := .ite (h.atTime ..) h
  split
  · exact hs.respond ..
  · exact .ite (hs.claimRead ..) (.ite (hs.resultReadApply ..)
        (.ite (.ite (hs.ptpLatch.respond ..) (.ite (hs.tsNsRead ..) (hs.respond ..)))
        (.ite (hs.uartRxRead ..) (.ite (hs.spiRxRead ..) (hs.respond ..)))))

theorem regAccess (h : s.Shaped) (init a len : Nat) (write : Bool) (data : Word) (sub tick : Nat) :
    (s.regAccess init a len write data sub tick).Shaped := by
  unfold State.regAccess
  extract_lets _
  split
  · exact .ite (h.errorResp ..) (.ite (h.pageWrite ..) (h.pageRead ..))
  · exact .ite (h.errorResp ..) (.ite (h.errorResp ..) (.ite (h.ledgerWrite ..) (h.respond ..)))

theorem withReaction (h : s.Shaped) {f : State → State} (hf : ∀ t, t.Shaped → (f t).Shaped) (init a sub : Nat)
    (write dead : Bool) :
    (s.withReaction init a sub write f dead).Shaped :=
  .ite ((hf _ h.frame).frame) (((hf _ h.frame).frame).initiatorReact ..)

theorem runWaiting (h : s.Shaped) (x : Access) : (s.runWaiting x).Shaped :=
  h.access (fun _ ht => .ite (ht.libWrite ..) (ht.withReaction (fun _ hu => hu.regAccess ..) ..)) ..

theorem retryWaiting (h : s.Shaped) : s.retryWaiting.Shaped := h.frame.foldl (fun _ _ ht => ht.runWaiting ..) ..

/-! ### Bus -/

theorem memWrite (h : s.Shaped) (p : Slip) : (s.memWrite p).Shaped :=
  .ite ((h.updTel ..).updSlip ..) (.ite (h.foldl (fun _ _ ht => ht.telStore ..) ..)
      (.ite (.ite (h.errorResp ..) (h.foldl (fun _ _ ht => ht.memStore ..) ..)) (h.foldl (fun _ _ ht => ht.memStore ..) ..)))

theorem memApply (h : s.Shaped) (p : Slip) : (s.memApply p).1.Shaped := by
  unfold State.memApply
  split
  · exact .iteFst (h.memWrite ..) h
  · exact .ite h (h.updClerk ..)
  · exact .updClerk (.ite (h.memWrite ..) h) ..
  · exact h.memWrite ..

theorem sramAccess (h : s.Shaped) (p : Slip) (us cycle : Nat) (ecc : Option EccError) :
    (s.sramAccess p us cycle ecc).1.Shaped :=
  .iteFst (.errorResp (.iteFst (h.eccSpan ..) h) ..) (.memApply (.iteFst (h.eccSpan ..) h) ..)

theorem ddrEcc (h : s.Shaped) (a : Nat) (ecc : Option EccError) : (s.ddrEcc a ecc).1.Shaped := by
  unfold State.ddrEcc
  split
  · exact h
  · exact .iteFst h (.iteFst (((h.count ..).wr ..).irq ..) ((h.count ..).irq ..))

theorem ddrAccess (h : s.Shaped) (p : Slip) (ecc : Option EccError) : (s.ddrAccess p ecc).1.Shaped :=
  .iteFst (h.errorResp ..) (.iteFst (.errorResp (.iteFst (h.ddrEcc ..) h) ..) (.memApply (.iteFst (h.ddrEcc ..) h) ..))

theorem target (h : s.Shaped) (p : Slip) (us cycle tick : Nat) (ecc : Option EccError) :
    (s.target p us cycle tick ecc).1.Shaped :=
  .iteFst (.iteFst (h.errorResp ..) (h.sramAccess ..)) (.iteFst
      (.iteFst (h.errorResp ..) (.iteFst (h.errorResp ..) (.iteFst (h.errorResp ..) (h.memApply ..))))
      (.iteFst (.iteFst (h.errorResp ..) (h.ddrAccess ..))
      (.iteFst (.iteFst (h.errorResp ..) (.iteFst (h.errorResp ..) (h.memApply ..)))
      (.iteFst (h.errorResp ..) (h.regAccess ..)))))

theorem applySlip (h : s.Shaped) (p : Slip) (us cycle target tick : Nat) (events : Word) (ecc : Option EccError) :
    (s.applySlip p us cycle target tick events ecc).Shaped :=
  ((h.frame.target ..).frame).updSlip ..

theorem tcmAccess (h : s.Shaped) (p : Slip) (us : Nat) (ecc : Option EccError) : (s.tcmAccess p us ecc).Shaped :=
  h.withReaction (fun _ ht => .ite ((ht.target ..).respond ..) (ht.target ..)) ..

theorem debugResponse (h : s.Shaped) (p : Slip) : (s.debugResponse p).Shaped := h.updJtag ..

theorem response (h : s.Shaped) (p : Slip) : (s.response p).Shaped := by
  unfold State.response
  extract_lets s1
  have hs1 : s1.Shaped := .ite h (h.initiatorReact ..)
  refine .ite ?_ (.ite (hs1.debugResponse ..) hs1)
  split
  next r hr =>
    have hrun : r.Shaped := hs1.run hr
    have hval (v : Option Word) : Run.Shaped { r with frdVal := v } := hrun
    exact .ite (hs1.setRun _ (hval _)) hs1
  · exact hs1

theorem dmaServe (h : s.Shaped) : s.dmaServe.Shaped := ((h.rxDrain ..).rxDrain ..).canDrain

end State.Shaped

end Sys2Proof.Machine
end

section
/-!
The shape of the state is kept by every command: each arm of `exec` answers a state of the shape.
-/
namespace Sys2Proof.Machine

-- Each lemma cites the ones before it: elaborated one after another, none waits in a thread of its own.
set_option Elab.async false

namespace State.Shaped

variable {s : State}

/-! ### Clocks -/

@[simp] theorem execAdpllRefcfgWrite (h : s.Shaped) (init pll : Nat) (data : Word) :
    Out.Shaped (execAdpllRefcfgWrite init pll data s) :=
  .next (h.writeAt (fun _ ht => ht.refcfgWrite ..) ..)

@[simp] theorem execAdpllFcwWrite (h : s.Shaped) (init pll : Nat) (data : Word) :
    Out.Shaped (execAdpllFcwWrite init pll data s) :=
  .next (h.writeAt (fun _ ht => ht.fcwWrite ..) ..)

@[simp] theorem execAdpllSoftReset (h : s.Shaped) (init pll : Nat) (data : Word) :
    Out.Shaped (execAdpllSoftReset init pll data s) :=
  .next (h.writeAt (fun _ ht => ht.adpllCtrlWrite ..) ..)

@[simp] theorem execAdpllLockDeclare (h : s.Shaped) (pll : Nat) (errs : List Int) (trims : List Nat) (worst maxErr : Nat) :
    Out.Shaped (execAdpllLockDeclare pll errs trims worst maxErr s) :=
  .next (.ite (h.lockDeclare ..) h)

@[simp] theorem execAdpllLockLoss (h : s.Shaped) (pll : Nat) (errs : List Int) :
    Out.Shaped (execAdpllLockLoss pll errs s) :=
  .next (.ite ((h.setFld ..).leaveLock ..) h)

@[simp] theorem execReferenceLoss (h : s.Shaped) (pll : Nat) : Out.Shaped (execReferenceLoss pll s) :=
  .next (.ite h (((((h.leaveLock ..).setBit ..).setBit ..).irq ..).setBit ..))

@[simp] theorem execReferenceReturn (h : s.Shaped) (pll : Nat) : Out.Shaped (execReferenceReturn pll s) :=
  .next (.ite (.ite ((h.setBit ..).setBit ..) (h.setBit ..)) h)

@[simp] theorem execGraceExpiry (h : s.Shaped) : Out.Shaped (execGraceExpiry s) :=
  .next (.ite (((h.setBit ..).irq ..).frame) h)

@[simp] theorem execAdpllOutputCfgWrite (h : s.Shaped) (init pll k : Nat) (data : Word) :
    Out.Shaped (execAdpllOutputCfgWrite init pll k data s) :=
  .next (h.writeAt (fun _ ht => ht.outCfgWrite ..) ..)

theorem newTrim (h : s.Shaped) (group new : Nat) :
    State.Shaped { s with clk := { s.clk with trims := upd s.clk.trims group (fun _ => new) } } :=
  h.frame (hclk := ⟨length_upd .., rfl⟩)

@[simp] theorem execIcalUpdate (h : s.Shaped) (group : Nat) (target : Int) (worst maxErr : Nat) :
    Out.Shaped (execIcalUpdate group target worst maxErr s) :=
  .next (.ite (.ite (((((h.setFld ..).setFld ..).newTrim ..).setBit ..).irq ..) (((h.setFld ..).setFld ..).newTrim ..)) h)

@[simp] theorem execClockMonitorWindow (h : s.Shaped) : Out.Shaped (execClockMonitorWindow s) := .next (h.setFld ..)

/-! ### Header -/

@[simp] theorem execPageLock (h : s.Shaped) (init base : Nat) : Out.Shaped (execPageLock init base s) :=
  .next (h.onPage (fun _ _ _ ht => ht.lockWrite ..) ..)

@[simp] theorem execPageUnlock (h : s.Shaped) (init base : Nat) : Out.Shaped (execPageUnlock init base s) :=
  .next (h.onPage (fun _ _ _ ht => ht.lockWrite ..) ..)

@[simp] theorem execVerselClose (h : s.Shaped) (init : Nat) : Out.Shaped (execVerselClose init s) :=
  .next (h.writeAt (fun _ ht => ht.verselWrite ..) ..)

@[simp] theorem execTestKeyTake (h : s.Shaped) (init : Nat) : Out.Shaped (execTestKeyTake init s) :=
  .next (h.writeAt (fun _ ht => ht.testenWrite ..) ..)

@[simp] theorem execTestKeyDrop (h : s.Shaped) (init : Nat) (data : Word) : Out.Shaped (execTestKeyDrop init data s) :=
  .next (h.writeAt (fun _ ht => ht.testenWrite ..) ..)

@[simp] theorem execDebugOpen (h : s.Shaped) (init : Nat) : Out.Shaped (execDebugOpen init s) :=
  .next (h.writeAt (fun _ ht => ht.dbgopenWrite ..) ..)

@[simp] theorem execDebugClose (h : s.Shaped) (init : Nat) (data : Word) : Out.Shaped (execDebugClose init data s) :=
  .next (h.writeAt (fun _ ht => ht.dbgopenWrite ..) ..)

@[simp] theorem execIntcClaim (h : s.Shaped) (init ctx : Nat) : Out.Shaped (execIntcClaim init ctx s) :=
  .next (h.readAt (fun _ ht => ht.claimRead ..) ..)

@[simp] theorem execIntcComplete (h : s.Shaped) (init ctx : Nat) (data : Word) :
    Out.Shaped (execIntcComplete init ctx data s) :=
  .next (h.writeAt (fun _ ht => ht.completeWrite ..) ..)

@[simp] theorem execFabricErrorResponse (h : s.Shaped) (init addr cause sub : Nat) (write : Bool) :
    Out.Shaped (execFabricErrorResponse init addr cause sub write s) :=
  .next (.errorResp (.ite ((h.setBit ..).irq ..) h) ..)

/-! ### Fabric -/

@[simp] theorem execSlipAged (h : s.Shaped) (coin cycle : Nat) : Out.Shaped (execSlipAged coin cycle s) := by
  unfold Machine.execSlipAged
  refine .next (h.clocked (fun _ ht => ?_) ..)
  split
  · exact ht
  · split
    · exact .ite ((ht.updSlip ..).fabCount ..) ht
    · exact ht

@[simp] theorem execSlipUrgent (h : s.Shaped) (coin at_ : Nat) : Out.Shaped (execSlipUrgent coin at_ s) := by
  unfold Machine.execSlipUrgent
  refine .next ((h.atTime ..).clocked (fun _ ht => ?_) ..)
  split
  · exact ht
  · split
    · exact ht
    · exact .ite (((ht.updSlip ..).irq ..).fabCount ..) ht

@[simp] theorem execWatchSelect (h : s.Shaped) (init : Nat) (data : Word) : Out.Shaped (execWatchSelect init data s) :=
  .next (h.writeAt (fun _ ht => ht.watchselWrite ..) ..)

/-! ### Can -/

@[simp] theorem execCanFrameReceive (h : s.Shaped) (m : Nat) (frame : CanFrame) (time tec rec_ : Nat) :
    Out.Shaped (execCanFrameReceive m frame time tec rec_ s) :=
  .next (.ite (.ite (h.canCounters ..) ((h.canCounters ..).canStore ..)) h)

@[simp] theorem execCanTxRequest (h : s.Shaped) (init m k : Nat) : Out.Shaped (execCanTxRequest init m k s) :=
  .next (h.writeAt (fun _ ht => ht.plainWrite ..) ..)

@[simp] theorem execCanFrameSent (h : s.Shaped) (m k time tec rec_ : Nat) :
    Out.Shaped (execCanFrameSent m k time tec rec_ s) :=
  .next (.ite (.ite (h.errorResp ..) (.ite ((((((h.canCounters ..).updCan ..).setBit ..).setBit ..).irq ..).canStore ..)
      (((((h.canCounters ..).updCan ..).setBit ..).setBit ..).irq ..))) h)

@[simp] theorem execCanBusOff (h : s.Shaped) (m tec rec_ : Nat) : Out.Shaped (execCanBusOff m tec rec_ s) :=
  .next (.ite (((h.canCounters ..).irq ..).updCan ..) h)

@[simp] theorem execCanRecover (h : s.Shaped) (init m : Nat) : Out.Shaped (execCanRecover init m s) :=
  .next (h.writeAt (fun _ ht => ht.canModeWrite ..) ..)

@[simp] theorem execBusOffRecoveryEnd (h : s.Shaped) (m : Nat) : Out.Shaped (execBusOffRecoveryEnd m s) :=
  .next (.ite ((h.canCounters ..).updCan ..) h)

/-! ### HostPorts -/

@[simp] theorem execXspiIndirectCmd (h : s.Shaped) (init : Nat) (data : Word) :
    Out.Shaped (execXspiIndirectCmd init data s) :=
  .next (h.writeAt (fun _ ht => ht.icmdWrite ..) ..)

@[simp] theorem execXspiCommandDone (h : s.Shaped) (status : Nat) (rdata : List Byte) (flash : List FlashByte) :
    Out.Shaped (execXspiCommandDone status rdata flash s) :=
  .next (h.clocked (fun _ ht => .ite (.foldl (.ite ((((ht.frame.setBit ..).wr ..).irq ..).idataPut ..)
      (((ht.frame.setBit ..).wr ..).irq ..)) (fun _ _ hu => hu.setByte ..) ..) ht) ..)

@[simp] theorem execXspiPollTimeout (h : s.Shaped) (status : Nat) : Out.Shaped (execXspiPollTimeout status s) :=
  .next (h.clocked (fun _ ht => .ite ((((ht.frame.setBit ..).wr ..).irq ..).bumpFree) ht) ..)

@[simp] theorem execDdrInitGo (h : s.Shaped) (init : Nat) : Out.Shaped (execDdrInitGo init s) :=
  .next (h.writeAt (fun _ ht => ht.ddrInitWrite ..) ..)

@[simp] theorem execDdrInitDone (h : s.Shaped) (ok : Bool) (stage lane : Nat) (eyes : List Nat) :
    Out.Shaped (execDdrInitDone ok stage lane eyes s) :=
  .next (h.clocked (fun _ ht => .ite (.ite (((((ht.foldl (fun _ _ hu => hu.wr ..) ..).wr ..).irq ..).bumpFree).bumpFree)
      (((ht.foldl (fun _ _ hu => hu.wr ..) ..).wr ..).irq ..)) ht) ..)

@[simp] theorem execDdrRetrain (h : s.Shaped) (refA refB : Nat) : Out.Shaped (execDdrRetrain refA refB s) :=
  .next (.ite (.bumpFree (.ite (((h.wr ..).irq ..).irq ..) ((h.wr ..).irq ..))) h)

@[simp] theorem execPhyPllUnlock (h : s.Shaped) : Out.Shaped (execPhyPllUnlock s) :=
  .next (h.clocked (fun _ ht => ht.irq ..) ..)

@[simp] theorem execUartTxPush (h : s.Shaped) (init m data : Nat) : Out.Shaped (execUartTxPush init m data s) :=
  .next (h.writeAt (fun _ ht => ht.uartTxWrite ..) ..)

@[simp] theorem execUartRxPop (h : s.Shaped) (init m : Nat) : Out.Shaped (execUartRxPop init m s) :=
  .next (h.readAt (fun _ ht => ht.uartRxRead ..) ..)

@[simp] theorem execUartByteReceive (h : s.Shaped) (m data : Nat) (perr ferr brk : Bool) :
    Out.Shaped (execUartByteReceive m data perr ferr brk s) :=
  .next (h.clocked (fun _ ht => .ite (.ite (ht.irq ..) (.ite
      (.irq (.ite (.irq (.ite (((ht.updUart ..).uartRefresh ..).irq ..) ((ht.updUart ..).uartRefresh ..)) ..)
      (.ite (((ht.updUart ..).uartRefresh ..).irq ..) ((ht.updUart ..).uartRefresh ..))) ..)
      (.ite (.irq (.ite (((ht.updUart ..).uartRefresh ..).irq ..) ((ht.updUart ..).uartRefresh ..)) ..)
      (.ite (((ht.updUart ..).uartRefresh ..).irq ..) ((ht.updUart ..).uartRefresh ..))))) ht) ..)

@[simp] theorem execUartByteSent (h : s.Shaped) (m : Nat) : Out.Shaped (execUartByteSent m s) := by
  unfold Machine.execUartByteSent
  refine .next (h.clocked (fun _ ht => .ite ?_ ht) ..)
  split
  · exact ht
  · exact (ht.updUart ..).uartRefresh ..

@[simp] theorem execSpiTxPush (h : s.Shaped) (init m : Nat) (data : Word) : Out.Shaped (execSpiTxPush init m data s) :=
  .next (h.writeAt (fun _ ht => ht.spiTxWrite ..) ..)

@[simp] theorem execSpiFrameDone (h : s.Shaped) (m : Nat) (data : Word) : Out.Shaped (execSpiFrameDone m data s) := by
  unfold Machine.execSpiFrameDone
  refine .next (h.clocked (fun _ ht => .ite ?_ ht) ..)
  split
  · exact ht
  · exact (((ht.updSpi ..).spiRefresh ..).irq ..).irq ..

@[simp] theorem execSpiRxPop (h : s.Shaped) (init m : Nat) : Out.Shaped (execSpiRxPop init m s) :=
  .next (h.readAt (fun _ ht => ht.spiRxRead ..) ..)

@[simp] theorem execGpioOutset (h : s.Shaped) (init : Nat) (data : Word) : Out.Shaped (execGpioOutset init data s) :=
  .next (h.writeAt (fun _ ht => ht.gpioSet ..) ..)

@[simp] theorem execGpioOutclr (h : s.Shaped) (init : Nat) (data : Word) : Out.Shaped (execGpioOutclr init data s) :=
  .next (h.writeAt (fun _ ht => ht.gpioClr ..) ..)

@[simp] theorem execGpioDirWrite (h : s.Shaped) (init : Nat) (data : Word) : Out.Shaped (execGpioDirWrite init data s) :=
  .next (h.writeAt (fun _ ht => ht.gpioDir ..) ..)

@[simp] theorem execGpioPinEdge (h : s.Shaped) (n : Nat) (level : Bool) : Out.Shaped (execGpioPinEdge n level s) :=
  .next (h.clocked (fun _ ht => .ite (.ite ((ht.setBit ..).irq ..) (ht.setBit ..)) ht) ..)

/-! ### Comparators -/

@[simp] theorem execComparatorCrossing (h : s.Shaped) (n : Nat) (vin : Int) (seen : Bool) :
    Out.Shaped (execComparatorCrossing n vin seen s) :=
  .next (.ite ((h.updCmp ..).cmpEval ..) h)

@[simp] theorem execFirstDecisionEnd (h : s.Shaped) (n : Nat) (vin : Int) : Out.Shaped (execFirstDecisionEnd n vin s) :=
  .next (.ite (((h.updCmp ..).cmpEval ..).updCmp ..) h)

@[simp] theorem execComparatorEnable (h : s.Shaped) (init n : Nat) (data : Word) (vin : Int) :
    Out.Shaped (execComparatorEnable init n data vin s) :=
  .next (h.writeAt (fun _ ht => (ht.updCmp ..).cmpCfgWrite ..) ..)

@[simp] theorem execThresholdWrite (h : s.Shaped) (init n : Nat) (data : Word) (vin : Int) :
    Out.Shaped (execThresholdWrite init n data vin s) :=
  .next (h.writeAt (fun _ ht => (ht.updCmp ..).cmpCfgWrite ..) ..)

@[simp] theorem execComparatorCheckStart (h : s.Shaped) (init : Nat) (pc : Bool) (data : Word) :
    Out.Shaped (execComparatorCheckStart init pc data s) :=
  .next (h.writeAt (fun _ ht => ht.checkWrite ..) ..)

@[simp] theorem execIfverSelect (h : s.Shaped) (init base : Nat) (data : Word) :
    Out.Shaped (execIfverSelect init base data s) :=
  .next (h.onPage (fun _ _ _ ht => ht.ifverWrite ..) ..)

@[simp] theorem execComparatorCheckEnd (h : s.Shaped) (pc : Bool) (seen : Nat) (vin : Int) :
    Out.Shaped (execComparatorCheckEnd pc seen vin s) :=
  .next (.ite (h.checkEnd ..) h)

/-! ### AuxDrivers -/

@[simp] theorem execAuxEnable (h : s.Shaped) (init : Nat) : Out.Shaped (execAuxEnable init s) :=
  .next (h.writeAt (fun _ ht => (ht.auxCtrlWrite ..).takesBalls ..) ..)

@[simp] theorem execAuxPrechargeEnd (h : s.Shaped) (n : Nat) : Out.Shaped (execAuxPrechargeEnd n s) :=
  .next (.ite (h.updAux ..) h)

@[simp] theorem execAuxPeriodStart (h : s.Shaped) : Out.Shaped (execAuxPeriodStart s) := .next (.ite (h.updAux ..) h)

@[simp] theorem execAuxDutyMatch (h : s.Shaped) (n : Nat) : Out.Shaped (execAuxDutyMatch n s) :=
  .next (.ite (h.updAux ..) h)

@[simp] theorem execHallCodeChange (h : s.Shaped) (i : Nat) : Out.Shaped (execHallCodeChange i s) :=
  .next ((h.setFld ..).hallRefresh)

@[simp] theorem execBootstrapUv (h : s.Shaped) (n : Nat) : Out.Shaped (execBootstrapUv n s) :=
  .next (.ite ((h.setBit ..).irq ..) h)

@[simp] theorem execBootstrapRecover (h : s.Shaped) (n : Nat) : Out.Shaped (execBootstrapRecover n s) :=
  .next (.ite (h.setBit ..) h)

@[simp] theorem execAuxOvercurrent (h : s.Shaped) : Out.Shaped (execAuxOvercurrent s) :=
  .next (.ite (.ite (((h.irq ..).updAux ..).setBit ..) (((h.irq ..).updAux ..).updAux ..)) h)

@[simp] theorem execAuxOcClear (h : s.Shaped) (init : Nat) (above : Bool) : Out.Shaped (execAuxOcClear init above s) :=
  .next (h.writeAt (fun _ ht => (ht.updAux ..).axclrWrite ..) ..)

/-! ### Ethernet -/

@[simp] theorem execPtpStep (h : s.Shaped) (init m at_ : Nat) : Out.Shaped (execPtpStep init m at_ s) :=
  .next ((h.atTime ..).writeAt (fun _ ht => ht.ptpCtlWrite ..) ..)

@[simp] theorem execPpsInEdge (h : s.Shaped) (at_ : Nat) (err : Int) : Out.Shaped (execPpsInEdge at_ err s) :=
  .next (.ite (((((h.atTime ..).wr ..).wr ..).irq ..).irq ..) (h.atTime ..))

@[simp] theorem execPpsOutSecond (h : s.Shaped) (at_ : Nat) : Out.Shaped (execPpsOutSecond at_ s) :=
  .next (.ite ((h.atTime ..).frame) (h.atTime ..))

@[simp] theorem execPpsOutFall (h : s.Shaped) (at_ : Nat) : Out.Shaped (execPpsOutFall at_ s) :=
  .next (.ite ((h.atTime ..).frame) (h.atTime ..))

@[simp] theorem execPtpTargetReached (h : s.Shaped) (at_ : Nat) : Out.Shaped (execPtpTargetReached at_ s) :=
  .next (.ite (((h.atTime ..).irq ..).irq ..) (h.atTime ..))

@[simp] theorem execTimestampPop (h : s.Shaped) (init m : Nat) : Out.Shaped (execTimestampPop init m s) :=
  .next (h.readAt (fun _ ht => ht.tsNsRead ..) ..)

@[simp] theorem execEthFrameReceive (h : s.Shaped) (m at_ : Nat) (frame : List Byte) (ptp : Option PtpPlace) (err : Int) :
    Out.Shaped (execEthFrameReceive m at_ frame ptp err s) :=
  .next (.ite (.ite ((h.atTime ..).count ..) (.ite ((h.atTime ..).count ..) ((h.atTime ..).rxAccept ..))) (h.atTime ..))

@[simp] theorem execEthFrameTransmit (h : s.Shaped) (m at_ : Nat) (ptp : Option PtpPlace) (err : Int) :
    Out.Shaped (execEthFrameTransmit m at_ ptp err s) := by
  unfold Machine.execEthFrameTransmit
  refine .next (.ite ?_ (h.atTime ..))
  split
  · exact h.atTime ..
  · extract_lets _
    split
    · exact (h.atTime ..).txSend ..
    · exact (((h.atTime ..).errorResp ..).foldl (fun _ _ ht => ht.ethWord ..) ..).setFld ..

@[simp] theorem execEthCounterClear (h : s.Shaped) (init m : Nat) : Out.Shaped (execEthCounterClear init m s) :=
  .next (h.writeAt (fun _ ht => ht.cntclrWrite ..) ..)

@[simp] theorem execEthPauseSend (h : s.Shaped) (init m : Nat) (data : Word) :
    Out.Shaped (execEthPauseSend init m data s) :=
  .next (h.writeAt (fun _ ht => ht.pauseWrite ..) ..)

@[simp] theorem execAnRestart (h : s.Shaped) (init m : Nat) (data : Word) : Out.Shaped (execAnRestart init m data s) :=
  .next (h.writeAt (fun _ ht => ht.anctlWrite ..) ..)

@[simp] theorem execLinkChange (h : s.Shaped) (m : Nat) (link done : Bool) (partner : Nat) :
    Out.Shaped (execLinkChange m link done partner s) :=
  .next (h.clocked (fun _ ht => .ite (.ite (.irq (.ite ((ht.wr ..).irq ..) (ht.wr ..)) ..)
      (.ite ((ht.wr ..).irq ..) (ht.wr ..))) ht) ..)

/-! ### Converters -/

@[simp] theorem execTriggerGroupFire (h : s.Shaped) (codes : List Nat) (cycle : Nat) :
    Out.Shaped (execTriggerGroupFire codes cycle s) :=
  .next (h.clocked (fun _ ht => .ite (ht.frame.frame.fireGroups ..) ht.frame) ..)

@[simp] theorem execAdcTrigEdge (h : s.Shaped) (j : Nat) (rising : Bool) : Out.Shaped (execAdcTrigEdge j rising s) :=
  .next (h.clocked (fun _ ht => .ite (ht.sendEvent ..) ht) ..)

@[simp] theorem execSwtrigWrite (h : s.Shaped) (init : Nat) (data : Word) (cycle : Nat) :
    Out.Shaped (execSwtrigWrite init data cycle s) :=
  .next (h.writeAt (fun _ ht => ht.swtrigApply ..) ..)

@[simp] theorem execTriggerGroupCfgWrite (h : s.Shaped) (init k : Nat) (data : Word) :
    Out.Shaped (execTriggerGroupCfgWrite init k data s) :=
  .next (h.writeAt (fun _ ht => ht.tgCfgWrite ..) ..)

@[simp] theorem execConversionEnd (h : s.Shaped) (n : Nat) (vin vinSpare : Int) :
    Out.Shaped (execConversionEnd n vin vinSpare s) :=
  .next (h.clocked (fun _ ht => ht.conversionEnd ..) ..)

@[simp] theorem execResultPush (h : s.Shaped) (n cycle : Nat) : Out.Shaped (execResultPush n cycle s) := by
  unfold Machine.execResultPush
  refine .next (h.clocked (fun _ ht => ht.clocked (fun _ hu => ?_) ..) ..)
  split
  · exact hu
  · exact .ite (((hu.setBit ..).updPos ..).issue ..) hu

@[simp] theorem execResultRead (h : s.Shaped) (init n : Nat) : Out.Shaped (execResultRead init n s) :=
  .next (h.readAt (fun _ ht => ht.resultReadApply ..) ..)

@[simp] theorem execEntryWrite (h : s.Shaped) (init n k : Nat) (b : Bool) (data : Word) :
    Out.Shaped (execEntryWrite init n k b data s) :=
  .next (h.writeAt (fun _ ht => ht.entryApply ..) ..)

@[simp] theorem execConverterDisable (h : s.Shaped) (init n : Nat) : Out.Shaped (execConverterDisable init n s) :=
  .next (h.writeAt (fun _ ht => ht.convCtrlWrite ..) ..)

@[simp] theorem execConverterRotcfgWrite (h : s.Shaped) (init : Nat) (data : Word) :
    Out.Shaped (execConverterRotcfgWrite init data s) :=
  .next (h.writeAt (fun _ ht => ht.rotcfgApply ..) ..)

@[simp] theorem execConverterShadowStart (h : s.Shaped) (spare p : Nat) :
    Out.Shaped (execConverterShadowStart spare p s) :=
  .next (h.clocked (fun _ ht => .ite ((((ht.wr ..).wr ..).setBit ..).frame) ht) ..)

@[simp] theorem execConverterHandover (h : s.Shaped) : Out.Shaped (execConverterHandover s) :=
  .next (h.clocked (fun _ ht => .ite ht.handover ht) ..)

@[simp] theorem execConverterShadowAbandon (h : s.Shaped) : Out.Shaped (execConverterShadowAbandon s) :=
  .next (h.clocked (fun _ ht => .ite ((((ht.endShadow ..).count ..).irq ..).frame) ht) ..)

/-! ### Gate -/

@[simp] theorem execInterlockExpiry (h : s.Shaped) (n at_ : Nat) : Out.Shaped (execInterlockExpiry n at_ s) :=
  .next (h.clocked (fun _ ht => .ite ((ht.atTime ..).hbRefresh ..) ht) ..)

@[simp] theorem execBothOnCommand (h : s.Shaped) (n at_ : Nat) : Out.Shaped (execBothOnCommand n at_ s) :=
  .next (h.clocked (fun _ ht => .ite ((ht.atTime ..).bothOn ..) ht) ..)

@[simp] theorem execFaultBallAssert (h : s.Shaped) (n at_ : Nat) (low : Bool) :
    Out.Shaped (execFaultBallAssert n at_ low s) :=
  .next (h.clocked (fun _ ht => .ite ((ht.atTime ..).faultBall ..) ht) ..)

@[simp] theorem execOvercurrentAssert (h : s.Shaped) (n at_ : Nat) : Out.Shaped (execOvercurrentAssert n at_ s) :=
  .next (h.clocked (fun _ ht => .ite ((ht.atTime ..).takeFault ..) (ht.atTime ..)) ..)

@[simp] theorem execBlankingWindowEnd (h : s.Shaped) (n at_ : Nat) : Out.Shaped (execBlankingWindowEnd n at_ s) :=
  .next (h.clocked (fun _ ht => .ite (.ite (((ht.atTime ..).updHb ..).takeFault ..) ((ht.atTime ..).updHb ..)) (ht.atTime ..))
      ..)

@[simp] theorem execRetryWaitEnd (h : s.Shaped) (n at_ : Nat) : Out.Shaped (execRetryWaitEnd n at_ s) :=
  .next (h.clocked (fun _ ht => .ite ((ht.atTime ..).waitEnd ..) (ht.atTime ..)) ..)

@[simp] theorem execTryResetTimer (h : s.Shaped) (n : Nat) : Out.Shaped (execTryResetTimer n s) :=
  .next (h.clocked (fun _ ht => .ite (ht.setFld ..) ht) ..)

@[simp] theorem execHbEnable (h : s.Shaped) (init n tick : Nat) : Out.Shaped (execHbEnable init n tick s) :=
  .next (h.writeAt (fun _ ht => (ht.atTime ..).hbctlWrite ..) ..)

@[simp] theorem execHbDisable (h : s.Shaped) (init n tick : Nat) : Out.Shaped (execHbDisable init n tick s) :=
  .next (h.writeAt (fun _ ht => (ht.atTime ..).hbctlWrite ..) ..)

@[simp] theorem execShutdownPhase2 (h : s.Shaped) (g at_ : Nat) : Out.Shaped (execShutdownPhase2 g at_ s) :=
  .next (h.clocked (fun _ ht => .ite ((ht.atTime ..).shutPhase2 ..) ht) ..)

@[simp] theorem execShutdownPhase3 (h : s.Shaped) (g at_ : Nat) : Out.Shaped (execShutdownPhase3 g at_ s) :=
  .next (h.clocked (fun _ ht => .ite ((ht.atTime ..).shutPhase3 ..) ht) ..)

@[simp] theorem execGateGroupEnable (h : s.Shaped) (init g tick : Nat) : Out.Shaped (execGateGroupEnable init g tick s) :=
  .next (h.writeAt (fun _ ht => ((ht.atTime ..).gateCtrlWrite ..).takesBalls ..) ..)

@[simp] theorem execGateGroupDisable (h : s.Shaped) (init g tick : Nat) :
    Out.Shaped (execGateGroupDisable init g tick s) :=
  .next (h.writeAt (fun _ ht => (ht.atTime ..).gateCtrlWrite ..) ..)

@[simp] theorem execGateVetoAssert (h : s.Shaped) (at_ : Nat) : Out.Shaped (execGateVetoAssert at_ s) :=
  .next ((h.atTime ..).assertVeto)

/-! ### Pwm -/

@[simp] theorem execDeadTimeExpiry (h : s.Shaped) (n : Nat) : Out.Shaped (execDeadTimeExpiry n s) := by
  unfold Machine.execDeadTimeExpiry
  refine .next (h.clocked (fun _ ht => .ite ?_ ht) ..)
  split
  · exact ((ht.atTime ..).updGen ..).pwmOut ..
  · exact ((ht.atTime ..).updGen ..).pwmOut ..
  · exact ht

@[simp] theorem execPwmCompareMatch (h : s.Shaped) (n k : Nat) : Out.Shaped (execPwmCompareMatch n k s) :=
  .next (h.clocked (fun _ ht => .ite ((ht.atTime ..).fireEdge ..) ht) ..)

@[simp] theorem execSyncReceive (h : s.Shaped) (n i : Nat) : Out.Shaped (execSyncReceive n i s) := by
  unfold Machine.execSyncReceive
  refine .next (h.clocked (fun _ ht => ?_) ..)
  split
  · exact ht
  · exact .ite (.ite (((ht.atTime ..).updGen ..).pwmFlag ..)
        (.ite ((((ht.atTime ..).updGen ..).updGen ..).pwmFlag ..) (((ht.atTime ..).updGen ..).updGen ..))) ht

@[simp] theorem execSyncInEdge (h : s.Shaped) (rising : Bool) (at_ : Nat) : Out.Shaped (execSyncInEdge rising at_ s) :=
  .next (h.clocked (fun _ ht => .ite (((ht.atTime ..).frame).syncOutPulse ..) ht) ..)

@[simp] theorem execSyncOutPulseEnd (h : s.Shaped) : Out.Shaped (execSyncOutPulseEnd s) := by
  unfold Machine.execSyncOutPulseEnd
  refine .next (h.clocked (fun _ ht => ?_) ..)
  split
  · exact (ht.atTime ..).frame
  · exact ht

@[simp] theorem execPwmPeriodStart (h : s.Shaped) (n : Nat) : Out.Shaped (execPwmPeriodStart n s) := by
  unfold Machine.execPwmPeriodStart
  refine .next (h.clocked (fun _ ht => .ite ?_ ht) ..)
  split
  · exact ((ht.atTime ..).updGen ..).beginPeriod ..
  · exact ht

@[simp] theorem execFollowerReachPer (h : s.Shaped) (n : Nat) : Out.Shaped (execFollowerReachPer n s) :=
  .next (h.clocked (fun _ ht => .ite (.ite ((ht.atTime ..).setBit ..) (((ht.atTime ..).pwmFlag ..).beginPeriod ..)) ht) ..)

@[simp] theorem execPwmEnable (h : s.Shaped) (init n tick : Nat) : Out.Shaped (execPwmEnable init n tick s) :=
  .next (h.writeAt (fun _ ht => ((ht.atTime ..).pwmCtrlWrite ..).takesBalls ..) ..)

@[simp] theorem execPwmDisable (h : s.Shaped) (init n tick : Nat) : Out.Shaped (execPwmDisable init n tick s) :=
  .next (h.writeAt (fun _ ht => (ht.atTime ..).pwmCtrlWrite ..) ..)

@[simp] theorem execPwmStart (h : s.Shaped) (init k : Nat) (data : Word) (tick : Nat) :
    Out.Shaped (execPwmStart init k data tick s) :=
  .next (h.writeAt (fun _ ht => (ht.atTime ..).startWrite ..) ..)

@[simp] theorem execLiveCompareWrite (h : s.Shaped) (init sub n k : Nat) (data : Word) (tick : Nat) :
    Out.Shaped (execLiveCompareWrite init sub n k data tick s) :=
  .next (h.writeAt (fun _ ht => (ht.atTime ..).liveWrite _ _ _ (Nat.mod_lt _ (by decide)) _) ..)

@[simp] theorem execShadowWrite (h : s.Shaped) (init n k : Nat) (data : Word) :
    Out.Shaped (execShadowWrite init n k data s) :=
  .next (h.writeAt (fun _ ht => ht.shadowWrite ..) ..)

@[simp] theorem execPwmCommit (h : s.Shaped) (init : Nat) (data : Word) (tick : Nat) :
    Out.Shaped (execPwmCommit init data tick s) :=
  .next (h.writeAt (fun _ ht => (ht.atTime ..).commitWrite ..) ..)

@[simp] theorem execTripCfgWrite (h : s.Shaped) (init n : Nat) (data : Word) (tripIn tick : Nat) :
    Out.Shaped (execTripCfgWrite init n data tripIn tick s) :=
  .next (h.writeAt (fun _ ht => ((ht.seeTripIn ..).atTime ..).tripcfgWrite ..) ..)

@[simp] theorem execTripInputActive (h : s.Shaped) (n at_ tripIn : Nat) :
    Out.Shaped (execTripInputActive n at_ tripIn s) :=
  .next (h.tripSettled ..)

@[simp] theorem execTripInputInactive (h : s.Shaped) (n at_ tripIn : Nat) :
    Out.Shaped (execTripInputInactive n at_ tripIn s) :=
  .next (h.tripSettled ..)

@[simp] theorem execTripForce (h : s.Shaped) (init n : Nat) (data : Word) (tick : Nat) :
    Out.Shaped (execTripForce init n data tick s) :=
  .next (h.writeAt (fun _ ht => (ht.atTime ..).tripctlWrite ..) ..)

@[simp] theorem execTripClear (h : s.Shaped) (init n : Nat) (data : Word) (tick : Nat) :
    Out.Shaped (execTripClear init n data tick s) :=
  .next (h.writeAt (fun _ ht => (ht.atTime ..).tripctlWrite ..) ..)

@[simp] theorem execPwmcForce (h : s.Shaped) (init k : Nat) (data : Word) (tick : Nat) :
    Out.Shaped (execPwmcForce init k data tick s) :=
  .next (h.writeAt (fun _ ht => (ht.atTime ..).pwmcForceWrite ..) ..)

/-! ### TellerMem -/

@[simp] theorem execOpLdw (h : s.Shaped) (n : Nat) (w : Word) (us cycle : Nat) (ecc : Option EccError) :
    Out.Shaped (execOpLdw n w us cycle ecc s) :=
  .next (h.lOp (fun _ _ ht hr => ht.unitLoad hr ..) ..)

@[simp] theorem execOpStw (h : s.Shaped) (n : Nat) (w : Word) : Out.Shaped (execOpStw n w s) :=
  .next (h.lOp (fun _ _ ht hr => ⟨ht, hr⟩) ..)

@[simp] theorem execOpLdq (h : s.Shaped) (n : Nat) (w : Word) (us cycle : Nat) (ecc : Option EccError) :
    Out.Shaped (execOpLdq n w us cycle ecc s) :=
  .next (h.lOp (fun _ _ ht hr => ht.unitLoad hr ..) ..)

@[simp] theorem execOpStq (h : s.Shaped) (n : Nat) (w : Word) : Out.Shaped (execOpStq n w s) :=
  .next (h.lOp (fun _ _ ht hr => ⟨ht, hr⟩) ..)

@[simp] theorem execOpLdin (h : s.Shaped) (n : Nat) (w : Word) : Out.Shaped (execOpLdin n w s) :=
  .next (h.lOp (fun _ _ ht hr => ⟨ht, hr⟩) ..)

@[simp] theorem execOpLddep (h : s.Shaped) (n : Nat) (w : Word) (us cycle : Nat) (ecc : Option EccError) :
    Out.Shaped (execOpLddep n w us cycle ecc s) :=
  .next (h.lOp (fun _ _ ht hr => ht.unitLoad hr ..) ..)

@[simp] theorem execOpOut (h : s.Shaped) (n : Nat) (w : Word) (cycle : Nat) : Out.Shaped (execOpOut n w cycle s) :=
  .next (h.lOp (fun _ _ ht hr => ht.unitIssue hr ..) ..)

@[simp] theorem execOpPush (h : s.Shaped) (n : Nat) (w : Word) (cycle : Nat) : Out.Shaped (execOpPush n w cycle s) :=
  .next (h.lOp (fun _ _ ht hr => ht.pushIssue hr ..) ..)

@[simp] theorem execOpFwr (h : s.Shaped) (n : Nat) (w : Word) (cycle : Nat) : Out.Shaped (execOpFwr n w cycle s) :=
  .next (h.lOp (fun _ _ ht hr => .ite (ht.unitIssue hr ..) ⟨ht.fabErr .., hr⟩) ..)

@[simp] theorem execOpTrig (h : s.Shaped) (n : Nat) (w : Word) (cycle : Nat) : Out.Shaped (execOpTrig n w cycle s) :=
  .next (h.lOp (fun _ _ ht hr => ht.unitIssue hr ..) ..)

@[simp] theorem execOpFrd (h : s.Shaped) (n : Nat) (w : Word) (cycle : Nat) : Out.Shaped (execOpFrd n w cycle s) :=
  have hfrd (r : Run) (hr : r.Shaped) (v : Nat) : Run.Shaped { r with frd := some v, frdTag := none, frdVal := none } := hr
  .next (h.lOp (fun _ _ ht hr => .ite (ht.unitIssue (hfrd _ hr _) ..) ⟨ht.fabErr .., hr⟩) ..)

@[simp] theorem execOpFence (h : s.Shaped) (n : Nat) (w : Word) : Out.Shaped (execOpFence n w s) :=
  .next (h.lOp (fun _ _ ht hr => ⟨ht, hr⟩) ..)

@[simp] theorem execOpPgstep (h : s.Shaped) (n : Nat) (w : Word) : Out.Shaped (execOpPgstep n w s) :=
  .next (h.lOp (fun _ _ ht hr => ⟨.ite (ht.pgStep ..) (ht.fabErr ..), hr⟩) ..)

@[simp] theorem execBundleStallEnd (h : s.Shaped) (n cycle : Nat) (fixedEnds : Bool) :
    Out.Shaped (execBundleStallEnd n cycle fixedEnds s) := by
  unfold Machine.execBundleStallEnd
  refine .next (h.clocked (fun _ ht => ?_) ..)
  split
  · exact ht
  next r hr =>
    obtain ⟨hq, hq2⟩ := ht.stallIssue (ht.run hr) n cycle
    exact (hq.setRun _ (hq2.unstall ..)).bundleEnd ..

/-! ### TellerArray -/

@[simp] theorem execPushArrival (h : s.Shaped) (n cycle : Nat) : Out.Shaped (execPushArrival n cycle s) := by
  unfold Machine.execPushArrival
  refine .next (h.clocked (fun _ ht => ?_) ..)
  split
  · exact ht
  · exact ht.land ..

@[simp] theorem execKickWrite (h : s.Shaped) (init n : Nat) (data : Word) (cycle : Nat) :
    Out.Shaped (execKickWrite init n data cycle s) :=
  .next (h.writeAt (fun _ ht => ht.kickWrite ..) ..)

@[simp] theorem execInstanceStart (h : s.Shaped) (n us cycle : Nat) : Out.Shaped (execInstanceStart n us cycle s) := by
  unfold Machine.execInstanceStart
  refine .next (h.clocked (fun _ ht => .ite ?_ ht) ..)
  split
  · exact ht.startInst ..
  · exact ht

@[simp] theorem execInstanceEnable (h : s.Shaped) (init n i : Nat) (data : Word) :
    Out.Shaped (execInstanceEnable init n i data s) :=
  .next (h.writeAt (fun _ ht => ht.instCfgWrite ..) ..)

@[simp] theorem execInstanceDisable (h : s.Shaped) (init n i : Nat) (data : Word) :
    Out.Shaped (execInstanceDisable init n i data s) :=
  .next (h.writeAt (fun _ ht => ht.instCfgWrite ..) ..)

@[simp] theorem execLibraryWrite (h : s.Shaped) (init addr : Nat) (bytes : List Byte) :
    Out.Shaped (execLibraryWrite init addr bytes s) :=
  .next (.ite (h.errorResp ..) (.ite (h.errorResp ..) (h.access (fun _ ht => ht.libWrite ..) ..)))

@[simp] theorem execPgXWrite (h : s.Shaped) (init k : Nat) (data : Word) : Out.Shaped (execPgXWrite init k data s) :=
  .next (h.writeAt (fun _ ht => ht.pgXWrite ..) ..)

@[simp] theorem execTellerRotationStart (h : s.Shaped) (p q : Nat) : Out.Shaped (execTellerRotationStart p q s) :=
  .next (.ite ((((h.copyArea ..).wr ..).setBit ..).newRuns _) h)

@[simp] theorem execTellerCopyEnd (h : s.Shaped) : Out.Shaped (execTellerCopyEnd s) :=
  .next (.ite ((h.setFld ..).shadowProgress) h)

@[simp] theorem execTellerShadowMismatch (h : s.Shaped) : Out.Shaped (execTellerShadowMismatch s) :=
  .next (.ite ((((h.endRotation.count ..).irq ..).updTel ..).updTpos ..) h)

@[simp] theorem execTellerHandover (h : s.Shaped) : Out.Shaped (execTellerHandover s) :=
  .next (.ite (((((h.swapUnits ..).endRotation).count ..).irq ..).updTel ..) h)

@[simp] theorem execTellerRotationAbandon (h : s.Shaped) : Out.Shaped (execTellerRotationAbandon s) :=
  .next (.ite (((h.endRotation.count ..).irq ..).updTel ..) h)

@[simp] theorem execTellerRotcfgWrite (h : s.Shaped) (init : Nat) (data : Word) :
    Out.Shaped (execTellerRotcfgWrite init data s) :=
  .next (h.writeAt (fun _ ht => ht.telRotcfgWrite ..) ..)

@[simp] theorem execTellerUnitError (h : s.Shaped) (u : Nat) : Out.Shaped (execTellerUnitError u s) :=
  .next (.ite ((h.retireUnit ..).irq ..) h)

/-! ### Health -/

@[simp] theorem execHealthEnable (h : s.Shaped) (init : Nat) (data : Word) : Out.Shaped (execHealthEnable init data s) :=
  .next (h.writeAt (fun _ ht => ht.healthCtrlWrite ..) ..)

@[simp] theorem execRotationSchedule (h : s.Shaped) (teller : Bool) (at_ : Nat) :
    Out.Shaped (execRotationSchedule teller at_ s) := by
  unfold Machine.execRotationSchedule
  refine .next (h.clocked (fun _ ht => .ite ht (.ite ?_ ?_)) ..)
  · split
    · exact ht.updTel ..
    · exact ht
  · split
    · exact ht.frame
    · exact ht

@[simp] theorem execSliceStart (h : s.Shaped) (at_ kind target : Nat) : Out.Shaped (execSliceStart at_ kind target s) := by
  unfold Machine.execSliceStart
  refine .next (h.clocked (fun _ ht => ?_) ..)
  extract_lets s1
  have hs1 : s1.Shaped := ht.atTime ..
  split
  · exact .ite (hs1.setSlice ..) hs1
  · exact .ite (hs1.setSlice ..) hs1

@[simp] theorem execSliceEnd (h : s.Shaped) (at_ us cycle : Nat) (sig : Option Word) (points : List LoopPoint) :
    Out.Shaped (execSliceEnd at_ us cycle sig points s) := by
  unfold Machine.execSliceEnd
  refine .next (h.clocked (fun _ ht => ?_) ..)
  extract_lets s1
  have hs1 : s1.Shaped := ht.atTime ..
  split
  · exact hs1
  · exact .ite hs1 (.ite (hs1.cmpSliceEnd ..) (.ite (hs1.unitSliceEnd ..) (hs1.setSlice ..)))

@[simp] theorem execSliceDeadline (h : s.Shaped) (us cycle : Nat) : Out.Shaped (execSliceDeadline us cycle s) := by
  unfold Machine.execSliceDeadline
  refine .next (h.clocked (fun _ ht => ?_) ..)
  split
  · exact ht
  · exact .ite ht ((((ht.setSlice ..).count ..).irq ..).logFree ..)

@[simp] theorem execComparatorCheckSchedule (h : s.Shaped) (at_ us cycle : Nat) :
    Out.Shaped (execComparatorCheckSchedule at_ us cycle s) := by
  unfold Machine.execComparatorCheckSchedule
  refine .next (h.clocked (fun _ ht => ?_) ..)
  extract_lets s1
  have hs1 : s1.Shaped := ht.atTime ..
  split
  · exact hs1
  · exact .ite hs1 (.ite (((hs1.updHealth ..).checkWrite ..).setSlice ..) (((hs1.updHealth ..).checkWrite ..).logFree ..))

@[simp] theorem execCheckerRotation (h : s.Shaped) (c at_ : Nat) : Out.Shaped (execCheckerRotation c at_ s) :=
  .next (h.clocked (fun _ ht => .ite ((ht.updHealth _ (fun _ hx => (length_upd ..).trans hx)).updChecker ..) ht) ..)

@[simp] theorem execCheckerTakeover (h : s.Shaped) (c : Nat) (mismatch : Bool) :
    Out.Shaped (execCheckerTakeover c mismatch s) :=
  .next (h.clocked (fun _ ht => .ite (ht.updChecker ..) ht) ..)

@[simp] theorem execScrubRead (h : s.Shaped) (us cycle : Nat) (ecc : Option EccError) :
    Out.Shaped (execScrubRead us cycle ecc s) :=
  .next (h.clocked (fun _ ht => .ite (((ht.updHealth ..).eccRead ..).scrubStep) ht) ..)

/-! ### Settlement -/

@[simp] theorem execEngineDeposit (h : s.Shaped) (init cycle : Nat) : Out.Shaped (execEngineDeposit init cycle s) := by
  unfold Machine.execEngineDeposit
  refine .next (h.clocked (fun _ ht => ?_) ..)
  split
  · exact ht
  · exact ht.depIssue ..

@[simp] theorem execSettlementEnable (h : s.Shaped) (init : Nat) : Out.Shaped (execSettlementEnable init s) :=
  .next (h.writeAt (fun _ ht => ht.setlCtrlWrite ..) ..)

@[simp] theorem execSettlementPeriodStart (h : s.Shaped) : Out.Shaped (execSettlementPeriodStart s) :=
  .next (h.clocked (fun _ ht => .ite (.ite ht.setlPeriod (ht.setBit ..)) ht) ..)

@[simp] theorem execVbusWrite (h : s.Shaped) (init : Nat) (data : Word) : Out.Shaped (execVbusWrite init data s) :=
  .next (h.writeAt (fun _ ht => ht.vbusWrite ..) ..)

@[simp] theorem execAccountEnable (h : s.Shaped) (init k : Nat) (data : Word) :
    Out.Shaped (execAccountEnable init k data s) :=
  .next (h.writeAt (fun _ ht => ht.acctCfgWrite ..) ..)

@[simp] theorem execAccountDisable (h : s.Shaped) (init k : Nat) (data : Word) :
    Out.Shaped (execAccountDisable init k data s) :=
  .next (h.writeAt (fun _ ht => ht.acctCfgWrite ..) ..)

@[simp] theorem execContingencyForce (h : s.Shaped) (init : Nat) (clr : Bool) :
    Out.Shaped (execContingencyForce init clr s) :=
  .next (h.writeAt (fun _ ht => ht.contctlWrite ..) ..)

@[simp] theorem execContingencyClear (h : s.Shaped) (init : Nat) : Out.Shaped (execContingencyClear init s) :=
  .next (h.writeAt (fun _ ht => ht.contctlWrite ..) ..)

/-! ### Mppt -/

@[simp] theorem execMpptStep (h : s.Shaped) (m secs : Nat) : Out.Shaped (execMpptStep m secs s) :=
  .next (h.clocked (fun _ ht => .ite ((((((((ht.wr ..).updMpc ..).mpMove ..).updMpc ..).scanStart ..).nextScan ..).mpRefresh
      ..).mpDeposit ..) ht) ..)

@[simp] theorem execMpptEnable (h : s.Shaped) (init m : Nat) : Out.Shaped (execMpptEnable init m s) :=
  .next (h.writeAt (fun _ ht => ht.mpCtrlWrite ..) ..)

@[simp] theorem execMpptSample (h : s.Shaped) (init m : Nat) (data : Word) : Out.Shaped (execMpptSample init m data s) :=
  .next (h.writeAt (fun _ ht => ht.iinWrite ..) ..)

@[simp] theorem execScanTimerDue (h : s.Shaped) (m : Nat) : Out.Shaped (execScanTimerDue m s) :=
  .next (h.clocked (fun _ ht => .ite (((ht.mpDue ..).scanStart ..).mpRefresh ..) ht) ..)

@[simp] theorem execScanRequest (h : s.Shaped) (init m : Nat) : Out.Shaped (execScanRequest init m s) :=
  .next (h.writeAt (fun _ ht => ht.scanreqWrite ..) ..)

/-! ### Grid -/

@[simp] theorem execGridStep (h : s.Shaped) (age : Nat) : Out.Shaped (execGridStep age s) :=
  .next (h.clocked (fun _ ht => .ite (ht.gridStep ..) ht) ..)

@[simp] theorem execGridSample (h : s.Shaped) (init : Nat) (data : Word) : Out.Shaped (execGridSample init data s) :=
  .next (h.writeAt (fun _ ht => ht.icWrite ..) ..)

@[simp] theorem execGridEnable (h : s.Shaped) (init age : Nat) : Out.Shaped (execGridEnable init age s) :=
  .next (h.writeAt (fun _ ht => ht.gsyncCtrlWrite ..) ..)

@[simp] theorem execGridInputLoss (h : s.Shaped) : Out.Shaped (execGridInputLoss s) :=
  .next (h.clocked (fun _ ht => .ite ((((((ht.setBit ..).irq ..).syncClear).gridOutputs).gridDeposit).bumpStep) ht) ..)

@[simp] theorem execSequenceError (h : s.Shaped) : Out.Shaped (execSequenceError s) :=
  .next (h.clocked (fun _ ht => .ite ((((ht.setBit ..).irq ..).syncClear).gridFinish) ht) ..)

@[simp] theorem execGridSyncSet (h : s.Shaped) : Out.Shaped (execGridSyncSet s) :=
  .next (h.clocked (fun _ ht => .ite ((ht.setBit ..).gridFinish) ht) ..)

@[simp] theorem execFastDipDetect (h : s.Shaped) : Out.Shaped (execFastDipDetect s) :=
  .next (h.clocked (fun _ ht => .ite ((ht.updGrid ..).gridFinish) ht) ..)

@[simp] theorem execExcursionEnd (h : s.Shaped) : Out.Shaped (execExcursionEnd s) :=
  .next (h.clocked (fun _ ht => .ite ((ht.setBit ..).irq ..) ht) ..)

@[simp] theorem execGridStageAct (h : s.Shaped) (j : Nat) : Out.Shaped (execGridStageAct j s) :=
  .next (h.clocked (fun _ ht => .ite (.gridFinish (.ite (ht.raiseIsland ..) (ht.raiseTrip ..))) ht) ..)

@[simp] theorem execRocofIsland (h : s.Shaped) : Out.Shaped (execRocofIsland s) :=
  .next (h.clocked (fun _ ht => .ite ((ht.raiseIsland ..).gridFinish) ht) ..)

@[simp] theorem execVectorShiftIsland (h : s.Shaped) : Out.Shaped (execVectorShiftIsland s) :=
  .next (h.clocked (fun _ ht => .ite ((ht.raiseIsland ..).gridFinish) ht) ..)

@[simp] theorem execProbeWindowEnd (h : s.Shaped) : Out.Shaped (execProbeWindowEnd s) :=
  .next (h.clocked (fun _ ht => .ite (.ite ((((((ht.wr ..).wr ..).irq ..).updGrid ..).raiseIsland ..).gridFinish)
      (((((ht.wr ..).wr ..).irq ..).updGrid ..).bumpStep)) ht) ..)

@[simp] theorem execTripFlagClear (h : s.Shaped) (init : Nat) : Out.Shaped (execTripFlagClear init s) :=
  .next (h.writeAt (fun _ ht => ht.gfrtClrWrite ..) ..)

@[simp] theorem execIslandFlagClear (h : s.Shaped) (init : Nat) : Out.Shaped (execIslandFlagClear init s) :=
  .next (h.writeAt (fun _ ht => ht.gislClrWrite ..) ..)

@[simp] theorem execTableApply (h : s.Shaped) (init : Nat) : Out.Shaped (execTableApply init s) :=
  .next (h.writeAt (fun _ ht => ht.tableApplyWrite ..) ..)

/-! ### SafetyUnit -/

@[simp] theorem execGateVetoRelease (h : s.Shaped) : Out.Shaped (execGateVetoRelease s) := .next (.ite h h.frame)

@[simp] theorem execChannelDisagreement (h : s.Shaped) (at_ : Nat) : Out.Shaped (execChannelDisagreement at_ s) :=
  .next ((h.atTime ..).lockdown)

@[simp] theorem execClockCheckFail (h : s.Shaped) (at_ : Nat) : Out.Shaped (execClockCheckFail at_ s) :=
  .next ((((h.atTime ..).frame).lockdown).settleSafety)

@[simp] theorem execHeartbeatLoss (h : s.Shaped) (at_ : Nat) : Out.Shaped (execHeartbeatLoss at_ s) :=
  .next (.ite ((h.atTime ..).enterDusk ..) h)

@[simp] theorem execSafetyInputChange (h : s.Shaped) (at_ input : Nat) (cur level : Bool) :
    Out.Shaped (execSafetyInputChange at_ input cur level s) :=
  .ite (.next (h.atTime ..)) (.ite (.next ((((h.atTime ..).updSup ..).latchManual ..).settleSafety))
      (.next ((((h.atTime ..).updSup ..).latchManual ..).discStep ..)))

@[simp] theorem execInputDiscrepancy (h : s.Shaped) (at_ f : Nat) : Out.Shaped (execInputDiscrepancy at_ f s) :=
  .ite (.next (((h.atTime ..).updSup ..).settleSafety)) (.next (h.atTime ..))

@[simp] theorem execClaimedComparatorStop (h : s.Shaped) (at_ n : Nat) : Out.Shaped (execClaimedComparatorStop at_ n s) :=
  .ite (.next (((h.atTime ..).updSup ..).settleSafety)) (.next (h.atTime ..))

@[simp] theorem execWcLineStop (h : s.Shaped) (n : Nat) : Out.Shaped (execWcLineStop n s) :=
  .ite (.next (h.updSup ..)) (.next h)

@[simp] theorem execSafetyConversionRound (h : s.Shaped) (at_ : Nat) (codes : List Nat) :
    Out.Shaped (execSafetyConversionRound at_ codes s) :=
  .next (.ite (((h.atTime ..).updSup ..).lockdown) ((h.atTime ..).updSup ..))

@[simp] theorem execSafetyResetPress (h : s.Shaped) (spMs curMs : Nat) : Out.Shaped (execSafetyResetPress spMs curMs s) :=
  .ite (.ite (.next (h.updSup ..)) (.next ((((h.updSup ..).updSup ..).foldl (fun _ _ ht => .ite (ht.updK ..) ht)
      ..).settleSafety))) (.next h)

@[simp] theorem execPresenceWindowEnd (h : s.Shaped) : Out.Shaped (execPresenceWindowEnd s) := .next (h.updSup ..)

@[simp] theorem execGridStatusTransfer (h : s.Shaped) : Out.Shaped (execGridStatusTransfer s) :=
  .ite (.next (h.updSup ..)) (.next h)

@[simp] theorem execGridStatusTimeout (h : s.Shaped) : Out.Shaped (execGridStatusTimeout s) := .next (.ite h (h.updSup ..))

@[simp] theorem execCoilCurrentTimeout (h : s.Shaped) (n : Nat) : Out.Shaped (execCoilCurrentTimeout n s) :=
  .next (.ite ((h.faultK ..).settleSafety) h)

@[simp] theorem execMirrorTimeout (h : s.Shaped) (n : Nat) : Out.Shaped (execMirrorTimeout n s) :=
  .next (.ite (.ite ((h.faultK ..).settleSafety) (.ite (.settleSafety (.ite (h.faultK ..) (h.openedK ..))) h)) h)

@[simp] theorem execContactorTestPulse (h : s.Shaped) (n code : Nat) (hg : Bool) :
    Out.Shaped (execContactorTestPulse n code hg s) :=
  .next (.ite (.ite (h.updK ..) ((h.faultK ..).settleSafety)) h)

@[simp] theorem execTestPulseEnd (h : s.Shaped) (n code : Nat) : Out.Shaped (execTestPulseEnd n code s) :=
  .next (.ite (.ite ((h.faultK ..).settleSafety) (h.updK ..)) h)

@[simp] theorem execOpeningDeadline (h : s.Shaped) (n : Nat) : Out.Shaped (execOpeningDeadline n s) :=
  .next (.ite (h.openK ..) h)

@[simp] theorem execCurfewBackstop (h : s.Shaped) (n : Nat) : Out.Shaped (execCurfewBackstop n s) :=
  .next (.ite (h.updK ..) h)

@[simp] theorem execLockMoveEnd (h : s.Shaped) (p code : Nat) (fb : Bool) : Out.Shaped (execLockMoveEnd p code fb s) :=
  .ite (.next ((h.updLock ..).irq ..)) (.next h)

theorem rollCodes_lists (u : SafetyUnit) :
    u.rollCodes.k = u.k ∧ u.rollCodes.locks = u.locks ∧ u.rollCodes.conns = u.conns := by
  unfold SafetyUnit.rollCodes
  split
  · exact ⟨rfl, rfl, rfl⟩
  · exact ⟨rfl, rfl, rfl⟩

theorem cycleCodes (h : s.Shaped) (kmir lkfb hgRb lgRb : Nat) : State.Shaped
    (s.updSup fun u => { u.rollCodes with kmir := kmir, lkfb := lkfb, hgRb := hgRb, lgRb := lgRb }) :=
  h.updSup _ fun u => by
    obtain ⟨hk, hlocks, hconns⟩ := rollCodes_lists u
    exact ⟨congrArg List.length hk, congrArg List.length hlocks, congrArg List.length hconns⟩

@[simp] theorem execSafetyCycle (h : s.Shaped) (at_ kmir lkfb hgRb lgRb : Nat) (fault : Bool) :
    Out.Shaped (execSafetyCycle at_ kmir lkfb hgRb lgRb fault s) :=
  .ite (.next ((h.atTime ..).cycleCodes ..)) (.ite (.next ((((h.atTime ..).cycleCodes ..).foldl (fun _ _ ht => ht.cycleK ..)
      ..).takeSmbx)) (.ite (.next (((h.atTime ..).cycleCodes ..).lockdown))
      (.next (((((((((((h.atTime ..).cycleCodes ..).foldl (fun _ _ ht => ht.readbackK ..) ..).takeDusk).takeDemands).foldl
      (fun _ _ ht => ht.openK ..) ..).foldl (fun _ _ ht => ht.cycleK ..) ..).foldl (fun _ _ ht => ht.duskLock ..)
      ..).markOrdered).takeSmbx).settleSafety))))

/-! ### SafetyMailbox -/

@[simp] theorem execSafetyInitComplete (h : s.Shaped) (pass : Bool) (bad : Nat) :
    Out.Shaped (execSafetyInitComplete pass bad s) := by
  unfold Machine.execSafetyInitComplete
  refine .ite (.next h) (.ite (.next (((h.updSup ..).enterSt ..).settleSafety)) ?_)
  extract_lets _
  split
  · exact .next (h.activateSet ..)
  · exact .next ((h.enterSt ..).settleSafety)

@[simp] theorem runSmbx (h : s.Shaped) {f : Nat → Word → State → State × Nat × Word}
    (hf : ∀ x y t, t.Shaped → (f x y t).1.Shaped) (opc : Nat) :
    Out.Shaped (runSmbx opc f s) :=
  .ite (.next (((hf _ _ _ h).settleSafety).smbxReply ..)) (.next h)

@[simp] theorem execSfVetoRelease (h : s.Shaped) (at_ hbUs : Nat) : Out.Shaped (execSfVetoRelease at_ hbUs s) :=
  (h.atTime ..).runSmbx (fun _ _ _ ht => ht.notInDusk (fun _ _ _ hu => hu.vetoRelease ..) ..) ..

@[simp] theorem execSfHalt (h : s.Shaped) (at_ : Nat) : Out.Shaped (execSfHalt at_ s) :=
  (h.atTime ..).runSmbx (fun _ _ _ ht => ht.notInDusk (fun _ _ _ hu => hu.halt) ..) ..

@[simp] theorem execSfClose (h : s.Shaped) : Out.Shaped (execSfClose s) :=
  h.runSmbx (fun _ _ _ ht => ht.notInDusk (fun _ _ _ hu => hu.closeCmd ..) ..) ..

@[simp] theorem execSfOpen (h : s.Shaped) : Out.Shaped (execSfOpen s) :=
  h.runSmbx (fun _ _ _ ht => ht.notInDusk (fun _ _ _ hu => hu.openCmd ..) ..) ..

@[simp] theorem execSfLock (h : s.Shaped) : Out.Shaped (execSfLock s) :=
  h.runSmbx (fun _ _ _ ht => ht.notInDusk (fun _ _ _ hu => hu.lockCmd ..) ..) ..

@[simp] theorem execSfUnlock (h : s.Shaped) : Out.Shaped (execSfUnlock s) :=
  h.runSmbx (fun _ _ _ ht => ht.notInDusk (fun _ _ _ hu => hu.lockCmd ..) ..) ..

@[simp] theorem execSfParamBegin (h : s.Shaped) : Out.Shaped (execSfParamBegin s) :=
  h.runSmbx (fun _ _ _ ht => ht.notInDusk (fun _ _ _ hu => hu.paramBegin) ..) ..

@[simp] theorem execSfParamWrite (h : s.Shaped) : Out.Shaped (execSfParamWrite s) :=
  h.runSmbx (fun _ _ _ ht => ht.notInDusk (fun _ _ _ hu => hu.paramWrite ..) ..) ..

@[simp] theorem execSfParamCheck (h : s.Shaped) : Out.Shaped (execSfParamCheck s) :=
  h.runSmbx (fun _ _ _ ht => ht.notInDusk (fun _ _ _ hu => hu.paramCheckCmd) ..) ..

@[simp] theorem execSfParamConfirm (h : s.Shaped) : Out.Shaped (execSfParamConfirm s) :=
  h.runSmbx (fun _ _ _ ht => ht.notInDusk (fun _ _ _ hu => hu.paramConfirm ..) ..) ..

@[simp] theorem execSfParamAbort (h : s.Shaped) : Out.Shaped (execSfParamAbort s) :=
  h.runSmbx (fun _ _ _ ht => ht.notInDusk (fun _ _ _ hu => hu.paramAbort) ..) ..

@[simp] theorem execSfReadParam (h : s.Shaped) : Out.Shaped (execSfReadParam s) :=
  h.runSmbx (fun _ _ _ ht => ht.readParam ..) ..

@[simp] theorem execConnectionTimeout (h : s.Shaped) (c : Nat) : Out.Shaped (execConnectionTimeout c s) :=
  .ite (.ite (.next (h.connFault ..)) (.next (h.updConn ..))) (.next h)

@[simp] theorem execSafetyFrameRelay (h : s.Shaped) (init : Nat) (data : Word) :
    Out.Shaped (execSafetyFrameRelay init data s) :=
  .next (h.writeAt (fun _ ht => ht.rxctlWrite ..) ..)

@[simp] theorem execSafetyFrameReceive (h : s.Shaped) : Out.Shaped (execSafetyFrameReceive s) := by
  unfold Machine.execSafetyFrameReceive
  split
  · exact .next h
  · exact .next ((h.updSup ..).evalFrame ..)

@[simp] theorem execSafetyFrameSend (h : s.Shaped) (c : Nat) : Out.Shaped (execSafetyFrameSend c s) :=
  .ite (.next (.updConn (.irq (.setFld (.setFld (.setBit (.ite ((h.foldl (fun _ _ ht => ht.wr ..) ..).setBit ..)
      (h.foldl (fun _ _ ht => ht.wr ..) ..)) ..) ..) ..) ..) ..)) (.next h)

/-! ### Reset -/

@[simp] theorem execPowerOnReset (h : s.Shaped) : Out.Shaped (execPowerOnReset s) := .next (h.resetArrive ..)

@[simp] theorem execResetCauseArrive (h : s.Shaped) (codes : List Nat) : Out.Shaped (execResetCauseArrive codes s) :=
  .next (h.resetArrive ..)

@[simp] theorem execSupplyMonitorFall (h : s.Shaped) (rail : Nat) : Out.Shaped (execSupplyMonitorFall rail s) :=
  .next (.ite h (.ite h (.ite h ((((h.setBit ..).setBit ..).bankLost ..).railReaction ..))))

@[simp] theorem execSupplyMonitorGood (h : s.Shaped) (rail : Nat) : Out.Shaped (execSupplyMonitorGood rail s) :=
  .next (.ite h (.ite h (.ite ((h.setBit ..).auxVdrv ..) (h.setBit ..))))

@[simp] theorem execResetStretchEnd (h : s.Shaped) : Out.Shaped (execResetStretchEnd s) := by
  unfold Machine.execResetStretchEnd
  refine .next ?_
  split
  · exact h
  · exact .ite h (.ite h.frame (.ite h.frame h))

@[simp] theorem execRstNRequest (h : s.Shaped) (lowNs usSinceDriven : Nat) (holds : Bool) :
    Out.Shaped (execRstNRequest lowNs usSinceDriven holds s) :=
  .next (.ite h.frame (.ite ((h.frame.resetArrive ..).frame) (.ite ((h.frame.bumpFree.resetArrive ..).frame) h.frame.bumpFree)))

@[simp] theorem execLockstepMismatch (h : s.Shaped) (i : Nat) : Out.Shaped (execLockstepMismatch i s) :=
  .next (.ite (h.resetArrive ..) h)

@[simp] theorem execCoreResetRestart (h : s.Shaped) (i : Nat) : Out.Shaped (execCoreResetRestart i s) :=
  .next (.ite (.ite (h.frame.updClerk ..) h.frame) h)

@[simp] theorem execRstreqCoreReset (h : s.Shaped) (init clerks : Nat) : Out.Shaped (execRstreqCoreReset init clerks s) :=
  .next (h.writeAt (fun _ ht => ht.rstreqWrite ..) ..)

@[simp] theorem execRstreqSystemReset (h : s.Shaped) (init : Nat) : Out.Shaped (execRstreqSystemReset init s) :=
  .next (h.writeAt (fun _ ht => ht.rstreqWrite ..) ..)

@[simp] theorem execAutoRestart (h : s.Shaped) : Out.Shaped (execAutoRestart s) := .next (.ite (h.resetArrive ..) h)

@[simp] theorem execWdogKick (h : s.Shaped) (init : Nat) : Out.Shaped (execWdogKick init s) :=
  .next (h.writeAt (fun _ ht => ht.wdogKickWrite ..) ..)

@[simp] theorem execWatchdogExpiry (h : s.Shaped) (at_ : Nat) : Out.Shaped (execWatchdogExpiry at_ s) :=
  .next (.ite (.ite (((h.atTime ..).frame).enterDusk ..) (((h.atTime ..).frame).resetArrive ..)) (h.atTime ..))

/-! ### Dawn -/

@[simp] theorem execControlDieRelease (h : s.Shaped) (straps : Nat) (osc : Bool) :
    Out.Shaped (execControlDieRelease straps osc s) :=
  .next (.ite h.fuseLoad.frame h)

@[simp] theorem execXspiResetRelease (h : s.Shaped) : Out.Shaped (execXspiResetRelease s) := .next (.ite h h.frame)

@[simp] theorem execDawnSelfTestEnd (h : s.Shaped) (tel conv chk : List Nat) (retried rows cols minLeft : Nat) (ok : Bool) :
    Out.Shaped (execDawnSelfTestEnd tel conv chk retried rows cols minLeft ok s) :=
  .next (.ite (.ite ((((((h.sweepConv ..).sweepTel ..).sweepChk ..).count ..).wr ..).bootStart)
      ((((((h.sweepConv ..).sweepTel ..).sweepChk ..).count ..).wr ..).bootStop ..)) h)

@[simp] theorem execBootImageAttemptEnd (h : s.Shaped) (header payload : List Byte) :
    Out.Shaped (execBootImageAttemptEnd header payload s) :=
  .next (.ite (.ite (h.bootFail ..) (.ite h (.ite ((h.frame.memStore ..).bootAccept ..)
      (((h.frame.memStore ..).memStore ..).bootFail ..)))) h)

@[simp] theorem execFuseBlow (h : s.Shaped) (word : Nat) (bits : Word) : Out.Shaped (execFuseBlow word bits s) :=
  .next (.ite h h.frame)

@[simp] theorem execMachineTimerMatch (h : s.Shaped) (i time : Nat) : Out.Shaped (execMachineTimerMatch i time s) :=
  .next (.ite (h.updClerk ..) h)

/-! ### Jtag -/

@[simp] theorem execJtagExtest (h : s.Shaped) (bits : Nat) : Out.Shaped (execJtagExtest bits s) :=
  .next ((h.selectIr ..).updJtag ..)

@[simp] theorem execJtagSamplePreload (h : s.Shaped) (pins bits : Nat) : Out.Shaped (execJtagSamplePreload pins bits s) :=
  .next ((h.selectIr ..).updJtag ..)

@[simp] theorem execJtagIdcode (h : s.Shaped) : Out.Shaped (execJtagIdcode s) := .next (h.selectIr ..)

@[simp] theorem execJtagClamp (h : s.Shaped) : Out.Shaped (execJtagClamp s) := .next (h.selectIr ..)

@[simp] theorem execJtagHighz (h : s.Shaped) : Out.Shaped (execJtagHighz s) := .next (h.selectIr ..)

@[simp] theorem execJtagBypass (h : s.Shaped) : Out.Shaped (execJtagBypass s) := .next h.bypass

@[simp] theorem execJtagSysrst (h : s.Shaped) : Out.Shaped (execJtagSysrst s) :=
  .next (.ite h.bypass ((h.resetArrive ..).selectIr ..))

@[simp] theorem execJtagCorerst (h : s.Shaped) : Out.Shaped (execJtagCorerst s) :=
  .next (.ite h.bypass ((h.selectIr ..).resetArrive ..))

@[simp] theorem execJtagIntscan (h : s.Shaped) (clean : Bool) : Out.Shaped (execJtagIntscan clean s) :=
  .next (.ite (h.clearKeys.updJtag ..) ((h.selectIr ..).updJtag ..))

@[simp] theorem execIntscanExit (h : s.Shaped) : Out.Shaped (execIntscanExit s) := .next (.ite (h.resetArrive ..) h)

@[simp] theorem execJtagDtmcs (h : s.Shaped) : Out.Shaped (execJtagDtmcs s) :=
  .next (.ite ((h.selectIr ..).bumpFree) h.bypass)

@[simp] theorem execJtagDmi (h : s.Shaped) (op addr : Nat) (data : Word) (cycle : Nat) :
    Out.Shaped (execJtagDmi op addr data cycle s) :=
  .next (.ite h.bypass (.ite (((h.selectIr ..).dmRead ..).updJtag ..) (.ite ((h.selectIr ..).dmWrite ..) (h.selectIr ..))))

/-! ### Meter -/

@[simp] theorem execPulseWidthEnd (h : s.Shaped) (n : Nat) : Out.Shaped (execPulseWidthEnd n s) :=
  have hpulse (v : Nat) : State.Shaped { s with melo := { s.melo with pulse := upd s.melo.pulse n (fun _ => v) } } :=
    h.withMelo (h.melo.frame (hpulse := length_upd ..))
  .ite (.next (hpulse _)) (.ite (.next ((hpulse _).pulseKick ..)) (.next h))

@[simp] theorem execMeterBlockEnd (h : s.Shaped) (ac : Bool) (temp : Word) : Out.Shaped (execMeterBlockEnd ac temp s) :=
  .next (.ite (.ite ((h.mset ..).acBlock) ((h.mset ..).dcBlock)) h)

@[simp] theorem execAcCycleEnd (h : s.Shaped) (y0 y1 : Word) : Out.Shaped (execAcCycleEnd y0 y1 s) :=
  .next (.ite (h.endBlocks.nextCycle ..) h)

@[simp] theorem execMetrologySample (h : s.Shaped) (mods : List (List Word)) (clip : Nat) :
    Out.Shaped (execMetrologySample mods clip s) :=
  have hs := ((h.endBlocks.filtered mods).markClips (clip % 2 ^ 15)).acSample
  .next (.ite ((hs.withMelo hs.melo.frame).foldl (fun _ _ ht => ht.dcSample ..) ..) h)

@[simp] theorem execMramCommit (h : s.Shaped) (dt : Nat) (ok : Bool) : Out.Shaped (execMramCommit dt ok s) :=
  .ite (.next ((h.elapse ..).commit ..)) (.next (h.elapse ..))

@[simp] theorem execMeloskernBrownout (h : s.Shaped) (dt vst : Nat) (ok : Bool) :
    Out.Shaped (execMeloskernBrownout dt vst ok s) := by
  unfold Machine.execMeloskernBrownout
  extract_lets t s1 low m
  have ht : t.Shaped := h.elapse ..
  have hs1 : s1.Shaped := .commit (.ite ht ht.closeCycle) ..
  clear_value s1
  have hm : m.Shaped := hs1.melo.pulsesLow.unstaged.frame (hsess := List.length_map ..)
  exact .ite (.next ht) (.next (((hs1.withMelo hm).nwQueue ..).nwCommit ..))

theorem sealLevel (h : s.Shaped) (level : Bool) : State.Shaped { s with melo := { s.melo with sealOpen := level } } :=
  h.withMelo h.melo.frame

theorem abortTold (h : s.Shaped) : State.Shaped { s with melo := { s.melo with commAbort := false } } := h.withMelo h.melo.frame

theorem goodWindows (h : s.Shaped) (n : Nat) : State.Shaped { s with melo := { s.melo with good := n } } := h.withMelo h.melo.frame

@[simp] theorem execMeloskernStart (h : s.Shaped) (dt : Nat) (level : Bool) :
    Out.Shaped (execMeloskernStart dt level s) := by
  unfold Machine.execMeloskernStart
  extract_lets s kind s1 roll s2 s3 s4 s5 m5 s6 m6 s7 s8 s9
  have hs : s.Shaped := h.elapse ..
  have hs1 : s1.Shaped := hs.meterResume
  have hs2 : s2.Shaped := hs1.withMelo (hs1.melo.records (Melo.RecordsOnly.refl _).tails)
  have hs3 : s3.Shaped := .ite (hs2.withMelo hs2.melo.markRollback) hs2
  have hs4 : s4.Shaped := hs3.closeLost.event ..
  have hs5 : s5.Shaped := .ite (hs4.event ..) hs4
  have hs6 : s6.Shaped := .ite (hs5.abortTold.event ..) hs5
  have hs7 : s7.Shaped := .ite ((hs6.sealLevel _).event ..) hs6
  have hs8 : s8.Shaped := hs7.foldl (fun _ _ ht => ht.nwRecord ..) ..
  exact .ite (.next hs) (.next (hs8.frame.nwCounts.newIvl ..))

@[simp] theorem execClockRatioWindow (h : s.Shaped) (dt ratio mOff nwOff : Nat) :
    Out.Shaped (execClockRatioWindow dt ratio mOff nwOff s) := by
  unfold Machine.execClockRatioWindow
  extract_lets s s1
  have hs : s.Shaped := h.elapse ..
  have hs1 : s1.Shaped := (hs.mset ..).mset ..
  exact .ite (.next hs) (.ite (.ite (.next (hs1.goodWindows _)) (.next hs1.suspend))
      (.ite (.ite (.next (hs1.goodWindows _).resume) (.next (hs1.goodWindows _))) (.next hs1)))

/-! ### Ledger -/

@[simp] theorem execMailboxDoorbell (h : s.Shaped) (init : Nat) : Out.Shaped (execMailboxDoorbell init s) :=
  .next (h.writeAt (fun _ ht => ht.doorWrite ..) ..)

@[simp] theorem execMailboxCancel (h : s.Shaped) (init : Nat) (pend : Bool) :
    Out.Shaped (execMailboxCancel init pend s) :=
  .next (h.writeAt (fun _ ht => ht.doorWrite ..) ..)

@[simp] theorem execMirrorStale (h : s.Shaped) : Out.Shaped (execMirrorStale s) :=
  .ite (.next (.ite ((h.setBit ..).postOwn ..) (h.setBit ..))) (.next h)

@[simp] theorem execReplyPosted (h : s.Shaped) : Out.Shaped (execReplyPosted s) := by
  unfold Machine.execReplyPosted
  split
  · exact .next h
  · extract_lets m s0 s1 s2 s3
    have hs0 : s0.Shaped := h.withMelo h.melo.frame
    have hs3 : s3.Shaped := ((hs0.foldl (fun _ _ ht => ht.wr ..) ..).foldl (fun _ _ ht => ht.wr ..) ..).setBit ..
    exact .ite (.ite (.next (hs3.frame.setBit ..)) (.next hs3)) (.next hs0)

@[simp] theorem execMbxNop (h : s.Shaped) : Out.Shaped (execMbxNop s) := .next (h.runAs (fun _ _ _ ht => ht.mbxNop) ..)

@[simp] theorem execSessionOpen (h : s.Shaped) : Out.Shaped (execSessionOpen s) :=
  .next (h.runAs (fun _ _ _ ht => ht.sessionOpen ..) ..)

@[simp] theorem execSessionClose (h : s.Shaped) : Out.Shaped (execSessionClose s) :=
  .next (h.runAs (fun _ _ _ ht => ht.sessionClose ..) ..)

@[simp] theorem execLedgerRead (h : s.Shaped) : Out.Shaped (execLedgerRead s) :=
  .next (h.runAs (fun _ _ _ ht => ht.ledgerRead ..) ..)

@[simp] theorem execLedgerExport (h : s.Shaped) : Out.Shaped (execLedgerExport s) :=
  .next (h.runAs (fun _ _ _ ht => ht.ledgerExport ..) ..)

@[simp] theorem execTimeSet (h : s.Shaped) : Out.Shaped (execTimeSet s) :=
  .next (h.runAs (fun _ _ _ ht => ht.timeSet ..) ..)

@[simp] theorem execCommBegin (h : s.Shaped) : Out.Shaped (execCommBegin s) :=
  .next (h.runAs (fun _ _ _ ht => ht.commBegin) ..)

@[simp] theorem execCommWrite (h : s.Shaped) : Out.Shaped (execCommWrite s) :=
  .next (h.runAs (fun _ _ _ ht => ht.commWrite ..) ..)

@[simp] theorem execCommCommit (h : s.Shaped) : Out.Shaped (execCommCommit s) :=
  .next (h.runAs (fun _ _ _ ht => ht.commCommit ..) ..)

@[simp] theorem execCommAbort (h : s.Shaped) : Out.Shaped (execCommAbort s) :=
  .next (h.runAs (fun _ _ _ ht => ht.commAbort) ..)

@[simp] theorem execKeygen (h : s.Shaped) : Out.Shaped (execKeygen s) := .next (h.runAs (fun _ _ _ ht => ht.keyGen) ..)

theorem vetoEnds (h : s.Shaped) : State.Shaped { s with melo := { s.melo with vetoRun := 0 } } := h.withMelo h.melo.frame

theorem linkEnds (h : s.Shaped) : State.Shaped { s with melo := { s.melo with linkLost := true, vetoRun := 0 } } :=
  h.withMelo h.melo.frame

@[simp] theorem execLedgerPoll (h : s.Shaped) (dt : Nat) : Out.Shaped (execLedgerPoll dt s) :=
  have ht := (h.elapse dt).runTaken
  .next (.ite (h.elapse ..) (.ite ht.vetoEnds (.ite (ht.takeCmd ..) (ht.pollRest ..))))

@[simp] theorem execPollTimeout (h : s.Shaped) (dt : Nat) : Out.Shaped (execPollTimeout dt s) :=
  .next (h.elapse ..).runTaken.vetoEnds

@[simp] theorem execControlDieLoss (h : s.Shaped) (dt : Nat) : Out.Shaped (execControlDieLoss dt s) :=
  .next (.ite ((h.elapse ..).runTaken.closeAll.linkEnds.event ..) (h.elapse ..))

@[simp] theorem execSessionTailSign (h : s.Shaped) : Out.Shaped (execSessionTailSign s) := .ite (.next h.signTail) (.next h)

@[simp] theorem execIntervalBoundary (h : s.Shaped) (dt : Nat) : Out.Shaped (execIntervalBoundary dt s) :=
  .ite (.next ((h.elapse ..).closeIvl ..)) (.next (h.elapse ..))

@[simp] theorem execSealChange (h : s.Shaped) (dt : Nat) (level : Bool) : Out.Shaped (execSealChange dt level s) :=
  have hs := fun code => ((h.elapse dt).sealLevel level).event code []
  .ite (.ite (.next ((hs _).withMelo ((hs _).melo.markSess ..))) (.next (.ite ((hs _).commEnd ..) (hs _)))) (.next (h.elapse ..))

/-! ### Oxernal -/

@[simp] theorem execOxLaneEnable (h : s.Shaped) (init n : Nat) : Out.Shaped (execOxLaneEnable init n s) :=
  .next (h.writeAt (fun _ ht => ht.oxCtrlWrite ..) ..)

@[simp] theorem execOxLaneDisable (h : s.Shaped) (init n : Nat) : Out.Shaped (execOxLaneDisable init n s) :=
  .next (h.writeAt (fun _ ht => ht.oxCtrlWrite ..) ..)

@[simp] theorem execOxRetrain (h : s.Shaped) (init n : Nat) : Out.Shaped (execOxRetrain init n s) :=
  .next (h.writeAt (fun _ ht => ht.oxCtrlWrite ..) ..)

@[simp] theorem execOxSlot (h : s.Shaped) (n : Nat) : Out.Shaped (execOxSlot n s) := .next (.ite (h.updLane ..) h)

@[simp] theorem execOxAlignDone (h : s.Shaped) (n : Nat) : Out.Shaped (execOxAlignDone n s) :=
  .next (.ite ((h.oxEnter ..).updLane ..) h)

@[simp] theorem execOfferReceive (h : s.Shaped) (n : Nat) (frame : List Symbol) :
    Out.Shaped (execOfferReceive n frame s) := by
  unfold Machine.execOfferReceive
  refine .next (.ite h ?_)
  split
  · exact h.oxRefuse ..
  · exact .ite (h.oxRefuse ..) (.ite h (h.oxOffered ..))

@[simp] theorem execSelectAckReceive (h : s.Shaped) (n : Nat) (frame : List Symbol) (at_ : Nat) :
    Out.Shaped (execSelectAckReceive n frame at_ s) := by
  unfold Machine.execSelectAckReceive
  refine .next (.ite h ?_)
  split
  · exact h.oxRefuse ..
  · exact .ite (h.oxRefuse ..) (.ite ((h.atTime ..).oxUp ..) h)

@[simp] theorem execTrainTimeout (h : s.Shaped) (n at_ : Nat) : Out.Shaped (execTrainTimeout n at_ s) :=
  .next (h.clocked (fun _ ht => .ite ((((ht.atTime ..).oxEnter ..).setBit ..).irq ..) ht) ..)

@[simp] theorem execOxRetry (h : s.Shaped) (n at_ : Nat) : Out.Shaped (execOxRetry n at_ s) :=
  .next (h.clocked (fun _ ht => .ite ((ht.atTime ..).oxEnter ..) ht) ..)

@[simp] theorem execReportReceive (h : s.Shaped) (n : Nat) (frame : List Symbol) (at_ : Nat) :
    Out.Shaped (execReportReceive n frame at_ s) := by
  unfold Machine.execReportReceive
  refine .next (.ite h ?_)
  split
  · exact h.oxRefuse ..
  · exact .ite (h.oxRefuse ..) (.ite h ((h.atTime ..).oxReport ..))

@[simp] theorem execOxCodeError (h : s.Shaped) (n symbol : Nat) : Out.Shaped (execOxCodeError n symbol s) :=
  .next (.ite (.ite (.ite (((((h.count ..).setBit ..).irq ..).updLane ..).oxLoss ..)
      ((((h.count ..).setBit ..).irq ..).updLane ..)) (((h.count ..).setBit ..).irq ..)) h)

@[simp] theorem execReportLoss (h : s.Shaped) (n at_ : Nat) : Out.Shaped (execReportLoss n at_ s) :=
  .next (h.clocked (fun _ ht => .ite ((ht.atTime ..).oxLoss ..) ht) ..)

@[simp] theorem execSatRead (h : s.Shaped) (init n reg : Nat) : Out.Shaped (execSatRead init n reg s) :=
  .next (h.writeAt (fun _ ht => ht.sacmdWrite ..) ..)

@[simp] theorem execSatWrite (h : s.Shaped) (init n reg : Nat) : Out.Shaped (execSatWrite init n reg s) :=
  .next (h.writeAt (fun _ ht => ht.sacmdWrite ..) ..)

@[simp] theorem execSatSelftest (h : s.Shaped) (init n test : Nat) : Out.Shaped (execSatSelftest init n test s) :=
  .next (h.writeAt (fun _ ht => ht.sacmdWrite ..) ..)

@[simp] theorem execSatStream (h : s.Shaped) (init n sel : Nat) : Out.Shaped (execSatStream init n sel s) :=
  .next (h.writeAt (fun _ ht => ht.sacmdWrite ..) ..)

@[simp] theorem execSatCommandTimeout (h : s.Shaped) (n : Nat) : Out.Shaped (execSatCommandTimeout n s) :=
  .next (.ite ((((h.setBit ..).setBit ..).irq ..).updLane ..) h)

/-! ### Pilot -/

@[simp] theorem execPilotDutyEnd (h : s.Shaped) (n : Nat) : Out.Shaped (execPilotDutyEnd n s) :=
  .next (h.clocked (fun _ ht => .ite (ht.cpDrive ..) ht) ..)

@[simp] theorem execPilotPeriodEnd (h : s.Shaped) (n late : Nat) (cp pp : List Nat) :
    Out.Shaped (execPilotPeriodEnd n late cp pp s) :=
  .next (h.clocked (fun _ ht => .ite (.cpStart (.updCp (.ite
      (.cpAction (.irq (.setFld (.updCp (.setFld (.setBit (.ite (((ht.cpMeasure ..).wr ..).irq ..) ((ht.cpMeasure ..).wr ..))
      ..) ..) ..) ..) ..) ..) (.updCp (.setFld (.setBit (.ite (((ht.cpMeasure ..).wr ..).irq ..) ((ht.cpMeasure ..).wr ..)) ..)
      ..) ..)) ..) ..) ht) ..)

/-! ### Recorder -/

@[simp] theorem execRecorderRow (h : s.Shaped) (at_ cycle : Nat) : Out.Shaped (execRecorderRow at_ cycle s) :=
  .next ((h.atTime ..).clocked (fun _ ht => .ite (.ite (.ite
      (.irq (.setFld (.updRec (.wr (.recWrite (.updRec (.ite ht.recTrigRow ht) ..) ..) ..) ..) ..) ..)
      (.updRec (.wr (.recWrite (.updRec (.ite ht.recTrigRow ht) ..) ..) ..) ..))
      (.wr (.recWrite (.updRec (.ite ht.recTrigRow ht) ..) ..) ..)) ht) ..)

@[simp] theorem execRecorderTrigger (h : s.Shaped) (events : Nat) (lines : List Nat) :
    Out.Shaped (execRecorderTrigger events lines s) :=
  .next (h.clocked (fun _ ht => ht.recTrigger ..) ..)

@[simp] theorem execRecorderSwtrig (h : s.Shaped) (init : Nat) : Out.Shaped (execRecorderSwtrig init s) :=
  .next (h.writeAt (fun _ ht => ht.trigctlWrite ..) ..)

@[simp] theorem execRecorderArm (h : s.Shaped) (init : Nat) : Out.Shaped (execRecorderArm init s) :=
  .next (h.writeAt (fun _ ht => ht.trigctlWrite ..) ..)

/-! ### Access -/

@[simp] theorem execRegisterWrite (h : s.Shaped) (init addr len : Nat) (data : Word) (sub tick : Nat) :
    Out.Shaped (execRegisterWrite init addr len data sub tick s) :=
  .next (h.access (fun _ ht => ht.withReaction (fun _ hu => hu.regAccess ..) ..) ..)

@[simp] theorem execPageSoftReset (h : s.Shaped) (init base : Nat) (data : Word) :
    Out.Shaped (execPageSoftReset init base data s) :=
  .next (.ite (h.errorResp ..) (h.access (fun _ ht => ht.withReaction (fun _ hu => hu.regAccess ..) ..) ..))

@[simp] theorem execSoftResetComplete (h : s.Shaped) (base : Nat) : Out.Shaped (execSoftResetComplete base s) :=
  .next (.ite h.frame.retryWaiting h)

@[simp] theorem execStoppedDomainRestart (h : s.Shaped) (dom : ClockDomain) :
    Out.Shaped (execStoppedDomainRestart dom s) :=
  .next (.ite (.retryWaiting (.ite (h.foldl (fun _ _ ht => ht.uvRefresh ..) ..) h)) h)

/-! ### Bus -/

@[simp] theorem execSlipGrant (h : s.Shaped) (port cycle target tick us : Nat) (events : Word) (ecc : Option EccError) :
    Out.Shaped (execSlipGrant port cycle target tick us events ecc s) := by
  unfold Machine.execSlipGrant
  refine .next (h.clocked (fun _ ht => ?_) ..)
  split
  · exact ht
  · exact ((ht.noteGrant ..).applySlip ..).noteCollision ..

@[simp] theorem execSlipIssue (h : s.Shaped) (init addr : Nat) (write : Bool) (bytes : List Byte) (enables : List Bool)
    (len cycle sub us : Nat) (kind : SlipKind) (ecc : Option EccError) :
    Out.Shaped (execSlipIssue init addr write bytes enables len cycle sub us kind ecc s) :=
  .next (.ite h (.ite (h.updClerk ..) (.ite (h.errorResp ..) (.ite (h.tcmAccess ..) (h.issue ..)))))

@[simp] theorem execSlipComplete (h : s.Shaped) (coin cycle : Nat) : Out.Shaped (execSlipComplete coin cycle s) := by
  unfold Machine.execSlipComplete
  refine .next (h.clocked (fun _ ht => ?_) ..)
  split
  · exact ht
  · exact .ite ((((ht.noteLatency ..).response ..).returnCoin ..).dmaServe) ht

@[simp] theorem execPerturbCoinReturn (h : s.Shaped) (coin cycle : Nat) :
    Out.Shaped (execPerturbCoinReturn coin cycle s) :=
  .next (h.clocked (fun _ ht => .ite (((ht.frame.unstall ..).fabRefresh).dmaServe) ht) ..)

/-! ### Nightwatch -/

theorem newNightwatch (h : s.Shaped) (nw : Nightwatch) (hnw : nw.loops.length = 2 := by rfl) : State.Shaped { s with nw := nw } :=
  h.frame (hnw := hnw.trans h.loops.symm)

@[simp] theorem execNightwatchStart (h : s.Shaped) (dt : Nat) : Out.Shaped (execNightwatchStart dt s) :=
  have hs := fun v => (h.elapse dt).mset (a := MELO.NWCNT) 31 16 v
  .ite (.next (h.elapse ..)) (.next ((((hs _).newNightwatch _).nwQueue ..).newIvl ..))

@[simp] theorem execNightwatchDeath (h : s.Shaped) (dt : Nat) : Out.Shaped (execNightwatchDeath dt s) :=
  .ite (.next (((h.elapse ..).newNightwatch _).nwCounts)) (.next (h.elapse ..))

@[simp] theorem execVocMeasure (h : s.Shaped) (voc : Nat) : Out.Shaped (execVocMeasure voc s) :=
  .ite (.next (h.mwr _)) (.next h)

@[simp] theorem execColdStartExit (h : s.Shaped) (vst : Nat) : Out.Shaped (execColdStartExit vst s) :=
  .ite (.next h.frame) (.next h)

@[simp] theorem execChargeLimitReached (h : s.Shaped) (vst : Nat) : Out.Shaped (execChargeLimitReached vst s) :=
  .ite (.next h.frame) (.next h)

@[simp] theorem execChargeResume (h : s.Shaped) (vst : Nat) : Out.Shaped (execChargeResume vst s) :=
  .ite (.next h.frame) (.next h)

@[simp] theorem execGaugeUpdate (h : s.Shaped) (dt vst : Nat) : Out.Shaped (execGaugeUpdate dt vst s) :=
  .ite (.next (((h.elapse ..).measureVst ..).nwCommit ..)) (.next (h.elapse ..))

@[simp] theorem execTamperSample (h : s.Shaped) (loop dt vst : Nat) (pre post : Bool) :
    Out.Shaped (execTamperSample loop dt vst pre post s) := by
  unfold Machine.execTamperSample
  extract_lets t k l taken nw s1 s2
  have ht : t.Shaped := h.elapse ..
  clear_value t
  have hs1 : s1.Shaped := ht.frame (hnw := length_upd ..)
  have hs2 : s2.Shaped := hs1.nwQueue ..
  exact .ite (.ite (.next (.nwCommit (hs2.withMelo ((hs2.melo.markSess ..).markIvl ..)) ..)) (.next hs1)) (.next ht)

@[simp] theorem execQueueTransfer (h : s.Shaped) (dt : Nat) : Out.Shaped (execQueueTransfer dt s) := by
  unfold Machine.execQueueTransfer
  refine .ite ?_ (.next (h.elapse ..))
  split
  · exact .next (h.elapse ..)
  · exact .next ((((h.elapse ..).frame).nwRecord ..).nwCounts)

/-! ### TellerCtl -/

@[simp] theorem execOpEnd (h : s.Shaped) (n : Nat) (w : Word) : Out.Shaped (execOpEnd n w s) := .next (h.slotOp ..)

@[simp] theorem execOpBr (h : s.Shaped) (n : Nat) (w : Word) : Out.Shaped (execOpBr n w s) := .next (h.slotOp ..)

@[simp] theorem execOpLoop (h : s.Shaped) (n : Nat) (w : Word) : Out.Shaped (execOpLoop n w s) := .next (h.slotOp ..)

@[simp] theorem execOpCmp (h : s.Shaped) (n : Nat) (w : Word) : Out.Shaped (execOpCmp n w s) := .next (h.slotOp ..)

@[simp] theorem execOpCmpi (h : s.Shaped) (n : Nat) (w : Word) : Out.Shaped (execOpCmpi n w s) := .next (h.slotOp ..)

@[simp] theorem execOpPset (h : s.Shaped) (n : Nat) (w : Word) : Out.Shaped (execOpPset n w s) := .next (h.slotOp ..)

@[simp] theorem execOpPlog (h : s.Shaped) (n : Nat) (w : Word) : Out.Shaped (execOpPlog n w s) := .next (h.slotOp ..)

@[simp] theorem execOpPsat (h : s.Shaped) (n : Nat) (w : Word) : Out.Shaped (execOpPsat n w s) := .next (h.slotOp ..)

/-! ### TellerMath -/

@[simp] theorem aluOp (h : s.Shaped) (n : Nat) (m1 : Bool) (w : Word) (opc : Nat) (f : Run → Word) :
    Out.Shaped (aluOp n m1 w opc f s) :=
  .next (h.slotOp ..)

@[simp] theorem satOp (h : s.Shaped) (n : Nat) (m1 : Bool) (w : Word) (opc : Nat) (f : Run → Int) :
    Out.Shaped (satOp n m1 w opc f s) :=
  .next (h.slotOp ..)

@[simp] theorem stallOp (h : s.Shaped) (n : Nat) (w : Word) (opc : Nat) (sc : Bool) (f : Run → Run)
    (hf : ∀ r, r.Shaped → (f r).Shaped := by exact fun _ hr => hr) : Out.Shaped (stallOp n w opc sc f s) :=
  .next (h.slotOp _ _ _ _ _ _ hf)

@[simp] theorem execOpMac (h : s.Shaped) (n : Nat) (m1 : Bool) (w : Word) : Out.Shaped (execOpMac n m1 w s) :=
  .next (h.slotOp ..)

@[simp] theorem execOpMsu (h : s.Shaped) (n : Nat) (m1 : Bool) (w : Word) : Out.Shaped (execOpMsu n m1 w s) :=
  .next (h.slotOp ..)

@[simp] theorem execOpMul (h : s.Shaped) (n : Nat) (m1 : Bool) (w : Word) : Out.Shaped (execOpMul n m1 w s) :=
  .next (h.slotOp ..)

@[simp] theorem execOpAccld (h : s.Shaped) (n : Nat) (m1 : Bool) (w : Word) : Out.Shaped (execOpAccld n m1 w s) :=
  .next (h.slotOp ..)

@[simp] theorem execOpMova (h : s.Shaped) (n : Nat) (m1 : Bool) (w : Word) : Out.Shaped (execOpMova n m1 w s) :=
  .next (h.slotOp _ _ _ _ _ _ fun _ hr => by split <;> exact hr)

@[simp] theorem execOpAccclr (h : s.Shaped) (n : Nat) (m1 : Bool) (w : Word) : Out.Shaped (execOpAccclr n m1 w s) :=
  .next (h.slotOp ..)

@[simp] theorem execOpMov (h : s.Shaped) (n : Nat) (m1 : Bool) (w : Word) : Out.Shaped (execOpMov n m1 w s) := h.aluOp ..

@[simp] theorem execOpAdd (h : s.Shaped) (n : Nat) (m1 : Bool) (w : Word) : Out.Shaped (execOpAdd n m1 w s) := h.aluOp ..

@[simp] theorem execOpAdds (h : s.Shaped) (n : Nat) (m1 : Bool) (w : Word) : Out.Shaped (execOpAdds n m1 w s) := h.satOp ..

@[simp] theorem execOpSub (h : s.Shaped) (n : Nat) (m1 : Bool) (w : Word) : Out.Shaped (execOpSub n m1 w s) := h.aluOp ..

@[simp] theorem execOpSubs (h : s.Shaped) (n : Nat) (m1 : Bool) (w : Word) : Out.Shaped (execOpSubs n m1 w s) := h.satOp ..

@[simp] theorem execOpNeg (h : s.Shaped) (n : Nat) (m1 : Bool) (w : Word) : Out.Shaped (execOpNeg n m1 w s) := h.satOp ..

@[simp] theorem execOpAbs (h : s.Shaped) (n : Nat) (m1 : Bool) (w : Word) : Out.Shaped (execOpAbs n m1 w s) := h.satOp ..

@[simp] theorem execOpMin (h : s.Shaped) (n : Nat) (m1 : Bool) (w : Word) : Out.Shaped (execOpMin n m1 w s) := h.aluOp ..

@[simp] theorem execOpMax (h : s.Shaped) (n : Nat) (m1 : Bool) (w : Word) : Out.Shaped (execOpMax n m1 w s) := h.aluOp ..

@[simp] theorem execOpAnd (h : s.Shaped) (n : Nat) (m1 : Bool) (w : Word) : Out.Shaped (execOpAnd n m1 w s) := h.aluOp ..

@[simp] theorem execOpOr (h : s.Shaped) (n : Nat) (m1 : Bool) (w : Word) : Out.Shaped (execOpOr n m1 w s) := h.aluOp ..

@[simp] theorem execOpXor (h : s.Shaped) (n : Nat) (m1 : Bool) (w : Word) : Out.Shaped (execOpXor n m1 w s) := h.aluOp ..

@[simp] theorem execOpShl (h : s.Shaped) (n : Nat) (m1 : Bool) (w : Word) : Out.Shaped (execOpShl n m1 w s) := h.aluOp ..

@[simp] theorem execOpShra (h : s.Shaped) (n : Nat) (m1 : Bool) (w : Word) : Out.Shaped (execOpShra n m1 w s) := h.aluOp ..

@[simp] theorem execOpShrl (h : s.Shaped) (n : Nat) (m1 : Bool) (w : Word) : Out.Shaped (execOpShrl n m1 w s) := h.aluOp ..

@[simp] theorem execOpMulq (h : s.Shaped) (n : Nat) (m1 : Bool) (w : Word) : Out.Shaped (execOpMulq n m1 w s) := h.satOp ..

@[simp] theorem execOpClamp (h : s.Shaped) (n : Nat) (m1 : Bool) (w : Word) : Out.Shaped (execOpClamp n m1 w s) :=
  h.aluOp ..

@[simp] theorem execOpMovi (h : s.Shaped) (n : Nat) (m1 : Bool) (w : Word) : Out.Shaped (execOpMovi n m1 w s) :=
  .next (h.slotOp ..)

@[simp] theorem execOpMovih (h : s.Shaped) (n : Nat) (m1 : Bool) (w : Word) : Out.Shaped (execOpMovih n m1 w s) :=
  .next (h.slotOp ..)

@[simp] theorem execOpBiq (h : s.Shaped) (n : Nat) (w : Word) : Out.Shaped (execOpBiq n w s) := h.stallOp ..

@[simp] theorem execOpClarke (h : s.Shaped) (n : Nat) (w : Word) : Out.Shaped (execOpClarke n w s) := h.stallOp ..

@[simp] theorem execOpIclarke (h : s.Shaped) (n : Nat) (w : Word) : Out.Shaped (execOpIclarke n w s) := 
  h.stallOp _ _ _ _ _ fun _ hr => ((hr.putV ..).putSat ..).putSat ..

@[simp] theorem execOpPark (h : s.Shaped) (n : Nat) (w : Word) : Out.Shaped (execOpPark n w s) := h.stallOp ..

@[simp] theorem execOpIpark (h : s.Shaped) (n : Nat) (w : Word) : Out.Shaped (execOpIpark n w s) := h.stallOp ..

@[simp] theorem execOpQmac (h : s.Shaped) (n : Nat) (m1 : Bool) (w : Word) : Out.Shaped (execOpQmac n m1 w s) :=
  .next (h.slotOp ..)

@[simp] theorem execOpQmsu (h : s.Shaped) (n : Nat) (m1 : Bool) (w : Word) : Out.Shaped (execOpQmsu n m1 w s) :=
  .next (h.slotOp ..)

@[simp] theorem execOpQmul (h : s.Shaped) (n : Nat) (m1 : Bool) (w : Word) : Out.Shaped (execOpQmul n m1 w s) :=
  .next (h.slotOp ..)

@[simp] theorem execOpQaccld (h : s.Shaped) (n : Nat) (m1 : Bool) (w : Word) : Out.Shaped (execOpQaccld n m1 w s) :=
  .next (h.slotOp ..)

@[simp] theorem execOpQmova (h : s.Shaped) (n : Nat) (m1 : Bool) (w : Word) : Out.Shaped (execOpQmova n m1 w s) :=
  .next (h.slotOp _ _ _ _ _ _ fun _ hr => by split <;> exact hr)

@[simp] theorem execOpPack (h : s.Shaped) (n : Nat) (m1 : Bool) (w : Word) : Out.Shaped (execOpPack n m1 w s) :=
  .next (h.slotOp ..)

@[simp] theorem execOpUnpk (h : s.Shaped) (n : Nat) (m1 : Bool) (w : Word) : Out.Shaped (execOpUnpk n m1 w s) :=
  .next (h.slotOp ..)

@[simp] theorem execOpQadds (h : s.Shaped) (n : Nat) (m1 : Bool) (w : Word) : Out.Shaped (execOpQadds n m1 w s) :=
  .next (h.slotOp ..)

@[simp] theorem execOpQsubs (h : s.Shaped) (n : Nat) (m1 : Bool) (w : Word) : Out.Shaped (execOpQsubs n m1 w s) :=
  .next (h.slotOp ..)

@[simp] theorem execOpQbiq (h : s.Shaped) (n : Nat) (w : Word) : Out.Shaped (execOpQbiq n w s) := h.stallOp ..

@[simp] theorem execOpQclarke (h : s.Shaped) (n : Nat) (w : Word) : Out.Shaped (execOpQclarke n w s) := h.stallOp ..

@[simp] theorem execOpQiclarke (h : s.Shaped) (n : Nat) (w : Word) : Out.Shaped (execOpQiclarke n w s) := h.stallOp ..

@[simp] theorem execOpQpark (h : s.Shaped) (n : Nat) (w : Word) : Out.Shaped (execOpQpark n w s) := h.stallOp ..

@[simp] theorem execOpQipark (h : s.Shaped) (n : Nat) (w : Word) : Out.Shaped (execOpQipark n w s) := h.stallOp ..

@[simp] theorem execOpNop (h : s.Shaped) (n slot : Nat) (w : Word) : Out.Shaped (execOpNop n slot w s) :=
  .next (h.slotOp ..)

/-! ### Dispatch -/

theorem exec (h : s.Shaped) (i : Instr) : Out.Shaped (exec i s) := by
  cases i <;> simp [Machine.exec, h]

theorem step (h : s.Shaped) : Out.Shaped (step s) := by
  unfold Machine.step
  split
  · exact h
  · exact h.frame.exec _

end State.Shaped

/-- Settles O60: the command's arm keeps the shape, and taking it off the queue touches no list of it. -/
theorem everyStepKeepsTheShapeOfTheState : Obligations.EveryStepKeepsTheShapeOfTheState := by
  unfold Obligations.EveryStepKeepsTheShapeOfTheState
  intro s t hs hstep
  have hout := hs.step
  rw [hstep] at hout
  exact hout

end Sys2Proof.Machine
end

section
/-!
Statements about the generators that fail: what an escalation at the gate unit (R233) does to the half-bridges beside the generator's
own, and a CLR on the CLK_PWM edge of a trip (R220).
-/
namespace Sys2Proof.Machine

/-! ### A shoot-through that escalates (R223, R225, R233) -/

/-- Every clock runs. Generator 5 runs in pulse-and-enable mode with output B high, owned by T5.0, late writes at once; group 1 stands
in direct mode (R223), so both commands high are a shoot-through (R225), for which half-bridge 5 takes a fault. Escalation is on, and
half-bridge 4, in fault wait since instant 0, is within its window. -/
def shootEscalates : State :=
  { ({} : State) with
    regs := [(ADPLLA + 0x50, 0x80000000), (ADPLLB + 0x50, 0x80000000), (PWM.base 5 + 0x0C, 1), (PWM.STAT 5, 0x800), (PWM.LIVE 5 0, 1000),
      (PWM.LIVE 5 1, 3000), (PWM.CFG 5, 0x101), (PWM.OWNER 5, 0x80050000), (GATE.GCFG 1, 0x80000000),
      (HBCFG 5, 0x10000000), (HBSTAT 4, 0x20000000), (HBSTAT 5, 0x10000000)]
    rst := { stretch := none, rstnLow := false, veto := false, vetoHold := false, dawn := .running }
    now := 200
    pwm := upd ({} : State).pwm 5 (fun g => { g with outB := true })
    gate := upd (upd ({} : State).gate 4 (fun h => { h with faultAt := some 0 })) 5 (fun h => { h with cmdB := true, mism := true }) }

/-- The same generator with W high and its trip cleared in the present period (R219). -/
def restEscalates : State := shootEscalates.updGen 5 (fun g => { g with w := true, rest := true })

/-- Half-bridge 4 has not been escalated. -/
theorem hb4_shootEscalates : (shootEscalates.hb 4).esc = false ∧ (restEscalates.hb 4).esc = false := by decide +kernel

/-- CMP_ON raises A: half-bridge 4 is escalated. -/
theorem compareMatch_escalates : ∃ t, exec (.pwmCompareMatch 5 0) shootEscalates = .next t ∧ (t.hb 4).esc = true := by
  refine ⟨_, rfl, ?_⟩
  decide +kernel

/-- So it is by the period start that ends the rest, and by a late write of CMP_ON. -/
theorem periodStart_escalates : ∃ t, exec (.pwmPeriodStart 5) restEscalates = .next t ∧ (t.hb 4).esc = true := by
  refine ⟨_, rfl, ?_⟩
  decide +kernel

theorem lateWrite_escalates :
    ∃ t, exec (.liveCompareWrite 37 0 5 0 100 0) shootEscalates = .next t ∧ (t.hb 4).esc = true := by
  refine ⟨_, rfl, ?_⟩
  decide +kernel

/-- A command that escalates half-bridge 4 changes more than generator 5's own half-bridge. -/
theorem absurd_of_escalated {s t u : State} {i : Instr} (ht : exec i s = .next t) (hu : exec i s = .next u)
    (hesc : (u.hb 4).esc = true) (hs : (s.hb 4).esc = false) (hframe : ∀ m, m ≠ 5 → t.hb m = s.hb m) : False := by
  have heq : t = u := Host.Outcome.next.inj (ht.symm.trans hu)
  rw [← heq, hframe 4 (by decide), hs] at hesc
  exact Bool.noConfusion hesc

theorem restEscalates_starts : restEscalates.nextStart 5 = some { at_ := 4096 } ∧ restEscalates.domRun .pwm = true ∧
    restEscalates.en (PWM.base 5) = true ∧ ∀ q ∈ (restEscalates.gen 5).after, q.1 < 4 := by decide +kernel

theorem shootEscalates_reaches : shootEscalates.domRun .pwm = true ∧ shootEscalates.pwmRun 5 = true ∧
    shootEscalates.bit (PWM.STAT 5) 10 = false ∧ (shootEscalates.gen 5).fired 0 = false ∧
    shootEscalates.live 5 0 < shootEscalates.pwmPer 5 := by decide +kernel

theorem shootEscalates_written : shootEscalates.mustWait .pwm (PWM.base 5) = false ∧ shootEscalates.isOwner 5 37 0 = true ∧
    (shootEscalates.atTime 0).transferNow 5 = false ∧ shootEscalates.en (PWM.base 5) = true ∧
    max shootEscalates.now 0 - (shootEscalates.gen 5).t0 ≤ shootEscalates.live 5 0 ∧
    (100 : Word).toNat ≤ liveMax (shootEscalates.pwmPer 5) 0 := by decide +kernel

/-- Refutes O16: at a period start whose turn-on is a shoot-through at the gate unit, the escalation (R233) locks the other half-bridges
of the group out, which the statement's frame lets stand. -/
theorem not_generatorsEnableStartAndBeginPeriods : ¬ Obligations.GeneratorsEnableStartAndBeginPeriods := by
  unfold Obligations.GeneratorsEnableStartAndBeginPeriods
  intro h
  obtain ⟨-, -, -, -, hperiod, -⟩ := h restEscalates 0 5 0 (by decide) (by decide)
  obtain ⟨hstart, hdom, hen, hafter⟩ := restEscalates_starts
  obtain ⟨t, ht, -, -, -, -, -, -, -, -, -, -, -, -, hframe, -⟩ := hperiod _ hstart hdom hen hafter
  obtain ⟨u, hu, hesc⟩ := periodStart_escalates
  exact absurd_of_escalated ht hu hesc hb4_shootEscalates.2 hframe

/-- Refutes O17: where CMP_ON's edge is a shoot-through at the gate unit, the escalation (R233) locks the other half-bridges of the
group out, which the statement's frame lets stand. -/
theorem not_compareEdgesDeadTimesAndSyncs : ¬ Obligations.CompareEdgesDeadTimesAndSyncs := by
  unfold Obligations.CompareEdgesDeadTimesAndSyncs
  intro h
  obtain ⟨hmatch, -⟩ := h shootEscalates 5 (by decide) (by decide)
  obtain ⟨hdom, hrun, hhold, hfired, hlive⟩ := shootEscalates_reaches
  obtain ⟨t, ht, -, -, -, -, -, -, -, -, hframe, -⟩ := hmatch 0 (.inl rfl) hdom hrun hhold hfired hlive
  obtain ⟨u, hu, hesc⟩ := compareMatch_escalates
  exact absurd_of_escalated ht hu hesc hb4_shootEscalates.1 hframe

/-- Refutes O18: a late write of CMP_ON under the immediate policy fires the edge at once (R210); where that is a shoot-through at the
gate unit, the escalation (R233) locks the other half-bridges of the group out, which the statement's frame lets stand. -/
theorem not_liveShadowAndCommitWritesTakeEffect : ¬ Obligations.LiveShadowAndCommitWritesTakeEffect := by
  unfold Obligations.LiveShadowAndCommitWritesTakeEffect
  intro h
  obtain ⟨-, -, hlate, -⟩ := h shootEscalates 37 0 5 0 (by decide) (by decide)
  obtain ⟨-, hrun, hhold, hfired, -⟩ := shootEscalates_reaches
  obtain ⟨hwait, howner, htransfer, hen, hahead, hmax⟩ := shootEscalates_written
  obtain ⟨t, ht, -, ⟨-, -, hframe, -⟩, -⟩ :=
    hlate 0 100 (.inl rfl) hwait howner htransfer hen hrun hhold hfired hahead hmax
  obtain ⟨u, hu, hesc⟩ := lateWrite_escalates
  exact absurd_of_escalated ht hu hesc hb4_shootEscalates.1 hframe

/-! ### A clear on the edge of the trip (R220, R221) -/

/-- Every clock runs. Generator 5 has tripped on CLK_PWM edge 0; its page is locked and its trip input inactive again. -/
def tripsOnEdge0 : State :=
  { ({} : State) with
    regs := [(ADPLLA + 0x50, 0x80000000), (ADPLLB + 0x50, 0x80000000), (PWM.STAT 5, 0x40000100)]
    rst := { stretch := none, rstnLow := false, veto := false, vetoHold := false, dawn := .running }
    pwm := upd ({} : State).pwm 5 (fun g => { g with tripAt := some 0 }) }

theorem tripsOnEdge0_clears : tripsOnEdge0.mustWait .pwm (PWM.base 5) = false ∧ tripsOnEdge0.bit (PWM.STAT 5) 8 = true ∧
    tripsOnEdge0.locked (PWM.base 5) = true ∧ tripsOnEdge0.bit (PWM.TRIPSTAT 5) 31 = false := by decide +kernel

/-- A clear on that edge loses to the trip. -/
theorem tripClear_tripsOnEdge0 : ∃ t, exec (.tripClear 0 5 0 0) tripsOnEdge0 = .next t ∧ t.bit (PWM.STAT 5) 8 = true := by
  refine ⟨_, rfl, ?_⟩
  decide +kernel

/-- Refutes O57: its last clause has a CLR write clear the latch whatever the instant of the trip, and a trip of the same CLK_PWM
edge wins against it (R220). -/
theorem not_tripLatchOutlivesDisableButNotSoftReset : ¬ Obligations.TripLatchOutlivesDisableButNotSoftReset := by
  unfold Obligations.TripLatchOutlivesDisableButNotSoftReset
  intro h
  obtain ⟨hwait, hlatched, hlocked, hinput⟩ := tripsOnEdge0_clears
  obtain ⟨-, -, -, -, hclear⟩ := h tripsOnEdge0 0 5 0 (by decide) (by decide) hwait hlatched
  obtain ⟨t, ht, hcleared, -⟩ := hclear 0 hlocked (by decide) hinput
  obtain ⟨u, hu, hstays⟩ := tripClear_tripsOnEdge0
  have heq : t = u := Host.Outcome.next.inj (ht.symm.trans hu)
  rw [heq, hstays] at hcleared
  exact Bool.noConfusion hcleared

end Sys2Proof.Machine
end

section
/-!
What a trip of a generator changes (R217-R219): the generator, its half-bridge, and three registers of its page; and the registers
on which the trip input depends.
-/
namespace Sys2Proof.Machine

/-! ### Outputs that go low (R200, R222) -/

theorem nth_upd {α : Type} (d : α) (l : List α) (i : Nat) (f : α → α) (j : Nat) :
    nth d (upd l i f) j = if j = i ∧ j < l.length then f (nth d l j) else nth d l j := by
  by_cases hj : j = i
  · subst hj
    by_cases hlen : j < l.length
    · rw [if_pos ⟨rfl, hlen⟩, nth_upd_self d l hlen]
    · rw [if_neg (fun h => hlen h.2)]
      simp [nth, upd, List.getD_eq_getElem?_getD, Nat.le_of_not_lt hlen]
  · rw [if_neg (fun h => hj h.1), nth_upd_ne d l hj]

/-- A change of half-bridges that keeps the fault ball as the gate unit sees it. -/
theorem State.flt_updHb (s : State) (n : Nat) {f : GateHb → GateHb} (hf : ∀ h, (f h).flt = h.flt) (m : Nat) :
    ((s.updHb n f).hb m).flt = (s.hb m).flt := by
  change (nth {} (upd s.gate n f) m).flt = _
  rw [nth_upd]
  split
  · exact hf _
  · rfl

/-- Commands that are both low release nothing and are no shoot-through. -/
theorem State.gateDrive_low (s : State) (n : Nat) : s.gateDrive n false false = s.hbEval n false false := by
  simp [State.gateDrive, State.releaseByB, State.hbCommand]

/-- The half-bridge of generator `n` after pulses shorter than 4 ns on A and on B have been removed (R200). -/
def State.pulsesRemoved (s : State) (n : Nat) (onA onB : Bool) : State :=
  let s1 := if onA then s.gateRemovePulse n false else s
  if onB then s1.gateRemovePulse n true else s1

/-- The generator with both outputs low. -/
def PwmGen.low (g : PwmGen) : PwmGen := { g with outA := false, outB := false }

theorem PwmGen.low_of_low {g : PwmGen} (hA : g.outA = false) (hB : g.outB = false) : g.low = g := by
  obtain ⟨⟩ := g
  dsimp only at hA hB
  subst hA hB
  rfl

/-- Outputs that are low stay so; a high one goes low, and the gate unit sees both commands low. -/
theorem State.pwmOut_low (s : State) (n : Nat) : ∃ onA onB,
    s.pwmOut n false false = if !(s.gen n).outA && !(s.gen n).outB then s
      else ((s.pulsesRemoved n onA onB).updGen n PwmGen.low).hbEval n false false := by
  refine ⟨(s.gen n).outA && !false && decide (s.now < (s.gen n).roseA + 64),
    (s.gen n).outB && !false && decide (s.now < (s.gen n).roseB + 64), ?_⟩
  unfold State.pwmOut
  simp only [State.gateDrive_low, State.pulsesRemoved, Bool.beq_eq_decide_eq, Bool.false_and]
  cases (s.gen n).outA <;> cases (s.gen n).outB <;> rfl

/-! ### The frame of a trip -/

/-- The registers that a trip of generator `n` writes. -/
def tripReg (n a : Nat) : Prop := a = PWM.STAT n ∨ a = PWM.base n + 0x14 ∨ a = PWM.TRIPSTAT n

/-- `t` differs from `s` at most as a trip of generator `n` can make it differ. -/
structure State.TripOnly (n : Nat) (s t : State) : Prop where
  fields : ∃ regs pwm gate, t = { s with regs := regs, pwm := pwm, gate := gate }
  regs : RegsBut (tripReg n) s t
  gens : ∀ m, m ≠ n → t.gen m = s.gen m
  hbs : ∀ m, m ≠ n → t.hb m = s.hb m
  flt : ∀ m, (t.hb m).flt = (s.hb m).flt
  len : t.pwm.length = s.pwm.length

namespace State.TripOnly

theorem refl (n : Nat) (s : State) : s.TripOnly n s :=
  ⟨⟨_, _, _, rfl⟩, .refl _ s, fun _ _ => rfl, fun _ _ => rfl, fun _ => rfl, rfl⟩

section
variable {n : Nat} {s t : State} (h : s.TripOnly n t)
include h

theorem trans {u : State} (hu : t.TripOnly n u) : s.TripOnly n u := by
  refine ⟨?_, h.regs.trans hu.regs, fun m hm => (hu.gens m hm).trans (h.gens m hm), fun m hm => (hu.hbs m hm).trans (h.hbs m hm),
    fun m => (hu.flt m).trans (h.flt m), hu.len.trans h.len⟩
  obtain ⟨_, _, _, rfl⟩ := h.fields
  obtain ⟨_, _, _, rfl⟩ := hu.fields
  exact ⟨_, _, _, rfl⟩

theorem wr {a : Nat} (ha : tripReg n a) (v : Word) : s.TripOnly n (t.wr a v) :=
  h.trans ⟨⟨_, _, _, rfl⟩, (RegsBut.refl _ t).wr ha v, fun _ _ => rfl, fun _ _ => rfl, fun _ => rfl, rfl⟩

theorem updGen (f : PwmGen → PwmGen) : s.TripOnly n (t.updGen n f) :=
  h.trans ⟨⟨_, _, _, rfl⟩, .refl _ t, fun _ hm => nth_upd_ne _ _ hm _, fun _ _ => rfl, fun _ => rfl, length_upd ..⟩

theorem updHb {f : GateHb → GateHb} (hf : ∀ x, (f x).flt = x.flt) : s.TripOnly n (t.updHb n f) :=
  h.trans ⟨⟨_, _, _, rfl⟩, .refl _ t, fun _ _ => rfl, fun _ hm => nth_upd_ne _ _ hm _, t.flt_updHb n hf, rfl⟩

theorem ite {u : State} (hu : s.TripOnly n u) (c : Prop) [Decidable c] : s.TripOnly n (if c then t else u) := by
  split
  · exact h
  · exact hu

theorem hbEval (a b : Bool) : s.TripOnly n (t.hbEval n a b) := h.updHb fun _ => rfl

theorem gateRemovePulse (b : Bool) : s.TripOnly n (t.gateRemovePulse n b) := h.updHb fun _ => rfl

theorem pulsesRemoved (onA onB : Bool) : s.TripOnly n (t.pulsesRemoved n onA onB) := by
  have hA := (h.gateRemovePulse false).ite h (onA = true)
  exact (hA.gateRemovePulse true).ite hA (onB = true)

theorem pwmOut_low : s.TripOnly n (t.pwmOut n false false) := by
  obtain ⟨_, _, heq⟩ := t.pwmOut_low n
  rw [heq]
  exact h.ite (((h.pulsesRemoved _ _).updGen _).hbEval ..) _

end

/-- The trip itself: its flags, its generator and its outputs (R218, R219). -/
theorem trip {n : Nat} {s t : State} (h : s.TripOnly n t) (cause : Nat) : s.TripOnly n (t.trip n cause) :=
  (((((h.wr (.inl rfl) _).wr (.inr (.inl rfl)) _).wr (.inr (.inr rfl)) _).wr (.inr (.inr rfl)) _).updGen _).pwmOut_low

theorem tripFiltered {n : Nat} {s t : State} (h : s.TripOnly n t) (v : Bool) : s.TripOnly n (t.tripFiltered n v) := by
  have hinput := h.wr (.inr (.inr rfl)) (putBits (t.rd (PWM.TRIPSTAT n)) 31 31 (b2n v))
  exact (hinput.trip 1).ite hinput _

end State.TripOnly

/-! ### What a trip shows (R218, R219) -/

/-- The latch, its flag, the cause and the count of a trip, before its outputs go low. -/
def State.tripShown (s : State) (n cause : Nat) : State :=
  ((((s.setBit (PWM.STAT n) 8 true).irq (PWM.base n) 7).setFld (PWM.TRIPSTAT n) 29 28 cause).count (PWM.TRIPSTAT n) 15 0 1)

/-- The generator at a trip: no turn-on is pending, and the CLK_PWM edge of the trip is kept. -/
def PwmGen.tripped (g : PwmGen) (now : Nat) : PwmGen := { g with dtA := none, dtB := none, tripAt := some (now / 32) }

theorem State.trip_eq (s : State) (n cause : Nat) :
    s.trip n cause = ((s.tripShown n cause).updGen n (fun g => g.tripped s.now)).pwmOut n false false := rfl

theorem State.rd_updGen (s : State) (n : Nat) (f : PwmGen → PwmGen) (a : Nat) : (s.updGen n f).rd a = s.rd a := rfl

theorem State.gen_updGen {s : State} {n : Nat} (hlen : n < s.pwm.length) (f : PwmGen → PwmGen) :
    (s.updGen n f).gen n = f (s.gen n) := nth_upd_self _ _ hlen f

/-- What a trip shows leaves the generators as they are. -/
theorem State.pwm_tripShown (s : State) (n cause : Nat) : (s.tripShown n cause).pwm = s.pwm := rfl

theorem State.regs_pwmOut_low (s : State) (n : Nat) : (s.pwmOut n false false).regs = s.regs := by
  obtain ⟨onA, onB, heq⟩ := s.pwmOut_low n
  rw [heq]
  split
  · rfl
  · cases onA <;> cases onB <;> rfl

theorem State.gen_pwmOut_low {s : State} {n : Nat} (hlen : n < s.pwm.length) :
    (s.pwmOut n false false).gen n = (s.gen n).low := by
  obtain ⟨onA, onB, heq⟩ := s.pwmOut_low n
  rw [heq]
  split
  next hlow =>
    simp only [Bool.and_eq_true, Bool.not_eq_true'] at hlow
    exact (PwmGen.low_of_low hlow.1 hlow.2).symm
  next =>
    have hpwm : (s.pulsesRemoved n onA onB).pwm = s.pwm := by cases onA <;> cases onB <;> rfl
    change nth {} (upd (s.pulsesRemoved n onA onB).pwm n PwmGen.low) n = _
    rw [hpwm]
    exact nth_upd_self _ _ hlen _

theorem State.rd_trip (s : State) (n cause a : Nat) : (s.trip n cause).rd a = (s.tripShown n cause).rd a := by
  rw [State.trip_eq, State.rd_congr (State.regs_pwmOut_low _ n), State.rd_updGen]

/-- A trip leaves the filtered input as it is. -/
theorem State.bit_trip_input (s : State) (n cause : Nat) : (s.trip n cause).bit (PWM.TRIPSTAT n) 31 = s.bit (PWM.TRIPSTAT n) 31 := by
  rw [State.bit_congr (s.rd_trip n cause _), State.tripShown, State.count, State.bit_setFld _ _ (by decide), if_neg (by omega),
    State.bit_setFld _ _ (by decide), if_neg (by omega), State.irq, State.bit_setBit_ne _ (by simp only [PWM.TRIPSTAT]; omega),
    State.bit_setBit_ne _ (by simp only [PWM.TRIPSTAT, PWM.STAT]; omega)]

/-- A trip shows as R218 and R219 say, with any cause of two bits. -/
theorem State.tripped_trip {s : State} {n cause : Nat} (hlen : n < s.pwm.length) (hcause : cause < 4) :
    Tripped n cause s (s.trip n cause) := by
  have hflag : PWM.base n + 0x14 ≠ PWM.TRIPSTAT n := by simp only [PWM.TRIPSTAT]; omega
  have hstat : PWM.STAT n ≠ PWM.TRIPSTAT n ∧ PWM.STAT n ≠ PWM.base n + 0x14 := by simp only [PWM.TRIPSTAT, PWM.STAT]; omega
  have htrip : PWM.TRIPSTAT n ≠ PWM.base n + 0x14 ∧ PWM.TRIPSTAT n ≠ PWM.STAT n := by simp only [PWM.TRIPSTAT, PWM.STAT]; omega
  have hgen : (s.trip n cause).gen n = ((s.gen n).tripped s.now).low := by
    have hkept : n < (s.tripShown n cause).pwm.length := hlen
    rw [State.trip_eq, State.gen_pwmOut_low ((length_upd ..).symm ▸ hkept), State.gen_updGen hkept]
    rfl
  have hpage (a : Nat) (ha : a ≠ PWM.TRIPSTAT n) :
      (s.trip n cause).rd a = ((s.setBit (PWM.STAT n) 8 true).irq (PWM.base n) 7).rd a := by
    rw [State.rd_trip, State.tripShown, State.rd_count, if_neg ha, State.rd_setFld, if_neg ha]
  have hcount : (((s.setBit (PWM.STAT n) 8 true).irq (PWM.base n) 7).setFld (PWM.TRIPSTAT n) 29 28 cause).fld (PWM.TRIPSTAT n) 15 0 =
      s.fld (PWM.TRIPSTAT n) 15 0 := by
    rw [State.fld_setFld_disjoint _ _ (by decide) (by decide)]
    exact State.fld_congr (by rw [State.rd_irq, if_neg htrip.1, State.rd_setBit, if_neg htrip.2]) 15 0
  refine ⟨?latch, ?flag, ?code, ?count, ?_⟩
  case latch =>
    rw [State.bit_congr (hpage _ hstat.1), State.irq, State.bit_setBit_ne _ hstat.2, State.bit_setBit_self _ _ (by decide), if_pos rfl]
  case flag => rw [State.bit_congr (hpage _ hflag), State.irq, State.bit_setBit_self _ _ (by decide), if_pos rfl]
  case code =>
    rw [State.fld_congr (s.rd_trip n cause _), State.tripShown, State.count, State.fld_setFld_disjoint _ _ (by decide) (by decide),
      State.fld_setFld_self _ _ (by decide)]
    exact Nat.mod_eq_of_lt hcause
  case count =>
    rw [State.fld_congr (s.rd_trip n cause _), State.tripShown, State.fld_count_self _ _ (by decide), hcount]
    rfl
  rw [hgen]
  exact ⟨rfl, rfl, rfl, rfl⟩

/-! ### The filtered input (R217, R218) -/

/-- The filtered input turns active at a generator whose input was inactive: a trip. -/
theorem State.tripFiltered_rises {s : State} {n : Nat} (h : s.bit (PWM.TRIPSTAT n) 31 = false) :
    s.tripFiltered n true = (s.setBit (PWM.TRIPSTAT n) 31 true).trip n 1 := by
  simp [State.tripFiltered, h]

theorem State.tripFiltered_falls (s : State) (n : Nat) : s.tripFiltered n false = s.setBit (PWM.TRIPSTAT n) 31 false := rfl

theorem State.bit_tripFiltered (s : State) (n : Nat) (v : Bool) : (s.tripFiltered n v).bit (PWM.TRIPSTAT n) 31 = v := by
  have hset : (s.setBit (PWM.TRIPSTAT n) 31 v).bit (PWM.TRIPSTAT n) 31 = v := by rw [State.bit_setBit_self _ _ (by decide), if_pos rfl]
  unfold State.tripFiltered
  dsimp only
  split
  · rw [State.bit_trip_input, hset]
  · exact hset

/-- A generator whose filtered input turns active trips with cause 1. -/
theorem State.tripped_tripFiltered {s : State} {n : Nat} (hlen : n < s.pwm.length) (h : s.bit (PWM.TRIPSTAT n) 31 = false) :
    Tripped n 1 s (s.tripFiltered n true) := by
  obtain ⟨hlatch, hflag, hcause, hcount, hout⟩ :=
    State.tripped_trip (s := s.setBit (PWM.TRIPSTAT n) 31 true) (n := n) (cause := 1) hlen (by decide)
  rw [State.setBit, State.fld_setFld_disjoint _ _ (by decide) (by decide)] at hcount
  rw [State.tripFiltered_rises h]
  exact ⟨hlatch, hflag, hcause, hcount, hout⟩

end Sys2Proof.Machine
end

section
/-!
The pages of the generators (R138): where their registers stand, what an error response leaves of them (R148, R173), and on which
registers the trip input depends (R217).
-/
namespace Sys2Proof.Machine

/-! ### Error responses (R148, R173) -/

/-- The register is of no generator's page. -/
def besideGen (b : Nat) : Prop := b < 0x40020000 ∨ 0x40050000 ≤ b

theorem not_besideGen {n off : Nat} (hn : n < 48) (hoff : off < 0x1000) : ¬ besideGen (PWM.base n + off) := by
  simp only [besideGen, PWM.base]
  omega

section
variable (s : State) (init a : Nat) (c : Cause) (w : Bool)

theorem RegsBut.captureError_gen : RegsBut besideGen s (s.captureError init a c w) := by
  have hput : RegsBut besideGen s (s.putError init a c w) := ((RegsBut.refl _ s).wr (.inl (by decide)) _).wr (.inl (by decide)) _
  unfold State.captureError
  split
  case isTrue =>
    split
    case isTrue =>
      split
      · exact hput
      · exact .refl _ s
    case isFalse => exact (RegsBut.refl _ s).setBit (.inl (by decide)) 30 true
  case isFalse => exact (hput.irq (.inl (by decide)) 0).withBus _

theorem RegsBut.initiatorReact_gen (sub : Nat) : RegsBut besideGen s (s.initiatorReact init a sub w) := by
  have hcv (h : init < 26) (off : Nat) (hoff : off < 0x800) : besideGen (CV.base init + off) := by
    simp only [besideGen, CV.base]; omega
  have hmp (off : Nat) : besideGen (MP.base (sub % 4) + off) := by simp only [besideGen, MP.base]; omega
  have h := RegsBut.refl besideGen s
  fun_cases State.initiatorReact
  case case1 hlt => exact (h.setBit (hcv hlt 0x10 (by decide)) 3 true).irq (hcv hlt 0x14 (by decide)) 3
  case case2 => exact h.irq (.inr (by simp only [TLR.base]; omega)) _
  case case3 => exact (h.setBit (.inr (by decide)) 0 true).irq (.inr (by decide)) 3
  case case4 => exact (h.setBit (hmp 0x10) 0 true).irq (hmp 0x14) 0
  case case5 => exact (h.setBit (.inr (by decide)) 0 true).irq (.inr (by decide)) 3
  case case6 => exact h.withClerks _ s.clerk1
  case case7 => exact h.withClerks s.clerk0 _
  case case8 => exact h.irq (.inr (by simp only [ETH.base]; omega)) 6
  case case9 => exact h.irq (.inr (by simp only [CAN.base]; omega)) 5
  case case10 => exact h

theorem RegsBut.errorResp_gen (sub : Nat) : RegsBut besideGen s (s.errorResp init a c w sub) := by
  have hcount := ((RegsBut.captureError_gen s init a c w).irq (base := FAB.base) (.inl (by decide)) 0).trans
    ((RegsBut.fabCount_errcnt _).mono fun _ hb => .inl (hb ▸ by decide))
  unfold State.errorResp
  refine RegsBut.withBus ?_ _
  split
  · exact hcount
  · exact hcount.trans (RegsBut.initiatorReact_gen _ init a w sub)

/-- An error response leaves the registers of a generator's page as they are. -/
theorem State.rd_errorResp_gen {n off : Nat} (hn : n < 48) (hoff : off < 0x1000) (sub : Nat) :
    (s.errorResp init a c w sub).rd (PWM.base n + off) = s.rd (PWM.base n + off) :=
  RegsBut.errorResp_gen s init a c w sub _ (not_besideGen hn hoff)

theorem State.errorResp_pwm (sub : Nat) : (s.errorResp init a c w sub).pwm = s.pwm := by
  obtain ⟨_, _, _, _, heq⟩ := ((State.ErrorFrame.refl s).errorResp init a c w sub).fields
  rw [heq]

end

/-! ### Pages and rows (R138) -/

/-- The row of the generators' pages in the table of R138. -/
def genPage : PageRow := { name := "PWM", base := 0x40020000, cnt := 48, typ := 0x12, dom := .pwm, regs := regsPwm }

theorem pageTable_split_gen : pageTable = pageTable.take 7 ++ genPage :: pageTable.drop 8 := rfl

theorem pageTable_below_generators : ∀ p ∈ pageTable.take 7, p.base + p.cnt * p.size ≤ 0x40020000 := by decide

section
variable {n off : Nat} (hn : n < 48) (hoff : off < 0x1000)
include hn hoff

theorem findPage_generator : findPage (PWM.base n + off) = some (genPage, n, PWM.base n) := by
  have hlow : 0x40020000 ≤ PWM.base n + off := by simp only [PWM.base]; omega
  have hhigh : PWM.base n + off < 0x40020000 + 48 * 0x1000 := by simp only [PWM.base]; omega
  have hinst : (PWM.base n + off - 0x40020000) / 0x1000 = n := by simp only [PWM.base]; omega
  rw [findPage, pageTable_split_gen, findPageIn_append fun p hp => (pageTable_below_generators p hp).trans hlow, findPageIn]
  refine (if_pos ⟨hlow, hhigh⟩).trans ?_
  change some (genPage, (PWM.base n + off - 0x40020000) / 0x1000,
    0x40020000 + (PWM.base n + off - 0x40020000) / 0x1000 * 0x1000) = _
  rw [hinst]

theorem pageBase_generator : pageBase (PWM.base n + off) = PWM.base n := by
  rw [pageBase, findPage_generator hn hoff]

theorem rowAt_generator : rowAt (PWM.base n + off) = findRow off genPage.rows := by
  rw [rowAt, findPage_generator hn hoff]
  exact congrArg (findRow · genPage.rows) (Nat.add_sub_cancel_left ..)

end

/-- The fields of TRIPCFG (R217). -/
def tripcfgFields : List Field := [fRwl 31 30, fRwl 23 0]

theorem allRwl_tripcfg : AllRwl tripcfgFields := by unfold AllRwl; decide

theorem rowAt_TRIPCFG {n : Nat} (hn : n < 48) : ∃ r, rowAt (PWM.TRIPCFG n) = some r ∧ r.fields = tripcfgFields := by
  rw [rowAt_generator hn (by decide)]
  exact Option.map_eq_some_iff.1 (show (findRow 0x98 genPage.rows).map RegRow.fields = some tripcfgFields by decide)

theorem rowAt_TRIPSTAT {n : Nat} (hn : n < 48) : ∃ r, rowAt (PWM.TRIPSTAT n) = some r ∧ r.v1 = .same := by
  rw [rowAt_generator hn (by decide)]
  exact Option.map_eq_some_iff.1 (show (findRow 0xA0 genPage.rows).map RegRow.v1 = some .same by decide)

/-- Either version of the page shows the whole of TRIPSTAT. -/
theorem State.viewed_TRIPSTAT (s : State) {n : Nat} (hn : n < 48) (v : Word) : s.viewed (PWM.TRIPSTAT n) v = v := by
  obtain ⟨r, hrow, hsame⟩ := rowAt_TRIPSTAT hn
  rw [State.viewed, hrow]
  dsimp only
  rw [hsame]
  split <;> rfl

/-! ### The trip input (R217) -/

/-- The trip input depends on TRIPCFG as its page shows it, the comparators' lines, the fault balls and TRIP_IN. -/
theorem State.tripRaw_congr {s t : State} {n : Nat} (hn : n < 48) (hcfg : t.rd (PWM.TRIPCFG n) = s.rd (PWM.TRIPCFG n))
    (hver : t.rd (PWM.base n + 0x08) = s.rd (PWM.base n + 0x08)) (hcmp : t.cmp = s.cmp) (hflt : ∀ m, (t.hb m).flt = (s.hb m).flt)
    (hballs : t.balls.tripIn = s.balls.tripIn) : t.tripRaw n = s.tripRaw n := by
  have hshown : t.shown (PWM.TRIPCFG n) = s.shown (PWM.TRIPCFG n) :=
    State.shown_congr hcfg (by rw [pageBase_generator hn (by decide)]; exact hver)
  have hsource (c : Nat) : t.tripSource c = s.tripSource c := by
    unfold State.tripSource State.line State.cmpAt
    rw [hcmp, hflt, hballs]
  simp only [State.tripRaw, hshown, hsource]

/-- Neither does a trip, nor the filtered input, change the trip input. -/
theorem State.TripOnly.tripRaw {n : Nat} {s t : State} (h : s.TripOnly n t) (hn : n < 48) : t.tripRaw n = s.tripRaw n := by
  have hstands (off : Nat) (hoff : off = 0x98 ∨ off = 0x08) : t.rd (PWM.base n + off) = s.rd (PWM.base n + off) :=
    h.regs _ (by simp only [tripReg, PWM.STAT, PWM.TRIPSTAT]; omega)
  refine State.tripRaw_congr hn (hstands _ (.inl rfl)) (hstands _ (.inr rfl)) ?_ h.flt ?_
  all_goals
    obtain ⟨_, _, _, rfl⟩ := h.fields
    rfl

/-- RAW_ACT reads as the sources stand. -/
theorem State.regAccess_TRIPSTAT (s : State) (init tick : Nat) {n : Nat} (hn : n < 48) :
    tb (s.regAccess init (PWM.TRIPSTAT n) 4 false 0 0 tick).bus.resp.data 30 = s.tripRaw n := by
  have haligned : (decide (4 = 4) && decide (PWM.TRIPSTAT n % 4 = 0)) = true := by
    simp only [PWM.TRIPSTAT, PWM.base, decide_true, Bool.true_and, decide_eq_true_eq]
    omega
  have hpage : s.regAccess init (PWM.TRIPSTAT n) 4 false 0 0 tick = s.pageRead genPage n (PWM.base n) init (PWM.TRIPSTAT n) tick := by
    rw [State.regAccess, findPage_generator hn (by decide)]
    dsimp only
    rw [haligned]
    exact congrArg (fun i => s.pageRead genPage i (PWM.base n) init (PWM.TRIPSTAT n) tick) (Nat.zero_add n)
  have hread : s.pageRead genPage n (PWM.base n) init (PWM.TRIPSTAT n) tick = (s.atTime tick).respond init (PWM.TRIPSTAT n)
      ((s.atTime tick).viewed (PWM.TRIPSTAT n) (putBits ((s.atTime tick).shown (PWM.TRIPSTAT n)) 30 30
        (b2n ((s.atTime tick).tripRaw n)))) := by
    have hoff : PWM.TRIPSTAT n - PWM.base n = 0xA0 := Nat.add_sub_cancel_left ..
    rw [State.pageRead, hoff]
    rfl
  rw [hpage, hread, State.viewed_TRIPSTAT _ hn]
  exact (tb_putBits_bit _ (by decide) _ 30).trans (if_pos rfl)

end Sys2Proof.Machine
end

section
/-!
The commands of a generator's trip (R217-R220): the filtered input, FORCE, CLR, the trip configuration and PWMC's FORCE.
-/
namespace Sys2Proof.Machine

/-! ### The frame of a write at a generator's page -/

theorem PwmWriteFrame.trans {n : Nat} {s t u : State} (hst : PwmWriteFrame n s t) (htu : PwmWriteFrame n t u) :
    PwmWriteFrame n s u := by
  obtain ⟨hregs, hgens, hhbs, ht⟩ := hst
  obtain ⟨hregs', hgens', hhbs', hu⟩ := htu
  refine ⟨hregs.trans hregs', fun m hm => (hgens' m hm).trans (hgens m hm), fun m hm => (hhbs' m hm).trans (hhbs m hm),
    hu.trans ?_⟩
  conv_lhs => rw [ht]

theorem State.pwmWriteFrame_atTime (s : State) (n tick : Nat) : PwmWriteFrame n s (s.atTime tick) :=
  ⟨.refl _ s, fun _ _ => rfl, fun _ _ => rfl, rfl⟩

theorem State.pwmWriteFrame_seeTripIn (s : State) (n m : Nat) : PwmWriteFrame n s (s.seeTripIn m) :=
  ⟨.refl _ s, fun _ _ => rfl, fun _ _ => rfl, rfl⟩

theorem State.pwmWriteFrame_respond (s : State) (n init a : Nat) (data : Word) : PwmWriteFrame n s (s.respond init a data) :=
  ⟨.refl _ s, fun _ _ => rfl, fun _ _ => rfl, rfl⟩

theorem State.pwmWriteFrame_fieldsWritten (s : State) (n init : Nat) {off : Nat} (hoff : off < 0x1000) (fs : List Field)
    (data : Word) : PwmWriteFrame n s (s.fieldsWritten init (PWM.base n + off) fs data) :=
  ⟨(s.fieldsWritten_regs init _ fs data).mono fun _ ha => .inl (ha ▸ inPage_add _ hoff), fun _ _ => rfl, fun _ _ => rfl, rfl⟩

theorem inPage_of_tripReg {n a : Nat} (h : tripReg n a) : inPage (PWM.base n) a := by
  obtain rfl | rfl | rfl := h
  all_goals exact inPage_add _ (by decide)

theorem State.TripOnly.pwmWriteFrame {n : Nat} {s t : State} (h : s.TripOnly n t) : PwmWriteFrame n s t := by
  refine ⟨h.regs.mono fun _ ha => .inl (inPage_of_tripReg ha), h.gens, h.hbs, ?_⟩
  obtain ⟨_, _, _, rfl⟩ := h.fields
  rfl

/-! ### The filtered input (R217, R218) -/

section
variable {s : State} {n : Nat} (hn : n < 48) (m at_ : Nat)

theorem exec_tripInput_stopped (hstop : s.domRun .pwm = false) :
    exec (.tripInputActive n at_ m) s = .next s ∧ exec (.tripInputInactive n at_ m) s = .next s :=
  ⟨congrArg Host.Outcome.next (State.clocked_stop hstop _), congrArg Host.Outcome.next (State.clocked_stop hstop _)⟩

include hn

/-- While CLK_PWM runs, the filtered input follows sources that stand at the level. -/
theorem State.tripSettled_run (hrun : s.domRun .pwm = true) (v : Bool) : s.tripSettled n at_ m v =
    if (s.seeTripIn m).tripRaw n = v then ((s.atTime at_).seeTripIn m).tripFiltered n v else (s.atTime at_).seeTripIn m := by
  rw [State.tripSettled, State.clocked_run hrun]
  by_cases h : (s.seeTripIn m).tripRaw n = v
  · rw [if_pos h]
    exact if_pos ⟨hn, h⟩
  · rw [if_neg h]
    exact if_neg fun h' => h h'.2

theorem exec_tripInputActive (hrun : s.domRun .pwm = true) (hraw : (s.seeTripIn m).tripRaw n = true) :
    exec (.tripInputActive n at_ m) s = .next (((s.atTime at_).seeTripIn m).tripFiltered n true) :=
  congrArg Host.Outcome.next ((State.tripSettled_run hn m at_ hrun true).trans (if_pos hraw))

theorem exec_tripInputInactive (hrun : s.domRun .pwm = true) (hraw : (s.seeTripIn m).tripRaw n = false) :
    exec (.tripInputInactive n at_ m) s = .next (((s.atTime at_).seeTripIn m).setBit (PWM.TRIPSTAT n) 31 false) :=
  congrArg Host.Outcome.next ((State.tripSettled_run hn m at_ hrun false).trans (if_pos hraw))

theorem tripInputActive_trips (hlen : n < s.pwm.length) (hrun : s.domRun .pwm = true) (hraw : (s.seeTripIn m).tripRaw n = true)
    (hwas : s.bit (PWM.TRIPSTAT n) 31 = false) : ∃ t, exec (.tripInputActive n at_ m) s = .next t ∧
    Tripped n 1 s t ∧ t.bit (PWM.TRIPSTAT n) 31 = true ∧ t.balls.tripIn = m % 256 ∧ (∀ k, k ≠ n → t.gen k = s.gen k) ∧
      t = { s with regs := t.regs, pwm := t.pwm, gate := t.gate, balls := { s.balls with tripIn := m % 256 },
                   now := max s.now at_ } := by
  have htrip := (State.TripOnly.refl n ((s.atTime at_).seeTripIn m)).tripFiltered true
  have htripped := State.tripped_tripFiltered (s := (s.atTime at_).seeTripIn m) hlen hwas
  refine ⟨_, exec_tripInputActive hn m at_ hrun hraw, htripped, State.bit_tripFiltered .., ?levels, htrip.gens, ?frame⟩
  all_goals obtain ⟨_, _, _, heq⟩ := htrip.fields
  case levels => rw [heq]; rfl
  case frame => rw [heq]; rfl

theorem tripInputInactive_clears (hrun : s.domRun .pwm = true) (hraw : (s.seeTripIn m).tripRaw n = false) :
    ∃ t, exec (.tripInputInactive n at_ m) s = .next t ∧ t.bit (PWM.TRIPSTAT n) 31 = false ∧
    t.bit (PWM.STAT n) 8 = s.bit (PWM.STAT n) 8 ∧ t.pwm = s.pwm ∧ RegsBut (fun a => a = PWM.TRIPSTAT n) s t ∧
    t = { s with regs := t.regs, balls := { s.balls with tripIn := m % 256 }, now := max s.now at_ } := by
  refine ⟨_, exec_tripInputInactive hn m at_ hrun hraw, ?_, ?_, rfl,
    RegsBut.setBit (P := fun a => a = PWM.TRIPSTAT n) (t := (s.atTime at_).seeTripIn m) (fun _ _ => rfl) rfl 31 false, rfl⟩
  · exact (State.bit_setBit_self _ _ (by decide) _ _).trans (if_pos rfl)
  · exact State.bit_setBit_ne _ (by simp only [PWM.STAT, PWM.TRIPSTAT]; omega) _ _ _

/-- Sources at the other level leave the filtered input alone. -/
theorem tripInput_stands (hrun : s.domRun .pwm = true) :
    ((s.seeTripIn m).tripRaw n = false →
      exec (.tripInputActive n at_ m) s = .next { s with balls := { s.balls with tripIn := m % 256 }, now := max s.now at_ }) ∧
    ((s.seeTripIn m).tripRaw n = true →
      exec (.tripInputInactive n at_ m) s = .next { s with balls := { s.balls with tripIn := m % 256 }, now := max s.now at_ }) :=
  ⟨fun hraw => congrArg Host.Outcome.next ((State.tripSettled_run hn m at_ hrun true).trans (if_neg (by simp [hraw]))),
    fun hraw => congrArg Host.Outcome.next ((State.tripSettled_run hn m at_ hrun false).trans (if_neg (by simp [hraw])))⟩

end

/-! ### TRIPCTL (R218, R220) -/

theorem tb_or (v w : Word) (i : Nat) : tb (v ||| w) i = (tb v i || tb w i) := BitVec.getLsbD_or

section
variable {s : State} {n : Nat} {data : Word} (init : Nat)

theorem tripctlWrite_force (hforce : tb data 1 = true) (hclr : tb data 0 = false) :
    tripctlWrite init n data s = (s.trip n 2).respond init (PWM.TRIPCTL n) 0 := by
  simp [tripctlWrite, hforce, hclr]

/-- An inactive input lets CLR act on the latch. -/
theorem tripctlWrite_inactive (hforce : tb data 1 = false) (hclr : tb data 0 = true) (hlatch : s.bit (PWM.STAT n) 8 = true)
    (hinput : s.bit (PWM.TRIPSTAT n) 31 = false) :
    tripctlWrite init n data s = (s.tripUnlatch n).respond init (PWM.TRIPCTL n) 0 := by
  simp [tripctlWrite, hforce, hclr, hlatch, hinput]

/-- An active input refuses it, with the flag. -/
theorem tripctlWrite_active (hforce : tb data 1 = false) (hclr : tb data 0 = true) (hlatch : s.bit (PWM.STAT n) 8 = true)
    (hinput : s.bit (PWM.TRIPSTAT n) 31 = true) :
    tripctlWrite init n data s = (s.pwmFlag n 1).errorResp init (PWM.TRIPCTL n) .refused true := by
  simp [tripctlWrite, hforce, hclr, hlatch, hinput]

end

/-- The generator keeps its outputs low until its next period. -/
def PwmGen.resting (g : PwmGen) : PwmGen := { g with rest := true }

/-- The latch has been cleared: the outputs rest until the next period (R220). -/
def State.unlatched (s : State) (n : Nat) : State :=
  ((s.setBit (PWM.STAT n) 8 false).setFld (PWM.TRIPSTAT n) 29 28 0).updGen n PwmGen.resting

theorem State.tripUnlatch_later {s : State} {n : Nat} (h : (s.gen n).tripAt ≠ some (s.now / 32)) : s.tripUnlatch n = s.unlatched n :=
  if_neg h

/-- A trip of the same CLK_PWM edge wins. -/
theorem State.tripUnlatch_sameEdge {s : State} {n : Nat} (h : (s.gen n).tripAt = some (s.now / 32)) : s.tripUnlatch n = s := if_pos h

theorem State.unlatched_latch (s : State) (n : Nat) : (s.unlatched n).bit (PWM.STAT n) 8 = false := by
  have hne : PWM.STAT n ≠ PWM.TRIPSTAT n := by simp only [PWM.STAT, PWM.TRIPSTAT]; omega
  rw [State.unlatched, State.bit_congr (State.rd_updGen _ n _ _), State.bit_setFld _ _ (by decide), if_neg fun h => hne h.1,
    State.bit_setBit_self _ _ (by decide), if_pos rfl]

theorem State.unlatched_cause (s : State) (n : Nat) : (s.unlatched n).fld (PWM.TRIPSTAT n) 29 28 = 0 := by
  rw [State.unlatched, State.fld_congr (State.rd_updGen _ n _ _), State.fld_setFld_self _ _ (by decide)]
  rfl

theorem State.gen_respond (s : State) (init a : Nat) (data : Word) (n : Nat) : (s.respond init a data).gen n = s.gen n := rfl

theorem State.gen_unlatched {s : State} {n : Nat} (hlen : n < s.pwm.length) :
    (s.unlatched n).gen n = (s.gen n).resting := State.gen_updGen (s := s) hlen _

theorem State.TripOnly.unlatched (s : State) (n : Nat) : s.TripOnly n (s.unlatched n) :=
  (((State.TripOnly.refl n s).wr (.inl rfl) _).wr (.inr (.inr rfl)) _).updGen _

section
variable {s : State} {n : Nat} (hn : n < 48) (hnow : s.mustWait .pwm (PWM.base n) = false) (init : Nat) (data : Word) (at_ : Nat)
include hn hnow

theorem exec_tripForce : exec (.tripForce init n data at_) s = .next (tripctlWrite init n (data ||| 2) (s.atTime at_)) := by
  change execTripForce init n data at_ s = _
  rw [execTripForce, Nat.mod_eq_of_lt hn, State.writeAt_now hnow]

theorem exec_tripClear : exec (.tripClear init n data at_) s = .next (tripctlWrite init n (data ||| 1) (s.atTime at_)) := by
  change execTripClear init n data at_ s = _
  rw [execTripClear, Nat.mod_eq_of_lt hn, State.writeAt_now hnow]

theorem tripForce_trips (hlen : n < s.pwm.length) (hclr : tb data 0 = false) :
    ∃ t, exec (.tripForce init n data at_) s = .next t ∧
    Tripped n 2 s t ∧ Accepted init (PWM.TRIPCTL n) t ∧ PwmWriteFrame n s t := by
  have hset : tb (data ||| 2) 1 = true := by rw [tb_or]; exact Bool.or_true _
  have hwrite := tripctlWrite_force (s := s.atTime at_) (n := n) init hset (by rw [tb_or, hclr]; rfl)
  have hframe := ((s.pwmWriteFrame_atTime n at_).trans ((State.TripOnly.refl n (s.atTime at_)).trip 2).pwmWriteFrame).trans
    (State.pwmWriteFrame_respond _ n init (PWM.TRIPCTL n) 0)
  exact ⟨_, (exec_tripForce hn hnow init data at_).trans (congrArg _ hwrite),
    State.tripped_trip (s := s.atTime at_) hlen (by decide), State.accepted_respond .., hframe⟩

/-! A write with CLR set and FORCE not. -/

variable (hforce : tb data 1 = false) (hlatch : s.bit (PWM.STAT n) 8 = true)
include hforce hlatch

theorem exec_tripClear_inactive (hinput : s.bit (PWM.TRIPSTAT n) 31 = false) : exec (.tripClear init n data at_) s =
    .next (((s.atTime at_).tripUnlatch n).respond init (PWM.TRIPCTL n) 0) := by
  have hset : tb (data ||| 1) 0 = true := by rw [tb_or]; exact Bool.or_true _
  rw [exec_tripClear hn hnow, tripctlWrite_inactive (s := s.atTime at_) init (by rw [tb_or, hforce]; rfl) hset hlatch hinput]

theorem exec_tripClear_active (hinput : s.bit (PWM.TRIPSTAT n) 31 = true) : exec (.tripClear init n data at_) s =
    .next (((s.atTime at_).pwmFlag n 1).errorResp init (PWM.TRIPCTL n) .refused true) := by
  have hset : tb (data ||| 1) 0 = true := by rw [tb_or]; exact Bool.or_true _
  rw [exec_tripClear hn hnow, tripctlWrite_active (s := s.atTime at_) init (by rw [tb_or, hforce]; rfl) hset hlatch hinput]

theorem tripClear_clears (hlen : n < s.pwm.length) (hinput : s.bit (PWM.TRIPSTAT n) 31 = false)
    (hedge : (s.gen n).tripAt ≠ some (max s.now at_ / 32)) :
    ∃ t, exec (.tripClear init n data at_) s = .next t ∧ t.bit (PWM.STAT n) 8 = false ∧ t.fld (PWM.TRIPSTAT n) 29 28 = 0 ∧
    (t.gen n).rest = true ∧ (t.gen n).outA = (s.gen n).outA ∧ Accepted init (PWM.TRIPCTL n) t ∧ PwmWriteFrame n s t := by
  have hexec := exec_tripClear_inactive hn hnow init data at_ hforce hlatch hinput
  rw [State.tripUnlatch_later (s := s.atTime at_) hedge] at hexec
  have hgen : (((s.atTime at_).unlatched n).respond init (PWM.TRIPCTL n) 0).gen n = ((s.atTime at_).gen n).resting := by
    rw [State.gen_respond, State.gen_unlatched (s := s.atTime at_) hlen]
  refine ⟨_, hexec, ?latch, ?code, ?rest, ?out, State.accepted_respond .., ?frame⟩
  case latch => exact (State.bit_congr (State.rd_respond ..) 8).trans ((s.atTime at_).unlatched_latch n)
  case code => exact (State.fld_congr (State.rd_respond ..) 29 28).trans ((s.atTime at_).unlatched_cause n)
  case rest => rw [hgen]; rfl
  case out => rw [hgen]; rfl
  case frame =>
    have hunlatched := (State.TripOnly.unlatched (s.atTime at_) n).pwmWriteFrame
    exact ((s.pwmWriteFrame_atTime n at_).trans hunlatched).trans (((s.atTime at_).unlatched n).pwmWriteFrame_respond n init _ 0)

theorem tripClear_loses (hinput : s.bit (PWM.TRIPSTAT n) 31 = false) (hedge : (s.gen n).tripAt = some (max s.now at_ / 32)) :
    ∃ t, exec (.tripClear init n data at_) s = .next t ∧ t.bit (PWM.STAT n) 8 = true ∧ t.pwm = s.pwm ∧
    t.rd (PWM.TRIPSTAT n) = s.rd (PWM.TRIPSTAT n) := by
  have hexec := exec_tripClear_inactive hn hnow init data at_ hforce hlatch hinput
  rw [State.tripUnlatch_sameEdge (s := s.atTime at_) hedge] at hexec
  exact ⟨_, hexec, hlatch, rfl, rfl⟩

theorem tripClear_refused (hinput : s.bit (PWM.TRIPSTAT n) 31 = true) :
    ∃ t, exec (.tripClear init n data at_) s = .next t ∧ t.bit (PWM.STAT n) 8 = true ∧ t.bit (PWM.STAT n) 1 = true ∧
    Refused init (PWM.TRIPCTL n) .refused t ∧ t.pwm = s.pwm := by
  have hne : PWM.STAT n ≠ PWM.base n + 0x14 := by simp only [PWM.STAT]; omega
  have hflagged (i : Nat) : (((s.atTime at_).pwmFlag n 1).errorResp init (PWM.TRIPCTL n) .refused true).bit (PWM.STAT n) i =
      if i = 1 then true else s.bit (PWM.STAT n) i := by
    rw [State.bit_congr (State.rd_errorResp_gen _ _ _ _ _ hn (by decide) _), State.pwmFlag, State.irq,
      State.bit_setBit_ne _ hne, State.bit_setBit_self _ _ (by decide)]
    rfl
  exact ⟨_, exec_tripClear_active hn hnow init data at_ hforce hlatch hinput, (hflagged 8).trans hlatch, hflagged 1,
    State.refused_errorResp .., State.errorResp_pwm ..⟩

end

/-! ### TRIPCFG (R217) -/

/-- Where TRIPCFG has a field it reads the bits of the data. -/
theorem State.fieldsWritten_tripcfg (s : State) (init n : Nat) (data : Word) {hi lo : Nat}
    (hfield : ∀ j, lo ≤ j → j ≤ hi → ∃ f ∈ tripcfgFields, f.lo ≤ j ∧ j ≤ f.hi) :
    (s.fieldsWritten init (PWM.TRIPCFG n) tripcfgFields data).fld (PWM.TRIPCFG n) hi lo = bitsOf data hi lo := by
  rw [State.fld, State.fieldsWritten_rd, if_pos rfl]
  exact bitsOf_congr fun j hlo hhi => by rw [tb_applyFields_rwl allRwl_tripcfg, if_pos (hfield j hlo hhi)]

/-- The sources' fields, and the filter's. -/
theorem State.fieldsWritten_tripcfg_low (s : State) (init n : Nat) (data : Word) {hi : Nat} (hhi : hi ≤ 23) (lo : Nat) :
    (s.fieldsWritten init (PWM.TRIPCFG n) tripcfgFields data).fld (PWM.TRIPCFG n) hi lo = bitsOf data hi lo :=
  s.fieldsWritten_tripcfg init n data fun j _ hj => ⟨fRwl 23 0, by decide, Nat.zero_le j, Nat.le_trans hj hhi⟩

/-- A write of open sources to an unlocked page: with FILT 0 the filtered input follows the new sources at once. -/
theorem tripcfgWrite_open {s : State} {n : Nat} (hn : n < 48) (init : Nat) {data : Word} (hopen : s.locked (PWM.base n) = false)
    (hver : s.ver (PWM.base n) = 2) (h0 : tripReserved (bitsOf data 7 0) = false) (h1 : tripReserved (bitsOf data 15 8) = false) :
    ∃ w, w = s.fieldsWritten init (PWM.TRIPCFG n) tripcfgFields data ∧
      tripcfgWrite init n data s = if bitsOf data 23 16 = 0 then w.tripFiltered n (w.tripRaw n) else w := by
  obtain ⟨r, hrow, hfields⟩ := rowAt_TRIPCFG hn
  have hbase : pageBase (PWM.TRIPCFG n) = PWM.base n := pageBase_generator hn (by decide)
  have hplain := State.plainWrite_open (s := s) hrow (by rw [hbase]; exact hver) (by rw [hbase]; exact hopen) init data
  refine ⟨_, rfl, ?_⟩
  rw [tripcfgWrite]
  dsimp only
  rw [h0, h1, hplain, hfields, State.fieldsWritten_tripcfg_low _ _ _ _ (by decide)]
  rfl

section
variable {s : State} {n : Nat} (hn : n < 48) (hnow : s.mustWait .pwm (PWM.base n) = false) (init : Nat) (data : Word) (m at_ : Nat)
include hn hnow

theorem exec_tripCfgWrite : exec (.tripCfgWrite init n data m at_) s =
    .next (tripcfgWrite init n data ((s.seeTripIn m).atTime at_)) := by
  change execTripCfgWrite init n data m at_ s = _
  rw [execTripCfgWrite, Nat.mod_eq_of_lt hn, State.writeAt_now hnow]

theorem tripCfgWrite_taken (hopen : s.locked (PWM.base n) = false) (hver : s.ver (PWM.base n) = 2)
    (h0 : tripReserved (bitsOf data 7 0) = false) (h1 : tripReserved (bitsOf data 15 8) = false) :
    ∃ t, exec (.tripCfgWrite init n data m at_) s = .next t ∧ t.fld (PWM.TRIPCFG n) 31 30 = bitsOf data 31 30 ∧
    t.fld (PWM.TRIPCFG n) 23 0 = bitsOf data 23 0 ∧ (bitsOf data 23 16 ≠ 0 → t.bit (PWM.STAT n) 8 = s.bit (PWM.STAT n) 8) ∧
    (bitsOf data 23 16 = 0 → t.bit (PWM.TRIPSTAT n) 31 = t.tripRaw n) ∧
    Accepted init (PWM.TRIPCFG n) t ∧ PwmWriteFrame n s t := by
  have hexec := exec_tripCfgWrite hn hnow init data m at_
  have hseen := (s.pwmWriteFrame_seeTripIn n m).trans ((s.seeTripIn m).pwmWriteFrame_atTime n at_)
  obtain ⟨w, hw, hwrite⟩ := tripcfgWrite_open (s := (s.seeTripIn m).atTime at_) hn init hopen hver h0 h1
  have hsel : w.fld (PWM.TRIPCFG n) 31 30 = bitsOf data 31 30 := by
    rw [hw]
    exact State.fieldsWritten_tripcfg _ init n data fun j hj hj' => ⟨fRwl 31 30, by decide, hj, hj'⟩
  have hlow : w.fld (PWM.TRIPCFG n) 23 0 = bitsOf data 23 0 := by rw [hw]; exact State.fieldsWritten_tripcfg_low _ _ _ _ (by decide) _
  have hstat : w.rd (PWM.STAT n) = s.rd (PWM.STAT n) := by
    rw [hw, State.fieldsWritten_rd, if_neg (by simp only [PWM.STAT, PWM.TRIPCFG]; omega)]
    rfl
  have haccepted : Accepted init (PWM.TRIPCFG n) w := by rw [hw]; exact State.fieldsWritten_accepted ..
  have hframe : PwmWriteFrame n s w := by rw [hw]; exact hseen.trans (State.pwmWriteFrame_fieldsWritten _ n init (by decide) _ data)
  clear hw
  rw [hwrite] at hexec
  by_cases hfilt : bitsOf data 23 16 = 0
  · rw [if_pos hfilt] at hexec
    have htrip := (State.TripOnly.refl n w).tripFiltered (w.tripRaw n)
    have hcfg : (w.tripFiltered n (w.tripRaw n)).rd (PWM.TRIPCFG n) = w.rd (PWM.TRIPCFG n) :=
      htrip.regs _ (by simp only [tripReg, PWM.STAT, PWM.TRIPSTAT, PWM.TRIPCFG]; omega)
    have hbus : (w.tripFiltered n (w.tripRaw n)).bus = w.bus := by
      obtain ⟨_, _, _, heq⟩ := htrip.fields
      rw [heq]
    refine ⟨_, hexec, (State.fld_congr hcfg 31 30).trans hsel, (State.fld_congr hcfg 23 0).trans hlow, absurd hfilt, fun _ => ?_,
      (congrArg Bus.resp hbus).trans haccepted, hframe.trans htrip.pwmWriteFrame⟩
    rw [State.bit_tripFiltered, htrip.tripRaw hn]
  · rw [if_neg hfilt] at hexec
    exact ⟨w, hexec, hsel, hlow, fun _ => State.bit_congr hstat 8, fun h => absurd h hfilt, haccepted, hframe⟩

/-- A reserved source is refused. -/
theorem tripCfgWrite_refused (h0 : tripReserved (bitsOf data 7 0) = true) :
    ∃ t, exec (.tripCfgWrite init n data m at_) s = .next t ∧ Refused init (PWM.TRIPCFG n) .refused t ∧
    t.rd (PWM.TRIPCFG n) = s.rd (PWM.TRIPCFG n) := by
  have hwrite : tripcfgWrite init n data ((s.seeTripIn m).atTime at_) =
      ((s.seeTripIn m).atTime at_).errorResp init (PWM.TRIPCFG n) .refused true := by
    simp [tripcfgWrite, h0]
  exact ⟨_, (exec_tripCfgWrite hn hnow init data m at_).trans (congrArg _ hwrite), State.refused_errorResp ..,
    State.rd_errorResp_gen _ _ _ _ _ hn (by decide) _⟩

end

end Sys2Proof.Machine
end

section
/-!
PWMC's FORCE registers (R218), each of which trips the generators that its word names, and O19.
-/
namespace Sys2Proof.Machine

/-! ### Trips of other generators -/

/-- Generator `n` and the registers of its page read as before. -/
structure State.GenKept (n : Nat) (s t : State) : Prop where
  gen : t.gen n = s.gen n
  len : t.pwm.length = s.pwm.length
  regs : ∀ a, inPage (PWM.base n) a → t.rd a = s.rd a

theorem State.GenKept.refl (n : Nat) (s : State) : s.GenKept n s := ⟨rfl, rfl, fun _ _ => rfl⟩

theorem State.GenKept.trans {n : Nat} {s t u : State} (hst : s.GenKept n t) (htu : t.GenKept n u) : s.GenKept n u :=
  ⟨htu.gen.trans hst.gen, htu.len.trans hst.len, fun a ha => (htu.regs a ha).trans (hst.regs a ha)⟩

theorem State.TripOnly.genKept {m n : Nat} {s t : State} (h : s.TripOnly m t) (hne : n ≠ m) : s.GenKept n t := by
  refine ⟨h.gens n hne, h.len, fun a ha => h.regs a fun hreg => ?_⟩
  have hpage := inPage_of_tripReg hreg
  simp only [inPage, PWM.base] at ha hpage
  omega

/-- What other generators do neither undoes a trip nor counts at it. -/
theorem Tripped.of_genKept {n cause : Nat} {s s' t' t : State} (hbefore : s.GenKept n s') (htrip : Tripped n cause s' t')
    (hafter : t'.GenKept n t) : Tripped n cause s t := by
  have hpage (off : Nat) (hoff : off < 0x1000) : t.rd (PWM.base n + off) = t'.rd (PWM.base n + off) :=
    hafter.regs _ (inPage_add _ hoff)
  have hcount : s'.fld (PWM.TRIPSTAT n) 15 0 = s.fld (PWM.TRIPSTAT n) 15 0 :=
    State.fld_congr (hbefore.regs _ (inPage_add _ (by decide))) 15 0
  obtain ⟨hlatch, hflag, hcode, htrips, hout⟩ := htrip
  rw [hcount] at htrips
  refine ⟨(State.bit_congr (hpage _ (by decide)) 8).trans hlatch, (State.bit_congr (hpage _ (by decide)) 7).trans hflag,
    (State.fld_congr (hpage _ (by decide)) 29 28).trans hcode, (State.fld_congr (hpage _ (by decide)) 15 0).trans htrips, ?_⟩
  rw [hafter.gen]
  exact hout

/-! ### The trips of one word -/

/-- What bit `i` of a word to FORCE register `k` does. -/
def State.forceBit (k : Nat) (data : Word) (s : State) (i : Nat) : State := if tb data i then s.trip (32 * k + i) 2 else s

theorem State.forceBit_tripOnly (k : Nat) (data : Word) (s : State) (i : Nat) :
    s.TripOnly (32 * k + i) (s.forceBit k data i) :=
  ((State.TripOnly.refl _ s).trip 2).ite (State.TripOnly.refl _ s) _

/-- Bits of other generators leave generator `32 * k + i` alone. -/
theorem State.genKept_forceBits (k : Nat) (data : Word) (s : State) {i : Nat} {l : List Nat} (hl : i ∉ l) :
    s.GenKept (32 * k + i) (l.foldl (State.forceBit k data) s) :=
  List.foldlRecOn l _ (State.GenKept.refl _ s) fun t ht j hj =>
    have hne : i ≠ j := fun h => hl (h ▸ hj)
    ht.trans ((t.forceBit_tripOnly k data j).genKept (by omega))

/-- Among the bits of a word, one that is set trips its generator once. -/
theorem State.tripped_forceBits {k i : Nat} {data : Word} {s : State} {l : List Nat} (hi : i ∈ l) (hl : l.Nodup)
    (hlen : 32 * k + i < s.pwm.length) (hset : tb data i = true) :
    Tripped (32 * k + i) 2 s (l.foldl (State.forceBit k data) s) := by
  obtain ⟨before, after, rfl⟩ := List.append_of_mem hi
  obtain ⟨hnot, -⟩ := List.nodup_cons.1 (List.nodup_middle.1 hl)
  have hkept := s.genKept_forceBits k data (i := i) (l := before) fun h => hnot (List.mem_append_left _ h)
  rw [List.foldl_append, List.foldl_cons]
  refine Tripped.of_genKept hkept ?_ (State.genKept_forceBits k data _ fun h => hnot (List.mem_append_right _ h))
  rw [State.forceBit, if_pos hset]
  exact State.tripped_trip (hkept.len ▸ hlen) (by decide)

/-- A word to FORCE register `k` touches no generator of the other register, and nothing but what trips touch. -/
theorem State.forceBits_frame (k : Nat) (data : Word) (s : State) {l : List Nat} (hl : ∀ i ∈ l, i < 32) :
    (∃ regs pwm gate, l.foldl (State.forceBit k data) s = { s with regs := regs, pwm := pwm, gate := gate }) ∧
    ∀ m, m / 32 ≠ k → (l.foldl (State.forceBit k data) s).gen m = s.gen m := by
  refine List.foldlRecOn (motive := fun t => (∃ regs pwm gate, t = { s with regs := regs, pwm := pwm, gate := gate }) ∧
    ∀ m, m / 32 ≠ k → t.gen m = s.gen m) l _ ⟨⟨_, _, _, rfl⟩, fun _ _ => rfl⟩ fun t ⟨hfields, hgens⟩ i hi => ?_
  have htrip := t.forceBit_tripOnly k data i
  constructor
  · obtain ⟨_, _, _, heq⟩ := htrip.fields
    obtain ⟨_, _, _, rfl⟩ := hfields
    exact ⟨_, _, _, heq⟩
  · intro m hm
    have hlt := hl i hi
    exact (htrip.gens m (by omega)).trans (hgens m hm)

/-! ### PWMC's FORCE (R218) -/

/-- The bits of FORCE register `k` that name a generator. -/
def forceRange (k : Nat) : List Nat := List.range (if k = 0 then 32 else 16)

theorem mem_forceRange {n k : Nat} (hn : n < 48) (hreg : n / 32 = k) : n % 32 ∈ forceRange k := by
  rw [forceRange, List.mem_range]
  split <;> omega

theorem lt_of_mem_forceRange {k i : Nat} (h : i ∈ forceRange k) : i < 32 := by
  rw [forceRange, List.mem_range] at h
  split at h <;> omega

section
variable {s : State} (hver : s.ver PWMC.base = 2) (init k : Nat) (data : Word)
include hver

theorem pwmcForceWrite_enabled (hen : s.en PWMC.base = true) : pwmcForceWrite init k data s =
    ((forceRange k).foldl (State.forceBit k data) s).respond init (PWMC.base + 0x50 + 4 * k) 0 := by
  unfold pwmcForceWrite
  exact (if_neg (by omega)).trans (if_neg (by simp [hen]))

theorem pwmcForceWrite_disabled (hen : s.en PWMC.base = false) :
    pwmcForceWrite init k data s = s.errorResp init (PWMC.base + 0x50 + 4 * k) .refused true := by
  unfold pwmcForceWrite
  exact (if_neg (by omega)).trans (if_pos (by simp [hen]))

end

section
variable {s : State} {k : Nat} (hk : k < 2) (hnow : s.mustWait .pwm PWMC.base = false) (hver : s.ver PWMC.base = 2) (init : Nat)
  (data : Word) (at_ : Nat)
include hk hnow

theorem exec_pwmcForce : exec (.pwmcForce init k data at_) s = .next (pwmcForceWrite init k data (s.atTime at_)) := by
  change execPwmcForce init k data at_ s = _
  rw [execPwmcForce, Nat.mod_eq_of_lt hk, State.writeAt_now hnow]

include hver

theorem pwmcForce_trips {n : Nat} (hn : n < 48) (hlen : n < s.pwm.length) (hen : s.en PWMC.base = true) (hreg : n / 32 = k)
    (hset : tb data (n % 32) = true) :
    ∃ t, exec (.pwmcForce init k data at_) s = .next t ∧ Tripped n 2 s t ∧ Accepted init (PWMC.base + 0x50 + 4 * k) t ∧
    (∀ m, m / 32 ≠ k → t.gen m = s.gen m) ∧
    t = { s with regs := t.regs, pwm := t.pwm, gate := t.gate, now := max s.now at_, bus := { s.bus with resp := t.bus.resp } } := by
  have hwrite := pwmcForceWrite_enabled (s := s.atTime at_) hver init k data hen
  have hsplit : 32 * k + n % 32 = n := by omega
  have htrip := State.tripped_forceBits (s := s.atTime at_) (k := k) (mem_forceRange hn hreg) List.nodup_range
    (hsplit.symm ▸ hlen) hset
  rw [hsplit] at htrip
  obtain ⟨⟨_, _, _, hfields⟩, hgens⟩ := (s.atTime at_).forceBits_frame k data fun _ => lt_of_mem_forceRange
  refine ⟨_, (exec_pwmcForce hk hnow init data at_).trans (congrArg _ hwrite), htrip, State.accepted_respond .., hgens, ?_⟩
  rw [hfields]
  rfl

theorem pwmcForce_refused (hen : s.en PWMC.base = false) :
    ∃ t, exec (.pwmcForce init k data at_) s = .next t ∧ Refused init (PWMC.base + 0x50 + 4 * k) .refused t ∧ t.pwm = s.pwm := by
  have hwrite := pwmcForceWrite_disabled (s := s.atTime at_) hver init k data hen
  exact ⟨_, (exec_pwmcForce hk hnow init data at_).trans (congrArg _ hwrite), State.refused_errorResp .., State.errorResp_pwm ..⟩

end

/-- Settles O19, clause by clause: the filtered input, RAW_ACT, FORCE of the generator and of PWMC, CLR, and the trip configuration. -/
theorem tripsTurnOutputsOffUntilCleared : Obligations.TripsTurnOutputsOffUntilCleared := by
  unfold Obligations.TripsTurnOutputsOffUntilCleared
  intro s init n at_ hn hlen
  exact ⟨fun m => tripInputActive_trips hn m at_ hlen, fun m => tripInputInactive_clears hn m at_,
    fun m => tripInput_stands hn m at_, s.regAccess_TRIPSTAT init at_ hn, fun m => exec_tripInput_stopped m at_,
    fun data hnow => tripForce_trips hn hnow init data at_ hlen,
    fun k data hk hnow hver hen hreg => pwmcForce_trips hk hnow hver init data at_ hn hlen hen hreg,
    fun k data hk hnow hver => pwmcForce_refused hk hnow hver init data at_,
    fun data hnow hforce hlatch => tripClear_clears hn hnow init data at_ hforce hlatch hlen,
    fun data hnow hforce hlatch => tripClear_loses hn hnow init data at_ hforce hlatch,
    fun data hnow hforce hlatch => tripClear_refused hn hnow init data at_ hforce hlatch,
    fun data m hnow => tripCfgWrite_taken hn hnow init data m at_,
    fun data m hnow => tripCfgWrite_refused hn hnow init data m at_⟩

end Sys2Proof.Machine
end

section
/-!
The statement about the gate unit's faults that fails: what an escalation (R233) does beside the half-bridge whose two commands are
high (R225).
-/
namespace Sys2Proof.Machine

/-- At `shootEscalates` generator 5 commands GB alone, each output on its own account (R202), and CMP_ON is still to come. -/
theorem shootEscalates_commandsB : tb (shootEscalates.pwmCfg 5) 0 = true ∧ shootEscalates.pwmForced 5 = false ∧
    (shootEscalates.gen 5).w = false ∧ (shootEscalates.gen 5).outA = false ∧ (shootEscalates.gen 5).outB = true ∧
    (shootEscalates.gen 5).firedOff = false ∧ shootEscalates.live 5 1 ≠ shootEscalates.live 5 0 ∧
    shootEscalates.now ≤ (shootEscalates.gen 5).t0 + shootEscalates.live 5 0 := by decide +kernel

/-- Its group stands in direct mode, in which GA has not been commanded with GB yet. -/
theorem shootEscalates_direct : shootEscalates.pulseEnable 5 = false ∧ (shootEscalates.hb 5).shoot = false := by decide +kernel

/-- Refutes O20: where CMP_ON raises A beside a high B in direct mode, SHOOT_ACT takes a fault on the half-bridge (R225), and with
escalation on that locks the other half-bridges of its group out (R233), which the statement's frame lets stand. -/
theorem not_gateUnitTakesFaultsAndRetries : ¬ Obligations.GateUnitTakesFaultsAndRetries := by
  unfold Obligations.GateUnitTakesFaultsAndRetries
  intro h
  obtain ⟨-, -, -, -, -, -, -, -, -, hmatch, -⟩ := h shootEscalates 5 0 (by decide) (by decide)
  obtain ⟨hdom, hrun, hhold, hfired, hper⟩ := shootEscalates_reaches
  obtain ⟨hmode, hforced, hw, hA, hB, hoff, hne, hahead⟩ := shootEscalates_commandsB
  obtain ⟨hdirect, hshoot⟩ := shootEscalates_direct
  obtain ⟨t, ht, -, -, -, -, -, -, -, -, hframe, -⟩ :=
    hmatch hdom hrun (by decide) hhold hmode hforced hw hA hB hfired hoff hne hper hahead hdirect hshoot
  obtain ⟨u, hu, hesc⟩ := compareMatch_escalates
  exact absurd_of_escalated ht hu hesc hb4_shootEscalates.1 hframe

end Sys2Proof.Machine
end

section
/-!
The auxiliary drivers (R84, R240-R243): what decides HO and LO of a phase, the phases' bits, and the events that change them.
-/
namespace Sys2Proof.Machine

/-! ### Balls taken at an enable (R48) -/

theorem State.takesBalls_eq (s : State) (b : Nat) (data : Word) :
    ∃ taken, s.takesBalls b data = { s with balls := { s.balls with taken := taken } } := by
  unfold State.takesBalls State.takeBalls
  split
  · split
    · exact ⟨_, rfl⟩
    · exact ⟨_, rfl⟩
  · exact ⟨_, rfl⟩

/-! ### Bits of the three phases -/

/-- Taking phase `n` out of a set of phases leaves the others in it. -/
theorem testBit_withoutPhase (x : Nat) {n m : Nat} (hn : n < 3) (hm : m < 3) :
    (x &&& (7 - 2 ^ n)).testBit m = (x.testBit m && decide (m ≠ n)) := by
  have hmask : ∀ n < 3, ∀ m < 3, (7 - 2 ^ n).testBit m = decide (m ≠ n) := by decide
  rw [Nat.testBit_and, hmask n hn m hm]

theorem testBit_withoutPhase_self (x : Nat) {n : Nat} (hn : n < 3) : (x &&& (7 - 2 ^ n)).testBit n = false := by
  simp [testBit_withoutPhase x hn hn]

theorem testBit_withoutPhase_ne (x : Nat) {n m : Nat} (hn : n < 3) (hm : m < 3) (hne : m ≠ n) :
    (x &&& (7 - 2 ^ n)).testBit m = x.testBit m := by
  simp [testBit_withoutPhase x hn hm, hne]

/-- The set of three phases with the given members. -/
theorem testBit_phases (f : Nat → Bool) {n : Nat} (hn : n < 3) :
    (b2n (f 0) + 2 * b2n (f 1) + 4 * b2n (f 2)).testBit n = f n := by
  have hbits : ∀ (a b c : Bool), ∀ n < 3, (b2n a + 2 * b2n b + 4 * b2n c).testBit n = nth false [a, b, c] n := by decide
  have hlist : ∀ n < 3, nth false [f 0, f 1, f 2] n = f n := fun
    | 0, _ => rfl
    | 1, _ => rfl
    | 2, _ => rfl
  rw [hbits _ _ _ n hn, hlist n hn]

theorem nth_phases (f : Nat → Nat) {n : Nat} (hn : n < 3) : nth 0 [f 0, f 1, f 2] n = f n :=
  match n, hn with
  | 0, _ => rfl
  | 1, _ => rfl
  | 2, _ => rfl

/-! ### HO and LO of a phase (R84, R240-R243) -/

/-- Out of its range VDRV lets no output drive (R84). -/
theorem auxDrive_vdrv {s : State} (n : Nat) (en inp : Bool) (h : s.bit RSUP.SUPSTAT 2 = false ∨ s.bit AXSTAT 30 = true) :
    auxDrive s n en inp = (false, false) := by
  unfold auxDrive
  refine if_pos ?_
  obtain h | h := h
  · simp [h]
  · simp [h]

/-- A bootstrap undervoltage, a latched overcurrent and one that holds until the next period keep HO low (R243). -/
theorem auxDrive_high_off {s : State} {n : Nat} (en inp : Bool)
    (h : s.bit AXSTAT (27 + n) = true ∨ s.bit AXSTAT 31 = true ∨ s.aux.ocHold = true) : (auxDrive s n en inp).1 = false := by
  have hoff : (!s.bit AXSTAT (27 + n) && !s.bit AXSTAT 31 && !s.aux.ocHold) = false := by
    obtain h | h | h := h
    all_goals simp [h]
  fun_cases auxDrive s n en inp
  case case4 => exact hoff
  all_goals rfl

/-! ### Enable, precharge, periods and duties (R241) -/

theorem auxEnable_precharges {s : State} (init : Nat) (hnow : s.mustWait .ps AUX.base = false) (hen : s.en AUX.base = false) :
    ∃ t, exec (.auxEnable init) s = .next t ∧ t.en AUX.base = true ∧
    t.aux = { s.aux with pre := 7, before := 0, ocHold := false } ∧ Accepted init (AUX.base + 0x0C) t ∧
    RegsBut (fun a => a = AUX.base + 0x0C) s t ∧
    t = { s with regs := t.regs, aux := t.aux, balls := { s.balls with taken := t.balls.taken }, bus := { s.bus with resp := t.bus.resp } } := by
  have hwrite : auxCtrlWrite init 1 s = ((s.setBit (AUX.base + 0x0C) 0 true).updAux
      (fun x => { x with pre := 7, before := 0, ocHold := false })).respond init (AUX.base + 0x0C) 0 := by
    rw [auxCtrlWrite, hen]
    rfl
  have hexec : exec (.auxEnable init) s = .next ((auxCtrlWrite init 1 s).takesBalls AUX.base 1) :=
    congrArg Host.Outcome.next (State.writeAt_now hnow ..)
  obtain ⟨taken, htaken⟩ := (auxCtrlWrite init 1 s).takesBalls_eq AUX.base 1
  have henabled := (s.bit_setBit_self (AUX.base + 0x0C) (i := 0) (by decide) true 0).trans (if_pos rfl)
  rw [htaken, hwrite] at hexec
  exact ⟨_, hexec, henabled, rfl, rfl, (RegsBut.refl (fun a => a = AUX.base + 0x0C) s).setBit rfl 0 true, rfl⟩

theorem auxPrechargeEnd_frees (s : State) {n : Nat} (hn : n < 3) : ∃ t, exec (.auxPrechargeEnd n) s = .next t ∧
    t.aux.pre.testBit n = false ∧ (∀ m, m < 3 → m ≠ n → t.aux.pre.testBit m = s.aux.pre.testBit m) ∧
    t = { s with aux := { s.aux with pre := t.aux.pre } } :=
  ⟨_, congrArg Host.Outcome.next (if_pos hn), testBit_withoutPhase_self _ hn, fun _ hm hne => testBit_withoutPhase_ne _ hn hm hne, rfl⟩

/-- The duty that phase `n` takes at a period start. -/
def auxDutyTaken (s : State) (n : Nat) : Nat := min (s.fld (ADUTY n) 15 0) (auxPeriod s)

theorem auxPeriodStart_takesDuties {s : State} (hen : s.en AUX.base = true) : ∃ t, exec .auxPeriodStart s = .next t ∧
    t.aux.per = max (s.fld APER 15 0) 480 ∧
    (∀ n, n < 3 → nth 0 t.aux.duty n = min (s.fld (ADUTY n) 15 0) t.aux.per ∧
      t.aux.before.testBit n = decide (0 < nth 0 t.aux.duty n)) ∧ t.aux.ocHold = false ∧ t = { s with aux := t.aux } := by
  refine ⟨_, congrArg Host.Outcome.next (if_pos hen), rfl, fun n hn => ?_, rfl, rfl⟩
  have hduty := nth_phases (auxDutyTaken s) hn
  refine ⟨hduty, ?_⟩
  exact (testBit_phases (fun k => decide (0 < auxDutyTaken s k)) hn).trans (congrArg (fun d => decide (0 < d)) hduty.symm)

theorem auxDutyMatch_ends {s : State} {n : Nat} (hn : n < 3) (hduty : nth 0 s.aux.duty n < s.aux.per) :
    ∃ t, exec (.auxDutyMatch n) s = .next t ∧ t.aux.before.testBit n = false ∧
    (∀ m, m < 3 → m ≠ n → t.aux.before.testBit m = s.aux.before.testBit m) ∧
    t = { s with aux := { s.aux with before := t.aux.before } } :=
  ⟨_, congrArg Host.Outcome.next (if_pos ⟨hn, hduty⟩), testBit_withoutPhase_self _ hn,
    fun _ hm hne => testBit_withoutPhase_ne _ hn hm hne, rfl⟩

/-! ### Hall codes (R242) -/

/-- AXSTAT and the drivers' flags. -/
def auxEventReg (a : Nat) : Prop := a = AXSTAT ∨ a = AUX.base + 0x14

/-- HALL_ERR's flag may go up before HALL_ERR follows the code. -/
theorem hallRefresh_eq (s : State) : ∃ raised : Bool, hallRefresh s = (if raised then s.irq AUX.base 3 else s).setBit AXSTAT 26
    (decide (s.fld AXCFG 25 24 = 2) && (hallPhases (s.fld AXSTAT 18 16)).isNone) := ⟨_, rfl⟩

theorem hallCodeChange_shows (s : State) {h : Nat} (hh : h < 8) : ∃ t, exec (.hallCodeChange h) s = .next t ∧
    t.fld AXSTAT 18 16 = h ∧ t.bit AXSTAT 26 = (decide (s.fld AXCFG 25 24 = 2) && (hallPhases h).isNone) ∧
    RegsBut (fun a => a = AXSTAT ∨ a = AUX.base + 0x14) s t ∧ t = { s with regs := t.regs } := by
  have hcode : (s.setFld AXSTAT 18 16 h).fld AXSTAT 18 16 = h :=
    (State.fld_setFld_self _ _ (by decide) _ _).trans (Nat.mod_eq_of_lt hh)
  have hmode : (s.setFld AXSTAT 18 16 h).fld AXCFG 25 24 = s.fld AXCFG 25 24 :=
    State.fld_setFld_disjoint _ _ (by decide) (by decide) _ _
  have htaken := (State.WritesOnly.refl auxEventReg s).setFld (.inl rfl) 18 16 h
  obtain ⟨raised, hrefresh⟩ := hallRefresh_eq (s.setFld AXSTAT 18 16 h)
  rw [hcode, hmode] at hrefresh
  have hflag := (htaken.irq (base := AUX.base) (.inr rfl) 3).ite htaken (raised = true)
  have hshown : (if raised = true then (s.setFld AXSTAT 18 16 h).irq AUX.base 3 else s.setFld AXSTAT 18 16 h).fld AXSTAT 18 16 = h := by
    split
    · exact (State.fld_setFld_disjoint _ _ (by decide) (by decide) _ _).trans hcode
    · exact hcode
  have hlast := hflag.setBit (.inl rfl) 26 (decide (s.fld AXCFG 25 24 = 2) && (hallPhases h).isNone)
  refine ⟨_, congrArg Host.Outcome.next hrefresh, ?_, (State.bit_setBit_self _ _ (by decide) _ _).trans (if_pos rfl), hlast.regs, ?_⟩
  · exact (State.fld_setFld_disjoint _ _ (by decide) (by decide) _ _).trans hshown
  · obtain ⟨_, heq⟩ := hlast.fields
    rw [heq]

/-! ### Protection (R243) -/

theorem bootstrapUv_holdsHigh {s : State} {n : Nat} (hn : n < 3) (hgood : s.bit AXSTAT (27 + n) = false) :
    ∃ t, exec (.bootstrapUv n) s = .next t ∧ t.bit AXSTAT (27 + n) = true ∧
    t.bit (AUX.base + 0x14) 2 = true ∧ (∀ en inp, (auxDrive t n en inp).1 = false) ∧
    RegsBut (fun a => a = AXSTAT ∨ a = AUX.base + 0x14) s t ∧ t = { s with regs := t.regs } := by
  have hshown : ((s.setBit AXSTAT (27 + n) true).irq AUX.base 2).bit AXSTAT (27 + n) = true := by
    rw [State.irq, State.bit_setBit_ne _ (by decide), State.bit_setBit_self _ _ (by omega), if_pos rfl]
  exact ⟨_, congrArg Host.Outcome.next (if_pos ⟨hn, by rw [hgood]; rfl⟩), hshown,
    (State.bit_setBit_self _ _ (by decide) _ _).trans (if_pos rfl), fun en inp => auxDrive_high_off en inp (.inl hshown),
    ((RegsBut.refl auxEventReg s).setBit (.inl rfl) (27 + n) true).irq (.inr rfl) 2, rfl⟩

theorem bootstrapRecover_clears (s : State) {n : Nat} (hn : n < 3) : ∃ t, exec (.bootstrapRecover n) s = .next t ∧
    t.bit AXSTAT (27 + n) = false ∧ RegsBut (fun a => a = AXSTAT) s t ∧ t = { s with regs := t.regs } :=
  ⟨_, congrArg Host.Outcome.next (if_pos hn), (State.bit_setBit_self _ _ (by omega) _ _).trans (if_pos rfl),
    (RegsBut.refl (fun a => a = AXSTAT) s).setBit rfl (27 + n) false, rfl⟩

/-- The flag of an overcurrent, and AX_CS above its threshold. -/
def State.auxOverShown (s : State) : State := (s.irq AUX.base 0).updAux (fun x => { x with above := true })

theorem auxOvercurrent_turnsHighOff {s : State} (hen : s.en AUX.base = true) (hoc : s.bit OCCFG 31 = true) :
    ∃ t, exec .auxOvercurrent s = .next t ∧ t.aux.above = true ∧
    t.bit (AUX.base + 0x14) 0 = true ∧ t.bit AXSTAT 31 = (s.bit AXSTAT 31 || tb (s.shown OCCFG) 30) ∧
    (∀ n en inp, n < 3 → (auxDrive t n en inp).1 = false) ∧ RegsBut (fun a => a = AXSTAT ∨ a = AUX.base + 0x14) s t ∧
    t = { s with regs := t.regs, aux := { s.aux with above := true, ocHold := t.aux.ocHold } } := by
  have hexec : exec .auxOvercurrent s = .next (if tb (s.shown OCCFG) 30 then s.auxOverShown.setBit AXSTAT 31 true
      else s.auxOverShown.updAux (fun x => { x with ocHold := true })) := congrArg Host.Outcome.next (if_pos ⟨hen, hoc⟩)
  have hflag : s.auxOverShown.bit (AUX.base + 0x14) 0 = true := (State.bit_setBit_self s _ (by decide) _ _).trans (if_pos rfl)
  have hregs : RegsBut auxEventReg s s.auxOverShown := (RegsBut.refl auxEventReg s).irq (base := AUX.base) (.inr rfl) 0
  cases hlatch : tb (s.shown OCCFG) 30 with
  | true =>
    have hlatched : (s.auxOverShown.setBit AXSTAT 31 true).bit AXSTAT 31 = true :=
      (State.bit_setBit_self _ _ (by decide) _ _).trans (if_pos rfl)
    rw [hlatch, if_pos rfl] at hexec
    exact ⟨_, hexec, rfl, (State.bit_setBit_ne _ (by decide) _ _ _).trans hflag, hlatched.trans (Bool.or_true _).symm,
      fun _ en inp _ => auxDrive_high_off en inp (.inr (.inl hlatched)), hregs.setBit (.inl rfl) 31 true, rfl⟩
  | false =>
    have hstands : s.auxOverShown.bit AXSTAT 31 = s.bit AXSTAT 31 := State.bit_setBit_ne s (by decide) _ _ _
    rw [hlatch, if_neg Bool.false_ne_true] at hexec
    exact ⟨_, hexec, rfl, hflag, hstands.trans (Bool.or_false _).symm,
      fun _ en inp _ => auxDrive_high_off en inp (.inr (.inr rfl)), hregs, rfl⟩

section
variable {s : State} (init : Nat) (hnow : s.mustWait .ps AUX.base = false)
include hnow

theorem exec_auxOcClear (above : Bool) : exec (.auxOcClear init above) s =
    .next (axclrWrite init 1 (s.updAux (fun x => { x with above := above }))) :=
  congrArg Host.Outcome.next (State.writeAt_now hnow ..)

theorem auxOcClear_clears : ∃ t, exec (.auxOcClear init false) s = .next t ∧ t.bit AXSTAT 31 = false ∧
    t.aux.above = false ∧ Accepted init AXCLR t ∧ RegsBut (fun a => a = AXSTAT) s t ∧
    t = { s with regs := t.regs, aux := { s.aux with above := false }, bus := { s.bus with resp := t.bus.resp } } :=
  ⟨_, exec_auxOcClear init hnow false, (s.bit_setBit_self AXSTAT (i := 31) (by decide) false 31).trans (if_pos rfl), rfl, rfl,
    (RegsBut.refl (fun a => a = AXSTAT) s).setBit rfl 31 false, rfl⟩

theorem auxOcClear_refused : ∃ t, exec (.auxOcClear init true) s = .next t ∧ Refused init AXCLR .refused t ∧
    t.bit AXSTAT 31 = s.bit AXSTAT 31 := by
  have hframe := (State.ErrorFrame.refl (s.updAux (fun x => { x with above := true }))).errorResp init AXCLR .refused true 0
  exact ⟨_, exec_auxOcClear init hnow true, State.refused_errorResp .., State.bit_congr (hframe.regs AXSTAT (by decide)) 31⟩

end

/-- Settles O22, clause by clause: the enable and its precharge, the period and its duties, the Hall code, and the protections. -/
theorem auxiliaryDriversFollowTheirEvents : Obligations.AuxiliaryDriversFollowTheirEvents := by
  unfold Obligations.AuxiliaryDriversFollowTheirEvents
  intro s
  exact ⟨fun init hnow hen => auxEnable_precharges init hnow hen, fun n en inp hvdrv => auxDrive_vdrv n en inp hvdrv,
    fun n hn => auxPrechargeEnd_frees s hn, fun hen => auxPeriodStart_takesDuties hen, fun n hn hduty => auxDutyMatch_ends hn hduty,
    fun h hh => hallCodeChange_shows s hh, fun n hn hgood => bootstrapUv_holdsHigh hn hgood, fun n hn => bootstrapRecover_clears s hn,
    fun hen hoc => auxOvercurrent_turnsHighOff hen hoc, fun init hnow => auxOcClear_clears init hnow,
    fun init hnow => auxOcClear_refused init hnow⟩

end Sys2Proof.Machine
end

section
/-!
One group of the gate unit (R222-R236): balls that an off cause holds low, what an operation on the group may change, and the steps of
its shutdown.
-/
namespace Sys2Proof.Machine

/-! ### Half-bridges -/

/-- Ball GA of a half-bridge, or GB where `b`. -/
def GateHb.ball (h : GateHb) (b : Bool) : Bool := if b then h.ballB else h.ballA

theorem ballsLow_of_ball {n : Nat} {t : State} (h : ∀ b, (t.hb n).ball b = false) : BallsLow n t := ⟨h false, h true⟩

/-- A ball that an off cause holds goes low, and stays so (R226). -/
theorem GateHb.next_ball_off (h : GateHb) {ok : Bool → Bool} (pe a b : Bool) (ilk blank now : Nat) {c : Bool} (hoff : ok c = false) :
    (h.next (ok false) (ok true) pe a b ilk blank now).ball c = false := by
  cases c
  all_goals simp [GateHb.next, GateHb.ball, hoff]

theorem State.hb_updHb_ne (s : State) {n m : Nat} (h : m ≠ n) (f : GateHb → GateHb) : (s.updHb n f).hb m = s.hb m :=
  nth_upd_ne _ _ h f

theorem State.hb_updHb_self {s : State} {n : Nat} (hlen : n < s.gate.length) (f : GateHb → GateHb) :
    (s.updHb n f).hb n = f (s.hb n) := nth_upd_self _ _ hlen f

/-- What `f` makes true of every half-bridge, and no half-bridge lacks at reset, is true of the one it changes. -/
theorem State.hb_updHb_prop (s : State) (n : Nat) {f : GateHb → GateHb} {P : GateHb → Prop} (hf : ∀ h, P (f h)) (hreset : P {}) :
    P ((s.updHb n f).hb n) := by
  by_cases hlen : n < s.gate.length
  · rw [State.hb_updHb_self hlen]
    exact hf _
  · have hbeyond : (s.updHb n f).hb n = {} := List.getD_eq_default _ _ (by simpa [State.updHb] using hlen)
    rwa [hbeyond]

/-- What `f` keeps of a half-bridge stands at every half-bridge. -/
theorem State.hb_updHb_kept {α : Type} (s : State) (n : Nat) {f : GateHb → GateHb} (φ : GateHb → α) (hf : ∀ h, φ (f h) = φ h) (m : Nat) :
    φ ((s.updHb n f).hb m) = φ (s.hb m) := by
  change φ (nth {} (upd s.gate n f) m) = _
  rw [nth_upd]
  split
  · exact hf _
  · rfl

/-! ### Off causes (R226) -/

section
variable {s : State} {n : Nat} (b : Bool)

theorem State.gateOk_of_veto (h : s.rst.veto = true) : s.gateOk n b = false := by simp [State.gateOk, h]

theorem State.gateOk_of_groupOff (h : s.bit (GATE.STAT (n / 4)) 8 = false) : s.gateOk n b = false := by simp [State.gateOk, h]

theorem State.gateOk_of_disabled (h : s.hbState n = 0) : s.gateOk n b = false := by simp [State.gateOk, h]

/-- Phase 1 of a shutdown holds every GA. -/
theorem State.gateOk_of_shutdown (h : s.bit (GATE.STAT (n / 4)) 9 = true) : s.gateOk n false = false := by simp [State.gateOk, h]

end

/-- The off causes stand while a half-bridge sees its commands. -/
theorem State.gateOk_hbRefresh (s : State) (n m : Nat) (b : Bool) : (s.hbRefresh n).gateOk m b = s.gateOk m b := by
  have hmism : ((s.hbRefresh n).hb m).mism = (s.hb m).mism :=
    s.hb_updHb_kept n GateHb.mism (by exact fun _ => rfl) m
  have hvetoed : ((s.hbRefresh n).hb m).vetoed = (s.hb m).vetoed :=
    s.hb_updHb_kept n GateHb.vetoed (by exact fun _ => rfl) m
  unfold State.gateOk
  rw [hmism, hvetoed]
  rfl

theorem State.ball_hbRefresh_self {s : State} {n : Nat} {b : Bool} (hoff : s.gateOk n b = false) :
    ((s.hbRefresh n).hb n).ball b = false :=
  s.hb_updHb_prop n (P := fun h => h.ball b = false) (fun h => h.next_ball_off (ok := s.gateOk n) _ _ _ _ _ _ hoff)
    (by cases b <;> rfl)

/-- Operations on half-bridges, one after another: what each does at its own half-bridge, where `I` holds throughout, it has done at
every half-bridge of `l`. -/
theorem State.hb_foldl {op : State → Nat → State} {I : State → Prop} {P : GateHb → Prop} {m : Nat} (hkeep : ∀ u n, I u → I (op u n))
    (hself : ∀ u, I u → P ((op u m).hb m)) (hother : ∀ u n, m ≠ n → (op u n).hb m = u.hb m) {l : List Nat} :
    ∀ {s : State}, I s → (m ∈ l ∨ P (s.hb m)) → P ((l.foldl op s).hb m) := by
  induction l with
  | nil => exact fun _ hm => hm.resolve_left List.not_mem_nil
  | cons n l ih =>
    intro s hI hm
    refine ih (hkeep s n hI) ?_
    by_cases hmn : m = n
    · exact .inr (hmn ▸ hself s hI)
    · obtain hm | hP := hm
      · exact .inl (List.mem_of_ne_of_mem hmn hm)
      · exact .inr ((hother s n hmn).symm ▸ hP)

/-- Operations that keep `φ` of every half-bridge. -/
theorem State.hb_foldl_kept {α : Type} {op : State → Nat → State} (φ : GateHb → α) (hop : ∀ u n m, φ ((op u n).hb m) = φ (u.hb m))
    (l : List Nat) (s : State) (m : Nat) : φ ((l.foldl op s).hb m) = φ (s.hb m) :=
  List.foldlRecOn (motive := fun t => φ (t.hb m) = φ (s.hb m)) l op rfl fun u hu n _ => (hop u n m).trans hu

/-- Operations that write no register. -/
theorem State.regs_foldl {op : State → Nat → State} (hop : ∀ u n, (op u n).regs = u.regs) (l : List Nat) (s : State) :
    (l.foldl op s).regs = s.regs :=
  List.foldlRecOn (motive := fun t => t.regs = s.regs) l op rfl fun u hu n _ => (hop u n).trans hu

/-- The half-bridges of group `g`. -/
def groupHbs (g : Nat) : List Nat := [4 * g, 4 * g + 1, 4 * g + 2, 4 * g + 3]

theorem mem_groupHbs {g j : Nat} (hj : j < 4) : 4 * g + j ∈ groupHbs g := by
  simp only [groupHbs, List.mem_cons, List.not_mem_nil, or_false]
  omega

theorem State.ball_groupRefresh {s : State} {g j : Nat} {b : Bool} (hj : j < 4) (hoff : s.gateOk (4 * g + j) b = false) :
    ((s.groupRefresh g).hb (4 * g + j)).ball b = false :=
  State.hb_foldl (op := State.hbRefresh) (I := fun u => u.gateOk (4 * g + j) b = false) (P := fun h => h.ball b = false)
    (fun u n hu => (u.gateOk_hbRefresh n _ b).trans hu) (fun _ hu => State.ball_hbRefresh_self hu)
    (fun u _ hne => u.hb_updHb_ne hne _) (l := groupHbs g) hoff (.inl (mem_groupHbs hj))

/-- The group of its half-bridge `j`. -/
theorem groupOf_add (g : Nat) {j : Nat} (hj : j < 4) : (4 * g + j) / 4 = g := by omega

/-! ### The frame of one group -/

/-- `t` differs from `s` at most in registers of group `g`'s page and in its half-bridges. -/
structure State.GroupOnly (g : Nat) (s t : State) : Prop where
  fields : ∃ regs gate, t = { s with regs := regs, gate := gate }
  regs : RegsBut (inPage (GATE.base g)) s t
  hbs : ∀ m, m / 4 ≠ g → t.hb m = s.hb m
  len : t.gate.length = s.gate.length

namespace State.GroupOnly

theorem refl (g : Nat) (s : State) : s.GroupOnly g s := ⟨⟨_, _, rfl⟩, .refl _ s, fun _ _ => rfl, rfl⟩

section
variable {g : Nat} {s t : State} (h : s.GroupOnly g t)
include h

theorem trans {u : State} (hu : t.GroupOnly g u) : s.GroupOnly g u := by
  refine ⟨?_, h.regs.trans hu.regs, fun m hm => (hu.hbs m hm).trans (h.hbs m hm), hu.len.trans h.len⟩
  obtain ⟨_, _, rfl⟩ := h.fields
  obtain ⟨_, _, rfl⟩ := hu.fields
  exact ⟨_, _, rfl⟩

theorem veto_eq : t.rst.veto = s.rst.veto := by
  obtain ⟨_, _, rfl⟩ := h.fields
  rfl

theorem wr {a : Nat} (ha : inPage (GATE.base g) a) (v : Word) : s.GroupOnly g (t.wr a v) :=
  h.trans ⟨⟨_, _, rfl⟩, (RegsBut.refl _ t).wr ha v, fun _ _ => rfl, rfl⟩

theorem setBit {off : Nat} (hoff : off < 0x1000) (i : Nat) (b : Bool) : s.GroupOnly g (t.setBit (GATE.base g + off) i b) :=
  h.wr (inPage_add _ hoff) _

theorem irq (i : Nat) : s.GroupOnly g (t.irq (GATE.base g) i) := h.setBit (by decide) i true

theorem updHb {n : Nat} (hn : n / 4 = g) (f : GateHb → GateHb) : s.GroupOnly g (t.updHb n f) :=
  h.trans ⟨⟨_, _, rfl⟩, .refl _ t, fun _ hm => t.hb_updHb_ne (by rintro rfl; exact hm hn) f, length_upd ..⟩

theorem hbRefresh {n : Nat} (hn : n / 4 = g) : s.GroupOnly g (t.hbRefresh n) := h.updHb hn _

theorem enableHb {n : Nat} (hn : n / 4 = g) : s.GroupOnly g (t.enableHb n) := (h.updHb hn _).hbRefresh hn

theorem ite {u : State} (hu : s.GroupOnly g u) (c : Prop) [Decidable c] : s.GroupOnly g (if c then t else u) := by
  split
  · exact h
  · exact hu

/-- An operation on each half-bridge of the group. -/
theorem each {op : State → Nat → State} (hop : ∀ (u : State) (n : Nat), n / 4 = g → u.GroupOnly g (op u n)) :
    s.GroupOnly g ((groupHbs g).foldl op t) :=
  List.foldlRecOn (groupHbs g) op h fun u hu n hn => hu.trans (hop u n (by
    simp only [groupHbs, List.mem_cons, List.not_mem_nil, or_false] at hn
    omega))

theorem groupRefresh : s.GroupOnly g (t.groupRefresh g) := h.each fun u _ hn => (refl g u).hbRefresh hn

theorem groupEnable : s.GroupOnly g (t.groupEnable g) :=
  ((h.setBit (off := 0x10) (by decide) 8 true).each (op := State.unveto) fun u _ hn => (refl g u).updHb hn _).each
    (op := State.enableHb) fun u _ hn => (refl g u).enableHb hn

theorem enterRun {n : Nat} (hn : n / 4 = g) : s.GroupOnly g (t.enterRun n) := by
  have hstat : inPage (GATE.base g) (HBSTAT n) := by simp only [inPage, HBSTAT, hn]; omega
  exact ((h.wr hstat _).wr hstat _).updHb hn _

theorem shutPhase3 : s.GroupOnly g (t.shutPhase3 g) := by
  have hend := (h.setBit (off := 0x10) (by decide) 9 false).irq 20
  exact (hend.setBit (off := 0x10) (by decide) 10 false).groupEnable.ite hend _

theorem shutPhase2 : s.GroupOnly g (t.shutPhase2 g) := by
  have hlow := (h.setBit (off := 0x10) (by decide) 8 false).groupRefresh
  exact hlow.shutPhase3.ite hlow _

theorem shutPhase1 : s.GroupOnly g (t.shutPhase1 g) := by
  have hlow := (h.setBit (off := 0x10) (by decide) 9 true).groupRefresh
  exact hlow.shutPhase2.ite hlow _

theorem vetoGroup : s.GroupOnly g (t.vetoGroup g) := by
  have hveto := h.each (op := State.vetoHb) fun u _ hn => (refl g u).updHb hn _
  have hoff := (hveto.setBit (off := 0x0C) (by decide) 0 false).setBit (off := 0x10) (by decide) 10 false
  exact (hoff.shutPhase1.ite hoff _).groupRefresh

end

/-- An event at the group. -/
theorem gateFrame {g at_ : Nat} {s t : State} (h : (s.atTime at_).GroupOnly g t) : GateFrame g at_ s t := by
  refine ⟨h.regs, h.hbs, ?_⟩
  obtain ⟨_, _, rfl⟩ := h.fields
  rfl

/-- A write at its page. -/
theorem gateWriteFrame {g tick : Nat} {s t : State} (h : (s.atTime tick).GroupOnly g t) (init a : Nat) (data : Word) :
    GateWriteFrame g tick s (t.respond init a data) := by
  refine ⟨h.regs, h.hbs, ?_⟩
  obtain ⟨_, _, rfl⟩ := h.fields
  rfl

end State.GroupOnly

/-! ### Enable and shutdown as STAT shows them (R234, R235) -/

section
variable (s : State) (g : Nat)

theorem State.regs_groupRefresh : (s.groupRefresh g).regs = s.regs :=
  State.regs_foldl (op := State.hbRefresh) (fun _ _ => rfl) (groupHbs g) s

theorem State.regs_groupEnable : (s.groupEnable g).regs = (s.setBit (GATE.STAT g) 8 true).regs :=
  (State.regs_foldl (op := State.enableHb) (fun _ _ => rfl) (groupHbs g) _).trans
    (State.regs_foldl (op := State.unveto) (fun _ _ => rfl) (groupHbs g) _)

/-- The end of phase 3, before an enable that was pending. -/
def State.shutEnded : State := (s.setBit (GATE.STAT g) 9 false).irq (GATE.base g) 20

theorem State.stat_shutEnded (i : Nat) : (s.shutEnded g).bit (GATE.STAT g) i = if i = 9 then false else s.bit (GATE.STAT g) i := by
  rw [State.shutEnded, State.irq, State.bit_setBit_ne _ (by simp), State.bit_setBit_self _ _ (by decide)]

variable {s g}

theorem State.shutPhase3_idle (hpend : s.bit (GATE.STAT g) 10 = false) : s.shutPhase3 g = s.shutEnded g :=
  if_neg (by rw [show ((s.setBit (GATE.STAT g) 9 false).irq (GATE.base g) 20).bit (GATE.STAT g) 10 = false from
    ((s.stat_shutEnded g 10).trans hpend)]; decide)

theorem State.shutPhase3_pending (hpend : s.bit (GATE.STAT g) 10 = true) :
    s.shutPhase3 g = ((s.shutEnded g).setBit (GATE.STAT g) 10 false).groupEnable g :=
  if_pos ((s.stat_shutEnded g 10).trans hpend)

end

/-- Phase 2 before its end: every ball low. -/
def State.shutLow (s : State) (g : Nat) : State := (s.setBit (GATE.STAT g) 8 false).groupRefresh g

/-- Phase 1 before its end: every GA low. -/
def State.shutBegun (s : State) (g : Nat) : State := (s.setBit (GATE.STAT g) 9 true).groupRefresh g

theorem State.stat_shutLow (s : State) (g i : Nat) :
    (s.shutLow g).bit (GATE.STAT g) i = if i = 8 then false else s.bit (GATE.STAT g) i :=
  (State.bit_congr (State.rd_congr (State.regs_groupRefresh _ g) _) i).trans (s.bit_setBit_self _ (by decide) _ _)

theorem State.stat_shutBegun (s : State) (g i : Nat) :
    (s.shutBegun g).bit (GATE.STAT g) i = if i = 9 then true else s.bit (GATE.STAT g) i :=
  (State.bit_congr (State.rd_congr (State.regs_groupRefresh _ g) _) i).trans (s.bit_setBit_self _ (by decide) _ _)

/-- Outside STAT both leave the registers alone. -/
theorem State.rd_shutLow (s : State) (g : Nat) {a : Nat} (ha : a ≠ GATE.STAT g) : (s.shutLow g).rd a = s.rd a := by
  rw [State.shutLow, State.rd_congr (State.regs_groupRefresh _ g), State.rd_setBit, if_neg ha]

theorem State.rd_shutBegun (s : State) (g : Nat) {a : Nat} (ha : a ≠ GATE.STAT g) : (s.shutBegun g).rd a = s.rd a := by
  rw [State.shutBegun, State.rd_congr (State.regs_groupRefresh _ g), State.rd_setBit, if_neg ha]

theorem State.ballsLow_shutLow (s : State) {g j : Nat} (hj : j < 4) : BallsLow (4 * g + j) (s.shutLow g) :=
  ballsLow_of_ball fun b => State.ball_groupRefresh hj (State.gateOk_of_groupOff b
    (by rw [groupOf_add g hj, State.bit_setBit_self _ _ (by decide), if_pos rfl]))

theorem State.ballA_shutBegun (s : State) {g j : Nat} (hj : j < 4) : ((s.shutBegun g).hb (4 * g + j)).ballA = false :=
  State.ball_groupRefresh (b := false) hj (State.gateOk_of_shutdown
    (by rw [groupOf_add g hj, State.bit_setBit_self _ _ (by decide), if_pos rfl]))

section
variable {s : State} {g : Nat}

theorem State.shutPhase2_ends (hmin : s.fld (GATE.SDCFG g) 7 0 = 0) (hpend : s.bit (GATE.STAT g) 10 = false) :
    s.shutPhase2 g = (s.shutLow g).shutEnded g := by
  have hcfg : (s.shutLow g).fld (GATE.SDCFG g) 7 0 = 0 := (State.fld_congr (s.rd_shutLow g (by simp)) 7 0).trans hmin
  exact (if_pos hcfg).trans (State.shutPhase3_idle ((s.stat_shutLow g 10).trans hpend))

theorem State.shutPhase2_waits (hmin : s.fld (GATE.SDCFG g) 7 0 ≠ 0) : s.shutPhase2 g = s.shutLow g :=
  if_neg fun hcfg => hmin ((State.fld_congr (s.rd_shutLow g (by simp)) 7 0).symm.trans hcfg)

/-- SDCFG is a register of the group's page. -/
theorem pageBase_SDCFG (hg : g < 12) : pageBase (GATE.SDCFG g) = GATE.base g := by revert g; decide

theorem State.shown_shutBegun (hg : g < 12) : (s.shutBegun g).shown (GATE.SDCFG g) = s.shown (GATE.SDCFG g) :=
  State.shown_congr (s.rd_shutBegun g (by simp)) (s.rd_shutBegun g (by rw [pageBase_SDCFG hg]; simp))

theorem State.shutPhase1_ends (hg : g < 12) (hdelay : bitsOf (s.shown (GATE.SDCFG g)) 31 16 = 0) :
    s.shutPhase1 g = (s.shutBegun g).shutPhase2 g :=
  if_pos ((congrArg (bitsOf · 31 16) (State.shown_shutBegun hg)).trans hdelay)

theorem State.shutPhase1_waits (hg : g < 12) (hdelay : bitsOf (s.shown (GATE.SDCFG g)) 31 16 ≠ 0) :
    s.shutPhase1 g = s.shutBegun g :=
  if_neg fun h => hdelay ((congrArg (bitsOf · 31 16) (State.shown_shutBegun hg)).symm.trans h)

/-- Phase 2 as the group shows it, with no enable pending. -/
theorem State.stat_shutPhase2 (hpend : s.bit (GATE.STAT g) 10 = false) (i : Nat) : (s.shutPhase2 g).bit (GATE.STAT g) i =
    if i = 8 then false else if i = 9 ∧ s.fld (GATE.SDCFG g) 7 0 = 0 then false else s.bit (GATE.STAT g) i := by
  by_cases hmin : s.fld (GATE.SDCFG g) 7 0 = 0
  · rw [State.shutPhase2_ends hmin hpend, State.stat_shutEnded, State.stat_shutLow]
    grind
  · rw [State.shutPhase2_waits hmin, State.stat_shutLow]
    simp [hmin]

theorem State.gate_shutPhase2 (hpend : s.bit (GATE.STAT g) 10 = false) : (s.shutPhase2 g).gate = (s.shutLow g).gate := by
  by_cases hmin : s.fld (GATE.SDCFG g) 7 0 = 0
  · rw [State.shutPhase2_ends hmin hpend]
    rfl
  · rw [State.shutPhase2_waits hmin]

theorem State.ballsLow_shutPhase2 (hpend : s.bit (GATE.STAT g) 10 = false) {j : Nat} (hj : j < 4) :
    BallsLow (4 * g + j) (s.shutPhase2 g) := by
  rw [BallsLow, State.hb, State.gate_shutPhase2 hpend]
  exact s.ballsLow_shutLow hj

/-- Outside STAT and the flag a shutdown without a pending enable leaves the registers alone. -/
theorem State.rd_shutPhase2 (hpend : s.bit (GATE.STAT g) 10 = false) {a : Nat} (ha : a ≠ GATE.STAT g) (hflag : a ≠ GATE.base g + 0x14) :
    (s.shutPhase2 g).rd a = s.rd a := by
  by_cases hmin : s.fld (GATE.SDCFG g) 7 0 = 0
  · rw [State.shutPhase2_ends hmin hpend, State.shutEnded, State.rd_irq, if_neg hflag, State.rd_setBit, if_neg ha, s.rd_shutLow g ha]
  · rw [State.shutPhase2_waits hmin, s.rd_shutLow g ha]

theorem State.stat_shutPhase1_pending (hg : g < 12) (hpend : s.bit (GATE.STAT g) 10 = false) :
    (s.shutPhase1 g).bit (GATE.STAT g) 10 = false := by
  have hbegun : (s.shutBegun g).bit (GATE.STAT g) 10 = false := (s.stat_shutBegun g 10).trans hpend
  by_cases hdelay : bitsOf (s.shown (GATE.SDCFG g)) 31 16 = 0
  · rw [State.shutPhase1_ends hg hdelay, State.stat_shutPhase2 hbegun]
    simpa using hbegun
  · rw [State.shutPhase1_waits hg hdelay, hbegun]

theorem State.rd_shutPhase1 (hg : g < 12) (hpend : s.bit (GATE.STAT g) 10 = false) {a : Nat} (ha : a ≠ GATE.STAT g)
    (hflag : a ≠ GATE.base g + 0x14) : (s.shutPhase1 g).rd a = s.rd a := by
  by_cases hdelay : bitsOf (s.shown (GATE.SDCFG g)) 31 16 = 0
  · rw [State.shutPhase1_ends hg hdelay, State.rd_shutPhase2 ((s.stat_shutBegun g 10).trans hpend) ha hflag, s.rd_shutBegun g ha]
  · rw [State.shutPhase1_waits hg hdelay, s.rd_shutBegun g ha]

/-! ### GATE_VETO's mark on a half-bridge (R32) -/

theorem State.vetoed_hbRefresh (s : State) (n m : Nat) : ((s.hbRefresh n).hb m).vetoed = (s.hb m).vetoed :=
  s.hb_updHb_kept n GateHb.vetoed (by exact fun _ => rfl) m

theorem State.vetoed_groupRefresh (s : State) (g m : Nat) : ((s.groupRefresh g).hb m).vetoed = (s.hb m).vetoed :=
  State.hb_foldl_kept (op := State.hbRefresh) GateHb.vetoed State.vetoed_hbRefresh (groupHbs g) s m

theorem State.vetoed_shutLow (s : State) (g m : Nat) : ((s.shutLow g).hb m).vetoed = (s.hb m).vetoed := by
  rw [State.shutLow, State.vetoed_groupRefresh]
  rfl

theorem State.vetoed_shutBegun (s : State) (g m : Nat) : ((s.shutBegun g).hb m).vetoed = (s.hb m).vetoed := by
  rw [State.shutBegun, State.vetoed_groupRefresh]
  rfl

theorem State.vetoed_shutPhase1 (hg : g < 12) (hpend : s.bit (GATE.STAT g) 10 = false) (m : Nat) :
    ((s.shutPhase1 g).hb m).vetoed = (s.hb m).vetoed := by
  by_cases hdelay : bitsOf (s.shown (GATE.SDCFG g)) 31 16 = 0
  · rw [State.shutPhase1_ends hg hdelay, State.hb, State.gate_shutPhase2 ((s.stat_shutBegun g 10).trans hpend), ← State.hb,
      State.vetoed_shutLow, State.vetoed_shutBegun]
  · rw [State.shutPhase1_waits hg hdelay, State.vetoed_shutBegun]

theorem State.vetoed_enableHb (s : State) (n m : Nat) : ((s.enableHb n).hb m).vetoed = (s.hb m).vetoed := by
  rw [State.enableHb, State.vetoed_hbRefresh]
  exact s.hb_updHb_kept n GateHb.vetoed (by exact fun _ => rfl) m

/-- An enable of the group lets each of its half-bridges switch again. -/
theorem State.vetoed_groupEnable (s : State) (g : Nat) {j : Nat} (hj : j < 4) : ((s.groupEnable g).hb (4 * g + j)).vetoed = false := by
  refine (State.hb_foldl_kept (op := State.enableHb) GateHb.vetoed State.vetoed_enableHb (groupHbs g) _ _).trans ?_
  exact State.hb_foldl (op := State.unveto) (I := fun _ => True) (P := fun h => h.vetoed = false) (fun _ _ => id)
    (fun u _ => u.hb_updHb_prop _ (P := fun h => h.vetoed = false) (fun _ => rfl) rfl) (fun u _ hne => u.hb_updHb_ne hne _)
    (l := groupHbs g) trivial (.inl (mem_groupHbs hj))

end

end Sys2Proof.Machine
end

section
/-!
The enables of half-bridges and groups, the shutdown's phases and GATE_VETO (R31, R32, R232, R234-R236), and O21.
-/
namespace Sys2Proof.Machine

/-! ### HBCTL (R231, R232) -/

theorem HBCTL_ne_HBSTAT (n : Nat) : HBCTL n ≠ HBSTAT n := by simp only [HBCTL, HBSTAT]; omega

/-- What HBSTAT shows leaves HBCTL as it is. -/
theorem State.bit_HBCTL_setFld_HBSTAT (s : State) (n : Nat) {hi : Nat} (hhi : hi < 32) (lo v i : Nat) :
    (s.setFld (HBSTAT n) hi lo v).bit (HBCTL n) i = s.bit (HBCTL n) i :=
  (s.bit_setFld _ hhi ..).trans (if_neg fun h => HBCTL_ne_HBSTAT n h.1)

theorem inPage_HBCTL (n : Nat) : inPage (GATE.base (n / 4)) (HBCTL n) := by simp only [inPage, HBCTL]; omega

theorem inPage_HBSTAT (n : Nat) : inPage (GATE.base (n / 4)) (HBSTAT n) := by simp only [inPage, HBSTAT]; omega

/-- Half-bridge `n` as its enable shows it: EN set, TRY 0, in Run. -/
def State.hbShownOn (s : State) (n : Nat) : State :=
  ((((s.setBit (HBCTL n) 0 true).setFld (HBSTAT n) 21 19 0).setHbState n 1).setFld (HBSTAT n) 23 22 0)

/-- The half-bridge enabled, with its commands seen. -/
def State.hbOn (s : State) (n : Nat) : State := (((s.setBit (HBCTL n) 0 true).setFld (HBSTAT n) 21 19 0).enterRun n).hbRefresh n

theorem State.rd_updHb (s : State) (n : Nat) (f : GateHb → GateHb) (a : Nat) : (s.updHb n f).rd a = s.rd a := rfl

theorem State.rd_hbRefresh (s : State) (n a : Nat) : (s.hbRefresh n).rd a = s.rd a := s.rd_updHb n _ a

theorem State.rd_hbOn (s : State) (n a : Nat) : (s.hbOn n).rd a = (s.hbShownOn n).rd a :=
  (State.rd_hbRefresh ..).trans (State.rd_updHb ..)

theorem BallsLow.respond {n : Nat} {t : State} (h : BallsLow n t) (init a : Nat) (data : Word) : BallsLow n (t.respond init a data) := h

/-- Half-bridge `n` as its disable shows it. -/
def State.hbShownOff (s : State) (n : Nat) : State := ((s.setBit (HBCTL n) 0 false).setHbState n 0).setFld (HBSTAT n) 23 22 0

section
variable {s : State} {n : Nat} (init : Nat)

theorem hbctlWrite_enables (hoff : s.bit (HBCTL n) 0 = false) (hlocked : (s.hb n).locked = false) :
    hbctlWrite init n 1 s = (s.hbOn n).respond init (HBCTL n) 0 := by
  rw [hbctlWrite]
  rw [hoff, hlocked]
  rfl

theorem hbctlWrite_refused (hoff : s.bit (HBCTL n) 0 = false) (hlocked : (s.hb n).locked = true) (hsrc : s.srcActive n = true) :
    hbctlWrite init n 1 s = (s.releaseRefused n).errorResp init (HBCTL n) .refused true := by
  rw [hbctlWrite]
  rw [hoff, hlocked, hsrc]
  rfl

theorem hbctlWrite_disables (hon : s.bit (HBCTL n) 0 = true) :
    hbctlWrite init n 0 s = ((s.hbShownOff n).hbRefresh n).respond init (HBCTL n) 0 := by
  rw [hbctlWrite]
  rw [hon]
  rfl

variable (tick : Nat) (hn : n < 48) (hnow : s.mustWait .pwm (GATE.base (n / 4)) = false)
include hn hnow

theorem exec_hbEnable : exec (.hbEnable init n tick) s = .next (hbctlWrite init n 1 (s.atTime tick)) := by
  change execHbEnable init n tick s = _
  rw [execHbEnable, Nat.mod_eq_of_lt hn, State.writeAt_now hnow]

theorem exec_hbDisable : exec (.hbDisable init n tick) s = .next (hbctlWrite init n 0 (s.atTime tick)) := by
  change execHbDisable init n tick s = _
  rw [execHbDisable, Nat.mod_eq_of_lt hn, State.writeAt_now hnow]

theorem hbEnable_runs (hoff : s.bit (HBCTL n) 0 = false) (hlocked : (s.hb n).locked = false) :
    ∃ t, exec (.hbEnable init n tick) s = .next t ∧ t.bit (HBCTL n) 0 = true ∧ t.hbState n = 1 ∧
    t.fld (HBSTAT n) 21 19 = 0 ∧ Accepted init (HBCTL n) t ∧ GateWriteFrame (n / 4) tick s t := by
  have hexec := (exec_hbEnable init tick hn hnow).trans (congrArg _ (hbctlWrite_enables (s := s.atTime tick) init hoff hlocked))
  have hen : ((s.atTime tick).hbShownOn n).bit (HBCTL n) 0 = true := by
    rw [State.hbShownOn, State.bit_HBCTL_setFld_HBSTAT _ _ (by decide), State.setHbState, State.bit_HBCTL_setFld_HBSTAT _ _ (by decide),
      State.bit_HBCTL_setFld_HBSTAT _ _ (by decide), State.bit_setBit_self _ _ (by decide), if_pos rfl]
  have hrun : ((s.atTime tick).hbShownOn n).fld (HBSTAT n) 30 28 = 1 := by
    rw [State.hbShownOn, State.fld_setFld_disjoint _ _ (by decide) (by decide), State.setHbState, State.fld_setFld_self _ _ (by decide)]
    rfl
  have htry : ((s.atTime tick).hbShownOn n).fld (HBSTAT n) 21 19 = 0 := by
    rw [State.hbShownOn, State.fld_setFld_disjoint _ _ (by decide) (by decide), State.setHbState,
      State.fld_setFld_disjoint _ _ (by decide) (by decide), State.fld_setFld_self _ _ (by decide), Nat.zero_mod]
  have hgroup : (s.atTime tick).GroupOnly (n / 4) ((s.atTime tick).hbOn n) :=
    ((((State.GroupOnly.refl _ (s.atTime tick)).wr (inPage_HBCTL n) _).wr (inPage_HBSTAT n) _).enterRun rfl).hbRefresh rfl
  have hread (a : Nat) : (((s.atTime tick).hbOn n).respond init (HBCTL n) 0).rd a = ((s.atTime tick).hbShownOn n).rd a :=
    (State.rd_respond ..).trans ((s.atTime tick).rd_hbOn n a)
  exact ⟨_, hexec, (State.bit_congr (hread _) 0).trans hen, (State.fld_congr (hread _) 30 28).trans hrun,
    (State.fld_congr (hread _) 21 19).trans htry, State.accepted_respond .., hgroup.gateWriteFrame init _ 0⟩

theorem hbEnable_refused (hoff : s.bit (HBCTL n) 0 = false) (hlocked : (s.hb n).locked = true) (hsrc : s.srcActive n = true) :
    ∃ t, exec (.hbEnable init n tick) s = .next t ∧ t.bit (HBCTL n) 0 = false ∧ t.hbState n = s.hbState n ∧
    t.bit (GATE.STAT (n / 4)) 1 = true ∧ t.bit (GATE.base (n / 4) + 0x14) 18 = true ∧ t.gate = s.gate ∧
    Refused init (HBCTL n) .refused t := by
  have hexec := (exec_hbEnable init tick hn hnow).trans
    (congrArg _ (hbctlWrite_refused (s := s.atTime tick) init hoff hlocked hsrc))
  have hframe := (State.ErrorFrame.refl ((s.atTime tick).releaseRefused n)).errorResp init (HBCTL n) .refused true 0
  have hpage (off : Nat) := hframe.regs (GATE.base (n / 4) + off) (by simp only [GATE.base]; omega)
  have hstands {off : Nat} (h10 : off ≠ 0x10) (h14 : off ≠ 0x14) :
      (((s.atTime tick).releaseRefused n).errorResp init (HBCTL n) .refused true).rd (GATE.base (n / 4) + off) =
        s.rd (GATE.base (n / 4) + off) := by
    rw [hpage, State.releaseRefused, State.rd_irq, if_neg (by omega), State.rd_setBit, if_neg (by simp only [GATE.STAT]; omega), State.rd_atTime]
  have hctl := hstands (off := 0x70 + 4 * (n % 4)) (by omega) (by omega)
  have hstat := hstands (off := 0x80 + 4 * (n % 4)) (by omega) (by omega)
  rw [← Nat.add_assoc] at hctl hstat
  refine ⟨_, hexec, (State.bit_congr hctl 0).trans hoff, State.fld_congr hstat 30 28, ?refusal, ?flag, ?gate,
    State.refused_errorResp ..⟩
  case refusal =>
    rw [State.bit_congr (hpage 0x10), State.releaseRefused, State.irq, State.bit_setBit_ne _ (by omega),
      State.bit_setBit_self _ _ (by decide), if_pos rfl]
  case flag => rw [State.bit_congr (hpage 0x14), State.releaseRefused, State.irq, State.bit_setBit_self _ _ (by decide), if_pos rfl]
  case gate =>
    obtain ⟨_, _, _, _, heq⟩ := hframe.fields
    rw [heq]
    rfl

theorem hbDisable_turnsOff (hon : s.bit (HBCTL n) 0 = true) :
    ∃ t, exec (.hbDisable init n tick) s = .next t ∧ t.bit (HBCTL n) 0 = false ∧ t.hbState n = 0 ∧ BallsLow n t ∧
    Accepted init (HBCTL n) t ∧ GateWriteFrame (n / 4) tick s t := by
  have hexec := (exec_hbDisable init tick hn hnow).trans (congrArg _ (hbctlWrite_disables (s := s.atTime tick) init hon))
  have hen : ((s.atTime tick).hbShownOff n).bit (HBCTL n) 0 = false := by
    rw [State.hbShownOff, State.bit_HBCTL_setFld_HBSTAT _ _ (by decide), State.setHbState, State.bit_HBCTL_setFld_HBSTAT _ _ (by decide),
      State.bit_setBit_self _ _ (by decide), if_pos rfl]
  have hstate : ((s.atTime tick).hbShownOff n).hbState n = 0 := by
    rw [State.hbState, State.hbShownOff, State.fld_setFld_disjoint _ _ (by decide) (by decide), State.setHbState,
      State.fld_setFld_self _ _ (by decide), Nat.zero_mod]
  have hlow : BallsLow n (((s.atTime tick).hbShownOff n).hbRefresh n) :=
    ballsLow_of_ball fun b => State.ball_hbRefresh_self (State.gateOk_of_disabled b hstate)
  have hgroup : (s.atTime tick).GroupOnly (n / 4) (((s.atTime tick).hbShownOff n).hbRefresh n) :=
    ((((State.GroupOnly.refl _ (s.atTime tick)).wr (inPage_HBCTL n) _).wr (inPage_HBSTAT n) _).wr (inPage_HBSTAT n) _).hbRefresh rfl
  have hread (a : Nat) : ((((s.atTime tick).hbShownOff n).hbRefresh n).respond init (HBCTL n) 0).rd a =
      ((s.atTime tick).hbShownOff n).rd a := (State.rd_respond ..).trans (State.rd_hbRefresh ..)
  exact ⟨_, hexec, (State.bit_congr (hread _) 0).trans hen, (State.fld_congr (hread _) 30 28).trans hstate, hlow.respond ..,
    State.accepted_respond .., hgroup.gateWriteFrame init _ 0⟩

end

/-! ### CTRL of a group (R234-R236) -/

section
variable {s : State} {g : Nat} (init : Nat)

/-- An enable of a group that neither drives, nor shuts down, nor waits. -/
theorem State.groupOn_idle (hbusy : s.groupBusy g = false) : s.GroupOnly g (s.groupOn g) ∧ (s.groupOn g).en (GATE.base g) = true ∧
    (s.groupOn g).bit (GATE.STAT g) 8 = true ∧ (s.groupOn g).bit (GATE.STAT g) 9 = false ∧
    ∀ j, j < 4 → ((s.groupOn g).hb (4 * g + j)).vetoed = false := by
  have hstat (i : Nat) : (s.setBit (GATE.base g + 0x0C) 0 true).bit (GATE.STAT g) i = s.bit (GATE.STAT g) i :=
    State.bit_setBit_ne _ (by simp) _ _ _
  simp only [State.groupBusy, Bool.or_eq_false_iff] at hbusy
  obtain ⟨⟨h8, h9⟩, h10⟩ := hbusy
  have hon : s.groupOn g = (s.setBit (GATE.base g + 0x0C) 0 true).groupEnable g := by
    simp only [State.groupOn, hstat, h8, h9, h10]
    rfl
  have hbit (off i : Nat) := State.bit_congr (State.rd_congr
    ((s.setBit (GATE.base g + 0x0C) 0 true).regs_groupEnable g) (GATE.base g + off)) i
  rw [hon]
  refine ⟨((State.GroupOnly.refl g s).setBit (by decide) 0 true).groupEnable, (hbit 0x0C 0).trans ?_, (hbit 0x10 8).trans ?_,
    (hbit 0x10 9).trans ?_, fun j hj => State.vetoed_groupEnable _ g hj⟩
  · rw [State.bit_setBit_ne _ (by simp), State.bit_setBit_self _ _ (by decide), if_pos rfl]
  · rw [State.bit_setBit_self _ _ (by decide), if_pos rfl]
  · rw [State.bit_setBit_self _ _ (by decide), if_neg (by decide), hstat, h9]

/-- A disable of a group that drives: with SD_DELAY the sequence is in its phase 1, and without it past its phase 2. -/
theorem State.groupOff_driving (hg : g < 12) (h8 : s.bit (GATE.STAT g) 8 = true) (h9 : s.bit (GATE.STAT g) 9 = false)
    (h10 : s.bit (GATE.STAT g) 10 = false) : s.GroupOnly g (s.groupOff g) ∧ (s.groupOff g).en (GATE.base g) = false ∧
    (∀ j, j < 4 → ((s.groupOff g).hb (4 * g + j)).ballA = false) ∧
    (bitsOf (s.shown (GATE.SDCFG g)) 31 16 ≠ 0 →
      (s.groupOff g).bit (GATE.STAT g) 8 = true ∧ (s.groupOff g).bit (GATE.STAT g) 9 = true) ∧
    (bitsOf (s.shown (GATE.SDCFG g)) 31 16 = 0 →
      (s.groupOff g).bit (GATE.STAT g) 8 = false ∧ ∀ j, j < 4 → BallsLow (4 * g + j) (s.groupOff g)) := by
  have hoff : s.groupOff g = (s.setBit (GATE.base g + 0x0C) 0 false).shutPhase1 g := by
    have hstat (i : Nat) : (s.setBit (GATE.base g + 0x0C) 0 false).bit (GATE.STAT g) i = s.bit (GATE.STAT g) i :=
      State.bit_setBit_ne _ (by simp) _ _ _
    simp only [State.groupOff, hstat, h8, h9, h10]
    rfl
  have hgroup := ((State.GroupOnly.refl g s).setBit (off := 0x0C) (by decide) 0 false).shutPhase1
  obtain ⟨u, hu⟩ : ∃ u, u = s.setBit (GATE.base g + 0x0C) 0 false := ⟨_, rfl⟩
  have hshown : u.shown (GATE.SDCFG g) = s.shown (GATE.SDCFG g) := by
    rw [hu]
    exact State.shown_congr ((State.rd_setBit ..).trans (if_neg (by simp)))
      ((State.rd_setBit ..).trans (if_neg (by rw [pageBase_SDCFG hg]; simp)))
  have hdisabled : u.en (GATE.base g) = false := by rw [hu, State.en, State.bit_setBit_self _ _ (by decide), if_pos rfl]
  have hstat (i : Nat) : u.bit (GATE.STAT g) i = s.bit (GATE.STAT g) i := by rw [hu, State.bit_setBit_ne _ (by simp)]
  have hpend := (hstat 10).trans h10
  rw [hoff, ← hu, ← hshown]
  rw [← hu] at hgroup
  refine ⟨hgroup, (State.bit_congr (State.rd_shutPhase1 hg hpend (by simp) (by simp)) 0).trans hdisabled, ?_⟩
  by_cases hdelay : bitsOf (u.shown (GATE.SDCFG g)) 31 16 = 0
  · have hbegun := (u.stat_shutBegun g 10).trans hpend
    rw [State.shutPhase1_ends hg hdelay]
    have hlow (j : Nat) (hj : j < 4) := (u.shutBegun g).ballsLow_shutPhase2 hbegun hj
    exact ⟨fun j hj => (hlow j hj).1, fun h => absurd hdelay h, fun _ => ⟨(State.stat_shutPhase2 hbegun 8).trans (if_pos rfl), hlow⟩⟩
  · rw [State.shutPhase1_waits hg hdelay]
    refine ⟨fun j hj => u.ballA_shutBegun hj, fun _ => ⟨?_, ?_⟩, fun h => absurd h hdelay⟩
    · exact (u.stat_shutBegun g 8).trans ((hstat 8).trans h8)
    · exact (u.stat_shutBegun g 9).trans (if_pos rfl)

theorem gateCtrlWrite_enable (hveto : s.rst.veto = false) :
    gateCtrlWrite init g 1 s = (s.groupOn g).respond init (GATE.base g + 0x0C) 0 := by
  rw [gateCtrlWrite, hveto]
  rfl

theorem gateCtrlWrite_vetoed (hveto : s.rst.veto = true) :
    gateCtrlWrite init g 1 s = s.errorResp init (GATE.base g + 0x0C) .refused true := by
  rw [gateCtrlWrite, hveto]
  rfl

theorem gateCtrlWrite_disable : gateCtrlWrite init g 0 s = (s.groupOff g).respond init (GATE.base g + 0x0C) 0 := rfl

/-- The balls that a block takes with a write at the group's page. -/
theorem GateWriteFrame.withTaken {tick : Nat} {t : State} (h : GateWriteFrame g tick s t) (taken : List Nat) :
    GateWriteFrame g tick s { t with balls := { t.balls with taken := taken } } := by
  obtain ⟨hregs, hhbs, heq⟩ := h
  refine ⟨hregs, hhbs, ?_⟩
  conv_lhs => rw [heq]

variable (tick : Nat) (hg : g < 12) (hnow : s.mustWait .pwm (GATE.base g) = false)
include hg hnow

theorem exec_gateGroupEnable : exec (.gateGroupEnable init g tick) s =
    .next ((gateCtrlWrite init g 1 (s.atTime tick)).takesBalls (GATE.base g) 1) := by
  change execGateGroupEnable init g tick s = _
  rw [execGateGroupEnable, Nat.mod_eq_of_lt hg, State.writeAt_now hnow]

theorem exec_gateGroupDisable : exec (.gateGroupDisable init g tick) s =
    .next (((s.atTime tick).groupOff g).respond init (GATE.base g + 0x0C) 0) := by
  change execGateGroupDisable init g tick s = _
  rw [execGateGroupDisable, Nat.mod_eq_of_lt hg, State.writeAt_now hnow, gateCtrlWrite_disable]

theorem gateGroupEnable_drives (hveto : s.rst.veto = false) (hbusy : s.groupBusy g = false) :
    ∃ t, exec (.gateGroupEnable init g tick) s = .next t ∧ t.en (GATE.base g) = true ∧ t.bit (GATE.STAT g) 8 = true ∧
    t.bit (GATE.STAT g) 9 = false ∧ (∀ j, j < 4 → 4 * g + j < s.gate.length → (t.hb (4 * g + j)).vetoed = false) ∧
    Accepted init (GATE.base g + 0x0C) t ∧ GateWriteFrame g tick s t := by
  have hexec := exec_gateGroupEnable init tick hg hnow
  obtain ⟨taken, htaken⟩ := (gateCtrlWrite init g 1 (s.atTime tick)).takesBalls_eq (GATE.base g) 1
  have hon := State.groupOn_idle (s := s.atTime tick) hbusy
  rw [htaken, gateCtrlWrite_enable (s := s.atTime tick) init hveto] at hexec
  generalize (s.atTime tick).groupOn g = u at hexec hon
  obtain ⟨hgroup, hen, h8, h9, hvetoed⟩ := hon
  exact ⟨_, hexec, hen, h8, h9, fun j hj _ => hvetoed j hj, rfl, (hgroup.gateWriteFrame init _ 0).withTaken taken⟩

theorem gateGroupEnable_refused (hveto : s.rst.veto = true) :
    ∃ t, exec (.gateGroupEnable init g tick) s = .next t ∧ t.en (GATE.base g) = s.en (GATE.base g) ∧ t.gate = s.gate ∧
    Refused init (GATE.base g + 0x0C) .refused t := by
  have hexec := exec_gateGroupEnable init tick hg hnow
  obtain ⟨taken, htaken⟩ := (gateCtrlWrite init g 1 (s.atTime tick)).takesBalls_eq (GATE.base g) 1
  rw [htaken, gateCtrlWrite_vetoed (s := s.atTime tick) init hveto] at hexec
  have hframe := (State.ErrorFrame.refl (s.atTime tick)).errorResp init (GATE.base g + 0x0C) .refused true 0
  refine ⟨_, hexec, State.bit_congr (hframe.regs _ (by simp only [GATE.base]; omega)) 0, ?_, State.refused_errorResp ..⟩
  obtain ⟨_, _, _, _, heq⟩ := hframe.fields
  rw [heq]
  rfl

theorem gateGroupDisable_shutsDown (h8 : s.bit (GATE.STAT g) 8 = true) (h9 : s.bit (GATE.STAT g) 9 = false)
    (h10 : s.bit (GATE.STAT g) 10 = false) : ∃ t, exec (.gateGroupDisable init g tick) s = .next t ∧ t.en (GATE.base g) = false ∧
    (∀ j, j < 4 → (t.hb (4 * g + j)).ballA = false) ∧
    (bitsOf (s.shown (GATE.SDCFG g)) 31 16 ≠ 0 → t.bit (GATE.STAT g) 8 = true ∧ t.bit (GATE.STAT g) 9 = true) ∧
    (bitsOf (s.shown (GATE.SDCFG g)) 31 16 = 0 → t.bit (GATE.STAT g) 8 = false ∧ (∀ j, j < 4 → BallsLow (4 * g + j) t)) ∧
    Accepted init (GATE.base g + 0x0C) t ∧ GateWriteFrame g tick s t := by
  have hexec := exec_gateGroupDisable init tick hg hnow
  have hoff := State.groupOff_driving (s := s.atTime tick) hg h8 h9 h10
  generalize (s.atTime tick).groupOff g = u at hexec hoff
  obtain ⟨hgroup, hen, hlow, hbegun, hended⟩ := hoff
  exact ⟨_, hexec, hen, hlow, hbegun, hended, State.accepted_respond .., hgroup.gateWriteFrame init _ 0⟩

end

/-! ### Phases 2 and 3 (R234, R235) -/

section
variable {s : State} {g : Nat}

/-- Phase 3 ends with its flag, and with the enable that was pending. -/
theorem State.shutPhase3_shows (h8 : s.bit (GATE.STAT g) 8 = false) : (s.shutPhase3 g).bit (GATE.STAT g) 9 = false ∧
    (s.shutPhase3 g).bit (GATE.base g + 0x14) 20 = true ∧ (s.shutPhase3 g).bit (GATE.STAT g) 8 = s.bit (GATE.STAT g) 10 ∧
    (s.shutPhase3 g).bit (GATE.STAT g) 10 = false := by
  have hflag : (s.shutEnded g).bit (GATE.base g + 0x14) 20 = true := by
    rw [State.shutEnded, State.irq, State.bit_setBit_self _ _ (by decide), if_pos rfl]
  have hstat := s.stat_shutEnded g
  cases h10 : s.bit (GATE.STAT g) 10 with
  | false =>
    rw [State.shutPhase3_idle h10]
    exact ⟨(hstat 9).trans (if_pos rfl), hflag, (hstat 8).trans h8, (hstat 10).trans h10⟩
  | true =>
    have hread (a i : Nat) := State.bit_congr (State.rd_congr
      (((s.shutEnded g).setBit (GATE.STAT g) 10 false).regs_groupEnable g) a) i
    have hon (i : Nat) : (((s.shutEnded g).setBit (GATE.STAT g) 10 false).groupEnable g).bit (GATE.STAT g) i =
        if i = 8 then true else if i = 10 then false else (s.shutEnded g).bit (GATE.STAT g) i := by
      rw [hread, State.bit_setBit_self _ _ (by decide), State.bit_setBit_self _ _ (by decide)]
    rw [State.shutPhase3_pending h10]
    refine ⟨(hon 9).trans ((hstat 9).trans (if_pos rfl)), (hread _ 20).trans ?_, hon 8, hon 10⟩
    rw [State.bit_setBit_ne _ (by simp), State.bit_setBit_ne _ (by simp)]
    exact hflag

variable (at_ : Nat) (hg : g < 12) (hrun : s.domRun .pwm = true) (h9 : s.bit (GATE.STAT g) 9 = true)
include hg hrun h9

theorem shutdownPhase2_turnsOff (h8 : s.bit (GATE.STAT g) 8 = true) (h10 : s.bit (GATE.STAT g) 10 = false) :
    ∃ t, exec (.shutdownPhase2 g at_) s = .next t ∧ t.bit (GATE.STAT g) 8 = false ∧ (∀ j, j < 4 → BallsLow (4 * g + j) t) ∧
    t.bit (GATE.STAT g) 9 = decide (s.fld (GATE.SDCFG g) 7 0 ≠ 0) ∧ GateFrame g at_ s t := by
  have hexec : exec (.shutdownPhase2 g at_) s = .next ((s.atTime at_).shutPhase2 g) :=
    congrArg Host.Outcome.next ((State.clocked_run hrun _).trans (if_pos ⟨hg, h9, h8⟩))
  have hstat := State.stat_shutPhase2 (s := s.atTime at_) h10
  refine ⟨_, hexec, (hstat 8).trans (if_pos rfl), fun j hj => State.ballsLow_shutPhase2 (s := s.atTime at_) h10 hj, (hstat 9).trans ?_,
    (State.GroupOnly.refl g (s.atTime at_)).shutPhase2.gateFrame⟩
  have h9' : (s.atTime at_).bit (GATE.STAT g) 9 = true := h9
  have hmin : (s.atTime at_).fld (GATE.SDCFG g) 7 0 = s.fld (GATE.SDCFG g) 7 0 := rfl
  rw [h9', hmin]
  by_cases hzero : s.fld (GATE.SDCFG g) 7 0 = 0
  · simp [hzero]
  · simp [hzero]

theorem shutdownPhase3_ends (h8 : s.bit (GATE.STAT g) 8 = false) :
    ∃ t, exec (.shutdownPhase3 g at_) s = .next t ∧ t.bit (GATE.STAT g) 9 = false ∧ t.bit (GATE.base g + 0x14) 20 = true ∧
    t.bit (GATE.STAT g) 8 = s.bit (GATE.STAT g) 10 ∧ t.bit (GATE.STAT g) 10 = false ∧ GateFrame g at_ s t := by
  have hexec : exec (.shutdownPhase3 g at_) s = .next ((s.atTime at_).shutPhase3 g) :=
    congrArg Host.Outcome.next ((State.clocked_run hrun _).trans (if_pos ⟨hg, h9, by rw [h8]; rfl⟩))
  obtain ⟨hbusy, hflag, hon, hpend⟩ := State.shutPhase3_shows (s := s.atTime at_) (g := g) h8
  exact ⟨_, hexec, hbusy, hflag, hon, hpend, (State.GroupOnly.refl g (s.atTime at_)).shutPhase3.gateFrame⟩

end

/-! ### GATE_VETO (R31, R32, R236) -/

/-- Group `g` has seen the veto: disabled, no enable pending, its balls low, and its half-bridges held until an enable. -/
structure State.Vetoed (g : Nat) (t : State) : Prop where
  disabled : t.en (GATE.base g) = false
  idle : t.bit (GATE.STAT g) 10 = false
  low : ∀ j, j < 4 → BallsLow (4 * g + j) t
  held : ∀ j, j < 4 → 4 * g + j < t.gate.length → (t.hb (4 * g + j)).vetoed = true

/-- What another group does leaves that so. -/
theorem State.Vetoed.of_groupOnly {g k : Nat} {s t : State} (h : s.Vetoed g) (hne : g ≠ k) (ht : s.GroupOnly k t) : t.Vetoed g := by
  have hread (off : Nat) (hoff : off < 0x1000) : t.rd (GATE.base g + off) = s.rd (GATE.base g + off) :=
    ht.regs _ (by simp only [inPage, GATE.base]; omega)
  have hhb (j : Nat) (hj : j < 4) : t.hb (4 * g + j) = s.hb (4 * g + j) := ht.hbs _ (by omega)
  refine ⟨(State.bit_congr (hread 0x0C (by decide)) 0).trans h.disabled, (State.bit_congr (hread 0x10 (by decide)) 10).trans h.idle,
    fun j hj => ?_, fun j hj hlen => ?_⟩
  · rw [BallsLow, hhb j hj]
    exact h.low j hj
  · rw [hhb j hj]
    exact h.held j hj (hlen.trans_eq ht.len)

/-- The group disabled, its half-bridges marked, and no shutdown begun yet. -/
def State.vetoMarked (s : State) (g : Nat) : State :=
  (((groupHbs g).foldl State.vetoHb s).setBit (GATE.base g + 0x0C) 0 false).setBit (GATE.STAT g) 10 false

section
variable (s : State) {g : Nat}

theorem State.GroupOnly.vetoMarked (g : Nat) : s.GroupOnly g (s.vetoMarked g) :=
  (((State.GroupOnly.refl g s).each (op := State.vetoHb) fun u _ hn => (State.GroupOnly.refl g u).updHb hn _).setBit (off := 0x0C)
    (by decide) 0 false).setBit (off := 0x10) (by decide) 10 false

theorem State.vetoMarked_held {j : Nat} (hj : j < 4) (hlen : 4 * g + j < s.gate.length) :
    ((s.vetoMarked g).hb (4 * g + j)).vetoed = true :=
  State.hb_foldl (op := State.vetoHb) (I := fun u => 4 * g + j < u.gate.length) (P := fun h => h.vetoed = true)
    (fun _ _ hu => (length_upd ..).symm ▸ hu) (fun u hu => by rw [State.vetoHb, State.hb_updHb_self hu])
    (fun u _ hne => u.hb_updHb_ne hne _) (l := groupHbs g) hlen (.inl (mem_groupHbs hj))

theorem State.vetoMarked_idle : (s.vetoMarked g).bit (GATE.STAT g) 10 = false :=
  (State.bit_setBit_self _ _ (by decide) _ _).trans (if_pos rfl)

theorem State.vetoMarked_disabled : (s.vetoMarked g).en (GATE.base g) = false := by
  rw [State.en, State.vetoMarked, State.bit_setBit_ne _ (by simp), State.bit_setBit_self _ _ (by decide), if_pos rfl]

/-- A group that drives shuts down, and its half-bridges see the veto. -/
theorem State.vetoGroup_eq (g : Nat) : ∃ drives : Bool,
    s.vetoGroup g = (if drives then (s.vetoMarked g).shutPhase1 g else s.vetoMarked g).groupRefresh g := ⟨_, rfl⟩

/-- Balls of a group whose half-bridges are held see the veto. -/
theorem State.Vetoed.of_refresh {t : State} (hveto : t.rst.veto = true) (hdisabled : t.en (GATE.base g) = false)
    (hidle : t.bit (GATE.STAT g) 10 = false)
    (hheld : ∀ j, j < 4 → 4 * g + j < t.gate.length → (t.hb (4 * g + j)).vetoed = true) : (t.groupRefresh g).Vetoed g := by
  have hread (a : Nat) := State.rd_congr (t.regs_groupRefresh g) a
  refine ⟨(State.bit_congr (hread _) 0).trans hdisabled, (State.bit_congr (hread _) 10).trans hidle,
    fun j hj => ballsLow_of_ball fun b => State.ball_groupRefresh hj (State.gateOk_of_veto b hveto), fun j hj hlen => ?_⟩
  rw [State.vetoed_groupRefresh]
  exact hheld j hj (hlen.trans_eq (State.GroupOnly.refl g t).groupRefresh.len)

variable {s}

theorem State.vetoGroup_vetoed (hg : g < 12) (hveto : s.rst.veto = true) : (s.vetoGroup g).Vetoed g := by
  have hmarked := State.GroupOnly.vetoMarked s g
  obtain ⟨drives, heq⟩ := s.vetoGroup_eq g
  rw [heq]
  cases drives with
  | false =>
    rw [if_neg Bool.false_ne_true]
    exact .of_refresh (hmarked.veto_eq.trans hveto) s.vetoMarked_disabled s.vetoMarked_idle
      fun j hj hlen => s.vetoMarked_held hj (hlen.trans_eq hmarked.len)
  | true =>
    rw [if_pos rfl]
    have hshut := hmarked.shutPhase1
    refine .of_refresh (hshut.veto_eq.trans hveto) ?_ (State.stat_shutPhase1_pending hg s.vetoMarked_idle) fun j hj hlen => ?_
    · exact (State.bit_congr (State.rd_shutPhase1 hg s.vetoMarked_idle (by simp) (by simp)) 0).trans s.vetoMarked_disabled
    · exact (State.vetoed_shutPhase1 hg s.vetoMarked_idle _).trans (s.vetoMarked_held hj (hlen.trans_eq hshut.len))

end

/-- Once the groups of `l` have seen the veto, they stay so while the others see it. -/
theorem State.vetoGroups_vetoed {g : Nat} {l : List Nat} (hl : ∀ k ∈ l, k < 12) : ∀ {s : State}, s.rst.veto = true →
    (g ∈ l ∨ s.Vetoed g) → (l.foldl State.vetoGroup s).Vetoed g := by
  induction l with
  | nil => exact fun _ hg => hg.resolve_left List.not_mem_nil
  | cons k l ih =>
    intro s hveto hg
    obtain ⟨hk, hl⟩ := List.forall_mem_cons.1 hl
    have hgroup := (State.GroupOnly.refl k s).vetoGroup
    refine ih hl (hgroup.veto_eq.trans hveto) ?_
    by_cases hgk : g = k
    · subst hgk
      exact .inr (State.vetoGroup_vetoed hk hveto)
    · obtain hg | hg := hg
      · exact .inl (List.mem_of_ne_of_mem hgk hg)
      · exact .inr (hg.of_groupOnly hgk hgroup)

theorem State.vetoGroups_length (l : List Nat) (s : State) : (l.foldl State.vetoGroup s).gate.length = s.gate.length :=
  List.foldlRecOn (motive := fun t => t.gate.length = s.gate.length) l _ rfl
    fun t ht k _ => (State.GroupOnly.refl k t).vetoGroup.len.trans ht

theorem State.assertVeto_vetoed (s : State) {g : Nat} (hg : g < 12) : s.assertVeto.Vetoed g :=
  State.vetoGroups_vetoed (fun _ hk => List.mem_range.1 hk) rfl (.inl (List.mem_range.2 hg))

theorem State.assertVeto_length (s : State) : s.assertVeto.gate.length = s.gate.length := State.vetoGroups_length ..

theorem gateVetoAssert_disables (s : State) (at_ : Nat) : ∃ t, exec (.gateVetoAssert at_) s = .next t ∧
    t.rst = { s.rst with veto := true } ∧ (∀ n, n < 48 → BallsLow n t) ∧
    (∀ g, g < 12 → t.en (GATE.base g) = false ∧ t.bit (GATE.STAT g) 10 = false) ∧
    (∀ n, n < 48 → n < s.gate.length → (t.hb n).vetoed = true) ∧ (∀ n b, n < 48 → n < s.gate.length → t.gateOk n b = false) ∧
    RegsBut gatePage s t ∧ t = { s with regs := t.regs, gate := t.gate, rst := t.rst, now := max s.now at_ } := by
  have hvetoed {n : Nat} (hn : n < 48) : (s.atTime at_).assertVeto.Vetoed (n / 4) := (s.atTime at_).assertVeto_vetoed (by omega)
  have hhb (n : Nat) : 4 * (n / 4) + n % 4 = n := Nat.div_add_mod n 4
  have hlow (n : Nat) (hn : n < 48) : BallsLow n (s.atTime at_).assertVeto := by
    have hball := (hvetoed hn).low (n % 4) (Nat.mod_lt _ (by decide))
    rwa [hhb] at hball
  have hheld (n : Nat) (hn : n < 48) (hlen : n < s.gate.length) : ((s.atTime at_).assertVeto.hb n).vetoed = true := by
    have hmark := (hvetoed hn).held (n % 4) (Nat.mod_lt _ (by decide))
    rw [hhb, State.assertVeto_length] at hmark
    exact hmark hlen
  have hframe := (s.atTime at_).assertVeto_gateOnly
  refine ⟨_, rfl, ?rst, hlow, fun g hg => ?groups, hheld, fun _ b _ _ => State.gateOk_of_veto b (State.assertVeto_veto _),
    hframe.regs, ?frame⟩
  case groups =>
    have hgroup := (s.atTime at_).assertVeto_vetoed hg
    exact ⟨hgroup.disabled, hgroup.idle⟩
  all_goals
    obtain ⟨_, _, heq⟩ := hframe.fields
    rw [heq]
    rfl

/-- Settles O21, clause by clause: the half-bridges' enables, the group's, the phases of its shutdown, and GATE_VETO. -/
theorem halfBridgesAndGroupsEnableAndShutDown : Obligations.HalfBridgesAndGroupsEnableAndShutDown := by
  unfold Obligations.HalfBridgesAndGroupsEnableAndShutDown
  intro s
  exact ⟨fun init n tick hn _ hnow hoff hlocked => hbEnable_runs init tick hn hnow hoff hlocked,
    fun init n tick hn hnow hoff hlocked hsrc => hbEnable_refused init tick hn hnow hoff hlocked hsrc,
    fun init n tick hn hnow hon => hbDisable_turnsOff init tick hn hnow hon,
    fun init g tick hg hnow hveto hbusy => gateGroupEnable_drives init tick hg hnow hveto hbusy,
    fun init g tick hg hnow hveto => gateGroupEnable_refused init tick hg hnow hveto,
    fun init g tick hg hnow h8 h9 h10 => gateGroupDisable_shutsDown init tick hg hnow h8 h9 h10,
    fun g at_ hg hrun h9 h8 h10 => shutdownPhase2_turnsOff at_ hg hrun h9 h8 h10,
    fun g at_ hg hrun h9 h8 => shutdownPhase3_ends at_ hg hrun h9 h8,
    fun at_ => gateVetoAssert_disables s at_⟩

end Sys2Proof.Machine
end
